-- ==== Sys2Proof/Word.lean ====
section
/-! DEFINITION. The 36-bit word of the NF3606 and the byte of a frame (00 R2). -/

namespace Sys2Proof

/-- The 36-bit word in which software sees every item of the device (00 R2). -/
abbrev Word := BitVec 36

/-- One byte of a frame, an image or a bus message. -/
abbrev Byte := BitVec 8

end Sys2Proof
end

