-- ==== Sys2Proof/Syntax.lean ====
section
/-! DEFINITION. The commands of the NF3606: one constructor per row of the command table, and the types of their operands. -/

namespace Sys2Proof

/-- The two fabric dies D1 and D2, and the two Alril cores on them (01 R8). -/
inductive Fab where
  | west | east
deriving DecidableEq, Repr

/-- The access paths of a request (13 R356), and the two requesters that have no path of their own: the firmware
executing an image record (14 R401) and the bridge bringing a relayed request (17 R510). -/
inductive Path where
  | pcieW0 | pcieW1 | pcieE0 | pcieE1 | spi | service | image | relay
deriving DecidableEq, Repr

/-- A mailbox request less its opcode, which the constructor names; LENGTH is the number of words (13 R367). -/
structure Req where
  /-- The path it came on. -/
  path : Path := .spi
  /-- TAG, 8 bits. -/
  tag : Nat := 0
  /-- FLAGS, 8 bits: LOCAL, QUIET and six reserved bits. -/
  flags : Nat := 0
  /-- Payload words 1 onward. -/
  words : List Word := []
deriving DecidableEq, Repr

/-- How a PCIe function reads a word: 8 bytes, or 4 bytes at +0 or +4 (13 R357). -/
inductive RdSize where
  | whole | low | high
deriving DecidableEq, Repr

/-- A register-file write of one pass of a guarded segment (12 R328). -/
structure RegWrite where
  /-- Physical register, 0 to 63. -/
  reg : Nat := 0
  /-- The value written. -/
  val : Word := 0
  /-- Address-tagged. -/
  tagged : Bool := false
deriving DecidableEq, Repr

/-- What an access to a core's SRAM finds: a bit corrected, an uncorrectable error outside guarded data, or one in guarded data
that pass 0 A, 1 B or 2 C read (12 R324). -/
inductive EccErr where
  | corrected | plain | guarded (pass : Nat)
deriving DecidableEq, Repr

/-- A FIFO with duplicated pointers: a path's response FIFO, whose number in its die is n, or FIFO n inside a die (13 R372, 18 R523). -/
inductive FifoRef where
  | path (p : Path) (n : Nat)
  | die (d n : Nat)
deriving DecidableEq, Repr

/-- What an ALLOC asks for: one cell, or a message buffer of a size in words with or without fall-back (03 R59, R60). -/
inductive AllocReq where
  | cell
  | msg (words : Nat) (fall : Bool)
deriving DecidableEq, Repr

/-- What ingress MACsec finds on a frame (09 R252, R253): no SecTAG, a valid one, one that fails validation, a replay, or no
SA for it. -/
inductive SecRx where
  | clear | valid | invalid | late | noSa
deriving DecidableEq, Repr

/-- A CAN frame on the bus (10 R267). -/
structure CanFrame where
  /-- CAN XL. -/
  xl : Bool := false
  /-- FDF. -/
  fdf : Bool := false
  /-- BRS. -/
  brs : Bool := false
  /-- ESI. -/
  esi : Bool := false
  /-- RTR. -/
  rtr : Bool := false
  /-- IDE: a 29-bit identifier. -/
  ide : Bool := false
  /-- Identifier, or the priority identifier of CAN XL. -/
  id : Nat := 0
  /-- SDT, VCID, AF and SEC of CAN XL. -/
  sdt : Nat := 0
  /-- VCID. -/
  vcid : Nat := 0
  /-- AF. -/
  af : Nat := 0
  /-- SEC. -/
  sec : Bool := false
  /-- Payload bytes. -/
  data : List Byte := []
deriving DecidableEq, Repr

/-- How a port received a frame: whole, or as fragments of a preemptable frame (07 R187, R204). -/
inductive MmRx where
  /-- The frame came whole. -/
  | whole
  /-- The frame came in `n` fragments and was reassembled. -/
  | frags (n : Nat)
  /-- `n` fragments came and their reassembly failed. -/
  | broken (n : Nat)
  /-- A fragment came that belongs to no frame in progress. -/
  | smd
deriving DecidableEq, Repr

/-- What the wake matcher sees of a received frame (16 R472, R475). -/
structure WakeIn where
  /-- KIND of R472: 0 CAN, 1 LIN, 2 serial, 3 source MAC, 4 EtherType, 5 TC10 request. -/
  kind : Nat := 0
  /-- Channel or port. -/
  src : Nat := 0
  /-- Identifier with IDE in bit 31, frame ID, ADDRESS or EtherType. -/
  id : Nat := 0
  /-- Source MAC address. -/
  mac : Nat := 0
  /-- First eight payload bytes. -/
  data : List Byte := []
deriving DecidableEq, Repr

/-- The commands of the block, one constructor for each row of the command table: an event that a unit, a line, a
timer or a neighbour brings, or one mailbox command with the request that carries it. -/
inductive Instr where
  /-- A frame's start-of-frame delimiter passes the ingress PCS, the 72-bit ingress timestamp is taken, and ingress staging begins. (R25) -/
  | frameRxStart (port : Nat) (bytes : List Byte) (hdr : List Byte) (phy : Bool) (sec : SecRx) (mm : MmRx) (dt : Nat)
  /-- One 32-byte fabric word of a frame is written to the crosspoint of every output in its descriptor, into the Pocket or into shared cells. (R27) -/
  | fabricWordStore (die : Fab) (fid : Nat)
  /-- The last byte of a frame is stored and its FCS checked; a store-and-forward frame is enqueued or dropped, and late length checks are made. (R30) -/
  | frameEndStored (die : Fab) (fid : Nat) (dt : Nat)
  /-- A free parse engine takes a frame once its 128-byte window, or the whole shorter frame, is in ingress staging. (R74) -/
  | parseEngineTake (die : Fab) (eng : Nat) (port : Nat)
  /-- Parse instruction END completes the parse. (R76) -/
  | parseEnd (die : Fab) (eng : Nat)
  /-- Parse instruction CLASS sets the frame's class. (R76) -/
  | parseClass (die : Fab) (eng : Nat)
  /-- Parse instruction EXTRACT copies bytes at cursor plus OFF into a result field and sets its presence bit. (R76) -/
  | parseExtract (die : Fab) (eng : Nat)
  /-- Parse instruction LOAD loads a value at cursor plus OFF into a scratch register. (R76) -/
  | parseLoad (die : Fab) (eng : Nat)
  /-- Parse instruction AND masks a scratch register with an immediate. (R76) -/
  | parseAnd (die : Fab) (eng : Nat)
  /-- Parse instruction TEST jumps when a register's low 16 bits equal the immediate. (R76) -/
  | parseTest (die : Fab) (eng : Nat)
  /-- Parse instruction TESTNE jumps when a register's low 16 bits differ from the immediate. (R76) -/
  | parseTestne (die : Fab) (eng : Nat)
  /-- Parse instruction JUMP jumps to its target. (R76) -/
  | parseJump (die : Fab) (eng : Nat)
  /-- Parse instruction ADVANCE moves the cursor by a scaled register plus an immediate. (R76) -/
  | parseAdvance (die : Fab) (eng : Nat)
  /-- Parse instruction LENSET derives the frame length and sets LEN_VALID, or marks the frame malformed when it disagrees with an earlier derivation. (R79) -/
  | parseLenset (die : Fab) (eng : Nat)
  /-- Parse instruction FAIL marks the frame malformed with cause 0x4. (R76) -/
  | parseFail (die : Fab) (eng : Nat)
  /-- BUDGET steps execute without END, the engine stops and the frame becomes PARSE_INCOMPLETE. (R75) -/
  | parseBudgetExhausted (die : Fab) (eng : Nat)
  /-- The collector takes a parse result in tag order and the classifier judges the frame and writes its descriptor. (R84) -/
  | collectorTake (die : Fab) (eng : Nat)
  /-- Engine 22 or 23 takes a frame from the second-pass queue and runs the RECIRC program on the second window. (R96) -/
  | recircPassStart (die : Fab) (eng : Nat)
  /-- The learning engine takes a queued request and writes, moves or discards a learned KIND 0 entry on both dies. (R120) -/
  | learnEntryWrite
  /-- FRAG_TIMEOUT passes since a fragment entry's first fragment, the entry is freed and FRAG_TIMEOUTS is counted. (R91) -/
  | fragTimeout (die : Fab) (index : Nat)
  /-- A Seam link starts the highest-priority eligible frame assigned to it, within its limit of 16 frames in flight. (R19) -/
  | seamFrameStart (die : Fab) (link : Nat)
  /-- A Seam link sends the next ready fabric word of a started frame, highest queue first. (R19) -/
  | seamWordSend (die : Fab) (link : Nat)
  /-- The far die receives a fabric word over the Seam and stores it at the crosspoints of FAR_MASK without re-classification. (R33) -/
  | seamWordRx (die : Fab) (link : Nat)
  /-- A Seam handshake has no acknowledgement for 2 µs, the link is declared lost and traffic moves to the surviving link. (R11) -/
  | seamLinkLost (link : Nat) (west : Bool) (east : Bool)
  /-- A Cuff link is lost and the gateway moves all traffic to the surviving link and gateway port. (R12) -/
  | cuffLinkLost (die : Fab)
  /-- An idle output's clocked egress domain selects the head frame of the highest eligible queue and starts sending it. (R172) -/
  | egressSelect (die : Fab) (out : Nat) (lat : Nat) (dt : Nat)
  /-- A frame's last byte leaves egress staging, the output releases its share of the chain and frees its Pocket units. (R56) -/
  | egressFrameEnd (die : Fab) (out : Nat)
  /-- The egress staging of a cut-through frame runs empty and the frame is ended bad with cause 0x7. (R31) -/
  | stagingUnderrun (die : Fab) (out : Nat)
  /-- An express frame becomes eligible while a preemptable frame is sent, which is interrupted at the earliest permitted point. (R188) -/
  | expressPreempt (die : Fab) (out : Nat) (dt : Nat)
  /-- The pool manager decides an ALLOC request, granting the lowest free buffer or returning EMPTY. (R55) -/
  | poolAlloc (die : Fab) (owner : Nat) (req : AllocReq) (contended : Bool)
  /-- The pool manager decides a FREE request and frees the buffer or whole chain, or refuses and logs it. (R55) -/
  | poolFree (die : Fab) (owner : Nat) (pool : Nat) (index : Nat) (contended : Bool)
  /-- The pool manager decides a SHARE request and raises SHARE, or refuses and logs it. (R55) -/
  | poolShare (die : Fab) (owner : Nat) (pool : Nat) (index : Nat) (k : Nat) (contended : Bool)
  /-- The pool manager decides a RELEASE request and returns NOT_LAST or LAST, or refuses and logs it. (R55) -/
  | poolRelease (die : Fab) (owner : Nat) (pool : Nat) (index : Nat) (contended : Bool)
  /-- The pool manager finishes chaining every cell of a powered-up memory domain and the die accepts ingress. (R52) -/
  | freeListBuilt (die : Fab)
  /-- The CPU-port delivery engine places a frame and its descriptor in a message buffer and hands it to firmware. (R61) -/
  | cpuPortDelivery (die : Fab)
  /-- The device takes the next frame from a transmit ring in round robin, passes it to the host port and writes DONE or ERROR. (R379) -/
  | txRingFrame (die : Fab) (length : Nat) (bytes : List Byte) (err : Bool) (dt : Nat)
  /-- A host-port frame is written with its descriptor into a posted receive buffer, and the length and DONE are written. (R380) -/
  | rxRingDelivery (die : Fab) (dt : Nat)
  /-- COAL_US passes after the first uncovered descriptor and the ring's MSI-X vector is sent. (R381) -/
  | ringCoalesceExpiry (p : Path) (rx : Bool) (n : Nat)
  /-- Every 512 ns the credit-based shaper of each queue refills, resets or clamps its credit. (R184) -/
  | cbsRefill (port : Nat)
  /-- The gate timer reaches an entry start, the gates take its pattern and its OP sets or releases hold. (R176) -/
  | gclEntryStart (port : Nat)
  /-- The time-of-day reaches a pending CT, the admin list becomes operational and the copy begins. (R179) -/
  | gclChangeTime (port : Nat)
  /-- The copy of the operational bank into the admin bank completes and the port becomes RUNNING or OFF. (R179) -/
  | gclCopyComplete (port : Nat)
  /-- VERIFY_MS passes and a verify mPacket is sent, or verification becomes FAILED after 3 attempts. (R187) -/
  | mmVerifyTimer (port : Nat)
  /-- A verify or respond mPacket is received, answered or completing verification. (R187) -/
  | mmVerifyRx (port : Nat) (respond : Bool)
  /-- A sampler's PERIOD passes and it records the queue depth in its circle of 32 samples. (R191) -/
  | samplerPeriod (die : Fab) (n : Nat)
  /-- T minus 10 µs passes without every die armed, so no die switches and the activation returns TIMEOUT. (R95) -/
  | activationArmDeadline (armed : Bool)
  /-- The time-of-day reaches an activation time T and the dies switch to the new rule bank, forwarding generation or policy matrix. (R95) -/
  | activationTimeReached
  /-- The last frame of the retiring generation has its descriptor, the bank is overwritten with the live bank and becomes staging. (R94) -/
  | ruleBankRetired
  /-- The forwarding commit sweep rewrites staged groups as live and clears withdrawn groups, then the response follows. (R129) -/
  | fwdSweepEnd
  /-- RESET_MS passes without a passed frame, TAKE_ANY is set, H cleared and RESETS counted. (R125) -/
  | frerResetTimeout (die : Fab) (fn : Nat)
  /-- A link has been up for RESTORE_HOLD and its bit in the link-down vector clears. (R126) -/
  | restoreHoldEnd (port : Nat)
  /-- A front port declares its link down, its queues are flushed, LINK_DOWNS counted and its reroute bit set. (R245) -/
  | linkDownDeclared (port : Nat)
  /-- A training or resuming port reaches PCS and FEC lock and goes UP. (R242) -/
  | pcsLock (port : Nat) (dt : Nat)
  /-- Training goes 120 ms or 100 ms without lock, TRAIN_FAILS is counted and training restarts. (R242) -/
  | trainTimeout (port : Nat)
  /-- A USXGMII port receives an auto-negotiation word and takes its link status and rate from it. (R241) -/
  | usxgmiiAnWord (port : Nat) (up : Bool) (rate : Nat)
  /-- A sleep command from D0 stores coefficients and sends the TC10 sleep request or takes the port to SLEEPING. (R242) -/
  | portSleepCmd (port : Nat)
  /-- A partner's TC10 sleep request is reported to D0 and answered as D0 directs. (R250) -/
  | tc10SleepReqRx (port : Nat)
  /-- The partner acknowledges the sleep request and the port goes to SLEEPING. (R242) -/
  | tc10SleepAckRx (port : Nat)
  /-- 16 ms pass in SLEEP_WAIT and the port goes to SLEEPING. (R242) -/
  | sleepWaitTimeout (port : Nat)
  /-- An in-band TC10 wake-up request is received and reported to D0, ending a port's SLEEP_WAIT. (R250) -/
  | tc10WakeReqRx (port : Nat)
  /-- A sleeping port's wake detector recognises a wake-up pulse or T1S activity and reports it to D0. (R251) -/
  | wakePulseDetected (port : Nat) (dt : Nat)
  /-- A wake command from D0 sends a wake-up pulse and starts resume from retained coefficients or cold training. (R242) -/
  | portWakeCmd (port : Nat) (temp : Nat)
  /-- The resume deadline passes without lock, RESUME_FAILS is counted and the port continues in training. (R244) -/
  | resumeDeadline (port : Nat)
  /-- A cable test ends with its result, the port trains and the maintenance token is released. (R249) -/
  | cableTestDone (port : Nat) (result : Nat) (distance : Nat)
  /-- All queues of an EEE port stay empty for 20 µs and the egress enters low-power idle. (R246) -/
  | lpiIdleTimer (port : Nat)
  /-- A port leaves low-power idle within T_W after a frame is enqueued. (R246) -/
  | lpiWakeComplete (port : Nat) (dt : Nat)
  /-- A PLCA follower sees no beacon for 10 ms, stops sending, counts BEACON_LOSS and returns to TRAINING. (R247) -/
  | beaconLossTimeout (port : Nat)
  /-- A PLCA beacon is received, bringing a follower UP or counting PLCA_CONFLICTS at a coordinator. (R247) -/
  | beaconRx (port : Nat)
  /-- A 10BASE-T1S port reaches its transmit opportunity and sends up to MAX_BURST plus 1 frames. (R247) -/
  | plcaTxOpportunity (port : Nat) (burst : Bool) (collision : Bool) (dt : Nat)
  /-- At the end of every 1 ms a T1 port in UP updates SQI and SQI_MIN. (R249) -/
  | sqiUpdate (port : Nat) (sqi : Nat) (fixed : Nat) (lost : Nat) (temp : Nat)
  /-- The active core installs a new SAK, delivered wrapped to the port's fabric die. (R255) -/
  | mkaSakInstall (port : Nat) (an : Nat)
  /-- A scheduled change of FREQ_ADJ takes effect at its tick on the master and every replica. (R209) -/
  | freqAdjApply
  /-- A scheduled step of the time-of-day takes effect at its tick, moving activations, meters, gate lists and residence records. (R211) -/
  | timeStepApply
  /-- A slew has removed its offset and FREQ_ADJ is restored. (R210) -/
  | slewEnd
  /-- A PPS_IN edge is captured and accepted, aligned or rejected, updating the servo and time state. (R214) -/
  | ppsEdge (dt : Nat)
  /-- No edge is accepted for 1 s plus PPS_WINDOW, PPS_MISSES is counted, PPS_LOST raised and the source lost. (R214) -/
  | ppsMissing
  /-- HOLDOVER_MAX seconds pass in HOLDOVER and the state becomes FREE. (R216) -/
  | holdoverMaxExpiry
  /-- A member processes a Sync on its slave port and uses the corrected result as a source sample. (R226) -/
  | syncRx (port : Nat)
  /-- Three sync intervals pass without a Sync on the slave port, which is lost and replaced by the standby port. (R226) -/
  | syncTimeout
  /-- At each multiple of a master port's sync interval the time engine sends Sync. (R223) -/
  | syncTx (port : Nat) (dt : Nat)
  /-- The time engine sends Follow_Up after a Sync has left. (R223) -/
  | followUpTx (port : Nat) (dt : Nat)
  /-- At each peer delay interval the time engine starts a Pdelay exchange. (R223) -/
  | pdelayReqTx (port : Nat) (dt : Nat)
  /-- A Pdelay message is received and answered or used to measure link delay and rate ratio. (R223) -/
  | pdelayRx (port : Nat)
  /-- The active core sends Announce with clockClass and accuracy from the time state. (R225) -/
  | announceTx (port : Nat) (dt : Nat)
  /-- The time-of-day reaches a whole second and PPS_OUT pulses under its mode. (R220) -/
  | ppsOutPulse
  /-- A CAN controller receives a frame, timestamps it and passes it to the gateway, or drops it on a full buffer. (R266) -/
  | canFrameRx (chan : Nat) (frame : CanFrame) (sof : Nat) (lost : Bool) (dt : Nat)
  /-- A CAN controller wins arbitration for a pending frame and time fields are sampled. (R269) -/
  | canArbWin (chan : Nat) (dt : Nat)
  /-- A CAN frame completes transmission, or meets an error and stays pending. (R269) -/
  | canTxDone (chan : Nat) (ok : Bool) (dt : Nat)
  /-- A pending CAN frame has not won arbitration within TX_LIFETIME and is removed. (R269) -/
  | canTxExpired (chan : Nat)
  /-- A CAN protocol error is counted and may move the controller to error-passive or bus-off. (R270) -/
  | canBusError (chan : Nat) (code : Nat) (tx : Bool) (add : Nat)
  /-- 128 occurrences of 11 recessive bits complete bus-off recovery and the controller rejoins the bus. (R270) -/
  | canBusOffRecovered (chan : Nat) (dt : Nat)
  /-- A LIN commander starts a schedule slot and sends its header, or leaves it silent without data. (R273) -/
  | linSlotStart (chan : Nat)
  /-- A LIN responder receives a header and answers it under its frame table. (R273) -/
  | linHeaderRx (chan : Nat) (id : Nat) (sync : Bool) (dt : Nat)
  /-- A LIN response is received, checked and delivered to the gateway, or reported as go-to-sleep. (R273) -/
  | linResponseRx (chan : Nat) (data : List Byte) (check : Nat) (err : Nat) (dt : Nat)
  /-- A subscribed slot ends without a complete response and NO_RESPONSE is counted. (R273) -/
  | linSlotEnd (chan : Nat)
  /-- On a sleep command a commander sends the go-to-sleep frame at its next slot and stops its schedule. (R274) -/
  | linGoToSleep (chan : Nat)
  /-- On a wake command a commander sends a 1 ms dominant wake pulse. (R274) -/
  | linWakePulse (chan : Nat)
  /-- 100 ms after the wake pulse ends the commander restarts its schedule. (R274) -/
  | linScheduleRestart (chan : Nat)
  /-- A serial engine receives a character and advances its receive state, delivering or discarding a frame. (R279) -/
  | serCharRx (chan : Nat) (value : Nat) (parity : Bool) (stop : Bool) (gap : Nat) (dt : Nat)
  /-- A gap exceeds ICG_MAX or reaches FRAME_GAP during reception, discarding or ending the frame. (R279) -/
  | serGapTimeout (chan : Nat) (reach : Bool) (dt : Nat)
  /-- A message is queued on a serial engine and its idle timer starts. (R280) -/
  | serTxQueue (chan : Nat) (addr : Nat) (payload : List Nat) (prio : Nat)
  /-- The line has been idle for the access wait and DE is asserted. (R280) -/
  | serLineIdle (chan : Nat) (dt : Nat)
  /-- DE_LEAD passes and the first character is sent. (R280) -/
  | serDeLeadEnd (chan : Nat) (dt : Nat)
  /-- A character is sent and its echo checked, continuing, retrying or failing the message. (R280) -/
  | serCharSent (chan : Nat) (echo : Nat) (dt : Nat)
  /-- DE_LAG passes after the last stop bit, DE is released and TX_FRAMES counted. (R280) -/
  | serDeLagEnd (chan : Nat) (dt : Nat)
  /-- TX_LIFETIME passes for a waiting serial message, which is dropped. (R280) -/
  | serTxExpired (chan : Nat)
  /-- A wake ball is held at WAKE_POL for WAKE_FILTER µs and reported to D0. (R285) -/
  | transceiverWake (chan : Nat) (dt : Nat)
  /-- A time-message instant arrives and a time message is requested, or a skip is counted. (R284) -/
  | timeMsgInstant (chan : Nat)
  /-- A received legacy message is matched against the uplink table and joins a bundle or is offered to channels. (R304) -/
  | gwUplinkMatch (chan : Nat)
  /-- MAX_WAIT passes since a bundle's first message and the bundle is closed. (R310) -/
  | bundleMaxWait (bundle : Nat)
  /-- A frame at the gateway output is decoded and its ACF messages are matched against the downlink table. (R302) -/
  | gwFrameDecode
  /-- A periodic slot's instant arrives and its payload is requested for sending, or a skip is counted. (R312) -/
  | periodicSlotInstant (slot : Nat)
  /-- A slot's payload is not written for FRESH_MS, it becomes stale and GW_STALE is raised. (R313) -/
  | periodicStale (slot : Nat)
  /-- Pass C of a guarded segment ends, the vote is taken and the commit step or resynchronisation follows. (R327) -/
  | guardSegmentEnd (core : Fab) (first : Bool) (a : List RegWrite) (b : List RegWrite) (c : List RegWrite) (parity : Bool)
  /-- TRIPWIRE_MS passes and the core runs a self-test segment with an injected difference. (R332) -/
  | tripwireTimer (core : Fab) (first : Nat × Nat × Nat) (again : Nat × Nat × Nat)
  /-- An uncorrectable SRAM error stops the core, or counts as an odd pass in guarded data. (R324) -/
  | sramEccError (core : Fab) (err : EccErr)
  /-- A running core sends its heartbeat to D0 every 100 µs. (R342) -/
  | heartbeatTx (core : Fab)
  /-- 250 µs pass after a core's last heartbeat and the arbiter declares a heartbeat loss. (R342) -/
  | heartbeatLoss (core : Fab)
  /-- A die reports the loss of its core domain to the arbiter. (R342) -/
  | coreDomainLost (core : Fab) (dt : Nat)
  /-- A core reports a CORE or CHECKER fault to the arbiter. (R334) -/
  | coreFaultReport (core : Fab)
  /-- The switchover gap starts at D1, D2 and D5, outputs are held, the old core fenced and its CPU port flushed. (R344) -/
  | gapStart (dt : Nat)
  /-- The standby has applied its outstanding Lining records and takes over mailboxes, CPU port and Lining. (R344) -/
  | standbyLiningApplied (dt : Nat)
  /-- The gap ends at D1, D2 and D5 and mailbox service and CPU-port delivery resume with the promoted core. (R343) -/
  | gapEnd (dt : Nat)
  /-- A core restarted in RESTART is running and caught up, the gap ends and the pair is SINGLE. (R343) -/
  | restartCaughtUp (dt : Nat)
  /-- The standby applies a Lining record in SEQ order and acknowledges it, or becomes STALE. (R339) -/
  | liningRecordRx (rec : List Word)
  /-- AUDIT_MS passes and the active core sends a digest record for each mirrored KIND. (R340) -/
  | liningAuditTimer
  /-- A catching-up standby applies the snapshot end with LAG 0 and becomes WARM. (R341) -/
  | catchupComplete
  /-- The new core is not WARM within 600 ms, the standby restarts with the running firmware and the target is REJECTED. (R409) -/
  | handoverTimeout
  /-- TRIAL_S elapses, the old core is promoted and the target is REJECTED. (R409) -/
  | trialTimeout
  /-- The erase of the target slot completes and the update state becomes LOADING. (R409) -/
  | imgEraseComplete (dt : Nat)
  /-- A doorbell write submits the request window, which the mailbox engine copies into a message buffer or answers itself. (R368) -/
  | mbxDoorbell (p : Path)
  /-- A held response fits and is placed in the path's response FIFO, raising RSP_READY. (R369) -/
  | responseFifoPlace (p : Path)
  /-- A read of MBX_RSP_POP pops one response word, copies it to MBX_RSP_LAST and advances POPCNT. (R372) -/
  | mbxRspPop (p : Path)
  /-- A write to MBX_RSP_DROP discards the rest of the current response. (R372) -/
  | mbxRspDrop (p : Path)
  /-- A read of an event register returns SEQ and flags and records R_SEQ and L_f. (R373) -/
  | evtRead (p : Path) (reg : Nat) (size : RdSize)
  /-- A write of a sequence value to an event register clears the flags raised as of that sequence. (R373) -/
  | evtWrite (p : Path) (reg : Nat) (w : Word)
  /-- A 4-byte write at +4 stores bits 35:32 in the function's upper-bits holder. (R357) -/
  | upperBitsWrite (p : Path) (v : Nat)
  /-- A write to a register without a row of its own commits the word, logging it when it fails. (R357) -/
  | registerWrite (p : Path) (idx : Nat) (w : Word) (half : Bool)
  /-- D0 applies a posted write to its window at a slow-domain edge and AO_BUSY clears. (R363) -/
  | d0PostedWriteApply
  /-- Writing 1 to the POLICY LOCK bit sets the POLICY lock until a device reset. (R365) -/
  | policyLockSet (p : Path) (w : Word)
  /-- Writing 1 to the SEAL LOCK bit sets the SEAL lock until a device reset. (R365) -/
  | sealLockSet (p : Path) (w : Word)
  /-- Writing 1 to the KEY LOCK bit sets the KEY lock until a device reset. (R365) -/
  | keyLockSet (p : Path) (w : Word)
  /-- Writing 1 to the POWER_LIMIT LOCK bit sets that lock until a device reset. (R365) -/
  | powerLimitLockSet (p : Path) (w : Word)
  /-- A write of a ring's CTRL enables or disables the ring, resetting HEAD and TAIL, or is discarded when out of range. (R378) -/
  | ringCtrlWrite (p : Path) (rx : Bool) (n : Nat) (w : Word)
  /-- A write of a ring's TAIL posts descriptors for transmit or receive. (R378) -/
  | ringTailWrite (p : Path) (rx : Bool) (n : Nat) (w : Word)
  /-- An SPI transaction reads or writes words of the SPI instance and returns the status byte. (R359) -/
  | spiTransaction (bytes : List Byte)
  /-- A service-port frame carries a request, repeat or event clear to the service instance. (R360) -/
  | serviceFrameRx (bytes : List Byte)
  /-- A PCIe function-level reset disables the function's rings and clears its FIFO, holder, events and late-write log. (R382) -/
  | functionLevelReset (p : Path)
  /-- PERST_N is released while the SerDes domain is ON and PCIe link training follows. (R546) -/
  | perstNRelease (die : Fab)
  /-- An internal write from a host path fails, enters the late-write log and raises LATE_WRITE. (R383) -/
  | lateWriteFail (p : Path) (reason : Nat) (addr : Nat)
  /-- The duplicated pointers of a FIFO disagree, it is emptied and FIFO_RESET or FIFO_FAULT is raised. (R372) -/
  | fifoPointerFault (f : FifoRef)
  /-- A die's seal scanner completes a CRC pass and a mismatch with the reference acts under REACTION. (R376) -/
  | sealPassEnd (die : Nat) (crc : Nat)
  /-- A tamper source raises an alarm, aborting key operations, logging it and applying its action. (R436) -/
  | tamperAlarm (source : Nat) (during : Option Path) (dt : Nat)
  /-- 100 ms pass without a CIPHER.BLOCK and the engine lock is released. (R440) -/
  | cipherLockIdle
  /-- 600 s pass without a request and the depot session ends. (R442) -/
  | depotSessionTimeout
  /-- 30 s pass after CHALLENGE and the nonce is no longer valid. (R442) -/
  | nonceExpiry
  /-- The hour after 8 failed OPENs passes and CHALLENGE is accepted again. (R442) -/
  | openLockoutEnd
  /-- A sequence step's domain reports good and the WAIT_US wait begins. (R459) -/
  | seqStepPowerGood (dt : Nat)
  /-- WAIT_US of a step passes and the next step starts, or the sequence completes. (R459) -/
  | seqWaitExpiry
  /-- A domain is not good within PG_TIMEOUT, the sequence ends and the fault is logged. (R459) -/
  | seqPgTimeout
  /-- The pace monitors report every 10 µs and the controller forms P_m and P_t. (R460) -/
  | paceSample (die : Fab) (monitors : List Nat) (tj : Int) (dt : Nat)
  /-- 20 µs pass with P_m below P_t and the voltage is raised by STEP_MV. (R461) -/
  | paceRiseTimer (die : Fab)
  /-- P_m holds above the guard for 10 ms and the voltage is lowered by STEP_MV. (R461) -/
  | paceFallTimer (die : Fab)
  /-- P_m stays below P_t for 100 µs, PACE is raised and PACE_SHORT counted. (R463) -/
  | paceShortTimer (die : Fab)
  /-- Each hour of on-time the controller computes the ageing factor, V_R and REMAIN_MONTHS. (R464) -/
  | ageingHour (die : Fab)
  /-- Every 10 ms the controller sums the regulator powers into the power estimate. (R465) -/
  | powerEstimate (pout : List Nat) (ampW : Nat) (ampE : Nat) (feeds : List Nat) (dt : Nat)
  /-- The estimate exceeds LIMIT for 1 s and the highest-numbered shed port still enabled is disabled. (R465) -/
  | powerShedTimer
  /-- The estimate stays below 90 % of LIMIT for 10 s and the lowest shed port is re-enabled. (R465) -/
  | powerRestoreTimer
  /-- A feed's current exceeds its limit for TRIP_US and the feed is disabled, counting TRIPS. (R466) -/
  | feedOvercurrentTrip (feed : Nat) (current : Nat) (dt : Nat)
  /-- INRUSH_MS elapses and the feed becomes ON. (R466) -/
  | feedInrushEnd (feed : Nat) (current : Nat)
  /-- RETRY_MS elapses after a trip and the feed is enabled again. (R466) -/
  | feedRetryExpiry (feed : Nat)
  /-- A feed stays ON for 10 × RETRY_MS and its retry count is restored. (R466) -/
  | feedRetryRestore (feed : Nat)
  /-- The supply stays above UV for 100 ms and a shed feed is enabled again. (R466) -/
  | feedShedRestore (feed : Nat) (volts : Nat) (dt : Nat)
  /-- An AUTO_ON feed is enabled in its turn, 1 ms after the previous one. (R466) -/
  | feedAutoOn
  /-- The vehicle supply is above OV for 1 ms and SUPPLY is raised. (R468) -/
  | supplyOv (volts : Nat) (dt : Nat)
  /-- The vehicle supply is below UV for UV_MS and SUPPLY is raised. (R469) -/
  | supplyUv (volts : Nat) (dt : Nat)
  /-- The vehicle supply is below CRANK for 100 µs and the CRANK_SHED feeds are shed. (R470) -/
  | supplyCrank (volts : Nat) (dt : Nat)
  /-- The supply is below OFF for OFF_MS, feeds are disabled, logs closed, sequence OFF runs and BK sets its flag. (R471) -/
  | controlledPowerDown (volts : Nat) (dt : Nat)
  /-- The supply has been above ON for 100 ms after a controlled power-down and sequence COLD runs. (R471) -/
  | supplyRestored (volts : Nat) (dt : Nat)
  /-- A received frame matches a wake policy entry, restarting the sleep timer or logging a keep-awake node. (R473) -/
  | wakePolicyMatch (w : WakeIn)
  /-- SLEEP_S expires with no hold and the agreement enters PREPARE. (R474) -/
  | sleepTimerExpiry
  /-- A match, wake source or hold in PREPARE cancels the sleep and the device returns to AWAKE. (R474) -/
  | prepareCancel (kind : Nat) (src : Nat)
  /-- PREPARE_MS elapses, the sleep is committed, the late-wake latch armed and the SLEEP sequence run. (R474) -/
  | commitPoint
  /-- The SLEEP sequence completes and the device is ASLEEP, or wakes at once when the latch is set. (R474) -/
  | sleepSeqComplete
  /-- A wake source is decided while asleep or committed, recorded and the WAKE sequence run or the latch set. (R474) -/
  | wakeSource (kind : Nat) (src : Nat) (dt : Nat)
  /-- The WAKE sequence completes and the agreement returns to AWAKE with the timer restarted. (R474) -/
  | wakeSeqComplete
  /-- After a wake the cores run verified firmware and the active core rebuilds its state before serving commands. (R478) -/
  | coreWakeRebuild (west : Bool) (east : Bool) (dt : Nat)
  /-- A local wake input holds its active level for LOC_FILTER_MS and becomes a wake source. (R488) -/
  | wakeLocInput (input : Nat) (dt : Nat)
  /-- TIMER_S passes after sleep entry and the timer becomes a wake source. (R474) -/
  | sleepWakeTimer
  /-- A path's hold lasts HOLD_S and ends, restarting the sleep timer. (R489) -/
  | wakeHoldExpiry (path : Path)
  /-- Every 1 ms each Hem port sends a HELLO stack-control frame. (R498) -/
  | helloTx
  /-- A HELLO is received, updating reach, slave port choice and the stack state. (R500) -/
  | stackHelloRx (port : Nat)
  /-- The master receives a member's MATCH and restarts its sleep timer. (R507) -/
  | stackMatchRx (port : Nat)
  /-- A member receives PREPARE and takes the PREPARE action of the sleep agreement. (R507) -/
  | stackPrepareRx (port : Nat)
  /-- A member receives CANCEL and cancels its sleep preparation. (R507) -/
  | stackCancelRx (port : Nat)
  /-- A member receives COMMIT and takes the commit point. (R507) -/
  | stackCommitRx (port : Nat)
  /-- No HELLO reaching the master arrives for 5 ms and a member becomes ORPHAN. (R500) -/
  | masterLost
  /-- A bridge WRITE is executed at the target member and answered with WACK. (R502) -/
  | bridgeWriteRx (port : Nat)
  /-- A bridge READ is executed at the target and answered with RDATA. (R502) -/
  | bridgeReadRx (port : Nat)
  /-- A bridge LOCK_READ locks the target die's register bus and returns the data. (R504) -/
  | bridgeLockReadRx (port : Nat)
  /-- A bridge UNLOCK_WRITE writes and releases the lock, or is answered lock expired. (R504) -/
  | bridgeUnlockWriteRx (port : Nat)
  /-- A WACK completes an outstanding bridge write. (R502) -/
  | bridgeWackRx (port : Nat)
  /-- An RDATA completes an outstanding bridge read under its TAG. (R502) -/
  | bridgeRdataRx (port : Nat)
  /-- The random back-off wait passes and the withdrawn bridge request is issued again. (R503) -/
  | bridgeBackoffExpiry
  /-- A bridge request has no response within 100 µs and fails with STATUS 4. (R502) -/
  | bridgeTimeout
  /-- 20 µs pass without UNLOCK_WRITE and the die's register-bus lock is released. (R504) -/
  | bridgeLockExpiry (die : Nat)
  /-- STK_WAKE is low for at least 50 µs and is a wake source at every package. (R508) -/
  | stkWakeInput
  /-- A relayed request has no inner response within 1 s and STACK.RELAY returns TIMEOUT. (R510) -/
  | relayTimeout (path : Path)
  /-- The AO supply rises and start-up begins in AO_UP. (R512) -/
  | aoPowerUp (bk : Bool)
  /-- RESET_N is held low for at least 10 µs and a device reset follows. (R512) -/
  | resetNInput (dt : Nat)
  /-- The slow oscillator runs, straps are sampled and start-up enters CLOCK_WAIT. (R514) -/
  | slowOscRunning (hem : Bool) (mbr : Nat) (dt : Nat)
  /-- The TCXO is detected and PLLs lock, TIMING is switched ON and start-up waits for supply. (R514) -/
  | tcxoLock (dt : Nat)
  /-- 100 ms pass in CLOCK_WAIT without lock and FAULT_N is driven low. (R514) -/
  | clockWaitTimeout
  /-- The vehicle supply is above ON for 100 ms in SUPPLY_WAIT and sequence COLD runs. (R514) -/
  | supplyOnStable (volts : Nat) (dt : Nat)
  /-- The self-tests complete and their failure reactions apply, continuing to IMAGE or halting. (R515) -/
  | selftestComplete (fails : List (Nat × Nat × Nat)) (dt : Nat)
  /-- A slot or the factory image passes verification and its firmware is loaded into each present core. (R407) -/
  | imageVerified (dt : Nat)
  /-- The boot measurement unit writes a core's measurement and releases the core. (R426) -/
  | measurementReleased (west : Bool) (east : Bool) (dt : Nat)
  /-- D0 unwraps the live key blobs of the booted slot into their slots or reports them. (R434) -/
  | blobsHandled (dt : Nat)
  /-- The firmware executes one COMMAND record as a request of owner 0x40 and reports clamps or refusals. (R401) -/
  | imageRecordExec (dt : Nat)
  /-- The LOCKS record is applied, gate lists committed, ports and channels enabled and FORWARDING set. (R402) -/
  | locksApply (dt : Nat)
  /-- 5 s pass in HALT_POWER with fewer than 3 retries and sequence COLD runs again. (R514) -/
  | haltPowerRetry
  /-- A die is lost, its ports go down, the active core is promoted when it was there, and a reload is started. (R523) -/
  | dieLost (die : Nat) (dt : Nat)
  /-- A reloaded die has its tables filled and its ports and channels enabled again. (R520) -/
  | dieReloadForwarding (test : Nat) (dt : Nat)
  /-- Command 0x201 sets CT_EN, RES_LIMIT and POCKET_MASK of one output. (R46) -/
  | pathOutputWrite (r : Req)
  /-- Command 0x202 returns the frame-path configuration of one output. (R47) -/
  | pathOutputRead (r : Req)
  /-- Command 0x203 sets one mirror session. (R48) -/
  | pathMirrorWrite (r : Req)
  /-- Command 0x204 returns one mirror session. (R49) -/
  | pathMirrorRead (r : Req)
  /-- Command 0x301 sets the SHARED_LIMIT of one output. (R68) -/
  | poolLimitWrite (r : Req)
  /-- Command 0x302 sets the five USE_LEVELs of one die. (R69) -/
  | poolLevelWrite (r : Req)
  /-- Command 0x303 returns an output's limit and the die's levels. (R70) -/
  | poolConfigRead (r : Req)
  /-- Command 0x304 returns and optionally clears the counters of a pool, output or crosspoint. (R71) -/
  | poolStatsRead (r : Req)
  /-- Command 0x305 returns and optionally empties the pool error log of a die. (R72) -/
  | poolErrlogRead (r : Req)
  /-- Command 0x306 returns the control record and first word of one buffer. (R73) -/
  | poolCellRead (r : Req)
  /-- Command 0x401 sets the parse configuration of one port. (R99) -/
  | rulePortWrite (r : Req)
  /-- Command 0x402 writes checked instruction words into an unselected parse program. (R100) -/
  | ruleProgramLoad (r : Req)
  /-- Command 0x403 writes one range comparator on both dies. (R101) -/
  | ruleRangeWrite (r : Req)
  /-- Command 0x404 writes one rule entry atomically on D1 then D2. (R102) -/
  | ruleEntryWrite (r : Req)
  /-- Command 0x405 returns one rule entry and its state. (R103) -/
  | ruleEntryRead (r : Req)
  /-- Command 0x406 writes a zone pair's directory entry in the staging bank. (R104) -/
  | ruleGroupWrite (r : Req)
  /-- Command 0x407 arms both dies to make the staging bank live at activation time T. (R105) -/
  | ruleCommit (r : Req)
  /-- Command 0x408 returns GEN, bank state, fragment use and the last T. (R106) -/
  | ruleStatusRead (r : Req)
  /-- Command 0x409 sets FRAG_TIMEOUT. (R107) -/
  | ruleFragWrite (r : Req)
  /-- Command 0x40A returns and optionally clears parsing and rule counters. (R108) -/
  | ruleStatsRead (r : Req)
  /-- Command 0x40B returns a port's parse configuration. (R109) -/
  | rulePortRead (r : Req)
  /-- Command 0x40C returns one range comparator. (R109) -/
  | ruleRangeRead (r : Req)
  /-- Command 0x40D returns a directory entry from the live or staging bank. (R109) -/
  | ruleGroupRead (r : Req)
  /-- Command 0x501 writes, stages, withdraws or deletes one forwarding group. (R131) -/
  | fwdEntryWrite (r : Req)
  /-- Command 0x502 returns one forwarding entry, its state and references. (R132) -/
  | fwdEntryRead (r : Req)
  /-- Command 0x503 advances FGEN at an activation time and starts the sweep. (R133) -/
  | fwdCommit (r : Req)
  /-- Command 0x504 returns FGEN, sweep state, counts and the link-down vector. (R134) -/
  | fwdStatusRead (r : Req)
  /-- Command 0x505 sets the VLAN, learning and R-TAG settings of one port. (R135) -/
  | fwdPortWrite (r : Req)
  /-- Command 0x506 returns the settings of one port. (R136) -/
  | fwdPortRead (r : Req)
  /-- Command 0x507 sets learning ENABLE and the learning region. (R137) -/
  | fwdLearnWrite (r : Req)
  /-- Command 0x508 deletes learned entries by port, VID or all. (R138) -/
  | fwdLearnFlush (r : Req)
  /-- Command 0x509 returns and optionally clears forwarding and frame-path counters. (R139) -/
  | fwdStatsRead (r : Req)
  /-- Command 0x601 writes one FRER function on both dies and resets its state. (R140) -/
  | frerFuncWrite (r : Req)
  /-- Command 0x602 returns a FRER function's configuration and state on one die. (R141) -/
  | frerFuncRead (r : Req)
  /-- Command 0x603 resets a FRER function's state on both dies. (R142) -/
  | frerReset (r : Req)
  /-- Command 0x701 sets the zone of one port or legacy channel. (R159) -/
  | zoneMapWrite (r : Req)
  /-- Command 0x702 returns the zones of every port and channel. (R160) -/
  | zoneMapRead (r : Req)
  /-- Command 0x703 replaces the permission matrix at an activation time on D1, D2 and D5. (R161) -/
  | zonePolicyWrite (r : Req)
  /-- Command 0x704 returns the permission matrix in force. (R162) -/
  | zonePolicyRead (r : Req)
  /-- Command 0x705 returns the gateway zone table entry of one stream. (R163) -/
  | zoneGwRead (r : Req)
  /-- Command 0x706 returns POLICY_DENIES or GW_UNMAPPED. (R164) -/
  | zoneStatsRead (r : Req)
  /-- Command 0x801 writes one meter and fills its buckets. (R165) -/
  | meterWrite (r : Req)
  /-- Command 0x802 returns a meter's configuration and refilled levels on one die. (R166) -/
  | meterRead (r : Req)
  /-- Command 0x803 writes one stream filter and clears its BLOCKED flag. (R167) -/
  | meterFilterWrite (r : Req)
  /-- Command 0x804 returns one filter and its BLOCKED flag. (R168) -/
  | meterFilterRead (r : Req)
  /-- Command 0x805 returns meter or filter counters. (R169) -/
  | meterStatsRead (r : Req)
  /-- Command 0x806 clears MARK_ALL_RED of a meter or BLOCKED of a filter. (R170) -/
  | meterUnblock (r : Req)
  /-- Command 0x901 writes the configuration of a port's admin list. (R192) -/
  | gclConfigWrite (r : Req)
  /-- Command 0x902 writes entries of a port's admin list. (R193) -/
  | gclListWrite (r : Req)
  /-- Command 0x903 writes gate patterns of a port's admin list. (R194) -/
  | gclPatternWrite (r : Req)
  /-- Command 0x904 computes the change time of each masked port and makes it PENDING. (R195) -/
  | gclCommit (r : Req)
  /-- Command 0x905 cancels pending list changes whose CT is far enough ahead. (R196) -/
  | gclCancel (r : Req)
  /-- Command 0x906 reads configuration, entries or patterns of one bank. (R197) -/
  | gclRead (r : Req)
  /-- Command 0x907 returns a port's gate machine state. (R198) -/
  | gclStatusRead (r : Req)
  /-- Command 0x908 examines a bank for truncation, closed queues, short windows and lookahead. (R199) -/
  | gclCheck (r : Req)
  /-- Command 0xA01 sets a queue's shaper, SDU and yellow limits. (R200) -/
  | shaperQueueWrite (r : Req)
  /-- Command 0xA02 returns a queue's settings and credit. (R201) -/
  | shaperQueueRead (r : Req)
  /-- Command 0xA03 writes PREEMPT_QUEUES on both dies. (R202) -/
  | shaperPreemptWrite (r : Req)
  /-- Command 0xA04 sets the MAC merge of one port and restarts verification. (R203) -/
  | shaperMmWrite (r : Req)
  /-- Command 0xA05 returns MAC merge state and counters of one port. (R204) -/
  | shaperMmRead (r : Req)
  /-- Command 0xB01 returns and optionally clears a queue's counters. (R205) -/
  | qstatQueueRead (r : Req)
  /-- Command 0xB02 sets one sampler and clears its bins and samples. (R206) -/
  | qstatSamplerWrite (r : Req)
  /-- Command 0xB03 returns a sampler's bins, limit count and samples. (R207) -/
  | qstatSamplerRead (r : Req)
  /-- Command 0xC01 returns the time state, time-of-day, last error and FREQ_ADJ. (R231) -/
  | timeRead (r : Req)
  /-- Command 0xC02 sets the time by step or slew, or names the seconds of the next accepted edge. (R232) -/
  | timeSet (r : Req)
  /-- Command 0xC03 corrects the time by an offset and optionally replaces FREQ_ADJ. (R233) -/
  | timeAdjust (r : Req)
  /-- Command 0xC04 writes the time base configuration. (R234) -/
  | timeConfigWrite (r : Req)
  /-- Command 0xC05 returns the time base configuration. (R235) -/
  | timeConfigRead (r : Req)
  /-- Command 0xC06 sets the gPTP configuration of one port. (R236) -/
  | timePortWrite (r : Req)
  /-- Command 0xC07 returns a port's gPTP configuration, link delay and counters. (R237) -/
  | timePortRead (r : Req)
  /-- Command 0xC08 returns PPS_IN capture data and counters. (R238) -/
  | timePpsRead (r : Req)
  /-- Command 0xD01 sets enable, rate, role and sleep options of one port. (R257) -/
  | portConfigWrite (r : Req)
  /-- Command 0xD02 sets the PLCA of one 10BASE-T1S port. (R258) -/
  | portPlcaWrite (r : Req)
  /-- Command 0xD03 returns a port's configuration. (R259) -/
  | portConfigRead (r : Req)
  /-- Command 0xD04 returns a 10BASE-T1S port's PLCA settings. (R259) -/
  | portPlcaRead (r : Req)
  /-- Command 0xD05 returns a port's link state and counters. (R260) -/
  | portStatusRead (r : Req)
  /-- Command 0xD06 takes the maintenance token and moves a port to DIAG for a cable test. (R261) -/
  | portCableTest (r : Req)
  /-- Command 0xE01 sets the SecY of one port and restarts MKA. (R262) -/
  | macsecPortWrite (r : Req)
  /-- Command 0xE02 sets the MKA configuration of one port. (R263) -/
  | macsecMkaWrite (r : Req)
  /-- Command 0xE03 returns MKA state, packet number and MACsec counters. (R264) -/
  | macsecStatusRead (r : Req)
  /-- Command 0xF01 sets one CAN channel. (R287) -/
  | edgeCanWrite (r : Req)
  /-- Command 0xF02 sets one LIN channel. (R288) -/
  | edgeLinWrite (r : Req)
  /-- Command 0xF03 writes LIN frame entries or schedule slots. (R289) -/
  | edgeLinTableWrite (r : Req)
  /-- Command 0xF04 sets one serial engine. (R290) -/
  | edgeSerWrite (r : Req)
  /-- Command 0xF05 writes format table words and checks the slot on its last load. (R291) -/
  | edgeTableLoad (r : Req)
  /-- Command 0xF06 sets a channel's wake and standby balls. (R292) -/
  | edgeWakeWrite (r : Req)
  /-- Command 0xF07 starts bus-off recovery of a CAN channel. (R293) -/
  | edgeCanRecover (r : Req)
  /-- Command 0xF08 returns channel configuration or table words. (R294) -/
  | edgeConfigRead (r : Req)
  /-- Command 0xF09 returns a channel's state and counters. (R295) -/
  | edgeStatusRead (r : Req)
  /-- Command 0x101 writes one gateway bundle. (R316) -/
  | gwBundleWrite (r : Req)
  /-- Command 0x102 writes one uplink entry. (R317) -/
  | gwUpWrite (r : Req)
  /-- Command 0x103 writes one downlink entry and the gateway zone table. (R318) -/
  | gwDownWrite (r : Req)
  /-- Command 0x104 writes one periodic slot's configuration and clears its payload. (R319) -/
  | gwPeriodicWrite (r : Req)
  /-- Command 0x105 writes a SOURCE 0 periodic payload. (R320) -/
  | gwPeriodicData (r : Req)
  /-- Command 0x106 returns a bundle, entry or slot. (R321) -/
  | gwRead (r : Req)
  /-- Command 0x107 returns gateway counters. (R322) -/
  | gwStatsRead (r : Req)
  /-- Command 0x041 returns the pair state and the last promotion from the arbiter record. (R348) -/
  | coreStatusRead (r : Req)
  /-- Command 0x042 promotes the WARM standby with cause COMMAND. (R349) -/
  | coreSwitch (r : Req)
  /-- Command 0x043 sets tripwire, odd-limit and audit settings of both cores. (R350) -/
  | coreGuardWrite (r : Req)
  /-- Command 0x044 returns the guard settings. (R351) -/
  | coreGuardRead (r : Req)
  /-- Command 0x045 returns a core's checking and Lining counters. (R352) -/
  | coreStatsRead (r : Req)
  /-- Command 0x046 restarts the standby core and starts its catch-up. (R353) -/
  | coreRestart (r : Req)
  /-- Command 0x047 runs three tripwire segments and a hold parity test on a core. (R354) -/
  | coreSelftest (r : Req)
  /-- Command 0x048 performs a debug action on pass A of a core under the maintenance token. (R355) -/
  | coreDebug (r : Req)
  /-- Command 0x001 returns its payload unchanged. (R385) -/
  | hostEcho (r : Req)
  /-- Command 0x002 returns firmware version, running slot and lock bits. (R386) -/
  | hostVersionRead (r : Req)
  /-- Command 0x003 returns the late-write log of the requesting path. (R387) -/
  | hostLateLogRead (r : Req)
  /-- Command 0x004 returns a ring's counters. (R388) -/
  | hostRingStatsRead (r : Req)
  /-- Command 0x011 stores each masked die's next pass CRC as its seal reference. (R389) -/
  | sealCommit (r : Req)
  /-- Command 0x012 returns SEAL_STATUS and each die's last pass CRC. (R390) -/
  | sealStatusRead (r : Req)
  /-- Command 0x021 reads depot-readable internal words from the service port. (R391) -/
  | diagRead (r : Req)
  /-- Command 0x031 returns start-up state, reset data and link and die presence. (R527) -/
  | faultStatusRead (r : Req)
  /-- Command 0x032 returns and optionally empties fault-log entries. (R528) -/
  | faultLogRead (r : Req)
  /-- Command 0x033 tests a lost in-package link and returns it to service. (R529) -/
  | faultLinkEnable (r : Req)
  /-- Command 0x034 reloads an absent die. (R530) -/
  | faultDieReload (r : Req)
  /-- Command 0x035 causes a device reset of code 2 within a depot session. (R531) -/
  | faultReset (r : Req)
  /-- Command 0x051 returns token holders, ports in DIAG and the exclusion table. (R532) -/
  | maintStatusRead (r : Req)
  /-- Command 0x052 writes the maintenance exclusion table. (R533) -/
  | maintExclWrite (r : Req)
  /-- Command 0x061 returns the stack state and Hem counters. (R509) -/
  | stackStatusRead (r : Req)
  /-- Command 0x062 carries an inner request through the bridge to another member's mailbox. (R510) -/
  | stackRelay (r : Req)
  /-- Command 0x063 takes or releases the acting-master role. (R511) -/
  | stackDesignate (r : Req)
  /-- Command 0x081 returns the update state and slot states. (R415) -/
  | imgStatusRead (r : Req)
  /-- Command 0x082 takes the token and starts erasing the target slot. (R416) -/
  | imgBegin (r : Req)
  /-- Command 0x083 programs words into erased words of the target slot. (R417) -/
  | imgWrite (r : Req)
  /-- Command 0x084 verifies the target image and writes it WRITTEN. (R418) -/
  | imgVerify (r : Req)
  /-- Command 0x085 re-wraps secrets for the new measurement into KEY_BLOB records. (R419) -/
  | imgPrepare (r : Req)
  /-- Command 0x086 restarts the standby with the target firmware for handover. (R420) -/
  | imgHandover (r : Req)
  /-- Command 0x087 writes the target CONFIRMED and the running slot SUPERSEDED. (R421) -/
  | imgConfirm (r : Req)
  /-- Command 0x088 abandons the update, promoting the old core when on trial. (R422) -/
  | imgRollback (r : Req)
  /-- Command 0x089 returns entries of the verify or start-up image report. (R423) -/
  | imgReportRead (r : Req)
  /-- Command 0x0A1 returns keyed state, KEY_ID and the core measurements. (R445) -/
  | keyStatusRead (r : Req)
  /-- Command 0x0A2 creates a new root secret or zeroizes the key store. (R446) -/
  | keyProvision (r : Req)
  /-- Command 0x0A3 generates one user key from the random source. (R447) -/
  | keyGenerate (r : Req)
  /-- Command 0x0A4 imports one user key in clear or wrapped. (R447) -/
  | keyImport (r : Req)
  /-- Command 0x0A5 derives one user key from a parent DERIVE key. (R447) -/
  | keyDerive (r : Req)
  /-- Command 0x0A6 zeroes a user slot and deletes its blob. (R448) -/
  | keyDelete (r : Req)
  /-- Command 0x0A7 returns a slot's attribute word and check value. (R449) -/
  | keyInfoRead (r : Req)
  /-- Command 0x0A8 sets the action and filter of one tamper source. (R450) -/
  | keyTamperWrite (r : Req)
  /-- Command 0x0A9 returns tamper settings or the tamper log. (R451) -/
  | keyTamperRead (r : Req)
  /-- Command 0x0AA programs or revokes an integrator verifier slot. (R452) -/
  | keyVerifierWrite (r : Req)
  /-- Command 0x0AB issues a challenge, opens or closes a depot session. (R453) -/
  | keySession (r : Req)
  /-- Command 0x0C1 binds the cipher engine to one path and key. (R454) -/
  | cipherLock (r : Req)
  /-- Command 0x0C2 encrypts or decrypts up to 16 blocks with the locked key. (R455) -/
  | cipherBlock (r : Req)
  /-- Command 0x0C3 releases the cipher engine lock. (R456) -/
  | cipherUnlock (r : Req)
  /-- Command 0x0C4 returns the lock register and engine counters. (R456) -/
  | cipherStatusRead (r : Req)
  /-- Command 0x0D1 returns domain, supply, power and feed status. (R479) -/
  | powerStatusRead (r : Req)
  /-- Command 0x0D2 replaces one power sequence. (R480) -/
  | powerSeqLoad (r : Req)
  /-- Command 0x0D3 writes domain mask, shedding, regulators and supply thresholds. (R481) -/
  | powerConfigWrite (r : Req)
  /-- Command 0x0D4 configures one peripheral feed. (R482) -/
  | powerLoadConfig (r : Req)
  /-- Command 0x0D5 switches or resets masked feeds. (R483) -/
  | powerLoadSet (r : Req)
  /-- Command 0x0D6 returns power configuration, a feed or a sequence. (R492) -/
  | powerRead (r : Req)
  /-- Command 0x0E1 replaces one pace curve band on both dies. (R484) -/
  | paceCurveLoad (r : Req)
  /-- Command 0x0E2 sets FLOOR, headroom, guard, step and EOL_MV of one die. (R485) -/
  | paceConfigWrite (r : Req)
  /-- Command 0x0E3 returns measured and target pace, voltage and ageing. (R486) -/
  | paceStatusRead (r : Req)
  /-- Command 0x0E4 returns pace configuration or a curve band. (R492) -/
  | paceRead (r : Req)
  /-- Command 0x0F1 writes one wake policy entry. (R487) -/
  | wakePolicyWrite (r : Req)
  /-- Command 0x0F2 writes the sleep agreement and local wake configuration. (R488) -/
  | wakeConfigWrite (r : Req)
  /-- Command 0x0F3 holds, releases or requests sleep now for the path. (R489) -/
  | wakeHold (r : Req)
  /-- Command 0x0F4 returns the agreement state and wake counters. (R490) -/
  | wakeStatusRead (r : Req)
  /-- Command 0x0F5 returns wake records or the keep-awake log. (R491) -/
  | wakeLogRead (r : Req)
  /-- Command 0x0F6 returns wake configuration or a policy entry. (R492) -/
  | wakeRead (r : Req)
  /-- The 0.6 ms wake-up pulse that a waking T1 port sends ends, and its resume or training may start once its coefficients are loaded. (R251) -/
  | wakePulseEnd (port : Nat)
  /-- A 10BASE-T1S coordinator starts a PLCA cycle by sending its beacon, at which new PLCA settings take effect. (R258) -/
  | plcaBeaconTx (port : Nat)
  /-- The MKA hello time of 2 s passes on a MACsec port, the active core sends an MKPDU, and peers whose life time has run out are dropped. (R255) -/
  | mkaHelloTime (port : Nat) (heard : List (Nat × Nat))
  /-- The link of the 100BASE-T1 service port on D0 goes down and any depot session ends. (R442) -/
  | servicePortLinkDown
  /-- The PCIe link of a fabric die comes up or goes down, which changes the die's pace demand and the availability of its host path. (R460) -/
  | pcieLinkChange (die : Fab) (up : Bool)
  /-- The always-on supply is lost, everything outside BK is lost, and only the BK tamper sources stay watched with phase AO absent. (R437) -/
  | aoSupplyLoss (dt : Nat)
  /-- The vehicle supply returns within its thresholds after an undervoltage or overvoltage, and the SUPPLY state becomes normal. (R467) -/
  | supplyNormal (volts : Nat) (dt : Nat)
  /-- 100 ms pass after IMAGE with no core running, and start-up enters HALT_SILICON. (R514) -/
  | coreBootTimeout
  /-- A core being restarted fails its self-test or firmware verification and becomes FAILED, or stays OFF. (R518) -/
  | coreRestartFailed (core : Fab) (verify : Bool)
deriving DecidableEq, Repr

end Sys2Proof
end

