-- ==== Sys2Proof/Decode.lean ====
section
/-! DEFINITION. The table decoder: no row of the command table gives bits, so no word spells a command (log 28). -/

namespace Sys2Proof

/-- The command that a word spells by the table's bits: none, for the table gives no row any bits (log 28). -/
def decodeTableWord (_nbits _w : Nat) : Option Instr := none

end Sys2Proof
end

