-- ==== Sys2Proof/Config.lean ====
section
/-! DEFINITION. Values that the spec leaves open or leaves to the part: constants without a body, so that no proof can see them. -/

namespace Sys2Proof.Config

/-- A value that the spec leaves open, fresh at each use: applied to the model's counter of free values (log 2). -/
opaque freeNat : Nat → Nat

/-- Words of internal registers whose layout the spec does not give, by internal address and count of reads (log 3). -/
opaque registerWord : Nat → Nat → Word

/-- The GUARD_BASE of a core's guarded region, which the spec does not give (12 R326; log 4). -/
opaque guardBase : Nat

/-- Words of the factory parse program that the spec does not give (04 R80; log 14). -/
opaque factoryProgram : Nat → Word

/-- The hash of an ingress port and an egress queue that selects a Seam link; its lowest bit counts (01 R10; log 18). -/
opaque seamHash : Nat → Nat → Nat

/-- The 512-word block of internal addresses in which a member's mailbox takes a relayed request, words 0 to 255, and gives its
response, words 256 to 511; the spec does not give its place (17 R510; log 56). -/
opaque relayBlock : Nat

/-- The unique device identifier in the one-time-programmable store, 72 bits (15 R424; log 26). -/
opaque uidWord : Nat → Word

/-- Words of the factory image in the one-time-programmable store, from its HEADER on; Lamori writes them (14 R393; log 44). -/
opaque factoryWord : Nat → Word

/-- VHASH of verifier slots 0 and 1, which Lamori programs (15 R424; log 44). -/
opaque vendorHash : Nat → Nat

/-- Analog trim words 2 to 15 of the one-time-programmable store; Lamori's (15 R424; log 44). -/
opaque trimWord : Nat → Word

end Sys2Proof.Config
end

