-- ==== Sys2Proof/Machine/Bits.lean ====
section
/-! DEFINITION. Bit fields, packing, byte order and the saturating and wrapping counters (00 R2, R4). -/

namespace Sys2Proof

/-- The field in bits `hi`:`lo` of a number. -/
def bitsOf (n hi lo : Nat) : Nat := n / 2 ^ lo % 2 ^ (hi + 1 - lo)

/-- The field in bits `hi`:`lo` of a word (00 R2). -/
def fld (w : Word) (hi lo : Nat) : Nat := bitsOf w.toNat hi lo

/-- Bit `i` of a word. -/
def bit1 (w : Word) (i : Nat) : Bool := fld w i i == 1

/-- Bit `i` of a mask held as a number. -/
def inMask (m i : Nat) : Bool := m / 2 ^ i % 2 == 1

/-- Set or clear bit `i` of a mask held as a number. -/
def setMask (m i : Nat) (b : Bool) : Nat :=
  if inMask m i then (if b then m else m - 2 ^ i) else (if b then m + 2 ^ i else m)

/-- The numbers below `n` whose bit of `m` is set, rising. -/
def maskList (m n : Nat) : List Nat := (List.range n).filter fun i => inMask m i

/-- The mask of the listed bits. -/
def maskOf (l : List Nat) : Nat := l.foldl (fun m i => setMask m i true) 0

/-- A Boolean as a field value. -/
def b1 (b : Bool) : Nat := if b then 1 else 0

/-- A word built from (lowest bit, width, value) fields; a value is cut to its width. -/
def pack (fs : List (Nat × Nat × Nat)) : Word :=
  BitVec.ofNat 36 (fs.foldl (fun a f => a + f.2.2 % 2 ^ f.2.1 * 2 ^ f.1) 0)

/-- A word from a number. -/
def w36 (n : Nat) : Word := BitVec.ofNat 36 n

/-- The two words of a 72-bit value, more significant half first (00 R2). -/
def words72 (n : Nat) : List Word := [w36 (n / 2 ^ 36), w36 n]

/-- The 72-bit value of two words (00 R2). -/
def of72 (hi lo : Word) : Nat := hi.toNat * 2 ^ 36 + lo.toNat

/-- The largest value of a 36-bit counter (00 R4). -/
def max36 : Nat := 2 ^ 36 - 1

/-- A 36-bit counter after `k` more events: it saturates (00 R4). -/
def sat36 (n k : Nat) : Nat := min max36 (n + k)

/-- A 72-bit counter after `k` more events. -/
def add72 (n k : Nat) : Nat := (n + k) % 2 ^ 72

/-- A counter of `w` bits that saturates. -/
def satN (w n k : Nat) : Nat := min (2 ^ w - 1) (n + k)

/-- A two's complement field of `w` bits as an integer. -/
def signedOf (w n : Nat) : Int := if n < 2 ^ (w - 1) then (n : Int) else (n : Int) - 2 ^ w

/-- An integer as a two's complement field of `w` bits. -/
def ofSigned (w : Nat) (i : Int) : Nat := (i % (2 ^ w : Int)).toNat

/-- Big-endian value of a list of bytes. -/
def beVal (bs : List Byte) : Nat := bs.foldl (fun a b => a * 256 + b.toNat) 0

/-- Little-endian value of a list of bytes. -/
def leVal : List Byte → Nat
  | [] => 0
  | b :: bs => b.toNat + 256 * leVal bs

/-- The `k` big-endian bytes of a number. -/
def beBytes : Nat → Nat → List Byte
  | 0, _ => []
  | k + 1, n => BitVec.ofNat 8 (n / 256 ^ k) :: beBytes k n

/-- The `k` little-endian bytes of a number. -/
def leBytes : Nat → Nat → List Byte
  | 0, _ => []
  | k + 1, n => BitVec.ofNat 8 n :: leBytes k (n / 256)

/-- The byte of a list at `i`, 0 beyond its end. -/
def byteAt (bs : List Byte) (i : Nat) : Byte := bs.getD i 0

/-- The `n` bytes from `i` on. -/
def slice (bs : List Byte) (i n : Nat) : List Byte := (bs.drop i).take n

/-- Replace the bytes from `i` on by `new`. -/
def splice (bs : List Byte) (i : Nat) (new : List Byte) : List Byte :=
  bs.take i ++ new ++ bs.drop (i + new.length)

/-- `n` rounded up to a multiple of `k`, divided by `k`. -/
def ceilDiv (n k : Nat) : Nat := (n + k - 1) / k

/-- A word as the five bytes in which SPI and the service port carry it (13 R359). -/
def wordBytes5 (w : Word) : List Byte := beBytes 5 w.toNat

end Sys2Proof
end

