-- ==== Sys2Proof/Machine/Tbl.lean ====
section
/-! DEFINITION. Tables as plain data: a sorted list of (index, entry) pairs in one canonical form. -/

namespace Sys2Proof

/-- A table: entries by index, indices strictly rising, no entry equal to the default of its index. -/
abbrev Tbl (α : Type) := List (Nat × α)

/-- The entry at `k`; an unlisted index holds the default `d k`. -/
def Tbl.get {α : Type} (d : Nat → α) (t : Tbl α) (k : Nat) : α :=
  match t with
  | [] => d k
  | (a, v) :: r => if a = k then v else Tbl.get d r k

/-- List `v` at `k`, in the order of the indices. -/
def Tbl.ins {α : Type} (t : Tbl α) (k : Nat) (v : α) : Tbl α :=
  match t with
  | [] => [(k, v)]
  | (a, w) :: r =>
    if k < a then (k, v) :: (a, w) :: r else if a = k then (k, v) :: r else (a, w) :: Tbl.ins r k v

/-- Write `v` at `k`, keeping the canonical form: a default entry is removed. -/
def Tbl.put {α : Type} [DecidableEq α] (d : Nat → α) (t : Tbl α) (k : Nat) (v : α) : Tbl α :=
  if v = d k then t.filter fun e => e.1 != k else Tbl.ins t k v

/-- Change the entry at `k` by `f`. -/
def Tbl.upd {α : Type} [DecidableEq α] (d : Nat → α) (t : Tbl α) (k : Nat) (f : α → α) : Tbl α :=
  Tbl.put d t k (f (Tbl.get d t k))

/-- Write the entries `vs` at `k`, `k + 1`, … -/
def Tbl.puts {α : Type} [DecidableEq α] (d : Nat → α) (t : Tbl α) (k : Nat) : List α → Tbl α
  | [] => t
  | v :: vs => Tbl.puts d (Tbl.put d t k v) (k + 1) vs

/-- The `n` entries from `k` on. -/
def Tbl.gets {α : Type} (d : Nat → α) (t : Tbl α) (k : Nat) : Nat → List α
  | 0 => []
  | n + 1 => Tbl.get d t k :: Tbl.gets d t (k + 1) n

/-- Apply `f` to every listed entry, keeping the canonical form; `f` keeps defaults. -/
def Tbl.remap {α : Type} [DecidableEq α] (d : Nat → α) (f : α → α) (t : Tbl α) : Tbl α :=
  t.foldl (fun a e => Tbl.put d a e.1 (f e.2)) []

/-- The indices of a table strictly rise and none is below `lo`. -/
def Tbl.rising {α : Type} (lo : Nat) : Tbl α → Bool
  | [] => true
  | (a, _) :: r => decide (lo ≤ a) && Tbl.rising (a + 1) r

/-- No listed entry equals the default of its index. -/
def Tbl.lean {α : Type} [DecidableEq α] (d : Nat → α) (t : Tbl α) : Bool :=
  t.all fun e => decide (e.2 ≠ d e.1)

/-- The canonical form of a table. -/
def Tbl.wf {α : Type} [DecidableEq α] (d : Nat → α) (t : Tbl α) : Bool :=
  Tbl.rising 0 t && Tbl.lean d t

end Sys2Proof
end

