-- ==== Sys2Proof/Machine/StCore.lean ====
section
/-! DEFINITION. State of the Alril cores, the arbiter and the Lining (12). -/

namespace Sys2Proof.Machine

/-- Core states, in the order of their codes (12 R337). -/
inductive CoreMode where
  | off | cold | catchingUp | warm | stale | active | failed | debug
deriving DecidableEq, Repr

/-- Pair states, in the order of their codes (12 R348). -/
inductive PairMode where
  | normal | degraded | single | gap | restart | debug
deriving DecidableEq, Repr

/-- A debugger write in pass A, kept for the other passes (12 R336). -/
structure ReplayEntry where
  /-- Instruction count of the write. -/
  count : Nat := 0
  /-- Whether it writes memory (else a register). -/
  mem : Bool := false
  /-- Register number or SRAM word. -/
  idx : Nat := 0
  /-- The value written. -/
  val : Word := 0
deriving DecidableEq, Repr

/-- One Alril core (12 R323 to R355). -/
structure CoreSt where
  /-- State, 4 bits (12 R337), reset 0 OFF. -/
  mode : CoreMode := .off
  /-- Class of the last fault, 4 bits (12 R348), reset 0. -/
  lastFault : Nat := 0
  /-- Whether D0 has verified and released its firmware (12 R323), reset no. -/
  verified : Bool := false
  /-- Image slot whose firmware it runs: 0 A, 1 B, 2 factory (14 R409), reset 2 DESIGN CHOICE (log 12). -/
  slot : Nat := 2
  /-- SEGMENTS, 72 bits (12 R352), reset 0. -/
  segments : Nat := 0
  /-- TRIPWIRE_RUNS, 72 bits (12 R352), reset 0. -/
  tripwireRuns : Nat := 0
  /-- LINING_RECORDS, 72 bits (12 R352), reset 0. -/
  liningRecords : Nat := 0
  /-- ODD_A, 36 bits (12 R352), reset 0. -/
  oddA : Nat := 0
  /-- ODD_B, 36 bits (12 R352), reset 0. -/
  oddB : Nat := 0
  /-- ODD_C, 36 bits (12 R352), reset 0. -/
  oddC : Nat := 0
  /-- NO_MAJORITY, 36 bits (12 R352), reset 0. -/
  noMajority : Nat := 0
  /-- TRIPWIRE_MISSES, 36 bits (12 R352), reset 0. -/
  tripwireMisses : Nat := 0
  /-- HOLD_PARITY, 36 bits (12 R352), reset 0. -/
  holdParity : Nat := 0
  /-- LINING_STALES, 36 bits (12 R352), reset 0. -/
  liningStales : Nat := 0
  /-- LINING_MISMATCH, 36 bits (12 R352), reset 0. -/
  liningMismatch : Nat := 0
  /-- SRAM_CORRECTED, 36 bits (12 R352), reset 0. -/
  sramCorrected : Nat := 0
  /-- REL_SHIFT, 13 bits, odd (12 R326), reset DESIGN CHOICE 1 (log 12). -/
  relShift : Nat := 1
  /-- General registers G0 to G63, 36 bits each; none where the firmware's own work leaves the value open (12 R326, R328; log 46),
  reset none. -/
  regs : Tbl (Option Word) := []
  /-- Local SRAM, 163 840 words of 36 bits; none where nothing known has been stored (12, 01 R22; log 46), reset none. -/
  sram : Tbl (Option Word) := []
  /-- Program counter of pass A while it is halted, 18 bits (12 R355), reset DESIGN CHOICE 0 (log 12). -/
  pc : Nat := 0
  /-- A fault that the core is to report: CHECKER (yes) or CORE (no) (12 R334), reset none. -/
  report : Option Bool := none
  /-- An uncorrectable SRAM error has stopped the core (12 R324), reset no. -/
  stopped : Bool := false
  /-- Tripwire count n (12 R332), reset DESIGN CHOICE 0 (log 12). -/
  tripCount : Nat := 0
  /-- Pass of the next tripwire: 0 A, 1 B, 2 C (12 R332), reset 0. -/
  tripPass : Nat := 0
  /-- A checker fault has stopped its guarded tasks (12 R334), reset no. -/
  guardStopped : Bool := false
  /-- Times (µs) of odd outcomes within ODD_WINDOW_MS (12 R331), reset none. -/
  oddTimes : List Nat := []
  /-- Times (µs) of hold parity errors within ODD_WINDOW_MS (12 R334), reset none. -/
  parityTimes : List Nat := []
  /-- Sequence number of its heartbeats (12 R342), reset DESIGN CHOICE 0 (log 12). -/
  hbSeq : Nat := 0
  /-- Time (ns of the monotonic count) of the last heartbeat received from it (12 R342), reset none. -/
  hbTime : Option Nat := none
  /-- A debugger is attached (12 R355), reset no. -/
  attached : Bool := false
  /-- Pass A is halted (12 R355), reset no. -/
  halted : Bool := false
  /-- Breakpoints, at most 8 SRAM words (12 R355), reset none. -/
  breaks : List Nat := []
  /-- Replay log, at most 256 actions (12 R336), reset empty. -/
  replay : List ReplayEntry := []
deriving DecidableEq, Repr

/-- CORE.GUARD settings (12 R350). -/
structure GuardCfg where
  /-- TRIPWIRE_MS, 10 bits (12 R350), reset 100. -/
  tripwireMs : Nat := 100
  /-- ODD_LIMIT, 4 bits (12 R350), reset 3. -/
  oddLimit : Nat := 3
  /-- ODD_WINDOW_MS, 12 bits (12 R350), reset 1 000. -/
  oddWindowMs : Nat := 1000
  /-- AUDIT_MS, 14 bits (12 R350), reset 1 000. -/
  auditMs : Nat := 1000
deriving DecidableEq, Repr

/-- The core pair, the arbiter and the Lining (12). -/
structure PairSt where
  /-- PAIR_STATE, 3 bits (12 R348), reset 0 NORMAL. -/
  mode : PairMode := .normal
  /-- Pair state before a debugger attached to the active core (12 R343), reset NORMAL. -/
  beforeDebug : PairMode := .normal
  /-- ACTIVE_DIE (12 R348), reset 0 West. -/
  active : Fab := .west
  /-- West core. -/
  west : CoreSt := {}
  /-- East core. -/
  east : CoreSt := {}
  /-- LAST_CAUSE, 4 bits (12 R348), reset 0. -/
  lastCause : Nat := 0
  /-- Gap start of the last promotion, 72-bit time (12 R348), reset 0. -/
  gapStart : Nat := 0
  /-- Length of the last gap in µs, 20 bits (12 R348), reset 0. -/
  gapUs : Nat := 0
  /-- SWITCHOVERS, 36 bits (12 R348), reset 0. -/
  switchovers : Nat := 0
  /-- CORE.GUARD settings in force (12 R350). -/
  guard : GuardCfg := {}
  /-- A promotion has been decided and the gap is starting or running, of this cause code (12 R343), reset none. -/
  promoting : Option Nat := none
  /-- Outputs are held and the old core fenced: between gap start and gap end (12 R344, R345), reset no. -/
  held : Bool := false
  /-- The promoted core owns the mailboxes, CPU port and Lining direction (12 R344), reset no. -/
  owned : Bool := false
  /-- The promoted core must complete R341 before it serves state-changing commands (12 R343 DEGRADED), reset no. -/
  mustCatchUp : Bool := false
  /-- Monotonic time (ns) of the gap start (12 R348), reset 0. -/
  gapMono : Nat := 0
  /-- SEQ of the next Lining record sent, 12 bits (12 R338), reset 0x000. -/
  txSeq : Nat := 0
  /-- SEQ that the standby expects next, 12 bits (12 R339), reset 0x000. -/
  rxSeq : Nat := 0
  /-- LAG: records sent and not acknowledged, each with its words and the message buffer (die, pool, index) that holds it (12 R338, R339), reset none. -/
  sent : List (List Word × Fab × Nat × Nat) := []
  /-- The standby's copy of each Lining KIND 0x03 to 0x07 (12 R338), reset empty. -/
  copy : Tbl (List Word) := []
  /-- The standby has applied a snapshot begin record and not yet its end (12 R341), reset no. -/
  inSnapshot : Bool := false
  /-- The standby has applied the snapshot end record (12 R341), reset no. -/
  snapDone : Bool := false
  /-- A snapshot is on its way (12 R341), reset no. -/
  snapOut : Bool := false
  /-- The path whose CORE.SWITCH waits for the gap's end (12 R349), reset none. -/
  waiter : Option Path := none
deriving DecidableEq, Repr

end Sys2Proof.Machine
end

