-- ==== Sys2Proof/Machine/StEdge.lean ====
section
/-! DEFINITION. State of the legacy channels of the Cuff die: CAN, LIN, serial, format tables, wake and standby balls (10). -/

namespace Sys2Proof.Machine

/-- What a message to send is for, beyond its own content: the time message or a periodic slot (10 R284, 11 R312). -/
inductive TxOrigin where
  | plain | timeMsg | slot (n : Nat)
deriving DecidableEq, Repr

/-- A frame that waits in a CAN transmit queue (10 R269). -/
structure CanTx where
  /-- The frame; the payload of a time message or periodic slot is filled when it wins arbitration. -/
  frame : CanFrame := {}
  /-- Where it comes from. -/
  origin : TxOrigin := .plain
  /-- Monotonic tick of its request. -/
  at_ : Nat := 0
deriving DecidableEq, Repr

/-- A frame in a CAN receive buffer (10 R265, R266). -/
structure CanRx where
  /-- The frame. -/
  frame : CanFrame := {}
  /-- Timestamp, 72 bits. -/
  time : Nat := 0
deriving DecidableEq, Repr

/-- Counters C1 to C12, RX_FRAMES and TX_FRAMES of a channel (10 R286). -/
structure EdgeCtr where
  /-- RX_FRAMES, 72 bits (10 R286), reset 0. -/
  rx : Nat := 0
  /-- TX_FRAMES, 72 bits (10 R286), reset 0. -/
  tx : Nat := 0
  /-- C1 to C12 at 0 to 11, 36 bits each (10 R286), reset 0. -/
  c : Tbl Nat := []
deriving DecidableEq, Repr

/-- One CAN channel (10 R267 to R271, R287). -/
structure CanCh where
  /-- ENABLE (10 R287), reset DESIGN CHOICE 0 (log 12). -/
  enable : Bool := false
  /-- MODE: 0 classical, 1 FD, 2 XL (10 R287), reset DESIGN CHOICE 0 (log 12). -/
  mode : Nat := 0
  /-- LISTEN (10 R287), reset DESIGN CHOICE 0 (log 12). -/
  listen : Bool := false
  /-- AUTO_RECOVER (10 R287), reset DESIGN CHOICE 0 (log 12). -/
  autoRecover : Bool := false
  /-- ONE_SHOT (10 R287), reset DESIGN CHOICE 0 (log 12). -/
  oneShot : Bool := false
  /-- PEX (10 R287), reset DESIGN CHOICE 0 (log 12). -/
  pex : Bool := false
  /-- TIME_EN (10 R287), reset DESIGN CHOICE 0 (log 12). -/
  timeEn : Bool := false
  /-- TIME_TABLE, 6 bits (10 R287), reset DESIGN CHOICE 0 (log 12). -/
  timeTable : Nat := 0
  /-- TX_LIFETIME, 12 bits, ms (10 R287), reset DESIGN CHOICE 0 (log 12). -/
  txLife : Nat := 0
  /-- Words 2 to 4 of EDGE.CAN_WRITE: bit timing (10 R287), reset DESIGN CHOICE 0 (log 12). -/
  timing : Word × Word × Word := (0, 0, 0)
  /-- Timing, MODE and options that take effect when the frame being sent has ended (10 R271), reset none. -/
  offAfter : Bool := false
  /-- TEC (10 R270), reset 0. -/
  tec : Nat := 0
  /-- REC (10 R270), reset 0. -/
  rec_ : Nat := 0
  /-- In bus-off (10 R270), reset no. -/
  busOff : Bool := false
  /-- Bus-off recovery runs (10 R270), reset no. -/
  recovering : Bool := false
  /-- LAST_ERROR, 4 bits (10 R270), reset 0. -/
  lastError : Nat := 0
  /-- Receive buffer, at most 64 frames (10 R265), reset empty. -/
  rxq : List CanRx := []
  /-- Pending frames in the order of their requests, at most 31 and the time slot (10 R265), reset empty. -/
  txq : List CanTx := []
  /-- The frame being sent: it has won arbitration (10 R269), reset none. -/
  sending : Option CanTx := none
deriving DecidableEq, Repr

/-- An idle CAN channel. -/
def CanCh.dflt (_ : Nat) : CanCh := {}

/-- An entry of a LIN frame table (10 R272). -/
structure LinEnt where
  /-- DIR, 2 bits (10 R272), reset DESIGN CHOICE 0 (log 12). -/
  dir : Nat := 0
  /-- ENHANCED, reset DESIGN CHOICE 0 (log 12). -/
  enhanced : Bool := false
  /-- LENGTH, 1 to 8, reset DESIGN CHOICE 1 (log 12). -/
  len : Nat := 1
deriving DecidableEq, Repr

/-- An entry that ignores its frame. -/
def LinEnt.dflt (_ : Nat) : LinEnt := {}

/-- A frame in a LIN receive buffer (10 R265, R266). -/
structure LinRx where
  /-- Frame ID. -/
  id : Nat := 0
  /-- Data bytes. -/
  data : List Byte := []
  /-- Timestamp, 72 bits. -/
  time : Nat := 0
deriving DecidableEq, Repr

/-- The header that a LIN channel has sent or received and whose response is due (10 R273). -/
structure LinHdr where
  /-- Frame ID. -/
  id : Nat := 0
  /-- Timestamp of the break, 72 bits. -/
  time : Nat := 0
  /-- A complete response has come. -/
  done : Bool := false
deriving DecidableEq, Repr

/-- One LIN channel (10 R272 to R274, R288, R289). -/
structure LinCh where
  /-- ENABLE (10 R288), reset DESIGN CHOICE 0 (log 12). -/
  enable : Bool := false
  /-- ROLE: 1 commander (10 R288), reset DESIGN CHOICE 0 (log 12). -/
  commander : Bool := false
  /-- BAUD, 15 bits (10 R288), reset DESIGN CHOICE 1 000 (log 12). -/
  baud : Nat := 1000
  /-- TIME_TABLE, 6 bits (10 R288), reset DESIGN CHOICE 0 (log 12). -/
  timeTable : Nat := 0
  /-- Frame table, IDs 0x00 to 0x3F (10 R272). -/
  table : Tbl LinEnt := []
  /-- Schedule as written: (ID, SLOT_MS) of slots 0 to 63 (10 R289), reset DESIGN CHOICE (0, 0) (log 12). -/
  sched : Tbl (Nat × Nat) := []
  /-- SCHED_LEN as written, 7 bits (10 R289), reset DESIGN CHOICE 0 (log 12). -/
  schedLen : Nat := 0
  /-- Schedule of the round in progress (10 R273), reset empty. -/
  round : List (Nat × Nat) := []
  /-- Slot of the round in progress (10 R273), reset 0. -/
  slot : Nat := 0
  /-- Tick at which that slot started (10 R273), reset none. -/
  slotAt : Option Nat := none
  /-- The schedule is stopped by a sleep command (10 R274), reset no. -/
  stopped : Bool := false
  /-- The go-to-sleep frame is to be sent at the next slot (10 R274), reset no. -/
  sleepDue : Bool := false
  /-- Tick at which the wake pulse ended, after which the schedule restarts (10 R274), reset none. -/
  pulseEnd : Option Nat := none
  /-- A wake pulse has been commanded and not yet sent (10 R274), reset no. -/
  pulseDue : Bool := false
  /-- Publish buffers, by frame ID (10 R273), reset never written. -/
  bufs : Tbl (Option (List Byte)) := []
  /-- The header whose response is due (10 R273), reset none. -/
  hdr : Option LinHdr := none
  /-- Receive buffer, at most 8 frames (10 R265), reset empty. -/
  rxq : List LinRx := []
  /-- LAST_ERROR, 4 bits (10 R295), reset 0. -/
  lastError : Nat := 0
deriving DecidableEq, Repr

/-- An idle LIN channel. -/
def LinCh.dflt (_ : Nat) : LinCh := {}

/-- A message to send on a serial engine (10 R277, R280). -/
structure SerTx where
  /-- ADDRESS, 32 bits. -/
  addr : Nat := 0
  /-- PAYLOAD, as character values. -/
  payload : List Nat := []
  /-- PRIORITY, 1 to 8. -/
  prio : Nat := 8
  /-- Where it comes from. -/
  origin : TxOrigin := .plain
  /-- Monotonic tick of its request. -/
  at_ : Nat := 0
deriving DecidableEq, Repr

/-- A message in a serial receive buffer (10 R277). -/
structure SerRx where
  /-- ADDRESS, 32 bits. -/
  addr : Nat := 0
  /-- PAYLOAD, as character values. -/
  payload : List Nat := []
  /-- Timestamp, 72 bits. -/
  time : Nat := 0
deriving DecidableEq, Repr

/-- States of the transmitter (10 R280). -/
inductive SerMode where
  | ready | waiting | lead | sending | lag
deriving DecidableEq, Repr

/-- One serial engine (10 R279, R280, R290). -/
structure SerCh where
  /-- ENABLE (10 R290), reset DESIGN CHOICE 0 (log 12). -/
  enable : Bool := false
  /-- TABLE in force, 6 bits (10 R290), reset DESIGN CHOICE 0 (log 12). -/
  table : Nat := 0
  /-- TIME_EN (10 R290), reset DESIGN CHOICE 0 (log 12). -/
  timeEn : Bool := false
  /-- TIME_TABLE, 6 bits (10 R290), reset DESIGN CHOICE 0 (log 12). -/
  timeTable : Nat := 0
  /-- TX_LIFETIME, 12 bits, ms (10 R290), reset DESIGN CHOICE 0 (log 12). -/
  txLife : Nat := 0
  /-- BAUD in force, 24 bits, 0 for the table's (10 R290), reset DESIGN CHOICE 0 (log 12). -/
  baud : Nat := 0
  /-- TABLE and BAUD that wait for IDLE and READY (10 R280), reset none. -/
  next : Option (Nat × Nat) := none
  /-- Characters of the frame being received (10 R279), reset none (IDLE). -/
  chars : List Nat := []
  /-- RECEIVING (10 R279), reset IDLE. -/
  receiving : Bool := false
  /-- Timestamp of that frame's first start bit, 72 bits (10 R266), reset 0. -/
  rxTime : Nat := 0
  /-- Receive buffer, at most 4 messages (10 R265), reset empty. -/
  rxq : List SerRx := []
  /-- Transmit queue in the order of the requests, at most 16 messages and the time slot (10 R265), reset empty. -/
  txq : List SerTx := []
  /-- State of the transmitter (10 R280), reset READY. -/
  mode : SerMode := .ready
  /-- The message being waited for or sent (10 R280), reset none. -/
  cur : Option SerTx := none
  /-- Characters of its frame, still to be sent (10 R280), reset none. -/
  line : List Nat := []
  /-- Characters of its frame in all (10 R280), reset 0. -/
  total : Nat := 0
  /-- Attempts made (10 R280), reset 0. -/
  attempts : Nat := 0
  /-- LAST_ERROR, 4 bits (10 R295), reset 0. -/
  lastError : Nat := 0
deriving DecidableEq, Repr

/-- An idle serial engine. -/
def SerCh.dflt (_ : Nat) : SerCh := {}

/-- Wake and standby balls of a channel (10 R285, R292). -/
structure WakeBall where
  /-- WAKE_EN (10 R292), reset DESIGN CHOICE 0 (log 12). -/
  en : Bool := false
  /-- WAKE_POL (10 R292), reset DESIGN CHOICE 0 (log 12). -/
  pol : Nat := 0
  /-- WAKE_FILTER, 10 bits, µs (10 R292), reset DESIGN CHOICE 1 (log 12). -/
  filter : Nat := 1
  /-- STB_POL (10 R292), reset DESIGN CHOICE 0 (log 12). -/
  stbPol : Nat := 0
deriving DecidableEq, Repr

/-- The default wake and standby balls. -/
def WakeBall.dflt (_ : Nat) : WakeBall := {}

/-- No EDGE counters. -/
def EdgeCtr.dflt (_ : Nat) : EdgeCtr := {}

/-- A slot that has never been loaded reads 0. -/
def wordZero (_ : Nat) : Word := 0

/-- The legacy channels (10). -/
structure EdgeSt where
  /-- CAN0 to CAN5. -/
  can : Tbl CanCh := []
  /-- LIN0 to LIN3. -/
  lin : Tbl LinCh := []
  /-- SER0 to SER7. -/
  ser : Tbl SerCh := []
  /-- Counters of channels 0 to 17 (10 R286). -/
  ctr : Tbl EdgeCtr := []
  /-- Format table store, word i of slot n at 1 024 n + i (10 R275), reset DESIGN CHOICE 0 before start-up loads it (log 12). -/
  store : Tbl Word := []
  /-- Valid slots, by mask (10 R275), reset 0. -/
  valid : Nat := 0
  /-- Wake and standby balls of channels 0 to 17 (10 R292), AO domain. -/
  balls : Tbl WakeBall := []
  /-- Channels have been enabled at forwarding (18 R514), reset no. -/
  up : Bool := false
deriving DecidableEq, Repr

end Sys2Proof.Machine
end

