-- ==== Sys2Proof/Machine/StPool.lean ====
section
/-! DEFINITION. State of the buffers and pools of one fabric die (03). -/

namespace Sys2Proof.Machine

/-- The control record of a message buffer (03 R53), with its bitmap bit (03 R59). -/
structure BufRec where
  /-- Bitmap bit, 1 while in use (03 R59), reset 0. -/
  inUse : Bool := false
  /-- OWNER, 8 bits (03 R53), reset 0x3F. -/
  owner : Nat := 0x3F
  /-- SHARE, 5 bits (03 R53), reset 0. -/
  share : Nat := 0
deriving DecidableEq, Repr

/-- The default buffer record. -/
def BufRec.dflt (_ : Nat) : BufRec := {}

/-- The control record of a cell (03 R53). -/
structure CellRec where
  /-- NEXT, 15 bits (03 R53), reset 0x0000. -/
  next : Nat := 0
  /-- END, 1 bit (03 R53), reset 1. -/
  last : Bool := true
  /-- OWNER, 8 bits (03 R53), reset 0x3F. -/
  owner : Nat := 0x3F
  /-- SHARE, 5 bits (03 R53), reset 0. -/
  share : Nat := 0
  /-- HEAD, 1 bit (03 R53), reset 0. -/
  head : Bool := false
deriving DecidableEq, Repr

/-- The default cell record. -/
def CellRec.dflt (_ : Nat) : CellRec := {}

/-- Counters of one pool (03 R67). -/
structure PoolCtr where
  /-- IN_USE, 16 bits (03 R67), reset 0. -/
  inUse : Nat := 0
  /-- HWM, 16 bits (03 R67), reset 0. -/
  hwm : Nat := 0
  /-- ALLOCS, 72 bits (03 R67), reset 0. -/
  allocs : Nat := 0
  /-- FREES, 72 bits (03 R67), reset 0. -/
  frees : Nat := 0
  /-- EMPTY_FAILS, 36 bits (03 R67), reset 0. -/
  emptyFails : Nat := 0
  /-- FALLBACKS, 36 bits (03 R67), reset 0. -/
  fallbacks : Nat := 0
  /-- CONTENDED, 36 bits (03 R67), reset 0. -/
  contended : Nat := 0
  /-- DOUBLE_FREES, 36 bits (03 R67), reset 0. -/
  doubleFrees : Nat := 0
  /-- NOT_OWNER_FREES, 36 bits (03 R67), reset 0. -/
  notOwner : Nat := 0
  /-- RELEASE_ERRORS, 36 bits (03 R67), reset 0. -/
  releaseErrs : Nat := 0
deriving DecidableEq, Repr

/-- The default pool counters. -/
def PoolCtr.dflt (_ : Nat) : PoolCtr := {}

/-- Per-output pool state (03 R64, R67; 02 R45). -/
structure OutPool where
  /-- CELLS_HELD, 16 bits (03 R67), reset 0. -/
  held : Nat := 0
  /-- CELLS_HWM, 16 bits (03 R67), reset 0. -/
  hwm : Nat := 0
  /-- NO_CELL_DROPS, 72 bits (03 R67), reset 0. -/
  noCellDrops : Nat := 0
  /-- LIMIT_DROPS, 72 bits (03 R67), reset 0. -/
  limitDrops : Nat := 0
  /-- POCKET_SPILLS, 72 bits (02 R45), reset 0. -/
  spills : Nat := 0
deriving DecidableEq, Repr

/-- The default per-output pool state. -/
def OutPool.dflt (_ : Nat) : OutPool := {}

/-- An entry of the pool error log (03 R66). -/
structure PoolErr where
  /-- KIND, 4 bits. -/
  kind : Nat := 0
  /-- POOL, 3 bits. -/
  pool : Nat := 0
  /-- INDEX, 15 bits. -/
  index : Nat := 0
  /-- REQUESTER, 8 bits. -/
  requester : Nat := 0
  /-- OWNER, 8 bits. -/
  owner : Nat := 0
  /-- SHARE, 5 bits. -/
  share : Nat := 0
  /-- TIME, bits 35:0 of the time value. -/
  time : Nat := 0
deriving DecidableEq, Repr

/-- Word 0 of a free cell after power-up: free mark, LIST_END and NEXT_FREE of the ascending chain (03 R52). -/
def freeWord (c : Nat) : Word :=
  if c = 32767 then pack [(32, 4, 15), (31, 1, 1)] else pack [(32, 4, 15), (0, 15, c + 1)]

/-- What a cell-store word reads as before it is written: word 0 of each cell carries the free list, the rest is open (03 R52);
the open words read 0 as a DESIGN CHOICE (log 12). -/
def cellWordDflt (a : Nat) : Word := if a % 64 = 0 then freeWord (a / 64) else 0

/-- Factory SHARED_LIMIT (03 R64). -/
def limitDflt (o : Nat) : Nat := if o = 13 ∨ o = 14 then 2048 else 0

/-- Factory USE_LEVEL of pools 0 to 4 (03 R66). -/
def levelDflt (p : Nat) : Nat :=
  match p with | 0 => 28672 | 1 => 3584 | 2 => 896 | 3 => 224 | _ => 0

/-- Zero at every index. -/
def zeroAt (_ : Nat) : Nat := 0

/-- The zero word at every index. -/
def zeroW (_ : Nat) : Word := 0

/-- The empty list at every index. -/
def nilAt {α : Type} (_ : Nat) : List α := []

/-- Buffers and pools of one fabric die (03). -/
structure PoolSt where
  /-- The free list has been built and the die accepts ingress (03 R52), reset no. -/
  built : Bool := false
  /-- Cell store, 32 768 cells of 64 words of 36 bits, word w of cell c at 64 c + w (03 R50), reset: the free list in word 0 (03 R52); other words DESIGN CHOICE 0 (log 12). -/
  cells : Tbl Word := []
  /-- Head of the free list; none is the EMPTY flag (03 R52), reset cell 0. -/
  freeHead : Option Nat := some 0
  /-- Control record of each cell, 36 bits (03 R53). -/
  recs : Tbl CellRec := []
  /-- Records and bitmap of MP64, 4 096 buffers (03 R50), reset all free. -/
  mp64 : Tbl BufRec := []
  /-- Records and bitmap of MP256, 1 024 buffers (03 R50), reset all free. -/
  mp256 : Tbl BufRec := []
  /-- Records and bitmap of MP2K, 256 buffers (03 R50), reset all free. -/
  mp2k : Tbl BufRec := []
  /-- Content of message buffers, words of buffer i of pool p at 65 536 p + i (03 R50), reset DESIGN CHOICE none (log 12). -/
  content : Tbl (List Word) := []
  /-- Pocket bitmap of each crosspoint 0 to 288, 32 bits (03 R50), reset 0. -/
  pockets : Tbl Nat := []
  /-- Pocket words, word w of unit u of crosspoint c at 512 c + 16 u + w (01 R22), reset DESIGN CHOICE 0 (log 12). -/
  pocketWords : Tbl Word := []
  /-- UNITS_HWM of each crosspoint, 6 bits (03 R67), reset 0. -/
  unitsHwm : Tbl Nat := []
  /-- Spare cells of each ingress writer, next to be used first (03 R56), reset none before the list is built. -/
  spares : Tbl (List Nat) := []
  /-- Counters of pools 0 to 4 (03 R67). -/
  ctr : Tbl PoolCtr := []
  /-- Per-output state (03 R64, R67). -/
  outs : Tbl OutPool := []
  /-- SHARED_LIMIT of each output, 16 bits (03 R64), reset 2 048 at outputs 13 and 14, else 0. -/
  limits : Tbl Nat := []
  /-- USE_LEVEL of pools 0 to 4 (03 R66), reset 28 672, 3 584, 896, 224, 0. -/
  levels : Tbl Nat := []
  /-- Error log, the last 16 entries, oldest first (03 R66), reset empty. -/
  errLog : List PoolErr := []
  /-- TOTAL errors logged, 36 bits (03 R72), reset 0. -/
  errTotal : Nat := 0
deriving DecidableEq, Repr

end Sys2Proof.Machine
end

