-- ==== Sys2Proof/Machine/StEgress.lean ====
section
/-! DEFINITION. State of egress scheduling: gate lists, shapers, preemption, queue counters and samplers (07). -/

namespace Sys2Proof.Machine

/-- Configuration of one gate list (07 R175). -/
structure ListCfg where
  /-- GATE_EN (07 R175), reset 0. -/
  gateEn : Bool := false
  /-- LIST_LEN, 11 bits (07 R175), reset 1. -/
  len : Nat := 1
  /-- CYCLE_TIME, 30 bits, ns (07 R175), reset 1 000 000. -/
  cycle : Nat := 1000000
  /-- CYCLE_EXT, 20 bits, ns (07 R175), reset 0. -/
  ext : Nat := 0
  /-- GUARD_EXTRA, 12 bits, ns (07 R175), reset 0. -/
  guard : Nat := 0
  /-- BASE_TIME, 72 bits (07 R175), reset 0. -/
  base : Nat := 0
deriving DecidableEq, Repr

/-- One bank: configuration, entries and patterns (07 R174). -/
structure GateBank where
  /-- Configuration (07 R175). -/
  cfg : ListCfg := {}
  /-- Entries 0 to 1 023, 36 bits (07 R174), reset 0. -/
  entries : Tbl Word := []
  /-- Patterns 0 to 63, 36 bits (07 R174), reset 0. -/
  patterns : Tbl Word := []
deriving DecidableEq, Repr

/-- Gate machinery states, in the order of their codes (07 R179, R198). -/
inductive GateMode where
  | off | running | pending | copying
deriving DecidableEq, Repr

/-- Gate machinery of one front port (07 R176 to R183). -/
structure GateSt where
  /-- Bank 0 (07 R174). -/
  bank0 : GateBank := {}
  /-- Bank 1 (07 R174). -/
  bank1 : GateBank := {}
  /-- BANK that is operational (07 R198), reset DESIGN CHOICE 0 (log 12). -/
  bank : Nat := 0
  /-- STATE (07 R179), reset OFF. -/
  mode : GateMode := .off
  /-- State before the commit (07 R179), reset OFF. -/
  before : GateMode := .off
  /-- CT pending, or of the last change, quarter ns (07 R198), reset DESIGN CHOICE 0 (log 12). -/
  ct : Nat := 0
  /-- The cycle that ended at this instant is extended to CT (07 R180), quarter ns, reset none. -/
  extend : Option Int := none
  /-- HOLD (07 R176), reset 0. -/
  hold : Bool := false
  /-- Entry in force, 10 bits (07 R198), reset DESIGN CHOICE 0 (log 12). -/
  entry : Nat := 0
  /-- Start of the cycle in force, quarter ns (07 R198), reset DESIGN CHOICE 0 (log 12). -/
  start : Int := 0
  /-- CYCLE_RESTARTS, 36 bits (07 R198), reset 0. -/
  restarts : Nat := 0
  /-- Ticks of the last shaper refill (07 R184), reset 0. -/
  refillAt : Nat := 0
deriving DecidableEq, Repr

/-- The default gate machinery. -/
def GateSt.dflt (_ : Nat) : GateSt := {}

/-- Settings of one queue of a port (07 R200). -/
structure QueueCfg where
  /-- CBS_EN (07 R200), reset 0. -/
  cbs : Bool := false
  /-- YELLOW_LIMIT, 10 bits, KiB (07 R200), reset 0. -/
  yellow : Nat := 0
  /-- QMAX_SDU, 14 bits (07 R200), reset 9 216. -/
  qmax : Nat := 9216
  /-- IDLE_SLOPE, 24 bits, kb/s (07 R200), reset 0. -/
  slope : Nat := 0
  /-- CBS_EN that the refills use (07 R185), reset 0. -/
  cbsNow : Bool := false
  /-- IDLE_SLOPE that the refills use (07 R185), reset 0. -/
  slopeNow : Nat := 0
  /-- Credit in 1/1 024 bit (07 R184), reset 0. -/
  credit : Int := 0
deriving DecidableEq, Repr

/-- The default queue settings. -/
def QueueCfg.dflt (_ : Nat) : QueueCfg := {}

/-- Counters of one queue of an output (07 R190). -/
structure QueueCtr where
  /-- HWM_BYTES, 24 bits (07 R190), reset 0. -/
  hwm : Nat := 0
  /-- TX_FRAMES, 72 bits (07 R190), reset 0. -/
  txFrames : Nat := 0
  /-- TX_OCTETS, 72 bits (07 R190), reset 0. -/
  txOctets : Nat := 0
  /-- DELAY_MIN, 36 bits (07 R190), reset 0xF_FFFF_FFFF. -/
  delayMin : Nat := max36
  /-- DELAY_MAX, 36 bits (07 R190), reset 0. -/
  delayMax : Nat := 0
  /-- SDU_EXCEEDED, 36 bits (07 R190), reset 0. -/
  sduExceeded : Nat := 0
  /-- YELLOW_DROPS, 36 bits (07 R190), reset 0. -/
  yellowDrops : Nat := 0
  /-- TX_OVERRUN, 36 bits (07 R190), reset 0. -/
  txOverrun : Nat := 0
  /-- CREDIT_CLAMPS, 36 bits (07 R190), reset 0. -/
  creditClamps : Nat := 0
deriving DecidableEq, Repr

/-- Zero queue counters. -/
def QueueCtr.dflt (_ : Nat) : QueueCtr := {}

/-- Verification states of the MAC merge, in the order of their codes (07 R204). -/
inductive VerifyMode where
  | disabled | initial | verifying | succeeded | failed
deriving DecidableEq, Repr

/-- MAC merge of one front port (07 R187, R203, R204). -/
structure MmSt where
  /-- PREEMPT_EN (07 R203), reset 0. -/
  en : Bool := false
  /-- VERIFY_EN (07 R203), reset 1. -/
  verifyEn : Bool := true
  /-- VERIFY_MS, 8 bits (07 R203), reset 10. -/
  verifyMs : Nat := 10
  /-- ADD_FRAG, 2 bits (07 R203), reset 0. -/
  addFrag : Nat := 0
  /-- VERIFY_STATE (07 R204), reset 0 DEDUCED (PREEMPT_EN is 0). -/
  verify : VerifyMode := .disabled
  /-- Verify mPackets sent without an answer (07 R187), reset 0. -/
  attempts : Nat := 0
  /-- FRAG_TX, 72 bits (07 R204), reset 0. -/
  fragTx : Nat := 0
  /-- FRAG_RX, 72 bits (07 R204), reset 0. -/
  fragRx : Nat := 0
  /-- ASSY_OK, 72 bits (07 R204), reset 0. -/
  assyOk : Nat := 0
  /-- ASSY_ERR, 18 bits (07 R204), reset 0. -/
  assyErr : Nat := 0
  /-- SMD_ERR, 18 bits (07 R204), reset 0. -/
  smdErr : Nat := 0
  /-- HOLDS, 36 bits (07 R204), reset 0. -/
  holds : Nat := 0
deriving DecidableEq, Repr

/-- The default MAC merge. -/
def MmSt.dflt (_ : Nat) : MmSt := {}

/-- One sampler (07 R191, R206). -/
structure Sampler where
  /-- ENABLE (07 R206), reset 0 DESIGN CHOICE (log 12). -/
  enable : Bool := false
  /-- OUTPUT, 5 bits (07 R206), reset DESIGN CHOICE 0 (log 12). -/
  output : Nat := 0
  /-- QUEUE, 5 bits (07 R206), reset DESIGN CHOICE 0 (log 12). -/
  queue : Nat := 0
  /-- PERIOD, 20 bits, µs (07 R206), reset DESIGN CHOICE 1 (log 12). -/
  period : Nat := 1
  /-- BIN_BASE, 28 bits, ns (07 R206), reset DESIGN CHOICE 0 (log 12). -/
  binBase : Nat := 0
  /-- BIN_WIDTH, 20 bits, ns (07 R206), reset DESIGN CHOICE 1 (log 12). -/
  binWidth : Nat := 1
  /-- DELAY_LIMIT, 28 bits, ns (07 R206), reset DESIGN CHOICE 0 (log 12). -/
  limit : Nat := 0
  /-- Bins 0 to 15, 36 bits each (07 R191), reset 0. -/
  bins : Tbl Nat := []
  /-- OVER_LIMIT, 36 bits (07 R191), reset 0. -/
  above : Nat := 0
  /-- Depth samples, at most 32, oldest first (07 R191), reset none. -/
  samples : List Word := []
  /-- Ticks of the last depth sample (07 R191), reset 0. -/
  lastAt : Nat := 0
deriving DecidableEq, Repr

/-- A sampler at rest. -/
def Sampler.dflt (_ : Nat) : Sampler := {}

/-- Transmission at one output of a die (07 R172, R178, R184). -/
structure TxSt where
  /-- The frame and copy being sent, by their numbers, none when the output is idle (07 R172), reset none. -/
  cur : Option (Nat × Nat) := none
  /-- The frame and copy selected to follow it, and the earliest instant of its egress timestamp, quarter ns (02 R36), reset none. -/
  next : Option (Nat × Nat × Nat) := none
  /-- An interrupted preemptable frame and its copy (07 R188), reset none. -/
  paused : Option (Nat × Nat) := none
  /-- The selected frame waits for the PLCA transmit opportunity (07 R171), reset no. -/
  waitPlca : Bool := false
  /-- Queue whose frame is being charged (07 R184), reset 0. -/
  queue : Nat := 0
  /-- Instant at which its preamble began, quarter ns, reset 0. -/
  beginQ : Nat := 0
  /-- Bytes on the line from there to its last byte, preamble included, reset 0. -/
  dur : Nat := 0
  /-- Bytes that are charged to the credit in all (07 R184), reset 0. -/
  bytes : Nat := 0
  /-- Bytes of it sent before its interruption (07 R188), reset 0. -/
  base : Nat := 0
  /-- Bytes charged to the credit so far (07 R184), reset 0. -/
  charged : Nat := 0
  /-- CLOSE that applied at its start, quarter ns (07 R178), reset none. -/
  close : Option Int := none
  /-- Instant from which the line is free again, quarter ns, reset 0. -/
  freeQ : Nat := 0
deriving DecidableEq, Repr

/-- An idle output. -/
def TxSt.dflt (_ : Nat) : TxSt := {}

/-- Egress scheduling of one fabric die (07). -/
structure EgressDyn where
  /-- Counters of queue q of local index o at 32 o + q (07 R190). -/
  queues : Tbl QueueCtr := []
  /-- Samplers 0 to 3 (07 R191). -/
  samplers : Tbl Sampler := []
  /-- Transmission at each output (07 R172). -/
  tx : Tbl TxSt := []
deriving DecidableEq, Repr

/-- Egress scheduling settings and gates (07). -/
structure EgressSt where
  /-- Gate machinery of front ports 0 to 25 (07 R174). -/
  gates : Tbl GateSt := []
  /-- Settings of queue q of port p at 32 p + q (07 R200). -/
  queues : Tbl QueueCfg := []
  /-- PREEMPT_QUEUES, 32 bits (07 R186), reset 0. -/
  preempt : Nat := 0
  /-- MAC merge of front ports 0 to 25 (07 R203). -/
  mm : Tbl MmSt := []
deriving DecidableEq, Repr

end Sys2Proof.Machine
end

