-- ==== Sys2Proof/Machine/StZone.lean ====
section
/-! DEFINITION. State of the zones, the permission matrix, the stream filters and the meters (06). -/

namespace Sys2Proof.Machine

/-- Configuration of one stream filter (06 R150, R167). -/
structure FilterCfg where
  /-- VALID (06 R167), reset 0. -/
  valid : Bool := false
  /-- PCP_WILD (06 R167), reset DESIGN CHOICE 0 (image; log 12). -/
  pcpWild : Bool := false
  /-- PCP, 3 bits (06 R167), reset DESIGN CHOICE 0 (image; log 12). -/
  pcp : Nat := 0
  /-- STREAM, 14 bits (06 R167), reset DESIGN CHOICE 0 (image; log 12). -/
  stream : Nat := 0
  /-- PORT_WILD (06 R167), reset DESIGN CHOICE 0 (image; log 12). -/
  portWild : Bool := false
  /-- PORT, 5 bits (06 R167), reset DESIGN CHOICE 0 (image; log 12). -/
  port : Nat := 0
  /-- BLOCK_OVERSIZE (06 R167), reset DESIGN CHOICE 0 (image; log 12). -/
  blockOversize : Bool := false
  /-- MAX_SDU, 14 bits (06 R167), reset DESIGN CHOICE 0 (image; log 12). -/
  maxSdu : Nat := 0
  /-- METER_EN (06 R167), reset DESIGN CHOICE 0 (image; log 12). -/
  meterEn : Bool := false
  /-- METER, 10 bits (06 R167), reset DESIGN CHOICE 0 (image; log 12). -/
  meter : Nat := 0
deriving DecidableEq, Repr

/-- A disabled filter. -/
def FilterCfg.dflt (_ : Nat) : FilterCfg := {}

/-- Configuration of one meter (06 R153, R165). -/
structure MeterCfg where
  /-- CM (06 R153), reset DESIGN CHOICE 0 (image; log 12). -/
  cm : Bool := false
  /-- CF (06 R153), reset DESIGN CHOICE 0 (image; log 12). -/
  cf : Bool := false
  /-- DEI_MARK (06 R153), reset DESIGN CHOICE 0 (image; log 12). -/
  deiMark : Bool := false
  /-- MARK_ALL_RED_EN (06 R153), reset DESIGN CHOICE 0 (image; log 12). -/
  marEn : Bool := false
  /-- OVERHEAD, 6 bits, bytes (06 R153), reset DESIGN CHOICE 0 (image; log 12). -/
  overhead : Nat := 0
  /-- CIR, 21 bits, units of 8 kb/s (06 R153), reset DESIGN CHOICE 0 (image; log 12). -/
  cir : Nat := 0
  /-- EIR, 21 bits, units of 8 kb/s (06 R153), reset DESIGN CHOICE 0 (image; log 12). -/
  eir : Nat := 0
  /-- CBS, 20 bits, bytes (06 R153), reset DESIGN CHOICE 0 (image; log 12). -/
  cbs : Nat := 0
  /-- EBS, 20 bits, bytes (06 R153), reset DESIGN CHOICE 0 (image; log 12). -/
  ebs : Nat := 0
deriving DecidableEq, Repr

/-- A meter that passes nothing. -/
def MeterCfg.dflt (_ : Nat) : MeterCfg := {}

/-- State and counters of one filter on one die (06 R150, R151, R158). -/
structure FilterDyn where
  /-- BLOCKED (06 R151), reset 0. -/
  blocked : Bool := false
  /-- MATCHED, 72 bits (06 R158), reset 0. -/
  matched : Nat := 0
  /-- SDU_DROPS, 36 bits (06 R158), reset 0. -/
  sduDrops : Nat := 0
  /-- BLOCKED_DROPS, 36 bits (06 R158), reset 0. -/
  blockedDrops : Nat := 0
  /-- SDU_LATE, 36 bits (06 R158), reset 0. -/
  sduLate : Nat := 0
deriving DecidableEq, Repr

/-- A fresh filter. -/
def FilterDyn.dflt (_ : Nat) : FilterDyn := {}

/-- State and counters of one meter on one die (06 R153, R154, R158). -/
structure MeterDyn where
  /-- Committed bucket tc, 1/1 024 byte (06 R153), reset DESIGN CHOICE 0 (log 12). -/
  tc : Nat := 0
  /-- Part of a committed refill below 1/1 024 byte, in 1/62 500 of it (06 R153), reset 0. -/
  tcRem : Nat := 0
  /-- Excess bucket te, 1/1 024 byte (06 R153), reset DESIGN CHOICE 0 (log 12). -/
  te : Nat := 0
  /-- Part of an excess refill below 1/1 024 byte (06 R153), reset 0. -/
  teRem : Nat := 0
  /-- LAST, quarter ns of time-of-day (06 R154), reset 0. -/
  last : Nat := 0
  /-- MARK_ALL_RED (06 R154), reset 0. -/
  mar : Bool := false
  /-- GREEN, 72 bits (06 R158), reset 0. -/
  green : Nat := 0
  /-- YELLOW, 72 bits (06 R158), reset 0. -/
  yellow : Nat := 0
  /-- RED, 72 bits (06 R158), reset 0. -/
  red : Nat := 0
deriving DecidableEq, Repr

/-- A fresh meter. -/
def MeterDyn.dflt (_ : Nat) : MeterDyn := {}

/-- Row i of the factory matrix: only PERMIT(i, i) is 1 (06 R147). -/
def rowDflt (i : Nat) : Nat := 2 ^ i

/-- Zones, matrix, filters and meters as configured on both fabric dies, with the copy of D5 (06). -/
structure ZoneSt where
  /-- Zone of ports 0 to 31, 4 bits each (06 R143), reset Z0. -/
  port : Tbl Nat := []
  /-- Zone of legacy channels 0 to 17, 4 bits each (06 R143), reset Z0. -/
  chan : Tbl Nat := []
  /-- Gateway zone table by STREAM: VALID and ZONE (06 R146), reset not valid DEDUCED (no mapping). -/
  gw : Tbl (Option Nat) := []
  /-- Rows of the permission matrix, 16 bits each (06 R147), reset only PERMIT(i, i). -/
  permit : Tbl Nat := []
  /-- Filters 0 to 1 023 (06 R150). -/
  filters : Tbl FilterCfg := []
  /-- Meters 0 to 1 023 (06 R153). -/
  meters : Tbl MeterCfg := []
deriving DecidableEq, Repr

/-- Filters, meters and counters of one fabric die (06 R158). -/
structure ZoneDyn where
  /-- GW_UNMAPPED, 36 bits (06 R158), reset 0. -/
  gwUnmapped : Nat := 0
  /-- State of filters 0 to 1 023. -/
  filters : Tbl FilterDyn := []
  /-- State of meters 0 to 1 023. -/
  meters : Tbl MeterDyn := []
deriving DecidableEq, Repr

end Sys2Proof.Machine
end

