-- ==== Sys2Proof/Machine/StFab.lean ====
section
/-! DEFINITION. State of the frame path of one fabric die: frames, parse engines, output queues, mirror sessions, fragments, FRER state and counters (02, 04, 05). -/

namespace Sys2Proof.Machine

/-- The descriptor of a frame (02 R26). -/
structure Desc where
  /-- IN_PORT, 5 bits. -/
  inPort : Nat := 0
  /-- IN_ZONE, 4 bits. -/
  inZone : Nat := 0
  /-- CLASS, 4 bits. -/
  cls : Nat := 0
  /-- LENGTH, 14 bits. -/
  length : Nat := 0
  /-- LEN_VALID. -/
  lenValid : Bool := false
  /-- CT. -/
  ct : Bool := false
  /-- SEAM. -/
  seam : Bool := false
  /-- HEM. -/
  hem : Bool := false
  /-- Ingress timestamp, 72 bits. -/
  inTs : Nat := 0
  /-- OUT_MASK, 17 bits, bit o for local index o. -/
  outMask : Nat := 0
  /-- QUEUE, 5 bits. -/
  queue : Nat := 0
  /-- STREAM, 14 bits. -/
  stream : Nat := 0
  /-- FAR_MASK, 17 bits. -/
  farMask : Nat := 0
  /-- SEQ, 16 bits. -/
  seq : Nat := 0
  /-- SEQ_VALID. -/
  seqValid : Bool := false
  /-- COLOUR, 2 bits. -/
  colour : Nat := 0
  /-- FWD_GEN, 8 bits. -/
  fwdGen : Nat := 0
  /-- RULE_GEN, 8 bits. -/
  ruleGen : Nat := 0
  /-- RULE, 12 bits. -/
  rule : Nat := 0
  /-- MIRROR, 4 bits. -/
  mirror : Nat := 0
  /-- CPU_COPY. -/
  cpuCopy : Bool := false
  /-- PREEMPT. -/
  preempt : Bool := false
  /-- VLAN_ACT, 4 bits. -/
  vlanAct : Nat := 0
  /-- VID, 12 bits. -/
  vid : Nat := 0
  /-- PCP, 3 bits. -/
  pcp : Nat := 0
  /-- DEI. -/
  dei : Nat := 0
  /-- Seam pin of the matching group: 0 hash, 1 SA, 2 SB (05 R113). -/
  pin : Nat := 0
  /-- FRER recovery function to be run by each die that enqueues the frame (05 R124). -/
  recover : Option Nat := none
  /-- The full generation of the rule bank used, which retirement waits for (04 R94). -/
  gen : Nat := 0
deriving DecidableEq, Repr

/-- A verdict of one egress zone (04 R90, R91). -/
structure Verdict where
  /-- Egress zone. -/
  zone : Nat := 0
  /-- Judged FORWARD. -/
  fwd : Bool := false
  /-- CPU_COPY. -/
  cpu : Bool := false
  /-- MIRROR, 4 bits. -/
  mirror : Nat := 0
  /-- QUEUE when Q_OVR is 1. -/
  qOvr : Option Nat := none
  /-- METER when METER_EN is 1. -/
  meter : Option Nat := none
  /-- RULE, 0 for a group default. -/
  rule : Nat := 0
  /-- RC_PROG when the rule gave RECIRC. -/
  recirc : Option Nat := none
deriving DecidableEq, Repr

/-- The result of a parse (04 R76, R77). -/
structure ParseRes where
  /-- CLASS. -/
  cls : Nat := 0
  /-- Extracted fields by FIELD number; an absent field is unlisted. -/
  fields : List (Nat × List Byte) := []
  /-- Derived length of the first LENSET. -/
  lenD : Option Nat := none
  /-- RC_OFF. -/
  rcOff : Option Nat := none
  /-- The two bytes before IP_ID6 (04 R91). -/
  frag6 : Option Nat := none
  /-- Malformed, with its cause (04 R81). -/
  mal : Option Nat := none
deriving DecidableEq, Repr

/-- One parse engine (04 R75). -/
structure Engine where
  /-- The frame it holds, when it is not free. -/
  fid : Option Nat := none
  /-- It runs a second pass (04 R96). -/
  second : Bool := false
  /-- Program. -/
  prog : Nat := 0
  /-- Index of the next instruction, 9 bits. -/
  pc : Nat := 0
  /-- Steps executed. -/
  steps : Nat := 0
  /-- BUDGET. -/
  budget : Nat := 48
  /-- Cursor (04 R75), reset 0. -/
  cursor : Nat := 0
  /-- Scratch registers S0 to S3, 32 bits (04 R75), reset 0. -/
  s : List Nat := [0, 0, 0, 0]
  /-- Window: offset of its byte 0 in the frame, and its bytes. -/
  base : Nat := 0
  /-- The window's bytes. -/
  win : List Byte := []
  /-- The window holds the whole (rest of the) frame. -/
  whole : Bool := false
  /-- The parse result so far. -/
  res : ParseRes := {}
  /-- The parse is complete and the result waits for the collector. -/
  done : Bool := false
deriving DecidableEq, Repr

/-- A free engine. -/
def Engine.dflt (_ : Nat) : Engine := {}

/-- What a copy of a frame is doing at its output. -/
inductive CopyMode where
  /-- Named in the descriptor, not yet enqueued. -/
  | named
  /-- In its output queue. -/
  | queued
  /-- Started on its output. -/
  | sending
deriving DecidableEq, Repr

/-- A frame's copy at one output: its queue entry and its storage (02 R26, R27). -/
structure Copy where
  /-- Number of the copy within its frame. -/
  cid : Nat := 0
  /-- Local index of the output. -/
  out : Nat := 0
  /-- Queue. -/
  queue : Nat := 0
  /-- What it is doing. -/
  mode : CopyMode := .named
  /-- The mirror session it belongs to (02 R43). -/
  mirror : Option Nat := none
  /-- Die of that session. -/
  mirrorDie : Fab := .west
  /-- The copy at whose enqueue an egress-mirror copy is taken, until then (02 R43). -/
  after : Option Nat := none
  /-- It ends bad, with the cause of 02 R39. -/
  bad : Option Nat := none
  /-- The source port whose edits an egress-mirror copy takes (02 R43). -/
  editOf : Option Nat := none
  /-- Analysis port of an egress-mirror copy that crosses the Seam (02 R43). -/
  dest : Nat := 0
  /-- TRUNCATE of its mirror session, 0 for none. -/
  trunc : Nat := 0
  /-- MAL_COPY: only the first 64 bytes (04 R81). -/
  head64 : Bool := false
  /-- CT: it was enqueued before the frame's end was received. -/
  ct : Bool := false
  /-- Pocket-eligible at this output (02 R27). -/
  pocket : Bool := false
  /-- Pocket units it holds, in chain order (02 R27). -/
  units : List Nat := []
  /-- Head of its private spill chain (03 R56). -/
  spill : Option Nat := none
  /-- Last cell of its spill chain. -/
  spillTail : Nat := 0
  /-- Fabric words in its spill chain. -/
  spillWords : Nat := 0
  /-- It holds a share of the common chain (03 R56). -/
  shares : Bool := false
  /-- Cells it adds to CELLS_HELD (03 R64). -/
  held : Nat := 0
  /-- Place in its queue: the die's enqueue count when it was enqueued (02 R32). -/
  order : Nat := 0
  /-- Egress timestamp, quarter ns, once started. -/
  startQ : Nat := 0
  /-- Bytes of it sent before it was interrupted (07 R188). -/
  sent : Nat := 0
  /-- Fabric words sent over the Seam (01 R19). -/
  seamSent : Nat := 0
  /-- Seam link it was started on: 0 SA, 1 SB. -/
  link : Nat := 0
deriving DecidableEq, Repr

/-- Where a frame stands before it is stored (02 R25). -/
inductive FrameMode where
  | staged | parsing | waitSecond | parsing2 | decided
deriving DecidableEq, Repr

/-- The stacking header that came with a frame on a Hem link (17 R494). -/
structure HemHdr where
  /-- IN_ZONE, 4 bits. -/
  zone : Nat := 0
  /-- IN_PORT, 5 bits. -/
  inPort : Nat := 0
  /-- HOPS, 2 bits. -/
  hops : Nat := 0
  /-- ORIGIN, 2 bits. -/
  origin : Nat := 0
deriving DecidableEq, Repr

/-- What a meter has charged a frame (06 R155). -/
structure Charge where
  /-- The meter. -/
  meter : Nat := 0
  /-- The committed bucket was charged, else the excess bucket. -/
  committed : Bool := true
  /-- Bytes charged, with OVERHEAD. -/
  bytes : Nat := 0
deriving DecidableEq, Repr

/-- Messages that the time engine and the bridge put into the egress queues themselves (08 R223, 17 R498). -/
inductive OwnMsg where
  | sync (seq : Nat) | followUp (seq : Nat) | pdelayReq (seq : Nat) | pdelayResp (seq : Nat) | pdelayRespFollowUp (seq : Nat)
  | announce (seq : Nat) | stackControl | bridge
deriving DecidableEq, Repr

/-- A frame inside a fabric die (02 R25). -/
structure FrameSt where
  /-- Ingress port, 0 to 31. -/
  inPort : Nat := 0
  /-- Ingress timestamp, quarter ns of time-of-day (02 R25). -/
  tsQ : Nat := 0
  /-- Count of time steps at its ingress, which tells whether its timestamp precedes a step (08 R211). -/
  epoch : Nat := 0
  /-- Bytes from the destination address to the FCS, as they stand in ingress staging. -/
  bytes : List Byte := []
  /-- The FCS was right as received (09 R240). -/
  fcsOk : Bool := true
  /-- The PHY reported an error symbol or loss of lock during the frame (02 R39). -/
  phyErr : Bool := false
  /-- Validated by ingress MACsec (02 R30). -/
  macsec : Bool := false
  /-- Stacking header of a frame from a Hem link (17 R494). -/
  hem : Option HemHdr := none
  /-- Zone of the legacy channel of a frame from the gateway (06 R144). -/
  gwZone : Option Nat := none
  /-- SEQ of a removed R-TAG (05 R122). -/
  rtagSeq : Option Nat := none
  /-- Stage. -/
  mode : FrameMode := .staged
  /-- Sequence tag of its current pass (04 R83, R96). -/
  tag : Nat := 0
  /-- Its parse result holds OUTER_TCI (05 R118). -/
  tagged : Bool := false
  /-- Fabric words stored so far. -/
  stored : Nat := 0
  /-- Its end has been received and stored. -/
  ended : Bool := false
  /-- First-pass result, kept for the second pass (04 R96). -/
  res : Option ParseRes := none
  /-- First-pass verdicts of the zones judged (04 R96). -/
  verdicts : List Verdict := []
  /-- Descriptor as far as the first pass decided it, of a frame that waits for its second pass (04 R96). -/
  pre : Option Desc := none
  /-- Descriptor, once written. -/
  desc : Option Desc := none
  /-- Head of the common chain (03 R56). -/
  head : Option Nat := none
  /-- Last cell of the common chain. -/
  tail : Nat := 0
  /-- Cells of the common chain. -/
  cells : Nat := 0
  /-- The writer has not finished with the frame (03 R56). -/
  writer : Bool := false
  /-- The writer counts itself among the holders of the common chain until every copy is decided (03 R55, R56). -/
  writerShare : Bool := false
  /-- Copies, one per output. -/
  copies : List Copy := []
  /-- Copies that the far die is to make (02 R33). -/
  far : List Copy := []
  /-- Stored in shared cells only, after a second pass (04 R96). -/
  noPocket : Bool := false
  /-- It came over the Seam (02 R33): the link and the frame's number on the sending die. -/
  seamFrom : Option (Nat × Nat) := none
  /-- FRER recovery has been judged on this die: passed or discarded (05 R124). -/
  judged : Option Bool := none
  /-- Charges to be corrected at the end of the frame (06 R155). -/
  charges : List Charge := []
  /-- Filter whose length check waits for the end of the frame, with its MAX_SDU and BLOCK_OVERSIZE (06 R151). -/
  filter : Option (Nat × Nat × Bool) := none
  /-- DEI is set at every output that sends it with an outer tag (06 R156). -/
  deiMark : Bool := false
  /-- It goes to this queue of the active core's CPU port and nowhere else (08 R224, 09 R253). -/
  toCpu : Option Nat := none
  /-- A message of the device's own (08 R223, 17 R498). -/
  own : Option OwnMsg := none
deriving DecidableEq, Repr

/-- A fabric word on its way over a Seam link (01 R19). -/
structure SeamWord where
  /-- Number of the frame on the sending die. -/
  fid : Nat := 0
  /-- The frame's descriptor and copies, with its first word. -/
  header : Option FrameSt := none
  /-- The word's bytes. -/
  data : List Byte := []
  /-- It ends the frame. -/
  last : Bool := false
  /-- The frame ends bad, with its cause. -/
  bad : Option Nat := none
deriving DecidableEq, Repr

/-- A fragment table entry (04 R92). -/
structure FragEnt where
  /-- VALID. -/
  valid : Bool := false
  /-- V6. -/
  v6 : Bool := false
  /-- IN_ZONE, 4 bits. -/
  zone : Nat := 0
  /-- IP_PROTO, 8 bits. -/
  proto : Nat := 0
  /-- IP_ID, 32 bits. -/
  id : Nat := 0
  /-- SIP, 128 bits. -/
  sip : Nat := 0
  /-- DIP, 128 bits. -/
  dip : Nat := 0
  /-- Monotonic time (ns) of the first fragment; AGE counts from it (04 R92). -/
  born : Nat := 0
  /-- FRAG_TIMEOUT when it was made, ms (04 R107). -/
  timeout : Nat := 0
  /-- Verdicts, at most four. -/
  verdicts : List Verdict := []
deriving DecidableEq, Repr

/-- A free fragment entry. -/
def FragEnt.dflt (_ : Nat) : FragEnt := {}

/-- Counters of a zone pair (04 R98, 06 R158). -/
structure PairCtr where
  /-- DEFAULT_HITS, 72 bits (04 R98), reset 0. -/
  defHits : Nat := 0
  /-- INC_HITS, 36 bits (04 R98), reset 0. -/
  incHits : Nat := 0
  /-- FMISS_HITS, 36 bits (04 R98), reset 0. -/
  fmissHits : Nat := 0
  /-- POLICY_DENIES, 36 bits (06 R158), reset 0. -/
  denies : Nat := 0
deriving DecidableEq, Repr

/-- Zero pair counters. -/
def PairCtr.dflt (_ : Nat) : PairCtr := {}

/-- State and counters of one FRER function on one die (05 R125, R130). -/
structure FrerDyn where
  /-- GEN_SEQ, 16 bits (05 R125), reset 0. -/
  genSeq : Nat := 0
  /-- RECOV_SEQ, 16 bits (05 R125), reset DESIGN CHOICE 0 (log 12). -/
  recovSeq : Nat := 0
  /-- H, 32 bits (05 R125), reset 0. -/
  h : Nat := 0
  /-- TAKE_ANY (05 R125), reset 1. -/
  takeAny : Bool := true
  /-- GENERATED, 72 bits (05 R130), reset 0. -/
  generated : Nat := 0
  /-- PASSED, 72 bits (05 R130), reset 0. -/
  passed : Nat := 0
  /-- DISCARDED, 72 bits (05 R130), reset 0. -/
  discarded : Nat := 0
  /-- OUT_OF_ORDER, 36 bits (05 R130), reset 0. -/
  outOfOrder : Nat := 0
  /-- ROGUE, 36 bits (05 R130), reset 0. -/
  rogue : Nat := 0
  /-- LOST, 36 bits (05 R130), reset 0. -/
  lost : Nat := 0
  /-- TAGLESS, 36 bits (05 R130), reset 0. -/
  tagless : Nat := 0
  /-- RESETS, 36 bits (05 R130), reset 0. -/
  resets : Nat := 0
  /-- Monotonic time (ns) of the last passed frame, from which RESET_MS runs (05 R125), reset 0. -/
  passAt : Nat := 0
deriving DecidableEq, Repr

/-- A fresh FRER function. -/
def FrerDyn.dflt (_ : Nat) : FrerDyn := {}

/-- Frame-path configuration and counters of one output (02 R45, R46). -/
structure OutCfg where
  /-- CT_EN (02 R46), reset 1 at local indices 0 to 6, else 0. -/
  ctEn : Bool := false
  /-- RES_LIMIT, 20 bits (02 R46), reset 0. -/
  resLimit : Nat := 0
  /-- POCKET_MASK, 32 bits (02 R46), reset 0x0_FF00_0000. -/
  pocketMask : Nat := 0xFF000000
  /-- FLUSH_DROPS, 72 bits (02 R45), reset 0. -/
  flushDrops : Nat := 0
  /-- CT_BAD, 36 bits (02 R45), reset 0. -/
  ctBad : Nat := 0
  /-- Last cause of CT_BAD, 4 bits (02 R39), reset 0. -/
  ctCause : Nat := 0
  /-- BAD_DROPS, 36 bits (02 R45), reset 0. -/
  badDrops : Nat := 0
  /-- RES_OVERRUN, 36 bits (02 R45), reset 0. -/
  resOverrun : Nat := 0
deriving DecidableEq, Repr

/-- Factory configuration of the output with local index `o` (02, "PATH commands"). -/
def OutCfg.dflt (o : Nat) : OutCfg := { ctEn := decide (o ≤ 6) }

/-- A mirror session (02 R43, R48). -/
structure MirrorCfg where
  /-- ENABLE (02 R48), reset 0. -/
  enable : Bool := false
  /-- MODE, 2 bits (02 R48), reset DESIGN CHOICE 0 (log 12). -/
  mode : Nat := 0
  /-- DEST_PORT, 5 bits (02 R48), reset DESIGN CHOICE 0 (log 12). -/
  destPort : Nat := 0
  /-- DEST_QUEUE, 5 bits (02 R48), reset DESIGN CHOICE 0 (log 12). -/
  destQueue : Nat := 0
  /-- TRUNCATE, 14 bits (02 R48), reset DESIGN CHOICE 0 (log 12). -/
  truncate : Nat := 0
  /-- SOURCE_MASK, 32 bits (02 R48), reset DESIGN CHOICE 0 (log 12). -/
  sourceMask : Nat := 0
  /-- MIRROR_DROPS, 36 bits (02 R45), reset 0. -/
  drops : Nat := 0
deriving DecidableEq, Repr

/-- A disabled session. -/
def MirrorCfg.dflt (_ : Nat) : MirrorCfg := {}

/-- A learning request (05 R120). -/
structure LearnReq where
  /-- SMAC, 48 bits. -/
  mac : Nat := 0
  /-- Frame VID. -/
  vid : Nat := 0
  /-- Ingress port. -/
  port : Nat := 0
deriving DecidableEq, Repr

/-- The frame path of one fabric die (02, 04, 05). -/
structure FabSt where
  /-- Frames in the die, by their number on the die (02 R25), reset none. -/
  frames : List (Nat × FrameSt) := []
  /-- Number of the next frame; the model's own. -/
  nextFid : Nat := 0
  /-- Count of enqueues, which orders each queue; the model's own. -/
  nextOrder : Nat := 0
  /-- Parse engines 0 to 23 (04 R74), reset free. -/
  engines : Tbl Engine := []
  /-- Frames waiting for a second pass, at most 16 (04 R96), reset none. -/
  second : List Nat := []
  /-- Fabric words on their way over SA and SB from this die (01 R19), reset none. -/
  seamWords : Tbl (List SeamWord) := []
  /-- Output configuration and counters by local index (02 R46). -/
  outs : Tbl OutCfg := []
  /-- Mirror sessions 0 to 3 (02 R43). -/
  mirrors : Tbl MirrorCfg := []
  /-- SEAM_ERRORS, 36 bits (02 R45), reset 0. -/
  seamErrors : Nat := 0
  /-- HITS of each rule, 72 bits (04 R98), reset 0. -/
  hits : Tbl Nat := []
  /-- Zone-pair counters (04 R98, 06 R158). -/
  pairs : Tbl PairCtr := []
  /-- RECIRCS, 72 bits (04 R98), reset 0. -/
  recircs : Nat := 0
  /-- RECIRC_DROPS, 36 bits (04 R98), reset 0. -/
  recircDrops : Nat := 0
  /-- ZONE_EXCESS, 36 bits (04 R98), reset 0. -/
  zoneExcess : Nat := 0
  /-- Fragment table, 256 entries (04 R92), reset free. -/
  frags : Tbl FragEnt := []
  /-- FRAG_HITS, 72 bits (04 R98), reset 0. -/
  fragHits : Nat := 0
  /-- FRAG_MISSES, 36 bits (04 R98), reset 0. -/
  fragMisses : Nat := 0
  /-- FRAG_FULL, 36 bits (04 R98), reset 0. -/
  fragFull : Nat := 0
  /-- FRAG_TIMEOUTS, 36 bits (04 R98), reset 0. -/
  fragTimeouts : Nat := 0
  /-- Learning requests waiting, at most 16 (05 R120), reset none. -/
  learnQ : List LearnReq := []
  /-- FRAMES of each group on this die, 72 bits (05 R130), reset 0. -/
  groupFrames : Tbl Nat := []
  /-- OCTETS of each group on this die, 72 bits (05 R130), reset 0. -/
  groupOctets : Tbl Nat := []
  /-- MOVES, 36 bits (05 R130), reset 0. -/
  moves : Nat := 0
  /-- LEARN_FULL, 36 bits (05 R130), reset 0. -/
  learnFull : Nat := 0
  /-- LEARN_CONFLICTS, 36 bits (05 R130), reset 0. -/
  learnConflicts : Nat := 0
  /-- LEARN_OVERFLOW, 36 bits (05 R130), reset 0. -/
  learnOverflow : Nat := 0
  /-- REROUTED, 72 bits (05 R130), reset 0. -/
  rerouted : Nat := 0
  /-- FRER_MISCONFIG, 36 bits (05 R130), reset 0. -/
  frerMisconfig : Nat := 0
  /-- FRER state of functions 0 to 1 023 (05 R125). -/
  frer : Tbl FrerDyn := []
  /-- Filters and meters (06). -/
  zon : ZoneDyn := {}
  /-- Queue counters, samplers and transmission (07). -/
  egr : EgressDyn := {}
deriving DecidableEq, Repr

end Sys2Proof.Machine
end

