-- ==== Sys2Proof/Machine/StGw.lean ====
section
/-! DEFINITION. State of the gateway engine of the Cuff die (11). -/

namespace Sys2Proof.Machine

/-- A frame that a fabric die has handed to D5 (11 R297). -/
structure GwIn where
  /-- STREAM. -/
  stream : Nat := 0
  /-- IN_ZONE. -/
  zone : Nat := 0
  /-- Its bytes. -/
  bytes : List Byte := []
deriving DecidableEq, Repr

/-- Configuration of a bundle: words 1 to 8 of GW.BUNDLE_WRITE (11 R316), and what it collects (11 R310). -/
structure Bundle where
  /-- VALID (11 R316), reset 0. -/
  valid : Bool := false
  /-- Words 1 to 8 of its last write (11 R303), reset 0. -/
  words : List Word := []
  /-- ACF messages collected, in order (11 R310), reset none. -/
  acf : List (List Byte) := []
  /-- Zone of the messages collected (11 R296), reset 0. -/
  zone : Nat := 0
  /-- Tick at which the first message joined (11 R310), reset 0. -/
  since : Nat := 0
  /-- sequence_num, 8 bits (11 R298), reset DESIGN CHOICE 0 (log 12). -/
  seq : Nat := 0
  /-- IPv4 identification, 16 bits (11 R301), reset DESIGN CHOICE 0 (log 12). -/
  ipId : Nat := 0
  /-- Encapsulation sequence number, 32 bits (11 R301), reset 0. -/
  encap : Nat := 0
  /-- FRAMES, 72 bits (11 R315), reset 0. -/
  frames : Nat := 0
  /-- MESSAGES, 72 bits (11 R315), reset 0. -/
  messages : Nat := 0
  /-- TOO_LONG, 36 bits (11 R315), reset 0. -/
  tooLong : Nat := 0
deriving DecidableEq, Repr

/-- No bundle. -/
def Bundle.dflt (_ : Nat) : Bundle := {}

/-- An uplink or downlink entry: its words, its token bucket and its counters (11 R303, R306, R315). -/
structure GwEnt where
  /-- VALID (11 R317, R318), reset 0. -/
  valid : Bool := false
  /-- Words 1 to 5 of its last write (11 R303), reset 0. -/
  words : List Word := []
  /-- Tokens in units of 1/312 500 000 (11 R306), reset DESIGN CHOICE full at its write (log 12). -/
  tokens : Nat := 0
  /-- Tick of the last refill (11 R306), reset 0. -/
  last : Nat := 0
  /-- MATCHED, 72 bits (11 R315), reset 0. -/
  matched : Nat := 0
  /-- RATE_DROPS, 36 bits (11 R315), reset 0. -/
  rateDrops : Nat := 0
  /-- ZONE_DROPS, 36 bits (11 R315), reset 0. -/
  zoneDrops : Nat := 0
  /-- FIT_DROPS, 36 bits (11 R315), reset 0. -/
  fitDrops : Nat := 0
  /-- QUEUE_FULL, 36 bits (11 R315), reset 0. -/
  queueFull : Nat := 0
deriving DecidableEq, Repr

/-- No entry. -/
def GwEnt.dflt (_ : Nat) : GwEnt := {}

/-- A periodic slot (11 R312, R313, R319). -/
structure PerSlot where
  /-- VALID (11 R319), reset 0. -/
  valid : Bool := false
  /-- Words 1 to 4 of its last write (11 R303), reset 0. -/
  words : List Word := []
  /-- Payload, once written (11 R312), reset none. -/
  data : Option (List Byte) := none
  /-- Tick of the last payload write, moved to the end of a switchover gap for SOURCE 0 (11 R313, R314), reset 0. -/
  freshAt : Nat := 0
  /-- Stale (11 R313), reset no. -/
  isStale : Bool := false
  /-- Index k of the last instant handled (11 R312), reset 0. -/
  lastK : Nat := 0
  /-- SENT, 72 bits (11 R315), reset 0. -/
  sent : Nat := 0
  /-- PER_SKIPS, 36 bits (11 R315), reset 0. -/
  skips : Nat := 0
  /-- STALE, 36 bits (11 R315), reset 0. -/
  stale : Nat := 0
deriving DecidableEq, Repr

/-- No slot. -/
def PerSlot.dflt (_ : Nat) : PerSlot := {}

/-- The gateway (11). -/
structure GwSt where
  /-- Frames that have arrived at D5 and wait for decoding (11 R302), reset none. -/
  inbox : List GwIn := []
  /-- Bundles 0 to 63. -/
  bundles : Tbl Bundle := []
  /-- Uplink entries 0 to 1 023. -/
  up : Tbl GwEnt := []
  /-- Downlink entries 0 to 1 023. -/
  down : Tbl GwEnt := []
  /-- Periodic slots 0 to 255. -/
  slots : Tbl PerSlot := []
  /-- UNMATCHED of channels 0 to 17, 36 bits (11 R315), reset 0. -/
  unmatched : Tbl Nat := []
  /-- Index k of the last time-message instant handled, by channel (10 R284), reset 0. -/
  timeK : Tbl Nat := []
  /-- BAD_AVTP, 36 bits (11 R315), reset 0. -/
  badAvtp : Nat := 0
  /-- SKIPPED, 36 bits (11 R315), reset 0. -/
  skipped : Nat := 0
  /-- DOWN_UNMATCHED, 36 bits (11 R315), reset 0. -/
  downUnmatched : Nat := 0
  /-- LOOP_DROPS of D1 and D2, 36 bits each (11 R296, R315), reset 0. -/
  loopDrops : Tbl Nat := []
deriving DecidableEq, Repr

end Sys2Proof.Machine
end

