-- ==== Sys2Proof/Machine/StHost.lean ====
section
/-! DEFINITION. State of the access paths: mailboxes, event registers, late-write logs, the D0 window, rings and the seal (13). -/

namespace Sys2Proof.Machine

/-- One event register of a path (13 R373). -/
structure EvReg where
  /-- SEQ, 8 bits (13 R364, R373), reset 0x00. -/
  seq : Nat := 0
  /-- The raised flags f, rising, each with its L_f of 8 bits (13 R373), reset none. -/
  raised : List (Nat × Nat) := []
  /-- R_SEQ, 8 bits: SEQ returned by the last read (13 R373), reset DESIGN CHOICE 0 (log 12). -/
  rSeq : Nat := 0
  /-- MASK, 28 bits (13 R364), reset 0. -/
  mask : Nat := 0
  /-- Bits 35:32 of the word returned by the last counting read (13 R373), reset DESIGN CHOICE 0 (log 12). -/
  upper : Nat := 0
deriving DecidableEq, Repr

/-- A request in a mailbox, kept until its response is placed (13 R368, 12 R346). -/
structure Pend where
  /-- OPCODE, 12 bits (13 R367). -/
  opcode : Nat := 0
  /-- The request: path, TAG, FLAGS and payload (13 R367). -/
  req : Req := {}
  /-- The message buffers that hold it, as (die, pool, index) (03 R59, R60). -/
  bufs : List (Fab × Nat × Nat) := []
  /-- SEQ of the service-port message that brought it (13 R360). -/
  seq : Nat := 0
  /-- Its response is to be discarded: a function-level reset came after it was taken (13 R382). -/
  drop : Bool := false
deriving DecidableEq, Repr

/-- One entry of a clamp list (13 R371). -/
structure Clamp where
  /-- WORD, 8 bits: request word that holds the field. -/
  word : Nat := 0
  /-- LSB, 6 bits. -/
  lsb : Nat := 0
  /-- WIDTH, 6 bits. -/
  width : Nat := 0
  /-- REASON, 4 bits. -/
  reason : Nat := 0
  /-- GIVEN, 36 bits. -/
  given : Nat := 0
  /-- USED, 36 bits. -/
  used : Nat := 0
deriving DecidableEq, Repr

/-- A request that the active core has taken and not yet answered (13 R369). -/
structure Running where
  /-- The request taken. -/
  pend : Pend := {}
  /-- The clamp list collected when its fields were checked (13 R371). -/
  clamps : List Clamp := []
  /-- The payload words as used after clamping (00 R7). -/
  used : List Word := []
  /-- An intent record was made (12 R346). -/
  intent : Bool := false
  /-- The core that took it was fenced: the new core answers it TIMEOUT (12 R346). -/
  orphan : Bool := false
deriving DecidableEq, Repr

/-- A response that did not fit the FIFO, with its request and whether an intent record was made (12 R346, 13 R369). -/
structure HeldRsp where
  /-- Its words. -/
  words : List Word := []
  /-- The request, kept until the response is placed. -/
  pend : Pend := {}
  /-- An intent record was made. -/
  intent : Bool := false
deriving DecidableEq, Repr

/-- One entry of a late-write log (13 R384). -/
structure LateEntry where
  /-- REASON, 4 bits. -/
  reason : Nat := 0
  /-- ADDRESS, 32 bits. -/
  address : Nat := 0
  /-- TAG, 16 bits. -/
  tag : Nat := 0
  /-- TIME, bits 35:0 of the time value. -/
  time : Nat := 0
deriving DecidableEq, Repr

/-- One DMA ring (13 R378). -/
structure Ring where
  /-- ADDR_LO, bits 31:6 of the host address, held as the address (13 R378), reset 0. -/
  baseLo : Nat := 0
  /-- ADDR_HI, 32 bits (13 R378), reset 0. -/
  baseHi : Nat := 0
  /-- ENABLE, 1 bit (13 R378), reset 0. -/
  enable : Bool := false
  /-- SIZE, 4 bits (13 R378), reset 0. -/
  size : Nat := 0
  /-- BUF_SIZE, 9 bits (13 R378), reset 0. -/
  bufSize : Nat := 0
  /-- COAL_US, 10 bits (13 R378), reset 0. -/
  coalUs : Nat := 0
  /-- TAIL, 16 bits (13 R378), reset 0. -/
  tail : Nat := 0
  /-- HEAD, 16 bits (13 R378), reset 0. -/
  head : Nat := 0
  /-- FRAMES, 72 bits (13 R388), reset 0. -/
  frames : Nat := 0
  /-- OCTETS, 72 bits (13 R388), reset 0. -/
  octets : Nat := 0
  /-- ERRORS, 36 bits (13 R388), reset 0. -/
  errors : Nat := 0
  /-- Tick of the first descriptor not yet covered by a vector, from which COAL_US runs (13 R381), reset none. -/
  uncovered : Option Nat := none
deriving DecidableEq, Repr

/-- A frame on its way from the host port into a receive buffer (13 R380). -/
structure Delivery where
  /-- The PCIe function. -/
  path : Path := .pcieW0
  /-- The receive ring. -/
  ring : Nat := 0
  /-- Its descriptor of 02 R26. -/
  desc : List Word := []
  /-- Its bytes. -/
  bytes : List Byte := []
deriving DecidableEq, Repr

/-- The default ring at every index. -/
def Ring.dflt (_ : Nat) : Ring := {}

/-- One instance of an access path (13 R356). -/
structure PathSt where
  /-- Upper-bits holder, 4 bits (13 R357), reset DESIGN CHOICE 0 (log 12). -/
  upper : Nat := 0
  /-- Request window MBX_REQ, 256 words of 36 bits, write only (13 R364), reset DESIGN CHOICE 0 (log 12). -/
  window : Tbl Word := []
  /-- REQ_FREE, 1 bit (13 R364), reset 1; it reads 0 until FORWARDING (18 R514). -/
  reqFree : Bool := true
  /-- Requests submitted and not taken, in doorbell order (13 R368, R369), reset none. -/
  waiting : List Pend := []
  /-- The request being executed (13 R369), reset none. -/
  running : Option Running := none
  /-- Response FIFO, at most 1 024 words (13 R372), reset empty. -/
  fifo : List Word := []
  /-- POPCNT, 12 bits (13 R364), reset 0. -/
  popcnt : Nat := 0
  /-- MBX_RSP_LAST, 36 bits (13 R364), reset 0. -/
  rspLast : Word := 0
  /-- Words left of the response whose header was popped last (13 R372), reset 0. -/
  left : Nat := 0
  /-- LEVEL, 11 bits (13 R364), reset 0. -/
  level : Nat := 0
  /-- Responses that did not fit the FIFO, in completion order (13 R369), reset none. -/
  held : List HeldRsp := []
  /-- EVT_HOST (13 R364). -/
  evHost : EvReg := {}
  /-- EVT_WEST (13 R364). -/
  evWest : EvReg := {}
  /-- EVT_EAST (13 R364). -/
  evEast : EvReg := {}
  /-- EVT_DEVICE (13 R364). -/
  evDev : EvReg := {}
  /-- Late-write log, the last 16 entries, oldest first (13 R384), reset empty. -/
  lateLog : List LateEntry := []
  /-- TOTAL of the late-write log, 36 bits (13 R387), reset 0. -/
  lateTotal : Nat := 0
  /-- Bridge write tag: writes of the path, modulo 65 536 (13 R384), reset DESIGN CHOICE 0 (log 12). -/
  writeTag : Nat := 0
  /-- The posted write to the D0 window not yet applied, as (word index, word); AO_BUSY is 1 while there is one (13 R363), reset none. -/
  posted : Option (Nat × Word) := none
  /-- Transmit rings 0 to 31, PCIe paths only (13 R378). -/
  tx : Tbl Ring := []
  /-- Receive rings 0 to 31, PCIe paths only (13 R378). -/
  rx : Tbl Ring := []
deriving DecidableEq, Repr

/-- The SPI target (13 R359). -/
structure SpiSt where
  /-- LAST_ERR, 1 bit (13 R359), reset DESIGN CHOICE 0 (log 12). -/
  lastErr : Bool := false
deriving DecidableEq, Repr

/-- The service-port message layer (13 R360). -/
structure SvcSt where
  /-- SEQ of the last request, 8 bits (13 R360), reset none. -/
  lastSeq : Option Nat := none
  /-- Source MAC address of the last request (15 R442), reset DESIGN CHOICE 0 (log 12). -/
  mac : Nat := 0
  /-- Stored response of the last request (13 R360), reset none. -/
  stored : List Word := []
deriving DecidableEq, Repr

/-- The lock bits and fields of the D0 window (13 R365). -/
structure LockSt where
  /-- POLICY LOCK, 1 bit (13 R365), reset 0. -/
  policy : Bool := false
  /-- SEAL LOCK, 1 bit (13 R365), reset 0. -/
  sealLock : Bool := false
  /-- KEY LOCK, 1 bit (13 R365), reset 0. -/
  key : Bool := false
  /-- POWER_LIMIT LOCK, 1 bit (13 R365), reset 0. -/
  power : Bool := false
  /-- REACTION, 2 bits (13 R365), reset 0b00. -/
  reaction : Nat := 0
  /-- LIMIT, 16 bits, units of 10 mW (13 R365), reset 0. -/
  limit : Nat := 0
deriving DecidableEq, Repr

/-- The configuration seal (13 R376, R377). -/
structure SealSt where
  /-- VALID, 6 bits: die d has a committed reference (13 R365), reset 0. -/
  valid : Nat := 0
  /-- MISMATCH, 6 bits (13 R365), reset 0. -/
  mismatch : Nat := 0
  /-- PASS_SEQ, 24 bits (13 R365), reset 0. -/
  passSeq : Nat := 0
  /-- Reference CRC of each die, 32 bits (13 R376), reset none (0). -/
  refCrc : Tbl Nat := []
  /-- CRC of the last complete pass of each die, 32 bits (13 R390), reset DESIGN CHOICE 0 (log 12). -/
  lastCrc : Tbl Nat := []
  /-- Dies whose next pass is to become the reference, of the commit in progress (13 R389), reset none. -/
  commit : List Nat := []
  /-- Dies whose front ports REACTION 0b10 has disabled until a device reset, by mask (13 R377), reset 0. -/
  shut : Nat := 0
  /-- DIE_MASK of the commit in progress and the path that asked for it (13 R389), reset none. -/
  commitOf : Option (Path × Nat) := none
deriving DecidableEq, Repr

/-- The host interface (13). -/
structure HostSt where
  /-- PCIe D1 function 0 (13 R356). -/
  w0 : PathSt := {}
  /-- PCIe D1 function 1 (13 R356). -/
  w1 : PathSt := {}
  /-- PCIe D2 function 0 (13 R356). -/
  e0 : PathSt := {}
  /-- PCIe D2 function 1 (13 R356). -/
  e1 : PathSt := {}
  /-- SPI target (13 R356). -/
  spi : PathSt := {}
  /-- Service port (13 R356). -/
  svc : PathSt := {}
  /-- Requests of the firmware's own, owner 0x40, which have no registers (14 R401). -/
  inner : PathSt := {}
  /-- Relayed requests, which have no registers of a path here (17 R510; log 56). -/
  bridged : PathSt := {}
  /-- The SPI target's own bit. -/
  spiT : SpiSt := {}
  /-- The service-port message layer. -/
  svcT : SvcSt := {}
  /-- NO_RING of queue q of the West host port, 36 bits (13 R380), reset 0. -/
  noRingW : Tbl Nat := []
  /-- NO_RING of queue q of the East host port, 36 bits (13 R380), reset 0. -/
  noRingE : Tbl Nat := []
  /-- Frames that have left a host port and are not yet in their buffers (13 R380), reset none. -/
  delivering : List Delivery := []
  /-- Whether the PCIe link of the West die is up (16 R460), reset down. -/
  pcieW : Bool := false
  /-- Whether the PCIe link of the East die is up (16 R460), reset down. -/
  pcieE : Bool := false
  /-- Link training of the West endpoint follows the release of PERST_N (19 R546), reset no. -/
  trainW : Bool := false
  /-- Link training of the East endpoint follows the release of PERST_N (19 R546), reset no. -/
  trainE : Bool := false
  /-- Round-robin place of transmit rings of the West die, as 32 × function + ring served last (13 R379), reset 0. -/
  txTurnW : Nat := 0
  /-- Round-robin place of transmit rings of the East die (13 R379), reset 0. -/
  txTurnE : Nat := 0
deriving DecidableEq, Repr

end Sys2Proof.Machine
end

