-- ==== Sys2Proof/Machine/StImg.lean ====
section
/-! DEFINITION. State of the identity, the image slots, the image reports and the update (14). -/

namespace Sys2Proof.Machine

/-- Update states, in the order of their codes (14 R409, R415). -/
inductive UpdMode where
  | idle | erasing | loading | verified | prepared | handover | trial | confirming | fallback
deriving DecidableEq, Repr

/-- The erased word (14 R394). -/
def erasedAt (_ : Nat) : Word := 0xFFFFFFFFF

/-- Image state (14). -/
structure ImgSt where
  /-- BASE_MAC, 48 bits (14 R400), reset DESIGN CHOICE 0 until an image gives it (log 12). -/
  baseMac : Nat := 0
  /-- GW_MAC when GW_EN is 1, 48 bits (14 R400), reset none. -/
  gwMac : Option Nat := none
  /-- A flash answers (14 R407), reset DESIGN CHOICE yes (log 12). -/
  flash : Bool := true
  /-- Words of slot A that are not erased (14 R393), reset none. -/
  slotA : Tbl Word := []
  /-- Words of slot B that are not erased (14 R393), reset none. -/
  slotB : Tbl Word := []
  /-- RUN_SLOT: 0 A, 1 B, 2 factory (14 R415), reset 2. -/
  runSlot : Nat := 2
  /-- UPD_STATE (14 R409), reset 0 IDLE. -/
  mode : UpdMode := .idle
  /-- TARGET: 0 A, 1 B, 3 none (14 R415), reset 3. -/
  target : Nat := 3
  /-- CONFIG_ONLY (14 R410), reset 0. -/
  configOnly : Bool := false
  /-- Blobs of the present update written by IMG.PREPARE (14 R412), reset 0. -/
  prepared : Bool := false
  /-- LAST_FALLBACK (14 R415), reset 0. -/
  lastFallback : Nat := 0
  /-- Tick at which the TRIAL_S timer began, moved by the time the pair was in GAP or RESTART (14 R409), reset 0. -/
  trialAt : Nat := 0
  /-- Tick at which GAP or RESTART stopped the TRIAL_S timer (14 R409), reset none. -/
  trialStop : Option Nat := none
  /-- Tick of the receipt of IMG.HANDOVER (14 R413), reset 0. -/
  handoverAt : Nat := 0
  /-- Words written since IMG.BEGIN, 20 bits (14 R415), reset 0. -/
  written : Nat := 0
  /-- The path whose IMG command waits for a promotion (14 R420, R422), reset none. -/
  waiter : Option Path := none
  /-- Verify report: entries of four words (14 R406), reset none. -/
  repV : List (List Word) := []
  /-- OMITTED of the verify report, 12 bits (14 R406), reset 0. -/
  omitV : Nat := 0
  /-- Start-up report (14 R406), reset none. -/
  repS : List (List Word) := []
  /-- OMITTED of the start-up report (14 R406), reset 0. -/
  omitS : Nat := 0
  /-- The next record to execute: of the factory image (no) or the user slot (yes), the slot word of its header, and its index
  (14 R392, R401), reset none. -/
  next : Option (Bool × Nat × Nat) := none
  /-- Version words of the firmware in each core: West and East, HEADER word 3 (13 R386), reset DESIGN CHOICE 0 (log 12). -/
  verW : Word := 0
  /-- Version of the firmware of the East core, reset DESIGN CHOICE 0 (log 12). -/
  verE : Word := 0
  /-- LINING_VER in use (14 R411), reset DESIGN CHOICE 0 (log 12). -/
  liningVer : Nat := 0
deriving DecidableEq, Repr

end Sys2Proof.Machine
end

