-- ==== Sys2Proof/Machine/StKeys.lean ====
section
/-! DEFINITION. State of the keys, the tamper monitors, the cipher engine and the depot session (15). -/

namespace Sys2Proof.Machine

/-- One key slot (15 R430). -/
structure KeySlot where
  /-- VALID (15 R430), reset 0. -/
  valid : Bool := false
  /-- USE, 3 bits (15 R430), reset 0. -/
  use : Nat := 0
  /-- LEN, 4 bits (15 R430), reset 0. -/
  len : Nat := 0
  /-- WRAPPABLE (15 R430), reset 0. -/
  wrappable : Bool := false
  /-- PERSISTED (15 R430), reset 0. -/
  persisted : Bool := false
  /-- ORIGIN, 2 bits (15 R430), reset 0. -/
  origin : Nat := 0
  /-- PARENT, 12 bits (15 R430), reset 0. -/
  parent : Nat := 0
  /-- The key, most significant byte first (15 R430), reset empty. -/
  key : List Byte := []
deriving DecidableEq, Repr

/-- An empty slot. -/
def KeySlot.dflt (_ : Nat) : KeySlot := {}

/-- Settings of a tamper source (15 R450). -/
structure TamperCfg where
  /-- ACTION, 2 bits (15 R435), reset by source. -/
  action : Nat := 0
  /-- WAKE (15 R435), reset by source. -/
  wake : Bool := false
  /-- TPOL (15 R450), reset 0. -/
  pol : Nat := 0
  /-- TFILTER, 8 bits (15 R450), reset 10. -/
  filter : Nat := 10
deriving DecidableEq, Repr

/-- The factory settings of a source (15 R435, R450). -/
def TamperCfg.dflt (k : Nat) : TamperCfg :=
  { action := if k = 1 ∨ k = 4 ∨ k = 5 then 1 else 0, wake := k == 1 || k == 4, filter := if k = 1 ∨ k = 2 then 10 else 0 }

/-- A tamper log entry (15 R439). -/
structure TamperRec where
  /-- SOURCE, 4 bits. -/
  source : Nat := 0
  /-- PHASE, 2 bits. -/
  phase : Nat := 0
  /-- ACTION, 2 bits. -/
  action : Nat := 0
  /-- ABORTED. -/
  aborted : Bool := false
  /-- BK_SECONDS, 32 bits. -/
  secs : Nat := 0
  /-- Bits 35:0 of the time-of-day, 0 while AO was absent. -/
  time : Nat := 0
deriving DecidableEq, Repr

/-- The lock of the cipher engine (15 R440). -/
structure CipherLock where
  /-- Owner path. -/
  path : Path := .spi
  /-- HANDLE, 12 bits. -/
  handle : Nat := 0
  /-- FUNC: 1 decrypt. -/
  decrypt : Bool := false
  /-- Tick of the last CIPHER.BLOCK or of the lock. -/
  usedAt : Nat := 0
deriving DecidableEq, Repr

/-- Keys, tamper and cipher engine (15). -/
structure KeySt where
  /-- RS, 384 bits as 48 bytes, when provisioned (15 R427, R428), reset none. -/
  rs : Option (List Byte) := none
  /-- The device runs unkeyed until the next device reset, after an alarm in start-up (15 R437), reset no. -/
  unkeyedRun : Bool := false
  /-- Key slots 0x001 to 0x0FF (15 R430). -/
  slots : Tbl KeySlot := []
  /-- MEAS_W, 384 bits as bytes; empty reads 0 (15 R426), reset 0. -/
  measW : List Byte := []
  /-- MEAS_E (15 R426), reset 0. -/
  measE : List Byte := []
  /-- BK power-on flag (15 R428, R445), reset DESIGN CHOICE 1, first power-up of BK (log 12). -/
  bkFlag : Bool := true
  /-- VBAT_ALARM (15 R445), reset 0. -/
  vbat : Bool := false
  /-- Controlled power-down flag of BK (15 R435, 16 R471), reset 0. -/
  cpd : Bool := false
  /-- The AO supply is present (15 R437), reset yes. -/
  ao : Bool := true
  /-- BK seconds counter at tick 0 of the monotonic count, 32 bits (15 R439), reset DESIGN CHOICE 0 (log 12). -/
  bkBase : Nat := 0
  /-- Tamper settings of sources 1 to 7 (15 R450). -/
  tamper : Tbl TamperCfg := []
  /-- Tamper log, at most 32, oldest first (15 R439), reset none. -/
  tlog : List TamperRec := []
  /-- TOTAL, 36 bits (15 R439), reset 0. -/
  ttotal : Nat := 0
  /-- A TAMPER event waits for the AO domain or for the next wake (15 R437), reset no. -/
  tamperDue : Bool := false
  /-- Sources whose alarm came while AO was absent and whose fault-log entry waits for the next start-up (15 R436, 18 R523), reset
  none. -/
  tamperLost : List Nat := []
  /-- The cipher engine's lock (15 R440), reset not locked. -/
  lock : Option CipherLock := none
  /-- BLOCKS, 72 bits (15 R456), reset DESIGN CHOICE 0 (log 12). -/
  blocks : Nat := 0
  /-- ABORTS, 36 bits (15 R456), reset DESIGN CHOICE 0 (log 12). -/
  aborts : Nat := 0
  /-- OTP: slots 2 and 3, bits 0 and 1, programmed (15 R424), reset 0. -/
  vValid : Nat := 0
  /-- OTP: REVOKED bits of slots 0 to 3 (15 R424), reset 0. -/
  vRevoked : Nat := 0
  /-- OTP: ROLE of slots 2 and 3, 2 bits each (15 R424), reset 0. -/
  vRole : Nat := 0
  /-- OTP: VHASH of slots 2 and 3, 384 bits (15 R424), reset 0. -/
  vHash : Tbl Nat := []
  /-- Depot session: source MAC address of the tool (15 R442), reset none. -/
  session : Option Nat := none
  /-- Tick of its last request (15 R442), reset 0. -/
  sessionAt : Nat := 0
  /-- The nonce, 256 bits, and the tick at which it was issued (15 R442), reset none. -/
  nonce : Option (Nat × Nat) := none
  /-- Ticks of the failed OPENs of the last hour (15 R442), reset none. -/
  fails : List Nat := []
  /-- Tick at which the lock-out began (15 R442), reset none. -/
  lockout : Option Nat := none
  /-- An ECDSA-signed image has been verified with this slot: that of the running image, and of the factory image (15 R452), reset
  none. -/
  signers : List Nat := []
deriving DecidableEq, Repr

end Sys2Proof.Machine
end

