-- ==== Sys2Proof/Machine/StOut.lean ====
section
/-! DEFINITION. The model's record of what leaves the block: frames, interrupts, read data and messages (log 5). -/

namespace Sys2Proof.Machine

/-- What the pool manager tells a requester (03 R55). -/
inductive PoolOutcome where
  | grant (handle : Word) | empty | refused | done | notLast | last
deriving DecidableEq, Repr

/-- One thing that left the block at its balls or links, in the order in which it left (log 5). -/
inductive Output where
  /-- An MSI-X vector of a PCIe function (13 R374). -/
  | msix (p : Path) (vector : Nat)
  /-- A register word returned to a path (13 R357, R361). -/
  | regRead (p : Path) (w : Word)
  /-- The bytes that the SPI target returned in one transaction (13 R359). -/
  | spiBytes (bs : List Byte)
  /-- A service-port message: KIND, SEQ and words (13 R360). -/
  | service (kind seq : Nat) (ws : List Word)
  /-- An ERR_NONFATAL message of a PCIe function (13 R383). -/
  | errNonFatal (p : Path)
  /-- A verify (true) or respond mPacket on a front port (07 R187). -/
  | mPacket (port : Nat) (verify : Bool)
  /-- A pulse on PPS_OUT at a whole second: its length in ms, and whether the active level is high (08 R220). -/
  | ppsOut (second width : Nat) (high : Bool)
  /-- The outcome of a pool request for a requester of a die (03 R55). -/
  | pool (d : Fab) (owner : Nat) (o : PoolOutcome)
  /-- A frame sent on a front port: its egress timestamp (quarter ns), the stacking header of a Hem link, and its bytes from the
  destination address to the FCS, before egress MACsec; whether MACsec protects it. -/
  | frame (port startQ : Nat) (hdr bytes : List Byte) (protect : Bool)
  /-- The answer to a partner's TC10 sleep request: acknowledged or rejected (09 R250). -/
  | tc10Answer (port : Nat) (accept : Bool)
  /-- An MKPDU of a port's key agreement; its content is that of IEEE 802.1X-2020 (09 R255). -/
  | mkpdu (port : Nat)
  /-- A frame that a CAN channel has sent: channel and frame (10 R269). -/
  | canFrame (chan : Nat) (frame : CanFrame)
  /-- A LIN header sent: channel and frame ID (10 R273). -/
  | linHeader (chan id : Nat)
  /-- A LIN response sent: channel, data and checksum (10 R273). -/
  | linResponse (chan : Nat) (data : List Byte) (check : Nat)
  /-- A dominant wake pulse of 1 ms on a LIN channel (10 R274). -/
  | linWake (chan : Nat)
  /-- A character sent on a serial engine (10 R280). -/
  | serChar (chan value : Nat)
  /-- A frame written to a buffer of a receive ring: path, ring, index, its descriptor and bytes, its length and the flags written (13
  R379, R380). -/
  | rxBuffer (p : Path) (ring index : Nat) (desc : List Word) (bytes : List Byte) (len flags : Nat)
  /-- The flags written to a transmit descriptor: bit 0 DONE, bit 1 ERROR (13 R379). -/
  | txDesc (p : Path) (ring index flags : Nat)
  /-- A frame placed in a message buffer for the firmware of a core: die, pool, index and content (03 R61). -/
  | cpuFrame (d : Fab) (pool index : Nat) (ws : List Word)
deriving DecidableEq, Repr

end Sys2Proof.Machine
end

