-- ==== Sys2Proof/Machine/StPort.lean ====
section
/-! DEFINITION. State of the front ports: link states, PLCA, signal quality and MACsec (09). -/

namespace Sys2Proof.Machine

/-- Link states, in the order of their codes (09 R242, R260). -/
inductive LinkMode where
  | disabled | training | resuming | up | sleepWait | sleeping | diag
deriving DecidableEq, Repr

/-- Kinds of front port (09 R239). -/
inductive PortKind where
  | multiGig | serdes | gig | fast | multidrop
deriving DecidableEq, Repr

/-- The kind of a front port (09 R239). -/
def kindOfPort (p : Nat) : PortKind :=
  let k := p % 13
  if k ≤ 1 then .multiGig else if k = 2 then .serdes else if k ≤ 6 then .gig else if k ≤ 10 then .fast else .multidrop

/-- The highest RATE of a kind (09 R239, R257). -/
def PortKind.top : PortKind → Nat
  | .multiGig | .serdes => 5
  | .gig => 2
  | .fast => 1
  | .multidrop => 0

/-- PLCA settings (09 R258). -/
structure PlcaCfg where
  /-- NODE_ID, 3 bits (09 R258), reset 0. -/
  nodeId : Nat := 0
  /-- NODE_COUNT, 4 bits (09 R258), reset 8. -/
  nodeCount : Nat := 8
  /-- TO_TIMER, 8 bits (09 R258), reset 32. -/
  toTimer : Nat := 32
  /-- MAX_BURST, 4 bits (09 R258), reset 0. -/
  maxBurst : Nat := 0
  /-- BURST_TIMER, 8 bits (09 R258), reset 128. -/
  burstTimer : Nat := 128
  /-- PEER_MAX, 14 bits (09 R258), reset 1 522. -/
  peerMax : Nat := 1522
  /-- PEER_BURST, 4 bits (09 R258), reset 0. -/
  peerBurst : Nat := 0
deriving DecidableEq, Repr

/-- MKA configuration of a port (09 R263). -/
structure MkaCfg where
  /-- KEY_HANDLE, 12 bits. -/
  handle : Nat := 0
  /-- KS_PRIORITY, 8 bits. -/
  prio : Nat := 0
  /-- CKN, 1 to 32 bytes. -/
  ckn : List Nat := []
deriving DecidableEq, Repr

/-- A live MKA peer (09 R255). -/
structure MkaPeer where
  /-- Its member identifier, 96 bits. -/
  id : Nat := 0
  /-- Its key server priority. -/
  prio : Nat := 0
  /-- Monotonic time (ns) of its last MKPDU, from which the life time of 6 s runs. -/
  heard : Nat := 0
deriving DecidableEq, Repr

/-- The SecY of one port (09 R252 to R256, R262 to R264). -/
structure SecySt where
  /-- ENABLE (09 R262), reset 0. -/
  enable : Bool := false
  /-- CIPHER: 1 GCM-AES-XPN-256 (09 R262), reset DESIGN CHOICE 0 (log 12). -/
  xpn : Bool := false
  /-- CONF (09 R262), reset DESIGN CHOICE 0 (log 12). -/
  conf : Bool := false
  /-- CONF_OFFSET, 2 bits (09 R262), reset DESIGN CHOICE 0 (log 12). -/
  confOffset : Nat := 0
  /-- VALIDATE, 2 bits (09 R262), reset DESIGN CHOICE 0 (log 12). -/
  validate : Nat := 0
  /-- REPLAY_PROTECT (09 R262), reset DESIGN CHOICE 0 (log 12). -/
  replay : Bool := false
  /-- INCLUDE_SCI (09 R262), reset DESIGN CHOICE 0 (log 12). -/
  includeSci : Bool := false
  /-- REPLAY_WINDOW, 32 bits (09 R262), reset DESIGN CHOICE 0 (log 12). -/
  window : Nat := 0
  /-- MKA configuration (09 R263), reset none. -/
  mka : Option MkaCfg := none
  /-- Live peers (09 R255), reset none. -/
  peers : List MkaPeer := []
  /-- KEY_SERVER (09 R264), reset 0. -/
  keyServer : Bool := false
  /-- AN of the transmit SA, when one is installed (09 R252), reset none. -/
  txSa : Option Nat := none
  /-- Receive SAs in use as (channel, AN) (09 R252), reset none. -/
  rxSas : List (Nat × Nat) := []
  /-- Next transmit packet number, 64 bits (09 R256, R264), reset DESIGN CHOICE 0 (log 12). -/
  nextPn : Nat := 0
  /-- OUT_PROTECTED, 72 bits (09 R264), reset 0. -/
  outProtected : Nat := 0
  /-- IN_OK, 72 bits (09 R264), reset 0. -/
  inOk : Nat := 0
  /-- IN_INVALID, 36 bits (09 R264), reset 0. -/
  inInvalid : Nat := 0
  /-- IN_NOT_VALID, 36 bits (09 R264), reset 0. -/
  inNotValid : Nat := 0
  /-- IN_LATE, 36 bits (09 R264), reset 0. -/
  inLate : Nat := 0
  /-- IN_NO_SA, 36 bits (09 R264), reset 0. -/
  inNoSa : Nat := 0
  /-- IN_UNTAGGED, 36 bits (09 R264), reset 0. -/
  inUntagged : Nat := 0
  /-- OUT_NO_SA, 36 bits (09 R264), reset 0. -/
  outNoSa : Nat := 0
  /-- OUT_PN_EXHAUSTED, 36 bits (09 R264), reset 0. -/
  outPnExhausted : Nat := 0
deriving DecidableEq, Repr

/-- One front port (09). -/
structure PortSt where
  /-- STATE (09 R242, R260), reset 0 DISABLED until the ports are enabled at forwarding (18 R514). -/
  mode : LinkMode := .disabled
  /-- ENABLE (09 R257), reset 1. -/
  enable : Bool := true
  /-- RATE, 3 bits (09 R257), reset the highest of the kind. -/
  rate : Nat := 5
  /-- RATE that a USXGMII port has taken (09 R241), reset 5. -/
  usxRate : Nat := 5
  /-- ROLE (09 R257), reset 1 on T1 ports, 0 on SerDes and 10BASE-T1S ports. -/
  role : Bool := false
  /-- EEE_EN (09 R257), reset 0. -/
  eee : Bool := false
  /-- RETAIN_EN (09 R257), reset 1 on T1 ports, else 0. -/
  retain : Bool := false
  /-- TC10_EN (09 R257), reset 1 on T1 ports, else 0. -/
  tc10 : Bool := false
  /-- SERDES_MODE: 1 USXGMII (09 R257), reset 0. -/
  usx : Bool := false
  /-- RETAIN_VALID (09 R243, R260), reset 0. -/
  retainValid : Bool := false
  /-- Temperature of the PHY die when the coefficients were stored, K (09 R243), reset DESIGN CHOICE 0 (log 12). -/
  storeTemp : Nat := 0
  /-- Temperature of the PHY die as last reported, K (09 R243), reset DESIGN CHOICE 0 (log 12). -/
  phyTemp : Nat := 0
  /-- The wake-up pulse is being sent (09 R251), reset no. -/
  pulse : Bool := false
  /-- LPI (09 R246, R260), reset 0. -/
  lpi : Bool := false
  /-- Leaving low-power idle (09 R246), reset no. -/
  lpiWaking : Bool := false
  /-- SQI, 3 bits (09 R249), reset DESIGN CHOICE 0 (log 12). -/
  sqi : Nat := 0
  /-- SQI_MIN, 3 bits, and whether an SQI has come since the last clear (09 R249), reset DESIGN CHOICE 0 (log 12). -/
  sqiMin : Option Nat := none
  /-- BEACONS (09 R247, R260), reset 0. -/
  beacons : Bool := false
  /-- PLCA settings in force (09 R258). -/
  plca : PlcaCfg := {}
  /-- PLCA settings that wait for the next beacon (09 R258), reset none. -/
  plcaNext : Option PlcaCfg := none
  /-- Frames that may still start in the transmit opportunity in progress (09 R247), reset 0. -/
  burstLeft : Nat := 0
  /-- The path whose PORT.CABLE_TEST runs (09 R261), reset none. -/
  tester : Option Path := none
  /-- LINK_DOWNS, 36 bits (09 R260), reset 0. -/
  linkDowns : Nat := 0
  /-- TRAIN_FAILS, 36 bits (09 R260), reset 0. -/
  trainFails : Nat := 0
  /-- RESUME_OKS, 36 bits (09 R260), reset 0. -/
  resumeOks : Nat := 0
  /-- RESUME_FAILS, 36 bits (09 R260), reset 0. -/
  resumeFails : Nat := 0
  /-- RX_FCS_ERRORS, 36 bits (09 R260), reset 0. -/
  rxFcs : Nat := 0
  /-- RX_OVERSIZE, 36 bits (09 R260), reset 0. -/
  rxOversize : Nat := 0
  /-- RX_RUNTS, 36 bits (09 R260), reset 0. -/
  rxRunts : Nat := 0
  /-- FEC_UNCORRECTED, 36 bits (09 R260), reset 0. -/
  fecUncorrected : Nat := 0
  /-- LPI_ENTRIES, 36 bits (09 R260), reset 0. -/
  lpiEntries : Nat := 0
  /-- BEACON_LOSS, 18 bits (09 R260), reset 0. -/
  beaconLoss : Nat := 0
  /-- PLCA_CONFLICTS, 18 bits (09 R260), reset 0. -/
  plcaConflicts : Nat := 0
  /-- FEC_CORRECTED, 72 bits (09 R260), reset 0. -/
  fecCorrected : Nat := 0
  /-- Monotonic time (ns) at which the link came up (05 R126, RESTORE_HOLD), reset 0. -/
  upAt : Nat := 0
  /-- SecY and MKA (09 R252). -/
  secy : SecySt := {}
deriving DecidableEq, Repr

/-- Factory configuration of front port `p` (09 R257). -/
def PortSt.dflt (p : Nat) : PortSt :=
  let k := kindOfPort p
  let t1 := k == .multiGig || k == .gig || k == .fast
  { rate := k.top, role := t1, retain := t1, tc10 := t1 }

end Sys2Proof.Machine
end

