-- ==== Sys2Proof/Machine/StPower.lean ====
section
/-! DEFINITION. State of the power controller: domains, sequences, pace, feeds, supply and the sleep agreement (16). -/

namespace Sys2Proof.Machine

/-- States of a power domain, in the order of their codes (16 R457, R479). -/
inductive DomMode where
  | off | on | retain | failed
deriving DecidableEq, Repr

/-- One step of a sequence (16 R459, R480). -/
structure SeqStep where
  /-- DOMAIN, 4 bits. -/
  domain : Nat := 0
  /-- ACTION: 0 OFF, 1 ON, 2 RETAIN, 3 WAIT. -/
  action : Nat := 3
  /-- WAIT_US, 14 bits. -/
  waitUs : Nat := 0
  /-- PG_TIMEOUT, 12 bits, 10 µs units. -/
  pgTimeout : Nat := 100
deriving DecidableEq, Repr

/-- The factory sequences (16 R459). -/
def seqFactory (k : Nat) : List SeqStep :=
  let on (d : Nat) : SeqStep := { domain := d, action := 1 }
  let down (ret : Nat) : List SeqStep :=
    [3, 9, 6, 13, 11, 12, 10, 8, 5, 7, 4, 15, 14, 2].map fun d =>
      { domain := d, action := if d = 5 ∨ d = 8 ∨ d = 14 then ret else 0 }
  match k with
  | 0 => [2, 14, 15, 4, 5, 7, 8, 6, 9, 10, 11, 12, 13, 3].map on
  | 1 => [2, 14, 15, 4, 7, 5, 8, 10, 12, 11, 13, 6, 9, 3].map on
  | 2 => down 2
  | _ => down 0

/-- A sequence that runs (16 R459). -/
structure SeqRun where
  /-- Sequence, 0 COLD, 1 WAKE, 2 SLEEP, 3 OFF. -/
  seq : Nat := 0
  /-- Index of the step in progress. -/
  step : Nat := 0
  /-- Its domain has reported good and WAIT_US runs. -/
  waiting : Bool := false
  /-- Monotonic tick at which the wait or the power-good timeout began. -/
  since : Nat := 0
  /-- The rest of it runs for this die alone, a reload (18 R520). -/
  only : Option Nat := none
deriving DecidableEq, Repr

/-- The configuration of POWER.CONFIG_WRITE (16 R481). -/
structure PowerCfg where
  /-- DOMAIN_MASK, 16 bits (16 R481), reset all 1. -/
  mask : Nat := 65535
  /-- LIMIT_SHED, 26 bits (16 R481), reset 0. -/
  shed : Nat := 0
  /-- PMBus addresses 0 to 3, 4 words of 8 bits as 32 bits (16 R481), reset DESIGN CHOICE 0 until an image sets it (log 12). -/
  pm0 : Nat := 0
  /-- PMBus addresses 4 to 7 (16 R481), reset DESIGN CHOICE 0 until an image sets it (log 12). -/
  pm1 : Nat := 0
  /-- DIV, 12 bits, 0.01 (16 R481), reset 3 000. -/
  div : Nat := 3000
  /-- UV, 12 bits, 10 mV (16 R481), reset 1 800. -/
  uv : Nat := 1800
  /-- CRANK, 12 bits (16 R481), reset 1 200. -/
  crank : Nat := 1200
  /-- OFF, 12 bits (16 R481), reset 800. -/
  off : Nat := 800
  /-- ON, 12 bits (16 R481), reset 1 000. -/
  on : Nat := 1000
  /-- OV, 12 bits (16 R481), reset 3 200. -/
  ov : Nat := 3200
  /-- UV_MS, 10 bits (16 R481), reset 100. -/
  uvMs : Nat := 100
  /-- OFF_MS, 10 bits (16 R481), reset 10. -/
  offMs : Nat := 10
  /-- CRANK_SHED, 8 bits (16 R481), reset 0. -/
  crankShed : Nat := 0
deriving DecidableEq, Repr

/-- The settings of PACE.CONFIG_WRITE of one die (16 R485). -/
structure PaceCfg where
  /-- FLOOR (16 R485), reset 1. -/
  floor : Bool := true
  /-- HEADROOM, 6 bits (16 R485), reset 10. -/
  headroom : Nat := 10
  /-- GUARD, 5 bits (16 R485), reset 5. -/
  guard : Nat := 5
  /-- STEP_MV, 5 bits (16 R485), reset 5. -/
  stepMv : Nat := 5
  /-- EOL_MV, 12 bits (16 R485), reset 700. -/
  eolMv : Nat := 700
deriving DecidableEq, Repr

/-- Pace of one fabric die (16 R460 to R464). -/
structure PaceSt where
  /-- Settings (16 R485). -/
  cfg : PaceCfg := {}
  /-- P_m, Mhs/s (16 R460), reset DESIGN CHOICE 0 (log 12). -/
  measured : Nat := 0
  /-- P_t, Mhs/s (16 R460), reset DESIGN CHOICE 0 (log 12). -/
  target : Nat := 0
  /-- Hottest junction temperature, °C, signed 9 bits (16 R461, R486), reset DESIGN CHOICE 0 (log 12). -/
  tj : Int := 0
  /-- Voltage in force, mV (16 R461, R486), reset DESIGN CHOICE 0 until the regulator is commanded (log 12). -/
  vdd : Nat := 0
  /-- Tick of the last voltage step (16 R461), reset 0. -/
  stepAt : Nat := 0
  /-- Tick since which P_m has been above the guard (16 R461), reset none. -/
  aboveSince : Option Nat := none
  /-- Tick since which P_m has been below P_t (16 R463), reset none. -/
  belowSince : Option Nat := none
  /-- A shortage episode has been reported (16 R463), reset no. -/
  short : Bool := false
  /-- PACE_SHORT, 36 bits (16 R463), reset 0. -/
  paceShort : Nat := 0
  /-- V_R, mV (16 R464), reset DESIGN CHOICE 0 (log 12). -/
  vr : Nat := 0
  /-- REMAIN_MONTHS, 12 bits (16 R464, R486), reset DESIGN CHOICE 4 095, beyond 340 years (log 12). -/
  remain : Nat := 4095
  /-- EOL (16 R464), reset 0. -/
  eol : Bool := false
  /-- ON_HOURS, 36 bits (16 R486), reset DESIGN CHOICE 0 (log 12). -/
  onHours : Nat := 0
  /-- V_R of the hours of the day in progress (16 R464), reset none. -/
  hours : List Nat := []
  /-- Daily means of V_R, at most 64, oldest first (16 R464), reset none. -/
  days : List Nat := []
deriving DecidableEq, Repr

/-- States of a feed, in the order of their codes (16 R466, R479). -/
inductive FeedMode where
  | off | inrush | on | retryWait | lockout | shed
deriving DecidableEq, Repr

/-- Configuration of a feed (16 R482). -/
structure FeedCfg where
  /-- VALID (16 R482), reset 0. -/
  valid : Bool := false
  /-- SLEEP_ON (16 R482), reset DESIGN CHOICE 0 (log 12). -/
  sleepOn : Bool := false
  /-- RETRIES, 4 bits (16 R482), reset DESIGN CHOICE 0 (log 12). -/
  retries : Nat := 0
  /-- AUTO_ON (16 R482), reset DESIGN CHOICE 0 (log 12). -/
  autoOn : Bool := false
  /-- SCALE, 16 bits, µA per LSB (16 R482), reset DESIGN CHOICE 1 (log 12). -/
  scale : Nat := 1
  /-- LIMIT_MA, 14 bits (16 R482), reset DESIGN CHOICE 0 (log 12). -/
  limitMa : Nat := 0
  /-- INRUSH_MA, 14 bits (16 R482), reset DESIGN CHOICE 0 (log 12). -/
  inrushMa : Nat := 0
  /-- INRUSH_MS, 10 bits (16 R482), reset DESIGN CHOICE 0 (log 12). -/
  inrushMs : Nat := 0
  /-- TRIP_US, 12 bits (16 R482), reset DESIGN CHOICE 50 (log 12). -/
  tripUs : Nat := 50
  /-- RETRY_MS, 16 bits (16 R482), reset DESIGN CHOICE 10 (log 12). -/
  retryMs : Nat := 10
deriving DecidableEq, Repr

/-- One peripheral feed (16 R466). -/
structure Feed where
  /-- STATE (16 R466), reset 0 OFF. -/
  mode : FeedMode := .off
  /-- Configuration as last written (16 R482). -/
  cfg : FeedCfg := {}
  /-- Configuration in force: taken at OFF, or at entry to INRUSH (16 R482). -/
  now : FeedCfg := {}
  /-- Current, mA, 14 bits (16 R479), reset 0. -/
  current : Nat := 0
  /-- TRIPS, 16 bits, saturating (16 R479), reset 0. -/
  trips : Nat := 0
  /-- Retries used (16 R466), reset 0. -/
  used : Nat := 0
  /-- Tick of the last change of state (16 R466), reset 0. -/
  since : Nat := 0
deriving DecidableEq, Repr

/-- A feed without configuration. -/
def Feed.dflt (_ : Nat) : Feed := {}

/-- Supply states, in the order of their codes (16 R479). -/
inductive SupplyMode where
  | normal | uv | crank | off | ov
deriving DecidableEq, Repr

/-- One wake policy entry (16 R472, R487). -/
structure WakePolicy where
  /-- VALID (16 R487), reset 0. -/
  valid : Bool := false
  /-- KIND, 3 bits, reset DESIGN CHOICE 0 (log 12). -/
  kind : Nat := 0
  /-- SRC, 5 bits, reset DESIGN CHOICE 0 (log 12). -/
  src : Nat := 0
  /-- PRIMARY, reset DESIGN CHOICE 0 (log 12). -/
  primary : Bool := false
  /-- VALUE, 32 bits, reset DESIGN CHOICE 0 (log 12). -/
  value : Nat := 0
  /-- MASK, 32 bits, reset DESIGN CHOICE 0 (log 12). -/
  mask : Nat := 0
deriving DecidableEq, Repr

/-- An entry without content. -/
def WakePolicy.dflt (_ : Nat) : WakePolicy := {}

/-- The settings of WAKE.CONFIG_WRITE (16 R488). -/
structure WakeCfg where
  /-- SLEEP_EN (16 R488), reset 1. -/
  sleepEn : Bool := true
  /-- SLEEP_S, 12 bits (16 R488), reset 60. -/
  sleepS : Nat := 60
  /-- PREPARE_MS, 10 bits (16 R488), reset 20. -/
  prepareMs : Nat := 20
  /-- KEEP_AWAKE_MIN, 13 bits (16 R488), reset 30. -/
  keepAwakeMin : Nat := 30
  /-- LOC_EN, 2 bits (16 R488), reset 0. -/
  locEn : Nat := 0
  /-- LOC_POL, 2 bits (16 R488), reset 0b11. -/
  locPol : Nat := 3
  /-- LOC_FILTER_MS, 10 bits (16 R488), reset 20. -/
  locFilter : Nat := 20
  /-- SPI_WAKE (16 R488), reset 1. -/
  spiWake : Bool := true
  /-- TIMER_S, 24 bits (16 R488), reset 0. -/
  timerS : Nat := 0
deriving DecidableEq, Repr

/-- A wake record (16 R475). -/
structure WakeRec where
  /-- KIND, 4 bits. -/
  kind : Nat := 0
  /-- SRC, 5 bits. -/
  src : Nat := 0
  /-- LATE. -/
  late : Bool := false
  /-- CANCEL. -/
  cancel : Bool := false
  /-- FIRST_VALID. -/
  firstValid : Bool := false
  /-- TIME, 72 bits. -/
  time : Nat := 0
  /-- Tick of the decision, for the 100 ms of FIRST. -/
  tick : Nat := 0
  /-- Words D, E and F. -/
  first : Word × Word × Word := (0, 0, 0)
deriving DecidableEq, Repr

/-- A keep-awake log entry (16 R476). -/
structure KeepRec where
  /-- KIND, 4 bits. -/
  kind : Nat := 0
  /-- SRC, 5 bits. -/
  src : Nat := 0
  /-- Policy INDEX, 6 bits. -/
  index : Nat := 0
  /-- Identity, 48 bits. -/
  ident : Nat := 0
  /-- COUNT, 24 bits. -/
  count : Nat := 1
  /-- Bits 35:0 of the time of the first entry. -/
  time : Nat := 0
deriving DecidableEq, Repr

/-- States of the sleep agreement, in the order of their codes (16 R474, R490). -/
inductive SleepMode where
  | awake | prepare | committed | asleep | waking
deriving DecidableEq, Repr

/-- A hold of a path (16 R489). -/
structure Hold where
  /-- Tick at which it ends. -/
  until_ : Nat := 0
  /-- PRIMARY. -/
  primary : Bool := false
deriving DecidableEq, Repr

/-- The power controller (16). -/
structure PowerSt where
  /-- State of domains 2 to 15 (16 R457); 0 and 1 are always ON; reset OFF. -/
  doms : Tbl DomMode := []
  /-- Loaded sequences 0 to 3; none is the factory sequence (16 R459). -/
  seqs : Tbl (Option (List SeqStep)) := []
  /-- The sequence that runs (16 R459), reset none. -/
  run : Option SeqRun := none
  /-- Configuration (16 R481). -/
  cfg : PowerCfg := {}
  /-- Pace of the West die (16 R460). -/
  west : PaceSt := {}
  /-- Pace of the East die (16 R460). -/
  east : PaceSt := {}
  /-- Pace curve bands 0 to 3, (PACE, VOLT) points (16 R461, R484), reset DESIGN CHOICE empty until an image loads them (log 12). -/
  curves : Tbl (List (Nat × Nat)) := []
  /-- Power estimate, 16 bits, 10 mW (16 R465), reset 0. -/
  estimate : Nat := 0
  /-- Tick since which the estimate has been above LIMIT (16 R465), reset none. -/
  overSince : Option Nat := none
  /-- Tick since which it has been below 90 % of LIMIT (16 R465), reset none. -/
  underSince : Option Nat := none
  /-- Ports shed for power, by mask (16 R465), reset 0. -/
  shedPorts : Nat := 0
  /-- Feeds 0 to 7 (16 R466). -/
  feeds : Tbl Feed := []
  /-- Feeds with AUTO_ON still to be enabled, in order, and the tick of the next (16 R466), reset none. -/
  autoOn : List Nat × Nat := ([], 0)
  /-- SUPPLY (16 R479), reset 0 normal. -/
  supply : SupplyMode := .normal
  /-- Vehicle supply, 12 bits, 10 mV (16 R479), reset DESIGN CHOICE 0 until sampled (log 12). -/
  volts : Nat := 0
  /-- A controlled power-down has run and COLD has not run since (16 R471), reset no. -/
  down : Bool := false
  /-- Wake policy entries 0 to 63 (16 R487). -/
  policy : Tbl WakePolicy := []
  /-- Wake configuration (16 R488). -/
  wake : WakeCfg := {}
  /-- STATE of the agreement (16 R474, R490), reset 0 AWAKE. -/
  mode : SleepMode := .awake
  /-- Tick at which the sleep timer last restarted (16 R473), reset 0. -/
  timerAt : Nat := 0
  /-- Tick from which awake time counts (16 R473), reset 0. -/
  awakeAt : Nat := 0
  /-- Tick at which PREPARE began (16 R474), reset 0. -/
  prepareAt : Nat := 0
  /-- Tick of the sleep entry (16 R488), reset 0. -/
  sleepAt : Nat := 0
  /-- The late-wake latch: the wake that set it (16 R474), reset clear. -/
  latch : Option WakeRec := none
  /-- The STB balls are driven (10 R285, 16 R474), reset no. -/
  stbDriven : Bool := false
  /-- Holds of the paths by number (16 R489), reset none. -/
  holds : Tbl (Option Hold) := []
  /-- Wake records, at most 32, oldest first (16 R475), reset none. -/
  recs : List WakeRec := []
  /-- Keep-awake log, at most 16 (16 R476), reset none. -/
  keep : List KeepRec := []
  /-- OMITTED of the wake records, 12 bits (16 R491), reset 0. -/
  recOmitted : Nat := 0
  /-- OMITTED of the keep-awake log, 12 bits (16 R473, R491), reset 0. -/
  keepOmitted : Nat := 0
  /-- WAKES, 36 bits (16 R490), reset 0. -/
  wakes : Nat := 0
  /-- LATE_WAKES, 36 bits (16 R490), reset 0. -/
  lateWakes : Nat := 0
  /-- CANCELS, 36 bits (16 R490), reset 0. -/
  cancels : Nat := 0
  /-- The control plane is to be rebuilt after a wake (16 R478), reset no. -/
  rebuild : Bool := false
  /-- State of W_CORE and E_CORE at the commit point is kept as the arbiter record; tick of the commit point. -/
  commitAt : Nat := 0
deriving DecidableEq, Repr

/-- Whether a domain has RETAIN (16 R457). -/
def domRetains (d : Nat) : Bool := d == 5 || d == 8 || d == 14

/-- The die of a domain (16 R457). -/
def domDie (d : Nat) : Nat :=
  match d with
  | 4 | 5 | 6 => 1
  | 7 | 8 | 9 => 2
  | 10 | 11 => 3
  | 12 | 13 => 4
  | 14 | 15 => 5
  | _ => 0

end Sys2Proof.Machine
end

