-- ==== Sys2Proof/Machine/StStack.lean ====
section
/-! DEFINITION. State of the stack: membership, Hem ports and the management bridge (17). -/

namespace Sys2Proof.Machine

/-- Stack states, in the order of their codes (17 R500, R509). -/
inductive StackMode where
  | single | master | member | orphan | acting | conflict
deriving DecidableEq, Repr

/-- The last HELLO received on a Hem port (17 R498). -/
structure Hello where
  /-- MEMBER, the sender. -/
  member : Nat := 0
  /-- STATE. -/
  state : Nat := 0
  /-- MASTER. -/
  master : Nat := 0
  /-- REACH. -/
  reach : Nat := 0
  /-- AWAKE_S, 22 bits. -/
  awakeS : Nat := 0
  /-- Tick of its arrival. -/
  at_ : Nat := 0
deriving DecidableEq, Repr

/-- One Hem port (17 R495, R496, R498). -/
structure HemCtr where
  /-- HDR_ERRORS, 36 bits (17 R495), reset 0. -/
  hdrErrors : Nat := 0
  /-- HEM_LOOPS, 36 bits (17 R496), reset 0. -/
  loops : Nat := 0
  /-- The last HELLO received (17 R498), reset none. -/
  hello : Option Hello := none
  /-- Stack-control and bridge frames received and not yet processed, oldest first: TYPE, sender of the stacking header and the
  bytes (17 R495), reset none. -/
  inbox : List (Nat × Nat × List Byte) := []
deriving DecidableEq, Repr

/-- A Hem port at rest. -/
def HemCtr.dflt (_ : Nat) : HemCtr := {}

/-- A burst of a bridge transfer (17 R502). -/
structure Burst where
  /-- OP. -/
  op : Nat := 2
  /-- Internal address. -/
  addr : Nat := 0
  /-- Words, 1 to 64. -/
  count : Nat := 1
  /-- Data words of a write. -/
  data : List Word := []
deriving DecidableEq, Repr

/-- A bridge request that this package has outstanding (17 R502). -/
structure BridgeReq where
  /-- TAG, 6 bits. -/
  tag : Nat := 0
  /-- What it asks. -/
  burst : Burst := {}
  /-- Hem port it left by. -/
  port : Nat := 2
  /-- Member at the far end of that link. -/
  peer : Nat := 0
  /-- Tick of its issue. -/
  at_ : Nat := 0
  /-- Withdrawn under R503: the tick at which it is issued again. -/
  backoff : Option Nat := none
  /-- The path whose command it serves. -/
  path : Path := .spi
deriving DecidableEq, Repr

/-- Where a command that uses the bridge stands (17 R502, R510). -/
inductive JobMode where
  /-- DIAG.READ reads its range. -/
  | diag
  /-- STACK.RELAY writes the inner request. -/
  | write
  /-- STACK.RELAY reads the header of the inner response until there is one. -/
  | poll
  /-- STACK.RELAY reads the rest of the inner response. -/
  | body
deriving DecidableEq, Repr

/-- A STACK.RELAY or a DIAG.READ that uses the bridge for a path (13 R391; 17 R510). -/
structure Job where
  /-- The path. -/
  path : Path := .spi
  /-- MEMBER. -/
  member : Nat := 0
  /-- Where it stands. -/
  mode : JobMode := .diag
  /-- Bursts still to be issued, in order. -/
  todo : List Burst := []
  /-- Words read. -/
  got : List Word := []
  /-- Tick at which it was taken. -/
  at_ : Nat := 0
deriving DecidableEq, Repr

/-- The stack (17). -/
structure StackSt where
  /-- Hem ports 2 and 15. -/
  hems : Tbl HemCtr := []
  /-- STATE (17 R500), reset 0 SINGLE until the straps are sampled. -/
  mode : StackMode := .single
  /-- MASTER followed, 2 bits (17 R509), reset DESIGN CHOICE 0 (log 12). -/
  master : Nat := 0
  /-- REACH, 2 bits (17 R509), reset DESIGN CHOICE 0 (log 12). -/
  reach : Nat := 0
  /-- Tick of the last HELLO of each member (17 R509 PRESENT), reset none. -/
  heard : Tbl (Option Nat) := []
  /-- Tick of the last HELLO that reached the master (17 R500), reset 0. -/
  masterAt : Nat := 0
  /-- BRIDGE_TIMEOUTS, 36 bits (17 R502), reset 0. -/
  timeouts : Nat := 0
  /-- BACKOFFS, 36 bits (17 R503), reset 0. -/
  backoffs : Nat := 0
  /-- TAG of the next bridge request, reset DESIGN CHOICE 0 (log 12). -/
  nextTag : Nat := 0
  /-- Requests outstanding, at most 64 (17 R502), reset none. -/
  reqs : List BridgeReq := []
  /-- Register-bus lock of each die: the Hem port and the member that hold it, the address and the tick (17 R504), reset none. -/
  locks : Tbl (Option (Nat × Nat × Nat × Nat)) := []
  /-- Commands that use the bridge (13 R391; 17 R510), reset none. -/
  jobs : List Job := []
  /-- Words written through the bridge to internal addresses whose layout the spec does not give, by address (log 55), reset none. -/
  raw : Tbl (Option Word) := []
  /-- STK_WAKE is pulled low until this tick (17 R508), reset none. -/
  wakeLow : Option Nat := none
deriving DecidableEq, Repr

end Sys2Proof.Machine
end

