-- ==== Sys2Proof/Machine/StSys.lean ====
section
/-! DEFINITION. State of start-up, in-package links, the fault log, the maintenance token and the die reload (01, 18). -/

namespace Sys2Proof.Machine

/-- Start-up states with their START_STATE codes (18 R514, R527). -/
inductive StartMode where
  | aoUp | clockWait | supplyWait | sequence | selftest | image | coreBoot | keys | config | locks
  | forwarding | haltPower | haltImage | haltSilicon
deriving DecidableEq, Repr

/-- One entry of the fault log (18 R525). -/
structure FaultEntry where
  /-- CODE, 8 bits. -/
  code : Nat := 0
  /-- DIE, 3 bits. -/
  die : Nat := 7
  /-- CLASS, 2 bits. -/
  cls : Nat := 0
  /-- REPEAT, 8 bits. -/
  rep : Nat := 0
  /-- BOOT, 11 bits. -/
  boot : Nat := 0
  /-- DETAIL, 36 bits. -/
  detail : Nat := 0
  /-- TIME, 72 bits. -/
  time : Nat := 0
  /-- The same instant on the model's monotonic count, in ns, for the 1 s rule of R525. -/
  mono : Nat := 0
deriving DecidableEq, Repr

/-- A holder of the maintenance token (18 R521, R522). -/
structure Holder where
  /-- Activity code, 0 to 3. -/
  activity : Nat := 0
  /-- Port of a cable test, or die of a debugged core. -/
  object : Nat := 0
deriving DecidableEq, Repr

/-- Start-up, links, logs and maintenance (01, 18). -/
structure SysSt where
  /-- START_STATE (18 R514, R527), reset AO_UP. -/
  start : StartMode := .aoUp
  /-- LAST_RESET, 3 bits (18 R527), reset 0. -/
  lastReset : Nat := 0
  /-- BOOTS, 11 bits (18 R527), reset DESIGN CHOICE 0 (log 12). -/
  boots : Nat := 0
  /-- FAULT_N driven low (18 R517), reset released. -/
  faultN : Bool := false
  /-- Time of the last reset, 72 bits (18 R527), reset 0. -/
  resetTime : Nat := 0
  /-- Die d present, bit d (18 R527), reset 0b000001 (only D0 has power in AO_UP) DEDUCED (log 13). -/
  present : Nat := 1
  /-- Dies marked absent at start-up, by mask (18 R514, R515), reset 0. -/
  absent : Nat := 0
  /-- Retries of HALT_POWER since the reset (18 R514), reset 0. -/
  retries : Nat := 0
  /-- STRAP_MBR1:0 as sampled: the member number (17 R493), reset DESIGN CHOICE 0 until sampled (log 12). -/
  member : Nat := 0
  /-- STRAP_HEM as sampled: ports 2 and 15 are Hem links (17 R493), reset DESIGN CHOICE 0 until sampled (log 12). -/
  hem : Bool := false
  /-- SA, SB, SW, SE up, bits 0 to 3 (01 R9, 18 R527), reset all up. -/
  links : Nat := 15
  /-- Gateway port in use, 30 or 31 (01 R12), reset 30. -/
  gwPort : Nat := 30
  /-- Address-error counter of each die, 36 bits (01 R23), reset 0. -/
  addrErr : Tbl Nat := []
  /-- Fault log, at most 2 044 entries, oldest first (18 R525), reset empty (AO loss). -/
  log : List FaultEntry := []
  /-- TOTAL fault entries ever made, 36 bits (18 R527), reset 0. -/
  logTotal : Nat := 0
  /-- Save area: the latest full record of each Lining KIND 0x03 to 0x07 (18 R519), reset empty. -/
  save : Tbl (List Word) := []
  /-- Holders of the maintenance token, at most 8 (18 R522), reset none. -/
  holders : List Holder := []
  /-- Exclusion table, 16 bits (18 R521), reset 0xFFFF. -/
  excl : Nat := 65535
  /-- The die being reloaded and the path of a FAULT.DIE_RELOAD that waits for it (18 R520), reset none. -/
  reload : Option (Nat × Option Path) := none
  /-- Monotonic time (ns) of the last automatic reload of each die, plus 1; 0 for none (18 R520), reset 0. -/
  autoReload : Tbl Nat := []
  /-- Legacy channels and gateway available (18 R515 test 8), reset yes. -/
  cuffOk : Bool := true
  /-- Tick at which the state of start-up was entered, for its timers (18 R514), reset 0. -/
  since : Nat := 0
  /-- Cores that failed their self-test at start-up, by die mask (18 R515 test 3), reset 0. -/
  coreFail : Nat := 0
  /-- Dies lost while another reload ran, whose automatic reload is still to start, by mask (18 R520), reset 0. -/
  reloadDue : Nat := 0
  /-- A command has changed the Cuff die since start-up (18 R520), reset no. -/
  cuffChanged : Bool := false
  /-- A FAULT.RESET is to follow its response (18 R531), reset no. -/
  resetPending : Bool := false
deriving DecidableEq, Repr

end Sys2Proof.Machine
end

