-- ==== Sys2Proof/Machine/StTab.lean ====
section
/-! DEFINITION. Tables that are identical on both fabric dies: parsing and rules, forwarding and streams (04, 05), with the counters kept per port. -/

namespace Sys2Proof.Machine

/-- Parse configuration and counters of one port (04 R74, R98). -/
structure PortParse where
  /-- PROG, 4 bits (04 R99), reset 0. -/
  prog : Nat := 0
  /-- BUDGET, 6 bits (04 R99), reset 48. -/
  budget : Nat := 48
  /-- MAL_COPY, 1 bit (04 R99), reset 0. -/
  malCopy : Bool := false
  /-- MAL_MIRROR, 1 bit (04 R99), reset 0. -/
  malMirror : Bool := false
  /-- PARSED, 72 bits (04 R98), reset 0. -/
  parsed : Nat := 0
  /-- MALFORMED, 36 bits (04 R98), reset 0. -/
  malformed : Nat := 0
  /-- Last cause of MALFORMED, 4 bits (04 R98), reset 0. -/
  malCause : Nat := 0
  /-- INCOMPLETE, 36 bits (04 R98), reset 0. -/
  incomplete : Nat := 0
  /-- Sequence tag that ingress staging gives next, 6 bits (04 R83), reset DESIGN CHOICE 0 (log 12). -/
  nextTag : Nat := 0
  /-- Sequence tag whose result the collector releases next, 6 bits (04 R83), reset DESIGN CHOICE 0 (log 12). -/
  takeTag : Nat := 0
  /-- Second-pass tag given next, 6 bits (04 R96), reset DESIGN CHOICE 0 (log 12). -/
  nextTag2 : Nat := 0
  /-- Second-pass tag released next, 6 bits (04 R96), reset DESIGN CHOICE 0 (log 12). -/
  takeTag2 : Nat := 0
deriving DecidableEq, Repr

/-- The default parse configuration. -/
def PortParse.dflt (_ : Nat) : PortParse := {}

/-- A range comparator (04 R88). -/
structure RangeCmp where
  /-- ENABLE, 1 bit (04 R88), reset 0 (image). -/
  enable : Bool := false
  /-- FIELD, 4 bits (04 R88), reset 0 (image). -/
  field : Nat := 0
  /-- LOW, 16 bits (04 R88), reset 0 (image). -/
  low : Nat := 0
  /-- HIGH, 16 bits (04 R88), reset 0 (image). -/
  high : Nat := 0
deriving DecidableEq, Repr

/-- The default comparator. -/
def RangeCmp.dflt (_ : Nat) : RangeCmp := {}

/-- A group directory entry (04 R89). -/
structure GroupEnt where
  /-- BASE1, 12 bits (04 R89), reset 0 (image). -/
  base1 : Nat := 0
  /-- COUNT1, 10 bits (04 R89), reset 0. -/
  count1 : Nat := 0
  /-- BASE2, 12 bits (04 R89), reset 0 (image). -/
  base2 : Nat := 0
  /-- COUNT2, 10 bits (04 R89), reset 0. -/
  count2 : Nat := 0
  /-- DEF_FWD (04 R89), reset 1 where IN_ZONE equals OUT_ZONE, else 0. -/
  defFwd : Bool := false
  /-- DEF_CPU (04 R89), reset 0. -/
  defCpu : Bool := false
  /-- INC_FWD (04 R89), reset as DEF_FWD. -/
  incFwd : Bool := false
  /-- INC_CPU (04 R89), reset 0. -/
  incCpu : Bool := false
  /-- FMISS_FWD (04 R89), reset as DEF_FWD. -/
  fmissFwd : Bool := false
  /-- FMISS_CPU (04 R89), reset 0. -/
  fmissCpu : Bool := false
deriving DecidableEq, Repr

/-- Factory directory entry of zone pair 16 × IN_ZONE + OUT_ZONE (04 R89). -/
def GroupEnt.dflt (k : Nat) : GroupEnt :=
  let e := k / 16 % 16 == k % 16
  { defFwd := e, incFwd := e, fmissFwd := e }

/-- A forwarding and stream entry as its four words (05 R110). -/
structure FwdEnt where
  /-- Word 0. -/
  w0 : Word := 0
  /-- Word 1. -/
  w1 : Word := 0
  /-- Word 2. -/
  w2 : Word := 0
  /-- Word 3. -/
  w3 : Word := 0
deriving DecidableEq, Repr

/-- Factory table: entry 0 is the flood entry of VID 1 naming ports 0 to 25 and port 28 in Q0; every other entry is free (05 R116). -/
def FwdEnt.dflt (k : Nat) : FwdEnt :=
  if k = 0 then
    { w0 := pack [(35, 1, 1), (13, 12, 1), (0, 13, 8191)], w1 := pack [(1, 35, 2 ^ 35 - 1)],
      w2 := pack [(6, 26, 2 ^ 26 - 1), (33, 1, 1)], w3 := 0 }
  else {}

/-- VLAN, learning and R-TAG settings and counters of one port (05 R117, R130, R135). -/
structure VlanPort where
  /-- PVID, 12 bits (05 R135), reset 1. -/
  pvid : Nat := 1
  /-- DEF_PCP, 3 bits (05 R135), reset 0. -/
  defPcp : Nat := 0
  /-- ACCEPT, 2 bits (05 R135), reset 0b00. -/
  accept : Nat := 0
  /-- IN_FILTER, 1 bit (05 R135), reset 0. -/
  inFilter : Bool := false
  /-- EG_MODE, 2 bits (05 R135), reset 0b01. -/
  egMode : Nat := 1
  /-- LEARN, 1 bit (05 R135), reset 0. -/
  learn : Bool := false
  /-- RTAG_RX, 1 bit (05 R135), reset 0. -/
  rtagRx : Bool := false
  /-- RTAG_TX, 1 bit (05 R135), reset 0. -/
  rtagTx : Bool := false
  /-- FLUSH_ON_DOWN, 1 bit (05 R135), reset 1. -/
  flushOnDown : Bool := true
  /-- LEARN_QUEUE, 5 bits (05 R135), reset 0. -/
  learnQueue : Nat := 0
  /-- RESTORE_HOLD, 10 bits, ms (05 R135), reset 50. -/
  restoreHold : Nat := 50
  /-- IN_FRAMES, 72 bits (05 R130), reset 0. -/
  inFrames : Nat := 0
  /-- IN_OCTETS, 72 bits (05 R130), reset 0. -/
  inOctets : Nat := 0
  /-- OUT_FRAMES, 72 bits (05 R130), reset 0. -/
  outFrames : Nat := 0
  /-- OUT_OCTETS, 72 bits (05 R130), reset 0. -/
  outOctets : Nat := 0
  /-- NO_ROUTE, 36 bits (05 R130), reset 0. -/
  noRoute : Nat := 0
  /-- VLAN_DROPS, 36 bits (05 R130), reset 0. -/
  vlanDrops : Nat := 0
  /-- OVERSIZE_DROPS, 36 bits (05 R130), reset 0. -/
  oversize : Nat := 0
deriving DecidableEq, Repr

/-- The default VLAN settings. -/
def VlanPort.dflt (_ : Nat) : VlanPort := {}

/-- Configuration of one FRER function (05 R125, R140). -/
structure FrerCfg where
  /-- MODE, 2 bits (05 R140), reset 0b00 DESIGN CHOICE (image; log 12). -/
  mode : Nat := 0
  /-- HISTORY, 6 bits (05 R140), reset 2 DESIGN CHOICE (image; log 12). -/
  history : Nat := 2
  /-- TAKE_NO_SEQ, 1 bit (05 R140), reset 0 DESIGN CHOICE (image; log 12). -/
  takeNoSeq : Bool := false
  /-- RESET_MS, 12 bits (05 R140), reset 1 DESIGN CHOICE (image; log 12). -/
  resetMs : Nat := 1
deriving DecidableEq, Repr

/-- The default FRER configuration. -/
def FrerCfg.dflt (_ : Nat) : FrerCfg := {}

/-- Which table an activation switches (04 R95, 05 R129, 06 R148). -/
inductive ActKind where
  | rule | fwd | policy
deriving DecidableEq, Repr

/-- An activation in progress: one at a time (04 R105). -/
structure Act where
  /-- What it switches. -/
  kind : ActKind := .rule
  /-- Activation time T, quarter ns of time-of-day. -/
  t : Nat := 0
  /-- The path whose command waits for it. -/
  path : Path := .spi
  /-- T has been reached and the response waits for retirement or the sweep (04 R95, 05 R129). -/
  reached : Bool := false
  /-- The sixteen rows of a new permission matrix (06 R161). -/
  rows : List Nat := []
deriving DecidableEq, Repr

/-- The factory parse program, words 40 to 60 as the spec gives them; its other words the spec does not give (04 R80; log 14). -/
def factoryProgramWord (k : Nat) : Word :=
  match k with
  | 40 => pack [(32, 4, 3), (25, 7, 0), (23, 2, 3), (21, 2, 1)]
  | 41 => pack [(32, 4, 3), (25, 7, 2), (23, 2, 1), (21, 2, 2)]
  | 42 => pack [(32, 4, 9), (21, 2, 2), (0, 16, 4)]
  | 43 => pack [(32, 4, 2), (25, 7, 1), (20, 5, 6)]
  | 44 => pack [(32, 4, 2), (25, 7, 9), (20, 5, 5)]
  | 45 => pack [(32, 4, 2), (25, 7, 12), (20, 5, 8)]
  | 46 => pack [(32, 4, 2), (25, 7, 16), (20, 5, 9)]
  | 47 => pack [(32, 4, 3), (25, 7, 6), (23, 2, 1), (21, 2, 3)]
  | 48 => pack [(32, 4, 4), (21, 2, 3), (0, 16, 0x3FFF)]
  | 49 => pack [(32, 4, 6), (23, 9, 70), (21, 2, 3), (0, 16, 0)]
  | 50 => pack [(32, 4, 1), (0, 4, 1)]
  | 51 => pack [(32, 4, 3), (25, 7, 9), (23, 2, 0), (21, 2, 0)]
  | 52 => pack [(32, 4, 8), (21, 2, 1), (19, 2, 2), (0, 16, 0)]
  | 53 => pack [(32, 4, 5), (23, 9, 56), (21, 2, 0), (0, 16, 0x11)]
  | 54 => pack [(32, 4, 5), (23, 9, 61), (21, 2, 0), (0, 16, 6)]
  | 55 => 0
  | 56 => pack [(32, 4, 2), (25, 7, 0), (20, 5, 12)]
  | 57 => pack [(32, 4, 2), (25, 7, 2), (20, 5, 13)]
  | 58 => pack [(32, 4, 3), (25, 7, 4), (23, 2, 1), (21, 2, 2)]
  | 59 => pack [(32, 4, 9), (21, 2, 2), (0, 16, 4)]
  | 60 => 0
  | _ => if k < 512 then Config.factoryProgram k else 0

/-- No word loaded. -/
def noneAt {α : Type} (_ : Nat) : Option α := none

/-- Parsing, rules, forwarding and streams (04, 05). -/
structure TabSt where
  /-- Parse configuration and counters of ports 0 to 31 (04 R74). -/
  ports : Tbl PortParse := []
  /-- Program store words loaded by command, word i of program n at 512 n + i (04 R75), reset: program 0 factory, every other word unloaded. -/
  prog : Tbl (Option Word) := []
  /-- Rule table, 4 096 entries of 12 words; an unlisted entry is all zeros (04 R85), reset image (none). -/
  rules : Tbl (List Word) := []
  /-- Range comparators 0 to 63 (04 R88), reset image (disabled). -/
  ranges : Tbl RangeCmp := []
  /-- Group directory bank 0 (04 R89, R94). -/
  bank0 : Tbl GroupEnt := []
  /-- Group directory bank 1 (04 R89, R94). -/
  bank1 : Tbl GroupEnt := []
  /-- GEN (04 R94), reset 0. -/
  gen : Nat := 0
  /-- RETIRING (04 R106), reset 0. -/
  retiring : Bool := false
  /-- T of the last RULE.COMMIT, 72 bits (04 R106), reset DESIGN CHOICE 0 (log 12). -/
  ruleT : Nat := 0
  /-- FRAG_TIMEOUT, 10 bits, ms (04 R107), reset 20. -/
  fragTimeout : Nat := 20
  /-- Forwarding and stream table, 16 384 entries (05 R110), reset: the flood entry of VID 1 at index 0. -/
  fwd : Tbl FwdEnt := []
  /-- FGEN (05 R111), reset 0. -/
  fgen : Nat := 0
  /-- SWEEP in progress (05 R134), reset 0. -/
  sweep : Bool := false
  /-- T of the last FWD.COMMIT, 72 bits (05 R134), reset DESIGN CHOICE 0 (log 12). -/
  fwdT : Nat := 0
  /-- VLAN settings and counters of ports 0 to 31 (05 R117). -/
  vlan : Tbl VlanPort := []
  /-- Learning ENABLE (05 R137), reset 0. -/
  learnEn : Bool := false
  /-- LEARN_BASE, 14 bits (05 R137), reset 14 336. -/
  learnBase : Nat := 14336
  /-- LEARN_COUNT, 15 bits (05 R137), reset 1 024. -/
  learnCount : Nat := 1024
  /-- FRER functions 0 to 1 023 (05 R125). -/
  frer : Tbl FrerCfg := []
  /-- Link-down vector of front ports, 26 bits (05 R126), reset 0. -/
  linkDown : Nat := 0
  /-- The activation in progress (04 R105), reset none. -/
  act : Option Act := none
deriving DecidableEq, Repr

end Sys2Proof.Machine
end

