-- ==== Sys2Proof/Machine/StTime.lean ====
section
/-! DEFINITION. State of the time base, the PPS capture, gPTP and the time output (08). -/

namespace Sys2Proof.Machine

/-- Time states, in the order of their codes (08 R216, R231). -/
inductive TimeMode where
  | unset | free | locking | locked | holdover
deriving DecidableEq, Repr

/-- The fields of TIME.CONFIG_WRITE with their factory defaults (08 R234). -/
structure TimeCfg where
  /-- PPS_IN_EN, 1 bit (08 R234), reset 0. -/
  ppsInEn : Bool := false
  /-- PPS_IN_EDGE, 1 bit (08 R234), reset 0. -/
  ppsInEdge : Nat := 0
  /-- PPS_WINDOW, 10 bits, µs (08 R234), reset 100. -/
  ppsWindow : Nat := 100
  /-- LOCK_NS, 10 bits (08 R234), reset 100. -/
  lockNs : Nat := 100
  /-- PPS_CABLE_NS, 14 bits (08 R234), reset 0. -/
  cableNs : Nat := 0
  /-- STEP_EN, 1 bit (08 R234), reset 1. -/
  stepEn : Bool := true
  /-- SLEW_LIMIT, 14 bits, µs (08 R234), reset 1 000. -/
  slewLimit : Nat := 1000
  /-- SLEW_PPB, 17 bits (08 R234), reset 10 000. -/
  slewPpb : Nat := 10000
  /-- HOLDOVER_MAX, 16 bits, s (08 R234), reset 3 600. -/
  holdoverMax : Nat := 3600
  /-- UTC_OFFSET, 8 bits (08 R234), reset 37. -/
  utcOffset : Nat := 37
  /-- LEAP61, 1 bit (08 R234), reset 0. -/
  leap61 : Bool := false
  /-- LEAP59, 1 bit (08 R234), reset 0. -/
  leap59 : Bool := false
  /-- LOCAL_OFFSET, signed 11 bits, min (08 R234), reset 0. -/
  localOffset : Int := 0
  /-- PPS_OUT_MODE, 2 bits (08 R234), reset 0. -/
  ppsOutMode : Nat := 0
  /-- PPS_OUT_POL, 1 bit (08 R234), reset 0. -/
  ppsOutPol : Nat := 0
  /-- PPS_OUT_WIDTH, 9 bits, ms (08 R234), reset 100. -/
  ppsOutWidth : Nat := 100
  /-- PTP_QUEUE, 5 bits (08 R234), reset 31. -/
  ptpQueue : Nat := 31
  /-- DOMAIN, 8 bits (08 R234), reset 0. -/
  domain : Nat := 0
  /-- ANNOUNCE_EN, 1 bit (08 R234), reset 1. -/
  announceEn : Bool := true
  /-- PRIORITY1, 8 bits (08 R234), reset 246. -/
  prio1 : Nat := 246
  /-- PRIORITY2, 8 bits (08 R234), reset 248. -/
  prio2 : Nat := 248
  /-- LOG_ANNOUNCE, signed 4 bits (08 R234), reset 0. -/
  logAnnounce : Int := 0
deriving DecidableEq, Repr

/-- gPTP configuration and state of one front port (08 R223, R236, R237). -/
structure PtpPort where
  /-- PTP_EN, 1 bit (08 R236), reset 0. -/
  en : Bool := false
  /-- ROLE, 2 bits (08 R236), reset 0. -/
  role : Nat := 0
  /-- LOG_SYNC, signed 4 bits (08 R236), reset −3. -/
  logSync : Int := -3
  /-- LOG_PDELAY, signed 4 bits (08 R236), reset 0. -/
  logPdelay : Int := 0
  /-- PDELAY_STATIC, 1 bit (08 R236), reset 0. -/
  pdelayStatic : Bool := false
  /-- STATIC_DELAY, 16 bits, ns (08 R236), reset 0. -/
  staticDelay : Nat := 0
  /-- ASYM, signed 16 bits, ns (08 R236), reset 0. -/
  asym : Int := 0
  /-- TX_EXTRA, 10 bits, ns (08 R236), reset 0. -/
  txExtra : Nat := 0
  /-- RX_EXTRA, 10 bits, ns (08 R236), reset 0. -/
  rxExtra : Nat := 0
  /-- Link delays of the last 16 exchanges, ns, newest first (08 R223), reset none. -/
  delays : List Int := []
  /-- Neighbor rate ratio minus 1 of the last 16 exchanges, 0.01 ppb, newest first (08 R223), reset none. -/
  ratios : List Int := []
  /-- PDELAY_VALID (08 R237), reset 0. -/
  delayValid : Bool := false
  /-- SYNC_TX, 36 bits (08 R237), reset 0. -/
  syncTx : Nat := 0
  /-- SYNC_RX, 36 bits (08 R237), reset 0. -/
  syncRx : Nat := 0
  /-- PDELAY_LOST, 36 bits (08 R237), reset 0. -/
  pdelayLost : Nat := 0
  /-- PTP_DISCARDS, 36 bits (08 R237), reset 0. -/
  discards : Nat := 0
  /-- A Pdelay exchange is in progress since this time, quarter ns of time-of-day (08 R211, R223), reset none. -/
  exchange : Option Nat := none
  /-- A Sync has left and its Follow_Up is due, with the Sync's egress time (08 R223), reset none. -/
  followUp : Option Nat := none
  /-- Messages that the time engine has received and not yet processed, oldest first, each with its ingress timestamp in quarter
  ns (08 R223, R224), reset none. -/
  inbox : List (Nat × List Byte) := []
  /-- sequenceId of the last Sync sent, 16 bits (08 R223), reset DESIGN CHOICE 0 (log 12). -/
  syncSeq : Nat := 0
  /-- sequenceId of the last Pdelay_Req sent, 16 bits (08 R223), reset DESIGN CHOICE 0 (log 12). -/
  reqSeq : Nat := 0
  /-- sequenceId of the last Announce sent, 16 bits (08 R225), reset DESIGN CHOICE 0 (log 12). -/
  annSeq : Nat := 0
  /-- Multiple of the sync interval at which the last Sync of a grandmaster was due (08 R223), reset 0. -/
  syncAt : Nat := 0
  /-- Pdelay_Resp of the exchange in progress: time at the responder and time of arrival here, quarter ns (08 R223), reset none. -/
  resp : Option (Int × Int) := none
  /-- The same two times at the end of the last exchange: sent by the responder, received here (08 R223), reset none. -/
  lastPair : Option (Int × Int) := none
deriving DecidableEq, Repr

/-- The default gPTP port. -/
def PtpPort.dflt (_ : Nat) : PtpPort := {}

/-- A change of FREQ_ADJ scheduled for one tick (08 R209). -/
structure FreqChange where
  /-- The tick. -/
  tick : Nat := 0
  /-- New frequency below any slew, 0.01 ppb. -/
  base : Int := 0
  /-- New slew, 0.01 ppb, and its length in ticks; 0 ends the slew, none leaves it (08 R210). -/
  slew : Option (Int × Nat) := none
deriving DecidableEq, Repr

/-- The time base (08). -/
structure TimeSt where
  /-- Time-of-day in units of 2^-32 quarter ns: 72-bit value with 32 further fraction bits (08 R208), reset 0. -/
  tod : Nat := 0
  /-- Monotonic count of 312.5 MHz ticks (08 R208, R212), reset 0. -/
  ticks : Nat := 0
  /-- The timing domain is ON and the counter runs (08 R219, 18 R514), reset no. -/
  on : Bool := false
  /-- The timing domain has run since the AO domain powered up (08 R219), reset no. -/
  kept : Bool := false
  /-- Frequency in force below any slew, signed, 0.01 ppb; with the slew it makes FREQ_ADJ (08 R208, R210), reset 0. -/
  base : Int := 0
  /-- The slew in force, signed, 0.01 ppb, 0 for none; SLEWING is 1 while it is not 0 (08 R210, R231), reset 0. -/
  slew : Int := 0
  /-- Tick at which the slew ends (08 R210), reset none. -/
  slewEnd : Option Nat := none
  /-- A scheduled change of FREQ_ADJ (08 R209), reset none. -/
  pendFreq : Option FreqChange := none
  /-- Tick at which the timing domain went off for sleep or reset (08 R219), reset 0. -/
  offAt : Nat := 0
  /-- A scheduled step: its tick and amount in quarter ns (08 R209), reset none. -/
  pendStep : Option (Nat × Int) := none
  /-- Paths whose TIME.SET waits: for a step (true) or for the start of a slew (08 R232), reset none. -/
  waiters : List (Path × Bool) := []
  /-- Steps made, without the ceiling of STEPS; it tells which ingress timestamps precede a step (08 R211), reset 0. -/
  epoch : Nat := 0
  /-- STATE (08 R216, R231), reset 0 UNSET. -/
  mode : TimeMode := .unset
  /-- SEC_VALID (08 R215), reset 0. -/
  secValid : Bool := false
  /-- SLEPT (08 R219), reset 0. -/
  slept : Bool := false
  /-- STEPS, 28 bits, saturating (08 R231), reset 0. -/
  steps : Nat := 0
  /-- e of the last source sample, signed ns, 32 bits (08 R231), reset 0. -/
  lastE : Int := 0
  /-- Consecutive good samples in LOCKING (08 R216), reset 0. -/
  good : Nat := 0
  /-- FREQ_ADJ of the last servo update (08 R216), reset 0. -/
  servo : Int := 0
  /-- FREQ_ADJ of the last 64 samples, newest first (08 R216), reset none. -/
  history : List Int := []
  /-- Ticks at entry to HOLDOVER (08 R216, R231), reset 0. -/
  holdFrom : Nat := 0
  /-- The fraction has been aligned (08 R214, R215), reset no. -/
  aligned : Bool := false
  /-- Seconds of TIME.SET MODE 1 waiting for the next accepted edge (08 R215), reset none. -/
  pendSecs : Option Nat := none
  /-- Time of the last accepted edge, 72 bits (08 R238), reset 0. -/
  edgeTime : Nat := 0
  /-- Ticks at the last edge of PPS_IN, for the 500 ms rule (08 R214), reset none. -/
  edgeTick : Option Nat := none
  /-- Ticks at the last accepted edge (08 R214), reset none. -/
  acceptTick : Option Nat := none
  /-- PPS_ACCEPTS, 36 bits (08 R238), reset 0. -/
  ppsAccepts : Nat := 0
  /-- PPS_REJECTS, 36 bits (08 R238), reset 0. -/
  ppsRejects : Nat := 0
  /-- PPS_MISSES, 36 bits (08 R238), reset 0. -/
  ppsMisses : Nat := 0
  /-- Offset of the last rejected edge, signed ns (08 R238), reset 0. -/
  rejOffset : Int := 0
  /-- Offsets of the edges rejected directly before the next one, newest first, at most 3 (08 R214), reset none. -/
  rejRun : List Int := []
  /-- Whole second of the last pulse on PPS_OUT (08 R220), reset 0. -/
  ppsLast : Nat := 0
  /-- TIME.CONFIG in force (08 R234). -/
  cfg : TimeCfg := {}
  /-- gPTP of front ports 0 to 25 (08 R236). -/
  ports : Tbl PtpPort := []
  /-- Slave port of a member, 2 or 15 (08 R226, 17 R498), reset none. -/
  slavePort : Option Nat := none
  /-- Monotonic tick of the last Sync processed on the slave port, or of its choice (08 R226), reset none. -/
  syncHeard : Option Nat := none
  /-- Origin time, correction and arrival of the last Sync processed, quarter ns, which a member passes on (08 R222), reset none. -/
  relay : Option (Int × Int × Int) := none
deriving DecidableEq, Repr

end Sys2Proof.Machine
end

