-- ==== Sys2Proof/Machine/State.lean ====
section
/-! DEFINITION. The state of the block, its value after reset, and the reasons a step can stop. -/

namespace Sys2Proof.Machine

/-- The state of the NF3606 block: every piece of state the spec names, and the queue of waiting commands. -/
structure State where
  /-- Commands waiting, first in, first out; the model's own field (log 1), reset empty. -/
  pending : List Instr := []
  /-- Access paths, mailboxes, events and rings (13). -/
  host : HostSt := {}
  /-- Lock bits and fields of the D0 window (13 R365). -/
  locks : LockSt := {}
  /-- Configuration seal (13 R376). -/
  sealSt : SealSt := {}
  /-- Cores, arbiter and Lining (12). -/
  pair : PairSt := {}
  /-- Start-up, links, fault log and maintenance (18). -/
  sys : SysSt := {}
  /-- Time base and gPTP (08). -/
  tim : TimeSt := {}
  /-- Buffers and pools of D1 (03). -/
  poolW : PoolSt := {}
  /-- Buffers and pools of D2 (03). -/
  poolE : PoolSt := {}
  /-- Tables identical on both fabric dies (04, 05). -/
  tab : TabSt := {}
  /-- Zones, matrix, filters and meters (06). -/
  zon : ZoneSt := {}
  /-- Gate lists, shapers and MAC merge (07). -/
  egr : EgressSt := {}
  /-- Front ports 0 to 25 (09). -/
  ports : Tbl PortSt := []
  /-- The stack (17). -/
  stk : StackSt := {}
  /-- The gateway (11). -/
  gw : GwSt := {}
  /-- Identity, slots and update (14). -/
  img : ImgSt := {}
  /-- Power, pace, feeds and the sleep agreement (16). -/
  pow : PowerSt := {}
  /-- Keys, tamper, cipher engine and depot session (15). -/
  key : KeySt := {}
  /-- Legacy channels (10). -/
  edge : EdgeSt := {}
  /-- Frame path of D1 (02). -/
  fabW : FabSt := {}
  /-- Frame path of D2 (02). -/
  fabE : FabSt := {}
  /-- Record of what left the block; the model's own field (log 5), reset empty. -/
  out : List Output := []
  /-- Counter of free values; the model's own field (log 2), reset DESIGN CHOICE 0. -/
  free : Nat := 0
deriving DecidableEq, Repr

/-- Why a command stops. No command of this block stops: the spec gives every one an effect. -/
inductive Fault where
  /-- Raised by no command; the type must hold a name (log 6). Safe: a fault would only make claims unprovable. -/
  | unreachable
deriving DecidableEq, Repr

/-- Why a command has no meaning. -/
inductive Refusal where
  /-- An arm that has no meaning yet names its mnemonic here. Safe: the machine stops where the block goes on. -/
  | notModelled (mnemonic : String)
deriving DecidableEq, Repr

/-- The block right after its always-on supply has come up: nothing but D0 is powered, every register holds its reset
value (18 R512; log 7). -/
def State.reset : State := {}

end Sys2Proof.Machine
end

