-- ==== Sys2Proof/Machine/Ops.lean ====
section
/-! DEFINITION. The named operations over the state that every family uses: slices, events, logs and the time value. -/

namespace Sys2Proof

/-- The other fabric die. -/
def Fab.other : Fab → Fab
  | .west => .east
  | .east => .west

/-- The die number of a fabric die (01 R8). -/
def Fab.num : Fab → Nat
  | .west => 1
  | .east => 2

/-- The fabric die of a DIE bit, 0 West, 1 East. -/
def fabOf (n : Nat) : Fab := if n = 0 then .west else .east

/-- The DIE bit of a fabric die. -/
def Fab.bit : Fab → Nat
  | .west => 0
  | .east => 1

/-- Whether a path is a PCIe function. -/
def Path.isPcie : Path → Bool
  | .pcieW0 | .pcieW1 | .pcieE0 | .pcieE1 => true
  | _ => false

/-- Whether a path is one of the six access paths. -/
def Path.isHost : Path → Bool
  | .image | .relay => false
  | _ => true

/-- The fabric die of a PCIe path; for the others the die is that of the core that serves them (13 R356). -/
def Path.die (act : Fab) : Path → Fab
  | .pcieW0 | .pcieW1 => .west
  | .pcieE0 | .pcieE1 => .east
  | _ => act

/-- The owner ID of a requester (03 R54, 13 R356). -/
def Path.owner : Path → Nat
  | .pcieW0 | .pcieE0 => 0x41
  | .pcieW1 | .pcieE1 => 0x42
  | .spi => 0x43
  | .service => 0x44
  | .image => 0x40
  | .relay => 0x45

/-- The PCIe function number of a path. -/
def Path.func : Path → Nat
  | .pcieW1 | .pcieE1 => 1
  | _ => 0

/-- Payload word `i` of a request, counted from 1. -/
def Req.word (r : Req) (i : Nat) : Word := r.words.getD (i - 1) 0

/-- A field of payload word `i`. -/
def Req.fld (r : Req) (i hi lo : Nat) : Nat := Sys2Proof.fld (r.word i) hi lo

/-- A bit of payload word `i`. -/
def Req.bit (r : Req) (i b : Nat) : Bool := Sys2Proof.bit1 (r.word i) b

/-- LOCAL as it acts: on PCIe paths only (13 R367). -/
def Req.isLocal (r : Req) : Bool := r.flags % 2 == 1 && r.path.isPcie

/-- The die that DIE in bit 35 of word 1 names. -/
def Req.dieBit (r : Req) : Fab := fabOf (Sys2Proof.fld (r.word 1) 35 35)

end Sys2Proof

namespace Sys2Proof.Machine

/-- The outcome of a command's meaning. -/
abbrev Res := Host.Outcome State Fault Refusal

/-! ### Slices -/

/-- Change the host-interface slice. -/
def State.modHost (s : State) (f : HostSt → HostSt) : State := { s with host := f s.host }
/-- Change the core-pair slice. -/
def State.modPair (s : State) (f : PairSt → PairSt) : State := { s with pair := f s.pair }
/-- Change the start-up and maintenance slice. -/
def State.modSys (s : State) (f : SysSt → SysSt) : State := { s with sys := f s.sys }
/-- Change the time slice. -/
def State.modTim (s : State) (f : TimeSt → TimeSt) : State := { s with tim := f s.tim }
/-- Change the lock slice. -/
def State.modLocks (s : State) (f : LockSt → LockSt) : State := { s with locks := f s.locks }
/-- Change the seal slice. -/
def State.modSeal (s : State) (f : SealSt → SealSt) : State := { s with sealSt := f s.sealSt }

/-- The pools of a fabric die. -/
def State.pool (s : State) : Fab → PoolSt
  | .west => s.poolW
  | .east => s.poolE

/-- Change the pools of a fabric die. -/
def State.modPool (s : State) (d : Fab) (f : PoolSt → PoolSt) : State :=
  match d with
  | .west => { s with poolW := f s.poolW }
  | .east => { s with poolE := f s.poolE }

/-- Change the shared tables. -/
def State.modTab (s : State) (f : TabSt → TabSt) : State := { s with tab := f s.tab }

/-- Change the zones, filters and meters. -/
def State.modZon (s : State) (f : ZoneSt → ZoneSt) : State := { s with zon := f s.zon }

/-- Change the gate lists, shapers and MAC merge. -/
def State.modEgr (s : State) (f : EgressSt → EgressSt) : State := { s with egr := f s.egr }

/-- Change the stack slice. -/
def State.modStk (s : State) (f : StackSt → StackSt) : State := { s with stk := f s.stk }

/-- Change the gateway slice. -/
def State.modGw (s : State) (f : GwSt → GwSt) : State := { s with gw := f s.gw }

/-- Change the image slice. -/
def State.modImg (s : State) (f : ImgSt → ImgSt) : State := { s with img := f s.img }

/-- Change the power slice. -/
def State.modPow (s : State) (f : PowerSt → PowerSt) : State := { s with pow := f s.pow }

/-- Change the key slice. -/
def State.modKey (s : State) (f : KeySt → KeySt) : State := { s with key := f s.key }

/-- Change the legacy-channel slice. -/
def State.modEdge (s : State) (f : EdgeSt → EdgeSt) : State := { s with edge := f s.edge }

/-- One front port. -/
def State.port (s : State) (p : Nat) : PortSt := Tbl.get PortSt.dflt s.ports p

/-- Change one front port. -/
def State.modPort (s : State) (p : Nat) (f : PortSt → PortSt) : State :=
  { s with ports := Tbl.upd PortSt.dflt s.ports p f }

/-- The frame path of a fabric die. -/
def State.fab (s : State) : Fab → FabSt
  | .west => s.fabW
  | .east => s.fabE

/-- Change the frame path of a fabric die. -/
def State.modFab (s : State) (d : Fab) (f : FabSt → FabSt) : State :=
  match d with
  | .west => { s with fabW := f s.fabW }
  | .east => { s with fabE := f s.fabE }

/-- The fabric die of a port 0 to 31 (01 R17). -/
def dieOfPort (p : Nat) : Fab := if p ≤ 12 ∨ p = 26 ∨ p = 28 ∨ p = 30 then .west else .east

/-- The local index of a port on its die (01 R17). -/
def localOf (p : Nat) : Nat :=
  if p ≤ 12 then p else if p ≤ 25 then p - 13 else if p ≤ 27 then 13 else if p ≤ 29 then 14 else 15

/-- The port with local index `o` on die `d`; the Seam, 16, is no port (01 R17). -/
def portOf (d : Fab) (o : Nat) : Nat :=
  if o ≤ 12 then o + 13 * d.bit else if o = 13 then 26 + d.bit else if o = 14 then 28 + d.bit else 30 + d.bit

/-- Whether a fabric die, or any die by number, is present (18 R527). -/
def State.has (s : State) (d : Nat) : Bool := inMask s.sys.present d

/-- One access path. -/
def HostSt.path (h : HostSt) : Path → PathSt
  | .pcieW0 => h.w0
  | .pcieW1 => h.w1
  | .pcieE0 => h.e0
  | .pcieE1 => h.e1
  | .spi => h.spi
  | .service => h.svc
  | .image => h.inner
  | .relay => h.bridged

/-- Change one access path. -/
def HostSt.modPath (h : HostSt) (p : Path) (f : PathSt → PathSt) : HostSt :=
  match p with
  | .pcieW0 => { h with w0 := f h.w0 }
  | .pcieW1 => { h with w1 := f h.w1 }
  | .pcieE0 => { h with e0 := f h.e0 }
  | .pcieE1 => { h with e1 := f h.e1 }
  | .spi => { h with spi := f h.spi }
  | .service => { h with svc := f h.svc }
  | .image => { h with inner := f h.inner }
  | .relay => { h with bridged := f h.bridged }

/-- One access path of the state. -/
def State.path (s : State) (p : Path) : PathSt := s.host.path p

/-- Change one access path of the state. -/
def State.modPath (s : State) (p : Path) (f : PathSt → PathSt) : State := s.modHost fun h => h.modPath p f

/-- The paths with registers of their own (13 R356). -/
def hostPaths : List Path := [.pcieW0, .pcieW1, .pcieE0, .pcieE1, .spi, .service]

/-- Record something that leaves the block. -/
def State.emit (s : State) (o : Output) : State := { s with out := s.out ++ [o] }

/-- Take a fresh free value below `n` (log 2). -/
def State.freeBelow (s : State) (n : Nat) : Nat := Config.freeNat s.free % n

/-- Advance the counter of free values. -/
def State.useFree (s : State) : State := { s with free := s.free + 1 }

/-! ### Time values -/

/-- Quarter nanoseconds in one second. -/
def qPerSec : Nat := 4000000000

/-- The time-of-day in quarter nanoseconds (08 R208). -/
def TimeSt.q (t : TimeSt) : Nat := t.tod / 2 ^ 32

/-- The 72-bit time value of a number of quarter nanoseconds (00 R3). -/
def timeOfQ (q : Nat) : Nat := q / qPerSec % 2 ^ 40 * 2 ^ 32 + q % qPerSec

/-- The quarter nanoseconds of a 72-bit time value (00 R3). -/
def qOfTime (t : Nat) : Nat := t / 2 ^ 32 * qPerSec + t % 2 ^ 32

/-- The 72-bit time-of-day (00 R3, 08 R208). -/
def State.now72 (s : State) : Nat := timeOfQ s.tim.q

/-- The time-of-day in quarter nanoseconds. -/
def State.nowQ (s : State) : Nat := s.tim.q

/-- The monotonic count in nanoseconds: 3.2 ns for each tick (08 R212). -/
def State.monoNs (s : State) : Nat := s.tim.ticks * 16 / 5

/-! ### Event registers -/

/-- Flags of EVT_HOST (13 R375). -/
inductive HostFlag where
  | rspReady | rspLevel | reqFree | lateWrite | fifoReset | ringError | aoDiscard
deriving DecidableEq, Repr

/-- The bit of an EVT_HOST flag (13 R375). -/
def HostFlag.bit : HostFlag → Nat
  | .rspReady => 0 | .rspLevel => 1 | .reqFree => 2 | .lateWrite => 3 | .fifoReset => 4 | .ringError => 5 | .aoDiscard => 6

/-- Flags of EVT_WEST and EVT_EAST (13 R375). -/
inductive DieFlag where
  | poolErr | poolLevel | poolSat | ctBad | resOverrun | seamError | gateOverrun | gateRestart | mmVerifyFail
  | qdelay | linkChange | macsecPn | countSat | addrError | fifoFault
deriving DecidableEq, Repr

/-- The bit of an EVT_WEST or EVT_EAST flag (13 R375). -/
def DieFlag.bit : DieFlag → Nat
  | .poolErr => 0 | .poolLevel => 1 | .poolSat => 2 | .ctBad => 3 | .resOverrun => 4 | .seamError => 5
  | .gateOverrun => 6 | .gateRestart => 7 | .mmVerifyFail => 8 | .qdelay => 9 | .linkChange => 10
  | .macsecPn => 11 | .countSat => 12 | .addrError => 13 | .fifoFault => 14

/-- Flags of EVT_DEVICE (13 R375). -/
inductive DevFlag where
  | timeStep | timeState | ppsLost | edgeSat | busOff | gwStale | coreFault | checkerFault | switchover
  | liningStale | sealMismatch | faultLogged | supply | loadTrip | pace | endOfLife | wake | keepAwake
  | tamper | image | maintenance | countSat
deriving DecidableEq, Repr

/-- The bit of an EVT_DEVICE flag (13 R375). -/
def DevFlag.bit : DevFlag → Nat
  | .timeStep => 0 | .timeState => 1 | .ppsLost => 2 | .edgeSat => 3 | .busOff => 4 | .gwStale => 5
  | .coreFault => 6 | .checkerFault => 7 | .switchover => 8 | .liningStale => 9 | .sealMismatch => 10
  | .faultLogged => 11 | .supply => 12 | .loadTrip => 13 | .pace => 14 | .endOfLife => 15 | .wake => 16
  | .keepAwake => 17 | .tamper => 18 | .image => 19 | .maintenance => 20 | .countSat => 21

/-- L_f of a raised flag (13 R373). -/
def EvReg.lf (r : EvReg) (f : Nat) : Option Nat := r.raised.lookup f

/-- Set flag `f` with L_f `l`, keeping the flags rising. -/
def insFlag (f l : Nat) : List (Nat × Nat) → List (Nat × Nat)
  | [] => [(f, l)]
  | (g, m) :: t => if f < g then (f, l) :: (g, m) :: t else if f = g then (f, l) :: t else (g, m) :: insFlag f l t

/-- "on event f" of an event register; the Bool says whether SEQ advanced (13 R373). -/
def EvReg.event (r : EvReg) (f : Nat) : EvReg × Bool :=
  if r.lf f = none ∨ r.lf f = some r.rSeq then
    ({ r with seq := (r.seq + 1) % 256, raised := insFlag f ((r.seq + 1) % 256) r.raised }, true)
  else (r, false)

/-- The flags field of an event register. -/
def EvReg.flags (r : EvReg) : Nat := maskOf (r.raised.map Prod.fst)

/-- The word of an event register: SEQ and flags (13 R364). -/
def EvReg.word (r : EvReg) : Word := pack [(28, 8, r.seq), (0, 28, r.flags)]

/-- "on read" of an event register (13 R373). -/
def EvReg.read (r : EvReg) : EvReg :=
  { r with rSeq := r.seq, raised := r.raised.map fun e => (e.1, r.seq), upper := r.seq / 16 }

/-- "on write S" of an event register (13 R373): a flag is cleared when S − L_f, modulo 256, is below 128. -/
def EvReg.write (r : EvReg) (sv : Nat) : EvReg :=
  { r with raised := r.raised.filter fun e => decide (¬ ((sv + 256 - e.2) % 256 < 128)) }

/-- Event register `n` of a path: 0 EVT_HOST, 1 EVT_WEST, 2 EVT_EAST, 3 EVT_DEVICE (13 R364). -/
def PathSt.ev (p : PathSt) (n : Nat) : EvReg :=
  match n with | 0 => p.evHost | 1 => p.evWest | 2 => p.evEast | _ => p.evDev

/-- Replace event register `n` of a path. -/
def PathSt.setEv (p : PathSt) (n : Nat) (r : EvReg) : PathSt :=
  match n with
  | 0 => { p with evHost := r }
  | 1 => { p with evWest := r }
  | 2 => { p with evEast := r }
  | _ => { p with evDev := r }

/-- The four event registers of a path as a notice carries them (13 R360). -/
def PathSt.notice (p : PathSt) : List Word := [p.evHost.word, p.evWest.word, p.evEast.word, p.evDev.word]

/-- The MSI-X vector of flag `f` of register `n` (13 R374). -/
def vectorOf (n f : Nat) : Nat := if n = 0 then (if f = 0 then 0 else 1) else n + 1

/-- Whether a power domain other than AO and BK is ON (16 R457). -/
def State.domOn (s : State) (d : Nat) : Bool := Tbl.get (fun _ => DomMode.off) s.pow.doms d == .on

/-- A notice carries the four event registers of the service instance, which is how that port reads them (13 R356, R360, R373). -/
def PathSt.noticed (p : PathSt) : PathSt :=
  { p with evHost := p.evHost.read, evWest := p.evWest.read, evEast := p.evEast.read, evDev := p.evDev.read }

/-- Raise flag `f` of register `n` on one path: SEQ and the flag, and when SEQ advances the vector, or the notice of the
service port (13 R373, R374, R360). The SPI_INT ball is a function of the registers. -/
def State.raiseAt (s : State) (p : Path) (n f : Nat) : State :=
  let r := ((s.path p).ev n).event f
  let s1 := s.modPath p fun q => q.setEv n r.1
  if r.2 then
    match p with
    | .service => if s.domOn 3 then (s1.emit (.service 3 0 (s1.path p).notice)).modPath p PathSt.noticed else s1
    | .spi => s1
    | .image | .relay => s
    | _ => if inMask r.1.mask f then s1.emit (.msix p (vectorOf n f)) else s1
  else s1

/-- Raise a flag of EVT_HOST on one path. -/
def State.raiseHost (s : State) (p : Path) (f : HostFlag) : State := s.raiseAt p 0 f.bit

/-- Raise a flag of EVT_WEST or EVT_EAST, on every path (13 R356, R375). -/
def State.raiseDie (s : State) (d : Fab) (f : DieFlag) : State :=
  hostPaths.foldl (fun s p => s.raiseAt p d.num f.bit) s

/-- Raise a flag of EVT_DEVICE, on every path (13 R356, R375). -/
def State.raiseDev (s : State) (f : DevFlag) : State :=
  hostPaths.foldl (fun s p => s.raiseAt p 3 f.bit) s

/-- Count `k` events on a 36-bit counter and raise `ev` when it reaches its ceiling (00 R4). -/
def State.satRaise (s : State) (old k : Nat) (ev : State → State) : State :=
  if old < max36 ∧ max36 ≤ old + k then ev s else s

/-- A 36-bit counter of a fabric die steps by `k`; COUNT_SAT when it saturates (00 R4, 13 R375). -/
def State.dieTick (s : State) (d : Fab) (old k : Nat) (f : FabSt → FabSt) : State :=
  (s.modFab d f).satRaise old k fun t => t.raiseDie d .countSat

/-! ### Fault log -/

/-- CLASS of a fault code (18 R556). -/
def faultClass (code : Nat) : Nat :=
  if code ∈ [0x08, 0x09, 0x0B, 0x0D, 0x0E, 0x12, 0x16, 0x18, 0x1B] then 1
  else if code ∈ [0x01, 0x02, 0x03, 0x04, 0x05, 0x06, 0x07, 0x10, 0x11, 0x13, 0x14, 0x15, 0x17] then 2
  else if code = 0x21 then 3 else 0

/-- Whether a fault repeats the newest entry: same CODE, DIE and DETAIL within 1 s (18 R525). -/
def FaultEntry.repeats (e : FaultEntry) (code die detail mono : Nat) : Bool :=
  e.code == code && e.die == die && e.detail == detail && decide (mono - e.mono ≤ 1000000000)

/-- The log after one more fault: REPEAT of the newest entry advances, or an entry is made and the oldest of 2 044 is
overwritten (18 R525). -/
def faultAppend (log : List FaultEntry) (e : FaultEntry) : List FaultEntry :=
  match log.getLast? with
  | some l =>
    if l.repeats e.code e.die e.detail e.mono then log.dropLast ++ [{ l with rep := satN 8 l.rep 1 }]
    else (log ++ [e]).drop (log.length + 1 - 2044)
  | none => [e]

/-- Whether a fault makes an entry of its own (18 R525). -/
def faultIsNew (log : List FaultEntry) (e : FaultEntry) : Bool :=
  match log.getLast? with
  | some l => !l.repeats e.code e.die e.detail e.mono
  | none => true

/-- Enter a fault in the D0 fault log and raise FAULT_LOGGED (18 R523, R525, R556). -/
def State.logFault (s : State) (code die detail : Nat) : State :=
  let e : FaultEntry := { code := code, die := die, cls := faultClass code, boot := s.sys.boots,
                          detail := detail, time := s.now72, mono := s.monoNs }
  let s1 := s.modSys fun y =>
    { y with log := faultAppend y.log e, logTotal := if faultIsNew y.log e then sat36 y.logTotal 1 else y.logTotal }
  s1.raiseDev .faultLogged

/-! ### Late writes -/

/-- Enter a failed write in the late-write log of a path; on PCIe raise LATE_WRITE, send vector 5 and signal ERR_NONFATAL, on SPI
set LAST_ERR (13 R383, R384). -/
def State.logLate (s : State) (p : Path) (reason address : Nat) : State :=
  let e : LateEntry := { reason := reason, address := address, tag := (s.path p).writeTag, time := s.now72 % 2 ^ 36 }
  let s1 := s.modPath p fun q =>
    { q with lateLog := (q.lateLog ++ [e]).drop (q.lateLog.length + 1 - 16), lateTotal := sat36 q.lateTotal 1 }
  if p.isPcie then ((s1.raiseHost p .lateWrite).emit (.msix p 5)).emit (.errNonFatal p)
  else if p = .spi then s1.modHost fun h => { h with spiT := { h.spiT with lastErr := true } }
  else s1

/-! ### Address errors -/

/-- Count an address error on die `d` and log the full address (01 R23). -/
def State.addrError (s : State) (d addr : Nat) : State :=
  let old := Tbl.get zeroAt s.sys.addrErr d
  let s1 := s.modSys fun y => { y with addrErr := Tbl.put zeroAt y.addrErr d (sat36 old 1) }
  let s2 := match d with
    | 1 => s1.raiseDie .west .addrError
    | 2 => s1.raiseDie .east .addrError
    | _ => s1
  s2.logFault 0x0C d addr

end Sys2Proof.Machine
end

