-- ==== Sys2Proof/Machine/Pools.lean ====
section
/-! DEFINITION. The pool managers: cells, message buffers, Pocket units, sharing, frees and their errors (03). -/

namespace Sys2Proof.Machine

/-! ### Counters, levels and errors -/

/-- Change the counters of one pool. -/
def State.modCtr (s : State) (d : Fab) (p : Nat) (f : PoolCtr → PoolCtr) : State :=
  s.modPool d fun q => { q with ctr := Tbl.upd PoolCtr.dflt q.ctr p f }

/-- The counters of one pool. -/
def State.ctr (s : State) (d : Fab) (p : Nat) : PoolCtr := Tbl.get PoolCtr.dflt (s.pool d).ctr p

/-- `n` buffers of a pool come into use: IN_USE, HWM, ALLOCS, and POOL_LEVEL when the level is reached (03 R66, R67). -/
def State.useUp (s : State) (d : Fab) (p n : Nat) : State :=
  let old := (s.ctr d p).inUse
  let lvl := Tbl.get levelDflt (s.pool d).levels p
  let s1 := s.modCtr d p fun c =>
    { c with inUse := c.inUse + n, hwm := max c.hwm (c.inUse + n), allocs := add72 c.allocs n }
  if lvl ≠ 0 ∧ old < lvl ∧ lvl ≤ old + n then s1.raiseDie d .poolLevel else s1

/-- `n` buffers of a pool are freed: IN_USE and FREES (03 R67). -/
def State.useDown (s : State) (d : Fab) (p n : Nat) : State :=
  s.modCtr d p fun c => { c with inUse := c.inUse - n, frees := add72 c.frees n }

/-- A 36-bit pool counter steps once; POOL_SAT when it saturates (03 R67). -/
def State.poolTick (s : State) (d : Fab) (p : Nat) (get : PoolCtr → Nat) (set : PoolCtr → Nat → PoolCtr) : State :=
  let old := get (s.ctr d p)
  (s.modCtr d p fun c => set c (sat36 (get c) 1)).satRaise old 1 fun t => t.raiseDie d .poolSat

/-- EMPTY_FAILS of a pool steps (03 R67). -/
def State.emptyFail (s : State) (d : Fab) (p : Nat) : State :=
  s.poolTick d p PoolCtr.emptyFails fun c n => { c with emptyFails := n }

/-- FALLBACKS of a pool steps (03 R60). -/
def State.fallback (s : State) (d : Fab) (p : Nat) : State :=
  s.poolTick d p PoolCtr.fallbacks fun c n => { c with fallbacks := n }

/-- CONTENDED of a pool steps when the decision was contended (03 R62). -/
def State.contend (s : State) (d : Fab) (p : Nat) (b : Bool) : State :=
  if b then s.poolTick d p PoolCtr.contended fun c n => { c with contended := n } else s

/-- The counter of an error class steps (03 R58). -/
def State.errTick (s : State) (d : Fab) (p kind : Nat) : State :=
  if kind ∈ [1, 7, 8] then s.poolTick d p PoolCtr.doubleFrees fun c n => { c with doubleFrees := n }
  else if kind ∈ [2, 3, 5, 9] then s.poolTick d p PoolCtr.notOwner fun c n => { c with notOwner := n }
  else s.poolTick d p PoolCtr.releaseErrs fun c n => { c with releaseErrs := n }

/-- Word A of a pool error-log entry (03 R66). -/
def PoolErr.wordA (e : PoolErr) : Word := pack [(32, 4, e.kind), (29, 3, e.pool), (14, 15, e.index), (6, 8, e.requester)]

/-- A detected pool error: counted, logged, POOL_ERR raised, and sent to the D0 fault log for a frame-path requester
(03 R58, R66). -/
def State.poolError (s : State) (d : Fab) (kind pool index requester owner share : Nat) : State :=
  let e : PoolErr := { kind := kind, pool := pool, index := index, requester := requester, owner := owner,
                       share := share, time := s.now72 % 2 ^ 36 }
  let s1 := s.errTick d pool kind
  let s2 := s1.modPool d fun q =>
    { q with errLog := (q.errLog ++ [e]).drop (q.errLog.length + 1 - 16), errTotal := sat36 q.errTotal 1 }
  let s3 := s2.raiseDie d .poolErr
  if requester ≤ 0x30 then s3.logFault 0x0A d.num e.wordA.toNat else s3

/-! ### Message buffers -/

/-- Number of buffers of a message pool (03 R50). -/
def poolSize (p : Nat) : Nat := match p with | 1 => 4096 | 2 => 1024 | 3 => 256 | 0 => 32768 | _ => 9216

/-- The smallest message pool that holds a size in words (03 R59). -/
def poolFor (n : Nat) : Option Nat :=
  if n = 0 then none else if n ≤ 16 then some 1 else if n ≤ 64 then some 2 else if n ≤ 512 then some 3 else none

/-- The records of a message pool. -/
def PoolSt.msg (q : PoolSt) (p : Nat) : Tbl BufRec := match p with | 1 => q.mp64 | 2 => q.mp256 | _ => q.mp2k

/-- Replace the records of a message pool. -/
def PoolSt.setMsg (q : PoolSt) (p : Nat) (t : Tbl BufRec) : PoolSt :=
  match p with | 1 => { q with mp64 := t } | 2 => { q with mp256 := t } | _ => { q with mp2k := t }

/-- Find-first-free: the lowest index from `n` on whose buffer is not in use (03 R59). -/
def firstFree (n : Nat) : Tbl BufRec → Nat
  | [] => n
  | (a, v) :: t => if n < a then n else if v.inUse then firstFree (a + 1) t else a

/-- The record of a message buffer. -/
def State.buf (s : State) (d : Fab) (p i : Nat) : BufRec := Tbl.get BufRec.dflt ((s.pool d).msg p) i

/-- Write the record of a message buffer. -/
def State.putBuf (s : State) (d : Fab) (p i : Nat) (r : BufRec) : State :=
  s.modPool d fun q => q.setMsg p (Tbl.put BufRec.dflt (q.msg p) i r)

/-- ALLOC of one message buffer of pool `p` by owner `x`: the lowest free index, or EMPTY (03 R55, R59). -/
def State.allocFrom (s : State) (d : Fab) (p x : Nat) : State × Option Nat :=
  let i := firstFree 0 ((s.pool d).msg p)
  if i < poolSize p then ((s.putBuf d p i { inUse := true, owner := x, share := 1 }).useUp d p 1, some i)
  else (s.emptyFail d p, none)

/-- ALLOC that falls back through the listed pools, counting each fall-back at the pool that was empty (03 R60). -/
def State.allocFall (s : State) (d : Fab) (x : Nat) : List Nat → State × Option (Nat × Nat)
  | [] => (s, none)
  | p :: ps =>
    match s.allocFrom d p x with
    | (s1, some i) => (s1, some (p, i))
    | (s1, none) => if ps.isEmpty then (s1, none) else (s1.fallback d p).allocFall d x ps

/-- ALLOC of `n` words by owner `x`, with or without fall-back (03 R59, R60). -/
def State.allocMsg (s : State) (d : Fab) (x n : Nat) (fall : Bool) : State × Option (Nat × Nat) :=
  match poolFor n with
  | none => (s, none)
  | some p => s.allocFall d x (if fall then (List.range 4).drop p else [p])

/-- SHARE k of a message buffer by `x` (03 R55). -/
def State.shareMsg (s : State) (d : Fab) (p i x k : Nat) : State × PoolOutcome :=
  let r := s.buf d p i
  if !r.inUse || r.owner != x then (s.poolError d 5 p i x r.owner r.share, .refused)
  else if 31 < r.share + k then (s.poolError d 6 p i x r.owner r.share, .refused)
  else (s.putBuf d p i { r with share := r.share + k }, .done)

/-- RELEASE of a message buffer by `x` (03 R55). -/
def State.releaseMsg (s : State) (d : Fab) (p i x : Nat) : State × PoolOutcome :=
  let r := s.buf d p i
  if !r.inUse || decide (r.share < 2) then (s.poolError d 4 p i x r.owner r.share, .refused)
  else if r.share = 2 then (s.putBuf d p i { r with share := 1, owner := x }, .last)
  else (s.putBuf d p i { r with share := r.share - 1 }, .notLast)

/-- FREE of a message buffer by `x` (03 R55). -/
def State.freeMsg (s : State) (d : Fab) (p i x : Nat) : State × PoolOutcome :=
  let r := s.buf d p i
  if !r.inUse then (s.poolError d 1 p i x r.owner r.share, .refused)
  else if 1 < r.share then (s.poolError d 3 p i x r.owner r.share, .refused)
  else if r.owner ≠ x then (s.poolError d 2 p i x r.owner r.share, .refused)
  else ((s.putBuf d p i { r with inUse := false, share := 0 }).useDown d p 1, .done)

/-- Hand a buffer of owner `x` over to `y`, who finishes with it: SHARE 1, RELEASE by `y`, FREE by `y` (03 R55). -/
def State.handOver (s : State) (d : Fab) (p i x y : Nat) : State :=
  let s1 := (s.shareMsg d p i x 1).1
  let s2 := (s1.releaseMsg d p i y).1
  (s2.freeMsg d p i y).1

/-! ### Cells -/

/-- Word 0 of a cell. -/
def PoolSt.word0 (q : PoolSt) (c : Nat) : Word := Tbl.get cellWordDflt q.cells (64 * c)

/-- Whether a cell carries the free mark (03 R52). -/
def PoolSt.cellFree (q : PoolSt) (c : Nat) : Bool := fld (q.word0 c) 35 32 == 15

/-- The control record of a cell. -/
def PoolSt.cellRec (q : PoolSt) (c : Nat) : CellRec := Tbl.get CellRec.dflt q.recs c

/-- Write one cell-store word. -/
def PoolSt.putCellWord (q : PoolSt) (a : Nat) (w : Word) : PoolSt := { q with cells := Tbl.put cellWordDflt q.cells a w }

/-- Write the control record of a cell. -/
def PoolSt.putRec (q : PoolSt) (c : Nat) (r : CellRec) : PoolSt := { q with recs := Tbl.put CellRec.dflt q.recs c r }

/-- A grant takes the head cell, makes its NEXT_FREE the head and writes tag 0b0000 into its word 0 (03 R52). -/
def PoolSt.takeCell (q : PoolSt) (x : Nat) : PoolSt × Option Nat :=
  match q.freeHead with
  | none => (q, none)
  | some c =>
    let w := q.word0 c
    let q1 := q.putCellWord (64 * c) (pack [(0, 32, fld w 31 0)])
    let q2 := q1.putRec c { owner := x, share := 1 }
    ({ q2 with freeHead := if bit1 w 31 then none else some (fld w 14 0) }, some c)

/-- A free writes the free mark and the old head into word 0 and makes the cell the head (03 R52). -/
def PoolSt.giveCell (q : PoolSt) (c : Nat) : PoolSt :=
  let w := match q.freeHead with
    | none => pack [(32, 4, 15), (31, 1, 1)]
    | some h => pack [(32, 4, 15), (0, 15, h)]
  let q1 := q.putCellWord (64 * c) w
  let q2 := q1.putRec c { q1.cellRec c with share := 0 }
  { q2 with freeHead := some c }

/-- Grant one cell to owner `x`, or meet an empty pool (03 R52, R67). -/
def State.grantCell (s : State) (d : Fab) (x : Nat) : State × Option Nat :=
  match (s.pool d).takeCell x with
  | (q, some c) => ((s.modPool d fun _ => q).useUp d 0 1, some c)
  | (_, none) => (s.emptyFail d 0, none)

/-- Free one cell that does not carry the free mark. -/
def State.freeCell (s : State) (d : Fab) (c : Nat) : State := (s.modPool d fun q => q.giveCell c).useDown d 0 1

/-- Walk a chain from `c`, freeing each cell and logging each cell already free, up to the cell with END (03 R57). -/
def State.freeWalk (s : State) (d : Fab) (x : Nat) : Nat → Nat → State
  | 0, _ => s
  | n + 1, c =>
    let r := (s.pool d).cellRec c
    let s1 := if (s.pool d).cellFree c then s.poolError d 7 0 c x r.owner r.share else s.freeCell d c
    if r.last then s1 else s1.freeWalk d x n r.next

/-- The cells of a chain from its head. -/
def PoolSt.chain (q : PoolSt) : Nat → Nat → List Nat
  | 0, _ => []
  | n + 1, c => if (q.cellRec c).last then [c] else c :: q.chain n (q.cellRec c).next

/-- SHARE k of a chain by its head cell (03 R55). -/
def State.shareCell (s : State) (d : Fab) (c x k : Nat) : State × PoolOutcome :=
  let r := (s.pool d).cellRec c
  if (s.pool d).cellFree c || r.owner != x then (s.poolError d 5 0 c x r.owner r.share, .refused)
  else if 31 < r.share + k then (s.poolError d 6 0 c x r.owner r.share, .refused)
  else (s.modPool d fun q => q.putRec c { r with share := r.share + k }, .done)

/-- RELEASE of a chain by its head cell (03 R55). -/
def State.releaseCell (s : State) (d : Fab) (c x : Nat) : State × PoolOutcome :=
  let r := (s.pool d).cellRec c
  if (s.pool d).cellFree c || decide (r.share < 2) then (s.poolError d 4 0 c x r.owner r.share, .refused)
  else if r.share = 2 then (s.modPool d fun q => q.putRec c { r with share := 1, owner := x }, .last)
  else (s.modPool d fun q => q.putRec c { r with share := r.share - 1 }, .notLast)

/-- FREE of a whole chain by its head cell (03 R55, R57). -/
def State.freeCellChain (s : State) (d : Fab) (c x : Nat) : State × PoolOutcome :=
  let r := (s.pool d).cellRec c
  if (s.pool d).cellFree c then (s.poolError d 1 0 c x r.owner r.share, .refused)
  else if 1 < r.share then (s.poolError d 3 0 c x r.owner r.share, .refused)
  else if r.owner ≠ x then (s.poolError d 2 0 c x r.owner r.share, .refused)
  else (s.freeWalk d x 32768 c, .done)

/-! ### Pocket units -/

/-- The bitmap of a crosspoint's Pocket. -/
def PoolSt.pocket (q : PoolSt) (c : Nat) : Nat := Tbl.get zeroAt q.pockets c

/-- Units in use of a Pocket (03 R67). -/
def PoolSt.unitsUsed (q : PoolSt) (c : Nat) : Nat := (maskList (q.pocket c) 32).length

/-- The lowest `n` free units of a Pocket, when it has as many. -/
def PoolSt.freeUnits (q : PoolSt) (c n : Nat) : Option (List Nat) :=
  let f := (List.range 32).filter fun u => !inMask (q.pocket c) u
  if n ≤ f.length then some (f.take n) else none

/-- Grant the listed units of a crosspoint's Pocket (03 R65, R67). -/
def State.grantUnits (s : State) (d : Fab) (c : Nat) (us : List Nat) : State :=
  let s1 := s.modPool d fun q =>
    let m := us.foldl (fun m u => setMask m u true) (q.pocket c)
    let q1 := { q with pockets := Tbl.put zeroAt q.pockets c m }
    { q1 with unitsHwm := Tbl.put zeroAt q1.unitsHwm c (max (Tbl.get zeroAt q1.unitsHwm c) (q1.unitsUsed c)) }
  s1.useUp d 4 us.length

/-- FREE of one Pocket unit by output `x` (03 R58 kinds 0x8 and 0x9). -/
def State.freeUnit (s : State) (d : Fab) (c u x : Nat) : State × PoolOutcome :=
  if !inMask ((s.pool d).pocket c) u then (s.poolError d 8 4 (32 * c + u) x (c % 17) 0, .refused)
  else if c % 17 ≠ x then (s.poolError d 9 4 (32 * c + u) x (c % 17) 0, .refused)
  else ((s.modPool d fun q => { q with pockets := Tbl.put zeroAt q.pockets c (setMask (q.pocket c) u false) }).useDown d 4 1, .done)

/-- Free the listed units of a crosspoint for output `x`. -/
def State.freeUnits (s : State) (d : Fab) (c x : Nat) (us : List Nat) : State :=
  us.foldl (fun s u => (s.freeUnit d c u x).1) s

end Sys2Proof.Machine
end

