-- ==== Sys2Proof/Machine/Mirror.lean ====
section
/-! DEFINITION. The mirrored fields of the Lining and the journal that carries them (12 R338 to R341, 18 R519). -/

namespace Sys2Proof.Machine

/-- One core. -/
def PairSt.core (p : PairSt) : Fab → CoreSt
  | .west => p.west
  | .east => p.east

/-- Change one core. -/
def PairSt.modCore (p : PairSt) (c : Fab) (f : CoreSt → CoreSt) : PairSt :=
  match c with
  | .west => { p with west := f p.west }
  | .east => { p with east := f p.east }

/-- One core of the state. -/
def State.core (s : State) (c : Fab) : CoreSt := s.pair.core c

/-- Change one core of the state. -/
def State.modCore (s : State) (c : Fab) (f : CoreSt → CoreSt) : State := s.modPair fun p => p.modCore c f

/-- A 36-bit counter of a core steps; COUNT_SAT of its die when it saturates (00 R4, 13 R375). -/
def State.coreTick (s : State) (c : Fab) (get : CoreSt → Nat) (set : CoreSt → Nat → CoreSt) : State :=
  let old := get (s.core c)
  (s.modCore c fun k => set k (sat36 (get k) 1)).satRaise old 1 fun t => t.raiseDie c .countSat

/-- The fields of TIME.CONFIG_WRITE as its request words hold them (08 R234). -/
def TimeCfg.words (c : TimeCfg) : List Word :=
  [pack [(35, 1, b1 c.ppsInEn), (34, 1, c.ppsInEdge), (24, 10, c.ppsWindow), (14, 10, c.lockNs), (0, 14, c.cableNs)],
   pack [(35, 1, b1 c.stepEn), (21, 14, c.slewLimit), (4, 17, c.slewPpb)],
   pack [(20, 16, c.holdoverMax), (12, 8, c.utcOffset), (11, 1, b1 c.leap61), (10, 1, b1 c.leap59)],
   pack [(25, 11, ofSigned 11 c.localOffset), (23, 2, c.ppsOutMode), (22, 1, c.ppsOutPol), (13, 9, c.ppsOutWidth),
         (8, 5, c.ptpQueue), (0, 8, c.domain)],
   pack [(35, 1, b1 c.announceEn), (27, 8, c.prio1), (19, 8, c.prio2), (15, 4, ofSigned 4 c.logAnnounce)]]

/-- The fields of TIME.PORT_WRITE of port `p` as its request words hold them (08 R236). -/
def PtpPort.words (p : Nat) (c : PtpPort) : List Word :=
  [pack [(31, 5, p), (30, 1, b1 c.en), (28, 2, c.role), (24, 4, ofSigned 4 c.logSync), (20, 4, ofSigned 4 c.logPdelay),
         (19, 1, b1 c.pdelayStatic)],
   pack [(20, 16, c.staticDelay), (4, 16, ofSigned 16 c.asym)],
   pack [(26, 10, c.txExtra), (16, 10, c.rxExtra)]]

/-- The participant of a port as its KIND 0x04 record holds it (12 R338; log 8). -/
def SecySt.lining (y : SecySt) (p : Nat) : List Word :=
  match y.mka with
  | none => []
  | some m =>
    pack [(31, 5, p), (30, 1, b1 y.keyServer), (29, 1, b1 y.txSa.isSome), (27, 2, y.txSa.getD 0), (15, 12, m.handle), (0, 8, y.peers.length)] ::
      (y.peers.map fun e => [w36 (e.id / 2 ^ 72), w36 (e.id / 2 ^ 36), w36 e.id, pack [(28, 8, e.prio)]]).flatten

/-- The SOURCE 0 payload of a slot as its KIND 0x07 record holds it (12 R338; log 8). -/
def PerSlot.lining (p : PerSlot) (n : Nat) : List Word :=
  match p.data with
  | some d =>
    if p.valid ∧ fld (p.words.getD 0 0) 11 11 = 0 then
      pack [(28, 8, n), (21, 7, d.length)] :: (List.range (ceilDiv d.length 4)).map fun i => w36 (beVal (slice (d ++ [0, 0, 0]) (4 * i) 4))
    else []
  | none => []

/-- The full record of a mirrored KIND 0x03 to 0x07, in an order of the model's own: the spec names the fields and not
their places (12 R338; log 8). -/
def State.mirror (s : State) (k : Nat) : List Word :=
  match k with
  | 3 =>
    [w36 s.tab.gen, w36 s.tab.fgen] ++ s.zon.permit.map (fun e => pack [(16, 4, e.1), (0, 16, e.2)]) ++
      (match s.tab.act with | some a => w36 1 :: words72 (timeOfQ a.t) | none => [0]) ++
      (s.egr.gates.map fun e =>
        pack [(31, 5, e.1), (29, 2, match e.2.mode with | .off => 0 | .running => 1 | .pending => 2 | .copying => 3)] :: words72 (timeOfQ e.2.ct)).flatten
  | 4 => (s.ports.map fun e => e.2.secy.lining e.1).flatten
  | 5 =>
    [pack ((List.range 16).map fun d => (2 * d, 2,
        match (if d ≤ 1 then DomMode.on else Tbl.get (fun _ => DomMode.off) s.pow.doms d) with | .off => 0 | .on => 1 | .retain => 2 | .failed => 3)),
     pack ((List.range 8).map fun i => (i, 1, b1 ((Tbl.get Feed.dflt s.pow.feeds i).mode != .off))),
     pack [(18, 18, s.pow.west.vdd), (0, 18, s.pow.east.vdd)]]
  | 6 => s.tim.cfg.words ++ (s.tim.ports.map fun e => PtpPort.words e.1 e.2).flatten
  | 7 => (s.gw.slots.map fun e => e.2.lining e.1).flatten
  | _ => []

/-- The header word of a Lining record (12 R338). -/
def liningHeader (kind sq len : Nat) : Word := pack [(28, 8, kind), (16, 12, sq), (8, 8, len)]

/-- The standby core. -/
def State.standby (s : State) : Fab := s.pair.active.other

/-- The standby becomes STALE: counted, LINING_STALE raised, logged, and the pair DEGRADED (12 R339, R343; 18 R523). -/
def State.becomeStale (s : State) : State :=
  let c := s.standby
  let m := (s.core c).mode
  if m = .warm ∨ m = .catchingUp then
    let s1 := s.coreTick c CoreSt.liningStales fun k n => { k with liningStales := n }
    let s2 := (s1.modCore c fun k => { k with mode := .stale }).modPair fun p =>
      { p with mode := if p.mode = .normal then .degraded else p.mode, snapDone := false, inSnapshot := false, snapOut := false }
    (s2.raiseDev .liningStale).logFault 0x09 c.num 0
  else s.modPair fun p => { p with snapDone := false, inSnapshot := false, snapOut := false }

/-- Send one Lining record to a standby that listens: a message buffer of owner 0x46, SEQ, LAG and LINING_RECORDS; the
standby becomes STALE when no buffer can be had or LAG exceeds 64 (12 R338, R339; 03 R60). -/
def State.journal (s : State) (kind : Nat) (payload : List Word) : State :=
  let m := (s.core s.standby).mode
  if m = .warm ∨ m = .catchingUp ∨ m = .stale then
    let body := payload.take 255
    match s.allocMsg s.pair.active 0x46 (body.length + 1) true with
    | (s1, some h) =>
      let rec_ := liningHeader kind s1.pair.txSeq body.length :: body
      let s2 := s1.modPair fun p =>
        { p with txSeq := (p.txSeq + 1) % 4096, sent := p.sent ++ [(rec_, s1.pair.active, h.1, h.2)] }
      let s3 := s2.modCore s2.pair.active fun k => { k with liningRecords := add72 k.liningRecords 1 }
      if 64 < s3.pair.sent.length then s3.becomeStale else s3
    | (s1, none) => s1.becomeStale
  else s

/-- A change of mirrored fields: the record of each KIND goes to the save area and to the standby (12 R338, 18 R519). -/
def State.mirrorOut (s : State) (ks : List Nat) : State :=
  ks.foldl (fun s k =>
    (s.modSys fun y => { y with save := Tbl.put nilAt y.save k (s.mirror k) }).journal k (s.mirror k)) s

/-- The active core sends a snapshot: begin, one record of each KIND 0x03 to 0x07, end (12 R341). -/
def State.sendSnapshot (s0 : State) : State :=
  let s := s0.modPair fun p => { p with snapOut := true, inSnapshot := false, snapDone := false }
  (([3, 4, 5, 6, 7].foldl (fun s k => s.journal k (s.mirror k)) (s.journal 8 [])).journal 9 [])

/-- A COLD standby begins to catch up (12 R341). -/
def State.startCatchUp (s : State) : State :=
  (s.modCore s.standby fun k => { k with mode := .catchingUp }).sendSnapshot

end Sys2Proof.Machine
end

