-- ==== Sys2Proof/Machine/Mailbox.lean ====
section
/-! DEFINITION. The mailbox protocol: fields and clamps, the order of the checks, the response and where it goes (13 R367 to R371). -/

namespace Sys2Proof.Machine

/-! ### Result codes -/

/-- Result codes (13 R370). -/
inductive Code where
  | done | clamped | busy | refused | noSpace | badOpcode | badLength | locked | staleGen | notOwner | notActive
  | unkeyed | timeout
deriving DecidableEq, Repr

/-- The value of a result code (13 R370). -/
def Code.val : Code → Nat
  | .done => 0 | .clamped => 1 | .busy => 2 | .refused => 3 | .noSpace => 4 | .badOpcode => 5 | .badLength => 6
  | .locked => 7 | .staleGen => 8 | .notOwner => 9 | .notActive => 10 | .unkeyed => 11 | .timeout => 12

/-! ### Fields -/

/-- A field of a request word with its check: a value that is clamped gives the value used and the reason (00 R7,
13 R371); a value with no permitted value refuses. -/
structure Fld where
  /-- Highest bit. -/
  hi : Nat
  /-- Lowest bit. -/
  lo : Nat
  /-- Value used and reason, when the value given is clamped. -/
  clamp : Nat → Option (Nat × Nat) := fun _ => none
  /-- Whether a value is refused. -/
  bad : Nat → Bool := fun _ => false

/-- A field without a check. -/
def fAny (hi lo : Nat) : Fld := { hi := hi, lo := lo }
/-- A field clamped to at most `m`. -/
def fMax (hi lo m : Nat) : Fld := { hi := hi, lo := lo, clamp := fun v => if m < v then some (m, 2) else none }
/-- A field clamped to at least `m`. -/
def fMin (hi lo m : Nat) : Fld := { hi := hi, lo := lo, clamp := fun v => if v < m then some (m, 1) else none }
/-- A field clamped to the ends of a range. -/
def fRange (hi lo a b : Nat) : Fld :=
  { hi := hi, lo := lo, clamp := fun v => if v < a then some (a, 1) else if b < v then some (b, 2) else none }
/-- A signed field clamped to the ends of a range. -/
def fSigned (hi lo : Nat) (a b : Int) : Fld :=
  { hi := hi, lo := lo, clamp := fun v =>
      let w := hi + 1 - lo
      if signedOf w v < a then some (ofSigned w a, 1) else if b < signedOf w v then some (ofSigned w b, 2) else none }
/-- A field with no clamp value: other values refuse. -/
def fNeed (hi lo : Nat) (ok : Nat → Bool) : Fld := { hi := hi, lo := lo, bad := fun v => !ok v }
/-- A field from `a` to `b` without a clamp value (00 R7). -/
def fIn (hi lo a b : Nat) : Fld := fNeed hi lo fun v => decide (a ≤ v ∧ v ≤ b)
/-- A field that takes the value `u` for the given reason when `c` holds of the value given. -/
def fTo (hi lo : Nat) (c : Nat → Bool) (u reason : Nat) : Fld :=
  { hi := hi, lo := lo, clamp := fun v => if c v && v != u then some (u, reason) else none }
/-- A reserved field: reads 0, write 0 (00 R6). -/
def fRes (hi lo : Nat) : Fld := { hi := hi, lo := lo, clamp := fun v => if v ≠ 0 then some (0, 3) else none }
/-- The nanoseconds of a time value (00 R3). -/
def fNanos : Fld := fMax 31 2 999999999

/-- The fields of a word from bit 35 down, with the bits between them as reserved fields; `top` is one above the next bit. -/
def withGaps (top : Nat) : List Fld → List Fld
  | [] => if top = 0 then [] else [fRes (top - 1) 0]
  | f :: fs => if f.hi + 1 < top then fRes (top - 1) (f.hi + 1) :: f :: withGaps f.lo fs else f :: withGaps f.lo fs

/-- What the check of request fields gives: the words used, the clamps in the order of the fields, and whether a field
refuses. -/
structure Checked where
  /-- Words as used after clamping. -/
  words : List Word := []
  /-- Clamps. -/
  clamps : List Clamp := []
  /-- A field has no permitted value. -/
  bad : Bool := false
deriving DecidableEq

/-- Check one field of word `i`. -/
def checkField (i : Nat) (w : Word) (acc : Nat × List Clamp × Bool) (f : Fld) : Nat × List Clamp × Bool :=
  let v := fld w f.hi f.lo
  match f.clamp v with
  | some (u, r) =>
    (acc.1 + u % 2 ^ (f.hi + 1 - f.lo) * 2 ^ f.lo,
     acc.2.1 ++ [{ word := i, lsb := f.lo, width := f.hi + 1 - f.lo, reason := r, given := v, used := u }],
     acc.2.2 || f.bad v)
  | none => (acc.1 + v * 2 ^ f.lo, acc.2.1, acc.2.2 || f.bad v)

/-- Check request words from word `i` on, each against its fields; a word beyond the layout is taken as it is. -/
def checkWords (i : Nat) (ls : List (List Fld)) : List Word → Checked
  | [] => {}
  | w :: ws =>
    match ls with
    | [] => { words := w :: ws }
    | l :: ls =>
      let r := (withGaps 36 l).foldl (checkField i w) (0, [], false)
      let rest := checkWords (i + 1) ls ws
      { words := w36 r.1 :: rest.words, clamps := r.2.1 ++ rest.clamps, bad := r.2.2 || rest.bad }

/-- A whole word without a check. -/
def wAny : List Fld := [fAny 35 0]
/-- The low word of a time value (00 R3). -/
def wTimeLo : List Fld := [fAny 35 32, fNanos, fAny 1 0]

/-! ### Commands -/

/-- The answer of a command's execution. -/
structure Reply where
  /-- The state it leaves. -/
  st : State
  /-- Its result. -/
  code : Code := .done
  /-- Its payload. -/
  payload : List Word := []
  /-- Clamps found in execution, after those of the field checks. -/
  clamps : List Clamp := []
  /-- The response follows later (13 R369). -/
  later : Bool := false
  /-- A result other than DONE and CLAMPED that changes the device or has a payload all the same. -/
  keep : Bool := false

/-- What a mailbox command is: its opcode, its checks in the order of 13 R370, and its execution on the clamped request. -/
structure CmdSpec where
  /-- OPCODE. -/
  opcode : Nat
  /-- Permitted LENGTH. -/
  lenOk : Nat → Bool
  /-- A LENGTH that a COUNT of the request fixes. -/
  lenReq : Req → Bool := fun _ => true
  /-- Standby-permitted (12, "CORE commands"). -/
  standby : Bool := false
  /-- Whether the request changes state, so that it has an intent record (12 R338, R346). -/
  changes : Req → Bool := fun _ => true
  /-- Mirrored KINDs that its success changes (12 R338). -/
  kinds : List Nat := []
  /-- The command names BUSY for GAP and RESTART. -/
  gapBusy : Bool := false
  /-- LOCKED. -/
  locked : Req → State → Bool := fun _ _ => false
  /-- UNKEYED. -/
  unkeyed : Req → State → Bool := fun _ _ => false
  /-- BUSY. -/
  busy : Req → State → Bool := fun _ _ => false
  /-- Fields of payload words 1 onward. -/
  fields : Req → State → List (List Fld) := fun _ _ => []
  /-- Execution on the request with its clamped words. -/
  run : Req → State → Reply

/-- LENGTH exactly `n`. -/
def lenIs (n : Nat) : Nat → Bool := fun l => l == n

/-- A reply that changes nothing. -/
def Reply.fail (s : State) (c : Code) : Reply := { st := s, code := c }

/-- The clamp of a non-zero reserved flag: field word 0, bit 2 (13 R367). -/
def flagClamps (r : Req) : List Clamp :=
  if r.flags / 4 % 64 = 0 then []
  else [{ word := 0, lsb := 2, width := 6, reason := 3, given := r.flags / 4 % 64, used := 0 }]

/-- LENGTH is permitted (13 R370). -/
def CmdSpec.lenFits (sp : CmdSpec) (r : Req) : Bool := sp.lenOk r.words.length && sp.lenReq r

/-- The checks of 13 R370 from BAD_LENGTH on, then execution; with the clamps of the field checks. -/
def CmdSpec.judge (sp : CmdSpec) (r : Req) (s : State) : Reply × List Clamp :=
  if !sp.lenFits r then (.fail s .badLength, [])
  else if sp.locked r s then (.fail s .locked, [])
  else if sp.unkeyed r s then (.fail s .unkeyed, [])
  else if sp.busy r s then (.fail s .busy, [])
  else
    let c := checkWords 1 (sp.fields r s) r.words
    if c.bad then (.fail s .refused, [])
    else
      let rep := sp.run { r with words := c.words } s
      let cl := flagClamps r ++ c.clamps ++ rep.clamps
      if rep.later then (rep, cl)
      else if rep.code = .done then ({ rep with code := if cl.isEmpty then .done else .clamped }, cl)
      else if rep.code = .clamped then (rep, cl)
      else if rep.keep then (rep, [])
      else (.fail s rep.code, [])

/-- The copy of blocks 0x01 to 0x0F across the Seam runs: commands that write them are BUSY (18 R520). -/
def State.copying (s : State) : Bool :=
  match s.sys.reload with
  | some (d, _) => d == 1 || d == 2
  | none => false

/-- POLICY-locked commands (13 R366). -/
def policyLocked : Req → State → Bool := fun _ s => s.locks.policy

/-- Commands that write tables of the fabric dies (18 R520). -/
def copyBusy : Req → State → Bool := fun _ s => s.copying

/-! ### Responses -/

/-- The header of a message (13 R367). -/
def msgHeader (op len tag res : Nat) : Word := pack [(24, 12, op), (16, 8, len), (8, 8, tag), (0, 8, res)]

/-- The three words of a clamp-list entry (13 R371). -/
def Clamp.words (c : Clamp) : List Word :=
  [pack [(28, 8, c.word), (22, 6, c.lsb), (16, 6, c.width), (12, 4, c.reason)], w36 c.given, w36 c.used]

/-- A clamp list cut to `room` words (13 R371). -/
def clampList (cs : List Clamp) (room : Nat) : List Word :=
  if cs.isEmpty ∨ room = 0 then []
  else
    let n := min cs.length ((room - 1) / 3)
    ((cs.take n).map Clamp.words).flatten ++ [pack [(28, 8, n), (20, 8, cs.length - n)]]

/-- The words of a response (13 R367, R371). -/
def responseWords (op tag : Nat) (c : Code) (payload : List Word) (cs : List Clamp) : List Word :=
  let body := payload ++ (if c = .clamped then clampList cs (255 - payload.length) else [])
  msgHeader op body.length tag c.val :: body

/-- Release the message buffers of a request: each is handed over by the engine that owns it to the firmware (03 R55). -/
def State.freeBufs (s : State) (bufs : List (Fab × Nat × Nat)) : State :=
  bufs.foldl (fun s b => s.handOver b.1 b.2.1 b.2.2 (s.buf b.1 b.2.1 b.2.2).owner 0x40) s

/-- Put response words into the path's FIFO, raising RSP_READY and RSP_LEVEL (13 R369, R372, R375). -/
def State.fifoPut (s : State) (p : Path) (ws : List Word) : State :=
  let q := s.path p
  let old := q.fifo.length
  let s1 := (s.modPath p fun q => { q with fifo := q.fifo ++ ws }).raiseHost p .rspReady
  if q.level ≠ 0 ∧ old < q.level ∧ q.level ≤ old + ws.length then s1.raiseHost p .rspLevel else s1

/-- Whether response words fit the FIFO behind nothing held (13 R369). -/
def PathSt.fits (q : PathSt) (ws : List Word) : Bool := q.held.isEmpty && decide (q.fifo.length + ws.length ≤ 1024)

/-- Place a response on its path: the FIFO; a service frame; or the requester inside the device; its request's buffers go back
(13 R346, R360, R369). A response that does not fit the FIFO is held with its request. -/
def State.place (s : State) (pd : Pend) (intent : Bool) (ws : List Word) : State :=
  let p := pd.req.path
  match p with
  | .service =>
    ((s.freeBufs pd.bufs).modHost fun h =>
      { h with svcT := { h.svcT with stored := if h.svcT.lastSeq = some pd.seq then ws else h.svcT.stored } }).emit (.service 2 pd.seq ws)
  | .image => s.modPath .image fun q => { q with fifo := ws }
  | .relay => s.modPath .relay fun q => { q with fifo := ws }
  | _ =>
    if (s.path p).fits ws then (s.freeBufs pd.bufs).fifoPut p ws
    else s.modPath p fun q => { q with held := q.held ++ [{ words := ws, pend := pd, intent := intent }] }

/-- Answer a request: QUIET suppresses DONE, and a function-level reset discards the response (13 R367, R382). -/
def State.respond (s : State) (pd : Pend) (c : Code) (payload : List Word) (cs : List Clamp) (intent : Bool := false) : State :=
  if pd.drop ∨ (c = .done ∧ pd.req.flags / 2 % 2 = 1) then s.freeBufs pd.bufs
  else s.place pd intent (responseWords pd.opcode pd.req.tag c payload cs)

/-! ### Submitting -/

/-- Start-up has reached forwarding, so that the mailboxes serve hosts (18 R514). -/
def State.started (s : State) : Bool := s.sys.start == .forwarding

/-- Every mailbox keeps REQ_FREE at 0 until forwarding, and after a wake until the active core serves again (16 R478; 18 R514). -/
def State.accepting (s : State) : Bool :=
  s.started && s.pow.mode != .asleep && s.pow.mode != .waking && !s.pow.rebuild

/-- Whether a path carries accesses: D0 has power, and its PCIe link is up or the service port's domain is on (13 R356). -/
def State.pathUp (s : State) (p : Path) : Bool :=
  s.key.ao && match p with
  | .pcieW0 | .pcieW1 => s.host.pcieW
  | .pcieE0 | .pcieE1 => s.host.pcieE
  | .service => s.domOn 3
  | _ => true

/-- A service-port request that is answered REFUSED: outside a depot session, or from another address than the session's, only
HOST.VERSION_READ and KEY.SESSION are executed (13 R360, 15 R442). -/
def State.shutOut (s : State) (op : Nat) : Bool :=
  s.key.session != some s.host.svcT.mac && op != 0x002 && op != 0x0AB

/-- The internal address of a word of a path: its function's region, or the D0 window (01 R21; 13 R361). -/
def State.regAddr (s : State) (p : Path) (idx : Nat) : Nat :=
  s.sys.member * 2 ^ 30 +
    (if 0x800 ≤ idx then idx - 0x800
     else match p with
       | .pcieW0 => 2 ^ 27 + idx
       | .pcieW1 => 2 ^ 27 + 0x800 + idx
       | .pcieE0 => 2 * 2 ^ 27 + idx
       | .pcieE1 => 2 * 2 ^ 27 + 0x800 + idx
       | _ => idx)

/-- Requests submitted and not answered on a path (13 R364). -/
def PathSt.outstanding (q : PathSt) : Nat := q.waiting.length + (if q.running.isSome then 1 else 0) + q.held.length

/-- The core that a request addresses (13 R356, R367). -/
def State.target (s : State) (r : Req) : Fab := if r.isLocal then r.path.die s.pair.active else s.pair.active

/-- Allocate the buffers of a request: one of the path's own engine, and one of the forwarded traffic when the other
die's core serves it; NO_SPACE keeps neither (03 R54, R60; 13 R368). -/
def State.requestBufs (s : State) (r : Req) : State × Option (List (Fab × Nat × Nat)) :=
  let n := r.words.length + 1
  let d := r.path.die s.pair.active
  match s.allocMsg d r.path.owner n true with
  | (s1, none) => (s1, none)
  | (s1, some h) =>
    if s.target r = d then (s1, some [(d, h.1, h.2)])
    else
      match s1.allocMsg d.other 0x45 n true with
      | (s2, none) => (s2.freeBufs [(d, h.1, h.2)], none)
      | (s2, some g) => (s2, some [(d, h.1, h.2), (d.other, g.1, g.2)])

/-- A doorbell: the mailbox engine copies the request, or answers it itself (13 R367, R368; 18 R514). -/
def State.submit (s : State) (op : Nat) (r : Req) : State :=
  let p := r.path
  let pd : Pend := { opcode := op, req := r, seq := s.host.svcT.lastSeq.getD 0 }
  if !p.isHost then s.modPath p fun q => { q with waiting := q.waiting ++ [pd] }
  else if !s.pathUp p then s
  else if !s.accepting || !(s.path p).reqFree then (if p = .service then s else s.logLate p 8 (s.regAddr p 0x010))
  else if p = .service ∧ s.shutOut op then s.respond pd .refused [] []
  else
    let s0 := if p = .service then s.modKey fun k => { k with sessionAt := s.tim.ticks } else s
    let s1 := s0.raiseHost p .reqFree
    if (s.path p).outstanding ≥ 16 then s1.respond pd .busy [] []
    else if r.isLocal && ((s.core (s.target r)).mode == .off || (s.core (s.target r)).mode == .failed) then
      s1.respond pd .notActive [] []
    else
      match s1.requestBufs r with
      | (s2, none) => s2.respond pd .noSpace [] []
      | (s2, some bs) => s2.modPath p fun q => { q with waiting := q.waiting ++ [{ pd with bufs := bs }] }

/-! ### Serving -/

/-- What meets a request that its core could take. -/
inductive Serve where
  | wait | notActive | busy | go
deriving DecidableEq, Repr

/-- Whether and how the addressed core serves a request now; CORE.DEBUG reaches a core that it has halted, and
accesses wait while a bridge request holds a register bus (12 R343, R346; 13 R367; 17 R504; log 46). -/
def State.serveHow (s : State) (sp : CmdSpec) (r : Req) : Serve :=
  let k := s.core (s.target r)
  if r.isLocal ∧ k.mode ≠ .active ∧ s.target r ≠ s.pair.active then
    if k.mode = .off ∨ k.mode = .failed then .notActive
    else if k.mode = .debug ∧ k.halted ∧ sp.opcode ≠ 0x048 then .wait
    else if sp.standby then .go else .notActive
  else if s.pair.promoting.isSome ∨ s.pair.mode = .gap ∨ s.pair.mode = .restart then
    if sp.gapBusy then .busy else .wait
  else if k.mode ≠ .active ∨ (k.halted ∧ sp.opcode ≠ 0x048) then .wait
  else if s.pair.mustCatchUp ∧ sp.changes r then .wait
  else if !s.stk.locks.isEmpty then .wait
  else .go

/-- Dies whose sealed registers a command writes: the zone map and the matrix on D1 and D2, PHY registers, the controllers of D5, and
power sequencing and domain control (06 R143; 13 R376; log 50). -/
def sealedDies (op : Nat) (r : Req) : List Nat :=
  if op = 0x701 ∨ op = 0x703 then [1, 2]
  else if op = 0xD01 ∨ op = 0xD02 then [if r.fld 1 35 31 ≤ 12 then 3 else 4]
  else if 0xF01 ≤ op ∧ op ≤ 0xF04 then [5]
  else if op = 0x0D2 ∨ op = 0x0D3 then [0]
  else []

/-- A write to a sealed register clears VALID of its die while the SEAL lock bit is 0 (13 R377). -/
def State.unseal (s : State) (op : Nat) (r : Req) : State :=
  if s.locks.sealLock then s
  else s.modSeal fun l => { l with valid := (sealedDies op r).foldl (fun m d => setMask m d false) l.valid }

/-- Commands that change the Cuff die: the EDGE and GW domains and the zone map with its channels (18 R520). -/
def cuffWrites : List Nat := [0x101, 0x102, 0x103, 0x104, 0x105, 0x701, 0xF01, 0xF02, 0xF03, 0xF04, 0xF05, 0xF06, 0xF07]

/-- A command has taken effect: VALID of the seal, and the note that the Cuff die was changed by command (13 R377; 18 R520). -/
def State.written (s : State) (op : Nat) (r : Req) : State :=
  (s.unseal op r).modSys fun y => { y with cuffChanged := y.cuffChanged || cuffWrites.contains op }

/-- Take the head request of a path and execute it (13 R369). -/
def CmdSpec.take (sp : CmdSpec) (pd : Pend) (s : State) : State :=
  let r := pd.req
  let s0 := s.modPath r.path fun q => { q with waiting := q.waiting.drop 1 }
  let j := sp.judge r s0
  if j.1.later then
    let s1 := j.1.st.modPath r.path fun q =>
      { q with running := some { pend := pd, clamps := j.2, used := r.words, intent := sp.changes r } }
    if sp.changes r then s1.journal 1 (msgHeader sp.opcode r.words.length r.tag r.flags :: r.words) else s1
  else
    let ok := j.1.code == .done || j.1.code == .clamped
    let s1 :=
      if ok && sp.changes r then
        (((j.1.st.written sp.opcode r).journal 1 (msgHeader sp.opcode r.words.length r.tag r.flags :: r.words)).mirrorOut sp.kinds).journal 2
          (responseWords sp.opcode r.tag j.1.code j.1.payload j.2)
      else j.1.st
    s1.respond pd j.1.code j.1.payload j.2 (ok && sp.changes r)

/-- Whether the path can take its head request now: nothing runs and nothing is held (13 R369). -/
def PathSt.ready (q : PathSt) : Bool := q.running.isNone && q.held.isEmpty

/-- Whether the head of a path's queue is this request. -/
def PathSt.headIs (q : PathSt) (op : Nat) (r : Req) : Bool :=
  match q.waiting with
  | [] => false
  | w :: _ => w.opcode == op && w.req == r

/-- Serve the head request of a path if it is this command's (13 R369). -/
def CmdSpec.serve (sp : CmdSpec) (r : Req) (s : State) : State :=
  match (s.path r.path).waiting with
  | [] => s
  | pd :: _ =>
    if pd.opcode = sp.opcode ∧ pd.req = r ∧ (s.path r.path).ready then
      match s.serveHow sp r with
      | .wait => s
      | .notActive =>
        let s0 := s.modPath r.path fun q => { q with waiting := q.waiting.drop 1 }
        s0.respond pd (if sp.lenFits r then .notActive else .badLength) [] []
      | .busy =>
        let s0 := s.modPath r.path fun q => { q with waiting := q.waiting.drop 1 }
        s0.respond pd (if sp.lenFits r then .busy else .badLength) [] []
      | .go => sp.take pd s
    else s

/-- The opcodes that the manual defines, as ranges (13 R370). -/
def opRanges : List (Nat × Nat) :=
  [(0x001, 0x004), (0x011, 0x012), (0x021, 0x021), (0x031, 0x035), (0x041, 0x048), (0x051, 0x052), (0x061, 0x063),
   (0x081, 0x089), (0x0A1, 0x0AB), (0x0C1, 0x0C4), (0x0D1, 0x0D6), (0x0E1, 0x0E4), (0x0F1, 0x0F6), (0x101, 0x107),
   (0x201, 0x204), (0x301, 0x306), (0x401, 0x40D), (0x501, 0x509), (0x601, 0x603), (0x701, 0x706), (0x801, 0x806),
   (0x901, 0x908), (0xA01, 0xA05), (0xB01, 0xB03), (0xC01, 0xC08), (0xD01, 0xD06), (0xE01, 0xE03), (0xF01, 0xF09)]

/-- Whether an opcode is defined (13 R370). -/
def knownOp (op : Nat) : Bool := opRanges.any fun e => decide (e.1 ≤ op ∧ op ≤ e.2)

/-- What serves a request of an undefined opcode: nothing is executed. -/
def badSpec : CmdSpec where
  opcode := 0
  lenOk := fun _ => true
  standby := true
  changes := fun _ => false
  run := fun _ s => .fail s .badOpcode

/-- Requests of undefined opcodes at the head of a path are answered BAD_OPCODE when their core takes them (13 R369, R370); the
number bounds them. -/
def State.answerBad (s : State) (p : Path) : Nat → State
  | 0 => s
  | n + 1 =>
    match (s.path p).waiting with
    | [] => s
    | pd :: rest =>
      if knownOp pd.opcode = false ∧ (s.path p).ready then
        let s0 := s.modPath p fun q => { q with waiting := rest }
        match s.serveHow badSpec pd.req with
        | .go => (s0.respond pd .badOpcode [] []).answerBad p n
        | .notActive => (s0.respond pd .notActive [] []).answerBad p n
        | _ => s
      else s

/-- A mailbox command: the request is submitted unless it already waits at the head of its path, and served when its core
can take it (13 R368 to R370; log 9). -/
def mailbox (sp : CmdSpec) (r : Req) (s : State) : State :=
  (if (s.path r.path).headIs sp.opcode r then sp.serve r s else sp.serve r (s.submit sp.opcode r)).answerBad r.path 16

/-- The later response of the request that a path has running (13 R369): the complete record and the answer. -/
def State.finish (s : State) (p : Path) (c : Code) (payload : List Word) (kinds : List Nat) : State :=
  match (s.path p).running with
  | none => s
  | some k =>
   if k.orphan then s
   else
    let s0 := s.modPath p fun q => { q with running := none }
    let c1 := if c = .done ∧ ¬ k.clamps.isEmpty then .clamped else c
    let s1 := if k.intent then
        (((if c1 = .done ∨ c1 = .clamped then s0.written k.pend.opcode k.pend.req else s0)).mirrorOut kinds).journal 2 (responseWords k.pend.opcode k.pend.req.tag c1 payload k.clamps)
      else s0
    s1.respond k.pend c1 payload k.clamps k.intent

end Sys2Proof.Machine
end

