-- ==== Sys2Proof/Machine/Clock.lean ====
section
/-! DEFINITION. The time base as a counter: ticks, FREQ_ADJ, and the advance of the clock by events (08 R208, R209, R212; log 15). -/

namespace Sys2Proof.Machine

/-- The code of a time state (08 R231). -/
def TimeMode.code : TimeMode → Nat
  | .unset => 0 | .free => 1 | .locking => 2 | .locked => 3 | .holdover => 4

/-- The end of FREQ_ADJ's range, 0.01 ppb (08 R208). -/
def freqMax : Int := 20000000

/-- A frequency held at the end of its range (08 R208). -/
def clampFreq (f : Int) : Int := if f < -freqMax then -freqMax else if freqMax < f then freqMax else f

/-- FREQ_ADJ in force (08 R208, R210). -/
def TimeSt.freqAdj (t : TimeSt) : Int := clampFreq (t.base + t.slew)

/-- The nearest integer to n / d, halves upward. -/
def roundDiv (n : Int) (d : Nat) : Int := (2 * n + d) / (2 * d)

/-- The adjustment part of one tick's increment, in 2^-32 quarter ns: 12.8 × FREQ_ADJ, rounded to the nearest (08 R208). -/
def adjPerTick (f : Int) : Int := roundDiv (f * 128 * 2 ^ 32) 1000000000000

/-- Nominal quarter ns of the first `k` ticks: 13, 13, 13, 13, 12 in every five (08 R208). -/
def nominal (k : Nat) : Nat := 64 * (k / 5) + 13 * (k % 5)

/-- The counter after `n` more ticks (08 R208). -/
def TimeSt.todAfter (t : TimeSt) (n : Nat) : Nat :=
  ((t.tod : Int) + 2 ^ 32 * ((nominal (t.ticks + n) : Int) - nominal t.ticks) + n * adjPerTick t.freqAdj).toNat

/-- `n` ticks pass: the monotonic count, and the time-of-day while the timing domain runs (08 R208, R212). -/
def TimeSt.adv (t : TimeSt) (n : Nat) : TimeSt :=
  { t with tod := if t.on then t.todAfter n else t.tod, ticks := t.ticks + n }

/-- Let `n` ticks of 3.2 ns pass. -/
def State.adv (s : State) (n : Nat) : State := s.modTim fun t => t.adv n

/-- Let ticks pass up to tick `k`, when it lies ahead. -/
def State.advTick (s : State) (k : Nat) : State := s.adv (k - s.tim.ticks)

/-- Ticks up to the first one at or after the time-of-day `q`, in quarter ns (07 R176). -/
def TimeSt.ticksTo (t : TimeSt) (q : Nat) : Nat :=
  let d := q * 2 ^ 32 - t.tod
  if d = 0 ∨ t.on = false then 0
  else
    let per5 := (64 * 2 ^ 32 + 5 * adjPerTick t.freqAdj).toNat
    let n := d * 5 / per5 - 2
    match (List.range 8).find? fun k => decide (q * 2 ^ 32 ≤ t.todAfter (n + k)) with
    | some k => n + k
    | none => n + 8

/-- Let the clock run to the time-of-day `q` in quarter ns, when it lies ahead. -/
def State.advQ (s : State) (q : Nat) : State := s.adv (s.tim.ticksTo q)

/-- Ticks of `n` µs. -/
def ticksUs (n : Nat) : Nat := (n * 625 + 1) / 2

/-- Ticks of `n` ms. -/
def ticksMs (n : Nat) : Nat := n * 312500

/-- Ticks of `n` s. -/
def ticksS (n : Nat) : Nat := n * 312500000

/-- Let the clock run to the monotonic time `ns`, when it lies ahead (08 R212). -/
def State.advNs (s : State) (ns : Nat) : State := s.advTick (ceilDiv (ns * 5) 16)

/-- Ticks between the scheduling of a change and the change: 2 µs (08 R209). -/
def schedTicks : Nat := 625

end Sys2Proof.Machine
end

