-- ==== Sys2Proof/Machine/RuleCmds.lean ====
section
/-! DEFINITION. Meanings of the RULE commands (04 R99 to R109). -/

namespace Sys2Proof.Machine

/-! ### Banks and rule state -/

/-- Bank `b` of the group directory (04 R94). -/
def TabSt.bank (t : TabSt) (b : Nat) : Tbl GroupEnt := if b % 2 = 0 then t.bank0 else t.bank1

/-- Replace bank `b`. -/
def TabSt.setBank (t : TabSt) (b : Nat) (x : Tbl GroupEnt) : TabSt :=
  if b % 2 = 0 then { t with bank0 := x } else { t with bank1 := x }

/-- Whether an index lies in a range. -/
def inRange (i base count : Nat) : Bool := decide (base ≤ i ∧ i < base + count)

/-- Whether a range of a bank includes rule `i`; unlisted directory entries have empty ranges (04 R94). -/
def bankHas (b : Tbl GroupEnt) (i : Nat) : Bool :=
  b.any fun e => inRange i e.2.base1 e.2.count1 || inRange i e.2.base2 e.2.count2

/-- STATE of a rule entry: 0 free, 1 staged, 2 live, 3 retiring (04 R94, R103). -/
def TabSt.ruleState (t : TabSt) (i : Nat) : Nat :=
  if bankHas (t.bank t.gen) i then 2
  else if bankHas (t.bank (t.gen + 1)) i then (if t.retiring then 3 else 1)
  else 0

/-- A rule entry's twelve words; an unlisted entry is all zeros (04 R85). -/
def TabSt.rule (t : TabSt) (i : Nat) : List Word :=
  let l := Tbl.get nilAt t.rules i
  l ++ List.replicate (12 - l.length) 0

/-! ### Commands -/

/-- Word 1 of RULE.PORT_WRITE (04 R99). -/
def PortParse.word (p : Nat) (c : PortParse) : Word :=
  pack [(31, 5, p), (27, 4, c.prog), (21, 6, c.budget), (20, 1, b1 c.malCopy), (19, 1, b1 c.malMirror)]

/-- 0x401 RULE.PORT_WRITE (04 R99). -/
def rulePortWrite : CmdSpec where
  opcode := 0x401
  lenOk := lenIs 1
  locked := policyLocked
  busy := copyBusy
  fields := fun _ _ => [[fAny 35 31, fAny 30 27, fRange 26 21 1 48, fAny 20 20, fAny 19 19]]
  run := fun r s =>
    { st := s.modTab fun t => { t with ports := Tbl.upd PortParse.dflt t.ports (r.fld 1 35 31) fun c =>
        { c with prog := r.fld 1 30 27, budget := r.fld 1 26 21, malCopy := r.bit 1 20, malMirror := r.bit 1 19 } } }

/-- Meaning of RULE_PORT_WRITE. -/
def execRulePortWrite (r : Req) (s : State) : Res := .next (mailbox rulePortWrite r s)

/-- The fields of a parse instruction under its OP; an OP from 0xB on refuses (04 R76, R100). -/
def parseFields (w : Word) : List Fld :=
  let op : Fld := fNeed 35 32 (· ≤ 0xA)
  match fld w 35 32 with
  | 1 => [op, fNeed 3 0 (· ≤ 0xD)]
  | 2 => [op, fAny 31 25, fNeed 24 20 (· ≤ 22)]
  | 3 => [op, fAny 31 25, fAny 24 23, fAny 22 21]
  | 4 => [op, fAny 22 21, fAny 15 0]
  | 5 | 6 => [op, fNeed 31 23 (· ≤ 511), fAny 22 21, fAny 15 0]
  | 7 => [op, fNeed 31 23 (· ≤ 511)]
  | 8 => [op, fAny 22 21, fAny 20 19, fAny 15 0]
  | 9 => [op, fAny 22 21, fAny 15 0]
  | _ => [op]

/-- 0x402 RULE.PROGRAM_LOAD (04 R100). -/
def ruleProgramLoad : CmdSpec where
  opcode := 0x402
  lenOk := fun n => decide (2 ≤ n ∧ n ≤ 255)
  locked := policyLocked
  busy := copyBusy
  fields := fun r _ => [fAny 35 32, fAny 31 23] :: (r.words.drop 1).map parseFields
  run := fun r s =>
    let prog := r.fld 1 35 32
    let start := r.fld 1 31 23
    let ws := r.words.drop 1
    if 512 < start + ws.length ∨ (List.range 32).any (fun p => (Tbl.get PortParse.dflt s.tab.ports p).prog == prog) then
      .fail s .refused
    else
      { st := s.modTab fun t => { t with prog := Tbl.puts noneAt t.prog (512 * prog + start) (ws.map some) } }

/-- Meaning of RULE_PROGRAM_LOAD. -/
def execRuleProgramLoad (r : Req) (s : State) : Res := .next (mailbox ruleProgramLoad r s)

/-- The two words of RULE.RANGE_WRITE (04 R101). -/
def RangeCmp.words (i : Nat) (c : RangeCmp) : List Word :=
  [pack [(30, 6, i), (29, 1, b1 c.enable), (25, 4, c.field)], pack [(20, 16, c.low), (4, 16, c.high)]]

/-- 0x403 RULE.RANGE_WRITE (04 R101). -/
def ruleRangeWrite : CmdSpec where
  opcode := 0x403
  lenOk := lenIs 2
  locked := policyLocked
  busy := copyBusy
  fields := fun r _ => [[fAny 35 30, fAny 29 29, fNeed 28 25 (· ≤ 6)], [fNeed 35 20 (· ≤ r.fld 2 19 4), fAny 19 4]]
  run := fun r s =>
    let c : RangeCmp := { enable := r.bit 1 29, field := r.fld 1 28 25, low := r.fld 2 35 20, high := r.fld 2 19 4 }
    { st := s.modTab fun t => { t with ranges := Tbl.put RangeCmp.dflt t.ranges (r.fld 1 35 30) c } }

/-- Meaning of RULE_RANGE_WRITE. -/
def execRuleRangeWrite (r : Req) (s : State) : Res := .next (mailbox ruleRangeWrite r s)

/-- A VALUE word: its bits whose MASK bit is 0 are clamped to 0 (04 R102). -/
def valueFields (r : Req) (i : Nat) : List Fld :=
  let m := (r.word (i + 5)).toNat
  [{ hi := 35, lo := 0, clamp := fun v => if v &&& m = v then none else some (v &&& m, 5) }]

/-- 0x404 RULE.ENTRY_WRITE (04 R102). -/
def ruleEntryWrite : CmdSpec where
  opcode := 0x404
  lenOk := lenIs 13
  locked := policyLocked
  busy := fun r s => s.copying || s.tab.ruleState (r.fld 1 35 24) == 3
  fields := fun r _ =>
    [[fNeed 35 24 (· ≠ 0), fAny 23 23],
     [fAny 35 35, fNeed 34 33 (· ≠ 3), fAny 32 27, fTo 26 25 (· == 3) 0 2, fAny 24 19, fTo 18 17 (· == 3) 0 2],
     [fNeed 35 33 (· ≤ 2), fAny 32 32, fAny 31 28, fAny 27 27, fTo 26 22 (fun _ => !r.bit 3 27) 0 5, fAny 21 21, fAny 20 11,
      fTo 10 7 (fun _ => r.fld 3 35 33 ≠ 2) 0 5],
     valueFields r 4, valueFields r 5, valueFields r 6, valueFields r 7, valueFields r 8,
     wAny, wAny, wAny, wAny, wAny]
  run := fun r s =>
    let i := r.fld 1 35 24
    if s.tab.ruleState i = 2 ∧ ¬ r.bit 1 23 then .fail s .refused
    else { st := s.modTab fun t => { t with rules := Tbl.put nilAt t.rules i (r.words.drop 1) } }

/-- Meaning of RULE_ENTRY_WRITE. -/
def execRuleEntryWrite (r : Req) (s : State) : Res := .next (mailbox ruleEntryWrite r s)

/-- 0x405 RULE.ENTRY_READ (04 R103). -/
def ruleEntryRead : CmdSpec where
  opcode := 0x405
  lenOk := lenIs 1
  changes := fun _ => false
  fields := fun _ _ => [[fNeed 35 24 (· ≠ 0)]]
  run := fun r s =>
    let i := r.fld 1 35 24
    { st := s, payload := pack [(24, 12, i), (22, 2, s.tab.ruleState i)] :: s.tab.rule i }

/-- Meaning of RULE_ENTRY_READ. -/
def execRuleEntryRead (r : Req) (s : State) : Res := .next (mailbox ruleEntryRead r s)

/-- The two words of a directory entry (04 R89). -/
def GroupEnt.words (g : GroupEnt) : List Word :=
  [pack [(24, 12, g.base1), (14, 10, g.count1), (2, 12, g.base2)],
   pack [(26, 10, g.count2), (25, 1, b1 g.defFwd), (24, 1, b1 g.defCpu), (23, 1, b1 g.incFwd), (22, 1, b1 g.incCpu),
         (21, 1, b1 g.fmissFwd), (20, 1, b1 g.fmissCpu)]]

/-- The directory index of a zone pair (04 R89). -/
def pairIdx (r : Req) : Nat := 16 * r.fld 1 35 32 + r.fld 1 31 28

/-- 0x406 RULE.GROUP_WRITE (04 R104). -/
def ruleGroupWrite : CmdSpec where
  opcode := 0x406
  lenOk := lenIs 3
  locked := policyLocked
  busy := fun _ s => s.copying || s.tab.retiring
  fields := fun _ _ =>
    [[fAny 35 32, fAny 31 28], [fAny 35 24, fMax 23 14 512, fAny 13 2],
     [fMax 35 26 512, fAny 25 25, fAny 24 24, fAny 23 23, fAny 22 22, fAny 21 21, fAny 20 20]]
  run := fun r s =>
    let g : GroupEnt :=
      { base1 := r.fld 2 35 24, count1 := r.fld 2 23 14, base2 := r.fld 2 13 2, count2 := r.fld 3 35 26,
        defFwd := r.bit 3 25, defCpu := r.bit 3 24, incFwd := r.bit 3 23, incCpu := r.bit 3 22,
        fmissFwd := r.bit 3 21, fmissCpu := r.bit 3 20 }
    if (g.count1 ≠ 0 ∧ (g.base1 = 0 ∨ 4096 < g.base1 + g.count1)) ∨
       (g.count2 ≠ 0 ∧ (g.base2 = 0 ∨ 4096 < g.base2 + g.count2)) then .fail s .refused
    else
      { st := s.modTab fun t => t.setBank (t.gen + 1) (Tbl.put GroupEnt.dflt (t.bank (t.gen + 1)) (pairIdx r) g) }

/-- Meaning of RULE_GROUP_WRITE. -/
def execRuleGroupWrite (r : Req) (s : State) : Res := .next (mailbox ruleGroupWrite r s)

/-- Quarter nanoseconds of `n` µs. -/
def qUs (n : Nat) : Nat := n * 4000

/-- Start an activation: T is 50 µs after receipt (04 R95, 05 R129, 06 R148). -/
def State.startAct (s : State) (k : ActKind) (p : Path) (rows : List Nat) : State :=
  s.modTab fun t => { t with act := some { kind := k, t := s.nowQ + qUs 50, path := p, rows := rows } }

/-- 0x407 RULE.COMMIT (04 R95, R105): armed now; the response follows retirement. -/
def ruleCommit : CmdSpec where
  opcode := 0x407
  lenOk := lenIs 1
  kinds := [3]
  locked := policyLocked
  busy := fun _ s => s.copying || s.tab.retiring || s.tab.act.isSome
  fields := fun _ _ => [[fAny 35 28]]
  run := fun r s =>
    if r.fld 1 35 28 ≠ s.tab.gen % 256 then .fail s .staleGen
    else { st := s.startAct .rule r.path [], later := true }

/-- Meaning of RULE_COMMIT. -/
def execRuleCommit (r : Req) (s : State) : Res := .next (mailbox ruleCommit r s)

/-- Fragment entries in use on a die. -/
def FabSt.fragsUsed (q : FabSt) : Nat := (q.frags.filter fun e => e.2.valid).length

/-- The four words of RULE.STATUS_READ (04 R106). -/
def ruleStatusWords (s : State) : List Word :=
  [pack [(28, 8, s.tab.gen), (27, 1, s.tab.gen), (26, 1, b1 s.tab.retiring), (25, 1, b1 (s.has 1)), (24, 1, b1 (s.has 2)),
         (14, 10, s.tab.fragTimeout)],
   pack [(27, 9, s.fabW.fragsUsed), (18, 9, s.fabE.fragsUsed)]] ++ words72 s.tab.ruleT

/-- 0x408 RULE.STATUS_READ (04 R106). -/
def ruleStatusRead : CmdSpec where
  opcode := 0x408
  lenOk := lenIs 0
  changes := fun _ => false
  run := fun _ s => { st := s, payload := ruleStatusWords s }

/-- Meaning of RULE_STATUS_READ. -/
def execRuleStatusRead (r : Req) (s : State) : Res := .next (mailbox ruleStatusRead r s)

/-- 0x409 RULE.FRAG_WRITE (04 R107). -/
def ruleFragWrite : CmdSpec where
  opcode := 0x409
  lenOk := lenIs 1
  locked := policyLocked
  busy := copyBusy
  fields := fun _ _ => [[fRange 35 26 1 1000]]
  run := fun r s => { st := s.modTab fun t => { t with fragTimeout := r.fld 1 35 26 } }

/-- Meaning of RULE_FRAG_WRITE. -/
def execRuleFragWrite (r : Req) (s : State) : Res := .next (mailbox ruleFragWrite r s)

/-- The counters that RULE.STATS_READ returns (04 R108). -/
def ruleStatsWords (s : State) (d : Fab) (kind i : Nat) : List Word :=
  let q := s.fab d
  match kind with
  | 0 =>
    let c := Tbl.get PortParse.dflt s.tab.ports i
    words72 c.parsed ++ [w36 c.malformed, pack [(32, 4, c.malCause)], w36 c.incomplete]
  | 1 => words72 (Tbl.get zeroAt q.hits i)
  | 2 =>
    let c := Tbl.get PairCtr.dflt q.pairs i
    words72 c.defHits ++ [w36 c.incHits, w36 c.fmissHits]
  | _ =>
    words72 q.recircs ++ [w36 q.recircDrops, w36 q.zoneExcess] ++ words72 q.fragHits ++
      [w36 q.fragMisses, w36 q.fragFull, w36 q.fragTimeouts]

/-- CLEAR of RULE.STATS_READ (04 R108). -/
def State.ruleStatsClear (s : State) (d : Fab) (kind i : Nat) : State :=
  match kind with
  | 0 => s.modTab fun t => { t with ports := Tbl.upd PortParse.dflt t.ports i fun c =>
      { c with parsed := 0, malformed := 0, malCause := 0, incomplete := 0 } }
  | 1 => s.modFab d fun q => { q with hits := Tbl.put zeroAt q.hits i 0 }
  | 2 => s.modFab d fun q => { q with pairs := Tbl.upd PairCtr.dflt q.pairs i fun c =>
      { c with defHits := 0, incHits := 0, fmissHits := 0 } }
  | _ => s.modFab d fun q =>
      { q with recircs := 0, recircDrops := 0, zoneExcess := 0, fragHits := 0, fragMisses := 0, fragFull := 0, fragTimeouts := 0 }

/-- 0x40A RULE.STATS_READ (04 R108). -/
def ruleStatsRead : CmdSpec where
  opcode := 0x40A
  lenOk := lenIs 1
  changes := fun r => r.bit 1 20
  fields := fun r _ =>
    [[fAny 35 35, fAny 34 33,
      match r.fld 1 34 33 with
      | 0 => fNeed 32 21 (· ≤ 31)
      | 1 => fNeed 32 21 (· ≠ 0)
      | 2 => fNeed 32 21 (· ≤ 255)
      | _ => fTo 32 21 (fun _ => true) 0 4,
      fAny 20 20]]
  run := fun r s =>
    let d := r.dieBit
    let k := r.fld 1 34 33
    let i := r.fld 1 32 21
    { st := if r.bit 1 20 then s.ruleStatsClear d k i else s, payload := ruleStatsWords s d k i }

/-- Meaning of RULE_STATS_READ. -/
def execRuleStatsRead (r : Req) (s : State) : Res := .next (mailbox ruleStatsRead r s)

/-- 0x40B RULE.PORT_READ (04 R109). -/
def rulePortRead : CmdSpec where
  opcode := 0x40B
  lenOk := lenIs 1
  changes := fun _ => false
  fields := fun _ _ => [[fAny 35 31]]
  run := fun r s =>
    let p := r.fld 1 35 31
    { st := s, payload := [(Tbl.get PortParse.dflt s.tab.ports p).word p] }

/-- Meaning of RULE_PORT_READ. -/
def execRulePortRead (r : Req) (s : State) : Res := .next (mailbox rulePortRead r s)

/-- 0x40C RULE.RANGE_READ (04 R109). -/
def ruleRangeRead : CmdSpec where
  opcode := 0x40C
  lenOk := lenIs 1
  changes := fun _ => false
  fields := fun _ _ => [[fAny 35 30]]
  run := fun r s =>
    let i := r.fld 1 35 30
    { st := s, payload := (Tbl.get RangeCmp.dflt s.tab.ranges i).words i }

/-- Meaning of RULE_RANGE_READ. -/
def execRuleRangeRead (r : Req) (s : State) : Res := .next (mailbox ruleRangeRead r s)

/-- 0x40D RULE.GROUP_READ (04 R109). -/
def ruleGroupRead : CmdSpec where
  opcode := 0x40D
  lenOk := lenIs 1
  changes := fun _ => false
  fields := fun _ _ => [[fAny 35 32, fAny 31 28, fAny 27 27]]
  run := fun r s =>
    { st := s, payload := (Tbl.get GroupEnt.dflt (s.tab.bank (s.tab.gen + r.fld 1 27 27)) (pairIdx r)).words }

/-- Meaning of RULE_GROUP_READ. -/
def execRuleGroupRead (r : Req) (s : State) : Res := .next (mailbox ruleGroupRead r s)

end Sys2Proof.Machine
end

