-- ==== Sys2Proof/Machine/Fwd.lean ====
section
/-! DEFINITION. The forwarding and stream table: entry fields, groups, visibility and keys (05 R110 to R116). -/

namespace Sys2Proof.Machine

/-! ### Entry fields -/

/-- VALID (05 R110). -/
def FwdEnt.valid (e : FwdEnt) : Bool := bit1 e.w0 35
/-- KIND (05 R110). -/
def FwdEnt.kind (e : FwdEnt) : Nat := fld e.w0 34 32
/-- STAGE (05 R110). -/
def FwdEnt.stage (e : FwdEnt) : Nat := fld e.w0 31 30
/-- GBIT (05 R110). -/
def FwdEnt.gbit (e : FwdEnt) : Nat := fld e.w0 29 29
/-- EXT (05 R114). -/
def FwdEnt.ext (e : FwdEnt) : Bool := bit1 e.w0 28
/-- LEARNED of a KIND 0 entry (05 R114). -/
def FwdEnt.learned (e : FwdEnt) : Bool := e.valid && e.kind == 0 && bit1 e.w0 27
/-- MAC of a KIND 0 or 1 entry (05 R114). -/
def FwdEnt.mac (e : FwdEnt) : Nat := fld e.w0 12 0 * 2 ^ 35 + fld e.w1 35 1
/-- VID of a KIND 0 or 1 entry (05 R114). -/
def FwdEnt.vid (e : FwdEnt) : Nat := fld e.w0 24 13
/-- PORTS: front ports in bits 0 to 25, CPU 26, port 28 27, port 29 28, gateway 29 (05 R114). -/
def FwdEnt.ports (e : FwdEnt) : Nat := fld e.w2 35 6
/-- QUEUE (05 R114). -/
def FwdEnt.queue (e : FwdEnt) : Nat := fld e.w2 5 1
/-- VLAN_ACT (05 R114). -/
def FwdEnt.vlanAct (e : FwdEnt) : Nat := fld e.w3 35 32
/-- E_VID (05 R114). -/
def FwdEnt.eVid (e : FwdEnt) : Nat := fld e.w3 31 20
/-- E_PCP (05 R114). -/
def FwdEnt.ePcp (e : FwdEnt) : Nat := fld e.w3 19 17
/-- E_DEI (05 R114). -/
def FwdEnt.eDei (e : FwdEnt) : Nat := fld e.w3 16 16
/-- ALT_EN (05 R114). -/
def FwdEnt.altEn (e : FwdEnt) : Bool := bit1 e.w3 15
/-- ALT (05 R114). -/
def FwdEnt.alt (e : FwdEnt) : Nat := fld e.w3 14 1

/-- The table entry at an index. -/
def TabSt.fwdEnt (t : TabSt) (i : Nat) : FwdEnt := Tbl.get FwdEnt.dflt t.fwd i

/-- The listed entries of the table and entry 0, which the factory defaults hold (05 R116). -/
def TabSt.fwdList (t : TabSt) : List (Nat × FwdEnt) :=
  match t.fwd with
  | (0, e) :: r => (0, e) :: r
  | r => (0, t.fwdEnt 0) :: r

/-! ### Groups -/

/-- Entries of a group by its first entry (05 R110). -/
def FwdEnt.groupCount (e : FwdEnt) : Nat :=
  match e.kind with
  | 0 | 1 => if e.ext then 2 else 1
  | 2 => 2
  | 3 => 3
  | _ => 1

/-- Whether an entry can be the first of a group (05 R110). -/
def FwdEnt.isFirst (e : FwdEnt) : Bool := e.kind ≤ 3 || e.kind == 7

/-- The KINDs that follow a first entry (05 R110). -/
def FwdEnt.followers (e : FwdEnt) : List Nat :=
  match e.kind with
  | 0 | 1 => if e.ext then [5] else []
  | 2 => [6]
  | 3 => [4, 6]
  | _ => []

/-- Whether a group with this first entry is visible to a lookup while FGEN is `g` (05 R111). -/
def FwdEnt.visible (e : FwdEnt) (g : Nat) : Bool :=
  e.valid && (e.stage == 0 || (e.stage == 1 && g % 2 == e.gbit) || (e.stage == 2 && g % 2 != e.gbit))

/-- The entry that carries the action words of a group: the first for KIND 0, 1 and 7, the closing KIND 6 otherwise (05 R110). -/
def TabSt.actionOf (t : TabSt) (i : Nat) : FwdEnt :=
  let e := t.fwdEnt i
  match e.kind with
  | 2 => t.fwdEnt (i + 1)
  | 3 => t.fwdEnt (i + 2)
  | _ => e

/-- FRER_MODE and FRER_FN of a group (05 R110, R116). -/
def TabSt.frerOf (t : TabSt) (i : Nat) : Nat × Nat :=
  let e := t.fwdEnt i
  match e.kind with
  | 0 | 1 => if e.ext then (fld (t.fwdEnt (i + 1)).w0 28 27, fld (t.fwdEnt (i + 1)).w0 26 17) else (0, 0)
  | 2 => (fld (t.fwdEnt (i + 1)).w0 28 27, fld (t.fwdEnt (i + 1)).w0 26 17)
  | 3 => (fld (t.fwdEnt (i + 2)).w0 28 27, fld (t.fwdEnt (i + 2)).w0 26 17)
  | _ => (0, 0)

/-- PIN of a group (05 R114, R116). -/
def TabSt.pinOf (t : TabSt) (i : Nat) : Nat :=
  let e := t.fwdEnt i
  match e.kind with
  | 0 | 1 => fld e.w0 26 25
  | 2 => fld (t.fwdEnt (i + 1)).w0 16 15
  | 3 => fld (t.fwdEnt (i + 2)).w0 16 15
  | _ => 0

/-- A field of an IP key, 0 where it is a wildcard. -/
def wildZero (wild bit v : Nat) : Nat := if inMask wild bit then 0 else v

/-- IPv6 destination of a KIND 3 group (05 R115). -/
def dip6Of (a b : FwdEnt) : Nat :=
  a.w1.toNat * 2 ^ 92 + a.w2.toNat * 2 ^ 56 + a.w3.toNat * 2 ^ 20 + fld b.w0 28 9

/-- IPv6 source bits 63:0 of a KIND 4 entry (05 R115). -/
def sip6Of (b : FwdEnt) : Nat := b.w1.toNat * 2 ^ 28 + fld b.w2 35 8

/-- The key of a group as numbers, starting with its KIND; equal lists are equal keys (05 R114, R115). -/
def groupKey (e : FwdEnt) (e1 : FwdEnt) : List Nat :=
  let w := fld e.w0 28 24
  match e.kind with
  | 0 | 1 => [e.kind, e.vid, e.mac]
  | 2 =>
    [2, w, wildZero w 3 (fld e.w0 23 18), wildZero w 2 (fld e.w0 17 10), fld e.w1 31 0, wildZero w 4 (fld e.w2 31 0),
     wildZero w 1 (fld e.w3 35 20), wildZero w 0 (fld e.w3 19 4)]
  | 3 =>
    [3, w, wildZero w 3 (fld e.w0 23 18), wildZero w 2 (fld e.w0 17 10), dip6Of e e1, wildZero w 4 (sip6Of e1),
     wildZero w 1 (fld e1.w3 35 20), wildZero w 0 (fld e1.w3 19 4)]
  | _ => []

/-- Groups visible at generation `g`, as first index and first entry, rising. -/
def TabSt.visibleGroups (t : TabSt) (g : Nat) : List (Nat × FwdEnt) :=
  t.fwdList.filter fun e => e.2.isFirst && e.2.visible g

/-- Visible groups at generation `g` that name entry `i` as ALT (05 R132). -/
def TabSt.altRefs (t : TabSt) (g i : Nat) : Nat :=
  ((t.visibleGroups g).filter fun e => e.2.kind ≠ 7 && (t.actionOf e.1).altEn && (t.actionOf e.1).alt == i).length

/-- An entry with its VALID, STAGE and GBIT set by the device (05 R111, R131). -/
def FwdEnt.setHead (e : FwdEnt) (valid : Bool) (stage gbit : Nat) : FwdEnt :=
  { e with w0 := pack [(35, 1, b1 valid), (32, 3, e.kind), (30, 2, stage), (29, 1, gbit), (0, 29, fld e.w0 28 0)] }

/-- Write entries from index `i` on. -/
def TabSt.putFwd (t : TabSt) (i : Nat) (es : List FwdEnt) : TabSt := { t with fwd := Tbl.puts FwdEnt.dflt t.fwd i es }

/-- The entries of the group at `i`, `n` of them. -/
def TabSt.fwdGroup (t : TabSt) (i n : Nat) : List FwdEnt := Tbl.gets FwdEnt.dflt t.fwd i n

/-- Whether an index lies in the learning region (05 R120). -/
def TabSt.inRegion (t : TabSt) (i : Nat) : Bool := inRange i t.learnBase t.learnCount

/-- Learned entries present: the LEARNED gauge (05 R130). -/
def TabSt.learnedCount (t : TabSt) : Nat := (t.fwdList.filter fun e => e.2.learned).length

/-- Delete the learned entries that `f` selects (05 R120, R138). -/
def TabSt.flushLearned (t : TabSt) (f : FwdEnt → Bool) : TabSt :=
  { t with fwd := t.fwdList.foldl (fun x e => if e.2.learned && f e.2 then Tbl.put FwdEnt.dflt x e.1 (e.2.setHead false 0 0) else x) t.fwd }

end Sys2Proof.Machine
end

