-- ==== Sys2Proof/Machine/FwdCmds.lean ====
section
/-! DEFINITION. Meanings of the FWD and FRER commands (05 R131 to R142). -/

namespace Sys2Proof.Machine

/-! ### FWD.ENTRY_WRITE -/

/-- Header fields of an entry: STAGE and GBIT given are clamped to 0; a following entry takes the VALID of the first (05 R131). -/
def fwdHead (first : Bool) (v0 : Nat) : List Fld :=
  [if first then fAny 35 35 else fTo 35 35 (fun _ => true) v0 5, fAny 34 32, fTo 31 30 (fun _ => true) 0 4, fTo 29 29 (fun _ => true) 0 4]

/-- A VID that is used: 1 to 4 094. -/
def fVid (hi lo : Nat) : Fld := fNeed hi lo fun v => decide (1 ≤ v ∧ v ≤ 4094)

/-- The action words of KIND 0, 1 and 6 (05 R114). -/
def actionFields (w3 : Word) : List (List Fld) :=
  let act := fld w3 35 32
  [[fAny 35 6, fAny 5 1],
   [fTo 35 32 (fun v => decide (5 ≤ v)) 0 2, if 2 ≤ act ∧ act ≤ 4 then fVid 31 20 else fAny 31 20, fAny 19 17, fAny 16 16,
    fAny 15 15, fAny 14 1]]

/-- The action words of KIND 7: ALT_EN and ALT are clamped to 0 (05 R131). -/
def altFields (w3 : Word) : List (List Fld) :=
  let act := fld w3 35 32
  [[fAny 35 6, fAny 5 1],
   [fTo 35 32 (fun v => decide (5 ≤ v)) 0 2, if 2 ≤ act ∧ act ≤ 4 then fVid 31 20 else fAny 31 20, fAny 19 17, fAny 16 16,
    fTo 15 15 (fun _ => true) 0 4, fTo 14 1 (fun _ => true) 0 4]]

/-- The fields of one entry's four words by its KIND (05 R114 to R116). -/
def fwdEntFields (first : Bool) (v0 : Nat) (w0 w3 : Word) : List (List Fld) :=
  let h := fwdHead first v0
  match fld w0 34 32 with
  | 0 => [h ++ [fAny 28 28, fTo 27 27 (fun _ => true) 0 4, fTo 26 25 (· == 3) 0 2, fVid 24 13, fAny 12 0], [fAny 35 1]] ++ actionFields w3
  | 1 => [h ++ [fAny 28 28, fTo 27 27 (fun _ => true) 0 4, fTo 26 25 (· == 3) 0 2, fVid 24 13, fAny 12 0], [fAny 35 1]] ++ actionFields w3
  | 2 => [h ++ [fAny 28 24, fAny 23 18, fAny 17 10], [fAny 31 0], [fAny 31 0], [fAny 35 20, fAny 19 4]]
  | 3 => [h ++ [fAny 28 24, fAny 23 18, fAny 17 10], wAny, wAny, wAny]
  | 4 => [h ++ [fAny 28 9], wAny, [fAny 35 8], [fAny 35 20, fAny 19 4]]
  | 5 => [h ++ [fTo 28 27 (· == 3) 0 2, fAny 26 17], [], [], []]
  | 6 => [h ++ [fTo 28 27 (· == 3) 0 2, fAny 26 17, fTo 16 15 (· == 3) 0 2], []] ++ actionFields w3
  | _ => [h, []] ++ altFields w3

/-- The entries given in a request's words 2 onward. -/
def entriesOf : List Word → List FwdEnt
  | a :: b :: c :: d :: r => { w0 := a, w1 := b, w2 := c, w3 := d } :: entriesOf r
  | _ => []

/-- The fields of FWD.ENTRY_WRITE (05 R131). -/
def fwdWriteFields (r : Req) : List (List Fld) :=
  let es := entriesOf (r.words.drop 1)
  let v0 := fld (r.word 2) 35 35
  match es with
  | [] => [[fAny 35 22, fAny 21 20, fAny 19 18]]
  | e :: t =>
    [[fAny 35 22, fAny 21 20, fAny 19 18]] ++ fwdEntFields true v0 e.w0 e.w3 ++
      (t.map fun x => fwdEntFields false v0 x.w0 x.w3).flatten

/-- The group shape is right: a first entry, COUNT as its KIND asks, and the KINDs that follow (05 R110, R131). -/
def groupShapeOk (es : List FwdEnt) (count : Nat) : Bool :=
  match es with
  | [] => false
  | e :: t => e.isFirst && e.groupCount == count && es.length == count && t.map FwdEnt.kind == e.followers

/-- Every target entry is free, or for LIVE the targets are a live group of the same KIND and COUNT (05 R131). -/
def targetsOk (t : TabSt) (i count : Nat) (live : Bool) (kind : Nat) : Bool :=
  let old := t.fwdEnt i
  (t.fwdGroup i count).all (fun e => !e.valid) ||
    (live && old.valid && old.stage == 0 && old.isFirst && old.kind == kind && old.groupCount == count)

/-- The key equals the key of another group visible in the current or the next generation (05 R131). -/
def dupKey (t : TabSt) (i : Nat) (e e1 : FwdEnt) : Bool :=
  e.kind ≤ 3 &&
    (t.visibleGroups t.fgen ++ t.visibleGroups (t.fgen + 1)).any fun g =>
      g.1 != i && g.2.kind == e.kind && groupKey g.2 (t.fwdEnt (g.1 + 1)) == groupKey e e1

/-- ALT names a valid KIND 7 entry visible wherever the group is visible (05 R131). -/
def altOk (t : TabSt) (live : Bool) (a : FwdEnt) : Bool :=
  if a.altEn then
    let x := t.fwdEnt a.alt
    x.kind == 7 && x.visible (t.fgen + 1) && (!live || x.visible t.fgen)
  else true

/-- The refusals of a LIVE or STAGE write (05 R131). -/
def writeRefused (t : TabSt) (i count : Nat) (live : Bool) (es : List FwdEnt) : Bool :=
  let e := es.headD {}
  let e1 := es.getD 1 {}
  let a := if e.kind ≤ 1 ∨ e.kind = 7 then e else es.getLastD {}
  !groupShapeOk es count || decide (16384 < i + count) || !targetsOk t i count live e.kind ||
    ((List.range count).any fun k => t.inRegion (i + k)) ||
    (e.valid && (dupKey t i e e1 || (e.kind ≠ 7 && !altOk t live a)))

/-- Write a group LIVE or STAGE; a group with VALID 0 leaves its entries free (05 R131). -/
def TabSt.writeGroup (t : TabSt) (i : Nat) (live : Bool) (es : List FwdEnt) : TabSt :=
  let v := (es.headD {}).valid
  if v then t.putFwd i (es.map fun e => e.setHead true (if live then 0 else 1) (if live then 0 else (t.fgen + 1) % 2))
  else t.putFwd i (es.map fun _ => {})

/-- Refusals of WITHDRAW and DELETE (05 R131). -/
def removeRefused (t : TabSt) (i count : Nat) (withdraw : Bool) : Bool :=
  let e := t.fwdEnt i
  !e.valid || !e.isFirst || e.groupCount != count ||
    (withdraw && e.stage != 0) ||
    (e.kind == 7 && (decide (t.altRefs (t.fgen + 1) i ≠ 0) || (!withdraw && decide (t.altRefs t.fgen i ≠ 0)))) ||
    (((List.range count).any fun k => t.inRegion (i + k)) && !(!withdraw && e.learned))

/-- 0x501 FWD.ENTRY_WRITE (05 R131). -/
def fwdEntryWrite : CmdSpec where
  opcode := 0x501
  lenOk := fun n => n == 1 || n == 5 || n == 9 || n == 13
  locked := policyLocked
  busy := fun r s => s.copying || (s.tab.sweep && (r.fld 1 21 20 == 1 || r.fld 1 21 20 == 2))
  fields := fun r _ => fwdWriteFields r
  run := fun r s =>
    let i := r.fld 1 35 22
    let mode := r.fld 1 21 20
    let count := r.fld 1 19 18
    let es := entriesOf (r.words.drop 1)
    let t := s.tab
    if mode ≤ 1 then
      if r.words.length ≠ 1 + 4 * count ∨ writeRefused t i count (mode == 0) es then .fail s .refused
      else { st := s.modTab fun t => t.writeGroup i (mode == 0) es }
    else if r.words.length ≠ 1 ∨ removeRefused t i count (mode == 2) then .fail s .refused
    else if mode = 2 then
      { st := s.modTab fun t => t.putFwd i ((t.fwdGroup i count).map fun e => e.setHead true 2 ((t.fgen + 1) % 2)) }
    else { st := s.modTab fun t => t.putFwd i ((t.fwdGroup i count).map fun _ => {}) }

/-- Meaning of FWD_ENTRY_WRITE. -/
def execFwdEntryWrite (r : Req) (s : State) : Res := .next (mailbox fwdEntryWrite r s)

/-- STATE of an entry: 0 free, 1 staged, 2 live, 3 withdrawn (05 R132). -/
def FwdEnt.stateCode (e : FwdEnt) : Nat :=
  if !e.valid then 0 else match e.stage with | 0 => 2 | 1 => 1 | _ => 3

/-- 0x502 FWD.ENTRY_READ (05 R132). -/
def fwdEntryRead : CmdSpec where
  opcode := 0x502
  lenOk := lenIs 1
  changes := fun _ => false
  fields := fun _ _ => [[fAny 35 22]]
  run := fun r s =>
    let i := r.fld 1 35 22
    let e := s.tab.fwdEnt i
    { st := s
      payload := [pack [(22, 14, i), (20, 2, e.stateCode), (6, 14, s.tab.altRefs s.tab.fgen i)], e.w0, e.w1, e.w2, e.w3] }

/-- Meaning of FWD_ENTRY_READ. -/
def execFwdEntryRead (r : Req) (s : State) : Res := .next (mailbox fwdEntryRead r s)

/-- 0x503 FWD.COMMIT (05 R129, R133). -/
def fwdCommit : CmdSpec where
  opcode := 0x503
  lenOk := lenIs 1
  kinds := [3]
  locked := policyLocked
  busy := fun _ s => s.copying || s.tab.sweep || s.tab.act.isSome
  fields := fun _ _ => [[fAny 35 28]]
  run := fun r s =>
    if r.fld 1 35 28 ≠ s.tab.fgen % 256 then .fail s .staleGen
    else { st := s.startAct .fwd r.path [], later := true }

/-- Meaning of FWD_COMMIT. -/
def execFwdCommit (r : Req) (s : State) : Res := .next (mailbox fwdCommit r s)

/-- Groups whose first entry has STAGE `k`. -/
def TabSt.stagedCount (t : TabSt) (k : Nat) : Nat :=
  (t.fwdList.filter fun e => e.2.valid && e.2.isFirst && e.2.stage == k).length

/-- The five words of FWD.STATUS_READ (05 R134). -/
def fwdStatusWords (s : State) : List Word :=
  [pack [(28, 8, s.tab.fgen), (27, 1, b1 s.tab.sweep), (26, 1, b1 (s.has 1)), (25, 1, b1 (s.has 2)), (24, 1, b1 s.tab.learnEn)],
   pack [(21, 15, s.tab.stagedCount 1), (6, 15, s.tab.stagedCount 2)], pack [(10, 26, s.tab.linkDown)]] ++ words72 s.tab.fwdT

/-- 0x504 FWD.STATUS_READ (05 R134). -/
def fwdStatusRead : CmdSpec where
  opcode := 0x504
  lenOk := lenIs 0
  changes := fun _ => false
  run := fun _ s => { st := s, payload := fwdStatusWords s }

/-- Meaning of FWD_STATUS_READ. -/
def execFwdStatusRead (r : Req) (s : State) : Res := .next (mailbox fwdStatusRead r s)

/-- Words 1 and 2 of FWD.PORT_WRITE (05 R135). -/
def VlanPort.words (p : Nat) (c : VlanPort) : List Word :=
  [pack [(31, 5, p), (19, 12, c.pvid), (16, 3, c.defPcp), (14, 2, c.accept), (13, 1, b1 c.inFilter), (11, 2, c.egMode),
         (10, 1, b1 c.learn), (9, 1, b1 c.rtagRx), (8, 1, b1 c.rtagTx), (7, 1, b1 c.flushOnDown)],
   pack [(31, 5, c.learnQueue), (21, 10, c.restoreHold)]]

/-- 0x505 FWD.PORT_WRITE (05 R135). -/
def fwdPortWrite : CmdSpec where
  opcode := 0x505
  lenOk := lenIs 2
  locked := policyLocked
  busy := copyBusy
  fields := fun r _ =>
    let p := r.fld 1 35 31
    let noTag : Nat → Bool := fun _ => p == 26 || p == 27 || p == 30 || p == 31
    [[fAny 35 31,
      { hi := 30, lo := 19, clamp := fun v => if v = 0 then some (1, 1) else if v = 4095 then some (1, 2) else none },
      fAny 18 16, fTo 15 14 (· == 3) 0 2, fAny 13 13, fTo 12 11 (· == 3) 0 2, fTo 10 10 (fun _ => decide (26 ≤ p)) 0 4,
      fTo 9 9 noTag 0 4, fTo 8 8 noTag 0 4, fAny 7 7],
     [fAny 35 31, fMax 30 21 1000]]
  run := fun r s =>
    { st := s.modTab fun t => { t with vlan := Tbl.upd VlanPort.dflt t.vlan (r.fld 1 35 31) fun c =>
        { c with pvid := r.fld 1 30 19, defPcp := r.fld 1 18 16, accept := r.fld 1 15 14, inFilter := r.bit 1 13,
                 egMode := r.fld 1 12 11, learn := r.bit 1 10, rtagRx := r.bit 1 9, rtagTx := r.bit 1 8,
                 flushOnDown := r.bit 1 7, learnQueue := r.fld 2 35 31, restoreHold := r.fld 2 30 21 } } }

/-- Meaning of FWD_PORT_WRITE. -/
def execFwdPortWrite (r : Req) (s : State) : Res := .next (mailbox fwdPortWrite r s)

/-- 0x506 FWD.PORT_READ (05 R136). -/
def fwdPortRead : CmdSpec where
  opcode := 0x506
  lenOk := lenIs 1
  changes := fun _ => false
  fields := fun _ _ => [[fAny 35 31]]
  run := fun r s =>
    let p := r.fld 1 35 31
    { st := s, payload := (Tbl.get VlanPort.dflt s.tab.vlan p).words p }

/-- Meaning of FWD_PORT_READ. -/
def execFwdPortRead (r : Req) (s : State) : Res := .next (mailbox fwdPortRead r s)

/-- 0x507 FWD.LEARN_WRITE (05 R137). -/
def fwdLearnWrite : CmdSpec where
  opcode := 0x507
  lenOk := lenIs 1
  locked := policyLocked
  busy := copyBusy
  fields := fun r _ => [[fAny 35 35, fAny 34 21, fMax 20 6 (16384 - r.fld 1 34 21)]]
  run := fun r s =>
    let b := r.fld 1 34 21
    let n := r.fld 1 20 6
    if s.tab.fwdList.any fun e => e.2.valid && (if inRange e.1 b n then !e.2.learned else e.2.learned) then .fail s .refused
    else { st := s.modTab fun t => { t with learnEn := r.bit 1 35, learnBase := b, learnCount := n } }

/-- Meaning of FWD_LEARN_WRITE. -/
def execFwdLearnWrite (r : Req) (s : State) : Res := .next (mailbox fwdLearnWrite r s)

/-- The learned entries that FWD.LEARN_FLUSH selects (05 R138). -/
def flushSelects (r : Req) (e : FwdEnt) : Bool :=
  r.bit 1 35 || (inMask e.ports (r.fld 1 34 30) && (!r.bit 1 29 || e.vid == r.fld 1 28 17))

/-- 0x508 FWD.LEARN_FLUSH (05 R138). -/
def fwdLearnFlush : CmdSpec where
  opcode := 0x508
  lenOk := lenIs 1
  locked := policyLocked
  busy := copyBusy
  fields := fun _ _ => [[fAny 35 35, fAny 34 30, fAny 29 29, fAny 28 17]]
  run := fun r s =>
    { st := s.modTab fun t => t.flushLearned (flushSelects r)
      payload := [pack [(21, 15, (s.tab.fwdList.filter fun e => e.2.learned && flushSelects r e.2).length)]] }

/-- Meaning of FWD_LEARN_FLUSH. -/
def execFwdLearnFlush (r : Req) (s : State) : Res := .next (mailbox fwdLearnFlush r s)

/-- The counters that FWD.STATS_READ returns (05 R139). -/
def fwdStatsWords (s : State) (d : Fab) (kind i : Nat) : List Word :=
  let q := s.fab d
  match kind with
  | 0 =>
    words72 (Tbl.get zeroAt s.fabW.groupFrames i + Tbl.get zeroAt s.fabE.groupFrames i) ++
      words72 (Tbl.get zeroAt s.fabW.groupOctets i + Tbl.get zeroAt s.fabE.groupOctets i)
  | 1 =>
    let c := Tbl.get VlanPort.dflt s.tab.vlan i
    words72 c.inFrames ++ words72 c.inOctets ++ words72 c.outFrames ++ words72 c.outOctets ++
      [w36 c.noRoute, w36 c.vlanDrops, w36 c.oversize]
  | 2 =>
    let c := Tbl.get OutCfg.dflt q.outs i
    words72 (Tbl.get OutPool.dflt (s.pool d).outs i).spills ++ words72 c.flushDrops ++
      [w36 c.ctBad, pack [(32, 4, c.ctCause)], w36 c.resOverrun, w36 c.badDrops]
  | 3 => [w36 (Tbl.get MirrorCfg.dflt q.mirrors i).drops]
  | 4 =>
    [w36 q.seamErrors, pack [(20, 16, s.tab.learnedCount)], w36 q.moves, w36 q.learnFull, w36 q.learnConflicts,
     w36 q.learnOverflow] ++ words72 q.rerouted ++ [w36 q.frerMisconfig]
  | _ =>
    let f := Tbl.get FrerDyn.dflt q.frer i
    words72 f.generated ++ words72 f.passed ++ words72 f.discarded ++
      [w36 f.outOfOrder, w36 f.rogue, w36 f.lost, w36 f.tagless, w36 f.resets]

/-- CLEAR of FWD.STATS_READ (05 R139). -/
def State.fwdStatsClear (s : State) (d : Fab) (kind i : Nat) : State :=
  match kind with
  | 0 =>
    let z : FabSt → FabSt := fun q =>
      { q with groupFrames := Tbl.put zeroAt q.groupFrames i 0, groupOctets := Tbl.put zeroAt q.groupOctets i 0 }
    (s.modFab .west z).modFab .east z
  | 1 => s.modTab fun t => { t with vlan := Tbl.upd VlanPort.dflt t.vlan i fun c =>
      { c with inFrames := 0, inOctets := 0, outFrames := 0, outOctets := 0, noRoute := 0, vlanDrops := 0, oversize := 0 } }
  | 2 =>
    (s.modFab d fun q => { q with outs := Tbl.upd OutCfg.dflt q.outs i fun c =>
      { c with flushDrops := 0, ctBad := 0, ctCause := 0, badDrops := 0, resOverrun := 0 } }).modPool d fun q =>
        { q with outs := Tbl.upd OutPool.dflt q.outs i fun o => { o with spills := 0 } }
  | 3 => s.modFab d fun q => { q with mirrors := Tbl.upd MirrorCfg.dflt q.mirrors i fun m => { m with drops := 0 } }
  | 4 => s.modFab d fun q =>
      { q with seamErrors := 0, moves := 0, learnFull := 0, learnConflicts := 0, learnOverflow := 0, rerouted := 0, frerMisconfig := 0 }
  | _ => s.modFab d fun q => { q with frer := Tbl.upd FrerDyn.dflt q.frer i fun f =>
      { f with generated := 0, passed := 0, discarded := 0, outOfOrder := 0, rogue := 0, lost := 0, tagless := 0, resets := 0 } }

/-- 0x509 FWD.STATS_READ (05 R139). -/
def fwdStatsRead : CmdSpec where
  opcode := 0x509
  lenOk := lenIs 1
  changes := fun r => r.bit 1 17
  fields := fun r _ =>
    [[fAny 35 35, fNeed 34 32 (· ≤ 5),
      match r.fld 1 34 32 with
      | 0 => fAny 31 18
      | 1 => fNeed 31 18 (· ≤ 31)
      | 2 => fNeed 31 18 (· ≤ 16)
      | 3 => fNeed 31 18 (· ≤ 3)
      | 4 => fTo 31 18 (fun _ => true) 0 4
      | _ => fNeed 31 18 (· ≤ 1023),
      fAny 17 17]]
  run := fun r s =>
    let d := r.dieBit
    let k := r.fld 1 34 32
    let i := r.fld 1 31 18
    { st := if r.bit 1 17 then s.fwdStatsClear d k i else s, payload := fwdStatsWords s d k i }

/-- Meaning of FWD_STATS_READ. -/
def execFwdStatsRead (r : Req) (s : State) : Res := .next (mailbox fwdStatsRead r s)

/-! ### FRER -/

/-- Reset the state of a function on both dies: TAKE_ANY 1, H 0, GEN_SEQ 0 (05 R125). -/
def State.frerReset (s : State) (fn : Nat) : State :=
  let z : FabSt → FabSt := fun q =>
    { q with frer := Tbl.upd FrerDyn.dflt q.frer fn fun f => { f with takeAny := true, h := 0, genSeq := 0 } }
  (s.modFab .west z).modFab .east z

/-- Word 1 of FRER.FUNC_WRITE (05 R140). -/
def FrerCfg.word (fn : Nat) (c : FrerCfg) : Word :=
  pack [(26, 10, fn), (24, 2, c.mode), (18, 6, c.history), (17, 1, b1 c.takeNoSeq), (5, 12, c.resetMs)]

/-- 0x601 FRER.FUNC_WRITE (05 R140). -/
def frerFuncWrite : CmdSpec where
  opcode := 0x601
  lenOk := lenIs 1
  locked := policyLocked
  busy := copyBusy
  fields := fun _ _ => [[fAny 35 26, fAny 25 24, fRange 23 18 2 32, fAny 17 17, fMin 16 5 1]]
  run := fun r s =>
    let fn := r.fld 1 35 26
    let c : FrerCfg := { mode := r.fld 1 25 24, history := r.fld 1 23 18, takeNoSeq := r.bit 1 17, resetMs := r.fld 1 16 5 }
    { st := (s.modTab fun t => { t with frer := Tbl.put FrerCfg.dflt t.frer fn c }).frerReset fn }

/-- Meaning of FRER_FUNC_WRITE. -/
def execFrerFuncWrite (r : Req) (s : State) : Res := .next (mailbox frerFuncWrite r s)

/-- 0x602 FRER.FUNC_READ (05 R141). -/
def frerFuncRead : CmdSpec where
  opcode := 0x602
  lenOk := lenIs 1
  changes := fun _ => false
  fields := fun _ _ => [[fAny 35 35, fAny 34 25]]
  run := fun r s =>
    let fn := r.fld 1 34 25
    let c := Tbl.get FrerCfg.dflt s.tab.frer fn
    let f := Tbl.get FrerDyn.dflt (s.fab r.dieBit).frer fn
    { st := s
      payload := [c.word fn, pack [(20, 16, if c.mode = 1 then f.genSeq else f.recovSeq), (19, 1, b1 f.takeAny)], pack [(4, 32, f.h)]] }

/-- Meaning of FRER_FUNC_READ. -/
def execFrerFuncRead (r : Req) (s : State) : Res := .next (mailbox frerFuncRead r s)

/-- 0x603 FRER.RESET (05 R142). -/
def frerResetCmd : CmdSpec where
  opcode := 0x603
  lenOk := lenIs 1
  locked := policyLocked
  busy := copyBusy
  fields := fun _ _ => [[fAny 35 26]]
  run := fun r s => { st := s.frerReset (r.fld 1 35 26) }

/-- Meaning of FRER_RESET. -/
def execFrerReset (r : Req) (s : State) : Res := .next (mailbox frerResetCmd r s)

end Sys2Proof.Machine
end

