-- ==== Sys2Proof/Machine/Gates.lean ====
section
/-! DEFINITION. Gate control lists: entries, cycles, the search for CLOSE and the change of lists (07 R174 to R183); port rates. -/

namespace Sys2Proof.Machine

/-! ### Rates -/

/-- RATE in force of a front port (09 R241, R260). -/
def PortSt.rateNow (p : PortSt) : Nat := if p.usx then (if p.mode = .up then p.usxRate else 5) else p.rate

/-- Transmission time of one byte at a RATE, in fifths of a quarter ns. -/
def byteU (rate : Nat) : Nat :=
  match rate with | 0 => 16000 | 1 => 1600 | 2 => 160 | 3 => 64 | 4 => 32 | _ => 16

/-- A RATE in kb/s. -/
def rateKbps (rate : Nat) : Nat :=
  match rate with | 0 => 10000 | 1 => 100000 | 2 => 1000000 | 3 => 2500000 | 4 => 5000000 | _ => 10000000

/-- PLCA_WAIT in ns; 0 on other ports (09 R248). -/
def PortSt.plcaWait (c : PortSt) (p : Nat) : Nat :=
  if kindOfPort p = .multidrop then
    2000 + c.plca.nodeCount * c.plca.toTimer * 100 + (c.plca.nodeCount - 1) * (c.plca.peerBurst + 1) * (c.plca.peerMax + 20) * 800
  else 0

/-- Bytes that MACsec adds to a transmission: 24, or 32 with the SCI, when the SecY is enabled (09 R254). -/
def SecySt.adds (y : SecySt) : Nat := if y.enable then (if y.includeSci then 32 else 24) else 0

/-! ### Banks -/

/-- Bank `b` of a port. -/
def GateSt.bankAt (g : GateSt) (b : Nat) : GateBank := if b % 2 = 0 then g.bank0 else g.bank1

/-- The operational bank (07 R198). -/
def GateSt.oper (g : GateSt) : GateBank := g.bankAt g.bank

/-- The admin bank. -/
def GateSt.admin (g : GateSt) : GateBank := g.bankAt (g.bank + 1)

/-- Change the admin bank. -/
def GateSt.modAdmin (g : GateSt) (f : GateBank → GateBank) : GateSt :=
  if g.bank % 2 = 0 then { g with bank1 := f g.bank1 } else { g with bank0 := f g.bank0 }

/-- Entry `i` of a bank (07 R174). -/
def GateBank.entry (b : GateBank) (i : Nat) : Word := Tbl.get zeroW b.entries i

/-- OP of an entry (07 R174). -/
def GateBank.op (b : GateBank) (i : Nat) : Nat := fld (b.entry i) 35 34

/-- INTERVAL of an entry in ns (07 R174). -/
def GateBank.interval (b : GateBank) (i : Nat) : Nat := fld (b.entry i) 27 0

/-- GATES that entry `i` puts in force (07 R174). -/
def GateBank.gates (b : GateBank) (i : Nat) : Nat := fld (Tbl.get zeroW b.patterns (fld (b.entry i) 33 28)) 31 0

/-- Starts of the entries from `i` on that begin within a cycle, in quarter ns from its start (07 R176). -/
def GateBank.offsFrom (b : GateBank) : Nat → Nat → Nat → List Nat
  | 0, _, _ => []
  | n + 1, i, o => if 4 * b.cfg.cycle ≤ o then [] else o :: b.offsFrom n (i + 1) (o + 4 * b.interval i)

/-- Starts of the entries that run in a cycle, in quarter ns (07 R176). -/
def GateBank.offs (b : GateBank) : List Nat := b.offsFrom b.cfg.len 0 0

/-- Cycle start and entry in force at time `t` (07 R176). -/
def GateBank.pos (b : GateBank) (t : Int) : Int × Nat :=
  let base : Int := qOfTime b.cfg.base
  let cyc : Int := 4 * b.cfg.cycle
  let c0 := base + (t - base) / cyc * cyc
  (c0, (b.offs.filter fun (o : Nat) => decide ((o : Int) ≤ t - c0)).length - 1)

/-- The entry start that follows entry `i` of the cycle that began at `c0` (07 R176). -/
def GateBank.after (b : GateBank) (offs : List Nat) (c0 : Int) (i : Nat) : Int × Nat × Int :=
  match offs[i + 1]? with
  | some o => (c0, i + 1, c0 + o)
  | none => (c0 + 4 * b.cfg.cycle, 0, c0 + 4 * b.cfg.cycle)

/-! ### Gates in force and CLOSE -/

/-- GATES in force at a port: all while the operational list has GATE_EN 0 (07 R175). -/
def GateSt.gatesNow (g : GateSt) : Nat := if g.oper.cfg.gateEn then g.oper.gates g.entry else 2 ^ 32 - 1

/-- Where the old list ends while a change is pending: the extended cycle's end, or CT (07 R180). -/
def GateSt.stop (g : GateSt) : Int := g.extend.getD g.ct

/-- CLOSE among the next `n` entry starts, from entry `i` of the cycle at `c0` of the old list, or of the new one (07 R177). -/
def GateSt.closeWalk (g : GateSt) (oo ao : List Nat) (q : Nat) : Nat → Bool → Int → Nat → Option Int
  | 0, _, _, _ => none
  | n + 1, old, c0, i =>
    if old then
      let x := g.oper.after oo c0 i
      if g.mode = .pending ∧ (g.stop ≤ x.2.2 ∨ ¬ g.oper.cfg.gateEn) then
        if g.admin.cfg.gateEn then
          if ¬ inMask (g.admin.gates 0) q ∨ n = 0 then some g.ct else g.closeWalk oo ao q n false g.ct 0
        else none
      else if ¬ inMask (g.oper.gates x.2.1) q ∨ n = 0 then some x.2.2
      else g.closeWalk oo ao q n true x.1 x.2.1
    else
      let x := g.admin.after ao c0 i
      if ¬ inMask (g.admin.gates x.2.1) q ∨ n = 0 then some x.2.2 else g.closeWalk oo ao q n false x.1 x.2.1

/-- CLOSE(q, t) of an open gate, none when q has no close ahead (07 R177). -/
def GateSt.close (g : GateSt) (q : Nat) : Option Int :=
  if g.mode ≠ .pending ∧
      (¬ g.oper.cfg.gateEn ∨ (List.range g.oper.cfg.len).all fun i => inMask (g.oper.gates i) q) then none
  else g.closeWalk g.oper.offs g.admin.offs q 8 true g.start g.entry

/-- Take an entry: the pattern and its OP (07 R176). -/
def GateSt.takeEntry (g : GateSt) (c0 : Int) (i : Nat) : GateSt :=
  let op := g.oper.op i
  { g with entry := i, start := c0, hold := if op = 1 then true else if op = 2 then false else g.hold }

/-- One gate machine of the state. -/
def State.gate (s : State) (p : Nat) : GateSt := Tbl.get GateSt.dflt s.egr.gates p

/-- Change one gate machine. -/
def State.modGate (s : State) (p : Nat) (f : GateSt → GateSt) : State :=
  s.modEgr fun e => { e with gates := Tbl.upd GateSt.dflt e.gates p f }

/-- MAC merge of a port. -/
def State.mm (s : State) (p : Nat) : MmSt := Tbl.get MmSt.dflt s.egr.mm p

/-- Change the MAC merge of a port. -/
def State.modMm (s : State) (p : Nat) (f : MmSt → MmSt) : State :=
  s.modEgr fun e => { e with mm := Tbl.upd MmSt.dflt e.mm p f }

/-- Count a hold request when the entry just taken is SetAndHoldMAC (07 R204). -/
def State.holdCount (s : State) (p : Nat) : State :=
  let g := s.gate p
  if g.oper.cfg.gateEn ∧ g.oper.op g.entry = 1 then s.modMm p fun m => { m with holds := sat36 m.holds 1 } else s

/-- The change of lists at CT: the admin list becomes operational (07 R179). -/
def State.gateChange (s : State) (p : Nat) : State :=
  let g := s.gate p
  let g1 := { g with bank := (g.bank + 1) % 2, mode := GateMode.copying, hold := false, extend := none }
  let s1 := s.modGate p fun _ => if g1.oper.cfg.gateEn then g1.takeEntry g.ct 0 else { g1 with entry := 0 }
  s1.holdCount p

/-- COMMIT on one port with change time `ct`: PENDING, and the extension of the old list (07 R180). -/
def GateSt.commit (g : GateSt) (ct : Nat) : GateSt :=
  let c0 := (g.oper.pos ct).1
  let ext : Option Int :=
    if g.mode = .running ∧ c0 ≠ ct ∧ (ct : Int) - c0 ≤ 4 * g.oper.cfg.ext then some c0 else none
  { g with mode := .pending, before := g.mode, ct := ct, extend := ext }

/-- CT of an admin list for a commit received at `now` (07 R180), quarter ns. -/
def GateBank.changeTime (b : GateBank) (now : Nat) : Nat :=
  let base := qOfTime b.cfg.base
  let a := now + qUs' 100
  if a ≤ base then base else base + ceilDiv (a - base) (4 * b.cfg.cycle) * (4 * b.cfg.cycle)
where
  /-- Quarter ns of `n` µs. -/
  qUs' (n : Nat) : Nat := n * 4000

/-- A step of the time-of-day at one gate machine: the entry that the list gives at the new time (07 R183). -/
def State.gateStep (s : State) (p : Nat) : State :=
  let g := s.gate p
  let d := if p ≤ 12 then Fab.west else Fab.east
  let s1 :=
    if g.mode ≠ .off ∧ g.oper.cfg.gateEn then
      let x := g.oper.pos s.nowQ
      ((s.modGate p fun g => { g with entry := x.2, start := x.1, restarts := sat36 g.restarts 1 }).satRaise g.restarts 1
        fun t => t.raiseDie d .countSat).raiseDie d .gateRestart
    else s
  if g.mode = .pending ∧ g.ct ≤ s.nowQ then s1.gateChange p else s1

/-- A gate machine resumes when its die forwards after a sleep (16 R478). -/
def State.gateResume (s : State) (p : Nat) : State :=
  let g := s.gate p
  match g.mode with
  | .running => s.gateStep p
  | .pending =>
    let s1 := if g.oper.cfg.gateEn then s.modGate p fun g => let x := g.oper.pos s.nowQ; { g with entry := x.2, start := x.1 } else s
    if g.ct ≤ s.nowQ then s1.gateChange p else s1
  | _ => s

end Sys2Proof.Machine
end

