-- ==== Sys2Proof/Machine/GateCmds.lean ====
section
/-! DEFINITION. Meanings of the GCL, SHAPER and QSTAT commands and of the gate events (07 R176 to R207). -/

namespace Sys2Proof.Machine

/-! ### GCL commands -/

/-- PORT of the front ports: 26 to 31 refuse. -/
def fFront : Fld := fNeed 35 31 (· ≤ 25)

/-- PORT of word 1. -/
def Req.port1 (r : Req) : Nat := fld (r.word 1) 35 31

/-- The port of a GCL write is PENDING or COPY (07 R179). -/
def gclBusy : Req → State → Bool := fun r s =>
  let m := (s.gate (Req.port1 r)).mode
  s.copying || m == .pending || m == .copying

/-- 0x901 GCL.CONFIG_WRITE (07 R192). -/
def gclConfigWrite : CmdSpec where
  opcode := 0x901
  lenOk := lenIs 5
  locked := policyLocked
  busy := gclBusy
  fields := fun _ _ =>
    [[fFront, fAny 30 30, fRange 29 19 1 1024, fAny 18 7], [fRange 29 0 1000 999999999], [fMax 19 0 1000000], wAny, wTimeLo]
  run := fun r s =>
    let c : ListCfg :=
      { gateEn := r.bit 1 30, len := r.fld 1 29 19, guard := r.fld 1 18 7, cycle := r.fld 2 29 0, ext := r.fld 3 19 0,
        base := of72 (r.word 4) (r.word 5) }
    { st := s.modGate (Req.port1 r) fun g => g.modAdmin fun b => { b with cfg := c } }

/-- Meaning of GCL_CONFIG_WRITE. -/
def execGclConfigWrite (r : Req) (s : State) : Res := .next (mailbox gclConfigWrite r s)

/-- 0x902 GCL.LIST_WRITE (07 R193). -/
def gclListWrite : CmdSpec where
  opcode := 0x902
  lenOk := fun n => decide (2 ≤ n ∧ n ≤ 255)
  locked := policyLocked
  busy := gclBusy
  fields := fun r _ =>
    [fFront, fAny 30 21] :: (r.words.drop 1).map fun _ => [fTo 35 34 (· == 3) 0 2, fAny 33 28, fMin 27 0 8]
  run := fun r s =>
    let st := r.fld 1 30 21
    let ws := r.words.drop 1
    if 1024 < st + ws.length then .fail s .refused
    else { st := s.modGate (Req.port1 r) fun g => g.modAdmin fun b => { b with entries := Tbl.puts zeroW b.entries st ws } }

/-- Meaning of GCL_LIST_WRITE. -/
def execGclListWrite (r : Req) (s : State) : Res := .next (mailbox gclListWrite r s)

/-- 0x903 GCL.PATTERN_WRITE (07 R194). -/
def gclPatternWrite : CmdSpec where
  opcode := 0x903
  lenOk := fun n => decide (2 ≤ n ∧ n ≤ 65)
  locked := policyLocked
  busy := gclBusy
  fields := fun r _ => [fFront, fAny 30 25] :: (r.words.drop 1).map fun _ => [fAny 31 0]
  run := fun r s =>
    let st := r.fld 1 30 25
    let ws := r.words.drop 1
    if 64 < st + ws.length then .fail s .refused
    else { st := s.modGate (Req.port1 r) fun g => g.modAdmin fun b => { b with patterns := Tbl.puts zeroW b.patterns st ws } }

/-- Meaning of GCL_PATTERN_WRITE. -/
def execGclPatternWrite (r : Req) (s : State) : Res := .next (mailbox gclPatternWrite r s)

/-- The ports of a PORT_MASK, rising (07 R195). -/
def maskPorts (r : Req) : List Nat := maskList (r.fld 1 35 10) 26

/-- 0x904 GCL.COMMIT (07 R179 to R181, R195): TIMEOUT when the die of a port in the mask is absent and cannot arm. -/
def gclCommit : CmdSpec where
  opcode := 0x904
  lenOk := lenIs 1
  kinds := [3]
  locked := policyLocked
  busy := fun r s => (maskPorts r).any fun p =>
    let m := (s.gate p).mode
    m == .pending || m == .copying
  fields := fun _ _ => [[fNeed 35 10 (· ≠ 0)]]
  run := fun r s =>
    let ps := maskPorts r
    if ps.any fun p => !s.has (dieOfPort p).num then .fail s .timeout
    else
      let s1 := ps.foldl (fun t p => t.modGate p fun g => g.commit (g.admin.changeTime s.nowQ)) s
      { st := s1, payload := (ps.map fun p => words72 (timeOfQ (s1.gate p).ct)).flatten }

/-- Meaning of GCL_COMMIT. -/
def execGclCommit (r : Req) (s : State) : Res := .next (mailbox gclCommit r s)

/-- Whether GCL.CANCEL cancels a port (07 R179). -/
def cancellable (s : State) (p : Nat) : Bool := (s.gate p).mode == .pending && decide (s.nowQ + 80000 ≤ (s.gate p).ct)

/-- 0x905 GCL.CANCEL (07 R196). -/
def gclCancel : CmdSpec where
  opcode := 0x905
  lenOk := lenIs 1
  kinds := [3]
  locked := policyLocked
  fields := fun _ _ => [[fAny 35 10]]
  run := fun r s =>
    let ps := (maskPorts r).filter (cancellable s)
    { st := ps.foldl (fun t p => t.modGate p fun g => { g with mode := g.before, extend := none }) s,
      payload := [pack [(10, 26, maskOf ps)]] }

/-- Meaning of GCL_CANCEL. -/
def execGclCancel (r : Req) (s : State) : Res := .next (mailbox gclCancel r s)

/-- Words 1 to 5 of GCL.CONFIG_WRITE (07 R192). -/
def ListCfg.words (p : Nat) (c : ListCfg) : List Word :=
  [pack [(31, 5, p), (30, 1, b1 c.gateEn), (19, 11, c.len), (7, 12, c.guard)], pack [(0, 30, c.cycle)], pack [(0, 20, c.ext)]] ++
    words72 c.base

/-- The bank that BANK names: 0 operational, 1 admin (07 R197). -/
def GateSt.named (g : GateSt) (admin : Bool) : GateBank := if admin then g.admin else g.oper

/-- 0x906 GCL.READ (07 R197). -/
def gclRead : CmdSpec where
  opcode := 0x906
  lenOk := lenIs 1
  changes := fun _ => false
  fields := fun r _ =>
    let k := r.fld 1 29 28
    [[fFront, fAny 30 30, fNeed 29 28 (· ≠ 3),
      if k = 0 then fTo 27 18 (fun _ => true) 0 4 else fAny 27 18,
      if k = 0 then fTo 17 10 (fun _ => true) 0 4 else fIn 17 10 1 254]]
  run := fun r s =>
    let p := Req.port1 r
    let b := (s.gate p).named (r.bit 1 30)
    let st := r.fld 1 27 18
    let n := r.fld 1 17 10
    match r.fld 1 29 28 with
    | 0 => { st := s, payload := b.cfg.words p }
    | 1 => if 1024 < st + n then .fail s .refused else { st := s, payload := Tbl.gets zeroW b.entries st n }
    | _ => if 64 < st + n then .fail s .refused else { st := s, payload := Tbl.gets zeroW b.patterns st n }

/-- Meaning of GCL_READ. -/
def execGclRead (r : Req) (s : State) : Res := .next (mailbox gclRead r s)

/-- The code of a gate state (07 R198). -/
def GateMode.code : GateMode → Nat
  | .off => 0 | .running => 1 | .pending => 2 | .copying => 3

/-- 0x907 GCL.STATUS_READ (07 R198). -/
def gclStatusRead : CmdSpec where
  opcode := 0x907
  lenOk := lenIs 1
  changes := fun _ => false
  fields := fun _ _ => [[fFront]]
  run := fun r s =>
    let g := s.gate (Req.port1 r)
    { st := s,
      payload := [pack [(34, 2, g.mode.code), (33, 1, b1 g.hold), (32, 1, g.bank), (22, 10, g.entry)]] ++
        words72 (timeOfQ g.ct) ++ words72 (timeOfQ g.start.toNat) ++ [w36 g.gatesNow, w36 g.restarts] }

/-- Meaning of GCL_STATUS_READ. -/
def execGclStatusRead (r : Req) (s : State) : Res := .next (mailbox gclStatusRead r s)

/-- Lengths in quarter ns of the entries that run in a cycle, the last up to its end (07 R176). -/
def segLens (cyc : Nat) : List Nat → List Nat
  | [] => []
  | [o] => [cyc - o]
  | o :: p :: r => (p - o) :: segLens cyc (p :: r)

/-- Windows of a queue, as first entry, length and number of entries, from a list of (entry, length, open) that begins after a
closed entry (07 R199). -/
def windowsOf : Option (Nat × Nat × Nat) → List (Nat × Nat × Bool) → List (Nat × Nat × Nat)
  | none, [] => []
  | some w, [] => [w]
  | none, (i, l, b) :: r => if b then windowsOf (some (i, l, 1)) r else windowsOf none r
  | some w, (_, l, b) :: r => if b then windowsOf (some (w.1, w.2.1 + l, w.2.2 + 1)) r else w :: windowsOf none r

/-- The windows of queue `q` in a bank; an always open queue has the whole cycle (07 R199). -/
def GateBank.windows (b : GateBank) (segs : List (Nat × Nat)) (q : Nat) : List (Nat × Nat × Nat) :=
  let l := segs.map fun e => (e.1, e.2, inMask (b.gates e.1) q)
  if l.all fun e => e.2.2 then [(0, 4 * b.cfg.cycle, 1)]
  else
    let k := (l.takeWhile fun e => e.2.2).length
    windowsOf none (l.drop k ++ l.take k)

/-- Settings of a queue of a port. -/
def State.queueCfg (s : State) (p q : Nat) : QueueCfg := Tbl.get QueueCfg.dflt s.egr.queues (32 * p + q)

/-- The rate that GCL.CHECK uses: the current one, or the highest of the kind while the link is down (07 R199). -/
def State.checkRate (s : State) (p : Nat) : Nat :=
  if (s.port p).mode = .up then (s.port p).rateNow else (kindOfPort p).top

/-- Whether a window is shorter than the longest frame of its queue needs, in fifths of a quarter ns (07 R199). -/
def State.windowShort (s : State) (p q : Nat) (guard len : Nat) : Bool :=
  let bytes := (s.queueCfg p q).qmax + 30 + (s.port p).secy.adds
  decide (5 * len < 5 * 4 * (250 + guard + (s.port p).plcaWait p) + bytes * byteU (s.checkRate p))

/-- The four words of GCL.CHECK (07 R199). -/
def gclCheckWords (s : State) (p : Nat) (b : GateBank) : List Word :=
  let offs := b.offs
  let lens := segLens (4 * b.cfg.cycle) offs
  let segs := (List.range offs.length).zip lens
  let wins := (List.range 32).map fun q => b.windows segs q
  let shorts := (List.range 32).map fun q => ((wins.getD q []).filter fun w => s.windowShort p q b.cfg.guard w.2.1)
  let never := maskOf ((List.range 32).filter fun q => (wins.getD q []).isEmpty)
  let short := maskOf ((List.range 32).filter fun q => !(shorts.getD q []).isEmpty)
  let look := maskOf ((List.range 32).filter fun q => (wins.getD q []).any fun w => decide (8 < w.2.2))
  let first := ((shorts.flatten.map fun w => w.1).foldl (fun m e => match m with | none => some e | some x => some (min x e))
    (none : Option Nat)).getD 0
  let ops := (List.range b.cfg.len).map b.op
  let trunc := decide (b.cfg.cycle < ((List.range b.cfg.len).map b.interval).sum)
  [pack [(35, 1, b1 trunc), (34, 1, b1 (never != 0)), (33, 1, b1 (short != 0)),
         (32, 1, b1 (ops.contains 1 && !ops.contains 2)), (31, 1, b1 (look != 0)), (21, 10, first)],
   w36 never, w36 short, w36 look]

/-- 0x908 GCL.CHECK (07 R199). -/
def gclCheck : CmdSpec where
  opcode := 0x908
  lenOk := lenIs 1
  changes := fun _ => false
  fields := fun _ _ => [[fFront, fAny 30 30]]
  run := fun r s =>
    let p := Req.port1 r
    { st := s, payload := gclCheckWords s p ((s.gate p).named (r.bit 1 30)) }

/-- Meaning of GCL_CHECK. -/
def execGclCheck (r : Req) (s : State) : Res := .next (mailbox gclCheck r s)

/-! ### SHAPER commands -/

/-- Change the settings of a queue. -/
def State.modQueue (s : State) (p q : Nat) (f : QueueCfg → QueueCfg) : State :=
  s.modEgr fun e => { e with queues := Tbl.upd QueueCfg.dflt e.queues (32 * p + q) f }

/-- 0xA01 SHAPER.QUEUE_WRITE (07 R185, R200). -/
def shaperQueueWrite : CmdSpec where
  opcode := 0xA01
  lenOk := lenIs 2
  locked := policyLocked
  busy := copyBusy
  fields := fun r _ =>
    [[fAny 35 31, fAny 30 26, if 26 ≤ r.fld 1 35 31 then fTo 25 25 (fun _ => true) 0 4 else fAny 25 25, fAny 24 15,
      fRange 14 1 64 9216], [fMax 35 12 10000000]]
  run := fun r s =>
    { st := s.modQueue (Req.port1 r) (r.fld 1 30 26) fun c =>
        { c with cbs := r.bit 1 25, yellow := r.fld 1 24 15, qmax := r.fld 1 14 1, slope := r.fld 2 35 12 } }

/-- Meaning of SHAPER_QUEUE_WRITE. -/
def execShaperQueueWrite (r : Req) (s : State) : Res := .next (mailbox shaperQueueWrite r s)

/-- 0xA02 SHAPER.QUEUE_READ (07 R201). -/
def shaperQueueRead : CmdSpec where
  opcode := 0xA02
  lenOk := lenIs 1
  changes := fun _ => false
  fields := fun _ _ => [[fAny 35 31, fAny 30 26]]
  run := fun r s =>
    let p := Req.port1 r
    let q := r.fld 1 30 26
    let c := s.queueCfg p q
    { st := s,
      payload := [pack [(31, 5, p), (26, 5, q), (25, 1, b1 c.cbs), (15, 10, c.yellow), (1, 14, c.qmax)], pack [(12, 24, c.slope)],
        pack [(18, 18, ofSigned 18 (c.credit / 1024))]] }

/-- Meaning of SHAPER_QUEUE_READ. -/
def execShaperQueueRead (r : Req) (s : State) : Res := .next (mailbox shaperQueueRead r s)

/-- 0xA03 SHAPER.PREEMPT_WRITE (07 R202). -/
def shaperPreemptWrite : CmdSpec where
  opcode := 0xA03
  lenOk := lenIs 1
  locked := policyLocked
  busy := copyBusy
  fields := fun _ _ => [[fAny 35 4]]
  run := fun r s => { st := s.modEgr fun e => { e with preempt := r.fld 1 35 4 } }

/-- Meaning of SHAPER_PREEMPT_WRITE. -/
def execShaperPreemptWrite (r : Req) (s : State) : Res := .next (mailbox shaperPreemptWrite r s)

/-- Whether a port has preemption (07 R171). -/
def preemptable (p : Nat) : Bool := decide (p ≤ 6 ∨ (13 ≤ p ∧ p ≤ 19))

/-- Verification starts anew at each link up and each SHAPER.MM_WRITE (07 R187). -/
def MmSt.restart (m : MmSt) : MmSt :=
  { m with attempts := 0, verify := if m.en && m.verifyEn then .initial else .disabled }

/-- 0xA04 SHAPER.MM_WRITE (07 R203). -/
def shaperMmWrite : CmdSpec where
  opcode := 0xA04
  lenOk := lenIs 1
  locked := policyLocked
  busy := copyBusy
  fields := fun r _ =>
    [[fFront, if preemptable (r.fld 1 35 31) then fAny 30 30 else fTo 30 30 (fun _ => true) 0 4, fAny 29 29, fRange 28 21 1 128,
      fAny 20 19]]
  run := fun r s =>
    let p := Req.port1 r
    { st := s.modMm p fun m =>
        ({ m with en := r.bit 1 30, verifyEn := r.bit 1 29, verifyMs := r.fld 1 28 21, addFrag := r.fld 1 20 19 }).restart }

/-- Meaning of SHAPER_MM_WRITE. -/
def execShaperMmWrite (r : Req) (s : State) : Res := .next (mailbox shaperMmWrite r s)

/-- The code of a verification state (07 R204). -/
def VerifyMode.code : VerifyMode → Nat
  | .disabled => 0 | .initial => 1 | .verifying => 2 | .succeeded => 3 | .failed => 4

/-- Preemption is active at a port (07 R187). -/
def State.mmActive (s : State) (p : Nat) : Bool :=
  let m := s.mm p
  m.en && (s.port p).mode == .up && (!m.verifyEn || m.verify == .succeeded)

/-- 0xA05 SHAPER.MM_READ (07 R204). -/
def shaperMmRead : CmdSpec where
  opcode := 0xA05
  lenOk := lenIs 1
  changes := fun r => r.bit 1 30
  fields := fun _ _ => [[fFront, fAny 30 30]]
  run := fun r s =>
    let p := Req.port1 r
    let m := s.mm p
    { st := if r.bit 1 30 then s.modMm p fun m =>
              { m with fragTx := 0, fragRx := 0, assyOk := 0, assyErr := 0, smdErr := 0, holds := 0 } else s,
      payload := [pack [(31, 5, p), (30, 1, b1 m.en), (29, 1, b1 m.verifyEn), (21, 8, m.verifyMs), (19, 2, m.addFrag)],
        pack [(33, 3, m.verify.code), (32, 1, b1 (s.mmActive p)), (31, 1, b1 (s.gate p).hold)], pack [(4, 32, s.egr.preempt)]] ++
        words72 m.fragTx ++ words72 m.fragRx ++ words72 m.assyOk ++
        [pack [(18, 18, m.assyErr), (0, 18, m.smdErr)], w36 m.holds] }

/-- Meaning of SHAPER_MM_READ. -/
def execShaperMmRead (r : Req) (s : State) : Res := .next (mailbox shaperMmRead r s)

/-! ### QSTAT commands -/

/-- Counters of a queue of an output. -/
def State.queueCtr (s : State) (d : Fab) (o q : Nat) : QueueCtr := Tbl.get QueueCtr.dflt (s.fab d).egr.queues (32 * o + q)

/-- Change the egress state of a die. -/
def State.modEd (s : State) (d : Fab) (f : EgressDyn → EgressDyn) : State := s.modFab d fun x => { x with egr := f x.egr }

/-- Change the counters of a queue of an output. -/
def State.modQctr (s : State) (d : Fab) (o q : Nat) (f : QueueCtr → QueueCtr) : State :=
  s.modEd d fun e => { e with queues := Tbl.upd QueueCtr.dflt e.queues (32 * o + q) f }

/-- Bytes that a queued frame counts in QUEUE_BYTES (07 R173). -/
def FrameSt.queueBytes (f : FrameSt) : Nat :=
  match f.desc with
  | some x => if x.lenValid then x.length else min f.bytes.length (32 * f.stored)
  | none => 0

/-- The frames queued at a queue of an output, with their copies (02 R32). -/
def FabSt.queued (q : FabSt) (o k : Nat) : List (Nat × FrameSt × Copy) :=
  (q.frames.map fun e => (e.2.copies.filter fun c => c.out == o && c.queue == k && c.mode == .queued).map fun c =>
    (e.1, e.2, c)).flatten

/-- QUEUE_BYTES (07 R173). -/
def FabSt.queueBytes (q : FabSt) (o k : Nat) : Nat := ((q.queued o k).map fun e => e.2.1.queueBytes).sum

/-- DEPTH_BYTES and DEPTH_FRAMES in one word (07 R191, R205). -/
def FabSt.depthWord (q : FabSt) (o k : Nat) : Word :=
  pack [(12, 24, min (2 ^ 24 - 1) (q.queueBytes o k)), (0, 12, min 4095 (q.queued o k).length)]

/-- OUTPUT: local indices 17 to 31 refuse (07, "QSTAT commands"). -/
def fOutput (hi lo : Nat) : Fld := fNeed hi lo (· ≤ 16)

/-- 0xB01 QSTAT.QUEUE_READ (07 R205). -/
def qstatQueueRead : CmdSpec where
  opcode := 0xB01
  lenOk := lenIs 1
  changes := fun r => r.bit 1 24
  fields := fun _ _ => [[fAny 35 35, fOutput 34 30, fAny 29 25, fAny 24 24]]
  run := fun r s =>
    let d := r.dieBit
    let o := r.fld 1 34 30
    let k := r.fld 1 29 25
    let c := s.queueCtr d o k
    { st := if r.bit 1 24 then s.modQctr d o k fun _ => { hwm := (s.fab d).queueBytes o k } else s,
      payload := [(s.fab d).depthWord o k, pack [(12, 24, c.hwm)]] ++ words72 c.txFrames ++ words72 c.txOctets ++
        [w36 c.delayMin, w36 c.delayMax, w36 c.sduExceeded, w36 c.yellowDrops, w36 c.txOverrun, w36 c.creditClamps] }

/-- Meaning of QSTAT_QUEUE_READ. -/
def execQstatQueueRead (r : Req) (s : State) : Res := .next (mailbox qstatQueueRead r s)

/-- One sampler of a die. -/
def State.sampler (s : State) (d : Fab) (i : Nat) : Sampler := Tbl.get Sampler.dflt (s.fab d).egr.samplers i

/-- Change one sampler. -/
def State.modSampler (s : State) (d : Fab) (i : Nat) (f : Sampler → Sampler) : State :=
  s.modEd d fun e => { e with samplers := Tbl.upd Sampler.dflt e.samplers i f }

/-- 0xB02 QSTAT.SAMPLER_WRITE (07 R206). -/
def qstatSamplerWrite : CmdSpec where
  opcode := 0xB02
  lenOk := lenIs 4
  fields := fun _ _ =>
    [[fAny 35 35, fAny 34 33, fAny 32 32, fOutput 31 27, fAny 26 22, fRange 21 2 1 1000000], [fAny 35 8], [fMin 35 16 1],
     [fAny 35 8]]
  run := fun r s =>
    { st := s.modSampler r.dieBit (r.fld 1 34 33) fun _ =>
        { enable := r.bit 1 32, output := r.fld 1 31 27, queue := r.fld 1 26 22, period := r.fld 1 21 2, binBase := r.fld 2 35 8,
          binWidth := r.fld 3 35 16, limit := r.fld 4 35 8, lastAt := s.tim.ticks } }

/-- Meaning of QSTAT_SAMPLER_WRITE. -/
def execQstatSamplerWrite (r : Req) (s : State) : Res := .next (mailbox qstatSamplerWrite r s)

/-- Words 1 to 4 of QSTAT.SAMPLER_WRITE (07 R206). -/
def Sampler.words (d : Fab) (i : Nat) (c : Sampler) : List Word :=
  [pack [(35, 1, d.bit), (33, 2, i), (32, 1, b1 c.enable), (27, 5, c.output), (22, 5, c.queue), (2, 20, c.period)],
   pack [(8, 28, c.binBase)], pack [(16, 20, c.binWidth)], pack [(8, 28, c.limit)]]

/-- 0xB03 QSTAT.SAMPLER_READ (07 R207). -/
def qstatSamplerRead : CmdSpec where
  opcode := 0xB03
  lenOk := lenIs 1
  changes := fun r => r.bit 1 32
  fields := fun _ _ => [[fAny 35 35, fAny 34 33, fAny 32 32]]
  run := fun r s =>
    let d := r.dieBit
    let i := r.fld 1 34 33
    let c := s.sampler d i
    { st := if r.bit 1 32 then s.modSampler d i fun c => { c with bins := [], above := 0, samples := [] } else s,
      payload := c.words d i ++ (Tbl.gets zeroAt c.bins 0 16).map w36 ++ [w36 c.above, pack [(30, 6, c.samples.length)]] ++
        c.samples ++ List.replicate (32 - c.samples.length) 0 }

/-- Meaning of QSTAT_SAMPLER_READ. -/
def execQstatSamplerRead (r : Req) (s : State) : Res := .next (mailbox qstatSamplerRead r s)

/-! ### Gate events -/

/-- GCL_ENTRY_START: the gate timer reaches the next entry start of a port (07 R176). -/
def State.gateEntry (s : State) (p : Nat) : State :=
  let g := s.gate p
  let x := g.oper.after g.oper.offs g.start g.entry
  if p ≤ 25 ∧ g.mode ≠ .off ∧ g.oper.cfg.gateEn ∧ ¬ (g.mode = .pending ∧ g.stop ≤ x.2.2) then
    ((s.advQ x.2.2.toNat).modGate p fun g => g.takeEntry x.1 x.2.1).holdCount p
  else s

/-- Meaning of GCL_ENTRY_START. -/
def execGclEntryStart (port : Nat) (s : State) : Res := .next (s.gateEntry port)

/-- Meaning of GCL_CHANGE_TIME: the time-of-day reaches a pending CT (07 R179). -/
def execGclChangeTime (port : Nat) (s : State) : Res :=
  .next (if port ≤ 25 ∧ (s.gate port).mode = .pending then (s.advQ (s.gate port).ct).gateChange port else s)

/-- Meaning of GCL_COPY_COMPLETE: the operational bank has been copied into the admin bank (07 R179). -/
def execGclCopyComplete (port : Nat) (s : State) : Res :=
  .next (if port ≤ 25 ∧ (s.gate port).mode = .copying then
    s.modGate port fun g =>
      { g.modAdmin fun _ => g.oper with mode := if g.oper.cfg.gateEn then .running else .off }
  else s)

/-! ### MAC merge and sampler events -/

/-- Meaning of MM_VERIFY_TIMER: VERIFY_MS pass; a verify mPacket is sent, or the third stays unanswered (07 R187). -/
def execMmVerifyTimer (port : Nat) (s : State) : Res :=
  let m := s.mm port
  .next (if port ≤ 25 ∧ m.en ∧ m.verifyEn ∧ (s.port port).mode = .up ∧ (m.verify = .initial ∨ m.verify = .verifying) then
    if m.attempts < 3 then
      (s.modMm port fun m => { m with verify := .verifying, attempts := m.attempts + 1 }).emit (.mPacket port true)
    else (s.modMm port fun m => { m with verify := .failed }).raiseDie (dieOfPort port) .mmVerifyFail
  else s)

/-- Meaning of MM_VERIFY_RX: a verify mPacket is answered while PREEMPT_EN is 1; a respond mPacket completes verification (07 R187). -/
def execMmVerifyRx (port : Nat) (respond : Bool) (s : State) : Res :=
  let m := s.mm port
  .next (if port ≤ 25 ∧ m.en then
    if respond then
      if m.verify = .verifying then s.modMm port fun m => { m with verify := .succeeded } else s
    else s.emit (.mPacket port false)
  else s)

/-- Meaning of SAMPLER_PERIOD: a sampler records the depth of its queue (07 R191). -/
def execSamplerPeriod (die : Fab) (i : Nat) (s : State) : Res :=
  let c := s.sampler die i
  .next (if i ≤ 3 ∧ c.enable then
    let s1 := s.advTick (c.lastAt + ticksUs c.period)
    s1.modSampler die i fun c =>
      { c with samples := (c.samples ++ [(s1.fab die).depthWord c.output c.queue]).drop (c.samples.length + 1 - 32),
               lastAt := s1.tim.ticks }
  else s)

end Sys2Proof.Machine
end

