-- ==== Sys2Proof/Machine/Zones.lean ====
section
/-! DEFINITION. Zones, the permission matrix and the meter algorithm (06 R143 to R157). -/

namespace Sys2Proof.Machine

/-- Zone of a port (06 R143). -/
def ZoneSt.portZone (z : ZoneSt) (p : Nat) : Nat := Tbl.get zeroAt z.port p

/-- Zone of a legacy channel (06 R143). -/
def ZoneSt.chanZone (z : ZoneSt) (c : Nat) : Nat := Tbl.get zeroAt z.chan c

/-- PERMIT of a zone pair; a zone's own pair is always 1 (06 R147). -/
def ZoneSt.permits (z : ZoneSt) (i j : Nat) : Bool := i == j || inMask (Tbl.get rowDflt z.permit i) j

/-- The matrix of sixteen rows (06 R148). -/
def ZoneSt.setRows (z : ZoneSt) (rows : List Nat) : ZoneSt := { z with permit := Tbl.puts rowDflt [] 0 rows }

/-! ### Meters -/

/-- Green, yellow and red (06 R154). -/
inductive Colour where
  | green | yellow | red
deriving DecidableEq, Repr

/-- 1/1 024 bytes, and the rest in 1/62 500 of that, that a rate in units of 1 000 bytes per second gives in `dt` quarter ns
beside a rest kept before (06 R153). -/
def refill (rate dt rest : Nat) : Nat × Nat := ((rate * dt * 16 + rest) / 62500, (rate * dt * 16 + rest) % 62500)

/-- A meter refilled to time `t` (06 R154, its first four lines). -/
def MeterDyn.refilled (m : MeterDyn) (c : MeterCfg) (t : Nat) : MeterDyn :=
  let dt := t - m.last
  let a := refill c.cir dt m.tcRem
  let e := refill c.eir dt m.teRem
  let tc := m.tc + a.1
  let excess := tc - 1024 * c.cbs
  { m with last := t, tc := min tc (1024 * c.cbs), tcRem := a.2,
           te := min (1024 * c.ebs) (m.te + e.1 + (if c.cf then excess else 0)), teRem := e.2 }

/-- A meter judges a frame of charge `b` bytes with input colour `i` at time `t` (06 R154). -/
def MeterDyn.judge (m0 : MeterDyn) (c : MeterCfg) (b : Nat) (i : Colour) (t : Nat) : MeterDyn × Colour :=
  let m := m0.refilled c t
  if m.mar then ({ m with red := add72 m.red 1 }, .red)
  else if (!c.cm || i == .green) && decide (1024 * b ≤ m.tc) then
    ({ m with tc := m.tc - 1024 * b, green := add72 m.green 1 }, .green)
  else if i != .red && decide (1024 * b ≤ m.te) then
    ({ m with te := m.te - 1024 * b, yellow := add72 m.yellow 1 }, .yellow)
  else ({ m with red := add72 m.red 1, mar := c.marEn }, .red)

/-- Bytes returned to the bucket that was charged, up to its size (06 R155). -/
def MeterDyn.giveBack (m : MeterDyn) (c : MeterCfg) (committed : Bool) (b : Nat) : MeterDyn :=
  if committed then { m with tc := min (1024 * c.cbs) (m.tc + 1024 * b) }
  else { m with te := min (1024 * c.ebs) (m.te + 1024 * b) }

/-- A meter as written: both buckets full, MARK_ALL_RED clear; its counters go on (06 R153). -/
def MeterDyn.filled (m : MeterDyn) (c : MeterCfg) (t : Nat) : MeterDyn :=
  { m with tc := 1024 * c.cbs, tcRem := 0, te := 1024 * c.ebs, teRem := 0, last := t, mar := false }

/-- Change the zone state of a die. -/
def State.modZd (s : State) (d : Fab) (f : ZoneDyn → ZoneDyn) : State := s.modFab d fun q => { q with zon := f q.zon }

/-- A filter of a die changes. -/
def ZoneDyn.modFilter (z : ZoneDyn) (i : Nat) (f : FilterDyn → FilterDyn) : ZoneDyn :=
  { z with filters := Tbl.upd FilterDyn.dflt z.filters i f }

/-- A meter of a die changes. -/
def ZoneDyn.modMeter (z : ZoneDyn) (i : Nat) (f : MeterDyn → MeterDyn) : ZoneDyn :=
  { z with meters := Tbl.upd MeterDyn.dflt z.meters i f }

/-- State of a filter on a die. -/
def State.filterDyn (s : State) (d : Fab) (i : Nat) : FilterDyn := Tbl.get FilterDyn.dflt (s.fab d).zon.filters i

/-- State of a meter on a die. -/
def State.meterDyn (s : State) (d : Fab) (i : Nat) : MeterDyn := Tbl.get MeterDyn.dflt (s.fab d).zon.meters i

/-- Configuration of a filter. -/
def ZoneSt.filter (z : ZoneSt) (i : Nat) : FilterCfg := Tbl.get FilterCfg.dflt z.filters i

/-- Configuration of a meter. -/
def ZoneSt.meter (z : ZoneSt) (i : Nat) : MeterCfg := Tbl.get MeterCfg.dflt z.meters i

end Sys2Proof.Machine
end

