-- ==== Sys2Proof/Machine/ZoneCmds.lean ====
section
/-! DEFINITION. Meanings of the ZONE and METER commands (06 R159 to R170). -/

namespace Sys2Proof.Machine

/-! ### ZONE commands -/

/-- 0x701 ZONE.MAP_WRITE (06 R159). -/
def zoneMapWrite : CmdSpec where
  opcode := 0x701
  lenOk := lenIs 1
  locked := policyLocked
  busy := copyBusy
  fields := fun r _ => [[fAny 35 35, if r.bit 1 35 then fNeed 34 30 (· ≤ 17) else fAny 34 30, fAny 29 26]]
  run := fun r s =>
    let i := r.fld 1 34 30
    let z := r.fld 1 29 26
    { st := s.modZon fun q =>
        if r.bit 1 35 then { q with chan := Tbl.put zeroAt q.chan i z } else { q with port := Tbl.put zeroAt q.port i z } }

/-- Meaning of ZONE_MAP_WRITE. -/
def execZoneMapWrite (r : Req) (s : State) : Res := .next (mailbox zoneMapWrite r s)

/-- Eight zones in one word, the first in bits 31:28 (06 R160). -/
def zoneWord (f : Nat → Nat) (k : Nat) : Word :=
  pack ((List.range 8).map fun n => (28 - 4 * n, 4, f (8 * k + n)))

/-- The seven words of ZONE.MAP_READ (06 R160). -/
def ZoneSt.mapWords (z : ZoneSt) : List Word :=
  (List.range 4).map (zoneWord z.portZone) ++ (List.range 2).map (zoneWord z.chanZone) ++
    [pack [(28, 4, z.chanZone 16), (24, 4, z.chanZone 17)]]

/-- 0x702 ZONE.MAP_READ (06 R160). -/
def zoneMapRead : CmdSpec where
  opcode := 0x702
  lenOk := lenIs 0
  changes := fun _ => false
  run := fun _ s => { st := s, payload := s.zon.mapWords }

/-- Meaning of ZONE_MAP_READ. -/
def execZoneMapRead (r : Req) (s : State) : Res := .next (mailbox zoneMapRead r s)

/-- A row of the matrix: PERMIT(i, i) of value 0 is clamped to 1 (06 R161). -/
def rowFields (i : Nat) : List Fld :=
  (List.range 16).map fun k =>
    if 15 - k = i then fTo (15 - k) (15 - k) (fun _ => true) 1 1 else fAny (15 - k) (15 - k)

/-- 0x703 ZONE.POLICY_WRITE (06 R148, R161): armed now; the response follows T. -/
def zonePolicyWrite : CmdSpec where
  opcode := 0x703
  lenOk := lenIs 16
  kinds := [3]
  locked := policyLocked
  busy := fun _ s => s.copying || s.tab.act.isSome || s.tab.retiring || s.tab.sweep
  fields := fun _ _ => (List.range 16).map rowFields
  run := fun r s => { st := s.startAct .policy r.path (r.words.map fun w => fld w 15 0), later := true }

/-- Meaning of ZONE_POLICY_WRITE. -/
def execZonePolicyWrite (r : Req) (s : State) : Res := .next (mailbox zonePolicyWrite r s)

/-- The sixteen rows in force (06 R162). -/
def ZoneSt.rowWords (z : ZoneSt) : List Word := (List.range 16).map fun i => w36 (Tbl.get rowDflt z.permit i)

/-- 0x704 ZONE.POLICY_READ (06 R162). -/
def zonePolicyRead : CmdSpec where
  opcode := 0x704
  lenOk := lenIs 0
  changes := fun _ => false
  run := fun _ s => { st := s, payload := s.zon.rowWords }

/-- Meaning of ZONE_POLICY_READ. -/
def execZonePolicyRead (r : Req) (s : State) : Res := .next (mailbox zonePolicyRead r s)

/-- 0x705 ZONE.GW_READ (06 R163). -/
def zoneGwRead : CmdSpec where
  opcode := 0x705
  lenOk := lenIs 1
  changes := fun _ => false
  fields := fun _ _ => [[fAny 35 22]]
  run := fun r s =>
    let i := r.fld 1 35 22
    let e := Tbl.get noneAt s.zon.gw i
    { st := s, payload := [pack [(22, 14, i), (21, 1, b1 e.isSome), (17, 4, e.getD 0)]] }

/-- Meaning of ZONE_GW_READ. -/
def execZoneGwRead (r : Req) (s : State) : Res := .next (mailbox zoneGwRead r s)

/-- 0x706 ZONE.STATS_READ (06 R164). -/
def zoneStatsRead : CmdSpec where
  opcode := 0x706
  lenOk := lenIs 1
  changes := fun r => r.bit 1 25
  fields := fun r _ =>
    [[fAny 35 35, fAny 34 34, if r.bit 1 34 then fTo 33 26 (fun _ => true) 0 4 else fAny 33 26, fAny 25 25]]
  run := fun r s =>
    let d := r.dieBit
    let i := r.fld 1 33 26
    let clr := r.bit 1 25
    if r.bit 1 34 then
      { st := if clr then s.modZd d fun z => { z with gwUnmapped := 0 } else s, payload := [w36 (s.fab d).zon.gwUnmapped] }
    else
      { st := if clr then s.modFab d fun q => { q with pairs := Tbl.upd PairCtr.dflt q.pairs i fun c => { c with denies := 0 } }
              else s,
        payload := [w36 (Tbl.get PairCtr.dflt (s.fab d).pairs i).denies] }

/-- Meaning of ZONE_STATS_READ. -/
def execZoneStatsRead (r : Req) (s : State) : Res := .next (mailbox zoneStatsRead r s)

/-! ### METER commands -/

/-- The five words of METER.WRITE (06 R165). -/
def MeterCfg.words (i : Nat) (c : MeterCfg) : List Word :=
  [pack [(26, 10, i), (25, 1, b1 c.cm), (24, 1, b1 c.cf), (23, 1, b1 c.deiMark), (22, 1, b1 c.marEn), (16, 6, c.overhead)],
   pack [(15, 21, c.cir)], pack [(15, 21, c.eir)], pack [(16, 20, c.cbs)], pack [(16, 20, c.ebs)]]

/-- 0x801 METER.WRITE (06 R153, R165). -/
def meterWrite : CmdSpec where
  opcode := 0x801
  lenOk := lenIs 5
  locked := policyLocked
  busy := copyBusy
  fields := fun _ _ =>
    [[fAny 35 26, fAny 25 25, fAny 24 24, fAny 23 23, fAny 22 22, fAny 21 16], [fMax 35 15 1250000], [fMax 35 15 1250000],
     [fAny 35 16], [fAny 35 16]]
  run := fun r s =>
    let i := r.fld 1 35 26
    let c : MeterCfg :=
      { cm := r.bit 1 25, cf := r.bit 1 24, deiMark := r.bit 1 23, marEn := r.bit 1 22, overhead := r.fld 1 21 16,
        cir := r.fld 2 35 15, eir := r.fld 3 35 15, cbs := r.fld 4 35 16, ebs := r.fld 5 35 16 }
    let f : ZoneDyn → ZoneDyn := fun z => z.modMeter i fun m => m.filled c s.nowQ
    { st := ((s.modZon fun q => { q with meters := Tbl.put MeterCfg.dflt q.meters i c }).modZd .west f).modZd .east f }

/-- Meaning of METER_WRITE. -/
def execMeterWrite (r : Req) (s : State) : Res := .next (mailbox meterWrite r s)

/-- 0x802 METER.READ (06 R166). -/
def meterRead : CmdSpec where
  opcode := 0x802
  lenOk := lenIs 1
  changes := fun _ => false
  fields := fun _ _ => [[fAny 35 35, fAny 34 25]]
  run := fun r s =>
    let i := r.fld 1 34 25
    let c := s.zon.meter i
    let m := (s.meterDyn r.dieBit i).refilled c s.nowQ
    { st := s, payload := c.words i ++ [pack [(16, 20, m.tc / 1024), (15, 1, b1 m.mar)], pack [(16, 20, m.te / 1024)]] }

/-- Meaning of METER_READ. -/
def execMeterRead (r : Req) (s : State) : Res := .next (mailbox meterRead r s)

/-- The two words of METER.FILTER_WRITE (06 R167). -/
def FilterCfg.words (i : Nat) (c : FilterCfg) : List Word :=
  [pack [(26, 10, i), (25, 1, b1 c.valid), (24, 1, b1 c.pcpWild), (21, 3, c.pcp), (7, 14, c.stream), (6, 1, b1 c.portWild),
         (1, 5, c.port), (0, 1, b1 c.blockOversize)],
   pack [(22, 14, c.maxSdu), (21, 1, b1 c.meterEn), (11, 10, c.meter)]]

/-- 0x803 METER.FILTER_WRITE (06 R167). -/
def meterFilterWrite : CmdSpec where
  opcode := 0x803
  lenOk := lenIs 2
  locked := policyLocked
  busy := copyBusy
  fields := fun r _ =>
    [[fAny 35 26, fAny 25 25, fAny 24 24, fTo 23 21 (fun _ => r.bit 1 24) 0 5, fAny 20 7, fAny 6 6,
      fTo 5 1 (fun _ => r.bit 1 6) 0 5, fAny 0 0],
     [{ hi := 35, lo := 22, clamp := fun v => if 1 ≤ v ∧ v ≤ 63 then some (64, 1) else if 9216 < v then some (9216, 2) else none },
      fAny 21 21, fAny 20 11]]
  run := fun r s =>
    let i := r.fld 1 35 26
    let c : FilterCfg :=
      { valid := r.bit 1 25, pcpWild := r.bit 1 24, pcp := r.fld 1 23 21, stream := r.fld 1 20 7, portWild := r.bit 1 6,
        port := r.fld 1 5 1, blockOversize := r.bit 1 0, maxSdu := r.fld 2 35 22, meterEn := r.bit 2 21, meter := r.fld 2 20 11 }
    let f : ZoneDyn → ZoneDyn := fun z => z.modFilter i fun x => { x with blocked := false }
    { st := ((s.modZon fun q => { q with filters := Tbl.put FilterCfg.dflt q.filters i c }).modZd .west f).modZd .east f }

/-- Meaning of METER_FILTER_WRITE. -/
def execMeterFilterWrite (r : Req) (s : State) : Res := .next (mailbox meterFilterWrite r s)

/-- 0x804 METER.FILTER_READ (06 R168). -/
def meterFilterRead : CmdSpec where
  opcode := 0x804
  lenOk := lenIs 1
  changes := fun _ => false
  fields := fun _ _ => [[fAny 35 35, fAny 34 25]]
  run := fun r s =>
    let i := r.fld 1 34 25
    { st := s, payload := (s.zon.filter i).words i ++ [pack [(35, 1, b1 (s.filterDyn r.dieBit i).blocked)]] }

/-- Meaning of METER_FILTER_READ. -/
def execMeterFilterRead (r : Req) (s : State) : Res := .next (mailbox meterFilterRead r s)

/-- 0x805 METER.STATS_READ (06 R169). -/
def meterStatsRead : CmdSpec where
  opcode := 0x805
  lenOk := lenIs 1
  changes := fun r => r.bit 1 23
  fields := fun _ _ => [[fAny 35 35, fAny 34 34, fAny 33 24, fAny 23 23]]
  run := fun r s =>
    let d := r.dieBit
    let i := r.fld 1 33 24
    let clr := r.bit 1 23
    if r.bit 1 34 then
      let f := s.filterDyn d i
      { st := if clr then s.modZd d fun z => z.modFilter i fun x =>
                { x with matched := 0, sduDrops := 0, blockedDrops := 0, sduLate := 0 } else s,
        payload := words72 f.matched ++ [w36 f.sduDrops, w36 f.blockedDrops, w36 f.sduLate] }
    else
      let m := s.meterDyn d i
      { st := if clr then s.modZd d fun z => z.modMeter i fun x => { x with green := 0, yellow := 0, red := 0 } else s,
        payload := words72 m.green ++ words72 m.yellow ++ words72 m.red }

/-- Meaning of METER_STATS_READ. -/
def execMeterStatsRead (r : Req) (s : State) : Res := .next (mailbox meterStatsRead r s)

/-- 0x806 METER.UNBLOCK (06 R170). -/
def meterUnblock : CmdSpec where
  opcode := 0x806
  lenOk := lenIs 1
  busy := copyBusy
  fields := fun _ _ => [[fAny 35 35, fAny 34 25]]
  run := fun r s =>
    let i := r.fld 1 34 25
    let f : ZoneDyn → ZoneDyn := fun z =>
      if r.bit 1 35 then z.modFilter i fun x => { x with blocked := false } else z.modMeter i fun m => { m with mar := false }
    { st := (s.modZd .west f).modZd .east f }

/-- Meaning of METER_UNBLOCK. -/
def execMeterUnblock (r : Req) (s : State) : Res := .next (mailbox meterUnblock r s)

end Sys2Proof.Machine
end

