-- ==== Sys2Proof/Machine/Frames.lean ====
section
/-! DEFINITION. Frames inside a fabric die: their records, the check sequence, rates and ingress (02 R25, 08 R224, 09 R240, R253, 17 R494). -/

namespace Sys2Proof.Machine

/-! ### Records -/

/-- A frame of a die by its number. -/
def FabSt.frame (q : FabSt) (fid : Nat) : Option FrameSt := q.frames.lookup fid

/-- Change a frame of a die. -/
def State.modFrame (s : State) (d : Fab) (fid : Nat) (f : FrameSt → FrameSt) : State :=
  s.modFab d fun q => { q with frames := q.frames.map fun e => if e.1 = fid then (e.1, f e.2) else e }

/-- Remove a frame's record. -/
def State.forget (s : State) (d : Fab) (fid : Nat) : State :=
  s.modFab d fun q => { q with frames := q.frames.filter fun e => e.1 != fid }

/-- Add a frame to a die; its number is the die's next. -/
def State.addFrame (s : State) (d : Fab) (f : FrameSt) : State × Nat :=
  let n := (s.fab d).nextFid
  (s.modFab d fun q => { q with frames := q.frames ++ [(n, f)], nextFid := n + 1 }, n)

/-- Change one copy of a frame. -/
def FrameSt.modCopy (f : FrameSt) (cid : Nat) (g : Copy → Copy) : FrameSt :=
  { f with copies := f.copies.map fun c => if c.cid = cid then g c else c }

/-- One copy of a frame. -/
def FrameSt.copy (f : FrameSt) (cid : Nat) : Option Copy := f.copies.find? fun c => c.cid == cid

/-! ### The check sequence -/

/-- One step of the CRC-32 register of IEEE 802.3, reflected (PRESUMED, log 16). -/
def crc32Bit (c : Nat) : Nat := if c % 2 = 1 then Nat.xor (c / 2) 0xEDB88320 else c / 2

/-- The CRC-32 register after one byte. -/
def crc32Byte (c : Nat) (b : Byte) : Nat := Nat.repeat crc32Bit 8 (Nat.xor c b.toNat)

/-- CRC-32 of a list of bytes (PRESUMED, log 16). -/
def crc32 (bs : List Byte) : Nat := Nat.xor (bs.foldl crc32Byte 0xFFFFFFFF) 0xFFFFFFFF

/-- The four FCS bytes of a frame's bytes before it. -/
def fcsOf (bs : List Byte) : List Byte := leBytes 4 (crc32 bs)

/-- A frame's bytes without its FCS. -/
def bodyOf (bs : List Byte) : List Byte := bs.take (bs.length - 4)

/-- Whether a frame ends with its FCS. -/
def fcsRight (bs : List Byte) : Bool := decide (5 ≤ bs.length) && bs.drop (bs.length - 4) == fcsOf (bodyOf bs)

/-- The CRC-8 of a stacking header: polynomial 0x07, initial value 0 (17 R494). -/
def crc8 (bs : List Byte) : Nat :=
  bs.foldl (fun c b => Nat.repeat (fun c => if 128 ≤ c then Nat.xor (c * 2 % 256) 7 else c * 2 % 256) 8 (Nat.xor c b.toNat)) 0

/-! ### Rates -/

/-- Time of `n` bytes at the current rate of a port, in fifths of a quarter ns; ports 26 to 31 at 2, 15.75 and 4 Gb/s (01 R17, 02 R35). -/
def State.bytesU (s : State) (p n : Nat) : Nat :=
  if p ≤ 25 then n * byteU (s.port p).rateNow else if p ≤ 27 then n * 80 else if p ≤ 29 then n * 640 / 63 else n * 40

/-- Length of a frame as the device handles it: cut after byte 9 216 (02 R39). -/
def FrameSt.len (f : FrameSt) : Nat := min 9216 f.bytes.length

/-- Fabric words of a frame (02 R25). -/
def FrameSt.words (f : FrameSt) : Nat := ceilDiv f.len 32

/-- Instant at which the last byte is received, quarter ns of time-of-day. -/
def State.rxEnd (s : State) (f : FrameSt) : Nat := f.tsQ + s.bytesU f.inPort f.bytes.length / 5

/-! ### Ingress -/

/-- A counter of a front port steps; COUNT_SAT of its die when it saturates (00 R4). -/
def State.portTick (s : State) (p : Nat) (get : PortSt → Nat) (set : PortSt → Nat → PortSt) : State :=
  let old := get (s.port p)
  (s.modPort p fun c => set c (sat36 (get c) 1)).satRaise old 1 fun t => t.raiseDie (dieOfPort p) .countSat

/-- Destination address, source address and EtherType of a frame without a tag. -/
def dmacOf (bs : List Byte) : Nat := beVal (slice bs 0 6)
/-- The two bytes after the source address. -/
def typeOf (bs : List Byte) : Nat := beVal (slice bs 12 2)

/-- A frame without its VLAN tags, so that its last EtherType before the payload follows its source address (04, field ETHERTYPE;
log 118). -/
def untagged : Nat → List Byte → List Byte
  | 0, bs => bs
  | n + 1, bs => if typeOf bs = 0x8100 ∨ typeOf bs = 0x88A8 then untagged n (bs.take 12 ++ bs.drop 16) else bs

/-- The last EtherType of a frame before its payload (04, field ETHERTYPE; log 118). -/
def etherOf (bs : List Byte) : Nat := typeOf (untagged 8 bs)

/-- A gPTP frame that is never forwarded (08 R224; log 118). -/
def isGptp (bs : List Byte) : Bool := dmacOf bs == 0x0180C200000E && etherOf bs == 0x88F7

/-- The destination address of stack-control and bridge frames (17 R499). -/
def stackDmac : Nat := 0x034C41000001

/-- Whether a front port is a Hem link (17 R493). -/
def State.isHem (s : State) (p : Nat) : Bool := s.sys.hem && (p == 2 || p == 15)

/-- Count an error of a stacking header (17 R495). -/
def State.hdrError (s : State) (p : Nat) : State :=
  let old := (Tbl.get HemCtr.dflt s.stk.hems p).hdrErrors
  (s.modStk fun k => { k with hems := Tbl.upd HemCtr.dflt k.hems p fun c => { c with hdrErrors := sat36 c.hdrErrors 1 } }).satRaise old 1
    fun t => t.raiseDie (dieOfPort p) .countSat

/-- Ingress MACsec: which frames are delivered, and the counters (09 R253, R264). -/
def State.macsecRx (s : State) (p : Nat) (sec : SecRx) (bytes : List Byte) : State × Bool :=
  let y := (s.port p).secy
  let modY (f : SecySt → SecySt) : State := s.modPort p fun c => { c with secy := f c.secy }
  if !y.enable || etherOf bytes == 0x888E || isGptp bytes then (s, true)
  else
    let bad (s1 : State) : State × Bool := (s1, y.validate == 1)
    if y.validate = 0 ∧ sec ≠ .clear then (modY fun y => { y with inNotValid := sat36 y.inNotValid 1 }, false)
    else
      match sec with
      | .valid => (modY fun y => { y with inOk := add72 y.inOk 1 }, true)
      | .clear => if y.validate = 0 then (s, true) else bad (modY fun y => { y with inUntagged := sat36 y.inUntagged 1 })
      | .late => if y.replay then bad (modY fun y => { y with inLate := sat36 y.inLate 1 }) else (modY fun y => { y with inOk := add72 y.inOk 1 }, true)
      | .noSa => bad (modY fun y => { y with inNoSa := sat36 y.inNoSa 1 })
      | .invalid =>
        if y.validate = 1 then (modY fun y => { y with inInvalid := sat36 y.inInvalid 1 }, true)
        else (modY fun y => { y with inNotValid := sat36 y.inNotValid 1 }, false)

/-- A stack-control frame of this package that has come back around a ring (17 R495). -/
def ownControl (b : List Byte) : Bool := beVal (slice b 19 5) % 2 ^ 36 == (Config.uidWord 1).toNat

/-- A frame for the bridge engine waits there until it is processed (17 R495). -/
def State.toBridge (s : State) (p ty src : Nat) (bytes : List Byte) : State :=
  s.modStk fun k => { k with hems := Tbl.upd HemCtr.dflt k.hems p fun c => { c with inbox := c.inbox ++ [(ty, src, bytes)] } }

/-- The stacking header on a Hem link: errors are counted; bridge and stack-control frames go to the bridge engine, bridge frames
through ingress MACsec first; a package in CONFLICT takes stack-control frames only (17 R494, R495, R498 to R500). -/
def State.hemCheck (s : State) (p : Nat) (hdr bytes : List Byte) (phy : Bool) (sec : SecRx) : State × Option (Option HemHdr) :=
  if !s.isHem p then (s, some none)
  else
    let b0 := (byteAt hdr 0).toNat
    let b1 := (byteAt hdr 1).toNat
    let ty := b0 / 16 % 4
    let src := b0 / 64
    let own := src == s.sys.member
    if hdr.length ≠ 6 ∨ crc8 (hdr.take 5) ≠ (byteAt hdr 5).toNat ∨ ty = 3 ∨ (ty ≤ 1 ∧ own = true) ∨
        (ty = 0 ∧ dmacOf bytes = stackDmac) then (s.hdrError p, none)
    else if ty = 0 then
      if s.stk.mode = .conflict then (s, none)
      else (s, some (some { zone := b0 % 16, inPort := b1 / 8, hops := b1 / 2 % 4, origin := (byteAt hdr 2).toNat / 64 }))
    else if phy || !fcsRight bytes then (s.portTick p PortSt.rxFcs fun c n => { c with rxFcs := n }, none)
    else if ty = 2 then
      let msg := (byteAt bytes 14).toNat % 16
      if (own && ownControl bytes) || msg == 0 || decide (5 < msg) then (s.hdrError p, none) else (s.toBridge p ty src bytes, none)
    else if s.stk.mode = .conflict ∨ (byteAt bytes 14).toNat % 16 = 0 ∨ 6 < (byteAt bytes 14).toNat % 16 then (s, none)
    else
      match s.macsecRx p sec bytes with
      | (s1, true) => (s1.toBridge p ty src bytes, none)
      | (s1, false) => (s1, none)

/-- Remove an R-TAG that stands after the source address or after one VLAN tag (05 R122); the FCS is kept right or wrong as it was. -/
def stripRtag (bs : List Byte) : Option (Nat × List Byte) :=
  let at' (i : Nat) : Option (Nat × List Byte) :=
    if beVal (slice bs i 2) = 0xF1C1 then
      let b := (bodyOf bs).take i ++ (bodyOf bs).drop (i + 6)
      some (beVal (slice bs (i + 4) 2), if fcsRight bs then b ++ fcsOf b else b ++ bs.drop (bs.length - 4))
    else none
  match at' 12 with
  | some x => some x
  | none => if typeOf bs = 0x8100 then at' 16 else none

/-- The gPTP frames of a port, which its MAC checks first: dropped and counted while PTP_EN is 0, else the time engine's, or Q31 of
the CPU port (08 R224, 09 R240). -/
def State.gptpRx (s : State) (p : Nat) (phy : Bool) (bytes : List Byte) : State × Option Nat :=
  let c := Tbl.get PtpPort.dflt s.tim.ports p
  let modP (f : PtpPort → PtpPort) : State := s.modTim fun t => { t with ports := Tbl.upd PtpPort.dflt t.ports p f }
  let m := (byteAt (untagged 8 bytes) 14).toNat % 16
  if c.en && (m == 0xB || m == 0xC) then (s, some 31)
  else if bytes.length < 64 then (s.portTick p PortSt.rxRunts fun c n => { c with rxRunts := n }, none)
  else if phy || !fcsRight bytes then (s.portTick p PortSt.rxFcs fun c n => { c with rxFcs := n }, none)
  else if c.en then (modP fun c => { c with inbox := c.inbox ++ [(s.nowQ, untagged 8 bytes)] }, none)
  else ((modP fun c => { c with discards := sat36 c.discards 1 }).satRaise c.discards 1 fun t => t.raiseDie (dieOfPort p) .countSat, none)

/-- Ingress staging of a frame on a port now (02 R25). -/
def State.stage (s : State) (p : Nat) (bytes : List Byte) (phy : Bool) (f0 : FrameSt) : State :=
  let d := dieOfPort p
  let v := Tbl.get VlanPort.dflt s.tab.vlan p
  let ok := fcsRight bytes
  let r := if v.rtagRx then stripRtag bytes else none
  let f : FrameSt := { f0 with
    inPort := p, tsQ := s.nowQ, epoch := s.tim.epoch, fcsOk := ok, phyErr := phy,
    bytes := (match r with | some x => x.2 | none => bytes), rtagSeq := r.map fun x => x.1 }
  if s.has d.num && (s.pool d).built then (s.addFrame d f).1 else s

/-- A frame on a front port or a CPU port now. -/
def State.ingress (s : State) (p : Nat) (bytes hdr : List Byte) (phy : Bool) (sec : SecRx) : State :=
  if 28 ≤ p then s
  else if 26 ≤ p then s.stage p bytes phy {}
  else if (s.port p).mode ≠ .up then s
  else
    match s.hemCheck p hdr bytes phy sec with
    | (s1, none) => s1
    | (s1, some h) =>
      match s1.macsecRx p sec bytes with
      | (s2, false) => s2
      | (s2, true) =>
        let f0 : FrameSt := { hem := h, macsec := (s.port p).secy.enable && sec == .valid }
        if isGptp bytes then
          match s2.gptpRx p phy bytes with
          | (s3, none) => s3
          | (s3, some q) => s3.stage p bytes phy { f0 with toCpu := some q }
        else if (s.port p).secy.enable && etherOf bytes == 0x888E then s2.stage p bytes phy { f0 with toCpu := some 29 }
        else s2.stage p bytes phy f0

/-- Reassembly at a port with PREEMPT_EN 1: the counters, and whether a frame comes out of it; another port takes no fragment
(07 R187, R204; log 73). -/
def State.reassemble (s : State) (p : Nat) (m : MmRx) : State × Bool :=
  let on := decide (p ≤ 25) && (s.port p).mode == .up && (s.mm p).en
  match m with
  | .whole => (s, true)
  | .frags n => if on then (s.modMm p fun c => { c with fragRx := add72 c.fragRx n, assyOk := add72 c.assyOk 1 }, true) else (s, false)
  | .broken n => if on then (s.modMm p fun c => { c with fragRx := add72 c.fragRx n, assyErr := satN 18 c.assyErr 1 }, false) else (s, false)
  | .smd => if on then (s.modMm p fun c => { c with smdErr := satN 18 c.smdErr 1 }, false) else (s, false)

/-- Meaning of FRAME_RX_START: `dt` ticks after the last command a frame begins on a port, whole or as fragments; its bytes are those
from the destination address to the FCS, after reassembly and ingress MACsec, with the stacking header of a Hem link beside them
(02 R25; 07 R187). -/
def execFrameRxStart (port : Nat) (bytes hdr : List Byte) (phy : Bool) (sec : SecRx) (mm : MmRx) (dt : Nat) (s : State) : Res :=
  .next (
    let x := (s.adv dt).reassemble port mm
    if x.2 then x.1.ingress port bytes hdr phy sec else x.1)

end Sys2Proof.Machine
end

