-- ==== Sys2Proof/Machine/Parse.lean ====
section
/-! DEFINITION. Parse engines: taking a frame, the instructions of a parse program, and the second pass (04 R74 to R81, R96). -/

namespace Sys2Proof.Machine

/-- A parse engine of a die. -/
def State.engine (s : State) (d : Fab) (e : Nat) : Engine := Tbl.get Engine.dflt (s.fab d).engines e

/-- Change a parse engine. -/
def State.modEngine (s : State) (d : Fab) (e : Nat) (f : Engine → Engine) : State :=
  s.modFab d fun q => { q with engines := Tbl.upd Engine.dflt q.engines e f }

/-- Parse configuration of a port. -/
def State.parsePort (s : State) (p : Nat) : PortParse := Tbl.get PortParse.dflt s.tab.ports p

/-- Change the parse configuration or counters of a port. -/
def State.modParse (s : State) (p : Nat) (f : PortParse → PortParse) : State :=
  s.modTab fun t => { t with ports := Tbl.upd PortParse.dflt t.ports p f }

/-- The instruction word at an index of a program; a word never loaded, or beyond the program, reads as END (04 R75). -/
def TabSt.progWord (t : TabSt) (n i : Nat) : Word :=
  if 511 < i then 0
  else
    match Tbl.get noneAt t.prog (512 * n + i) with
    | some w => w
    | none => if n = 0 then factoryProgramWord i else 0

/-- Bytes of a result field (04 R77). -/
def fieldBytes (f : Nat) : Nat :=
  match f with
  | 0 | 1 => 6
  | 2 | 3 | 4 | 7 | 12 | 13 | 15 | 16 => 2
  | 5 | 6 | 14 | 18 | 19 => 1
  | 8 | 9 | 17 | 21 | 22 => 4
  | 10 | 11 => 16
  | _ => 0

/-- The bytes of an extracted field, when present. -/
def ParseRes.field (r : ParseRes) (f : Nat) : Option (List Byte) := r.fields.lookup f

/-- The value of a field; an absent field reads 0 (04 R77). -/
def ParseRes.val (r : ParseRes) (f : Nat) : Nat := match r.field f with | some b => beVal b | none => 0

/-- Set a field (04 R77, R96). -/
def ParseRes.setField (r : ParseRes) (f : Nat) (b : List Byte) : ParseRes :=
  { r with fields := (f, b) :: r.fields.filter fun e => e.1 != f }

/-- Malformed with a cause: class 0xF, and the parse stops (04 R81). -/
def Engine.malformed (e : Engine) (cause : Nat) : Engine :=
  { e with done := true, res := { e.res with cls := 0xF, mal := some cause } }

/-- PARSE_INCOMPLETE: class 0xE, and the parse stops (04 R75, R78). -/
def Engine.incomplete (e : Engine) : Engine := { e with done := true, res := { e.res with cls := 0xE } }

/-- An access beyond the window (04 R78). -/
def Engine.beyond (e : Engine) : Engine := if e.whole then e.malformed 1 else e.incomplete

/-- A scratch register. -/
def Engine.reg (e : Engine) (i : Nat) : Nat := e.s.getD i 0

/-- Write a scratch register. -/
def Engine.setReg (e : Engine) (i v : Nat) : Engine := { e with s := e.s.set i v }

/-- EXTRACT of a field at an offset (04 R76 to R78). -/
def Engine.extract (e : Engine) (off f : Nat) : Engine :=
  let a := e.cursor + off
  if f = 20 then { e with res := { e.res with rcOff := some a } }
  else if e.win.length < a + fieldBytes f then e.beyond
  else
    let r := e.res.setField f (slice e.win a (fieldBytes f))
    { e with res := if f = 17 ∧ 2 ≤ a then { r with frag6 := some (beVal (slice e.win (a - 2) 2)) } else r }

/-- LOAD of a value at an offset (04 R76, R78). -/
def Engine.load (e : Engine) (off size r : Nat) : Engine :=
  let a := e.cursor + off
  let n := match size with | 1 => 2 | 2 => 4 | _ => 1
  if e.win.length < a + n then e.beyond
  else
    let v := beVal (slice e.win a n)
    e.setReg r (if size = 3 then v % 16 else v)

/-- LENSET: the derived length, the comparison with an earlier one, and with the actual length `len` of a frame held whole
(04 R79, R96). -/
def Engine.lenset (e : Engine) (d len : Nat) : Engine :=
  match e.res.lenD with
  | some d0 => if d0 = d then e else e.malformed 2
  | none =>
    let e1 := { e with res := { e.res with lenD := some d } }
    if e.whole ∧ len ≠ max d 64 then e1.malformed 3 else e1

/-- The effect of one instruction of OP `w` 35:32 on an engine whose index already points behind it (04 R76). -/
def Engine.apply (e : Engine) (w : Word) (len : Nat) : Engine :=
  let r := fld w 22 21
  match fld w 35 32 with
  | 0 => { e with done := true }
  | 1 => { e with res := { e.res with cls := fld w 3 0 } }
  | 2 => e.extract (fld w 31 25) (fld w 24 20)
  | 3 => e.load (fld w 31 25) (fld w 24 23) r
  | 4 => e.setReg r (Nat.land (e.reg r % 65536) (fld w 15 0))
  | 5 => if e.reg r % 65536 = fld w 15 0 then { e with pc := fld w 31 23 } else e
  | 6 => if e.reg r % 65536 ≠ fld w 15 0 then { e with pc := fld w 31 23 } else e
  | 7 => { e with pc := fld w 31 23 }
  | 8 =>
    let k := match fld w 20 19 with | 0 => 0 | 1 => 1 | 2 => 4 | _ => 8
    { e with cursor := e.cursor + e.reg r * k + fld w 15 0 }
  | 9 => e.lenset (e.base + e.cursor + e.reg r + fld w 15 0) len
  | 10 => e.malformed 4
  | _ => e

/-- A first pass that is complete is counted in PARSED (04 R98). -/
def State.countParsed (s : State) (d : Fab) (e : Nat) : State :=
  let g := s.engine d e
  match g.fid.bind (s.fab d).frame with
  | some f => if g.done && !g.second then s.modParse f.inPort fun c => { c with parsed := add72 c.parsed 1 } else s
  | none => s

/-- Whether an engine has an instruction of `op` to execute: it holds a frame, it has steps left, and that is the next word. -/
def State.parseReady (s : State) (d : Fab) (e op : Nat) : Bool :=
  let g := s.engine d e
  g.fid.isSome && !g.done && decide (g.steps < g.budget) && fld (s.tab.progWord g.prog g.pc) 35 32 == op

/-- One step of an engine with an instruction of `op`; nothing when that is not its next instruction (04 R75, R76; log 17). -/
def State.parseStep (s : State) (d : Fab) (e op : Nat) : State :=
  if s.parseReady d e op then
    let g := s.engine d e
    let w := s.tab.progWord g.prog g.pc
    let len := match g.fid.bind (s.fab d).frame with | some f => f.len | none => 0
    (s.modEngine d e fun g => ({ g with pc := g.pc + 1, steps := g.steps + 1 }).apply w len).countParsed d e
  else s

/-- Meaning of END (04 R76). -/
def execParseEnd (die : Fab) (eng : Nat) (s : State) : Res := .next (s.parseStep die eng 0)
/-- Meaning of CLASS (04 R76). -/
def execParseClass (die : Fab) (eng : Nat) (s : State) : Res := .next (s.parseStep die eng 1)
/-- Meaning of EXTRACT (04 R76). -/
def execParseExtract (die : Fab) (eng : Nat) (s : State) : Res := .next (s.parseStep die eng 2)
/-- Meaning of LOAD (04 R76). -/
def execParseLoad (die : Fab) (eng : Nat) (s : State) : Res := .next (s.parseStep die eng 3)
/-- Meaning of AND (04 R76). -/
def execParseAnd (die : Fab) (eng : Nat) (s : State) : Res := .next (s.parseStep die eng 4)
/-- Meaning of TEST (04 R76). -/
def execParseTest (die : Fab) (eng : Nat) (s : State) : Res := .next (s.parseStep die eng 5)
/-- Meaning of TESTNE (04 R76). -/
def execParseTestne (die : Fab) (eng : Nat) (s : State) : Res := .next (s.parseStep die eng 6)
/-- Meaning of JUMP (04 R76). -/
def execParseJump (die : Fab) (eng : Nat) (s : State) : Res := .next (s.parseStep die eng 7)
/-- Meaning of ADVANCE (04 R76). -/
def execParseAdvance (die : Fab) (eng : Nat) (s : State) : Res := .next (s.parseStep die eng 8)
/-- Meaning of LENSET (04 R79). -/
def execParseLenset (die : Fab) (eng : Nat) (s : State) : Res := .next (s.parseStep die eng 9)
/-- Meaning of FAIL (04 R76). -/
def execParseFail (die : Fab) (eng : Nat) (s : State) : Res := .next (s.parseStep die eng 10)

/-- Meaning of PARSE_BUDGET_EXHAUSTED: BUDGET steps have executed without END (04 R75). -/
def execParseBudgetExhausted (die : Fab) (eng : Nat) (s : State) : Res :=
  let g := s.engine die eng
  .next (if g.fid.isSome && !g.done && decide (g.budget ≤ g.steps) then
      (s.modEngine die eng Engine.incomplete).countParsed die eng
    else s)

/-! ### Taking a frame -/

/-- The ingress MAC's check of a frame that is whole in its window: the counter of a frame it drops (09 R240). -/
def State.shortDrop (s : State) (f : FrameSt) : Option State :=
  if f.len < 64 then
    some (if f.inPort ≤ 25 then s.portTick f.inPort PortSt.rxRunts fun c n => { c with rxRunts := n } else s)
  else if f.len ≤ 128 ∧ (f.fcsOk = false ∨ f.phyErr) then
    some (if f.inPort ≤ 25 then s.portTick f.inPort PortSt.rxFcs fun c n => { c with rxFcs := n } else s)
  else none

/-- Whether an engine may take a new frame: it is free, and engines 22 and 23 serve second passes first (04 R74). -/
def State.engineFree (s : State) (d : Fab) (e : Nat) : Bool :=
  decide (e < 24) && (s.engine d e).fid.isNone && (decide (e < 22) || (s.fab d).second.isEmpty)

/-- Quarter ns at which the first `n` bytes of a frame are in ingress staging. -/
def State.arrived (s : State) (f : FrameSt) (n : Nat) : Nat := f.tsQ + s.bytesU f.inPort n / 5

/-- Meaning of PARSE_ENGINE_TAKE: the oldest frame of a port that waits in ingress staging is taken, once its window is
there (04 R74, R83; 09 R240). -/
def execParseEngineTake (die : Fab) (eng port : Nat) (s : State) : Res :=
  .next (
    match (s.fab die).frames.find? fun e => e.2.inPort == port && e.2.mode == .staged with
    | none => s
    | some (fid, f) =>
      if s.engineFree die eng then
        let s0 := s.advQ (s.arrived f (min f.len 128))
        match s0.shortDrop f with
        | some s1 => s1.forget die fid
        | none =>
          let c := s0.parsePort port
          let g : Engine := { fid := some fid, prog := c.prog, budget := c.budget, win := f.bytes.take (min f.len 128),
                              whole := decide (f.len ≤ 128) }
          let s1 := s0.modParse port fun c => { c with nextTag := (c.nextTag + 1) % 64 }
          (s1.modFrame die fid fun f => { f with mode := .parsing, tag := c.nextTag }).modEngine die eng fun _ => g
      else s)

/-- RC_PROG of the RECIRC rule of the lowest zone that gave RECIRC (04 R90, R96). -/
def recircProg (vs : List Verdict) : Nat := (vs.findSome? fun v => v.recirc).getD 0

/-- Meaning of RECIRC_PASS_START: engine 22 or 23 takes the oldest waiting second pass (04 R96). -/
def execRecircPassStart (die : Fab) (eng : Nat) (s : State) : Res :=
  .next (
    match (s.fab die).second with
    | [] => s
    | fid :: rest =>
      match (s.fab die).frame fid with
      | none => s.modFab die fun q => { q with second := rest }
      | some f =>
        if (eng == 22 || eng == 23) && (s.engine die eng).fid.isNone then
          let r := f.res.getD {}
          let off := r.rcOff.getD 129
          let s0 := if off ≤ 128 then s.advQ (s.arrived f (min f.len (off + 128))) else s
          let g0 : Engine := { fid := some fid, second := true, prog := recircProg f.verdicts, budget := (s.parsePort f.inPort).budget,
                               base := off, win := slice (f.bytes.take f.len) off 128, whole := decide (f.len ≤ off + 128), res := r }
          let g := if off ≤ 128 then g0 else g0.incomplete
          ((s0.modFab die fun q => { q with second := rest, recircs := add72 q.recircs 1 }).modFrame die fid
            fun f => { f with mode := .parsing2 }).modEngine die eng fun _ => g
        else s)

end Sys2Proof.Machine
end

