-- ==== Sys2Proof/Machine/Lookup.lean ====
section
/-! DEFINITION. What the classifier reads: VLANs, the forwarding lookup, zones, rules, fragments, filters and meters
(04 R85 to R92, 05 R112 to R119, 06 R144 to R157). -/

namespace Sys2Proof.Machine

/-! ### VLANs and lookup -/

/-- The bit of PORTS that names a port (05 R114). -/
def portsBit (p : Nat) : Nat := if p ≤ 25 then p else if p ≤ 27 then 26 else if p = 28 then 27 else if p = 29 then 28 else 29

/-- VLAN settings of a port. -/
def State.vlanPort (s : State) (p : Nat) : VlanPort := Tbl.get VlanPort.dflt s.tab.vlan p

/-- Change the VLAN settings or counters of a port. -/
def State.modVlan (s : State) (p : Nat) (f : VlanPort → VlanPort) : State :=
  s.modTab fun t => { t with vlan := Tbl.upd VlanPort.dflt t.vlan p f }

/-- A 36-bit counter of a port steps; COUNT_SAT of its die when it saturates (00 R4). -/
def State.vlanTick (s : State) (p : Nat) (get : VlanPort → Nat) (set : VlanPort → Nat → VlanPort) : State :=
  let old := get (s.vlanPort p)
  (s.modVlan p fun c => set c (sat36 (get c) 1)).satRaise old 1 fun t => t.raiseDie (dieOfPort p) .countSat

/-- A visible KIND 0 or 1 entry with a MAC and VID. -/
def State.macEntry (s : State) (kind mac vid : Nat) : Option (Nat × FwdEnt) :=
  (s.tab.visibleGroups s.tab.fgen).find? fun e => e.2.kind == kind && e.2.mac == mac && e.2.vid == vid

/-- The flood entry of a VID (05 R112). -/
def State.floodEntry (s : State) (vid : Nat) : Option (Nat × FwdEnt) := s.macEntry 0 (2 ^ 48 - 1) vid

/-- Frame VID and frame PCP, or none for a frame that is dropped before the lookup (05 R118). -/
def State.vlanOf (s : State) (p : Nat) (r : ParseRes) : Option (Nat × Nat) :=
  let c := s.vlanPort p
  let tagged := (r.field 2).isSome
  let tv := r.val 2 % 4096
  let vid := if tagged ∧ tv ≠ 0 then tv else c.pvid
  let pcp := if tagged then r.val 2 / 8192 else c.defPcp
  if tagged ∧ tv = 4095 then none
  else if (¬ tagged ∨ tv = 0) ∧ c.accept = 1 then none
  else if tagged ∧ tv ≠ 0 ∧ c.accept = 2 then none
  else if c.inFilter && !(match s.floodEntry vid with | some e => inMask e.2.ports (portsBit p) | none => false) then none
  else some (vid, pcp)

/-- An IP key field: a wildcard, or present and equal (05 R112). -/
def keyEq (wild bit : Nat) (r : ParseRes) (f : Nat) (g : Nat → Nat) (want : Nat) : Bool :=
  inMask wild bit || ((r.field f).isSome && g (r.val f) == want)

/-- Whether a KIND 2 group matches (05 R112, R115). -/
def ip4Match (e : FwdEnt) (r : ParseRes) : Bool :=
  let w := fld e.w0 28 24
  (r.field 9).isSome && r.val 9 == fld e.w1 31 0 && keyEq w 4 r 8 id (fld e.w2 31 0) &&
    keyEq w 3 r 6 (· / 4 % 64) (fld e.w0 23 18) && keyEq w 2 r 5 id (fld e.w0 17 10) &&
    keyEq w 1 r 12 id (fld e.w3 35 20) && keyEq w 0 r 13 id (fld e.w3 19 4)

/-- Whether a KIND 3 group with its KIND 4 entry matches (05 R112, R115). -/
def ip6Match (e e1 : FwdEnt) (r : ParseRes) : Bool :=
  let w := fld e.w0 28 24
  (r.field 11).isSome && r.val 11 == dip6Of e e1 && keyEq w 4 r 10 (· % 2 ^ 64) (sip6Of e1) &&
    keyEq w 3 r 7 (· / 64 % 64) (fld e.w0 23 18) && keyEq w 2 r 5 id (fld e.w0 17 10) &&
    keyEq w 1 r 12 id (fld e1.w3 35 20) && keyEq w 0 r 13 id (fld e1.w3 19 4)

/-- The lookup: index of the first entry of the matching group (05 R112). -/
def State.lookup (s : State) (r : ParseRes) (vid : Nat) : Option Nat :=
  let vis := s.tab.visibleGroups s.tab.fgen
  let ip :=
    if 1 ≤ r.cls ∧ r.cls ≤ 3 then vis.find? fun e => e.2.kind == 2 && ip4Match e.2 r
    else if 4 ≤ r.cls ∧ r.cls ≤ 6 then vis.find? fun e => e.2.kind == 3 && ip6Match e.2 (s.tab.fwdEnt (e.1 + 1)) r
    else none
  (((ip.orElse fun _ => s.macEntry 1 (r.val 1) vid).orElse fun _ => s.macEntry 0 (r.val 0) vid).orElse
    fun _ => s.floodEntry vid).map Prod.fst

/-- The action words that a lookup of group `i` uses, and whether they are those of its alternative (05 R126). -/
def State.actionFor (s : State) (i : Nat) : FwdEnt × Bool :=
  let a := s.tab.actionOf i
  if a.altEn ∧ (List.range 26).any fun p => inMask a.ports p && inMask s.tab.linkDown p then (s.tab.fwdEnt a.alt, true)
  else (a, false)

/-- The die whose CPU port is the active core's; from the start of a gap, the one being promoted (05 R113). -/
def State.cpuDie (s : State) : Fab := if s.pair.held && s.pair.mode == .gap then s.pair.active.other else s.pair.active

/-- The ports that PORTS names (05 R113, R114). -/
def State.outPorts (s : State) (ports : Nat) : List Nat :=
  (maskList ports 30).map fun b =>
    if b ≤ 25 then b else if b = 26 then 26 + s.cpuDie.bit else if b = 27 then 28 else if b = 28 then 29 else s.sys.gwPort

/-! ### Zones -/

/-- IN_ZONE of a frame (06 R144). -/
def State.inZone (s : State) (f : FrameSt) : Nat :=
  match f.hem with
  | some h => h.zone
  | none => match f.gwZone with | some z => z | none => s.zon.portZone f.inPort

/-- Egress zone of an output, none for a gateway output whose STREAM has no entry (06 R145). -/
def State.outZone (s : State) (inZone stream p : Nat) : Option Nat :=
  if s.isHem p then some inZone else if 30 ≤ p then Tbl.get noneAt s.zon.gw stream else some (s.zon.portZone p)

/-! ### Rules -/

/-- The five key words of a key format (04 R86). -/
def ruleKey (r : ParseRes) (inPort kf : Nat) : List Word :=
  match kf with
  | 0 =>
    [pack [(32, 4, r.cls), (16, 16, r.val 4), (4, 12, r.val 2), (1, 3, r.val 2 / 8192), (0, 1, r.val 2 / 4096)],
     w36 (r.val 0 / 2 ^ 12), pack [(24, 12, r.val 0), (0, 24, r.val 1 / 2 ^ 24)],
     pack [(12, 24, r.val 1), (0, 12, r.val 3)],
     pack [(31, 5, inPort), (23, 8, r.val 18), (19, 4, r.val 19)]]
  | 1 =>
    [pack [(32, 4, r.cls), (24, 8, r.val 5), (18, 6, r.val 6 / 4), (12, 6, r.val 14), (0, 12, r.val 2)],
     pack [(0, 32, r.val 8)], pack [(0, 32, r.val 9)], pack [(20, 16, r.val 12), (4, 16, r.val 13)],
     pack [(31, 5, inPort), (15, 16, r.val 21)]]
  | _ =>
    [pack [(32, 4, r.cls), (24, 8, r.val 5), (18, 6, r.val 7 / 64), (2, 16, r.val 12)],
     w36 (r.val 10 / 2 ^ 92), pack [(8, 28, r.val 10 / 2 ^ 64), (0, 8, r.val 11 / 2 ^ 120)],
     w36 (r.val 11 / 2 ^ 84), pack [(16, 20, r.val 11 / 2 ^ 64), (0, 16, r.val 13)]]

/-- The value of a comparator's field, when present (04 R77, R88). -/
def rangeField (r : ParseRes) (f : Nat) : Option Nat :=
  match f with
  | 0 => (r.field 2).map fun b => beVal b % 4096
  | 1 => (r.field 3).map fun b => beVal b % 4096
  | 2 => (r.field 4).map beVal
  | 3 => (r.field 12).map beVal
  | 4 => (r.field 13).map beVal
  | 5 => (r.field 21).map fun b => beVal b % 65536
  | 6 => r.lenD
  | _ => none

/-- Whether a range comparator is true (04 R88). -/
def State.rangeTrue (s : State) (r : ParseRes) (i : Nat) : Bool :=
  let c := Tbl.get RangeCmp.dflt s.tab.ranges i
  c.enable && (match rangeField r c.field with | some v => decide (c.low ≤ v ∧ v ≤ c.high) | none => false)

/-- Whether a comparator with its mode lets a rule match (04 R87). -/
def State.rangeOk (s : State) (r : ParseRes) (i mode : Nat) : Bool :=
  if mode = 1 then s.rangeTrue r i else if mode = 2 then !s.rangeTrue r i else true

/-- Whether a rule entry matches a frame (04 R87). -/
def State.ruleMatches (s : State) (r : ParseRes) (inPort : Nat) (e : List Word) : Bool :=
  let w (i : Nat) : Word := e.getD i 0
  bit1 (w 0) 35 &&
    (((ruleKey r inPort (fld (w 0) 34 33)).zip ((List.range 5).map fun i => (w (2 + i), w (7 + i)))).all
      fun x => (x.1 &&& x.2.2) == x.2.1) &&
    s.rangeOk r (fld (w 0) 32 27) (fld (w 0) 26 25) && s.rangeOk r (fld (w 0) 24 19) (fld (w 0) 18 17) &&
    (r.cls != 0xE || (fld (w 7) 35 32 == 0xF && fld (w 2) 35 32 == 0xE))

/-- The first matching rule of `count` rules from `base` on (04 R87). -/
def State.firstRule (s : State) (r : ParseRes) (inPort base count : Nat) : Option (Nat × List Word) :=
  ((List.range count).find? fun k => s.ruleMatches r inPort (s.tab.rule (base + k))).map fun k => (base + k, s.tab.rule (base + k))

/-- The verdict that a rule gives a zone; `second` makes RECIRC a DROP (04 R85, R90, R96). -/
def ruleVerdict (zone i : Nat) (e : List Word) (second : Bool) : Verdict :=
  let w := e.getD 1 0
  let act := fld w 35 33
  { zone := zone, fwd := act == 1, cpu := bit1 w 32, mirror := fld w 31 28,
    qOvr := if bit1 w 27 then some (fld w 26 22) else none, meter := if bit1 w 21 then some (fld w 20 11) else none,
    rule := i, recirc := if act = 2 ∧ ¬ second then some (fld w 10 7) else none }

/-- What decided a zone. -/
inductive By where
  | rule | default | inc | fmiss | frag
deriving DecidableEq, Repr

/-- Judge one zone against a range, with the group's fields when no rule matches (04 R82, R90). -/
def State.judgeRange (s : State) (r : ParseRes) (inPort : Nat) (g : GroupEnt) (zone : Nat) (second : Bool) : Verdict × By × Bool :=
  match s.firstRule r inPort (if second then g.base2 else g.base1) (if second then g.count2 else g.count1) with
  | some (i, e) => (ruleVerdict zone i e second, .rule, second && fld (e.getD 1 0) 35 33 == 2)
  | none =>
    if r.cls = 0xE then ({ zone := zone, fwd := g.incFwd, cpu := g.incCpu }, .inc, false)
    else ({ zone := zone, fwd := g.defFwd, cpu := g.defCpu }, .default, false)

/-! ### Fragments -/

/-- Key of a fragment: V6, ingress zone, protocol, identification and addresses (04 R91). -/
def fragKey (r : ParseRes) (zone : Nat) : FragEnt :=
  if r.cls = 2 ∨ r.cls = 3 then
    { v6 := false, zone := zone, proto := r.val 5, id := r.val 15, sip := r.val 8, dip := r.val 9 }
  else { v6 := true, zone := zone, proto := r.val 5, id := r.val 17, sip := r.val 10, dip := r.val 11 }

/-- Whether a fragment entry has a key. -/
def FragEnt.hasKey (e k : FragEnt) : Bool :=
  e.valid && e.v6 == k.v6 && e.zone == k.zone && e.proto == k.proto && e.id == k.id && e.sip == k.sip && e.dip == k.dip

/-- The entry of a key. -/
def FabSt.fragOf (q : FabSt) (k : FragEnt) : Option (Nat × FragEnt) := q.frags.find? fun e => e.2.hasKey k

/-- The lowest free fragment entry of 256. -/
def FabSt.fragFree (q : FabSt) : Option Nat := (List.range 256).find? fun i => !(Tbl.get FragEnt.dflt q.frags i).valid

/-- Whether a later fragment has MF 0 and a non-zero offset, so that its entry is freed after it (04 R91). -/
def lastFragment (r : ParseRes) : Bool :=
  if r.cls = 3 then (r.field 16).isSome && r.val 16 / 8192 % 2 == 0 && r.val 16 % 8192 != 0
  else match r.frag6 with | some v => v % 2 == 0 && v / 8 != 0 | none => false

/-- A 36-bit zone-pair counter of a die steps (00 R4). -/
def State.pairTick (s : State) (d : Fab) (k : Nat) (get : PairCtr → Nat) (set : PairCtr → Nat → PairCtr) : State :=
  let old := get (Tbl.get PairCtr.dflt (s.fab d).pairs k)
  s.dieTick d old 1 fun q => { q with pairs := Tbl.upd PairCtr.dflt q.pairs k fun c => set c (sat36 (get c) 1) }

/-- Count what decided a zone (04 R90, R98). -/
def State.countBy (s : State) (d : Fab) (k : Nat) (b : By) (rule : Nat) : State :=
  match b with
  | .rule => s.modFab d fun q => { q with hits := Tbl.upd zeroAt q.hits rule fun n => add72 n 1 }
  | .default => s.modFab d fun q => { q with pairs := Tbl.upd PairCtr.dflt q.pairs k fun c => { c with defHits := add72 c.defHits 1 } }
  | .inc => s.pairTick d k PairCtr.incHits fun c n => { c with incHits := n }
  | .fmiss => s.pairTick d k PairCtr.fmissHits fun c n => { c with fmissHits := n }
  | .frag => s

/-- A zone whose PERMIT bit is 0 counts as judged DROP, and is counted (06 R147). -/
def State.permitZone (s : State) (d : Fab) (inZone : Nat) (v : Verdict) : State × Verdict :=
  if s.zon.permits inZone v.zone then (s, v)
  else (s.pairTick d (16 * inZone + v.zone) PairCtr.denies fun c n => { c with denies := n }, { v with fwd := false, recirc := none })

/-- Record the verdicts of a first fragment (04 R91). -/
def State.fragMake (s : State) (d : Fab) (r : ParseRes) (inZone : Nat) (vs : List Verdict) : State :=
  if r.cls = 2 ∨ r.cls = 5 then
    let k := fragKey r inZone
    let e := { k with valid := true, born := s.monoNs, timeout := s.tab.fragTimeout, verdicts := vs }
    match ((s.fab d).fragOf k).map Prod.fst |>.orElse fun _ => (s.fab d).fragFree with
    | some i => s.modFab d fun q => { q with frags := Tbl.put FragEnt.dflt q.frags i e }
    | none => s.dieTick d (s.fab d).fragFull 1 fun q => { q with fragFull := sat36 q.fragFull 1 }
  else s

/-- The fragment entry of a later fragment, counted as a hit or a miss, and freed after its last fragment (04 R91). -/
def State.fragUse (s : State) (d : Fab) (r : ParseRes) (inZone : Nat) : State × List Verdict :=
  match (s.fab d).fragOf (fragKey r inZone) with
  | some (i, e) =>
    (s.modFab d fun q =>
      { q with fragHits := add72 q.fragHits 1,
               frags := if lastFragment r then Tbl.put FragEnt.dflt q.frags i {} else q.frags }, e.verdicts)
  | none => (s.dieTick d (s.fab d).fragMisses 1 fun q => { q with fragMisses := sat36 q.fragMisses 1 }, [])

/-! ### Filters and meters -/

/-- The filter that applies to a frame (06 R150). -/
def State.filterOf (s : State) (stream pcp inPort : Nat) : Option (Nat × FilterCfg) :=
  s.zon.filters.find? fun e =>
    e.2.valid && e.2.stream == stream && (e.2.pcpWild || e.2.pcp == pcp) && (e.2.portWild || e.2.port == inPort)

/-- A 36-bit filter counter of a die steps (00 R4). -/
def State.filterTick (s : State) (d : Fab) (i : Nat) (get : FilterDyn → Nat) (set : FilterDyn → Nat → FilterDyn) : State :=
  let old := get (s.filterDyn d i)
  s.dieTick d old 1 fun q => { q with zon := q.zon.modFilter i fun c => set c (sat36 (get c) 1) }

/-- A filter blocks later frames after an oversize one (06 R151). -/
def State.filterBlock (s : State) (d : Fab) (i : Nat) (b : Bool) : State :=
  if b then s.modZd d fun z => z.modFilter i fun c => { c with blocked := true } else s

/-- Steps 1 and 2 of R151: the frame counted in MATCHED, and whether it goes on (06 R150, R151). -/
def State.filterCheck (s : State) (d : Fab) (i : Nat) (c : FilterCfg) (len : Option Nat) : State × Bool :=
  let s1 := s.modZd d fun z => z.modFilter i fun x => { x with matched := add72 x.matched 1 }
  if (s.filterDyn d i).blocked then
    (s1.filterTick d i FilterDyn.blockedDrops fun x n => { x with blockedDrops := n }, false)
  else
    match len with
    | some n =>
      if c.maxSdu ≠ 0 ∧ c.maxSdu < n then
        ((s1.filterTick d i FilterDyn.sduDrops fun x n => { x with sduDrops := n }).filterBlock d i c.blockOversize, false)
      else (s1, true)
    | none => (s1, true)

/-- COLOUR of the descriptor (02 R26). -/
def Colour.code : Colour → Nat
  | .green => 0
  | .yellow => 1
  | .red => 2

/-- A meter judges a frame now: its colour, what it charged, and whether DEI is to be marked (06 R154 to R156). -/
def State.meterJudge (s : State) (d : Fab) (i : Nat) (len : Option Nat) (c : Colour) : State × Colour × List Charge × Bool :=
  let cfg := s.zon.meter i
  let b := len.getD 9216 + cfg.overhead
  let x := (s.meterDyn d i).judge cfg b c s.nowQ
  (s.modZd d fun z => z.modMeter i fun _ => x.1, x.2,
    if x.2 = .red then [] else [{ meter := i, committed := x.2 == .green, bytes := b }], x.2 == .yellow && cfg.deiMark)

/-- The filter meter and then the rule meter; the same meter judges once, and none judges a red frame (06 R152, R154). -/
def State.meterBoth (s : State) (d : Fab) (fm rm : Option Nat) (len : Option Nat) (c : Colour) : State × Colour × List Charge × Bool :=
  let a : State × Colour × List Charge × Bool :=
    match fm with | some i => s.meterJudge d i len c | none => (s, .green, [], false)
  if a.2.1 = .red then a
  else
    match (if rm = fm then none else rm) with
    | none => a
    | some i =>
      let b := a.1.meterJudge d i len (if fm.isSome then a.2.1 else c)
      (b.1, b.2.1, if b.2.1 = .red then a.2.2.1 else a.2.2.1 ++ b.2.2.1, b.2.1 == .yellow && (if fm.isSome && a.2.1 == .yellow then a.2.2.2 else b.2.2.2))

end Sys2Proof.Machine
end

