-- ==== Sys2Proof/Machine/Classify.lean ====
section
/-! DEFINITION. The collector and the classifier: the judgement of a frame, its descriptor and the copies it names
(02 R26, R43; 04 R81 to R84, R90, R96; 05 R113, R120, R123; 06 R152 to R156; 17 R496). -/

namespace Sys2Proof.Machine

/-! ### Mirrors and copies -/

/-- A mirror session of a die. -/
def State.mirrorCfg (s : State) (d : Fab) (i : Nat) : MirrorCfg := Tbl.get MirrorCfg.dflt (s.fab d).mirrors i

/-- Ingress-mirror sessions that copy a frame of port `p` (02 R43). -/
def State.ingressMirrors (s : State) (d : Fab) (p : Nat) : List Nat :=
  (List.range 4).filter fun i =>
    let m := s.mirrorCfg d i
    m.enable && (m.mode == 0 || m.mode == 2) && inMask m.sourceMask p

/-- Flow-mirror sessions that a MIRROR mask names (02 R43). -/
def State.flowMirrors (s : State) (d : Fab) (mask : Nat) : List Nat :=
  (List.range 4).filter fun i =>
    let m := s.mirrorCfg d i
    m.enable && m.mode == 3 && inMask mask i

/-- The copy that a session makes, at its analysis port. -/
def State.mirrorCopy (s : State) (d : Fab) (i : Nat) : Nat × Copy :=
  let m := s.mirrorCfg d i
  (m.destPort, { out := localOf m.destPort, queue := m.destQueue, mirror := some i, mirrorDie := d, trunc := m.truncate })

/-- Number the copies of a frame from `k` on. -/
def numberCopies : Nat → List Copy → List Copy
  | _, [] => []
  | k, c :: cs => { c with cid := k } :: numberCopies (k + 1) cs

/-- Write a frame's descriptor and name its copies; those at ports of the other die go through one Seam copy (02 R26, R33,
R43). A frame without a copy leaves the die. -/
def State.describe (s : State) (d : Fab) (fid : Nat) (ds : Desc) (cs : List (Nat × Copy)) : State :=
  let near := (cs.filter fun c => dieOfPort c.1 == d).map Prod.snd
  let far := (cs.filter fun c => dieOfPort c.1 != d).map Prod.snd
  let seam : List Copy := if far.isEmpty then [] else [{ out := 16, queue := ds.queue }]
  let all := numberCopies 0 (near ++ seam)
  let ds1 := { ds with outMask := maskOf (all.map Copy.out), farMask := maskOf (far.map Copy.out) }
  if cs.isEmpty then s.forget d fid
  else
    s.modFrame d fid fun f =>
      { f with mode := .decided, desc := some ds1, copies := all, far := numberCopies 0 far, writer := true }

/-- The part of a descriptor that every frame has. -/
def State.baseDesc (s : State) (f : FrameSt) (r : ParseRes) : Desc :=
  { inPort := f.inPort, inZone := s.inZone f, cls := r.cls, hem := f.hem.isSome, inTs := timeOfQ f.tsQ,
    lenValid := r.lenD.isSome || decide (f.len ≤ 128),
    length := (match r.lenD with | some x => max x 64 | none => if f.len ≤ 128 then f.len else 0),
    seq := f.rtagSeq.getD 0, seqValid := f.rtagSeq.isSome, fwdGen := s.tab.fgen % 256, ruleGen := s.tab.gen % 256,
    gen := s.tab.gen }

/-- LENGTH when LEN_VALID is 1. -/
def Desc.len (ds : Desc) : Option Nat := if ds.lenValid then some ds.length else none

/-- A frame that classification drops: only its ingress-mirror copies remain, and flow-mirror copies of `flow` (02 R43). -/
def State.dropFrame (s : State) (d : Fab) (fid : Nat) (f : FrameSt) (ds : Desc) (flow : Nat) : State :=
  s.describe d fid { ds with mirror := flow } ((s.ingressMirrors d f.inPort ++ s.flowMirrors d flow).map (s.mirrorCopy d))

/-- A malformed frame (04 R81). -/
def State.malDrop (s : State) (d : Fab) (fid : Nat) (f : FrameSt) (r : ParseRes) (cause : Nat) : State :=
  let old := (s.parsePort f.inPort).malformed
  let s1 := (s.modParse f.inPort fun c => { c with malformed := sat36 c.malformed 1, malCause := cause }).satRaise old 1
    fun t => t.raiseDie d .countSat
  let c := s.parsePort f.inPort
  let cpu : List (Nat × Copy) := if c.malCopy then [(26 + s.cpuDie.bit, { out := 13, head64 := true })] else []
  let mir := if c.malMirror then (s.ingressMirrors d f.inPort).map (s.mirrorCopy d) else []
  s1.describe d fid { s.baseDesc f r with cpuCopy := c.malCopy } (cpu ++ mir)

/-! ### Judgement -/

/-- Change the counters of a group on a die (05 R130). -/
def State.countGroup (s : State) (d : Fab) (i n : Nat) : State :=
  s.modFab d fun q =>
    { q with groupFrames := Tbl.upd zeroAt q.groupFrames i fun k => add72 k 1,
             groupOctets := Tbl.upd zeroAt q.groupOctets i fun k => add72 k n }

/-- Count a Hem output removed under R496. -/
def State.hemLoop (s : State) (p : Nat) : State :=
  let old := (Tbl.get HemCtr.dflt s.stk.hems p).loops
  (s.modStk fun k => { k with hems := Tbl.upd HemCtr.dflt k.hems p fun c => { c with loops := sat36 c.loops 1 } }).satRaise old 1
    fun t => t.raiseDie (dieOfPort p) .countSat

/-- Whether a Hem output must be removed from a frame (17 R496). -/
def State.hemBlocked (s : State) (f : FrameSt) (p : Nat) : Bool :=
  s.isHem p && (match f.hem with | some h => h.origin == s.sys.member || h.hops == 2 | none => false)

/-- Outputs with their egress zones: Hem outputs of a package in CONFLICT (17 R500) and those that would loop, gateway outputs of frames from the gateway, and unmapped
gateway outputs are removed and counted (17 R496, 11 R296, 06 R145). -/
def State.zonedOutputs (s : State) (d : Fab) (f : FrameSt) (stream : Nat) : List Nat → State × List (Nat × Nat)
  | [] => (s, [])
  | p :: ps =>
    if s.stk.mode = .conflict ∧ s.isHem p then s.zonedOutputs d f stream ps
    else if s.hemBlocked f p then (s.hemLoop p).zonedOutputs d f stream ps
    else if 30 ≤ p ∧ 30 ≤ f.inPort then
      ((s.modGw fun g => { g with loopDrops := Tbl.upd zeroAt g.loopDrops d.bit fun n => sat36 n 1 }).satRaise
        (Tbl.get zeroAt s.gw.loopDrops d.bit) 1 fun t => t.raiseDie d .countSat).zonedOutputs
        d f stream ps
    else
      match s.outZone (s.inZone f) stream p with
      | some z =>
        let x := s.zonedOutputs d f stream ps
        (x.1, (p, z) :: x.2)
      | none =>
        let old := (s.fab d).zon.gwUnmapped
        (s.dieTick d old 1 fun q => { q with zon := { q.zon with gwUnmapped := sat36 q.zon.gwUnmapped 1 } }).zonedOutputs d f stream ps

/-- The distinct egress zones of the outputs, rising, at most four (04 R90). -/
def zonesOf (outs : List (Nat × Nat)) : List Nat := ((List.range 16).filter fun z => outs.any fun o => o.2 == z).take 4

/-- Judge the listed zones on the first pass, in order (04 R90, 06 R147). -/
def State.judgeZones (s : State) (d : Fab) (r : ParseRes) (inPort inZone : Nat) (frag : Option (List Verdict)) :
    List Nat → State × List Verdict
  | [] => (s, [])
  | z :: zs =>
    let k := 16 * inZone + z
    let g := Tbl.get GroupEnt.dflt (s.tab.bank s.tab.gen) k
    let v : Verdict × By :=
      match frag with
      | some vs =>
        match vs.find? fun v => v.zone == z with
        | some v => ({ v with mirror := 0, recirc := none }, .frag)
        | none => ({ zone := z, fwd := g.fmissFwd, cpu := g.fmissCpu }, .fmiss)
      | none => let x := s.judgeRange r inPort g z false; (x.1, x.2.1)
    let p := (s.countBy d k v.2 v.1.rule).permitZone d inZone v.1
    let x := p.1.judgeZones d r inPort inZone frag zs
    (x.1, p.2 :: x.2)

/-- Judge again each zone that gave RECIRC, against range 2 of the bank of the first pass (04 R96). -/
def State.judgeSecond (s : State) (d : Fab) (r : ParseRes) (inPort inZone gen : Nat) : List Verdict → State × List Verdict
  | [] => (s, [])
  | v :: vs =>
    if v.recirc.isNone then
      let x := s.judgeSecond d r inPort inZone gen vs
      (x.1, v :: x.2)
    else
      let k := 16 * inZone + v.zone
      let j := s.judgeRange r inPort (Tbl.get GroupEnt.dflt (s.tab.bank gen) k) v.zone true
      let s1 := s.countBy d k j.2.1 j.1.rule
      let s2 := if j.2.2 then s1.dieTick d (s1.fab d).recircDrops 1 fun q => { q with recircDrops := sat36 q.recircDrops 1 } else s1
      let new := { j.1 with cpu := j.1.cpu || v.cpu, mirror := Nat.lor j.1.mirror v.mirror }
      let x := s2.judgeSecond d r inPort inZone gen vs
      (x.1, new :: x.2)

/-- The decisive zone's verdict: the lowest zone judged FORWARD, else the lowest zone (04 R90). -/
def decisive (vs : List Verdict) : Verdict := ((vs.find? fun v => v.fwd).orElse fun _ => vs.head?).getD {}

/-! ### Learning and sequence numbers -/

/-- The die whose learning engine serves (05 R120). -/
def State.learnDie (s : State) : Fab := if s.has 1 then .west else .east

/-- A learning request of a frame that was judged FORWARD (05 R120). -/
def State.learnRequest (s : State) (f : FrameSt) (r : ParseRes) (vid : Nat) (vs : List Verdict) : State :=
  let mac := r.val 1
  let c := s.vlanPort f.inPort
  if s.tab.learnEn && c.learn && decide (r.cls < 0xE) && (vs.any fun v => v.fwd) && mac / 2 ^ 40 % 2 == 0 &&
      (s.macEntry 0 mac vid).isNone then
    let d := s.learnDie
    if (s.fab d).learnQ.length < 16 then
      s.modFab d fun q => { q with learnQ := q.learnQ ++ [{ mac := mac, vid := vid, port := f.inPort }] }
    else s.dieTick d (s.fab d).learnOverflow 1 fun q => { q with learnOverflow := sat36 q.learnOverflow 1 }
  else s

/-- FRER_MISCONFIG of a die steps (05 R123, R124). -/
def State.misconfig (s : State) (d : Fab) : State :=
  s.dieTick d (s.fab d).frerMisconfig 1 fun q => { q with frerMisconfig := sat36 q.frerMisconfig 1 }

/-- FRER state of a function on a die. -/
def State.frerDyn (s : State) (d : Fab) (n : Nat) : FrerDyn := Tbl.get FrerDyn.dflt (s.fab d).frer n

/-- Change the FRER state of a function on a die. -/
def State.modFrer (s : State) (d : Fab) (n : Nat) (f : FrerDyn → FrerDyn) : State :=
  s.modFab d fun q => { q with frer := Tbl.upd FrerDyn.dflt q.frer n f }

/-- Sequence generation (05 R123). -/
def State.generate (s : State) (d : Fab) (ds : Desc) : State × Desc :=
  let m := s.tab.frerOf ds.stream
  if m.1 = 1 then
    if (Tbl.get FrerCfg.dflt s.tab.frer m.2).mode = 1 then
      (s.modFrer d m.2 fun c => { c with genSeq := (c.genSeq + 1) % 65536, generated := add72 c.generated 1 },
        { ds with seq := (s.frerDyn d m.2).genSeq, seqValid := true })
    else (s.misconfig d, ds)
  else if m.1 = 2 then (s, { ds with recover := some m.2 })
  else (s, ds)

/-! ### The final decision -/

/-- Steps 6 and 7 of R90 after every zone has its verdict: combination, meters, sequence number, learning, descriptor and
copies (04 R90, 06 R152). -/
def State.conclude (s : State) (d : Fab) (fid : Nat) (f : FrameSt) (r : ParseRes) (ds0 : Desc) (outs : List (Nat × Nat))
    (vs : List Verdict) (fm : Option Nat) (vid : Nat) : State :=
  let keep := outs.filter fun o => vs.any fun v => v.zone == o.2 && v.fwd
  let cpu := vs.any fun v => v.cpu
  let flow := vs.foldl (fun m v => Nat.lor m v.mirror) 0
  let dv := decisive vs
  let q := dv.qOvr.getD ds0.queue
  let ds := { ds0 with queue := q, rule := dv.rule, mirror := flow, cpuCopy := cpu, cls := r.cls,
                       preempt := inMask s.egr.preempt q }
  let s1 := s.learnRequest f r vid vs
  let ports := keep.map Prod.fst
  let cpuPort := 26 + s.cpuDie.bit
  let all := if cpu && !ports.contains cpuPort then ports ++ [cpuPort] else ports
  if all.isEmpty then s1.dropFrame d fid f ds flow
  else
    let c : Colour := if r.val 2 / 4096 % 2 = 1 then .yellow else .green
    let m := s1.meterBoth d fm dv.meter ds.len c
    let s2 := m.1.modFrame d fid fun f => { f with charges := m.2.2.1, deiMark := m.2.2.2 }
    if m.2.1 = .red then s2.dropFrame d fid f { ds with colour := 2 } 0
    else
      let g := s2.generate d { ds with colour := m.2.1.code }
      let mir := (g.1.ingressMirrors d f.inPort ++ g.1.flowMirrors d flow).map (g.1.mirrorCopy d)
      g.1.describe d fid g.2 (all.map (fun p => (p, { out := localOf p, queue := q })) ++ mir)

/-- A frame for one queue of the active core's CPU port and nowhere else (08 R224, 09 R253). -/
def State.toCpuOnly (s : State) (d : Fab) (fid : Nat) (f : FrameSt) (r : ParseRes) (q : Nat) : State :=
  s.describe d fid { s.baseDesc f r with queue := q } [(26 + s.cpuDie.bit, { out := 13, queue := q })]

/-- Send a frame to its second pass, or drop it when the queue of 16 is full (04 R96). -/
def State.recirculate (s : State) (d : Fab) (fid : Nat) (f : FrameSt) (r : ParseRes) (ds : Desc) (vs : List Verdict) : State :=
  if (s.fab d).second.length < 16 then
    let t := (s.parsePort f.inPort).nextTag2
    ((s.modParse f.inPort fun c => { c with nextTag2 := (c.nextTag2 + 1) % 64 }).modFrame d fid fun f =>
      { f with mode := .waitSecond, tag := t, res := some r, verdicts := vs, pre := some ds, noPocket := true }).modFab d
      fun q => { q with second := q.second ++ [fid] }
  else (s.dieTick d (s.fab d).recircDrops 1 fun q => { q with recircDrops := sat36 q.recircDrops 1 }).dropFrame d fid f ds 0

/-- The descriptor as the lookup fills it (05 R113, R119, R126). -/
def Desc.fill (ds : Desc) (a : FwdEnt) (i pin vid pcp : Nat) : Desc :=
  let act := if 4 < a.vlanAct then 0 else a.vlanAct
  { ds with queue := a.queue, stream := i, pin := pin, vlanAct := act,
            vid := if act = 0 then vid else a.eVid, pcp := if act = 0 ∨ act = 3 then pcp else a.ePcp,
            dei := if act = 0 then 0 else a.eDei }

/-- Steps 3 to 7 of R90 (04 R90, R91; 06 R152). -/
def State.judge (s : State) (d : Fab) (fid : Nat) (f : FrameSt) (r : ParseRes) (ds : Desc) (ports : List Nat) (fm : Option Nat)
    (vid : Nat) : State :=
  let z := s.zonedOutputs d f ds.stream ports
  let zs := zonesOf z.2
  let kept := z.2.filter fun o => zs.contains o.2
  let excess := z.2.length - kept.length
  let s1 := if excess = 0 then z.1
    else z.1.dieTick d (z.1.fab d).zoneExcess excess fun q => { q with zoneExcess := sat36 q.zoneExcess excess }
  let inZ := s.inZone f
  let fr : State × Option (List Verdict) :=
    if r.cls = 3 ∨ r.cls = 6 then let x := s1.fragUse d r inZ; (x.1, some x.2) else (s1, none)
  let j := fr.1.judgeZones d r f.inPort inZ fr.2 zs
  let s2 := j.1.modFrame d fid fun f => { f with filter := f.filter.filter fun _ => r.lenD.isNone && decide (128 < f.len) }
  if j.2.any fun v => v.recirc.isSome then
    s2.recirculate d fid f r { ds with outMask := maskOf (kept.map Prod.fst) } j.2
  else (s2.fragMake d r inZ j.2).conclude d fid f r ds kept j.2 fm vid

/-- The classifier's first pass (04 R90). -/
def State.classify (s : State) (d : Fab) (fid : Nat) (f0 : FrameSt) (r : ParseRes) : State :=
  let f := { f0 with tagged := (r.field 2).isSome }
  let s0 := s.modFrame d fid fun f => { f with tagged := (r.field 2).isSome }
  match f.toCpu with
  | some q => s0.toCpuOnly d fid f r q
  | none =>
    match r.mal with
    | some cause => s0.malDrop d fid f r cause
    | none =>
      let s1 := if r.cls = 0xE then
          (s0.modParse f.inPort fun c => { c with incomplete := sat36 c.incomplete 1 }).satRaise (s0.parsePort f.inPort).incomplete 1
            fun t => t.raiseDie d .countSat
        else s0
      let b := s1.baseDesc f r
      match s1.vlanOf f.inPort r with
      | none => (s1.vlanTick f.inPort VlanPort.vlanDrops fun c n => { c with vlanDrops := n }).dropFrame d fid f b 0
      | some (vid, pcp) =>
        let s2 := s1.modVlan f.inPort fun c => { c with inFrames := add72 c.inFrames 1, inOctets := add72 c.inOctets f.len }
        match s2.lookup r vid with
        | none => (s2.vlanTick f.inPort VlanPort.noRoute fun c n => { c with noRoute := n }).dropFrame d fid f b 0
        | some i =>
          let a := s2.actionFor i
          let s3 := s2.countGroup d i f.len
          let s4 := if a.2 then s3.modFab d fun q => { q with rerouted := add72 q.rerouted 1 } else s3
          let group := r.val 0 / 2 ^ 40 % 2 == 1
          let ports := (s4.outPorts a.1.ports).filter fun p => !(group && p == f.inPort)
          let ds := b.fill a.1 i (s4.tab.pinOf i) vid pcp
          match s4.filterOf i pcp f.inPort with
          | none => s4.judge d fid f r ds ports none vid
          | some (k, c) =>
            let x := s4.filterCheck d k c ds.len
            if x.2 then
              let s5 := if c.maxSdu = 0 then x.1
                else x.1.modFrame d fid fun f => { f with filter := some (k, c.maxSdu, c.blockOversize) }
              s5.judge d fid f r ds ports (if c.meterEn then some c.meter else none) vid
            else x.1.dropFrame d fid f ds 0

/-- The classifier's second pass (04 R96). -/
def State.classifySecond (s : State) (d : Fab) (fid : Nat) (f : FrameSt) (r : ParseRes) : State :=
  match f.pre with
  | none => s.forget d fid
  | some ds =>
    match r.mal with
    | some cause => s.malDrop d fid f r cause
    | none =>
      let first := (f.res.getD {}).cls
      let s1 := if r.cls = 0xE ∧ first ≠ 0xE then
          (s.modParse f.inPort fun c => { c with incomplete := sat36 c.incomplete 1 }).satRaise (s.parsePort f.inPort).incomplete 1
            fun t => t.raiseDie d .countSat
        else s
      let j := s1.judgeSecond d r f.inPort ds.inZone ds.gen f.verdicts
      let outs := (maskList ds.outMask 32).filterMap fun p => (s.outZone ds.inZone ds.stream p).map fun z => (p, z)
      let vid := ((s.vlanOf f.inPort r).getD (0, 0)).1
      let fc := s.filterOf ds.stream ((s.vlanOf f.inPort r).getD (0, 0)).2 f.inPort
      let fm := match fc with | some (_, c) => if c.meterEn then some c.meter else none | none => none
      let b := s.baseDesc f r
      let ds1 := { ds with length := b.length, lenValid := b.lenValid, outMask := 0 }
      (j.1.fragMake d r ds.inZone j.2).conclude d fid f r ds1 outs j.2 fm vid

/-- Whether an engine's result may be released: tag order per ingress port and pass (04 R83, R96). -/
def State.inTagOrder (s : State) (f : FrameSt) (second : Bool) : Bool :=
  let c := s.parsePort f.inPort
  f.tag == (if second then c.takeTag2 else c.takeTag)

/-- Meaning of COLLECTOR_TAKE: the collector takes an engine's result in tag order and the classifier decides (04 R83, R84,
R90). -/
def execCollectorTake (die : Fab) (eng : Nat) (s : State) : Res :=
  let g := s.engine die eng
  .next (
    match g.fid with
    | none => s
    | some fid =>
      match (s.fab die).frame fid with
      | none => s.modEngine die eng fun _ => {}
      | some f =>
        if g.done && s.inTagOrder f g.second then
          let s1 := (s.modEngine die eng fun _ => {}).modParse f.inPort fun c =>
            if g.second then { c with takeTag2 := (c.takeTag2 + 1) % 64 } else { c with takeTag := (c.takeTag + 1) % 64 }
          if g.second then s1.classifySecond die fid f g.res else s1.classify die fid f g.res
        else s)

end Sys2Proof.Machine
end

