-- ==== Sys2Proof/Machine/PathCmds.lean ====
section
/-! DEFINITION. Meanings of the PATH commands (02 R46 to R49). -/

namespace Sys2Proof.Machine

/-- The die and local index of the output that PORT, SEAM and DIE name (02 R46). -/
def pathOutput (r : Req) : Fab × Nat :=
  if r.bit 1 29 then (fabOf (r.fld 1 28 28), 16) else (dieOfPort (r.fld 1 35 31), localOf (r.fld 1 35 31))

/-- Ports that never take cut-through (02 R30, R46). -/
def noCutThrough (p : Nat) : Bool := p == 11 || p == 12 || p == 24 || p == 25 || decide (26 ≤ p)

/-- 0x201 PATH.OUTPUT_WRITE (02 R46). -/
def pathOutputWrite : CmdSpec where
  opcode := 0x201
  lenOk := lenIs 2
  busy := copyBusy
  fields := fun r _ =>
    [[fAny 35 31, fTo 30 30 (fun _ => !r.bit 1 29 && noCutThrough (r.fld 1 35 31)) 0 4, fAny 29 29, fAny 28 28, fAny 19 0],
     [fAny 31 0]]
  run := fun r s =>
    let o := pathOutput r
    { st := s.modFab o.1 fun q =>
        { q with outs := Tbl.upd OutCfg.dflt q.outs o.2 fun c =>
            { c with ctEn := if r.bit 1 29 then c.ctEn else r.bit 1 30, resLimit := r.fld 1 19 0, pocketMask := r.fld 2 31 0 } } }

/-- Meaning of PATH_OUTPUT_WRITE. -/
def execPathOutputWrite (r : Req) (s : State) : Res := .next (mailbox pathOutputWrite r s)

/-- 0x202 PATH.OUTPUT_READ (02 R47). -/
def pathOutputRead : CmdSpec where
  opcode := 0x202
  lenOk := lenIs 1
  changes := fun _ => false
  fields := fun _ _ => [[fAny 35 31, fAny 29 29, fAny 28 28]]
  run := fun r s =>
    let o := pathOutput r
    let c := Tbl.get OutCfg.dflt (s.fab o.1).outs o.2
    { st := s
      payload := [pack [(31, 5, r.fld 1 35 31), (30, 1, b1 c.ctEn), (29, 1, r.fld 1 29 29), (28, 1, r.fld 1 28 28), (0, 20, c.resLimit)],
                  w36 c.pocketMask] }

/-- Meaning of PATH_OUTPUT_READ. -/
def execPathOutputRead (r : Req) (s : State) : Res := .next (mailbox pathOutputRead r s)

/-- The ports of a die as a mask (02 R48). -/
def diePortMask (d : Fab) : Nat := maskOf ((List.range 32).filter fun p => dieOfPort p == d)

/-- 0x203 PATH.MIRROR_WRITE (02 R48). -/
def pathMirrorWrite : CmdSpec where
  opcode := 0x203
  lenOk := lenIs 2
  locked := policyLocked
  busy := copyBusy
  fields := fun r _ =>
    [[fAny 35 35, fAny 34 33, fAny 32 32, fAny 31 30, fNeed 29 25 (fun p => decide (p ≤ 25) || p == 28 || p == 29), fAny 24 20,
      { hi := 19, lo := 6, clamp := fun v =>
          if 1 ≤ v ∧ v ≤ 63 then some (64, 1) else if 9216 < v then some (9216, 2) else none }],
     [{ hi := 31, lo := 0, clamp := fun v =>
          let u := v &&& diePortMask r.dieBit
          if u = v then none else some (u, 4) }]]
  run := fun r s =>
    if inMask (r.fld 2 31 0) (r.fld 1 29 25) then .fail s .refused
    else
      { st := s.modFab r.dieBit fun q =>
          { q with mirrors := Tbl.upd MirrorCfg.dflt q.mirrors (r.fld 1 34 33) fun m =>
              { m with enable := r.bit 1 32, mode := r.fld 1 31 30, destPort := r.fld 1 29 25, destQueue := r.fld 1 24 20,
                       truncate := r.fld 1 19 6, sourceMask := r.fld 2 31 0 } } }

/-- Meaning of PATH_MIRROR_WRITE. -/
def execPathMirrorWrite (r : Req) (s : State) : Res := .next (mailbox pathMirrorWrite r s)

/-- 0x204 PATH.MIRROR_READ (02 R49). -/
def pathMirrorRead : CmdSpec where
  opcode := 0x204
  lenOk := lenIs 1
  changes := fun _ => false
  fields := fun _ _ => [[fAny 35 35, fAny 34 33]]
  run := fun r s =>
    let m := Tbl.get MirrorCfg.dflt (s.fab r.dieBit).mirrors (r.fld 1 34 33)
    { st := s
      payload := [pack [(35, 1, r.fld 1 35 35), (33, 2, r.fld 1 34 33), (32, 1, b1 m.enable), (30, 2, m.mode),
                        (25, 5, m.destPort), (20, 5, m.destQueue), (6, 14, m.truncate)], w36 m.sourceMask] }

/-- Meaning of PATH_MIRROR_READ. -/
def execPathMirrorRead (r : Req) (s : State) : Res := .next (mailbox pathMirrorRead r s)

end Sys2Proof.Machine
end

