-- ==== Sys2Proof/Machine/PoolCmds.lean ====
section
/-! DEFINITION. Meanings of the pool events and of the POOL commands (03 R52, R55, R62, R68 to R73). -/

namespace Sys2Proof.Machine

/-- Cell number in a handle word; pool 0 has no message handle, so the cell stands in bits 14:0 (03 R59). -/
def handleWord (pool idx : Nat) : Word := pack [(34, 2, pool), (0, 15, idx)]

/-- Add a spare cell to an ingress writer (03 R56). -/
def State.addSpare (s : State) (d : Fab) (x c : Nat) : State :=
  if 0x20 ≤ x ∧ x ≤ 0x30 then
    s.modPool d fun q => { q with spares := Tbl.upd nilAt q.spares (x - 0x20) fun l => l ++ [c] }
  else s

/-- Take a granted cell that its requester gives up out of the spare cells it holds. -/
def State.dropSpare (s : State) (d : Fab) (c : Nat) : State :=
  s.modPool d fun q =>
    { q with spares := (q.spares.map fun e => (e.1, e.2.filter fun x => x != c)).filter fun e => e.2 ≠ [] }

/-- POOL_ALLOC: the pool manager decides an ALLOC request (03 R55, R59, R60, R62). -/
def execPoolAlloc (die : Fab) (owner : Nat) (req : AllocReq) (contended : Bool) (s : State) : Res :=
  match req with
  | .cell =>
    match (s.contend die 0 contended).grantCell die owner with
    | (s1, some c) => .next ((s1.addSpare die owner c).emit (.pool die owner (.grant (handleWord 0 c))))
    | (s1, none) => .next (s1.emit (.pool die owner .empty))
  | .msg words fall =>
    match poolFor words with
    | none => .next (s.emit (.pool die owner .refused))
    | some p =>
      match (s.contend die p contended).allocMsg die owner words fall with
      | (s1, some h) => .next (s1.emit (.pool die owner (.grant (handleWord h.1 h.2))))
      | (s1, none) => .next (s1.emit (.pool die owner .empty))

/-- POOL_FREE: the pool manager decides a FREE request (03 R55, R57, R58). -/
def execPoolFree (die : Fab) (owner pool index : Nat) (contended : Bool) (s : State) : Res :=
  let s0 := s.contend die pool contended
  let a :=
    if pool = 0 then let b := s0.freeCellChain die index owner; if b.2 = .done then (b.1.dropSpare die index, b.2) else b
    else if pool ≤ 3 then s0.freeMsg die pool index owner
    else s0.freeUnit die (index / 32) (index % 32) owner
  .next (a.1.emit (.pool die owner a.2))

/-- POOL_SHARE: the pool manager decides a SHARE request (03 R55). -/
def execPoolShare (die : Fab) (owner pool index k : Nat) (contended : Bool) (s : State) : Res :=
  let s0 := s.contend die pool contended
  let a := if pool = 0 then s0.shareCell die index owner k else s0.shareMsg die pool index owner k
  .next (a.1.emit (.pool die owner a.2))

/-- POOL_RELEASE: the pool manager decides a RELEASE request (03 R55). -/
def execPoolRelease (die : Fab) (owner pool index : Nat) (contended : Bool) (s : State) : Res :=
  let s0 := s.contend die pool contended
  let a := if pool = 0 then s0.releaseCell die index owner else s0.releaseMsg die pool index owner
  .next (a.1.emit (.pool die owner a.2))

/-- Grant `n` spare cells to the writer of input `i` (03 R56). -/
def State.grantSpares (s : State) (d : Fab) (i : Nat) : Nat → State
  | 0 => s
  | n + 1 =>
    match s.grantCell d (0x20 + i) with
    | (s1, some c) => (s1.addSpare d (0x20 + i) c).grantSpares d i n
    | (s1, none) => s1

/-- FREE_LIST_BUILT: every cell is chained in ascending order, the writers get their spare cells, and the die accepts
ingress; frames held before are gone (03 R52, R56; the order of the spare cells is log 10). -/
def execFreeListBuilt (die : Fab) (s : State) : Res :=
  let s0 := s.modPool die fun q =>
    { q with cells := [], recs := [], freeHead := some 0, spares := [], built := true,
             ctr := Tbl.upd PoolCtr.dflt q.ctr 0 fun c => { c with inUse := 0 } }
  .next ((List.range 17).foldl (fun s i => s.grantSpares die i (if i = 16 then 8 else 4)) s0)

/-! ### POOL commands -/

/-- 0x301 POOL.LIMIT_WRITE (03 R68). -/
def poolLimitWrite : CmdSpec where
  opcode := 0x301
  lenOk := lenIs 1
  locked := fun _ s => s.locks.policy
  fields := fun _ _ => [[fAny 35 35, fNeed 34 30 (· ≤ 16), fMax 15 0 32768]]
  run := fun r s =>
    { st := s.modPool r.dieBit fun q => { q with limits := Tbl.put limitDflt q.limits (r.fld 1 34 30) (r.fld 1 15 0) } }

/-- Meaning of POOL_LIMIT_WRITE. -/
def execPoolLimitWrite (r : Req) (s : State) : Res := .next (mailbox poolLimitWrite r s)

/-- 0x302 POOL.LEVEL_WRITE (03 R69). -/
def poolLevelWrite : CmdSpec where
  opcode := 0x302
  lenOk := lenIs 2
  fields := fun _ _ =>
    [[fAny 35 35, fMax 34 19 32768, fMax 18 6 4096], [fMax 35 25 1024, fMax 24 16 256, fMax 15 2 9216]]
  run := fun r s =>
    { st := s.modPool r.dieBit fun q =>
        { q with levels := Tbl.puts levelDflt q.levels 0
                   [r.fld 1 34 19, r.fld 1 18 6, r.fld 2 35 25, r.fld 2 24 16, r.fld 2 15 2] } }

/-- Meaning of POOL_LEVEL_WRITE. -/
def execPoolLevelWrite (r : Req) (s : State) : Res := .next (mailbox poolLevelWrite r s)

/-- The three words of POOL.CONFIG_READ (03 R70). -/
def poolConfigWords (s : State) (d : Fab) (o : Nat) : List Word :=
  let q := s.pool d
  let l := Tbl.get levelDflt q.levels
  [pack [(35, 1, d.bit), (30, 5, o), (0, 16, Tbl.get limitDflt q.limits o)],
   pack [(35, 1, d.bit), (19, 16, l 0), (6, 13, l 1)],
   pack [(25, 11, l 2), (16, 9, l 3), (2, 14, l 4)]]

/-- 0x303 POOL.CONFIG_READ (03 R70). -/
def poolConfigRead : CmdSpec where
  opcode := 0x303
  lenOk := lenIs 1
  changes := fun _ => false
  fields := fun _ _ => [[fAny 35 35, fNeed 34 30 (· ≤ 16)]]
  run := fun r s => { st := s, payload := poolConfigWords s r.dieBit (r.fld 1 34 30) }

/-- Meaning of POOL_CONFIG_READ. -/
def execPoolConfigRead (r : Req) (s : State) : Res := .next (mailbox poolConfigRead r s)

/-- The counters of a pool, output or crosspoint as POOL.STATS_READ returns them (03 R71). -/
def poolStatsWords (s : State) (d : Fab) (kind i : Nat) : List Word :=
  let q := s.pool d
  if kind ≤ 4 then
    let c := s.ctr d kind
    [pack [(20, 16, c.inUse), (4, 16, c.hwm)]] ++ words72 c.allocs ++ words72 c.frees ++
      [w36 c.emptyFails, w36 c.fallbacks, w36 c.contended, w36 c.doubleFrees, w36 c.notOwner, w36 c.releaseErrs]
  else if kind = 5 then
    let o := Tbl.get OutPool.dflt q.outs i
    [pack [(20, 16, o.held), (4, 16, o.hwm)]] ++ words72 o.noCellDrops ++ words72 o.limitDrops ++ words72 o.spills
  else [pack [(30, 6, q.unitsUsed i), (24, 6, Tbl.get zeroAt q.unitsHwm i)]]

/-- CLEAR of POOL.STATS_READ: the 36-bit counters and the high-water marks returned (03 R71); a high-water mark restarts
from the use of now. -/
def State.poolStatsClear (s : State) (d : Fab) (kind i : Nat) : State :=
  if kind ≤ 4 then
    s.modCtr d kind fun c =>
      { c with hwm := c.inUse, emptyFails := 0, fallbacks := 0, contended := 0, doubleFrees := 0, notOwner := 0, releaseErrs := 0 }
  else if kind = 5 then
    s.modPool d fun q => { q with outs := Tbl.upd OutPool.dflt q.outs i fun o => { o with hwm := o.held } }
  else s.modPool d fun q => { q with unitsHwm := Tbl.put zeroAt q.unitsHwm i (q.unitsUsed i) }

/-- 0x304 POOL.STATS_READ (03 R71). -/
def poolStatsRead : CmdSpec where
  opcode := 0x304
  lenOk := lenIs 1
  changes := fun r => r.bit 1 22
  fields := fun r _ =>
    let k := r.fld 1 34 32
    [[fAny 35 35, fNeed 34 32 (· ≤ 6),
      if k ≤ 4 then fTo 31 23 (fun _ => true) 0 4
      else if k = 5 then fNeed 31 23 (· ≤ 16) else fNeed 31 23 (· ≤ 288),
      fAny 22 22]]
  run := fun r s =>
    let d := r.dieBit
    let k := r.fld 1 34 32
    let i := r.fld 1 31 23
    { st := if r.bit 1 22 then s.poolStatsClear d k i else s, payload := poolStatsWords s d k i }

/-- Meaning of POOL_STATS_READ. -/
def execPoolStatsRead (r : Req) (s : State) : Res := .next (mailbox poolStatsRead r s)

/-- The three words of a pool error-log entry (03 R66). -/
def PoolErr.words (e : PoolErr) : List Word := [e.wordA, pack [(28, 8, e.owner), (23, 5, e.share)], w36 e.time]

/-- 0x305 POOL.ERRLOG_READ (03 R72). -/
def poolErrlogRead : CmdSpec where
  opcode := 0x305
  lenOk := lenIs 1
  changes := fun r => r.bit 1 34
  fields := fun _ _ => [[fAny 35 35, fAny 34 34]]
  run := fun r s =>
    let q := s.pool r.dieBit
    { st := if r.bit 1 34 then s.modPool r.dieBit fun q => { q with errLog := [] } else s
      payload := [w36 q.errTotal, pack [(31, 5, q.errLog.length)]] ++ (q.errLog.map PoolErr.words).flatten }

/-- Meaning of POOL_ERRLOG_READ. -/
def execPoolErrlogRead (r : Req) (s : State) : Res := .next (mailbox poolErrlogRead r s)

/-- The control record of a buffer as a word (03 R53). -/
def poolRecordWord (q : PoolSt) (p i : Nat) : Word :=
  if p = 0 then
    let c := q.cellRec i
    pack [(21, 15, if c.last then 0 else c.next), (20, 1, b1 c.last), (12, 8, c.owner), (7, 5, c.share), (6, 1, b1 c.head)]
  else
    let b := Tbl.get BufRec.dflt (q.msg p) i
    pack [(20, 1, 1), (12, 8, b.owner), (7, 5, b.share)]

/-- 0x306 POOL.CELL_READ (03 R73). -/
def poolCellRead : CmdSpec where
  opcode := 0x306
  lenOk := lenIs 1
  changes := fun _ => false
  fields := fun r _ => [[fAny 35 35, fAny 34 33, fNeed 32 18 (· < poolSize (r.fld 1 34 33))]]
  run := fun r s =>
    let q := s.pool r.dieBit
    let p := r.fld 1 34 33
    let i := r.fld 1 32 18
    { st := s
      payload := [poolRecordWord q p i,
        if p = 0 then q.word0 i else pack [(0, 1, b1 (Tbl.get BufRec.dflt (q.msg p) i).inUse)]] }

/-- Meaning of POOL_CELL_READ. -/
def execPoolCellRead (r : Req) (s : State) : Res := .next (mailbox poolCellRead r s)

end Sys2Proof.Machine
end

