-- ==== Sys2Proof/Machine/Store.lean ====
section
/-! DEFINITION. Storing a frame, enqueueing its copies, and the frame that proves bad (02 R27 to R33, R38, R39, R42 to R44;
03 R51, R56, R64; 05 R124, R125; 06 R151, R155; 07 R173). -/

namespace Sys2Proof.Machine

/-! ### Outputs -/

/-- Configuration and counters of an output. -/
def State.outCfg (s : State) (d : Fab) (o : Nat) : OutCfg := Tbl.get OutCfg.dflt (s.fab d).outs o

/-- Change an output's configuration or counters. -/
def State.modOut (s : State) (d : Fab) (o : Nat) (f : OutCfg → OutCfg) : State :=
  s.modFab d fun q => { q with outs := Tbl.upd OutCfg.dflt q.outs o f }

/-- A 36-bit counter of an output steps (00 R4). -/
def State.outTick (s : State) (d : Fab) (o : Nat) (get : OutCfg → Nat) (set : OutCfg → Nat → OutCfg) : State :=
  let old := get (s.outCfg d o)
  s.dieTick d old 1 fun q => { q with outs := Tbl.upd OutCfg.dflt q.outs o fun c => set c (sat36 (get c) 1) }

/-- Change the per-output pool state of a die. -/
def State.modOutPool (s : State) (d : Fab) (o : Nat) (f : OutPool → OutPool) : State :=
  s.modPool d fun q => { q with outs := Tbl.upd OutPool.dflt q.outs o f }

/-- An output holds `n` more cells: CELLS_HELD and CELLS_HWM (03 R64, R67). -/
def State.heldUp (s : State) (d : Fab) (o n : Nat) : State :=
  s.modOutPool d o fun c => { c with held := c.held + n, hwm := max c.hwm (c.held + n) }

/-- Whether an output's link is up (02 R42). -/
def State.outUp (s : State) (d : Fab) (o : Nat) : Bool :=
  if o ≤ 12 then (s.port (portOf d o)).mode == .up
  else if o = 15 then inMask s.sys.links (1 + d.num)
  else if o = 16 then inMask s.sys.links 0 || inMask s.sys.links 1
  else true

/-- A copy of a frame that is dropped counts in its mirror session too, when it belongs to one (02 R44). -/
def State.mirrorLost (s : State) (c : Copy) : State :=
  match c.mirror with
  | none => s
  | some i =>
    let old := (s.mirrorCfg c.mirrorDie i).drops
    s.dieTick c.mirrorDie old 1 fun q =>
      { q with mirrors := Tbl.upd MirrorCfg.dflt q.mirrors i fun m => { m with drops := sat36 m.drops 1 } }

/-- FLUSH_DROPS of an output counts a copy (02 R42, R45). -/
def State.flushDrop (s : State) (d : Fab) (o : Nat) : State := s.modOut d o fun c => { c with flushDrops := add72 c.flushDrops 1 }

/-- A copy that has started proves bad: CT_BAD and its event (02 R39). -/
def State.ctBad (s : State) (d : Fab) (o cause : Nat) : State :=
  ((s.outTick d o OutCfg.ctBad fun c n => { c with ctBad := n }).modOut d o fun c => { c with ctCause := cause }).raiseDie d .ctBad

/-! ### Releasing storage -/

/-- Local index of the input a frame came in by. -/
def FrameSt.input (f : FrameSt) : Nat := if f.seamFrom.isSome then 16 else localOf f.inPort

/-- Owner ID of the ingress writer of a frame (03 R54). -/
def FrameSt.writerId (f : FrameSt) : Nat := 0x20 + f.input

/-- The crosspoint of a copy (01 R18). -/
def crosspoint (i o : Nat) : Nat := 17 * i + o

/-- Forget a frame that has ended and has no copy left. -/
def State.tidy (s : State) (d : Fab) (fid : Nat) : State :=
  match (s.fab d).frame fid with
  | some f => if f.ended && f.copies.isEmpty && !f.writer then s.forget d fid else s
  | none => s

/-- The output told LAST frees the whole chain (03 R56). -/
def State.chainLast (s : State) (d : Fab) (fid h x : Nat) : State :=
  ((s.freeCellChain d h x).1).modFrame d fid fun f => { f with head := none }

/-- Release everything a copy holds and remove it (02 R28, 03 R56). -/
def State.releaseCopy (s : State) (d : Fab) (fid : Nat) (c : Copy) : State :=
  match (s.fab d).frame fid with
  | none => s
  | some f =>
    let s1 := s.freeUnits d (crosspoint f.input c.out) c.out c.units
    let s2 := match c.spill with | some h => (s1.freeCellChain d h c.out).1 | none => s1
    let s3 :=
      match (if c.shares then f.head else none) with
      | none => s2
      | some h =>
        let x := s2.releaseCell d h c.out
        if x.2 == PoolOutcome.last then x.1.chainLast d fid h c.out else x.1
    ((s3.modOutPool d c.out fun o => { o with held := o.held - c.held }).modFrame d fid fun f =>
      { f with copies := f.copies.filter fun x => x.cid != c.cid }).tidy d fid

/-- The common chain of a frame is free. -/
def State.unchain (s : State) (d : Fab) (fid : Nat) : State := s.modFrame d fid fun f => { f with head := none }

/-- The writer gives up its hold on the common chain once every copy is decided: it frees a chain that no output holds
(03 R56). -/
def State.settleWriter (s : State) (d : Fab) (fid : Nat) : State :=
  match (s.fab d).frame fid with
  | none => s
  | some f =>
    if f.writer && f.ended && f.copies.all fun c => c.mode != .named then
      let s1 := s.modFrame d fid fun f => { f with writer := false, writerShare := false }
      match f.head with
      | none => s1.tidy d fid
      | some h =>
        if ((s.pool d).cellRec h).share ≤ 1 then (((s1.freeCellChain d h f.writerId).1).unchain d fid).tidy d fid
        else if f.writerShare then
          let x := s1.releaseCell d h f.writerId
          if x.2 == PoolOutcome.last then (((x.1.freeCellChain d h f.writerId).1).unchain d fid).tidy d fid
          else x.1.tidy d fid
        else s1.tidy d fid
    else s.tidy d fid

/-! ### FRER recovery -/

/-- Pass a frame: PASSED, and the RESET_MS timer restarts (05 R125). -/
def FrerDyn.pass (c : FrerDyn) (now : Nat) : FrerDyn := { c with passed := add72 c.passed 1, passAt := now }

/-- The judgement of a recovery function (05 R125). -/
def FrerDyn.judge (c : FrerDyn) (g : FrerCfg) (sq : Option Nat) (now : Nat) : FrerDyn × Bool :=
  match sq with
  | none =>
    let c1 := { c with tagless := sat36 c.tagless 1 }
    if g.takeNoSeq then (c1.pass now, true) else (c1, false)
  | some q =>
    if c.takeAny then ({ c with recovSeq := q, h := 1, takeAny := false }.pass now, true)
    else if g.mode = 3 then
      if q = c.recovSeq then ({ c with discarded := add72 c.discarded 1 }, false)
      else ({ c with recovSeq := q }.pass now, true)
    else
      let x := signedOf 16 ((q + 65536 - c.recovSeq) % 65536)
      if (g.history : Int) ≤ x ∨ x ≤ -(g.history : Int) then ({ c with rogue := sat36 c.rogue 1 }, false)
      else if x ≤ 0 then
        let k := (-x).toNat
        if inMask c.h k then ({ c with discarded := add72 c.discarded 1 }, false)
        else ({ c with h := setMask c.h k true, outOfOrder := sat36 c.outOfOrder 1 }.pass now, true)
      else
        let k := x.toNat
        let lost := ((List.range k).filter fun i => !inMask c.h (g.history - k + i)).length
        ({ c with lost := sat36 c.lost lost, h := setMask (c.h * 2 ^ k % 2 ^ 32) 0 true, recovSeq := q }.pass now, true)

/-- COUNT_SAT of a die for the saturating counters of a function (00 R4). -/
def FrerDyn.sats (c : FrerDyn) : List Nat := [c.outOfOrder, c.rogue, c.lost, c.tagless, c.resets]

/-- Run recovery function `n` on a frame at die `d` (05 R124). -/
def State.frerJudge (s : State) (d : Fab) (n : Nat) (ds : Desc) : State × Bool :=
  let g := Tbl.get FrerCfg.dflt s.tab.frer n
  if g.mode = 2 ∨ g.mode = 3 then
    let c := s.frerDyn d n
    let x := c.judge g (if ds.seqValid then some ds.seq else none) s.monoNs
    let s1 := s.modFrer d n fun _ => x.1
    let full := (c.sats.zip x.1.sats).any fun e => decide (e.1 < max36 ∧ e.2 = max36)
    (if full then s1.raiseDie d .countSat else s1, x.2)
  else (s.misconfig d, true)

/-! ### Enqueue -/

/-- Rate of a front port in kb/s. -/
def State.portKbps (s : State) (p : Nat) : Nat := rateKbps (s.port p).rateNow

/-- Whether a port is a 10BASE-T1S port (02 R30). -/
def isT1s (p : Nat) : Bool := p == 11 || p == 12 || p == 24 || p == 25

/-- Whether a frame is cut-through eligible toward an output of die `d` (02 R30). -/
def State.ctEligible (s : State) (d : Fab) (f : FrameSt) (o : Nat) : Bool :=
  let p := portOf d o
  decide (f.inPort ≤ 25) && !isT1s f.inPort && !f.macsec &&
    (o == 16 || (decide (o ≤ 12) && !isT1s p && (s.outCfg d o).ctEn && decide (s.portKbps p ≤ s.portKbps f.inPort)))

/-- Whether a copy uses its Pocket (02 R27, R28; 04 R96). -/
def State.pocketOk (s : State) (d : Fab) (f : FrameSt) (c : Copy) : Bool :=
  !f.noPocket && c.mirror.isNone && c.out != 13 && c.out != 14 && crosspoint f.input c.out != 288 &&
    inMask (s.outCfg d c.out).pocketMask c.queue

/-- The length that a copy's queue entry holds when LEN_VALID is 1 (02 R26, 07 R173). -/
def FrameSt.lenOf (f : FrameSt) (c : Copy) : Option Nat :=
  match f.desc with
  | some ds => if ds.lenValid then some ds.length else if c.ct then none else some f.len
  | none => none

/-- T_rx of a copy, quarter ns (02 R35). -/
def State.tRx (s : State) (f : FrameSt) (ct : Bool) : Nat := s.bytesU f.inPort (if ct then min f.len 128 else f.len) / 5

/-- The residence monitor of an output at an enqueue (02 R38). -/
def State.residence (s : State) (d : Fab) (o : Nat) (f : FrameSt) (ct : Bool) : State :=
  let lim := (s.outCfg d o).resLimit
  if lim ≠ 0 ∧ f.own.isNone ∧ f.epoch = s.tim.epoch ∧ f.tsQ + s.tRx f ct + 40 * lim < s.nowQ then
    (s.outTick d o OutCfg.resOverrun fun c n => { c with resOverrun := n }).raiseDie d .resOverrun
  else s

/-- Why an output refuses a copy at its enqueue. -/
inductive Refuse where
  | flush | limit | sdu | yellow
deriving DecidableEq, Repr

/-- The admission of a copy at its output (02 R42, 03 R64, 07 R173). -/
def State.admission (s : State) (d : Fab) (f : FrameSt) (c : Copy) : Option Refuse :=
  let lim := Tbl.get limitDflt (s.pool d).limits c.out
  let held := (Tbl.get OutPool.dflt (s.pool d).outs c.out).held
  let p := portOf d c.out
  let q := s.queueCfg p c.queue
  if !s.outUp d c.out then some .flush
  else if !c.pocket && lim != 0 && decide (lim ≤ held) then some .limit
  else if 12 < c.out then none
  else if (match f.lenOf c with | some n => decide (q.qmax < n) | none => false) then some .sdu
  else if (match f.desc with | some x => x.colour == 1 | none => false) && q.yellow != 0 &&
      decide (1024 * q.yellow ≤ (s.fab d).queueBytes c.out c.queue) then some .yellow
  else none

/-- Count a refusal (02 R42, R44; 03 R64; 07 R173). -/
def State.countRefuse (s : State) (d : Fab) (c : Copy) (w : Refuse) : State :=
  let s1 := match w with
    | .flush => s.flushDrop d c.out
    | .limit => s.modOutPool d c.out fun o => { o with limitDrops := add72 o.limitDrops 1 }
    | .sdu =>
      let old := (s.queueCtr d c.out c.queue).sduExceeded
      (s.modQctr d c.out c.queue fun x => { x with sduExceeded := sat36 x.sduExceeded 1 }).satRaise old 1 fun t => t.raiseDie d .countSat
    | .yellow =>
      let old := (s.queueCtr d c.out c.queue).yellowDrops
      (s.modQctr d c.out c.queue fun x => { x with yellowDrops := sat36 x.yellowDrops 1 }).satRaise old 1 fun t => t.raiseDie d .countSat
  s1.mirrorLost c

/-- Raise HWM_BYTES of a queue to its QUEUE_BYTES (07 R190). -/
def State.markHwm (s : State) (d : Fab) (o k : Nat) : State :=
  s.modQctr d o k fun x => { x with hwm := max x.hwm (min (2 ^ 24 - 1) ((s.fab d).queueBytes o k)) }

/-- Place one copy in its queue, or refuse it; the Bool says whether it was admitted; a frame enqueued during low-power idle
starts the wake (02 R30, R42; 03 R64; 07 R173; 09 R246). -/
def State.admitOne (s : State) (d : Fab) (fid : Nat) (f : FrameSt) (c : Copy) : State × Bool :=
  match s.admission d f c with
  | some w => ((s.countRefuse d c w).releaseCopy d fid c, false)
  | none =>
    let n := if c.pocket then 0 else f.cells
    let s1 := (s.modFrame d fid fun f => f.modCopy c.cid fun x =>
      { x with mode := .queued, ct := c.ct, order := (s.fab d).nextOrder, shares := !c.pocket, held := x.held + n }).modFab d
      fun q => { q with nextOrder := q.nextOrder + 1 }
    let w (s : State) : State :=
      if c.out ≤ 12 ∧ (s.port (portOf d c.out)).lpi then s.modPort (portOf d c.out) fun p => { p with lpiWaking := true } else s
    let s2 := w ((s1.heldUp d c.out n).residence d c.out f c.ct)
    (s2.markHwm d c.out c.queue, true)

/-- Enqueue the listed copies in turn; answers the number of new holders of the common chain, and the egress-mirror copies
that each admitted copy releases follow it (02 R43). -/
def State.admitAll (s : State) (d : Fab) (fid : Nat) (ready : Copy → Bool) : Nat → List Copy → State × Nat
  | 0, _ => (s, 0)
  | _ + 1, [] => (s, 0)
  | n + 1, c :: cs =>
    match (s.fab d).frame fid with
    | none => (s, 0)
    | some f =>
      let a := s.admitOne d fid f c
      let mine := f.copies.filter fun x => x.after == some c.cid
      let s1 :=
        if a.2 then a.1.modFrame d fid fun f =>
          { f with copies := f.copies.map fun x => if x.after == some c.cid then { x with after := none } else x }
        else mine.foldl (fun s x => s.releaseCopy d fid x) a.1
      let more := if a.2 then (mine.filter ready).map fun x => { x with after := none, ct := c.ct } else []
      let x := s1.admitAll d fid ready n (cs ++ more)
      (x.1, x.2 + b1 (a.2 && !c.pocket))

/-- FRER recovery before a die's first enqueue on an output other than the Seam: a discarded frame loses those copies
(05 R124). -/
def State.recover (s : State) (d : Fab) (fid : Nat) : State :=
  match (s.fab d).frame fid with
  | none => s
  | some f =>
    match f.desc, f.judged with
    | some ds, none =>
      match ds.recover with
      | none => s
      | some n =>
        if f.copies.any fun c => c.out != 16 then
          let x := s.frerJudge d n ds
          let s1 := x.1.modFrame d fid fun f => { f with judged := some x.2 }
          if x.2 then s1 else (f.copies.filter fun c => c.out != 16).foldl (fun s c => s.releaseCopy d fid c) s1
        else s
    | _, _ => s

/-- Enqueue the named copies that are ready: the cut-through ones at the first word, every one at the end. The writer shares
the common chain with the outputs that take it, and counts itself while copies still wait for the end (03 R56). -/
def State.enqueue (s : State) (d : Fab) (fid : Nat) (atEnd : Bool) : State :=
  match (s.fab d).frame fid with
  | none => s
  | some f0 =>
    let ready (c : Copy) : Bool := atEnd || s.ctEligible d f0 c.out
    if f0.copies.any fun c => c.mode == .named && c.after.isNone && ready c then
      let s1 := s.recover d fid
      match (s1.fab d).frame fid with
      | none => s1
      | some f =>
        let cs := (f.copies.filter fun c => c.mode == .named && c.after.isNone && ready c).map fun c => { c with ct := !atEnd }
        let x := s1.admitAll d fid ready (2 * f.copies.length + 1) cs
        match (x.1.fab d).frame fid with
        | none => x.1
        | some g =>
          match g.head with
          | none => x.1.settleWriter d fid
          | some h =>
            let own := if !atEnd && (g.copies.any fun c => c.mode == .named && !c.pocket) && ((x.1.pool d).cellRec h).share ≤ 1 then 1 else 0
            let k := x.2 + (if x.2 = 0 then 0 else own)
            let s2 := if own = 1 ∧ x.2 ≠ 0 then x.1.modFrame d fid fun f => { f with writerShare := true } else x.1
            (if k = 0 then s2 else (s2.shareCell d h f.writerId k).1).settleWriter d fid
    else s.settleWriter d fid

/-! ### Storing words -/

/-- Words of 36 bits of up to 32 frame bytes; `last` puts the end-of-frame tag into the last one (03 R51). -/
def frameWords (last : Bool) : Nat → List Byte → List Word
  | 0, _ => []
  | _ + 1, [] => []
  | n + 1, b :: bs =>
    let four := (b :: bs).take 4
    let rest := bs.drop 3
    let tag := if last && rest.isEmpty then 4 + (four.length - 1) else 0
    pack [(32, 4, tag), (0, 32, beVal four * 256 ^ (4 - four.length))] :: frameWords last n rest

/-- Write a fabric word into place `k` (0 to 7) of a cell (03 R51). -/
def PoolSt.putFabricWord (q : PoolSt) (c k : Nat) (ws : List Word) : PoolSt :=
  { q with cells := Tbl.puts cellWordDflt q.cells (64 * c + 8 * k) ws }

/-- The next cell of a writer: its first spare, which a new grant replaces, or a grant (03 R56). -/
def State.writerCell (s : State) (d : Fab) (i : Nat) : State × Option Nat :=
  match Tbl.get nilAt (s.pool d).spares i with
  | c :: cs =>
    let s1 := s.modPool d fun q => { q with spares := Tbl.put nilAt q.spares i cs }
    match s1.grantCell d (0x20 + i) with
    | (s2, some n) => (s2.addSpare d (0x20 + i) n, some c)
    | (s2, none) => (s2, some c)
  | [] => s.grantCell d (0x20 + i)

/-- Append cell `c` to the chain that ends at `t`, or start a chain with it (03 R53). -/
def PoolSt.linkCell (q : PoolSt) (t : Option Nat) (c x : Nat) : PoolSt :=
  match t with
  | none => q.putRec c { owner := x, share := 1, head := true }
  | some p =>
    let q1 := q.putRec p { q.cellRec p with next := c, last := false }
    q1.putRec c { owner := x, share := 1 }

/-- A copy meets a pool without a cell (02 R29, R39 cause 0x5; 03 R67). -/
def State.noCell (s : State) (d : Fab) (fid : Nat) (c : Copy) : State :=
  if c.mode = .sending then
    ((s.modFrame d fid fun f => f.modCopy c.cid fun x => { x with bad := some 5 }).ctBad d c.out 5).modOutPool d c.out fun o =>
      { o with noCellDrops := add72 o.noCellDrops 1 }
  else
    ((s.mirrorLost c).modOutPool d c.out fun o => { o with noCellDrops := add72 o.noCellDrops 1 }).releaseCopy d fid c

/-- Store the next fabric word in the common chain, when a copy needs it (03 R56). -/
def State.storeCommon (s : State) (d : Fab) (fid : Nat) (k : Nat) (ws : List Word) : State :=
  match (s.fab d).frame fid with
  | none => s
  | some f =>
    let users := f.copies.filter fun c => !c.pocket && c.bad.isNone
    if users.isEmpty then s
    else if k % 8 = 0 then
      match s.writerCell d f.input with
      | (s1, none) => users.foldl (fun s c => s.noCell d fid c) s1
      | (s1, some c) =>
        let s2 := s1.modPool d fun q =>
          (q.linkCell (if f.head.isSome then some f.tail else none) c f.writerId).putFabricWord c 0 ws
        let s3 := s2.modFrame d fid fun f =>
          { f with head := if f.head.isSome then f.head else some c, tail := c, cells := f.cells + 1,
                   copies := f.copies.map fun x => if x.shares then { x with held := x.held + 1 } else x }
        (f.copies.filter fun x => x.shares).foldl (fun s x => s.heldUp d x.out 1) s3
    else if f.head.isSome then s.modPool d fun q => q.putFabricWord f.tail (k % 8) ws
    else s

/-- Store the next fabric word in a copy's spill chain (02 R27, 03 R56). -/
def State.storeSpill (s : State) (d : Fab) (fid : Nat) (c : Copy) (ws : List Word) : State :=
  if c.spillWords % 8 = 0 then
    match s.grantCell d c.out with
    | (s1, none) => s1.noCell d fid c
    | (s1, some n) =>
      let s2 := s1.modPool d fun q =>
        (q.linkCell (if c.spill.isSome then some c.spillTail else none) n c.out).putFabricWord n 0 ws
      (s2.modFrame d fid fun f => f.modCopy c.cid fun x =>
        { x with spill := if x.spill.isSome then x.spill else some n, spillTail := n, spillWords := x.spillWords + 1,
                 held := x.held + 1 }).heldUp d c.out 1
  else
    (s.modPool d fun q => q.putFabricWord c.spillTail (c.spillWords % 8) ws).modFrame d fid fun f => f.modCopy c.cid fun x =>
      { x with spillWords := x.spillWords + 1 }

/-- Store fabric word `k` for one Pocket-eligible copy: in its Pocket while units are free, then in its spill chain
(02 R27). -/
def State.storePocket (s : State) (d : Fab) (fid k : Nat) (ws : List Word) (c : Copy) : State :=
  match (s.fab d).frame fid with
  | none => s
  | some f =>
    let x := crosspoint f.input c.out
    let write (s : State) (u : Nat) : State :=
      s.modPool d fun q => { q with pocketWords := Tbl.puts zeroW q.pocketWords (512 * x + 16 * u + 8 * (k % 2)) ws }
    if c.spill.isSome then s.storeSpill d fid c ws
    else if k % 2 = 1 then
      match c.units.getLast? with
      | some u => write s u
      | none => s
    else
      match (s.pool d).freeUnits x 1 with
      | some (u :: _) =>
        write ((s.grantUnits d x [u]).modFrame d fid fun f => f.modCopy c.cid fun y => { y with units := y.units ++ [u] }) u
      | _ => (s.modOutPool d c.out fun o => { o with spills := add72 o.spills 1 }).storeSpill d fid c ws

/-- Before the first word: which copies use their Pocket, and the egress-mirror copies of each output (02 R27, R43). -/
def State.prepare (s : State) (d : Fab) (fid : Nat) (f : FrameSt) : State :=
  let base := f.copies.map fun c => { c with pocket := s.pocketOk d f c }
  let extra := (base.filter fun c => c.mirror.isNone && c.out != 16).map fun c =>
    ((List.range 4).filter fun i =>
      let m := s.mirrorCfg d i
      m.enable && (m.mode == 1 || m.mode == 2) && inMask m.sourceMask (portOf d c.out) &&
        (dieOfPort m.destPort == d || f.seamFrom.isNone)).map fun i =>
      let m := s.mirrorCfg d i
      let near := dieOfPort m.destPort == d
      ({ out := if near then localOf m.destPort else 16, queue := m.destQueue, mirror := some i, mirrorDie := d, trunc := m.truncate,
         after := some c.cid, editOf := some (portOf d c.out), dest := m.destPort } : Copy)
  s.modFrame d fid fun f => { f with copies := base ++ numberCopies 64 extra.flatten }

/-- Raise HWM_BYTES of the queues in which a frame waits while it is stored: it counts the bytes stored so far (07 R173,
R190). -/
def State.markGrowth (s : State) (d : Fab) (fid : Nat) : State :=
  match (s.fab d).frame fid with
  | none => s
  | some f => (f.copies.filter fun c => c.mode == .queued).foldl (fun s c => s.markHwm d c.out c.queue) s

/-- Store fabric word number `k` of a frame on a die, and enqueue its cut-through copies after the first one; `early` says
that the frame's end has not been received (02 R27 to R30; 07 R190). -/
def State.storeWord (s : State) (d : Fab) (fid : Nat) (data : List Byte) (last early : Bool) : State :=
  match (s.fab d).frame fid with
  | none => s
  | some f =>
    let k := f.stored
    let ws := frameWords last 8 data
    let s1 := if k = 0 then s.prepare d fid f else s
    let s2 := s1.storeCommon d fid k ws
    let pk : List Copy := match (s2.fab d).frame fid with | some g => g.copies.filter fun c => c.pocket && c.bad.isNone | none => []
    let s3 := (pk.foldl (fun s c => s.storePocket d fid k ws c) s2).modFrame d fid fun f => { f with stored := k + 1 }
    if k = 0 ∧ early then s3.enqueue d fid false else s3.markGrowth d fid

/-- Meaning of FABRIC_WORD_STORE: the next fabric word of a frame that has its descriptor, once its bytes are in ingress
staging (02 R27). -/
def execFabricWordStore (die : Fab) (fid : Nat) (s : State) : Res :=
  .next (
    match (s.fab die).frame fid with
    | none => s
    | some f =>
      if f.mode == .decided && f.seamFrom.isNone && f.own.isNone && decide (f.stored < f.words) then
        let n := min f.len (32 * (f.stored + 1))
        let s1 := s.advQ (s.arrived f n)
        s1.storeWord die fid (slice f.bytes (32 * f.stored) (n - 32 * f.stored)) (f.stored + 1 == f.words)
          (decide (s1.nowQ < s1.rxEnd f))
      else s)

/-! ### The end of a frame -/

/-- Return the difference between the charges of a frame and `actual`, or the whole charge (06 R155, 09 R240). -/
def State.giveBackAll (s : State) (d : Fab) (f : FrameSt) (whole : Bool) : State :=
  f.charges.foldl (fun s c =>
    let cfg := s.zon.meter c.meter
    let n := if whole then c.bytes else c.bytes - (f.len + cfg.overhead)
    s.modZd d fun z => z.modMeter c.meter fun m => m.giveBack cfg c.committed n) s

/-- Copies of a frame of a die. -/
def State.copiesOf (s : State) (d : Fab) (fid : Nat) : List Copy :=
  match (s.fab d).frame fid with | some f => f.copies | none => []

/-- The frame's copies at this die when it ends bad: those that have started are ended under R39, the others are dropped
(02 R39). -/
def State.endBad (s : State) (d : Fab) (fid : Nat) (cause : Nat) : State :=
  (s.copiesOf d fid).foldl (fun s c =>
    if c.mode = .sending then
      if c.bad.isSome then s
      else (s.modFrame d fid fun f => f.modCopy c.cid fun x => { x with bad := some cause }).ctBad d c.out cause
    else
      ((s.outTick d c.out OutCfg.badDrops fun o n => { o with badDrops := n }).mirrorLost c).releaseCopy d fid c) s

/-- Drop the copies that have not been enqueued, without a count of any output (06 R151, 09 R240). -/
def State.dropNamed (s : State) (d : Fab) (fid : Nat) : State :=
  ((s.copiesOf d fid).filter fun c => c.mode == .named).foldl (fun s c => s.releaseCopy d fid c) s

/-- The late length check of a stream filter (06 R151 step 3). -/
def State.sduLate (s : State) (d : Fab) (fid : Nat) (f : FrameSt) : State :=
  match f.filter with
  | none => s
  | some (k, mx, blk) =>
    if mx < f.len then
      let some' := f.copies.any fun c => c.mode != .named
      let s1 := if some' then s.filterTick d k FilterDyn.sduLate fun x n => { x with sduLate := n }
        else s.filterTick d k FilterDyn.sduDrops fun x n => { x with sduDrops := n }
      (s1.filterBlock d k blk).dropNamed d fid
    else s

/-- The fault of a frame at its ingress MAC, as the cause of R39 (02 R39, 09 R240). -/
def FrameSt.macFault (f : FrameSt) : Option Nat :=
  if 9216 < f.bytes.length then some 3 else if f.phyErr then some 2 else if !f.fcsOk then some 1 else none

/-- Whether the derived length disagrees with the actual one (04 R79). -/
def FrameSt.lenWrong (f : FrameSt) : Bool :=
  match f.desc with
  | some ds => ds.lenValid && ds.length != f.len
  | none => false

/-- Count a MAC fault at the ingress port (09 R240). -/
def State.countMac (s : State) (f : FrameSt) (cause : Nat) : State :=
  if 25 < f.inPort then s
  else if cause = 3 then s.portTick f.inPort PortSt.rxOversize fun c n => { c with rxOversize := n }
  else s.portTick f.inPort PortSt.rxFcs fun c n => { c with rxFcs := n }

/-- The end of a frame of this die's own ingress (02 R30, R39; 04 R79; 06 R151, R155; 09 R240). -/
def State.endFrame (s : State) (d : Fab) (fid : Nat) (f : FrameSt) : State :=
  let cut := f.copies.any fun c => c.ct
  let ended (s : State) : State := (s.modFrame d fid fun f => { f with ended := true, charges := [], filter := none }).settleWriter d fid
  match f.macFault with
  | some cause =>
    let s1 := s.countMac f cause
    if cut then ended (((s1.giveBackAll d f false).sduLate d fid f).endBad d fid cause)
    else ended ((s1.giveBackAll d f true).dropNamed d fid)
  | none =>
    let s1 := (s.giveBackAll d f false).sduLate d fid f
    if f.lenWrong then
      if cut then ended (s1.endBad d fid 4)
      else
        let old := (s1.parsePort f.inPort).malformed
        ended (((s1.modParse f.inPort fun c => { c with malformed := sat36 c.malformed 1, malCause := 3 }).satRaise old 1
          fun t => t.raiseDie d .countSat).dropNamed d fid)
    else ((ended s1).enqueue d fid true)

/-- Meaning of FRAME_END_STORED: the last byte of a frame is stored, `dt` ticks after its last byte was received at the
earliest (02 R30). -/
def execFrameEndStored (die : Fab) (fid dt : Nat) (s : State) : Res :=
  .next (
    match (s.fab die).frame fid with
    | none => s
    | some f =>
      if f.mode == .decided && f.seamFrom.isNone && f.own.isNone && !f.ended && f.stored == f.words then
        ((s.advQ (s.rxEnd f)).adv dt).endFrame die fid f
      else s)

end Sys2Proof.Machine
end

