-- ==== Sys2Proof/Machine/Seam.lean ====
section
/-! DEFINITION. The Seam: starting frames, sending and receiving fabric words, and the loss of a link (01 R10, R11, R19; 02 R33). -/

namespace Sys2Proof.Machine

/-- Whether Seam link `l` is up: 0 SA, 1 SB (01 R9). -/
def State.seamUp (s : State) (l : Nat) : Bool := decide (l ≤ 1) && inMask s.sys.links l

/-- The Seam link of a frame: the pin or the hash while both links are up, else the surviving one (01 R10, R11). -/
def State.seamLink (s : State) (f : FrameSt) (c : Copy) : Nat :=
  if s.seamUp 0 ∧ s.seamUp 1 then
    match (f.desc.getD {}).pin with
    | 1 => 0
    | 2 => 1
    | _ => Config.seamHash f.inPort c.queue % 2
  else if s.seamUp 0 then 0 else 1

/-- The Seam copies of a die in a mode that `p` selects, the highest queue first and each queue in its order (01 R19). -/
def insSeam (e : Nat × FrameSt × Copy) : List (Nat × FrameSt × Copy) → List (Nat × FrameSt × Copy)
  | [] => [e]
  | x :: r =>
    if x.2.2.queue < e.2.2.queue ∨ (x.2.2.queue = e.2.2.queue ∧ e.2.2.order < x.2.2.order) then e :: x :: r
    else x :: insSeam e r

/-- The Seam copies of a die that `p` selects, in the order in which a link serves them (01 R19). -/
def FabSt.seamCopies (q : FabSt) (p : FrameSt → Copy → Bool) : List (Nat × FrameSt × Copy) :=
  ((q.frames.map fun e => (e.2.copies.filter fun c => c.out == 16 && p e.2 c).map fun c => (e.1, e.2, c)).flatten).foldr insSeam []

/-- Meaning of SEAM_FRAME_START: a link with fewer than 16 frames in flight starts the next frame that R10 assigns to it
(01 R19). -/
def execSeamFrameStart (die : Fab) (link : Nat) (s : State) : Res :=
  let q := s.fab die
  .next (
    if s.seamUp link && decide ((q.seamCopies fun _ c => c.mode == .sending && c.link == link).length < 16) then
      match q.seamCopies fun f c => c.mode == .queued && s.seamLink f c == link with
      | [] => s
      | (fid, _, c) :: _ =>
        s.modFrame die fid fun f => f.modCopy c.cid fun x => { x with mode := .sending, link := link, startQ := s.nowQ }
    else s)

/-- Whether a started Seam copy has a word ready: a stored one, the last only once the frame's end is stored; or it ends for
want of a cell (01 R19, 02 R29). -/
def seamReady (f : FrameSt) (c : Copy) : Bool :=
  c.bad == some 5 || (decide (c.seamSent < f.stored) && (f.ended || decide (c.seamSent + 1 < f.words)))

/-- The frame as the first word carries it to the far die: its descriptor with OUT_MASK replaced by FAR_MASK, and the copies
that the far die makes (02 R33). -/
def FrameSt.crossing (f : FrameSt) (fid : Nat) (c : Copy) : FrameSt :=
  let far : List Copy :=
    match c.mirror with
    | some _ =>
      [{ out := localOf c.dest, queue := c.queue, mirror := c.mirror, mirrorDie := c.mirrorDie, editOf := c.editOf, trunc := c.trunc }]
    | none => f.far
  let ds := f.desc.getD {}
  { f with copies := far, far := [], seamFrom := some (c.link, fid),
           desc := some { ds with outMask := maskOf (far.map Copy.out), farMask := 0, seam := true },
           stored := 0, ended := false, head := none, tail := 0, cells := 0, writer := true, writerShare := false,
           judged := none, charges := [], filter := none }

/-- A frame sent whole from a queue and not ended bad: TX_FRAMES and TX_OCTETS (07 R190). -/
def State.countTx (s : State) (d : Fab) (o q n : Nat) : State :=
  s.modQctr d o q fun x => { x with txFrames := add72 x.txFrames 1, txOctets := add72 x.txOctets n }

/-- Meaning of SEAM_WORD_SEND: a link sends the next ready word of a started frame, of the highest queue first (01 R19). -/
def execSeamWordSend (die : Fab) (link : Nat) (s : State) : Res :=
  .next (
    if s.seamUp link then
      match (s.fab die).seamCopies fun f c => c.mode == .sending && c.link == link && seamReady f c with
      | [] => s
      | (fid, f, c) :: _ =>
        let cutOff := c.bad == some 5
        let last := cutOff || c.seamSent + 1 == f.words
        let w : SeamWord :=
          { fid := fid, header := if c.seamSent = 0 then some (f.crossing fid c) else none,
            data := if cutOff then [] else slice (f.bytes.take f.len) (32 * c.seamSent) 32, last := last,
            bad := if last then c.bad else none }
        let s1 := s.modFab die fun q => { q with seamWords := Tbl.upd nilAt q.seamWords link fun l => l ++ [w] }
        let s2 := s1.modFrame die fid fun f => f.modCopy c.cid fun x => { x with seamSent := x.seamSent + 1 }
        if last then (if c.bad.isNone then s2.countTx die 16 c.queue f.len else s2).releaseCopy die fid c else s2
    else s)

/-- A frame of a die that is being received over a Seam link, by its number on the sending die. -/
def FabSt.arriving (q : FabSt) (link n : Nat) : Option (Nat × FrameSt) :=
  q.frames.find? fun e => e.2.seamFrom == some (link, n) && !e.2.ended

/-- The far die receives the end of a frame: bad under R39, and then no longer than the words that have reached it, or whole
(02 R33, R39). -/
def State.seamEnd (s : State) (d : Fab) (fid : Nat) (bad : Option Nat) : State :=
  let ended (s : State) : State := (s.modFrame d fid fun f => { f with ended := true }).settleWriter d fid
  match bad with
  | some cause => ended ((s.modFrame d fid fun f => { f with bytes := f.bytes.take (32 * f.stored) }).endBad d fid cause)
  | none => (ended s).enqueue d fid true

/-- SEAM_ERRORS of a die steps, and its event (02 R45, 13 R375). -/
def State.seamError (s : State) (d : Fab) : State :=
  (s.dieTick d (s.fab d).seamErrors 1 fun q => { q with seamErrors := sat36 q.seamErrors 1 }).raiseDie d .seamError

/-- Meaning of SEAM_WORD_RX: the far die receives the next word on a link, stores it and enqueues the frame under R30
(02 R33). -/
def execSeamWordRx (die : Fab) (link : Nat) (s : State) : Res :=
  .next (
    match Tbl.get nilAt (s.fab die.other).seamWords link with
    | [] => s
    | w :: ws =>
      let s0 := s.modFab die.other fun q => { q with seamWords := Tbl.put nilAt q.seamWords link ws }
      let s1 :=
        match w.header with
        | some f =>
          if (f.desc.getD {}).farMask ≠ 0 then s0.seamError die
          else if s0.has die.num && (s0.pool die).built then (s0.addFrame die f).1 else s0
        | none => s0
      match (s1.fab die).arriving link w.fid with
      | none => s1
      | some (fid, _) =>
        let s2 := if w.data.isEmpty then s1 else s1.storeWord die fid w.data w.last (!w.last)
        if w.last then s2.seamEnd die fid w.bad else s2)

/-- The numbers of the frames that a die had started on a link and of which no word has been received. -/
def State.unreceived (s : State) (d : Fab) (link : Nat) : List Nat :=
  let inFlight := ((s.fab d).seamCopies fun _ c => c.mode == .sending && c.link == link && c.seamSent == 0).map fun e => e.1
  inFlight ++ ((Tbl.get nilAt (s.fab d).seamWords link).filter fun w => w.header.isSome).map fun w => w.fid

/-- One direction of a lost Seam link, from die `d`: frames in flight end bad at the receiver, or at the sender when no word
of them had arrived (01 R11). -/
def State.seamCut (s : State) (d : Fab) (link : Nat) : State :=
  let s1 := (s.unreceived d link).foldl (fun s _ => s.seamError d) s
  let s2 := ((s1.fab d).seamCopies fun _ c => c.mode == .sending && c.link == link).foldl (fun s e => s.releaseCopy d e.1 e.2.2)
    (s1.modFab d fun q => { q with seamWords := Tbl.put nilAt q.seamWords link [] })
  let r := d.other
  ((s2.fab r).frames.filter fun e => (match e.2.seamFrom with | some x => x.1 == link | none => false) && !e.2.ended).foldl
    (fun s e => (s.seamEnd r e.1 (some 6)).seamError r) s2

/-- Every frame in the queues of an output, and the one it sends, is dropped and counted (02 R42). -/
def State.flushOutput (s : State) (d : Fab) (o : Nat) : State :=
  let cs := ((s.fab d).frames.map fun e =>
    (e.2.copies.filter fun c => c.out == o && c.mode != .named).map fun c => (e.1, c)).flatten
  (cs.foldl (fun s e => (s.flushDrop d o).releaseCopy d e.1 e.2) s).modEd d fun q => { q with tx := Tbl.put TxSt.dflt q.tx o {} }

/-- Meaning of SEAM_LINK_LOST: a watchdog declares SA or SB lost, in the direction from West, from East, or both (01 R11). -/
def execSeamLinkLost (link : Nat) (west east : Bool) (s : State) : Res :=
  .next (
    if s.seamUp link && (west || east) then
      let s1 := s.modSys fun y => { y with links := setMask y.links link false }
      let s2 := (s1.seamCut .west link).seamCut .east link
      let s3 := if west then s2.logFault 1 1 link else s2
      let s4 := if east then s3.logFault 1 2 link else s3
      if s4.seamUp 0 ∨ s4.seamUp 1 then s4 else (s4.flushOutput .west 16).flushOutput .east 16
    else s)

end Sys2Proof.Machine
end

