-- ==== Sys2Proof/Machine/Edit.lean ====
section
/-! DEFINITION. Egress edits: tags, R-TAG, the stacking header, truncation and what a copy carries on the line (05 R119, R122;
02 R43; 06 R156; 09 R252 to R254; 17 R494, R496). -/

namespace Sys2Proof.Machine

/-- A frame body under edit: its bytes without the FCS, whether it has an outer tag, and the bytes that the output has added. -/
structure Body where
  /-- Bytes without the FCS. -/
  bytes : List Byte := []
  /-- It has an outer tag. -/
  tagged : Bool := false
  /-- Bytes added in 07 R177's sense. -/
  adds : Nat := 0
deriving DecidableEq, Repr

/-- A TCI (05 R118). -/
def tciOf (pcp dei vid : Nat) : Nat := pcp % 8 * 8192 + dei % 2 * 4096 + vid % 4096

/-- TCI of the outer tag. -/
def Body.tci (b : Body) : Nat := beVal (slice b.bytes 14 2)

/-- Replace the TCI of the outer tag. -/
def Body.setTci (b : Body) (t : Nat) : Body := { b with bytes := splice b.bytes 14 (beBytes 2 t) }

/-- Add an outer tag with TPID 0x8100 (05 R119). -/
def Body.push (b : Body) (t : Nat) : Body :=
  { bytes := b.bytes.take 12 ++ beBytes 2 0x8100 ++ beBytes 2 t ++ b.bytes.drop 12, tagged := true, adds := b.adds + 4 }

/-- Remove the outer tag; an inner tag then stands outermost (05 R119; that a TPID 0x8100 marks it is PRESUMED, log 19). -/
def Body.pop (b : Body) : Body :=
  let bs := b.bytes.take 12 ++ b.bytes.drop 16
  { b with bytes := bs, tagged := typeOf bs == 0x8100 }

/-- VLAN_ACT of the descriptor (05 R119). -/
def Body.vlanAct (b : Body) (ds : Desc) : Body :=
  match ds.vlanAct with
  | 1 => if b.tagged then b.pop else b
  | 2 => if b.tagged then b.setTci (tciOf ds.pcp ds.dei ds.vid) else b.push (tciOf ds.pcp ds.dei ds.vid)
  | 3 => if b.tagged then b.setTci (tciOf ds.pcp ds.dei ds.vid) else b.push (tciOf ds.pcp 0 ds.vid)
  | 4 => b.push (tciOf ds.pcp ds.dei ds.vid)
  | _ => b

/-- EG_MODE of an output (05 R119). -/
def Body.egMode (b : Body) (v : VlanPort) (ds : Desc) : Body :=
  match v.egMode with
  | 1 => if b.tagged && b.tci % 4096 == v.pvid then b.pop else b
  | 2 => if b.tagged then b else b.push (tciOf ds.pcp 0 ds.vid)
  | _ => b

/-- DEI 1 in the outer tag of a yellow frame so marked (06 R156). -/
def Body.mark (b : Body) (on : Bool) : Body :=
  if on && b.tagged && b.tci / 4096 % 2 == 0 then b.setTci (b.tci + 4096) else b

/-- The R-TAG of an output with RTAG_TX 1 (05 R122). -/
def Body.rtag (b : Body) (v : VlanPort) (ds : Desc) : Body :=
  if v.rtagTx && ds.seqValid then
    let i := if b.tagged then 16 else 12
    { b with bytes := b.bytes.take i ++ beBytes 2 0xF1C1 ++ beBytes 2 0 ++ beBytes 2 ds.seq ++ b.bytes.drop i, adds := b.adds + 6 }
  else b

/-- The body of a copy after the edits of its output, or of the source output for an egress-mirror copy (02 R43, 05 R119). -/
def State.editBody (s : State) (d : Fab) (f : FrameSt) (c : Copy) : Body :=
  let b : Body := { bytes := bodyOf (f.bytes.take 9216), tagged := f.tagged }
  match f.desc with
  | none => b
  | some ds =>
    if f.own.isSome || c.head64 || (c.mirror.isSome && c.editOf.isNone) then b
    else
      let v := s.vlanPort (c.editOf.getD (portOf d c.out))
      (((b.vlanAct ds).egMode v ds).mark f.deiMark).rtag v ds

/-- Bytes of a copy on the line, from the destination address to the FCS: the edited frame with its FCS, cut to TRUNCATE for
a mirror copy, and with the FCS inverted when it is ended bad (02 R39, R43; 05 R119). -/
def State.lineBytes (s : State) (d : Fab) (f : FrameSt) (c : Copy) : List Byte :=
  let b := (s.editBody d f c).bytes
  let cut := if c.trunc = 0 then b.length else c.trunc - 4
  let body := b.take cut
  if c.bad.isSome then body ++ (fcsOf body).map fun x => x ^^^ 0xFF else body ++ fcsOf body

/-- Whether a frame is controlled by the SecY of its output: not EAPOL, gPTP, or stack control on a Hem link (09 R253). -/
def controlled (f : FrameSt) : Bool :=
  !(etherOf f.bytes == 0x888E || isGptp f.bytes || f.own == some .stackControl)

/-- MACsec protects a copy at its output (09 R253). -/
def State.protects (s : State) (d : Fab) (f : FrameSt) (o : Nat) : Bool :=
  decide (o ≤ 12) && (s.port (portOf d o)).secy.enable && controlled f

/-- Bytes that MACsec adds to a copy (09 R254). -/
def State.secAdds (s : State) (d : Fab) (f : FrameSt) (o : Nat) : Nat :=
  if s.protects d f o then (s.port (portOf d o)).secy.adds else 0

/-- b of R177: LENGTH or QMAX_SDU, with the bytes that the output adds (07 R177). -/
def State.checkBytes (s : State) (d : Fab) (f : FrameSt) (c : Copy) : Nat :=
  (f.lenOf c).getD (s.queueCfg (portOf d c.out) c.queue).qmax + (s.editBody d f c).adds + s.secAdds d f c.out + 20

/-- Bytes that a copy is charged: its length and the bytes that the output adds (07 R184). -/
def State.chargeBytes (s : State) (d : Fab) (f : FrameSt) (c : Copy) : Nat :=
  f.len + (s.editBody d f c).adds + s.secAdds d f c.out + 20

/-- The stacking header of a frame on a Hem link (17 R494, R496). -/
def State.stackHeader (s : State) (f : FrameSt) : List Byte :=
  let ty := match f.own with | some .stackControl => 2 | some .bridge => 1 | _ => 0
  let zone := (f.desc.getD {}).inZone
  let h : HemHdr := match f.hem with
    | some h => { h with hops := h.hops + 1 }
    | none => { zone := zone, inPort := f.inPort, hops := 0, origin := s.sys.member }
  let five : List Byte :=
    [BitVec.ofNat 8 (s.sys.member % 4 * 64 + ty * 16 + zone % 16), BitVec.ofNat 8 (h.inPort % 32 * 8 + h.hops % 4 * 2),
     BitVec.ofNat 8 (h.origin % 4 * 64), 0, 0]
  five ++ [BitVec.ofNat 8 (crc8 five)]

end Sys2Proof.Machine
end

