-- ==== Sys2Proof/Machine/Own.lean ====
section
/-! DEFINITION. Messages of the device's own in the egress queues, and the gPTP messages (08 R222 to R225; their layout is that of
IEEE 802.1AS-2020, PRESUMED, log 22). -/

namespace Sys2Proof.Machine

/-- An Ethernet frame of the given addresses, EtherType and payload, filled to 64 bytes with its FCS. -/
def etherFrame (dmac smac type : Nat) (body : List Byte) : List Byte :=
  let b := beBytes 6 dmac ++ beBytes 6 smac ++ beBytes 2 type ++ body
  let b := b ++ List.replicate (60 - b.length) 0
  b ++ fcsOf b

/-- Put a frame of the device's own into a queue of an output; it is held by its sender and takes no cell (log 22). -/
def State.inject (s : State) (p q : Nat) (m : OwnMsg) (bytes : List Byte) : State :=
  let d := dieOfPort p
  let ds : Desc := { inPort := p, queue := q, length := bytes.length, lenValid := true, preempt := inMask s.egr.preempt q,
                     inTs := s.now72 }
  let c : Copy := { out := localOf p, queue := q }
  let f : FrameSt := { inPort := p, tsQ := s.nowQ, epoch := s.tim.epoch, bytes := bytes, mode := .decided, ended := true,
                       stored := ceilDiv bytes.length 32, desc := some ds, copies := [c], own := some m }
  if s.has d.num && (s.pool d).built then
    let x := s.addFrame d f
    (x.1.admitOne d x.2 f c).1
  else s

/-! ### gPTP messages -/

/-- Destination address of gPTP (08 R224). -/
def gptpDmac : Nat := 0x0180C200000E

/-- clockIdentity from the base MAC address (08 R222). -/
def State.clockId (s : State) : List Byte :=
  beBytes 3 (s.img.baseMac / 2 ^ 24) ++ [0xFF, 0xFE] ++ beBytes 3 s.img.baseMac

/-- sourcePortIdentity of a port. -/
def State.portId (s : State) (p : Nat) : List Byte := s.clockId ++ beBytes 2 (p + 1)

/-- A timestamp field: seconds and nanoseconds of a time in quarter ns. -/
def ptpStamp (q : Int) : List Byte := beBytes 6 (q.toNat / qPerSec) ++ beBytes 4 (q.toNat % qPerSec / 4)

/-- correctionField of a correction in quarter ns. -/
def ptpCorr (q : Int) : List Byte := beBytes 8 (ofSigned 64 (q * 16384))

/-- The frame of one gPTP message: its type, flags, correction, sequenceId, controlField, logMessageInterval and body. -/
def State.ptpFrame (s : State) (p type flags : Nat) (corr : Int) (seq ctl : Nat) (log : Int) (body : List Byte) : List Byte :=
  let hdr := beBytes 1 (16 + type) ++ [0x12] ++ beBytes 2 (34 + body.length) ++ beBytes 1 s.tim.cfg.domain ++ [0] ++ beBytes 2 flags ++
    ptpCorr corr ++ beBytes 4 0 ++ s.portId p ++ beBytes 2 seq ++ beBytes 1 ctl ++ beBytes 1 (ofSigned 8 log)
  etherFrame gptpDmac s.img.baseMac 0x88F7 (hdr ++ body)

/-- gPTP of a port. -/
def State.gptp (s : State) (p : Nat) : PtpPort := Tbl.get PtpPort.dflt s.tim.ports p

/-- Change the gPTP of a port. -/
def State.modGptp (s : State) (p : Nat) (f : PtpPort → PtpPort) : State :=
  s.modTim fun t => { t with ports := Tbl.upd PtpPort.dflt t.ports p f }

/-- Inject a gPTP message in PTP_QUEUE (08 R223). -/
def State.sendPtp (s : State) (p : Nat) (m : OwnMsg) (bytes : List Byte) : State := s.inject p s.tim.cfg.ptpQueue m bytes

/-- A message of the device's own has left: the times that the time engine keeps, and the Pdelay_Resp_Follow_Up with the time
at which its Pdelay_Resp left (08 R221, R223). -/
def State.ownSent (s : State) (p : Nat) (f : FrameSt) (c : Copy) : State :=
  let t : Int := (c.startQ : Int) + 4 * (s.gptp p).txExtra
  match f.own with
  | some (.sync _) =>
    (s.modGptp p fun x => { x with followUp := some t.toNat, syncTx := sat36 x.syncTx 1 }).satRaise (s.gptp p).syncTx 1
      fun t => t.raiseDie (dieOfPort p) .countSat
  | some (.pdelayReq n) => if n = (s.gptp p).reqSeq then s.modGptp p fun x => { x with exchange := some t.toNat, resp := none } else s
  | some (.pdelayResp n) =>
    s.sendPtp p (.pdelayRespFollowUp n)
      (s.ptpFrame p 0xA 0 (t - t / 4 * 4) n 5 127 (ptpStamp t ++ slice f.bytes 58 10))
  | _ => s

end Sys2Proof.Machine
end

