-- ==== Sys2Proof/Machine/Egress.lean ====
section
/-! DEFINITION. Egress: selection, transmission, the end of a frame, preemption, shapers and underruns (02 R31, R36, R39, R42;
07 R172, R177, R178, R184 to R191). -/

namespace Sys2Proof.Machine

/-- Transmission at an output. -/
def State.tx (s : State) (d : Fab) (o : Nat) : TxSt := Tbl.get TxSt.dflt (s.fab d).egr.tx o

/-- Change the transmission at an output. -/
def State.modTx (s : State) (d : Fab) (o : Nat) (f : TxSt → TxSt) : State :=
  s.modEd d fun e => { e with tx := Tbl.upd TxSt.dflt e.tx o f }

/-- A frame and copy of a die by their numbers. -/
def State.copyAt (s : State) (d : Fab) (k : Nat × Nat) : Option (FrameSt × Copy) :=
  ((s.fab d).frame k.1).bind fun f => (f.copy k.2).map fun c => (f, c)

/-- Time of `n` bytes at an output, quarter ns, rounded up. -/
def State.lineQ (s : State) (d : Fab) (o n : Nat) : Nat := ceilDiv (s.bytesU (portOf d o) n) 5

/-! ### Credit -/

/-- Bytes of the charged frame that have left by now (07 R184). -/
def State.leftBytes (s : State) (d : Fab) (o : Nat) : Nat :=
  let t := s.tx d o
  let u := s.bytesU (portOf d o) 1
  min t.bytes (t.base + (s.nowQ - t.beginQ) * 5 / u)

/-- Charge the credit with the bytes that have left, or with all of them (07 R184). -/
def State.settle (s : State) (d : Fab) (o : Nat) (whole : Bool) : State :=
  if o ≤ 12 then
    let t := s.tx d o
    let n := if whole then t.bytes else s.leftBytes d o
    let s1 := s.modTx d o fun t => { t with charged := max t.charged n }
    if (s.queueCfg (portOf d o) t.queue).cbsNow then
      s1.modQueue (portOf d o) t.queue fun c => { c with credit := c.credit - 8192 * ((max t.charged n - t.charged : Nat) : Int) }
    else s1
  else s

/-! ### Eligibility -/

/-- The head of a queue: the queued copy with the lowest place (02 R32). -/
def FabSt.headOf (q : FabSt) (o k : Nat) : Option (Nat × FrameSt × Copy) :=
  (q.queued o k).foldl (fun b e =>
    match b with
    | none => some e
    | some x => if e.2.2.order < x.2.2.order then some e else b) none

/-- Whether a copy is sent as preemptable at its output (07 R186, R187). -/
def State.preempts (s : State) (d : Fab) (f : FrameSt) (o : Nat) : Bool :=
  decide (o ≤ 12) && s.mmActive (portOf d o) && (f.desc.getD {}).preempt

/-- Whether an output is in hold (07 R176, R188). -/
def State.inHold (s : State) (d : Fab) (o : Nat) : Bool :=
  decide (o ≤ 12) && s.mmActive (portOf d o) && (s.gate (portOf d o)).hold

/-- The staging condition of a cut-through frame (02 R31). -/
def staged64 (f : FrameSt) (c : Copy) : Bool := !c.ct || f.ended || decide (64 ≤ 32 * f.stored)

/-- The length check of a frame against the CLOSE of its queue, at the instant `t` (07 R177). -/
def State.lengthOk (s : State) (d : Fab) (f : FrameSt) (c : Copy) : Bool :=
  if 12 < c.out then true
  else
    let p := portOf d c.out
    let g := s.gate p
    match g.close c.queue with
    | none => true
    | some x =>
      decide (((s.nowQ + 1000 + s.lineQ d c.out (s.checkBytes d f c) + 4 * (s.port p).plcaWait p + 4 * g.oper.cfg.guard : Nat) : Int) ≤ x)

/-- The receive ring of a host-port queue: the function and its ring (13 R380). -/
def State.hostRing (s : State) (d : Fab) (q : Nat) : Option (Path × Ring) :=
  let p0 : Path := if d = .west then .pcieW0 else .pcieE0
  let p1 : Path := if d = .west then .pcieW1 else .pcieE1
  let r0 := Tbl.get Ring.dflt (s.path p0).rx q
  let r1 := Tbl.get Ring.dflt (s.path p1).rx q
  if r0.enable then some (p0, r0) else if r1.enable then some (p1, r1) else none

/-- Frames that were sent toward a ring and are not yet in its buffers. -/
def HostSt.inRing (h : HostSt) (p : Path) (q : Nat) : Nat := (h.delivering.filter fun x => x.path == p && x.ring == q).length

/-- A host-port frame may be selected: its ring has a posted buffer, or no ring is enabled and it is dropped (13 R380). -/
def State.ringOk (s : State) (d : Fab) (q : Nat) : Bool :=
  match s.hostRing d q with
  | none => true
  | some (p, r) => (r.tail + 65536 - r.head) % 65536 != s.host.inRing p q

/-- Whether the head of a queue is eligible now; `expressOnly` while an interrupted frame waits (07 R172, R188). -/
def State.eligible (s : State) (d : Fab) (o q : Nat) (expressOnly : Bool) : Option (Nat × FrameSt × Copy) :=
  match (s.fab d).headOf o q with
  | none => none
  | some (fid, f, c) =>
    let p := portOf d o
    let k := s.queueCfg p q
    let pre := s.preempts d f o
    if staged64 f c && (decide (12 < o) || (inMask (s.gate p).gatesNow q && (!k.cbsNow || decide (0 ≤ k.credit)))) &&
        s.lengthOk d f c && !(pre && (expressOnly || s.inHold d o)) && (o != 14 || s.ringOk d q) then some (fid, f, c)
    else none

/-- The eligible head of the highest queue (07 R172). -/
def State.choose (s : State) (d : Fab) (o : Nat) (expressOnly : Bool) : Option (Nat × FrameSt × Copy) :=
  (List.range 32).reverse.findSome? fun q => s.eligible d o q expressOnly

/-! ### Selection -/

/-- Start a copy on its output: its preamble begins at `b` (02 R25, R36; 07 R178, R184). -/
def State.startTx (s : State) (d : Fab) (o : Nat) (k : Nat × Nat) (f : FrameSt) (c : Copy) (b : Nat) (wait : Bool) : State :=
  let pre := if o ≤ 12 then 8 else 0
  let n := (s.lineBytes d f c).length + s.secAdds d f o
  let dur := pre + n - c.sent
  let s1 := s.settle d o true
  let s2 := s1.modTx d o fun t =>
    { t with cur := some k, next := none, waitPlca := wait, queue := c.queue, beginQ := b, dur := dur, bytes := s.chargeBytes d f c,
             base := if c.sent = 0 then 0 else c.sent + 8, charged := if c.sent = 0 then 0 else c.sent + 8, close := if o ≤ 12 then (s.gate (portOf d o)).close c.queue else none,
             freeQ := b + s.lineQ d o (dur + (if o ≤ 12 then 12 else 0)) }
  s2.modFrame d k.1 fun f => f.modCopy k.2 fun x => { x with mode := .sending, startQ := if x.sent = 0 then b + s.lineQ d o pre else x.startQ }

/-- What is done to a selected frame before it starts: the drops of a host port without a ring, of MACsec, and of an oversize
frame; none when it is dropped (05 R119; 09 R253, R254, R256; 13 R380). -/
def State.beforeTx (s : State) (d : Fab) (o : Nat) (fid : Nat) (f : FrameSt) (c : Copy) : State × Bool :=
  let p := portOf d o
  let drop (s : State) : State × Bool := (s.releaseCopy d fid c, false)
  if o = 14 ∧ (s.hostRing d c.queue).isNone then
    drop (s.modHost fun h =>
      match d with
      | .west => { h with noRingW := Tbl.upd zeroAt h.noRingW c.queue fun n => sat36 n 1 }
      | .east => { h with noRingE := Tbl.upd zeroAt h.noRingE c.queue fun n => sat36 n 1 })
  else
    let y := (s.port p).secy
    let len := (s.lineBytes d f c).length + s.secAdds d f o
    let modY (f : SecySt → SecySt) : State := s.modPort p fun c => { c with secy := f c.secy }
    let big (s : State) : State := s.vlanTick p VlanPort.oversize fun c n => { c with oversize := n }
    if s.protects d f o then
      if y.txSa.isNone then drop (modY fun y => { y with outNoSa := sat36 y.outNoSa 1 })
      else if (if y.xpn then 2 ^ 64 else 2 ^ 32) ≤ y.nextPn then drop (modY fun y => { y with outPnExhausted := sat36 y.outPnExhausted 1 })
      else if 9216 < len then drop (big s)
      else
        let s1 := modY fun y => { y with outProtected := add72 y.outProtected 1, nextPn := y.nextPn + 1 }
        (if y.nextPn + 1 = (if y.xpn then 0xC000000000000000 else 0xC0000000) then s1.raiseDie d .macsecPn else s1, true)
    else if 9216 < len then
      if c.ct then ((s.modFrame d fid fun f => f.modCopy c.cid fun x => { x with bad := some 3 }).ctBad d o 3, true)
      else drop (big s)
    else (s, true)

/-- Whether an output can take its next frame now: idle, or sending one whose line time ends within the 250 ns of R36 (02 R36). -/
def State.canSelect (s : State) (d : Fab) (o : Nat) : Bool :=
  let t := s.tx d o
  let p := portOf d o
  let c := s.port p
  s.outUp d o && t.next.isNone && !(decide (o ≤ 12) && (c.lpi || (kindOfPort p == .multidrop && t.cur.isSome))) &&
    (t.cur.isNone || t.paused.isNone) && !t.waitPlca &&
    decide (t.freeQ + (if o ≤ 12 then s.lineQ d o 8 else 0) ≤ s.nowQ + 1000)

/-- EGRESS_SELECT at one output: the highest eligible queue, or the remainder of an interrupted frame; its egress timestamp
follows `lat` quarter ns later, between 100 and 250 ns (02 R36; 07 R172, R188). -/
def State.select (s0 : State) (d : Fab) (o lat : Nat) : State :=
  if o ≤ 12 ∨ o = 14 ∨ o = 15 then
    let s := s0.settle d o false
    if s.canSelect d o then
      let t := s.tx d o
      let l := min 1000 (max 400 lat)
      let pre := if o ≤ 12 then s.lineQ d o 8 else 0
      let b := max t.freeQ (s.nowQ + l - pre)
      match s.choose d o t.paused.isSome with
      | some (fid, f, c) =>
        match s.beforeTx d o fid f c with
        | (s1, false) => s1
        | (s1, true) =>
          match s1.copyAt d (fid, c.cid) with
          | none => s1
          | some (f1, c1) =>
            if t.cur.isSome then
              (s1.modTx d o fun t => { t with next := some (fid, c.cid, s.nowQ + l) }).modFrame d fid fun f =>
                f.modCopy c.cid fun x => { x with mode := .sending }
            else s1.startTx d o (fid, c.cid) f1 c1 b (decide (o ≤ 12) && kindOfPort (portOf d o) == .multidrop)
      | none =>
        match t.paused with
        | some k =>
          if t.cur.isNone && !s.inHold d o then
            match s.copyAt d k with
            | some (f, c) => (s.startTx d o k f c b false).modTx d o fun t => { t with paused := none }
            | none => s.modTx d o fun t => { t with paused := none }
          else s
        | none => s
    else s
  else s0

/-- Meaning of EGRESS_SELECT, `dt` ticks after the last command. -/
def execEgressSelect (die : Fab) (out lat dt : Nat) (s : State) : Res := .next ((s.adv dt).select die out lat)

/-! ### The end of a frame -/

/-- The bin of a sampler for a DELAY in ns (07 R191). -/
def Sampler.bin (c : Sampler) (delay : Nat) : Nat := min 15 ((delay - c.binBase) / c.binWidth)

/-- A sampler counts a frame of its queue (07 R191). -/
def State.sampleFrame (s : State) (d : Fab) (i delay : Nat) : State :=
  let c := s.sampler d i
  let late := decide (c.limit ≠ 0 ∧ c.limit < delay)
  let s1 := s.modSampler d i fun c =>
    { c with bins := Tbl.upd zeroAt c.bins (c.bin delay) fun n => sat36 n 1, above := if late then sat36 c.above 1 else c.above }
  if late && c.above == 0 then s1.raiseDie d .qdelay else s1

/-- DELAY of a frame sent from a queue: least, greatest and the samplers, unless a time step lies within it (07 R190, R191;
08 R211). -/
def State.countDelay (s : State) (d : Fab) (o : Nat) (f : FrameSt) (c : Copy) : State :=
  if f.own.isSome ∨ f.epoch ≠ s.tim.epoch then s
  else
    let delay := min max36 ((c.startQ - f.tsQ) / 4)
    let s1 := s.modQctr d o c.queue fun x => { x with delayMin := min x.delayMin delay, delayMax := max x.delayMax delay }
    ((List.range 4).filter fun i => (s.sampler d i).enable && (s.sampler d i).output == o && (s.sampler d i).queue == c.queue).foldl
      (fun s i => s.sampleFrame d i delay) s1

/-- The descriptor that goes with a copy, as eight words (02 R26). -/
def State.descWords (_ : State) (f : FrameSt) (c : Copy) : List Word :=
  let x := f.desc.getD {}
  let len := f.lenOf c
  [pack [(31, 5, x.inPort), (27, 4, x.inZone), (23, 4, x.cls), (9, 14, len.getD 0), (8, 1, b1 len.isSome), (7, 1, b1 c.ct),
         (6, 1, b1 x.seam), (5, 1, b1 x.hem), (4, 1, b1 c.mirror.isSome), (3, 1, b1 c.editOf.isSome)]] ++
    words72 x.inTs ++
    [pack [(19, 17, x.outMask), (14, 5, c.queue), (0, 14, x.stream)],
     pack [(19, 17, x.farMask), (3, 16, x.seq), (2, 1, b1 x.seqValid), (0, 2, x.colour)],
     pack [(28, 8, x.fwdGen), (20, 8, x.ruleGen), (8, 12, x.rule), (4, 4, x.mirror), (3, 1, b1 x.cpuCopy), (2, 1, b1 x.preempt)],
     pack [(21, 15, (if c.pocket then c.spill else f.head).getD 0), (20, 1, b1 ((if c.pocket then c.spill else f.head).isSome)),
           (15, 5, c.units.head?.getD 0), (14, 1, b1 (!c.units.isEmpty))],
     pack [(32, 4, x.vlanAct), (20, 12, x.vid), (17, 3, x.pcp), (16, 1, x.dei)]]

/-- What becomes of a frame that has left its output: the line, the host port's ring, or the Cuff link (02 R25; 11 R302;
13 R380). -/
def State.handOut (s : State) (d : Fab) (o : Nat) (f : FrameSt) (c : Copy) : State :=
  let bs := s.lineBytes d f c
  if o ≤ 12 then
    let p := portOf d o
    (s.emit (.frame p c.startQ (if s.isHem p then s.stackHeader f else []) bs (s.protects d f o))).ownSent p f c
  else if o = 14 then
    match s.hostRing d c.queue with
    | some (p, _) =>
      s.modHost fun h => { h with delivering := h.delivering ++ [{ path := p, ring := c.queue, desc := s.descWords f c, bytes := bs }] }
    | none => s
  else if o = 15 then
    s.modGw fun g => { g with inbox := g.inbox ++ [{ stream := (f.desc.getD {}).stream, zone := (f.desc.getD {}).inZone, bytes := bs }] }
  else s

/-- A frame has been sent to its end: counters, overrun of its gate, and what it leaves behind (05 R130; 07 R178, R190). -/
def State.finishTx (s : State) (d : Fab) (o : Nat) (k : Nat × Nat) (f : FrameSt) (c : Copy) : State :=
  let t := s.tx d o
  let p := portOf d o
  let n := (s.lineBytes d f c).length
  let s1 := if c.bad.isSome then s
    else ((s.modVlan p fun v => { v with outFrames := add72 v.outFrames 1, outOctets := add72 v.outOctets n }).countTx d o c.queue n).countDelay d o f c
  let late := match t.close with | some x => decide (x < (s.nowQ : Int)) | none => false
  let s2 := if late then
      (let old := (s1.queueCtr d o c.queue).txOverrun
       (s1.modQctr d o c.queue fun x => { x with txOverrun := sat36 x.txOverrun 1 }).satRaise old 1 fun t => t.raiseDie d .countSat).raiseDie
        d .gateOverrun
    else s1
  let s3 := if c.sent ≠ 0 ∧ o ≤ 12 then s2.modMm p fun m => { m with fragTx := add72 m.fragTx 1 } else s2
  let s4 := (s3.handOut d o f c).releaseCopy d k.1 c
  match t.next with
  | none => s4.modTx d o fun t => { t with cur := none, close := none }
  | some (a, b, at') =>
    match s4.copyAt d (a, b) with
    | none => s4.modTx d o fun t => { t with cur := none, next := none, close := none }
    | some (g, e) =>
      let pre := if o ≤ 12 then s4.lineQ d o 8 else 0
      s4.startTx d o (a, b) g e (max t.freeQ (at' - pre)) false

/-- The transmission of a frame that its end has cut short: it takes the line for the bytes that it has (01 R11; 02 R39). -/
def State.trimTx (s : State) (d : Fab) (o : Nat) (f : FrameSt) (c : Copy) : State :=
  let dur := (if o ≤ 12 then 8 else 0) + ((s.lineBytes d f c).length + s.secAdds d f o) - c.sent
  if c.bad.isSome && decide (dur < (s.tx d o).dur) then
    s.modTx d o fun t =>
      { t with dur := dur, bytes := s.chargeBytes d f c, freeQ := t.beginQ + s.lineQ d o (dur + (if o ≤ 12 then 12 else 0)) }
  else s

/-- Meaning of EGRESS_FRAME_END: the last byte of the frame in transmission leaves its output (07 R178, R190). -/
def execEgressFrameEnd (die : Fab) (out : Nat) (s : State) : Res :=
  let t := s.tx die out
  .next (
    match t.cur with
    | none => s
    | some k =>
      match s.copyAt die k with
      | none => s.modTx die out fun t => { t with cur := none, next := none }
      | some (f, c) =>
        if !t.waitPlca && (f.ended || c.bad.isSome) then
          let s1 := s.trimTx die out f c
          ((s1.advQ (t.beginQ + s1.lineQ die out (s1.tx die out).dur)).settle die out false).finishTx die out k f c
        else s)

/-- Meaning of STAGING_UNDERRUN: egress staging runs empty before the end of a cut-through frame (02 R31, R39 cause 0x7). -/
def execStagingUnderrun (die : Fab) (out : Nat) (s : State) : Res :=
  let t := s.tx die out
  .next (
    match t.cur.bind fun k => (s.copyAt die k).map fun x => (k, x) with
    | none => s
    | some (k, f, c) =>
      if !f.ended && c.bad.isNone && !t.waitPlca then
        let s1 := s.advQ (c.startQ + s.lineQ die out (min f.len (32 * f.stored)))
        let s2 := (s1.modFrame die k.1 fun f => f.modCopy k.2 fun x => { x with bad := some 7 }).ctBad die out 7
        ((s2.copiesOf die k.1).filter fun x => x.mode != .sending).foldl (fun s x =>
          ((s.outTick die x.out OutCfg.badDrops fun o n => { o with badDrops := n }).mirrorLost x).releaseCopy die k.1 x) s2
      else s)

/-! ### Preemption and shapers -/

/-- Bytes after the SFD that the frame in transmission has sent at the earliest point of interruption: at least the minimum
fragment less its check value, in steps of 8 (07 R187, R188; IEEE 802.3br PRESUMED, log 20). -/
def State.cutPoint (s : State) (d : Fab) (o : Nat) : Nat :=
  let t := s.tx d o
  let gone := (s.nowQ - t.beginQ) * 5 / s.bytesU (portOf d o) 1 - 8
  let least := 60 + 64 * (s.mm (portOf d o)).addFrag
  max least (8 * ceilDiv gone 8)

/-- Meaning of EXPRESS_PREEMPT, `dt` ticks after the last command: a preemptable frame is interrupted for an eligible express
frame or for hold (07 R188). -/
def execExpressPreempt (die : Fab) (out dt : Nat) (s0 : State) : Res :=
  let s := s0.adv dt
  let t := s.tx die out
  .next (
    match t.cur.bind fun k => (s.copyAt die k).map fun x => (k, x) with
    | none => s
    | some (k, f, _) =>
      let cut := s.cutPoint die out
      if s.preempts die f out && t.paused.isNone && t.next.isNone && ((s.choose die out true).isSome || s.inHold die out) &&
          decide (cut + 64 + 8 ≤ t.dur) then
        let s1 := (s.advQ (t.beginQ + s.lineQ die out (8 + cut))).settle die out false
        let gone := (s1.tx die out).charged
        ((s1.modTx die out fun t =>
          { t with cur := none, paused := some k, bytes := gone, freeQ := t.beginQ + s.lineQ die out (8 + cut + 4 + 12), close := none }).modFrame
            die k.1 fun f => f.modCopy k.2 fun x => { x with sent := x.sent + cut }).modMm (portOf die out) fun m =>
              { m with fragTx := add72 m.fragTx 1 }
      else s)

/-- One refill of a queue's credit (07 R184, R185). -/
def QueueCfg.refill (c : QueueCfg) (kbps : Nat) (busy gateOpen : Bool) : QueueCfg × Bool :=
  let c1 : QueueCfg :=
    if c.cbs != c.cbsNow then { c with cbsNow := c.cbs, slopeNow := c.slope, credit := 0 } else { c with slopeNow := c.slope }
  if !c1.cbsNow then (c1, false)
  else if !gateOpen then (c1, false)
  else if busy || decide (c1.credit < 0) then
    let up : Int := c1.credit + ((min c1.slopeNow kbps * 524288 / 1000 : Nat) : Int)
    let top : Int := 131071 * 1024
    ({ c1 with credit := if top < up then top else up }, decide (top < up))
  else ({ c1 with credit := min c1.credit 0 }, false)

/-- Refill every queue of a port (07 R184). -/
def State.refillPort (s : State) (p : Nat) : State :=
  let d := dieOfPort p
  let o := localOf p
  let t := s.tx d o
  (List.range 32).foldl (fun s q =>
    let busy := !((s.fab d).queued o q).isEmpty || ((t.cur.isSome || t.paused.isSome) && t.queue == q)
    let x := (s.queueCfg p q).refill (s.portKbps p) busy (inMask (s.gate p).gatesNow q)
    let s1 := s.modQueue p q fun _ => x.1
    if x.2 then
      let old := (s1.queueCtr d o q).creditClamps
      (s1.modQctr d o q fun c => { c with creditClamps := sat36 c.creditClamps 1 }).satRaise old 1 fun t => t.raiseDie d .countSat
    else s1) (s.settle d o false)

/-- Meaning of CBS_REFILL: 512 ns of the gate timer, 160 ticks, after the last refill (07 R184, R185). -/
def execCbsRefill (port : Nat) (s : State) : Res :=
  .next (if port ≤ 25 then
    let s1 := s.advTick ((s.gate port).refillAt + 160)
    (s1.refillPort port).modGate port fun g => { g with refillAt := s1.tim.ticks }
  else s)

end Sys2Proof.Machine
end

