-- ==== Sys2Proof/Machine/Activate.lean ====
section
/-! DEFINITION. Activations, the learning engine, fragment and FRER timers, RESTORE_HOLD, and delivery to the CPU port
(03 R61; 04 R91, R95; 05 R120, R125, R126, R129; 06 R148). -/

namespace Sys2Proof.Machine

/-! ### Activations -/

/-- Meaning of ACTIVATION_ARM_DEADLINE: T − 10 µs; when a die has not reported armed, no die switches and the command returns
TIMEOUT (04 R95, 05 R129, 06 R148). -/
def execActivationArmDeadline (armed : Bool) (s : State) : Res :=
  .next (
    match s.tab.act with
    | none => s
    | some a =>
      if a.reached then s
      else
        let s1 := s.advQ (a.t - qUs 10)
        if armed && (a.kind != .policy || s.has 5) then s1
        else (s1.modTab fun t => { t with act := none }).finish a.path .timeout [] [])

/-- Meaning of ACTIVATION_TIME_REACHED: at T both fabric dies use the new bank, generation or matrix (04 R94, R95; 05 R129;
06 R148). -/
def execActivationTimeReached (s : State) : Res :=
  .next (
    match s.tab.act with
    | none => s
    | some a =>
      if a.reached then s
      else
        let s1 := s.advQ a.t
        let t72 := timeOfQ a.t
        match a.kind with
        | .rule =>
          s1.modTab fun t => { t with gen := t.gen + 1, retiring := true, ruleT := t72, act := some { a with reached := true } }
        | .fwd =>
          s1.modTab fun t => { t with fgen := t.fgen + 1, sweep := true, fwdT := t72, act := some { a with reached := true } }
        | .policy =>
          ((s1.modZon fun z => z.setRows a.rows).modTab fun t => { t with act := none }).finish a.path .done (words72 t72) [3])

/-- Whether a frame still waits for a final descriptor of an older rule generation (04 R94). -/
def State.oldGen (s : State) : Bool :=
  [Fab.west, Fab.east].any fun d => (s.fab d).frames.any fun e =>
    e.2.mode != .decided && (match e.2.pre with | some x => x.gen != s.tab.gen | none => false)

/-- Meaning of RULE_BANK_RETIRED: no frame of the old generation remains, and the retiring bank is overwritten with the live
one (04 R94, R95, R105). -/
def execRuleBankRetired (s : State) : Res :=
  .next (
    match s.tab.act with
    | none => s
    | some a =>
      if a.kind == .rule && a.reached && !s.oldGen then
        (s.modTab fun t => { t.setBank (t.gen + 1) (t.bank t.gen) with retiring := false, act := none }).finish a.path .done
          (pack [(28, 8, s.tab.gen)] :: words72 s.tab.ruleT) [3]
      else s)

/-- The sweep: staged groups of the new generation become live, and withdrawn ones are cleared (05 R129). -/
def TabSt.swept (t : TabSt) : TabSt :=
  { t with fwd := t.fwdList.foldl (fun x e =>
      let v := e.2
      if v.valid && v.stage == 1 && v.gbit == t.fgen % 2 then Tbl.put FwdEnt.dflt x e.1 (v.setHead true 0 0)
      else if v.valid && v.stage == 2 && v.gbit == t.fgen % 2 then Tbl.put FwdEnt.dflt x e.1 (v.setHead false 0 0)
      else x) t.fwd }

/-- Meaning of FWD_SWEEP_END (05 R129, R133). -/
def execFwdSweepEnd (s : State) : Res :=
  .next (
    match s.tab.act with
    | none => s
    | some a =>
      if a.kind == .fwd && a.reached then
        (s.modTab fun t => { t.swept with sweep := false, act := none }).finish a.path .done
          (pack [(28, 8, s.tab.fgen)] :: words72 s.tab.fwdT) [3]
      else s)

/-! ### Learning -/

/-- A learned entry (05 R120). -/
def learnedEntry (q : LearnReq) (queue : Nat) : FwdEnt :=
  { w0 := pack [(35, 1, 1), (27, 1, 1), (13, 12, q.vid), (0, 13, q.mac / 2 ^ 35)], w1 := pack [(1, 35, q.mac)],
    w2 := pack [(6, 30, 2 ^ portsBit q.port), (1, 5, queue)], w3 := 0 }

/-- The lowest free index of the learning region (05 R120). -/
def TabSt.learnSlot (t : TabSt) : Option Nat :=
  ((List.range t.learnCount).find? fun k => !(t.fwdEnt (t.learnBase + k)).valid).map fun k => t.learnBase + k

/-- The learning engine of die `d` serves a request (05 R120). -/
def State.learn (s : State) (d : Fab) (q : LearnReq) : State :=
  let queue := (s.vlanPort q.port).learnQueue
  match s.macEntry 0 q.mac q.vid with
  | some (i, e) =>
    if !e.learned then s.dieTick d (s.fab d).learnConflicts 1 fun x => { x with learnConflicts := sat36 x.learnConflicts 1 }
    else if e.ports = 2 ^ portsBit q.port then s
    else
      (s.modTab fun t => t.putFwd i [{ e with w2 := (learnedEntry q (e.queue)).w2 }]).dieTick d (s.fab d).moves 1
        fun x => { x with moves := sat36 x.moves 1 }
  | none =>
    match s.tab.learnSlot with
    | some i => s.modTab fun t => t.putFwd i [learnedEntry q queue]
    | none => s.dieTick d (s.fab d).learnFull 1 fun x => { x with learnFull := sat36 x.learnFull 1 }

/-- Meaning of LEARN_ENTRY_WRITE: the oldest request is looked up again and its entry written (05 R120). -/
def execLearnEntryWrite (s : State) : Res :=
  let d := s.learnDie
  .next (
    match (s.fab d).learnQ with
    | [] => s
    | q :: qs =>
      let s1 := s.modFab d fun x => { x with learnQ := qs }
      if s.tab.learnEn then s1.learn d q else s1)

/-! ### Timers -/

/-- Meaning of FRAG_TIMEOUT: FRAG_TIMEOUT has passed since the first fragment of an entry (04 R91). -/
def execFragTimeout (die : Fab) (index : Nat) (s : State) : Res :=
  let e := Tbl.get FragEnt.dflt (s.fab die).frags index
  .next (if e.valid then
    (s.advNs (e.born + e.timeout * 1000000)).dieTick die (s.fab die).fragTimeouts 1 fun q =>
      { q with frags := Tbl.put FragEnt.dflt q.frags index {}, fragTimeouts := sat36 q.fragTimeouts 1 }
  else s)

/-- Meaning of FRER_RESET_TIMEOUT: RESET_MS passes without a passed frame (05 R125). -/
def execFrerResetTimeout (die : Fab) (fn : Nat) (s : State) : Res :=
  let g := Tbl.get FrerCfg.dflt s.tab.frer fn
  let c := s.frerDyn die fn
  .next (if (g.mode = 2 ∨ g.mode = 3) ∧ fn < 1024 ∧ c.takeAny = false then
    ((s.advNs (c.passAt + g.resetMs * 1000000)).modFrer die fn fun c =>
      { c with takeAny := true, h := 0, resets := sat36 c.resets 1 }).satRaise c.resets 1 fun t => t.raiseDie die .countSat
  else s)

/-- Meaning of RESTORE_HOLD_END: a port's link has been up for RESTORE_HOLD, and its bit of the link-down vector is cleared
(05 R126). -/
def execRestoreHoldEnd (port : Nat) (s : State) : Res :=
  let c := s.port port
  .next (if port ≤ 25 ∧ c.mode = .up ∧ inMask s.tab.linkDown port then
    (s.advNs (c.upAt + (s.vlanPort port).restoreHold * 1000000)).modTab fun t => { t with linkDown := setMask t.linkDown port false }
  else s)

/-! ### The CPU port -/

/-- Frame bytes packed four to a word, without tags (03 R61). -/
def packBytes : Nat → List Byte → List Word
  | 0, _ => []
  | _ + 1, [] => []
  | n + 1, b :: bs =>
    let four := (b :: bs).take 4
    pack [(0, 32, beVal four * 256 ^ (4 - four.length))] :: packBytes n (bs.drop 3)

/-- Content of a message buffer for a frame: its descriptor and its bytes, cut after byte 2 016, or the first 64 bytes of a
malformed one (03 R61, 04 R81). -/
def State.cpuContent (s : State) (d : Fab) (f : FrameSt) (c : Copy) : List Word :=
  let bs := if c.head64 then f.bytes.take 64 else (s.lineBytes d f c).take 2016
  s.descWords f c ++ packBytes 504 bs

/-- A core is active, so that the CPU port of die `d` delivers to it (01 R13, 12 R343). -/
def State.cpuServed (s : State) (d : Fab) : Bool := !s.pair.held && s.pair.active == d && (s.core d).mode == .active

/-- Meaning of CPU_PORT_DELIVERY: the head of the highest queue of a CPU port is placed in a message buffer, with fall-back,
and handed to the firmware; with no buffer it stays (03 R60, R61). -/
def execCpuPortDelivery (die : Fab) (s : State) : Res :=
  .next (
    if s.cpuServed die then
      match (List.range 32).reverse.findSome? fun q => (s.fab die).headOf 13 q with
      | none => s
      | some (fid, f, c) =>
        let ws := s.cpuContent die f c
        match s.allocMsg die 0x47 ws.length true with
        | (s1, none) => s1
        | (s1, some (p, i)) =>
          let n := (s.lineBytes die f c).length
          let s2 := (s1.shareMsg die p i 0x47 1).1.modPool die fun q => { q with content := Tbl.put nilAt q.content (65536 * p + i) ws }
          let c1 := { c with startQ := s.nowQ }
          let port := portOf die 13
          let s3 := ((s2.modVlan port fun v => { v with outFrames := add72 v.outFrames 1, outOctets := add72 v.outOctets n }).countTx
            die 13 c.queue n).countDelay die 13 f c1
          (s3.emit (.cpuFrame die p i ws)).releaseCopy die fid c
    else s)

end Sys2Proof.Machine
end

