-- ==== Sys2Proof/Machine/Maint.lean ====
section
/-! DEFINITION. The maintenance token and the MAINT commands (18 R521, R522, R532, R533). -/

namespace Sys2Proof.Machine

/-- EXCL(a, b) of an exclusion table (18 R521). -/
def exclOf (t a b : Nat) : Bool := inMask t (4 * a + b)

/-- Whether an activity on an object can have the token now (18 R522). -/
def State.tokenFree (s : State) (a obj : Nat) : Bool :=
  s.sys.holders.all (fun h => !exclOf s.sys.excl a h.activity) && decide (s.sys.holders.length < 8) &&
    !(a == 3 && (s.port obj).mode == .diag)

/-- Grant the token to an activity (18 R522). -/
def State.takeToken (s : State) (a obj : Nat) : State :=
  (s.modSys fun y => { y with holders := y.holders ++ [{ activity := a, object := obj }] }).raiseDev .maintenance

/-- Release the token for an activity on an object; nothing when it does not hold it (18 R522). -/
def State.dropToken (s : State) (a obj : Nat) : State :=
  let h : Holder := { activity := a, object := obj }
  if h ∈ s.sys.holders then (s.modSys fun y => { y with holders := y.holders.erase h }).raiseDev .maintenance else s

/-- 0x051 MAINT.STATUS_READ (18 R532). -/
def maintStatusRead : CmdSpec where
  opcode := 0x051
  lenOk := lenIs 0
  changes := fun _ => false
  run := fun _ s =>
    { st := s,
      payload :=
        [pack ((List.range 4).map fun a => (32 + a, 1, b1 (s.sys.holders.any fun h => h.activity == a))),
         pack ((List.range 26).map fun p => (10 + p, 1, b1 ((s.port p).mode == .diag))),
         pack [(20, 16, s.sys.excl)]] }

/-- Meaning of MAINT_STATUS_READ. -/
def execMaintStatusRead (r : Req) (s : State) : Res := .next (mailbox maintStatusRead r s)

/-- The mandatory bits of the exclusion table: every pair among activities 0 to 2 (18 R521). -/
def exclFixed (i : Nat) : Bool := decide (i / 4 ≤ 2 ∧ i % 4 ≤ 2)

/-- 0x052 MAINT.EXCL_WRITE (18 R533). -/
def maintExclWrite : CmdSpec where
  opcode := 0x052
  lenOk := lenIs 1
  locked := policyLocked
  fields := fun r _ =>
    let t := r.fld 1 35 20
    [(List.range 16).reverse.map fun i =>
      fTo (20 + i) (20 + i) (fun _ => exclFixed i || inMask t (4 * (i % 4) + i / 4)) 1 (if exclFixed i then 1 else 5)]
  run := fun r s => { st := s.modSys fun y => { y with excl := r.fld 1 35 20 } }

/-- Meaning of MAINT_EXCL_WRITE. -/
def execMaintExclWrite (r : Req) (s : State) : Res := .next (mailbox maintExclWrite r s)

end Sys2Proof.Machine
end

