-- ==== Sys2Proof/Machine/Time.lean ====
section
/-! DEFINITION. Corrections, steps, the time states and the servo (08 R209 to R219). -/

namespace Sys2Proof.Machine

/-! ### Scheduled changes -/

/-- Frequency below any slew, as last set or scheduled. -/
def TimeSt.baseNext (t : TimeSt) : Int := match t.pendFreq with | some c => c.base | none => t.base

/-- Schedule a change of FREQ_ADJ for the tick 2 µs ahead (08 R209). -/
def TimeSt.schedFreq (t : TimeSt) (base : Int) (slew : Option (Int × Nat)) : TimeSt :=
  let old := match t.pendFreq with | some c => c.slew | none => none
  { t with pendFreq := some { tick := t.ticks + schedTicks, base := base, slew := if slew.isSome then slew else old } }

/-- Schedule a step for the tick 2 µs ahead; a step already scheduled is joined to it (08 R209). -/
def TimeSt.schedStep (t : TimeSt) (amount : Int) : TimeSt :=
  let old := match t.pendStep with | some c => c.2 | none => 0
  { t with pendStep := some (t.ticks + schedTicks, old + amount) }

/-- How an offset is corrected (08 R210). -/
inductive Correction where
  | nothing | step | slew
deriving DecidableEq, Repr

/-- Add `corr` quarter ns to the time, by a step or by a slew (08 R210); `force` makes it a step (08 R215, R216). -/
def State.correct (s : State) (corr : Int) (force : Bool) : State × Correction :=
  let c := s.tim.cfg
  let big := decide (4000 * c.slewLimit < corr.natAbs)
  if corr = 0 then (s, .nothing)
  else if force || (big && c.stepEn) then
    (s.modTim fun t =>
      let t1 := t.schedStep corr
      if t1.slew ≠ 0 ∨ t1.pendFreq.isSome then t1.schedFreq t1.baseNext (some (0, 0)) else t1, .step)
  else
    let s1 := if big then s.raiseDev .timeState else s
    let b := s.tim.baseNext
    let sl : Int := (if corr < 0 then -1 else 1) * (100 * c.slewPpb : Int)
    let eff := (clampFreq (b + sl) - clampFreq b).natAbs
    if eff = 0 then (s1, .nothing)
    else
      let n := (2 * corr.natAbs * 7812500000 + eff) / (2 * eff)
      (s1.modTim fun t => t.schedFreq b (some (sl, max n 1)), .slew)

/-- The time state changes; every change raises TIME_STATE (08 R216). -/
def State.timeMode (s : State) (m : TimeMode) : State :=
  if s.tim.mode = m then s
  else (s.modTim fun t => { t with mode := m, holdFrom := if m = .holdover then t.ticks else t.holdFrom }).raiseDev .timeState

/-- A member of a stack other than M0 (08 R213). -/
def State.isMember (s : State) : Bool := s.sys.member != 0

/-! ### Steps -/

/-- The effects of a step of the time-of-day by `amt` quarter ns at its tick (08 R211). -/
def State.stepTime (s : State) (amt : Int) : State :=
  let refillAll (z : ZoneDyn) (cfg : ZoneSt) (old new : Nat) : ZoneDyn :=
    { z with meters := z.meters.map fun e => (e.1, { e.2.refilled (cfg.meter e.1) old with last := new }) }
  let old := s.nowQ
  let s1 := s.modTim fun t =>
    { t with tod := ((t.tod : Int) + amt * 2 ^ 32).toNat, steps := satN 28 t.steps 1, epoch := t.epoch + 1,
             ports := t.ports.map fun e => (e.1, { e.2 with exchange := none }) }
  let new := s1.nowQ
  let s2 := s1.modTab fun t =>
    { t with act := t.act.map fun a => { a with t := if a.reached then a.t else ((a.t : Int) + amt).toNat } }
  let s3 := (s2.modZd .west fun z => refillAll z s.zon old new).modZd .east fun z => refillAll z s.zon old new
  ((List.range 26).foldl State.gateStep s3).raiseDev .timeStep

/-- Answer the TIME.SET requests that wait for a step, or for the start of a slew, with the time-of-day now (08 R232). -/
def State.answerTimeSet (s : State) (step : Bool) : State :=
  let s1 := s.modTim fun t => { t with waiters := t.waiters.filter fun w => w.2 != step }
  (s.tim.waiters.filter fun w => w.2 == step).foldl (fun s w => s.finish w.1 .done (words72 s.now72) [6]) s1

/-- A scheduled change of FREQ_ADJ takes effect at its tick (08 R209, R210). -/
def State.applyFreq (s : State) : State :=
  match s.tim.pendFreq with
  | none => s
  | some c =>
    let s1 := s.advTick c.tick
    let s2 := s1.modTim fun t =>
      match c.slew with
      | none => { t with pendFreq := none, base := c.base }
      | some (v, n) => { t with pendFreq := none, base := c.base, slew := v, slewEnd := if v = 0 then none else some (c.tick + n) }
    s2.answerTimeSet false

/-- A scheduled step takes effect at its tick (08 R209, R211). -/
def State.applyStep (s : State) : State :=
  match s.tim.pendStep with
  | none => s
  | some (k, amt) => (((s.advTick k).modTim fun t => { t with pendStep := none }).stepTime amt).answerTimeSet true

/-! ### Samples and the servo -/

/-- The next servo frequency: the spec gives the loop's time constants and not its gains, so the value is free within
FREQ_ADJ's range (08 R217; log 2). -/
def State.servoUpdate (s : State) : State :=
  let f : Int := (s.freeBelow 40000001 : Nat) - freqMax
  s.useFree.modTim fun t =>
    { t.schedFreq f none with servo := f, history := (f :: t.history).take 64 }

/-- A source sample with phase error `e` in quarter ns (08 R216). -/
def State.sample (s : State) (e : Int) : State :=
  let s0 := s.modTim fun t => { t with lastE := e / 4 }
  let lock := 4 * s.tim.cfg.lockNs
  let restart (s : State) : State := s.modTim fun t => { t with good := 0, history := [] }
  match s.tim.mode with
  | .unset | .free | .holdover => (restart (s0.correct (-e) false).1).timeMode .locking
  | .locking =>
    let g := if e.natAbs ≤ lock then s.tim.good + 1 else 0
    let s1 := (s0.modTim fun t => { t with good := g }).servoUpdate
    if 16 ≤ g then s1.timeMode .locked else (s1.correct (-e) false).1
  | .locked =>
    if 4 * lock < e.natAbs then
      ((s0.correct (-e) false).1.modTim fun t => { t with good := 0 }).timeMode .locking
    else s0.servoUpdate

/-- The mean of the frequencies of the last 64 samples (08 R216). -/
def TimeSt.meanFreq (t : TimeSt) : Int :=
  if t.history.isEmpty then t.base else t.history.foldl (· + ·) 0 / (t.history.length : Int)

/-- The source is lost (08 R216). -/
def State.sourceLost (s : State) : State :=
  match s.tim.mode with
  | .locking => (s.timeMode .free).logFault 0x1B 0 0
  | .locked => ((s.modTim fun t => t.schedFreq t.meanFreq none).timeMode .holdover).logFault 0x1B 0 0
  | _ => s

/-! ### PPS_IN -/

/-- The whole second nearest to a captured time, in quarter ns. -/
def nearestSec (q : Int) : Int := (q + 2000000000) / 4000000000 * 4000000000

/-- An accepted edge at captured time `cap`, whose whole second is `whole` (08 R214, R215). -/
def State.ppsAccept (s : State) (cap whole : Int) : State :=
  let s1 := s.modTim fun t =>
    { t with ppsAccepts := sat36 t.ppsAccepts 1, rejRun := [], edgeTime := timeOfQ cap.toNat, acceptTick := some t.ticks }
  let s2 := s1.satRaise s.tim.ppsAccepts 1 fun t => t.raiseDev .countSat
  match s.tim.pendSecs with
  | none => s2
  | some n => s2.modTim fun t =>
      { t.schedStep ((n : Int) * 4000000000 - whole) with pendSecs := none, secValid := true }

/-- A rejected edge with offset `off` (08 R214). -/
def State.ppsReject (s : State) (off : Int) (run : List Int) : State :=
  (s.modTim fun t => { t with ppsRejects := sat36 t.ppsRejects 1, rejOffset := off / 4, rejRun := run }).satRaise s.tim.ppsRejects 1
    fun t => t.raiseDev .countSat

/-- An edge of PPS_IN now (08 R214, R215). -/
def State.ppsEdge (s : State) : State :=
  let t := s.tim
  if !t.cfg.ppsInEn || s.isMember then s
  else
    let near := match t.edgeTick with | some k => decide (t.ticks - k < 156250000) | none => false
    let s0 := s.modTim fun t => { t with edgeTick := some t.ticks }
    let cap : Int := (s.nowQ : Int) - 4 * t.cfg.cableNs
    let whole := nearestSec cap
    let e := cap - whole
    if near then s0.ppsReject e []
    else if !t.aligned then
      let s1 := (s0.ppsAccept cap whole).modTim fun t => { t with aligned := true, lastE := e / 4, good := 0, history := [] }
      ((s1.correct (-e) true).1).timeMode .locking
    else if e.natAbs ≤ 4000 * t.cfg.ppsWindow then (s0.ppsAccept cap whole).sample e
    else if t.rejRun.length = 3 ∧ t.rejRun.all fun r => decide ((e - r).natAbs ≤ 4000) then (s0.ppsAccept cap whole).sample e
    else s0.ppsReject e ((e :: t.rejRun).take 3)

/-! ### Sleep and reset -/

/-- The timing domain goes off: D0 keeps time on its slow oscillator (08 R219). -/
def State.timingOff (s : State) : State := s.modTim fun t => { t with on := false, offAt := t.ticks }

/-- The timing domain comes back: the time-of-day is loaded from the slow count, with an error of `ppm` parts per million,
at most 150, of the time it was off; FREE with SLEPT (08 R219). -/
def State.timingOn (s : State) (ppm : Int) : State :=
  let n := s.tim.ticks - s.tim.offAt
  let q : Int := nominal n
  let p := if ppm < -150 then -150 else if 150 < ppm then 150 else ppm
  (s.modTim fun t =>
    { t with on := true, tod := ((t.tod : Int) + 2 ^ 32 * (q + q * p / 1000000)).toNat, slept := true, aligned := false,
             secValid := t.secValid && decide (n ≤ ticksS 3000), edgeTick := none, acceptTick := none, slew := 0, slewEnd := none,
             pendFreq := none, pendStep := none }).timeMode .free

end Sys2Proof.Machine
end

