-- ==== Sys2Proof/Machine/TimeCmds.lean ====
section
/-! DEFINITION. Meanings of the TIME commands and of the time-base events (08 R209 to R238). -/

namespace Sys2Proof.Machine

/-! ### TIME commands -/

/-- SOURCE (08 R213, R231). -/
def State.timeSource (s : State) : Nat :=
  if s.isMember then (match s.tim.slavePort with | some 2 => 2 | some _ => 3 | none => 0) else b1 s.tim.cfg.ppsInEn

/-- 0xC01 TIME.READ (08 R231). -/
def timeRead : CmdSpec where
  opcode := 0xC01
  lenOk := lenIs 0
  changes := fun _ => false
  run := fun _ s =>
    let t := s.tim
    let hold := if t.mode = .holdover then (t.ticks - t.holdFrom) / 312500000 else 0
    { st := s,
      payload := [pack [(33, 3, t.mode.code), (31, 2, s.timeSource), (30, 1, b1 t.secValid), (29, 1, b1 t.slept),
          (28, 1, b1 (t.slew != 0)), (0, 28, t.steps)]] ++ words72 s.now72 ++
        [pack [(4, 32, ofSigned 32 t.lastE)], pack [(8, 28, ofSigned 28 t.freqAdj)], pack [(16, 20, hold)]] }

/-- Meaning of TIME_READ. -/
def execTimeRead (r : Req) (s : State) : Res := .next (mailbox timeRead r s)

/-- 0xC02 TIME.SET (08 R232). -/
def timeSet : CmdSpec where
  opcode := 0xC02
  lenOk := lenIs 3
  kinds := [6]
  locked := policyLocked
  fields := fun r _ =>
    [[fAny 35 35], wAny,
     if r.bit 1 35 then [fAny 35 32, fTo 31 2 (fun _ => true) 0 4, fTo 1 0 (fun _ => true) 0 4] else wTimeLo]
  run := fun r s =>
    if s.isMember then .fail s .refused
    else if r.bit 1 35 then
      if !s.tim.cfg.ppsInEn then .fail s .refused
      else { st := s.modTim fun t => { t with pendSecs := some (of72 (r.word 2) (r.word 3) / 2 ^ 32) }, payload := [0, 0] }
    else if s.tim.mode = .locking ∨ s.tim.mode = .locked ∨ s.tim.mode = .holdover then .fail s .refused
    else
      let corr : Int := (qOfTime (of72 (r.word 2) (r.word 3)) : Int) - s.nowQ
      let x := s.correct corr (s.tim.mode == .unset)
      let s1 := (x.1.modTim fun t => { t with secValid := true }).timeMode .free
      match x.2 with
      | .nothing => { st := s1, payload := words72 s.now72 }
      | .step => { st := s1.modTim fun t => { t with waiters := t.waiters ++ [(r.path, true)] }, later := true }
      | .slew => { st := s1.modTim fun t => { t with waiters := t.waiters ++ [(r.path, false)] }, later := true }

/-- Meaning of TIME_SET. -/
def execTimeSet (r : Req) (s : State) : Res := .next (mailbox timeSet r s)

/-- 0xC03 TIME.ADJUST (08 R233). -/
def timeAdjust : CmdSpec where
  opcode := 0xC03
  lenOk := lenIs 2
  kinds := [6]
  locked := policyLocked
  fields := fun _ _ => [[fSigned 35 4 (-1000000000) 1000000000], [fSigned 35 8 (-freqMax) freqMax, fAny 7 7]]
  run := fun r s =>
    if s.tim.mode ≠ .unset ∧ ¬ (s.tim.mode = .free ∧ s.timeSource = 0) then .fail s .refused
    else
      let off := signedOf 32 (r.fld 1 35 4)
      let f := signedOf 28 (r.fld 2 35 8)
      let s1 := if r.bit 2 7 then s.modTim fun t => t.schedFreq f (some (0, 0)) else s
      { st := ((s1.correct (4 * off) false).1).timeMode .free }

/-- Meaning of TIME_ADJUST. -/
def execTimeAdjust (r : Req) (s : State) : Res := .next (mailbox timeAdjust r s)

/-- The configuration given in the words of TIME.CONFIG_WRITE (08 R234). -/
def Req.timeCfg (r : Req) : TimeCfg :=
  { ppsInEn := bit1 (r.word 1) 35, ppsInEdge := fld (r.word 1) 34 34, ppsWindow := fld (r.word 1) 33 24,
    lockNs := fld (r.word 1) 23 14, cableNs := fld (r.word 1) 13 0,
    stepEn := bit1 (r.word 2) 35, slewLimit := fld (r.word 2) 34 21, slewPpb := fld (r.word 2) 20 4,
    holdoverMax := fld (r.word 3) 35 20, utcOffset := fld (r.word 3) 19 12, leap61 := bit1 (r.word 3) 11,
    leap59 := bit1 (r.word 3) 10,
    localOffset := signedOf 11 (fld (r.word 4) 35 25), ppsOutMode := fld (r.word 4) 24 23, ppsOutPol := fld (r.word 4) 22 22,
    ppsOutWidth := fld (r.word 4) 21 13, ptpQueue := fld (r.word 4) 12 8, domain := fld (r.word 4) 7 0,
    announceEn := bit1 (r.word 5) 35, prio1 := fld (r.word 5) 34 27, prio2 := fld (r.word 5) 26 19,
    logAnnounce := signedOf 4 (fld (r.word 5) 18 15) }

/-- 0xC04 TIME.CONFIG_WRITE (08 R215, R216, R234). -/
def timeConfigWrite : CmdSpec where
  opcode := 0xC04
  lenOk := lenIs 5
  kinds := [6]
  locked := policyLocked
  fields := fun r s =>
    let both := r.bit 3 11 && r.bit 3 10
    [[if s.isMember then fTo 35 35 (fun _ => true) 0 4 else fAny 35 35, fAny 34 34, fRange 33 24 1 1000, fRange 23 14 10 1000,
      fAny 13 0],
     [fAny 35 35, fMax 34 21 10000, fRange 20 4 1000 100000],
     [fMin 35 20 1, fAny 19 12, fTo 11 11 (fun _ => both) 0 5, fTo 10 10 (fun _ => both) 0 5],
     [fSigned 35 25 (-720) 840, fTo 24 23 (· == 3) 0 2, fAny 22 22, fRange 21 13 1 500, fAny 12 8,
      fTo 7 0 (fun v => decide (127 < v)) 0 2],
     [fAny 35 35, fAny 34 27, fAny 26 19, fSigned 18 15 (-3) 3]]
  run := fun r s =>
    let c := Req.timeCfg r
    let old := s.tim.cfg.ppsInEn
    let s1 := s.modTim fun t => { t with cfg := c }
    { st := if c.ppsInEn && !old then s1.modTim fun t => { t with aligned := false, edgeTick := none }
            else if old && !c.ppsInEn then (s1.modTim fun t => { t with acceptTick := none }).sourceLost
            else s1 }

/-- Meaning of TIME_CONFIG_WRITE. -/
def execTimeConfigWrite (r : Req) (s : State) : Res := .next (mailbox timeConfigWrite r s)

/-- 0xC05 TIME.CONFIG_READ (08 R235). -/
def timeConfigRead : CmdSpec where
  opcode := 0xC05
  lenOk := lenIs 0
  changes := fun _ => false
  run := fun _ s => { st := s, payload := s.tim.cfg.words }

/-- Meaning of TIME_CONFIG_READ. -/
def execTimeConfigRead (r : Req) (s : State) : Res := .next (mailbox timeConfigRead r s)

/-- gPTP of a port. -/
def State.ptp (s : State) (p : Nat) : PtpPort := Tbl.get PtpPort.dflt s.tim.ports p

/-- Change the gPTP of a port. -/
def State.modPtp (s : State) (p : Nat) (f : PtpPort → PtpPort) : State :=
  s.modTim fun t => { t with ports := Tbl.upd PtpPort.dflt t.ports p f }

/-- 0xC06 TIME.PORT_WRITE (08 R236). -/
def timePortWrite : CmdSpec where
  opcode := 0xC06
  lenOk := lenIs 3
  kinds := [6]
  locked := policyLocked
  fields := fun r s =>
    let p := r.fld 1 35 31
    let hem := p == 2 || p == 15
    [[fFront, if kindOfPort p = .multidrop then fTo 30 30 (fun _ => true) 0 4 else fAny 30 30,
      { fTo 29 28 (· == 3) 0 2 with bad := fun v => (v == 1 || v == 2) && !(hem && s.isMember) },
      fSigned 27 24 (-5) 0, fSigned 23 20 (-3) 3, fAny 19 19],
     [fAny 35 20, fSigned 19 4 (-10000) 10000],
     [if hem then fAny 35 26 else fTo 35 26 (fun _ => true) 0 4, if hem then fAny 25 16 else fTo 25 16 (fun _ => true) 0 4]]
  run := fun r s =>
    let p := Req.port1 r
    let role := r.fld 1 29 28
    let s1 := s.modPtp p fun c =>
      { c with en := r.bit 1 30, role := role, logSync := signedOf 4 (r.fld 1 27 24), logPdelay := signedOf 4 (r.fld 1 23 20),
               pdelayStatic := r.bit 1 19, staticDelay := r.fld 2 35 20, asym := signedOf 16 (r.fld 2 19 4),
               txExtra := r.fld 3 35 26, rxExtra := r.fld 3 25 16 }
    { st := if role = 1 then s1.modPtp (17 - p) fun c => { c with role := 2 } else s1 }

/-- Meaning of TIME_PORT_WRITE. -/
def execTimePortWrite (r : Req) (s : State) : Res := .next (mailbox timePortWrite r s)

/-- The mean of a list of at most 16 measurements, 0 for none (08 R223). -/
def meanInt (l : List Int) : Int := if l.isEmpty then 0 else l.foldl (· + ·) 0 / (l.length : Int)

/-- Mean link delay of a port, ns (08 R222, R237). -/
def PtpPort.linkDelay (c : PtpPort) : Int := if c.pdelayStatic then c.staticDelay else meanInt c.delays

/-- Neighbor rate ratio minus 1, 0.01 ppb (08 R222, R237). -/
def PtpPort.ratio (c : PtpPort) : Int := if c.pdelayStatic then 0 else meanInt c.ratios

/-- Whether the link delay of a port is valid (08 R226, R237). -/
def PtpPort.delayOk (c : PtpPort) : Bool := c.pdelayStatic || c.delayValid

/-- 0xC07 TIME.PORT_READ (08 R237). -/
def timePortRead : CmdSpec where
  opcode := 0xC07
  lenOk := lenIs 1
  changes := fun r => r.bit 1 30
  fields := fun _ _ => [[fFront, fAny 30 30]]
  run := fun r s =>
    let p := Req.port1 r
    let c := s.ptp p
    { st := if r.bit 1 30 then s.modPtp p fun c => { c with syncTx := 0, syncRx := 0, pdelayLost := 0, discards := 0 } else s,
      payload := c.words p ++ [pack [(4, 32, ofSigned 32 c.linkDelay), (3, 1, b1 c.delayOk)], pack [(8, 28, ofSigned 28 c.ratio)],
        w36 c.syncTx, w36 c.syncRx, w36 c.pdelayLost, w36 c.discards] }

/-- Meaning of TIME_PORT_READ. -/
def execTimePortRead (r : Req) (s : State) : Res := .next (mailbox timePortRead r s)

/-- 0xC08 TIME.PPS_READ (08 R238). -/
def timePpsRead : CmdSpec where
  opcode := 0xC08
  lenOk := lenIs 1
  changes := fun r => r.bit 1 35
  fields := fun _ _ => [[fAny 35 35]]
  run := fun r s =>
    let t := s.tim
    { st := if r.bit 1 35 then s.modTim fun t => { t with ppsAccepts := 0, ppsRejects := 0, ppsMisses := 0 } else s,
      payload := words72 t.edgeTime ++ [w36 t.ppsAccepts, w36 t.ppsRejects, w36 t.ppsMisses, pack [(4, 32, ofSigned 32 t.rejOffset)]] }

/-- Meaning of TIME_PPS_READ. -/
def execTimePpsRead (r : Req) (s : State) : Res := .next (mailbox timePpsRead r s)

/-! ### Time-base events -/

/-- Meaning of FREQ_ADJ_APPLY (08 R209). -/
def execFreqAdjApply (s : State) : Res := .next s.applyFreq

/-- Meaning of TIME_STEP_APPLY (08 R211). -/
def execTimeStepApply (s : State) : Res := .next s.applyStep

/-- Meaning of SLEW_END: the offset has been removed and FREQ_ADJ is restored (08 R210). -/
def execSlewEnd (s : State) : Res :=
  match s.tim.slewEnd with
  | none => .next s
  | some k => .next ((s.advTick k).modTim fun t => { t with slew := 0, slewEnd := none })

/-- Meaning of PPS_EDGE: an edge of PPS_IN, `dt` ticks after the last command (08 R214). -/
def execPpsEdge (dt : Nat) (s : State) : Res := .next (s.adv dt).ppsEdge

/-- Meaning of PPS_MISSING: no edge has been accepted for 1 s + PPS_WINDOW (08 R214). -/
def execPpsMissing (s : State) : Res :=
  match s.tim.acceptTick with
  | none => .next s
  | some k =>
    let s1 := s.advTick (k + ticksS 1 + ticksUs s.tim.cfg.ppsWindow)
    let s2 := (s1.modTim fun t => { t with ppsMisses := sat36 t.ppsMisses 1, acceptTick := none }).satRaise s.tim.ppsMisses 1
      fun t => t.raiseDev .countSat
    .next (s2.raiseDev .ppsLost).sourceLost

/-- Meaning of HOLDOVER_MAX_EXPIRY (08 R216). -/
def execHoldoverMaxExpiry (s : State) : Res :=
  .next (if s.tim.mode = .holdover then (s.advTick (s.tim.holdFrom + ticksS s.tim.cfg.holdoverMax)).timeMode .free else s)

/-- Whether PPS_OUT pulses in the present mode and state (08 R220). -/
def TimeSt.pulses (t : TimeSt) : Bool :=
  match t.cfg.ppsOutMode with
  | 1 => t.mode != .unset
  | 2 => t.mode == .locked || t.mode == .holdover
  | _ => false

/-- The whole second at or after now. -/
def State.nextSec (s : State) : Nat := (s.nowQ + qPerSec - 1) / qPerSec

/-- Meaning of PPS_OUT_PULSE: the time-of-day reaches a whole second (08 R220). -/
def execPpsOutPulse (s : State) : Res :=
  let c := s.nextSec
  let n := if c = s.tim.ppsLast then c + 1 else c
  let s1 := (s.advQ (n * qPerSec)).modTim fun t => { t with ppsLast := n }
  .next (if s1.tim.on && s1.tim.pulses then s1.emit (.ppsOut n s1.tim.cfg.ppsOutWidth (s1.tim.cfg.ppsOutPol == 0)) else s1)

end Sys2Proof.Machine
end

