-- ==== Sys2Proof/Machine/Ptp.lean ====
section
/-! DEFINITION. The gPTP time engine: Sync, Follow_Up, peer delay, the slave port and Announce (08 R222 to R226). -/

namespace Sys2Proof.Machine

/-- The engine runs gPTP on a port: PTP_EN, a port that has it, its link up and the time base running (08 R222). -/
def State.ptpOn (s : State) (p : Nat) : Bool :=
  decide (p ≤ 25) && kindOfPort p != .multidrop && (s.gptp p).en && (s.port p).mode == .up && s.tim.on &&
    !(s.isHem p && s.stk.mode == .conflict)

/-- A member that passes time on; one that is ACTING is grandmaster from its own time (08 R222; 17 R500). -/
def State.relaysTime (s : State) : Bool := s.isMember && s.stk.mode != .acting

/-- Master ports: every enabled port but the slave port of a member (08 R222, R227; log 23). -/
def State.ptpMaster (s : State) (p : Nat) : Bool := s.ptpOn p && !(s.isMember && s.tim.slavePort == some p)

/-- Ticks of an interval of 2^log s. -/
def logTicks (l : Int) : Nat := if 0 ≤ l then ticksS (2 ^ l.toNat) else ticksS 1 / 2 ^ (-l).toNat

/-- Quarter ns of an interval of 2^log s. -/
def logQ (l : Int) : Nat := if 0 ≤ l then qPerSec * 2 ^ l.toNat else qPerSec / 2 ^ (-l).toNat

/-- Meaning of SYNC_TX: on a grandmaster at the next whole multiple of the port's sync interval, on a member `dt` ticks after the
last command (08 R222, R223). -/
def execSyncTx (port dt : Nat) (s : State) : Res :=
  .next (
    if !s.ptpMaster port then s
    else
      let c := s.gptp port
      let send (s : State) : State :=
        let n := (c.syncSeq + 1) % 65536
        (s.modGptp port fun x => { x with syncSeq := n }).sendPtp port (.sync n)
          (s.ptpFrame port 0 0x0208 0 n 0 c.logSync (beBytes 10 0))
    if s.relaysTime then (if s.tim.relay.isSome then send (s.adv dt) else s)
    else
      let k := max (c.syncAt + 1) (ceilDiv s.nowQ (logQ c.logSync))
      let s1 := (s.advQ (k * logQ c.logSync)).modGptp port fun x => { x with syncAt := k }
      send s1)

/-- What Follow_Up carries for a Sync that left at `t`: the origin time and the correction. On a grandmaster the origin is the
time it left; a member passes on the origin, with its own residence (08 R222, R223). -/
def State.followUpTimes (s : State) (t : Int) : Int × Int :=
  match s.relaysTime, s.tim.relay with
  | true, some (o, c, a) => (o, c + (t - a))
  | _, _ => (t, t - t / 4 * 4)

/-- Meaning of FOLLOW_UP_TX, `dt` ticks after the last command: the Sync of a port has left and its time is sent (08 R223). -/
def execFollowUpTx (port dt : Nat) (s : State) : Res :=
  let c := s.gptp port
  .next (
    match c.followUp with
    | none => s
    | some t =>
      if s.ptpOn port then
        let s1 := s.adv dt
        let x := s.followUpTimes t
        let tlv := [0, 3, 0, 28, 0, 0x80, 0xC2, 0, 0, 1] ++ beBytes 22 0
        (s1.modGptp port fun x => { x with followUp := none }).sendPtp port (.followUp c.syncSeq)
          (s1.ptpFrame port 8 0x0008 x.2 c.syncSeq 2 c.logSync (ptpStamp x.1 ++ tlv))
      else s.modGptp port fun x => { x with followUp := none })

/-- Meaning of PDELAY_REQ_TX, `dt` ticks after the last command: an exchange that is still open is lost, and a new one starts
(08 R223, R237). -/
def execPdelayReqTx (port dt : Nat) (s : State) : Res :=
  let c := s.gptp port
  .next (
    if s.ptpOn port && !c.pdelayStatic then
      let s1 := s.adv dt
      let s2 := if c.exchange.isSome then
          (s1.modGptp port fun x => { x with exchange := none, resp := none, pdelayLost := sat36 x.pdelayLost 1 }).satRaise c.pdelayLost 1
            fun t => t.raiseDie (dieOfPort port) .countSat
        else s1
      let n := (c.reqSeq + 1) % 65536
      (s2.modGptp port fun x => { x with reqSeq := n }).sendPtp port (.pdelayReq n)
        (s2.ptpFrame port 2 0x0008 0 n 5 c.logPdelay (beBytes 20 0))
    else s)

/-- A timestamp field with its correction, in quarter ns. -/
def ptpTime (bs : List Byte) : Int :=
  (beVal (slice bs 48 6) * qPerSec + beVal (slice bs 54 4) * 4 : Nat) + signedOf 64 (beVal (slice bs 22 8)) / 16384

/-- Type and sequenceId of a gPTP frame. -/
def ptpType (bs : List Byte) : Nat := (byteAt bs 14).toNat % 16
/-- sequenceId. -/
def ptpSeq (bs : List Byte) : Nat := beVal (slice bs 44 2)

/-- The end of a Pdelay exchange: the responder's times `t2` and `t3`, ours `t1` and `t4`, in quarter ns; the link delay and the
neighbor rate ratio of the last 16 exchanges (08 R223). -/
def PtpPort.measured (c : PtpPort) (t1 t2 t3 t4 : Int) : PtpPort :=
  let r : List Int := match c.lastPair with
    | some (b3, b4) => if b4 < t4 then [((t3 - b3) - (t4 - b4)) * 100000000000 / (t4 - b4)] else []
    | none => []
  let ratios := (r ++ c.ratios).take 16
  let turn := (t4 - t1) + (t4 - t1) * meanInt ratios / 100000000000
  { c with exchange := none, resp := none, lastPair := some (t3, t4), ratios := ratios,
           delays := ((turn - (t3 - t2)) / 8 :: c.delays).take 16, delayValid := true }

/-- Meaning of PDELAY_RX: the engine takes the port's oldest Pdelay message and answers it or measures by it (08 R223). -/
def execPdelayRx (port : Nat) (s : State) : Res :=
  let c := s.gptp port
  .next (
    match c.inbox.find? fun m => ptpType m.2 == 2 || ptpType m.2 == 3 || ptpType m.2 == 0xA with
    | none => s
    | some m =>
      let s1 := s.modGptp port fun x => { x with inbox := x.inbox.erase m }
      let at' : Int := (m.1 : Int) - 4 * c.rxExtra
      if !s.ptpOn port then s1
      else if ptpType m.2 = 2 then
        s1.sendPtp port (.pdelayResp (ptpSeq m.2))
          (s1.ptpFrame port 3 0x0208 (at' - at' / 4 * 4) (ptpSeq m.2) 5 127 (ptpStamp at' ++ slice m.2 34 10))
      else
        match c.exchange with
        | none => s1
        | some t1 =>
          if ptpSeq m.2 ≠ c.reqSeq ∨ slice m.2 58 10 ≠ s.portId port then s1
          else if ptpType m.2 = 3 then s1.modGptp port fun x => { x with resp := some (ptpTime m.2, at') }
          else
            match c.resp with
            | none => s1
            | some (t2, t4) => s1.modGptp port fun x => x.measured t1 t2 (ptpTime m.2) t4)

/-- The Follow_Up that goes with a Sync, when it has come. -/
def PtpPort.followOf (c : PtpPort) (m : Nat × List Byte) : Option (Nat × List Byte) :=
  c.inbox.find? fun x => ptpType x.2 == 8 && ptpSeq x.2 == ptpSeq m.2

/-- A Sync on the slave port: the offset of the local time from the master's, after link delay and ASYM, is the source sample
(08 R216, R226). -/
def State.syncSample (s : State) (port : Nat) (arrival origin : Int) : State :=
  let c := s.gptp port
  let delay := 4 * (c.linkDelay + c.asym)
  let s1 := (s.modTim fun t =>
    { t with syncHeard := some t.ticks, relay := some (origin, delay, arrival), secValid := true }).sample (arrival - (origin + delay))
  s1

/-- Meaning of SYNC_RX: the engine takes the port's oldest Sync, with its Follow_Up when it is two-step; on the slave port of a
member it is the source sample (08 R222, R226). -/
def execSyncRx (port : Nat) (s : State) : Res :=
  let c := s.gptp port
  .next (
    match c.inbox.find? fun m => ptpType m.2 == 0 with
    | none => s
    | some m =>
      let two := inMask (byteAt m.2 20).toNat 1
      let go (f : Option (Nat × List Byte)) (origin : Int) : State :=
        let s1 := (s.modGptp port fun x =>
          { x with inbox := (match f with | some y => (x.inbox.erase m).erase y | none => x.inbox.erase m),
                   syncRx := sat36 x.syncRx 1 }).satRaise c.syncRx 1 fun t => t.raiseDie (dieOfPort port) .countSat
        if s.ptpOn port && s.isMember && s.tim.slavePort == some port then
          s1.syncSample port ((m.1 : Int) - 4 * c.rxExtra) origin
        else s1
      if two then
        match c.followOf m with
        | none => s
        | some f => go (some f) (ptpTime f.2 + signedOf 64 (beVal (slice m.2 22 8)) / 16384)
      else go none (ptpTime m.2))

/-- The slave port of a member is lost: the other Hem port takes over when its link is up and its delay valid, else the source
is lost (08 R226). -/
def State.slaveLost (s : State) : State :=
  match s.tim.slavePort with
  | none => s
  | some p =>
    let o := 17 - p
    if (s.port o).mode = .up ∧ (s.gptp o).delayOk then
      s.modTim fun t => { t with slavePort := some o, syncHeard := some t.ticks }
    else (s.modTim fun t => { t with slavePort := none, syncHeard := none }).sourceLost

/-- Meaning of SYNC_TIMEOUT: three sync intervals without a Sync processed on the slave port (08 R226). -/
def execSyncTimeout (s : State) : Res :=
  .next (
    match s.tim.slavePort, s.tim.syncHeard with
    | some p, some k => (s.advTick (k + 3 * logTicks (s.gptp p).logSync)).slaveLost
    | _, _ => s)

/-- clockClass and clockAccuracy (08 R225). -/
def State.clockQuality (s : State) : Nat × Nat :=
  if !s.tim.secValid then (248, 0xFE)
  else match s.tim.mode with
    | .locked => (6, 0x21)
    | .holdover => (7, 0x23)
    | _ => (248, 0xFE)

/-- Meaning of ANNOUNCE_TX, `dt` ticks after the last command: the active core sends Announce on a master port (08 R223, R225). -/
def execAnnounceTx (port dt : Nat) (s : State) : Res :=
  let c := s.gptp port
  let g := s.tim.cfg
  .next (
    if s.ptpMaster port && g.announceEn && (s.core s.pair.active).mode == .active && !(s.core s.pair.active).halted then
      let s1 := s.adv dt
      let n := (c.annSeq + 1) % 65536
      let q := s.clockQuality
      let flags := 8 + b1 g.leap61 + 2 * b1 g.leap59 + 4 * b1 s.tim.secValid
      let body := beBytes 10 0 ++ beBytes 2 g.utcOffset ++ [0] ++ beBytes 1 g.prio1 ++ beBytes 1 q.1 ++ beBytes 1 q.2 ++
        beBytes 2 0xFFFF ++ beBytes 1 g.prio2 ++ s.clockId ++ beBytes 2 s.sys.member ++
        [if s.timeSource = 1 then 0x20 else 0xA0] ++ [0, 8, 0, 8] ++ s.clockId
      (s1.modGptp port fun x => { x with annSeq := n }).sendPtp port (.announce n)
        (s1.ptpFrame port 0xB flags 0 n 5 g.logAnnounce body)
    else s)

end Sys2Proof.Machine
end

