-- ==== Sys2Proof/Machine/Links.lean ====
section
/-! DEFINITION. The link states of the front ports and their transitions (09 R242 to R247; 05 R126; 02 R42). -/

namespace Sys2Proof.Machine

/-- A T1 port (09 R239). -/
def PortKind.t1 (k : PortKind) : Bool := k == .multiGig || k == .gig || k == .fast

/-- A coordinator of a PLCA segment (09 R247). -/
def PortSt.coordinator (c : PortSt) : Bool := c.plca.nodeId == 0

/-- New PLCA settings take effect (09 R258). -/
def PortSt.takePlca (c : PortSt) : PortSt :=
  match c.plcaNext with
  | some n => { c with plca := { n with peerMax := c.plca.peerMax, peerBurst := c.plca.peerBurst }, plcaNext := none }
  | none => c

/-- The bit of R126 of a port (05 R126). -/
def State.setDownBit (s : State) (p : Nat) (b : Bool) : State :=
  if kindOfPort p = .multidrop then s else s.modTab fun t => { t with linkDown := setMask t.linkDown p b }

/-- Measurements of a link that is gone: its peer delay and whatever the time engine has not processed (08 R223; log 24). -/
def PtpPort.unlinked (c : PtpPort) : PtpPort :=
  { c with exchange := none, resp := none, lastPair := none, delays := [], ratios := [], delayValid := false, followUp := none, inbox := [] }

/-- What leaving UP does: the flush of R42, LINK_CHANGE, the learned entries of FLUSH_ON_DOWN, and the slave port
(02 R42; 05 R120, R126; 08 R226; 09 R242). -/
def State.leaveUp (s : State) (p : Nat) : State :=
  let d := dieOfPort p
  let s1 := (s.flushOutput d (localOf p)).raiseDie d .linkChange
  let s2 := if (s.vlanPort p).flushOnDown then s1.modTab fun t => t.flushLearned fun e => inMask e.ports p else s1
  let s3 := s2.modGptp p PtpPort.unlinked
  if s3.tim.slavePort = some p then s3.slaveLost else s3

/-- A port goes to a state other than UP; `count` counts a link that was up in LINK_DOWNS (09 R242). -/
def State.portTo (s : State) (p : Nat) (m : LinkMode) (count : Bool) : State :=
  let was := (s.port p).mode == .up
  let s1 := s.modPort p fun c =>
    { c with mode := m, lpi := false, lpiWaking := false, burstLeft := 0,
             beacons := c.beacons && (m == .training || m == .up) && c.coordinator }
  let s2 := if was then s1.leaveUp p else s1
  let s3 := s2.setDownBit p true
  if was && count then s3.portTick p PortSt.linkDowns fun c n => { c with linkDowns := n } else s3

/-- A port goes UP: its bit of R126 clears after RESTORE_HOLD, and verification of its MAC merge restarts (05 R126; 07 R187;
09 R242). -/
def State.portUp (s : State) (p : Nat) : State :=
  let s1 := s.modPort p fun c =>
    ({ c with mode := .up, upAt := s.monoNs, beacons := decide (kindOfPort p = PortKind.multidrop) }).takePlca
  (s1.modMm p MmSt.restart).raiseDie (dieOfPort p) .linkChange

/-- A port starts to train; a coordinator of a PLCA segment is UP at once (09 R242). -/
def State.train (s : State) (p : Nat) (count : Bool) : State :=
  let s1 := s.portTo p .training count
  if kindOfPort p = .multidrop ∧ (s1.port p).coordinator then s1.portUp p else s1

/-- ENABLE 1: the PHY is powered and the port trains, unless it is shed for power or shut by the seal (09 R242; 13 R377; 16 R465). -/
def State.enablePort (s : State) (p : Nat) : State :=
  if (s.port p).enable && !inMask s.pow.shedPorts p && !inMask s.sealSt.shut ((dieOfPort p).num) && !inMask s.sealSt.shut ((dieOfPort p).num + 2) && (s.port p).mode == .disabled && s.has (dieOfPort p).num && s.has ((dieOfPort p).num + 2) then s.train p false else s

/-- ENABLE 0: link down and the retained coefficients are invalid (09 R242). -/
def State.disablePort (s : State) (p : Nat) : State :=
  if (s.port p).mode = .disabled then s
  else (s.portTo p .disabled false).modPort p fun c => { c with retainValid := false, pulse := false }

/-- A link that is declared down (09 R242, R245; 18 R523). -/
def State.linkLost (s : State) (p : Nat) : State :=
  if (s.port p).mode = .up then (s.train p true).logFault 0x03 (dieOfPort p).num p else s

/-- A sleep command from D0 (09 R242, R243): the coefficients are stored; a port with TC10 asks its partner first. -/
def State.portSleep (s : State) (p : Nat) : State :=
  let c := s.port p
  if c.mode = .up then
    let s1 := if c.retain then s.modPort p fun c => { c with retainValid := true, storeTemp := c.phyTemp } else s
    if c.tc10 then s1.portTo p .sleepWait false else s1.portTo p .sleeping false
  else if kindOfPort p = .multidrop ∧ c.mode = .training then s.portTo p .sleeping false
  else s

/-- A wake command from D0 (09 R242, R243, R251). -/
def State.portWake (s : State) (p : Nat) (temp : Nat) : State :=
  let c := s.port p
  match c.mode with
  | .sleepWait => s.portUp p
  | .sleeping =>
    let far := decide (c.storeTemp + 40 < temp ∨ temp + 40 < c.storeTemp)
    let ok := c.retainValid && !far && (kindOfPort p).t1
    let s1 := s.modPort p fun c => { c with pulse := c.tc10 && (kindOfPort p).t1, retainValid := c.retainValid && !far }
    if ok then s1.portTo p .resuming false else s1.train p false
  | _ => s

/-- The front ports of a fabric die (01 R17). -/
def portsOf (d : Fab) : List Nat := (List.range 13).map fun i => i + 13 * d.bit

/-! ### Link events -/

/-- Meaning of LINK_DOWN_DECLARED (09 R245); a 10BASE-T1S port has no link state. -/
def execLinkDownDeclared (port : Nat) (s : State) : Res :=
  .next (if port ≤ 25 ∧ kindOfPort port ≠ .multidrop then s.linkLost port else s)

/-- Meaning of PCS_LOCK, `dt` ticks after the last command: a port that trains or resumes is UP, after its wake-up pulse has ended
(09 R242, R251). -/
def execPcsLock (port dt : Nat) (s : State) : Res :=
  let c := s.port port
  .next (
    if port ≤ 25 ∧ kindOfPort port ≠ .multidrop ∧ c.pulse = false ∧ c.usx = false then
      let s1 := s.adv dt
      match c.mode with
      | .training => s1.portUp port
      | .resuming => (s1.portTick port PortSt.resumeOks fun c n => { c with resumeOks := n }).portUp port
      | _ => s
    else s)

/-- Meaning of TRAIN_TIMEOUT: training goes its time without lock and starts again (09 R242). -/
def execTrainTimeout (port : Nat) (s : State) : Res :=
  .next (if port ≤ 25 ∧ (kindOfPort port).t1 ∧ (s.port port).mode = .training then
    s.portTick port PortSt.trainFails fun c n => { c with trainFails := n }
  else s)

/-- Meaning of USXGMII_AN_WORD: the link status and the rate of the external PHY; a change of rate is a link down and a link up
(09 R241). -/
def execUsxgmiiAnWord (port : Nat) (up : Bool) (rate : Nat) (s : State) : Res :=
  let c := s.port port
  .next (
    if (port = 2 ∨ port = 15) ∧ c.usx ∧ 2 ≤ rate ∧ rate ≤ 5 then
      let down (s : State) : State := if (s.port port).mode = .up then s.linkLost port else s
      if !up then down s
      else if c.mode = .up ∧ c.usxRate = rate then s
      else
        let s1 := (down s).modPort port fun c => { c with usxRate := rate }
        if (s1.port port).mode = .training then s1.portUp port else s1
    else s)

/-- Meaning of RESUME_DEADLINE (09 R242, R244). -/
def execResumeDeadline (port : Nat) (s : State) : Res :=
  .next (if port ≤ 25 ∧ (s.port port).mode = .resuming then
    ((s.portTick port PortSt.resumeFails fun c n => { c with resumeFails := n }).modPort port fun c =>
      { c with mode := .training, retainValid := false })
  else s)

/-- Meaning of WAKE_PULSE_END: the wake-up pulse of 0.6 ms has ended (09 R251). -/
def execWakePulseEnd (port : Nat) (s : State) : Res :=
  .next (if port ≤ 25 then s.modPort port fun c => { c with pulse := false } else s)

/-- Meaning of TC10_SLEEP_ACK_RX (09 R242). -/
def execTc10SleepAckRx (port : Nat) (s : State) : Res :=
  .next (if port ≤ 25 ∧ (s.port port).mode = .sleepWait then s.portTo port .sleeping false else s)

/-- Meaning of SLEEP_WAIT_TIMEOUT: 16 ms pass in SLEEP_WAIT (09 R242). -/
def execSleepWaitTimeout (port : Nat) (s : State) : Res :=
  .next (if port ≤ 25 ∧ (s.port port).mode = .sleepWait then s.portTo port .sleeping false else s)

/-! ### Energy-efficient Ethernet -/

/-- Whether all queues of an output are empty and it sends nothing. -/
def State.outIdle (s : State) (d : Fab) (o : Nat) : Bool :=
  (List.range 32).all (fun q => ((s.fab d).queued o q).isEmpty) && (s.tx d o).cur.isNone && (s.tx d o).paused.isNone

/-- Whether a gate list of a port is RUNNING or PENDING with GATE_EN 1 (09 R246). -/
def GateSt.scheduled (g : GateSt) : Bool :=
  (g.mode == .running || g.mode == .pending || g.mode == .copying) && (g.oper.cfg.gateEn || (g.mode == .pending && g.admin.cfg.gateEn))

/-- Meaning of LPI_IDLE_TIMER: all queues of an EEE port have been empty for 20 µs (09 R246). -/
def execLpiIdleTimer (port : Nat) (s : State) : Res :=
  let c := s.port port
  .next (
    if port ≤ 25 ∧ (kindOfPort port = .multiGig ∨ kindOfPort port = .gig) ∧ c.eee ∧ c.mode = .up ∧ c.lpi = false ∧
        s.outIdle (dieOfPort port) (localOf port) ∧ (s.gate port).scheduled = false then
      (s.modPort port fun c => { c with lpi := true }).portTick port PortSt.lpiEntries fun c n => { c with lpiEntries := n }
    else s)

/-- Meaning of LPI_WAKE_COMPLETE, `dt` ticks after the last command and at most T_W: the port has left low-power idle (09 R246). -/
def execLpiWakeComplete (port dt : Nat) (s : State) : Res :=
  let tw := ticksUs (if kindOfPort port = .multiGig then 12 else 15)
  .next (if port ≤ 25 ∧ (s.port port).lpi ∧ (s.port port).lpiWaking then
    (s.adv (min tw dt)).modPort port fun c => { c with lpi := false, lpiWaking := false }
  else s)

/-! ### PLCA -/

/-- Meaning of BEACON_LOSS_TIMEOUT: a follower has seen no beacon for 10 ms (09 R247). -/
def execBeaconLossTimeout (port : Nat) (s : State) : Res :=
  let c := s.port port
  .next (
    if port ≤ 25 ∧ kindOfPort port = .multidrop ∧ c.mode = .up ∧ c.coordinator = false then
      ((s.portTo port .training false).modPort port fun c => { c.takePlca with beacons := false, beaconLoss := satN 18 c.beaconLoss 1 })
    else s)

/-- Meaning of BEACON_RX: a follower is UP and takes new settings; a coordinator counts a conflict (09 R247, R258). -/
def execBeaconRx (port : Nat) (s : State) : Res :=
  let c := s.port port
  .next (
    if port ≤ 25 ∧ kindOfPort port = .multidrop ∧ (c.mode = .up ∨ c.mode = .training) then
      if c.coordinator then
        (s.modPort port fun c => { c with plcaConflicts := satN 18 c.plcaConflicts 1 }).raiseDie (dieOfPort port) .linkChange
      else if c.mode = .training then s.portUp port
      else s.modPort port fun c => { c.takePlca with beacons := true }
    else s)

/-- Meaning of PLCA_BEACON_TX: a coordinator starts a cycle; new settings take effect (09 R247, R258). -/
def execPlcaBeaconTx (port : Nat) (s : State) : Res :=
  let c := s.port port
  .next (
    if port ≤ 25 ∧ kindOfPort port = .multidrop ∧ c.mode = .up ∧ c.coordinator then
      s.modPort port fun c => { c.takePlca with beacons := true, burstLeft := 0 }
    else s)

/-- Start the frame that waits for the transmit opportunity (07 R171, R178; 09 R247). -/
def State.plcaStart (s : State) (d : Fab) (o : Nat) : State :=
  let t := s.tx d o
  match t.cur with
  | none => s
  | some k =>
    if t.waitPlca then
      (s.modTx d o fun t =>
        { t with waitPlca := false, beginQ := s.nowQ, freeQ := s.nowQ + s.lineQ d o (t.dur + 12) }).modFrame d k.1 fun f =>
          f.modCopy k.2 fun x => { x with startQ := s.nowQ + s.lineQ d o 8 }
    else s

/-- Meaning of PLCA_TX_OPPORTUNITY, `dt` ticks after the last command: the port's opportunity comes, or its burst goes on within
BURST_TIMER; a collision that it meets is counted (09 R247). -/
def execPlcaTxOpportunity (port : Nat) (burst collision : Bool) (dt : Nat) (s : State) : Res :=
  let c := s.port port
  let d := dieOfPort port
  let o := localOf port
  .next (
    if port ≤ 25 ∧ kindOfPort port = .multidrop ∧ c.mode = .up then
      let s1 := s.adv dt
      let s2 := if collision then s1.modPort port fun c => { c with plcaConflicts := satN 18 c.plcaConflicts 1 } else s1
      let ready := match (s2.tx d o).cur with | some _ => (s2.tx d o).waitPlca | none => false
      if !ready then s2
      else if !burst then (s2.modPort port fun c => { c with burstLeft := c.plca.maxBurst }).plcaStart d o
      else if 0 < c.burstLeft ∧ s2.nowQ ≤ (s2.tx d o).freeQ + 400 * c.plca.burstTimer then
        (s2.modPort port fun c => { c with burstLeft := c.burstLeft - 1 }).plcaStart d o
      else s2
    else s)

/-! ### Signal quality -/

/-- Meaning of SQI_UPDATE: the end of a 1 ms interval of a T1 port in UP, with its SQI, the codewords that its FEC corrected and
could not correct in it, and the temperature of its PHY die in K (09 R243, R249, R260). -/
def execSqiUpdate (port sqi fixed lost temp : Nat) (s : State) : Res :=
  .next (
    if port ≤ 25 ∧ (kindOfPort port).t1 ∧ (s.port port).mode = .up then
      let v := min 7 sqi
      let old := (s.port port).fecUncorrected
      (s.modPort port fun c =>
        { c with sqi := v, phyTemp := temp, sqiMin := some (match c.sqiMin with | some m => min m v | none => v),
                 fecCorrected := add72 c.fecCorrected fixed, fecUncorrected := sat36 c.fecUncorrected lost }).satRaise old lost
        fun t => t.raiseDie (dieOfPort port) .countSat
    else s)

end Sys2Proof.Machine
end

