-- ==== Sys2Proof/Machine/Domains.lean ====
section
/-! DEFINITION. Power domains, what each loses when it goes off or into RETAIN, and the sequence tables (16 R457 to R459). -/

namespace Sys2Proof.Machine

/-- State of a domain; AO and BK are always ON (16 R457). -/
def State.dom (s : State) (d : Nat) : DomMode := if d ≤ 1 then .on else Tbl.get (fun _ => DomMode.off) s.pow.doms d

/-- What a fabric die's tables keep in RETAIN of its memory domain: blocks 0x01 to 0x0F; frames, queues and counters are lost
(16 R458). -/
def FabSt.retained (q : FabSt) : FabSt :=
  { nextFid := q.nextFid, nextOrder := q.nextOrder,
    outs := Tbl.remap OutCfg.dflt (fun c => { ctEn := c.ctEn, resLimit := c.resLimit, pocketMask := c.pocketMask }) q.outs,
    mirrors := Tbl.remap MirrorCfg.dflt (fun c => { c with drops := 0 }) q.mirrors,
    frags := q.frags,
    frer := Tbl.remap FrerDyn.dflt (fun c => { genSeq := c.genSeq, recovSeq := c.recovSeq, h := c.h, takeAny := c.takeAny, passAt := c.passAt }) q.frer,
    zon := { filters := Tbl.remap FilterDyn.dflt (fun c => { c with matched := 0, sduDrops := 0, blockedDrops := 0, sduLate := 0 }) q.zon.filters,
             meters := Tbl.remap MeterDyn.dflt (fun c => { c with green := 0, yellow := 0, red := 0 }) q.zon.meters },
    egr := { samplers := Tbl.remap Sampler.dflt (fun c => { c with bins := [], above := 0, samples := [] }) q.egr.samplers } }

/-- What the pools of a die keep in RETAIN: their limits and levels; the free list is built again (16 R458, 03 R52). -/
def PoolSt.retained (q : PoolSt) : PoolSt := { limits := q.limits, levels := q.levels }

/-- What the tables held once for both dies keep in RETAIN (16 R458). -/
def TabSt.retained (t : TabSt) : TabSt :=
  { t with
    vlan := Tbl.remap VlanPort.dflt (fun c => { c with inFrames := 0, inOctets := 0, outFrames := 0, outOctets := 0, noRoute := 0, vlanDrops := 0, oversize := 0 }) t.vlan,
    act := none, retiring := false, sweep := false }

/-- What the Cuff die keeps in RETAIN: tables and configuration, no frame, queue or counter (16 R458). -/
def EdgeSt.retained (e : EdgeSt) : EdgeSt :=
  { e with
    can := Tbl.remap CanCh.dflt (fun c => { c with rxq := [], txq := [], sending := none, tec := 0, rec_ := 0, busOff := false, recovering := false }) e.can,
    lin := Tbl.remap LinCh.dflt (fun c => { c with rxq := [], hdr := none, slotAt := none, slot := 0, round := [], bufs := [] }) e.lin,
    ser := Tbl.remap SerCh.dflt (fun c => { c with rxq := [], txq := [], chars := [], receiving := false, mode := .ready, cur := none, line := [], total := 0, attempts := 0 }) e.ser,
    ctr := [], up := false }

/-- What the gateway keeps in RETAIN (16 R458). -/
def GwSt.retained (g : GwSt) : GwSt :=
  { g with
    inbox := [],
    bundles := Tbl.remap Bundle.dflt (fun b => { b with acf := [], frames := 0, messages := 0, tooLong := 0 }) g.bundles,
    up := Tbl.remap GwEnt.dflt (fun c => { c with matched := 0, rateDrops := 0, zoneDrops := 0, fitDrops := 0, queueFull := 0 }) g.up,
    down := Tbl.remap GwEnt.dflt (fun c => { c with matched := 0, rateDrops := 0, zoneDrops := 0, fitDrops := 0, queueFull := 0 }) g.down,
    slots := Tbl.remap PerSlot.dflt (fun c => { c with sent := 0, skips := 0, stale := 0 }) g.slots,
    unmatched := [], badAvtp := 0, skipped := 0, downUnmatched := 0 }

/-- The core of a die loses its domain: what it held is gone, and its measurement is cleared (15 R426, 16 R478). -/
def State.coreLost (s : State) (d : Fab) : State :=
  let s1 := s.modCore d fun k => { mode := .off, lastFault := k.lastFault, slot := k.slot }
  let s2 := s1.modKey fun k => match d with | .west => { k with measW := [] } | .east => { k with measE := [] }
  let s3 := (portsOf d).foldl (fun s p => s.modPort p fun c =>
    { c with secy := { c.secy with txSa := none, rxSas := [], peers := [], keyServer := false } }) s2
  let s4 := s3.modPow fun p =>
    let off (c : PaceSt) : PaceSt := { c with vdd := 0, aboveSince := none, belowSince := none, short := false }
    match d with | .west => { p with west := off p.west } | .east => { p with east := off p.east }
  s4.modFab d fun q => { q with frames := [], engines := [], second := [], seamWords := [], learnQ := [],
                                egr := { q.egr with tx := [] } }

/-- The ports of a PHY die that an analog domain feeds: MultiGBASE-T1, or the others but the SerDes port (16 R457). -/
def analogPorts (d : Fab) (ten : Bool) : List Nat :=
  (portsOf d).filter fun p => kindOfPort p != .serdes && ((kindOfPort p == .multiGig) == ten)

/-- Ports whose analog part or SerDes goes off are SLEEPING; a disabled port stays so (09 R242). -/
def State.portsOff (s : State) (ps : List Nat) : State :=
  ps.foldl (fun s p => if (s.port p).mode = .disabled ∨ (s.port p).mode = .sleeping then s else s.portTo p .sleeping false) s

/-- A die is present or absent (18 R527). -/
def State.setPresent (s : State) (die : Nat) (b : Bool) : State := s.modSys fun y => { y with present := setMask y.present die b }

/-- A die answers again: present, unless it is being reloaded and its tables are still to be filled (18 R520, R527). -/
def State.arrives (s : State) (die : Nat) : State := if s.sys.reload.any fun e => e.1 == die then s else s.setPresent die true

/-- The memory domain of a fabric die goes to a state (16 R458, 03 R52). -/
def State.memTo (s : State) (d : Fab) (was m : DomMode) : State :=
  let gone (x : DomMode) : Bool := x == .off || x == .failed
  match m with
  | .on => if was = .on then s else s.modPool d fun q => { q with built := false }
  | .retain =>
    let s1 := (s.modFab d FabSt.retained).modPool d PoolSt.retained
    (s1.modTab TabSt.retained)
  | _ =>
    let s1 := (s.modFab d fun q => { nextFid := q.nextFid, nextOrder := q.nextOrder }).modPool d fun _ => {}
    if gone (s.dom (match d with | .west => 8 | .east => 5)) then { s1 with tab := { linkDown := s1.tab.linkDown }, zon := {}, egr := {} } else s1

/-- A domain takes a state, with what that does to its die (16 R457, R458; 08 R219; 10 R285). -/
def State.domTo (s : State) (d : Nat) (m : DomMode) : State :=
  let was := s.dom d
  let s0 := s.modPow fun p => { p with doms := Tbl.put (fun _ => DomMode.off) p.doms d m }
  let on := m == .on
  if was = m ∨ d ≤ 1 then s
  else
    match d with
    | 2 =>
      if on then
        (if s.tim.kept then (s0.timingOn ((s0.freeBelow 301 : Nat) - 150)).useFree else s0.modTim fun t => { t with on := true, kept := true })
      else (if s0.tim.on then s0.timingOff else s0).modKey fun k => { k with lock := none }
    | 4 => if on then s0.arrives 1 else (s0.coreLost .west).setPresent 1 false
    | 7 => if on then s0.arrives 2 else (s0.coreLost .east).setPresent 2 false
    | 5 => s0.memTo .west was m
    | 8 => s0.memTo .east was m
    | 6 => if on then s0 else
        (s0.portsOff [2]).modHost fun h => { h with w0 := { upper := 0 }, w1 := {}, pcieW := false, trainW := false }
    | 9 => if on then s0 else
        (s0.portsOff [15]).modHost fun h => { h with e0 := { upper := 0 }, e1 := {}, pcieE := false, trainE := false }
    | 10 => if on then s0.arrives 3 else (s0.portsOff (analogPorts .west true)).setPresent 3 (s0.dom 11 == .on)
    | 11 => if on then s0.arrives 3 else (s0.portsOff (analogPorts .west false)).setPresent 3 (s0.dom 10 == .on)
    | 12 => if on then s0.arrives 4 else (s0.portsOff (analogPorts .east true)).setPresent 4 (s0.dom 13 == .on)
    | 13 => if on then s0.arrives 4 else (s0.portsOff (analogPorts .east false)).setPresent 4 (s0.dom 12 == .on)
    | 14 =>
      match m with
      | .on => (s0.arrives 5).modEdge fun e => { e with up := s.sys.start == .forwarding && s.sys.cuffOk && s.sys.reload.isNone }
      | .retain => ((s0.modEdge EdgeSt.retained).modGw GwSt.retained).setPresent 5 false
      | _ => ((s0.modEdge fun e => { balls := e.balls }).modGw fun _ => {}).setPresent 5 false
    | 15 => s0.modPow fun p => { p with stbDriven := !on }
    | _ => s0

/-! ### Sequences -/

/-- The steps of a sequence as loaded, or the factory's (16 R459). -/
def PowerSt.steps (p : PowerSt) (k : Nat) : List SeqStep := (Tbl.get noneAt p.seqs k).getD (seqFactory k)

/-- The state that a step's ACTION gives. -/
def SeqStep.result (t : SeqStep) : DomMode := match t.action with | 1 => .on | 2 => .retain | _ => .off

/-- Whether a step is skipped: its domain is masked, its die was marked absent, or a reload is of another die (16 R459; 18 R514, R520). -/
def State.seqSkips (s : State) (only : Option Nat) (t : SeqStep) : Bool :=
  t.action != 3 && (!inMask s.pow.cfg.mask t.domain || inMask s.sys.absent (domDie t.domain)) || only.any fun d => domDie t.domain != d

/-- A sequence has run to its end: COLD ends the SEQUENCE state of start-up (18 R514). -/
def State.seqDone (s : State) (k : Nat) : State :=
  let s1 := s.modPow fun p => { p with run := none }
  if k = 0 ∧ s.sys.start = .sequence then s1.modSys fun y => { y with start := .selftest } else s1

/-- Begin the first step from index `i` on that is not skipped, or end the sequence; `only` names the one die of a reload, and `n`
bounds the steps looked at. -/
def State.seqFrom (s : State) (only : Option Nat) (k i : Nat) : Nat → State
  | 0 => s.seqDone k
  | n + 1 =>
    match (s.pow.steps k)[i]? with
    | none => s.seqDone k
    | some t =>
      if s.seqSkips only t then s.seqFrom only k (i + 1) n
      else s.modPow fun p => { p with run := some { seq := k, step := i, waiting := t.action == 3, since := s.tim.ticks, only := only } }

/-- Run a sequence from its first step (16 R459). -/
def State.runSeq (s : State) (k : Nat) : State := s.seqFrom none k 0 33

/-- Meaning of SEQ_STEP_POWER_GOOD, `dt` ticks after the last command: the domain of the step in progress reports good (16 R459). -/
def execSeqStepPowerGood (dt : Nat) (s : State) : Res :=
  .next (
    match s.pow.run with
    | none => s
    | some r =>
      match (s.pow.steps r.seq)[r.step]? with
      | none => s.seqDone r.seq
      | some t =>
        if r.waiting then s
        else
          let s1 := (s.adv dt).domTo t.domain t.result
          if t.waitUs = 0 then s1.seqFrom r.only r.seq (r.step + 1) 33
          else s1.modPow fun p => { p with run := some { r with waiting := true, since := s1.tim.ticks } })

/-- Meaning of SEQ_WAIT_EXPIRY: WAIT_US of the step in progress has passed (16 R459). -/
def execSeqWaitExpiry (s : State) : Res :=
  .next (
    match s.pow.run with
    | none => s
    | some r =>
      match (s.pow.steps r.seq)[r.step]? with
      | none => s.seqDone r.seq
      | some t => if r.waiting then (s.advTick (r.since + ticksUs t.waitUs)).seqFrom r.only r.seq (r.step + 1) 33 else s)

/-- The sequence OFF, run to its end at once (16 R471, 18 R513; log 25). -/
def State.runOff (s : State) : State :=
  let s1 := (s.pow.steps 3).foldl (fun s t => if t.action = 0 then s.domTo t.domain .off else s) s
  s1.modPow fun p => { p with run := none }

end Sys2Proof.Machine
end

