-- ==== Sys2Proof/Machine/EdgeTab.lean ====
section
/-! DEFINITION. Format tables and time-message tables of the legacy channels: their layout, their checks and what they compute
(10 R275 to R278, R281 to R283; 08 R228, R229). -/

namespace Sys2Proof.Machine

/-! ### The store -/

/-- Word `i` of slot `n` of the format table store (10 R275). -/
def EdgeSt.tabWord (e : EdgeSt) (n i : Nat) : Word := Tbl.get wordZero e.store (1024 * n + i)

/-- Bits of a table word. -/
def EdgeSt.tabFld (e : EdgeSt) (n i hi lo : Nat) : Nat := fld (e.tabWord n i) hi lo

/-! ### Serial framing tables -/

/-- One element: its word, and the parameter word of a CHECK (10 R277). -/
structure Elem where
  /-- The element word. -/
  w : Word := 0
  /-- Its parameter word, 0 for an element without one. -/
  par : Word := 0
deriving DecidableEq, Repr

/-- TYPE of an element. -/
def Elem.type (x : Elem) : Nat := fld x.w 35 32
/-- DELIVER. -/
def Elem.deliver (x : Elem) : Bool := bit1 x.w 31
/-- VALUE of a LIT. -/
def Elem.lit (x : Elem) : Nat := fld x.w 30 22
/-- SIZE of an ADDR or LEN. -/
def Elem.size (x : Elem) : Nat := fld x.w 30 29 + 1
/-- MSB_FIRST of an ADDR or LEN. -/
def Elem.msb (x : Elem) : Bool := bit1 x.w 28
/-- ADJUST of a LEN. -/
def Elem.adjust (x : Elem) : Int := signedOf 9 (fld x.w 27 19)
/-- END_BY of a BODY: 0 length, 1 terminator, 2 gap, 3 fixed. -/
def Elem.endBy (x : Elem) : Nat := fld x.w 30 29
/-- COUNT of a BODY. -/
def Elem.count (x : Elem) : Nat := fld x.w 28 17
/-- FROM of a CHECK. -/
def Elem.from_ (x : Elem) : Nat := fld x.w 24 21
/-- Characters of a CHECK. -/
def Elem.checkLen (x : Elem) : Nat := if bit1 x.w 27 then 2 else 1

/-- A serial framing table (10 R276). -/
structure SerTab where
  /-- Words 0 to 4. -/
  hdr : List Word := []
  /-- Elements. -/
  elems : List Elem := []
deriving DecidableEq, Repr

/-- A field of header word `i`. -/
def SerTab.fld (t : SerTab) (i hi lo : Nat) : Nat := Sys2Proof.fld (t.hdr.getD i 0) hi lo
/-- BAUD of the table. -/
def SerTab.baud (t : SerTab) : Nat := t.fld 1 35 12
/-- DATA_BITS. -/
def SerTab.dataBits (t : SerTab) : Nat := t.fld 1 11 8
/-- DUPLEX: half. -/
def SerTab.half (t : SerTab) : Bool := t.fld 1 2 2 == 1
/-- ICG_MAX in half bit times. -/
def SerTab.icg (t : SerTab) : Nat := t.fld 2 35 24
/-- FRAME_GAP in half bit times. -/
def SerTab.gap (t : SerTab) : Nat := t.fld 2 23 12
/-- MAX_FRAME. -/
def SerTab.maxFrame (t : SerTab) : Nat := t.fld 3 11 0
/-- ACCESS. -/
def SerTab.access (t : SerTab) : Nat := t.fld 4 35 34
/-- RETRIES. -/
def SerTab.retries (t : SerTab) : Nat := t.fld 4 17 14
/-- ECHO_CHECK. -/
def SerTab.echo (t : SerTab) : Bool := t.fld 4 5 5 == 1

/-- The elements from word `i` of slot `n` on, `k` of them; a CHECK takes two words (10 R277). -/
def EdgeSt.elems (e : EdgeSt) (n i : Nat) : Nat → List Elem
  | 0 => []
  | k + 1 =>
    let w := e.tabWord n i
    if fld w 35 32 = 5 then { w := w, par := e.tabWord n (i + 1) } :: e.elems n (i + 2) k
    else { w := w } :: e.elems n (i + 1) k

/-- The serial framing table of a slot (10 R276). -/
def EdgeSt.serTab (e : EdgeSt) (n : Nat) : SerTab :=
  { hdr := (List.range 5).map (e.tabWord n), elems := e.elems n 5 (min 16 (e.tabFld n 0 31 24)) }

/-- The word index of each element of a table, from index `i`. -/
def elemAt (i : Nat) : List Elem → List (Nat × Elem)
  | [] => []
  | x :: xs => (i, x) :: elemAt (i + if x.type = 5 then 2 else 1) xs

/-! ### Checks -/

/-- Reflect the low `w` bits of a number. -/
def reflect (w n : Nat) : Nat := maskOf ((maskList n w).map fun i => w - 1 - i)

/-- One bit of a CRC of `w` bits. -/
def crcBit (w poly crc : Nat) : Nat := if inMask crc (w - 1) then Nat.xor (crc * 2 % 2 ^ w) poly % 2 ^ w else crc * 2 % 2 ^ w

/-- One character of `b` bits into a CRC of `w` bits, most significant bit first. -/
def crcChar (w poly b crc c : Nat) : Nat :=
  (List.range b).reverse.foldl (fun r i => crcBit w poly (if inMask c i then Nat.xor r (2 ^ (w - 1)) else r)) crc

/-- The value of a CHECK over characters (10 R278). -/
def Elem.checkOf (x : Elem) (dataBits : Nat) (chars : List Nat) : Nat :=
  let w := 8 * x.checkLen
  let b := min 8 dataBits
  let init := fld x.w 20 5 % 2 ^ w
  let cs := chars.map fun c => c % 2 ^ b
  let v := match fld x.w 30 28 with
    | 0 => cs.foldl Nat.xor init
    | 1 => cs.foldl (· + ·) init % 2 ^ w
    | 2 => (2 ^ w - cs.foldl (· + ·) init % 2 ^ w) % 2 ^ w
    | _ =>
      let poly := fld x.par 35 20 % 2 ^ w
      let refl := bit1 x.w 25
      let r := cs.foldl (fun r c => crcChar w poly b r (if refl then reflect b c else c)) init
      Nat.xor (if refl then reflect w r else r) (fld x.par 19 4 % 2 ^ w)
  if w = 8 then v % 2 ^ b else v

/-- The characters in which a CHECK is carried (10 R278). -/
def Elem.checkChars (x : Elem) (v : Nat) : List Nat :=
  if x.checkLen = 1 then [v] else if bit1 x.w 26 then [v % 256, v / 256] else [v / 256, v % 256]

/-! ### Receiving -/

/-- What the characters so far make of a table. -/
inductive SerRead where
  /-- More characters are to come. -/
  | more
  /-- A LIT differs. -/
  | lit
  /-- The check differs. -/
  | check
  /-- A whole message: ADDRESS and PAYLOAD. -/
  | done (addr : Nat) (payload : List Nat)
deriving DecidableEq, Repr

/-- A value of several characters. -/
def charsVal (msb : Bool) (cs : List Nat) : Nat := (if msb then cs else cs.reverse).foldl (fun a c => a * 256 + c % 256) 0

/-- Characters of a value. -/
def valChars (msb : Bool) (n v : Nat) : List Nat :=
  let l := (List.range n).map fun i => v / 256 ^ i % 256
  if msb then l.reverse else l

/-- Characters that the elements after a BODY ended by gap take (10 R277). -/
def tailLen (xs : List Elem) : Nat := xs.foldl (fun n x => n + if x.type = 5 then x.checkLen else 1) 0

/-- Take characters into the elements `xs`: `seen` are the characters before, `at_` the places where the elements before began; `gap`
says that an idle of FRAME_GAP has come (10 R277, R279). -/
def serRead (bits : Nat) (gap : Bool) : List Elem → List Nat → List Nat → List Nat → Nat → Option Nat → List Nat → SerRead
  | [], _, _, _, addr, _, pay => .done addr pay
  | x :: xs, cs, seen, at_, addr, len, pay =>
    let go (n : Nat) (addr : Nat) (len : Option Nat) (d : Bool) : SerRead :=
      if cs.length < n then .more
      else serRead bits gap xs (cs.drop n) (seen ++ cs.take n) (at_ ++ [seen.length]) addr len (if d then pay ++ cs.take n else pay)
    match x.type with
    | 1 => match cs with | [] => .more | c :: _ => if c = x.lit then go 1 addr len false else .lit
    | 2 => go x.size (charsVal x.msb (cs.take x.size)) len x.deliver
    | 3 => go x.size addr (some ((charsVal x.msb (cs.take x.size) : Int) - x.adjust).toNat) false
    | 4 =>
      match x.endBy with
      | 0 => go (len.getD 0) addr len x.deliver
      | 1 =>
        let t := match xs with | y :: _ => y.lit | [] => 0
        if t ∈ cs then go (cs.idxOf t) addr len x.deliver else .more
      | 2 => if !gap then .more else if cs.length < tailLen xs then .check else go (cs.length - tailLen xs) addr len x.deliver
      | _ => go x.count addr len x.deliver
    | _ =>
      let n := x.checkLen
      if cs.length < n then .more
      else if x.checkChars (x.checkOf bits (seen.drop (at_.getD x.from_ seen.length))) = (cs.take n).map (· % 256) then go n addr len false
      else .check

/-- Read the characters of a frame under a table (10 R279). -/
def SerTab.read (t : SerTab) (gap : Bool) (chars : List Nat) : SerRead := serRead t.dataBits gap t.elems chars [] [] 0 none []

/-- The table's BODY is ended by gap (10 R277). -/
def SerTab.gapBody (t : SerTab) : Bool := t.elems.any fun x => x.type == 4 && x.endBy == 2

/-! ### Sending -/

/-- Characters of the ADDR elements that are delivered. -/
def SerTab.addrLen (t : SerTab) : Nat := t.elems.foldl (fun n x => n + if x.type = 2 ∧ x.deliver then x.size else 0) 0

/-- Characters of the frame that a message of `n` payload characters makes. -/
def SerTab.frameLen (t : SerTab) (n : Nat) : Nat :=
  t.elems.foldl (fun k x => k + match x.type with | 2 => x.size | 3 => x.size | 4 => n - t.addrLen | 5 => x.checkLen | _ => 1) 0

/-- Whether the format table accepts a message to send (10 R277). -/
def SerTab.accepts (t : SerTab) (payload : List Nat) : Bool :=
  decide (t.addrLen ≤ payload.length) && decide (t.frameLen payload.length ≤ t.maxFrame) &&
    t.elems.all fun x => x.type != 4 || x.endBy != 3 || x.count == payload.length - t.addrLen

/-- The characters that a message makes: `out` those before, `at_` where the elements before began (10 R277, R278). -/
def serSend (bits body addr : Nat) : List Elem → List Nat → List Nat → List Nat → List Nat
  | [], _, out, _ => out
  | x :: xs, pay, out, at_ =>
    let go (cs pay : List Nat) : List Nat := serSend bits body addr xs pay (out ++ cs) (at_ ++ [out.length])
    match x.type with
    | 1 => go [x.lit] pay
    | 2 => if x.deliver then go (pay.take x.size) (pay.drop x.size) else go (valChars x.msb x.size addr) pay
    | 3 => go (valChars x.msb x.size ((body : Int) + x.adjust).toNat) pay
    | 4 => go pay []
    | _ => go (x.checkChars (x.checkOf bits (out.drop (at_.getD x.from_ out.length)))) pay

/-- The characters of a message's frame (10 R277). -/
def SerTab.send (t : SerTab) (addr : Nat) (payload : List Nat) : List Nat :=
  serSend t.dataBits (payload.length - t.addrLen) addr t.elems payload [] []

/-! ### Time elements -/

/-- Year, month and day of a day counted from 1970-01-01. -/
def civilOf (days : Nat) : Nat × Nat × Nat :=
  let z := days + 719468
  let era := z / 146097
  let doe := z % 146097
  let yoe := (doe - doe / 1460 + doe / 36524 - doe / 146096) / 365
  let doy := doe - (365 * yoe + yoe / 4 - yoe / 100)
  let mp := (5 * doy + 2) / 153
  let m := if mp < 10 then mp + 3 else mp - 9
  (yoe + 400 * era + (if m ≤ 2 then 1 else 0), m, doy - (153 * mp + 2) / 5 + 1)

/-- UTC seconds since 1970-01-01, and whether the second is one that LEAP61 inserts: the last of a day (08 R228; log 36). -/
def State.utcNow (s : State) : Nat × Bool :=
  let u := s.nowQ / qPerSec - s.tim.cfg.utcOffset
  if s.tim.cfg.leap61 ∧ u % 86400 = 0 ∧ u ≠ 0 then (u - 1, true) else (u, false)

/-- The value of a time element now (08 R228; the places of code 0x0C are log 36). -/
def State.element (s : State) (code : Nat) : Int :=
  let u := s.utcNow
  let t : Nat := if code / 16 % 2 = 1 then ((u.1 : Int) + 60 * s.tim.cfg.localOffset).toNat else u.1
  let d := civilOf (t / 86400)
  let ns := s.nowQ % qPerSec / 4
  if code = 0 then ((s.nowQ / qPerSec : Nat) : Int)
  else if code = 0x0C then ((2 * s.tim.mode.code + b1 s.tim.secValid : Nat) : Int)
  else if code = 0x0D then s.tim.cfg.localOffset
  else
    ((match code % 16 with
      | 1 => t
      | 2 => d.1
      | 3 => d.2.1
      | 4 => d.2.2
      | 5 => t / 3600 % 24
      | 6 => t / 60 % 60
      | 7 => if u.2 then 60 else t % 60
      | 8 => ns / 1000000
      | 9 => t / 3600 % 24 / 6
      | 10 => (t / 86400 + 3) % 7 + 1
      | _ => ns : Nat) : Int)

/-- Elements that a table may name (08 R228, 10 R283). -/
def elementOk (code : Nat) : Bool := decide (code ≤ 0x0D) || decide (0x11 ≤ code ∧ code ≤ 0x1B)

/-! ### Time-message tables -/

/-- One term: its two words (10 R282). -/
abbrev Term := Word × Word

/-- TERMS of a slot. -/
def EdgeSt.terms (e : EdgeSt) (n : Nat) : List Term :=
  (List.range (min 32 (e.tabFld n 0 31 24))).map fun i => (e.tabWord n (4 + 2 * i), e.tabWord n (5 + 2 * i))

/-- PERIOD of a time table, ms. -/
def EdgeSt.period (e : EdgeSt) (n : Nat) : Nat := e.tabFld n 2 35 20
/-- PHASE of a time table, ms. -/
def EdgeSt.phase (e : EdgeSt) (n : Nat) : Nat := e.tabFld n 2 19 4
/-- LENGTH of a time table. -/
def EdgeSt.timeLen (e : EdgeSt) (n : Nat) : Nat := e.tabFld n 3 35 24
/-- FDF of a time table. -/
def EdgeSt.timeFdf (e : EdgeSt) (n : Nat) : Bool := e.tabFld n 1 34 34 == 1

/-- The value of one term (10 R283). -/
def State.term (s : State) (t : Term) : Int :=
  let e := s.element (fld t.1 35 31)
  let m := fld t.1 12 0
  let v := e * (fld t.2 35 28 : Int) / (fld t.2 27 16 : Int)
  (if m = 0 then v else v - m * (v / (m : Int))) + signedOf 16 (fld t.2 15 0)

/-- The fields of a table: the first term of each and the sum of its terms (10 R283). -/
def State.timeFields (s : State) : List Term → List (Term × Int)
  | [] => []
  | t :: ts =>
    match s.timeFields ts with
    | [] => [(t, s.term t)]
    | f :: fs => if bit1 f.1.1 30 then (t, s.term t + f.2) :: fs else (t, s.term t) :: f :: fs

/-- The bit of the payload that bit `i` of a field lies in (10 R282; MSB_FIRST is log 36). -/
def termBit (w : Word) (i : Nat) : Nat :=
  let p := fld w 29 20
  if bit1 w 13 then (p / 8 - (p % 8 + i) / 8) * 8 + (p % 8 + i) % 8 else p + i

/-- Set bit `p` of a payload. -/
def setBit (bs : List Byte) (p : Nat) (b : Bool) : List Byte :=
  bs.set (p / 8) (BitVec.ofNat 8 (setMask (byteAt bs (p / 8)).toNat (p % 8) b))

/-- Put a field into a payload (10 R283). -/
def putField (bs : List Byte) (f : Term × Int) : List Byte :=
  let w := fld f.1.1 19 14
  let v := ofSigned w f.2
  (List.range w).foldl (fun bs i => setBit bs (termBit f.1.1 i) (inMask v i)) bs

/-- The next valid CAN FD data length (10 R283, 11 R307). -/
def fdLen (n : Nat) : Nat :=
  if n ≤ 8 then n else if n ≤ 12 then 12 else if n ≤ 16 then 16 else if n ≤ 20 then 20 else if n ≤ 24 then 24 else if n ≤ 32 then 32
  else if n ≤ 48 then 48 else 64

/-- The payload of the time message of slot `n` now (10 R283). -/
def State.timePayload (s : State) (n : Nat) : List Byte :=
  (s.timeFields (s.edge.terms n)).foldl putField
    (List.replicate (s.edge.timeLen n) (BitVec.ofNat 8 (s.edge.tabFld n 3 23 16)))

/-! ### Checking a loaded table -/

/-- Clear a field of a word when a condition holds. -/
def clampIn (w : Word) (hi lo : Nat) (c : Nat → Bool) (u : Nat) : Word :=
  if c (fld w hi lo) then w36 (w.toNat - fld w hi lo * 2 ^ lo + u * 2 ^ lo) else w

/-- One clamp of a table word: highest and lowest bit, the values clamped, the value used, the reason. -/
structure TabFix where
  /-- Highest bit. -/
  hi : Nat
  /-- Lowest bit. -/
  lo : Nat
  /-- Values that are clamped. -/
  cond : Nat → Bool
  /-- The value used. -/
  use : Nat
  /-- REASON. -/
  reason : Nat

/-- A reserved field of a table (00 R6). -/
def tabRes (hi lo : Nat) : TabFix := { hi := hi, lo := lo, cond := (· ≠ 0), use := 0, reason := 3 }

/-- The clamps of an element (10 R277, R281). -/
def Elem.fixes (x : Elem) : List TabFix :=
  let del : List TabFix := [{ hi := 31, lo := 31, cond := (· ≠ 0), use := 0, reason := 4 }]
  match x.type with
  | 1 => del ++ [tabRes 21 0]
  | 2 => [tabRes 27 0]
  | 3 => del ++ [tabRes 18 0]
  | 4 => [tabRes 16 0]
  | 5 => del ++ [tabRes 4 0]
  | _ => []

/-- The clamps of a table by word (10 R277, R281, R283). -/
def EdgeSt.fixes (e : EdgeSt) (n : Nat) : List (Nat × List TabFix) :=
  if e.tabFld n 0 35 32 = 1 then
    [(0, [tabRes 23 0]),
     (1, [{ hi := 7, lo := 5, cond := (5 ≤ ·), use := 0, reason := 2 }, { hi := 4, lo := 3, cond := (· == 3), use := 2, reason := 2 }, tabRes 0 0]),
     (2, [tabRes 11 0]), (4, [{ hi := 35, lo := 34, cond := (· == 3), use := 1, reason := 2 }, tabRes 4 0])] ++
      ((elemAt 5 (e.serTab n).elems).map fun x => (x.1, x.2.fixes) :: if x.2.type = 5 then [(x.1 + 1, [tabRes 3 0])] else []).flatten
  else
    [(0, [tabRes 23 0]), (1, [tabRes 4 0]), (2, [tabRes 3 0]), (3, [tabRes 15 0])] ++
      (List.range (e.terms n).length).map fun i =>
        (4 + 2 * i, if e.tabFld n (4 + 2 * i) 30 30 = 1 then
          [(29, 20), (19, 14), (13, 13)].map fun f => { hi := f.1, lo := f.2, cond := (· ≠ 0), use := 0, reason := 4 } else [])

/-- Apply the clamps of one word of a slot: the store, and the clamps found as (word of the slot, clamp). -/
def EdgeSt.fixWord (n : Nat) (a : EdgeSt × List (Nat × Clamp)) (f : Nat × List TabFix) : EdgeSt × List (Nat × Clamp) :=
  f.2.foldl (fun a x =>
    let w := a.1.tabWord n f.1
    let v := fld w x.hi x.lo
    if x.cond v then
      ({ a.1 with store := Tbl.put wordZero a.1.store (1024 * n + f.1) (clampIn w x.hi x.lo x.cond x.use) },
       a.2 ++ [(f.1, { lsb := x.lo, width := x.hi + 1 - x.lo, reason := x.reason, given := v, used := x.use })])
    else a) a

/-- The clamps of a loaded table. -/
def EdgeSt.fixTable (e : EdgeSt) (n : Nat) : EdgeSt × List (Nat × Clamp) := (e.fixes n).foldl (EdgeSt.fixWord n) (e, [])

/-- Whether the elements of a serial table are in order (10 R281): `i` is the index of the first, `len` says that a LEN came before. -/
def elemsOk (gap : Bool) (i : Nat) (len : Bool) : List Elem → Bool
  | [] => true
  | x :: xs =>
    (match x.type with
      | 1 | 2 | 3 => true
      | 4 =>
        match x.endBy with
        | 0 => len
        | 1 => match xs with | y :: _ => y.type == 1 | [] => false
        | 2 => gap && xs.all fun y => y.type == 1 || y.type == 5
        | _ => true
      | 5 => decide (x.from_ < i) && decide (fld x.w 30 28 ≤ 3)
      | _ => false) && elemsOk gap (i + 1) (len || x.type == 3) xs

/-- A serial framing table passes the checks of R281 and the rule for its gaps (10 R276, R281). -/
def EdgeSt.serOk (e : EdgeSt) (n : Nat) : Bool :=
  let t := e.serTab n
  let k := e.tabFld n 0 31 24
  decide (1 ≤ k ∧ k ≤ 16) && (t.elems.filter fun x => x.type == 4).length == 1 && elemsOk (t.gap != 0) 0 false t.elems &&
    decide (300 ≤ t.baud ∧ t.baud ≤ 12000000) && decide (5 ≤ t.dataBits ∧ t.dataBits ≤ 9) && decide (1 ≤ t.maxFrame ∧ t.maxFrame ≤ 2048) &&
    (t.icg == 0 || t.gap == 0 || decide (t.icg < t.gap))

/-- A field lies within LENGTH (10 R283). -/
def termFits (len : Nat) (w : Word) : Bool :=
  let p := fld w 29 20
  let k := fld w 19 14
  if bit1 w 30 then true
  else if bit1 w 13 then decide (p / 8 < len ∧ (p % 8 + k - 1) / 8 ≤ p / 8) else decide (p + k ≤ 8 * len)

/-- A time-message table passes the checks of R283 and its ranges (10 R282, R283). -/
def EdgeSt.timeOk (e : EdgeSt) (n : Nat) : Bool :=
  let k := e.tabFld n 0 31 24
  let ts := e.terms n
  decide (1 ≤ k ∧ k ≤ 32) && decide (10 ≤ e.period n ∧ e.period n ≤ 60000) && decide (e.phase n < e.period n) &&
    decide (1 ≤ e.timeLen n ∧ e.timeLen n ≤ 64) && (match ts with | t :: _ => !bit1 t.1 30 | [] => false) &&
    ts.all fun t => elementOk (fld t.1 35 31) && termFits (e.timeLen n) t.1 &&
      (bit1 t.1 30 || decide (1 ≤ fld t.1 19 14 ∧ fld t.1 19 14 ≤ 40)) && decide (1 ≤ fld t.2 35 28) && decide (1 ≤ fld t.2 27 16)

/-- A slot passes its checks (10 R281, R283). -/
def EdgeSt.slotOk (e : EdgeSt) (n : Nat) : Bool :=
  if e.tabFld n 0 35 32 = 1 then e.serOk n else if e.tabFld n 0 35 32 = 2 then e.timeOk n else false

/-- A valid slot of a KIND (10 R275, R276). -/
def EdgeSt.isValid (e : EdgeSt) (n kind : Nat) : Bool := inMask e.valid n && e.tabFld n 0 35 32 == kind

/-! ### The shipped tables -/

/-- A term word pair of the shipped time table (10 R282, R284). -/
def termWords (elem : Nat) (accum : Bool) (pos mod mul div add : Nat) : List Word :=
  [pack [(31, 5, elem), (30, 1, b1 accum), (20, 10, pos), (14, 6, if accum then 0 else 8), (0, 13, mod)], pack [(28, 8, mul), (16, 12, div), (0, 16, add)]]

/-- The shipped tables of slots 0 to 4; what the spec does not say of slots 1 to 3 is log 37 (10 R281, R284). -/
def shippedTables : List (List Word) :=
  [[0x103000000, 0x0004B0734, 0x0DC000000, 0x000000040, 0x405800460, 0x4A0000000, 0x103400000, 0x500000FE0, 0x000000000],
   [pack [(32, 4, 1), (24, 8, 3)], pack [(12, 24, 9600), (8, 4, 8), (2, 1, 1)], pack [(24, 12, 4), (12, 12, 20)], pack [(0, 12, 21)],
    pack [(34, 2, 2), (22, 12, 24), (18, 4, 2), (14, 4, 3), (10, 4, 1), (6, 4, 1), (5, 1, 1)],
    pack [(32, 4, 2), (31, 1, 1)], pack [(32, 4, 4), (31, 1, 1), (29, 2, 2)], pack [(32, 4, 5), (28, 3, 2)], 0],
   [pack [(32, 4, 1), (24, 8, 3)], pack [(12, 24, 19200), (8, 4, 8), (5, 3, 1), (2, 1, 1)], pack [(24, 12, 33), (12, 12, 77)],
    pack [(24, 12, 750), (12, 12, 1750), (0, 12, 256)], pack [(34, 2, 1), (22, 12, 77), (10, 4, 1), (6, 4, 1)],
    pack [(32, 4, 2), (31, 1, 1)], pack [(32, 4, 4), (31, 1, 1), (29, 2, 2)],
    pack [(32, 4, 5), (28, 3, 3), (27, 1, 1), (26, 1, 1), (25, 1, 1), (5, 16, 0xFFFF)], pack [(20, 16, 0x8005)]],
   [pack [(32, 4, 1), (24, 8, 2)], pack [(12, 24, 115200), (8, 4, 8)], 0, pack [(0, 12, 2048)], 0,
    pack [(32, 4, 3), (29, 2, 1), (28, 1, 1)], pack [(32, 4, 4), (31, 1, 1)]],
   [pack [(32, 4, 2), (24, 8, 10)], pack [(35, 1, 1), (5, 29, 0x18FEE64C)], pack [(20, 16, 1000), (4, 16, 750)], pack [(24, 12, 8), (16, 8, 0xFF)]] ++
     termWords 0x07 false 0 0 4 1 0 ++ termWords 0x08 true 0 0 1 250 0 ++ termWords 0x06 false 8 0 1 1 0 ++ termWords 0x05 false 16 0 1 1 0 ++
     termWords 0x03 false 24 0 1 1 0 ++ termWords 0x04 false 32 0 4 1 0 ++ termWords 0x09 true 0 0 1 1 0 ++
     termWords 0x02 false 40 0 1 1 (65536 - 1985) ++ termWords 0x0D false 48 60 1 1 125 ++ termWords 0x0D false 56 0 1 60 125]

/-- Slots 0 to 4 loaded at start-up (10 R275). -/
def EdgeSt.ship (e : EdgeSt) : EdgeSt :=
  (List.range 5).foldl (fun e n =>
    { e with store := Tbl.puts wordZero e.store (1024 * n) (shippedTables.getD n []), valid := setMask e.valid n true }) e

end Sys2Proof.Machine
end

