-- ==== Sys2Proof/Machine/Wake.lean ====
section
/-! DEFINITION. The sleep agreement: wake sources and records, PREPARE, the commit point, sleep and wake, matches and holds
(16 R472 to R478, R489; 17 R498, R507, R508). -/

namespace Sys2Proof

/-- Words D, E and F of the record of a frame (16 R475). -/
def WakeIn.words (w : WakeIn) : Word × Word × Word :=
  let v (i : Nat) : Nat := beVal (slice w.data i 4) * 256 ^ (4 - (slice w.data i 4).length)
  if 3 ≤ w.kind then (w36 (w.mac / 4096), pack [(24, 12, w.mac), (8, 16, w.id)], pack [(0, 32, v 0)])
  else (w36 w.id, pack [(0, 32, v 0)], pack [(0, 32, v 4)])

/-- The key of a frame that VALUE and MASK are held against (16 R472). -/
def WakeIn.key (w : WakeIn) : Nat := match w.kind with | 3 => w.mac % 2 ^ 32 | 5 => 0 | _ => w.id

/-- The identity that the log keeps (16 R472). -/
def WakeIn.ident (w : WakeIn) : Nat := if 3 ≤ w.kind then w.mac else w.id

end Sys2Proof

namespace Sys2Proof.Machine

/-! ### Stack-control messages -/

/-- The code of a stack state (17 R509). -/
def StackMode.code : StackMode → Nat
  | .single => 0 | .master => 1 | .member => 2 | .orphan => 3 | .acting => 4 | .conflict => 5

/-- Awake time in seconds (16 R473). -/
def State.awakeS (s : State) : Nat := (s.tim.ticks - s.pow.awakeAt) / 312500000

/-- Whether the package serves as master of a stack (17 R500). -/
def State.isMaster (s : State) : Bool := s.stk.mode == .master || s.stk.mode == .acting

/-- A stack-control or bridge frame with its words (17 R498, R499). -/
def State.stackFrame (s : State) (ws : List Word) : List Byte :=
  etherFrame stackDmac (s.img.baseMac + 3) 0x88B6 (ws.map wordBytes5).flatten

/-- The words of a stack-control message (17 R498). -/
def State.stackWords (s : State) (msg : Nat) (primary : Bool) : List Word :=
  [pack [(32, 4, msg), (30, 2, s.sys.member), (27, 3, s.stk.mode.code), (25, 2, s.stk.master), (23, 2, s.stk.reach), (22, 1, b1 primary),
         (0, 22, if msg = 1 ∧ s.isMaster then min (2 ^ 22 - 1) s.awakeS else 0)], Config.uidWord 1]

/-- Send a stack-control message on one Hem port (17 R498). -/
def State.stackSend1 (s : State) (p msg : Nat) (primary : Bool) : State :=
  if s.isHem p then s.inject p s.tim.cfg.ptpQueue .stackControl (s.stackFrame (s.stackWords msg primary)) else s

/-- Send a stack-control message on both Hem ports (17 R507). -/
def State.stackSend (s : State) (msg : Nat) (primary : Bool) : State := (s.stackSend1 2 msg primary).stackSend1 15 msg primary

/-- Pull STK_WAKE low for 1 ms (17 R508). -/
def State.pullStkWake (s : State) : State :=
  if s.stk.mode = .single then s else s.modStk fun k => { k with wakeLow := some (s.tim.ticks + ticksMs 1) }

/-- A package that does not run its own agreement (17 R507). -/
def State.follows (s : State) : Bool := s.stk.mode == .member

/-! ### Records -/

/-- Make a wake record; WAKE is raised (16 R475). -/
def State.wakeRecord (s : State) (r : WakeRec) : State :=
  let r1 := { r with time := s.now72, tick := s.tim.ticks }
  (s.modPow fun p =>
    { p with recs := (p.recs ++ [r1]).drop (p.recs.length + 1 - 32),
             recOmitted := if 32 ≤ p.recs.length then satN 12 p.recOmitted 1 else p.recOmitted }).raiseDev .wake

/-- The first frame received on the source of the newest wake within 100 ms after it fills its record (16 R475). -/
def State.noteFirst (s : State) (w : WakeIn) : State :=
  let take (r : WakeRec) : Bool :=
    !r.firstValid && r.src == w.src && decide (s.tim.ticks ≤ r.tick + ticksMs 100) &&
      (if 3 ≤ w.kind then r.kind == 1 || r.kind == 2 || r.kind == 10 else r.kind == 3)
  match s.pow.recs.getLast? with
  | some r => if take r then s.modPow fun p => { p with recs := p.recs.dropLast ++ [{ r with firstValid := true, first := w.words }] } else s
  | none => s

/-! ### Timer, holds and the keep-awake log -/

/-- The sleep timer starts again (16 R473). -/
def State.restartTimer (s : State) : State := s.modPow fun p => { p with timerAt := s.tim.ticks }

/-- Awake time starts again (16 R473). -/
def State.restartAwake (s : State) : State := s.modPow fun p => { p with awakeAt := s.tim.ticks }

/-- The paths that hold now (16 R489). -/
def State.holders (s : State) : List Nat := (List.range 6).filter fun i => (Tbl.get noneAt s.pow.holds i).isSome

/-- Awake time that KEEP_AWAKE_MIN is held against: a member's is its master's (16 R473, 17 R507). -/
def State.awakeSeen (s : State) : Nat :=
  if s.follows then
    let h (p : Nat) : Nat := match (Tbl.get HemCtr.dflt s.stk.hems p).hello with | some h => if h.member = s.stk.master then h.awakeS else 0 | none => 0
    max (h 2) (h 15)
  else s.awakeS

/-- Enter an identity in the keep-awake log when awake time exceeds KEEP_AWAKE_MIN (16 R473, R476). -/
def State.keepAwake (s : State) (k : KeepRec) : State :=
  let m := s.pow.wake.keepAwakeMin
  if m = 0 ∨ s.awakeSeen ≤ 60 * m then s
  else if s.pow.keep.any fun e => e.kind == k.kind && e.src == k.src && e.ident == k.ident then
    s.modPow fun p => { p with keep := p.keep.map fun e =>
      if e.kind = k.kind ∧ e.src = k.src ∧ e.ident = k.ident then { e with count := satN 24 e.count 1 } else e }
  else if 16 ≤ s.pow.keep.length then s.modPow fun p => { p with keepOmitted := satN 12 p.keepOmitted 1 }
  else (s.modPow fun p => { p with keep := p.keep ++ [{ k with time := s.now72 % 2 ^ 36 }] }).raiseDev .keepAwake

/-! ### Transitions -/

/-- LIN commanders that run (10 R274). -/
def State.linCommanders (s : State) (f : LinCh → LinCh) : State :=
  s.modEdge fun e => { e with lin := Tbl.remap LinCh.dflt (fun c => if c.enable && c.commander then f c else c) e.lin }

/-- Enter PREPARE (16 R474). -/
def State.enterPrepare (s : State) : State :=
  let s1 := s.modPow fun p => { p with mode := .prepare, prepareAt := s.tim.ticks }
  let s2 := (List.range 26).foldl (fun s p => if (kindOfPort p).t1 && (s.port p).tc10 then s.portSleep p else s) s1
  let s3 := s2.linCommanders fun c => { c with sleepDue := true }
  if s3.isMaster then s3.stackSend 3 false else s3

/-- The sleep preparation is cancelled (16 R474, 17 R507). -/
def State.cancelPrepare (s : State) : State :=
  let s1 := (s.modPow fun p => { p with mode := .awake, cancels := sat36 p.cancels 1 }).restartTimer
  let s2 := (List.range 26).foldl (fun s p => if (s.port p).mode == .sleepWait then s.portUp p else s) s1
  let s3 := s2.linCommanders fun c => { c with sleepDue := false, pulseDue := true }
  if s3.isMaster then s3.stackSend 4 false else s3

/-- A wake is decided: its record, and the WAKE sequence (16 R474, 17 R508); a TAMPER event that
waits for it is raised (15 R437). -/
def State.startWake (s : State) (r : WakeRec) : State :=
  let s1 := ((s.modPow fun p => { p with mode := .waking, wakes := sat36 p.wakes 1, latch := none }).wakeRecord r).pullStkWake
  let s2 := if s1.key.tamperDue then (s1.raiseDev .tamper).modKey fun k => { k with tamperDue := false } else s1
  s2.runSeq 1

/-- A feed is disabled and OFF (16 R466). -/
def Feed.toOff (f : Feed) (now : Nat) : Feed := { f with mode := .off, now := f.cfg, current := 0, used := 0, since := now }

/-- The commit point (16 R474). -/
def State.commitSleep (s : State) : State :=
  let s0 := if s.isMaster then s.stackSend 5 false else s
  let s1 := s0.modPow fun p =>
    { p with mode := .committed, latch := none, commitAt := s.tim.ticks,
             feeds := Tbl.remap Feed.dflt (fun f => if f.mode ≠ .off ∧ f.now.sleepOn = false then f.toOff s.tim.ticks else f) p.feeds }
  let s2 := (List.range 26).foldl (fun s p =>
    let s1 := s.portSleep p
    if (s1.port p).mode = .disabled ∨ (s1.port p).mode = .sleeping then s1 else s1.portTo p .sleeping false) s1
  s2.runSeq 2

/-- A wake source or a match is decided (16 R474; 17 R507, R508); a match counts only before the STB balls are driven. -/
def State.wakeSource (s : State) (r : WakeRec) : State :=
  match s.pow.mode with
  | .awake => s
  | .prepare =>
    if s.follows && r.kind != 12 then s.pullStkWake
    else if s.follows then s
    else (s.cancelPrepare.wakeRecord { r with cancel := true }).restartAwake
  | .committed =>
    let s1 := s.pullStkWake
    if s.follows && r.kind != 12 then s1
    else if s1.pow.latch.isSome ∨ (r.kind = 9 ∧ s1.pow.stbDriven) then s1 else s1.modPow fun p => { p with latch := some r }
  | .asleep => if r.kind = 9 ∨ r.kind = 10 then s else s.startWake r
  | .waking => s.modPow fun p => { p with wakes := sat36 p.wakes 1 }

/-! ### Matches -/

/-- Whether an entry matches a frame (16 R472). -/
def WakePolicy.matches (e : WakePolicy) (w : WakeIn) : Bool :=
  e.valid && e.kind == w.kind && e.src == w.src && Nat.land w.key e.mask == e.value

/-- One match (16 R473, R474; 17 R507). -/
def State.policyHit (s : State) (i : Nat) (w : WakeIn) : State :=
  let e := Tbl.get WakePolicy.dflt s.pow.policy i
  let k : KeepRec := { kind := w.kind, src := w.src, index := i, ident := w.ident }
  let r : WakeRec := { kind := 9, src := w.src, firstValid := true, first := w.words }
  let s0 := if s.follows then s.stackSend 2 e.primary else s
  match s0.pow.mode with
  | .awake =>
    let s1 := s0.restartTimer
    if e.primary then s1.restartAwake else s1.keepAwake k
  | _ => s0.wakeSource r

/-- Meaning of WAKE_POLICY_MATCH: a received frame is held against the wake policy table (16 R472, R473). -/
def execWakePolicyMatch (w : WakeIn) (s : State) : Res :=
  .next ((((List.range 64).filter fun i => (Tbl.get WakePolicy.dflt s.pow.policy i).matches w).foldl (fun s i => s.policyHit i w) s).noteFirst w)

/-! ### Events of the agreement -/

/-- Meaning of SLEEP_TIMER_EXPIRY: SLEEP_S have passed since the timer's last restart, with no hold (16 R473, R474). -/
def execSleepTimerExpiry (s : State) : Res :=
  .next (
    if s.pow.mode = .awake ∧ s.follows = false ∧ s.pow.wake.sleepEn ∧ s.holders = [] then
      (s.advTick (s.pow.timerAt + ticksS s.pow.wake.sleepS)).enterPrepare
    else s)

/-- Meaning of PREPARE_CANCEL: a wake of this kind and source meets PREPARE (16 R474). -/
def execPrepareCancel (kind src : Nat) (s : State) : Res :=
  .next (if s.pow.mode = .prepare then s.wakeSource { kind := kind % 16, src := src % 32 } else s)

/-- Meaning of COMMIT_POINT: PREPARE_MS have passed (16 R474). -/
def execCommitPoint (s : State) : Res :=
  .next (
    if s.pow.mode = .prepare ∧ s.follows = false then
      (s.advTick (s.pow.prepareAt + ticksMs s.pow.wake.prepareMs)).commitSleep
    else s)

/-- Meaning of SLEEP_SEQ_COMPLETE: the SLEEP sequence has run to its end (16 R474). -/
def execSleepSeqComplete (s : State) : Res :=
  .next (
    if s.pow.mode = .committed ∧ s.pow.run = none then
      let s1 := s.modPow fun p => { p with sleepAt := s.tim.ticks, stbDriven := true }
      match s1.pow.latch with
      | none => s1.modPow fun p => { p with mode := .asleep }
      | some r => (s1.modPow fun p => { p with lateWakes := sat36 p.lateWakes 1 }).startWake { r with late := true }
    else s)

/-- Meaning of WAKE_SOURCE, `dt` ticks after the last command: a wake source of this kind and source is decided (16 R474). -/
def execWakeSource (kind src dt : Nat) (s : State) : Res := .next ((s.adv dt).wakeSource { kind := kind % 16, src := src % 32 })

/-- Meaning of WAKE_SEQ_COMPLETE: the WAKE sequence has run to its end; the feeds with AUTO_ON follow, and the control plane is
rebuilt; the gate lists resume (16 R466, R474, R478). -/
def execWakeSeqComplete (s : State) : Res :=
  .next (
    if s.pow.mode = .waking ∧ s.pow.run = none then
      let s1 := (((s.modPow fun p =>
        { p with mode := .awake, rebuild := true, stbDriven := false,
                 autoOn := ((List.range 8).filter fun i =>
                   (Tbl.get Feed.dflt p.feeds i).cfg.valid && (Tbl.get Feed.dflt p.feeds i).cfg.autoOn, s.tim.ticks) }).restartTimer).restartAwake).linCommanders
        fun c => { c with sleepDue := false, pulseDue := c.stopped }
      (List.range 26).foldl State.gateResume s1
    else s)

/-- Meaning of WAKE_LOC_INPUT: a local wake input has held its active level for LOC_FILTER_MS (16 R474, R488). -/
def execWakeLocInput (input dt : Nat) (s : State) : Res :=
  .next (if input ≤ 1 ∧ inMask s.pow.wake.locEn input then (s.adv dt).wakeSource { kind := 4 } else s)

/-- Meaning of SLEEP_WAKE_TIMER: TIMER_S have passed since the sleep entry (16 R474, R488). -/
def execSleepWakeTimer (s : State) : Res :=
  .next (
    if s.pow.mode = .asleep ∧ s.pow.wake.timerS ≠ 0 then
      (s.advTick (s.pow.sleepAt + ticksS s.pow.wake.timerS)).wakeSource { kind := 6 }
    else s)

/-- Meaning of STK_WAKE_INPUT: STK_WAKE has been low for at least 50 µs (17 R508). -/
def execStkWakeInput (s : State) : Res := .next (if s.stk.mode = .single then s else s.wakeSource { kind := 12 })

/-- Meaning of WAKE_HOLD_EXPIRY: a path's hold has lasted HOLD_S (16 R473, R489). -/
def execWakeHoldExpiry (path : Path) (s : State) : Res :=
  let i := hostPaths.idxOf path
  .next (
    match Tbl.get noneAt s.pow.holds i with
    | none => s
    | some h => ((s.advTick h.until_).modPow fun p => { p with holds := Tbl.put noneAt p.holds i none }).restartTimer)

/-! ### Sleep and wake of the ports -/

/-- Meaning of PORT_SLEEP_CMD: D0 commands a port to sleep, in PREPARE or after the commit point (09 R242, R250). -/
def execPortSleepCmd (port : Nat) (s : State) : Res :=
  .next (if port ≤ 25 ∧ (s.pow.mode = .prepare ∨ s.pow.mode = .committed) then s.portSleep port else s)

/-- Meaning of PORT_WAKE_CMD: D0 commands a port to wake; the PHY die's temperature is `temp` K (09 R242, R243). -/
def execPortWakeCmd (port temp : Nat) (s : State) : Res :=
  .next (if port ≤ 25 ∧ (s.pow.mode = .awake ∨ s.pow.mode = .waking) then
    (s.modPort port fun c => { c with phyTemp := temp }).portWake port temp
  else s)

/-- Meaning of TC10_SLEEP_REQ_RX: D0 rejects a partner's request in AWAKE and acknowledges it in PREPARE (09 R250, 16 R474). -/
def execTc10SleepReqRx (port : Nat) (s : State) : Res :=
  let c := s.port port
  .next (if port ≤ 25 ∧ (kindOfPort port).t1 ∧ c.tc10 ∧ (c.mode = .up ∨ c.mode = .sleepWait) then
    s.emit (.tc10Answer port (s.pow.mode == .prepare))
  else s)

/-- Meaning of TC10_WAKE_REQ_RX: an in-band wake-up request of the partner (09 R242, R250; 16 R474). -/
def execTc10WakeReqRx (port : Nat) (s : State) : Res :=
  let c := s.port port
  .next (
    if port ≤ 25 ∧ (kindOfPort port).t1 ∧ c.tc10 then
      match c.mode with
      | .sleepWait => (s.portUp port).wakeSource { kind := 10, src := port }
      | .up => s.wakeSource { kind := 10, src := port }
      | _ => s
    else s)

/-- Meaning of WAKE_PULSE_DETECTED, `dt` ticks after the last command: a wake-up pulse, or bus activity on a 10BASE-T1S port, on a
port that sleeps (09 R242, R251). -/
def execWakePulseDetected (port dt : Nat) (s : State) : Res :=
  let c := s.port port
  .next (
    if port ≤ 25 then
      if kindOfPort port = .multidrop then
        (if c.mode = .sleeping then (s.adv dt).wakeSource { kind := 2, src := port } else s)
      else if (kindOfPort port).t1 ∧ c.tc10 then
        match c.mode with
        | .sleeping => (s.adv dt).wakeSource { kind := 1, src := port }
        | .sleepWait => ((s.adv dt).portUp port).wakeSource { kind := 1, src := port }
        | _ => s
      else s
    else s)

end Sys2Proof.Machine
end

