-- ==== Sys2Proof/Machine/Edge.lean ====
section
/-! DEFINITION. The CAN, LIN and serial channels: reception, transmission, time messages and transceiver wake (10 R265 to R286). -/

namespace Sys2Proof

/-- The arbitration field of a data frame as a number: a lower one wins (10 R269). -/
def CanFrame.arb (f : CanFrame) : Nat := if f.ide then f.id / 2 ^ 18 * 2 ^ 19 + 2 ^ 18 + f.id % 2 ^ 18 else f.id * 2 ^ 19

end Sys2Proof

namespace Sys2Proof.Machine

/-! ### Channels and counters -/

/-- One CAN channel. -/
def State.canCh (s : State) (c : Nat) : CanCh := Tbl.get CanCh.dflt s.edge.can c
/-- Change one CAN channel. -/
def State.modCan (s : State) (c : Nat) (f : CanCh → CanCh) : State := s.modEdge fun e => { e with can := Tbl.upd CanCh.dflt e.can c f }
/-- One LIN channel, 0 to 3. -/
def State.linCh (s : State) (c : Nat) : LinCh := Tbl.get LinCh.dflt s.edge.lin c
/-- Change one LIN channel. -/
def State.modLin (s : State) (c : Nat) (f : LinCh → LinCh) : State := s.modEdge fun e => { e with lin := Tbl.upd LinCh.dflt e.lin c f }
/-- One serial engine, 0 to 7. -/
def State.serCh (s : State) (c : Nat) : SerCh := Tbl.get SerCh.dflt s.edge.ser c
/-- Change one serial engine. -/
def State.modSer (s : State) (c : Nat) (f : SerCh → SerCh) : State := s.modEdge fun e => { e with ser := Tbl.upd SerCh.dflt e.ser c f }

/-- Counters of a channel by its number of R265. -/
def State.edgeCtr (s : State) (n : Nat) : EdgeCtr := Tbl.get EdgeCtr.dflt s.edge.ctr n
/-- Change the counters of a channel. -/
def State.modCtrE (s : State) (n : Nat) (f : EdgeCtr → EdgeCtr) : State := s.modEdge fun e => { e with ctr := Tbl.upd EdgeCtr.dflt e.ctr n f }

/-- Counter C`i` of channel `n` steps; EDGE_SAT when it saturates (10 R286). -/
def State.edgeCount (s : State) (n i : Nat) : State :=
  let old := Tbl.get zeroAt (s.edgeCtr n).c (i - 1)
  (s.modCtrE n fun c => { c with c := Tbl.put zeroAt c.c (i - 1) (sat36 old 1) }).satRaise old 1 fun t => t.raiseDev .edgeSat

/-- RX_FRAMES steps (10 R286). -/
def State.rxCount (s : State) (n : Nat) : State := s.modCtrE n fun c => { c with rx := add72 c.rx 1 }
/-- TX_FRAMES steps (10 R286). -/
def State.txCount (s : State) (n : Nat) : State := s.modCtrE n fun c => { c with tx := add72 c.tx 1 }

/-- The channels of the Cuff die run: it is present and start-up has enabled them (18 R514, R523). -/
def State.cuffRuns (s : State) : Bool := s.has 5 && s.edge.up && s.sys.cuffOk

/-- A CAN channel on the bus. -/
def State.canOn (s : State) (c : Nat) : Bool := decide (c ≤ 5) && s.cuffRuns && (s.canCh c).enable
/-- A LIN channel that runs. -/
def State.linOn (s : State) (c : Nat) : Bool := decide (c ≤ 3) && s.cuffRuns && (s.linCh c).enable
/-- A serial engine that runs. -/
def State.serOn (s : State) (c : Nat) : Bool := decide (c ≤ 7) && s.cuffRuns && (s.serCh c).enable

/-! ### Periodic slots and time messages as content -/

/-- A field of word `i` of a periodic slot (11 R319). -/
def PerSlot.fld (p : PerSlot) (i hi lo : Nat) : Nat := Sys2Proof.fld (p.words.getD (i - 1) 0) hi lo
/-- CHAN of a slot. -/
def PerSlot.chan (p : PerSlot) : Nat := p.fld 1 26 22
/-- ID of a slot. -/
def PerSlot.id (p : PerSlot) : Nat := p.fld 2 35 7
/-- One periodic slot. -/
def State.perSlot (s : State) (n : Nat) : PerSlot := Tbl.get PerSlot.dflt s.gw.slots n
/-- Change one periodic slot. -/
def State.modSlot (s : State) (n : Nat) (f : PerSlot → PerSlot) : State := s.modGw fun g => { g with slots := Tbl.upd PerSlot.dflt g.slots n f }

/-- The payload that a slot sends now: none before its first write, and none when it is stale with STALE_ACT 1 (11 R312, R313). -/
def PerSlot.live (p : PerSlot) : Option (List Byte) := if p.valid && !(p.isStale && p.fld 1 10 9 == 1) then p.data else none

/-- A time message may be sent: the package is not UNSET and its seconds are valid (08 R230). -/
def State.timeOk (s : State) : Bool := s.tim.mode != .unset && s.tim.secValid

/-- Pad a payload to the next valid CAN FD data length. -/
def padFd (fill : Byte) (bs : List Byte) : List Byte := bs ++ List.replicate (fdLen bs.length - bs.length) fill

/-- The content of a pending CAN frame, taken as it wins arbitration; none when there is nothing to send (08 R229, R230; 11 R312). -/
def State.fillCan (s : State) (tab : Nat) (x : CanTx) : Option CanFrame :=
  match x.origin with
  | .plain => some x.frame
  | .timeMsg =>
    if s.timeOk then
      let d := s.timePayload tab
      some { x.frame with data := if x.frame.fdf then padFd (BitVec.ofNat 8 (s.edge.tabFld tab 3 23 16)) d else d }
    else none
  | .slot n => (s.perSlot n).live.map fun d => { x.frame with data := if x.frame.fdf then padFd 0xCC d else d }

/-! ### CAN -/

/-- The pending frame that the controller offers, with its place: the lowest arbitration field, the earliest request among equals
(10 R269). -/
def bestCan (i : Nat) : List CanTx → Option (Nat × CanTx)
  | [] => none
  | x :: xs =>
    match bestCan (i + 1) xs with
    | none => some (i, x)
    | some b => if x.frame.arb ≤ b.2.frame.arb then some (i, x) else some b

/-- Put a frame back among those that wait, at its request's place (10 R269). -/
def requeue (x : CanTx) : List CanTx → List CanTx
  | [] => [x]
  | y :: ys => if x.at_ ≤ y.at_ then x :: y :: ys else y :: requeue x ys

/-- A frame that a channel of a MODE can carry (10 R267, R287). -/
def canFits (mode : Nat) (f : CanFrame) : Bool :=
  (if f.xl then mode == 2 && decide (1 ≤ f.data.length ∧ f.data.length ≤ 2048 ∧ f.id < 2 ^ 11)
   else if f.fdf then decide (1 ≤ mode) && decide (f.data.length ≤ 64) && fdLen f.data.length == f.data.length && !f.rtr
   else decide (f.data.length ≤ 8)) && (if f.ide then decide (f.id < 2 ^ 29) else decide (f.id < 2 ^ 11))

/-- Bytes of CAN XL payload that a receive buffer holds (10 R265). -/
def xlBytes (q : List CanRx) : Nat := q.foldl (fun n x => n + if x.frame.xl then x.frame.data.length else 0) 0

/-- REC after a frame received without error (10 R270; ISO 11898-1, PRESUMED, log 38). -/
def recDown (rec_ free : Nat) : Nat := if 127 < rec_ then 119 + free else rec_ - 1

/-- Meaning of CAN_FRAME_RX, `dt` ticks after the last command: a frame is received whose start-of-frame bit was sampled `sof`
quarter ns ago; `lost` says that a pending frame of the controller lost arbitration to it (10 R265, R266, R269; 16 R475). -/
def execCanFrameRx (chan : Nat) (frame : CanFrame) (sof : Nat) (lost : Bool) (dt : Nat) (s : State) : Res :=
  .next (
    if s.canOn chan ∧ (s.canCh chan).busOff = false ∧ canFits (s.canCh chan).mode frame then
      let s1 := s.adv dt
      let c := s1.canCh chan
      let s2 :=
        match (if lost then bestCan 0 c.txq else none) with
        | none => s1
        | some b =>
          let s2 := s1.edgeCount chan 6
          if c.oneShot then (s2.modCan chan fun c => { c with txq := c.txq.eraseIdx b.1 }).edgeCount chan 2 else s2
      let s3 := (s2.modCan chan fun c => { c with rec_ := recDown c.rec_ (s2.freeBelow 9) }).useFree
      let w : WakeIn := { kind := 0, src := chan, id := frame.id + (if frame.ide then 2 ^ 31 else 0), data := frame.data.take 8 }
      let s4 := s3.noteFirst w
      let q := (s4.canCh chan).rxq
      if 64 ≤ q.length ∨ (frame.xl ∧ 16384 < xlBytes q + frame.data.length) then s4.edgeCount chan 1
      else
        (s4.modCan chan fun c => { c with rxq := c.rxq ++ [{ frame := frame, time := timeOfQ (s1.nowQ - sof) }] }).rxCount chan
    else s)

/-- Drop the frames that cannot be sent any more: a time message while the time is not valid, counted, and a slot with nothing to
send (08 R230, 11 R312). -/
def State.pruneCan (s : State) (c : Nat) : State :=
  let ch := s.canCh c
  let gone := ch.txq.filter fun x => (s.fillCan ch.timeTable x).isNone
  let s1 := s.modCan c fun ch => { ch with txq := ch.txq.filter fun x => (s.fillCan ch.timeTable x).isSome }
  gone.foldl (fun s x => if x.origin = .timeMsg then s.edgeCount c 4 else s) s1

/-- Meaning of CAN_ARB_WIN, `dt` ticks after the last command: the frame offered wins, and its content is taken now (10 R269;
08 R229). -/
def execCanArbWin (chan dt : Nat) (s : State) : Res :=
  .next (
    if s.canOn chan ∧ (s.canCh chan).busOff = false ∧ (s.canCh chan).listen = false ∧ (s.canCh chan).sending = none then
      let s1 := (s.adv dt).pruneCan chan
      match bestCan 0 (s1.canCh chan).txq with
      | none => s1
      | some b =>
        match s1.fillCan (s1.canCh chan).timeTable b.2 with
        | none => s1
        | some f => s1.modCan chan fun c => { c with txq := c.txq.eraseIdx b.1, sending := some { b.2 with frame := f } }
    else s)

/-- The pending frames of a channel are dropped, each counted in TX_DROPS (10 R271). -/
def State.dropCan (s : State) (c : Nat) : State :=
  let n := (s.canCh c).txq.length
  (List.range n).foldl (fun s _ => s.edgeCount c 2) (s.modCan c fun ch => { ch with txq := [], offAfter := false })

/-- A transmission of a periodic slot has been completed (11 R315). -/
def State.slotSent (s : State) (o : TxOrigin) : State :=
  match o with
  | .slot n => s.modSlot n fun p => { p with sent := add72 p.sent 1 }
  | _ => s

/-- Meaning of CAN_TX_DONE, `dt` ticks after the last command: the frame is sent, or it met an error and stays pending, in one-shot
mode not (10 R269, R271). -/
def execCanTxDone (chan : Nat) (ok : Bool) (dt : Nat) (s : State) : Res :=
  .next (
    match (s.canCh chan).sending with
    | none => s
    | some x =>
      if chan ≤ 5 then
        let s1 := (s.adv dt).modCan chan fun c => { c with sending := none }
        let s2 :=
          if ok then
            (((s1.modCan chan fun c => { c with tec := c.tec - 1 }).txCount chan).slotSent x.origin).emit (.canFrame chan x.frame)
          else if (s1.canCh chan).oneShot then s1.edgeCount chan 2
          else s1.modCan chan fun c => { c with txq := requeue x c.txq }
        if (s2.canCh chan).offAfter then s2.dropCan chan else s2
      else s)

/-- The place of the first frame whose TX_LIFETIME runs; it does not apply to the time slot (10 R269). -/
def firstTimed : List CanTx → Option CanTx
  | [] => none
  | x :: xs => if x.origin = .timeMsg then firstTimed xs else some x

/-- Meaning of CAN_TX_EXPIRED: TX_LIFETIME has passed for the oldest pending frame (10 R269). -/
def execCanTxExpired (chan : Nat) (s : State) : Res :=
  let c := s.canCh chan
  .next (
    if chan ≤ 5 ∧ c.txLife ≠ 0 then
      match firstTimed c.txq with
      | none => s
      | some x =>
        ((s.advTick (x.at_ + ticksMs c.txLife)).modCan chan fun c => { c with txq := c.txq.erase x }).edgeCount chan 3
    else s)

/-- Meaning of CAN_BUS_ERROR: a protocol error of code 1 to 5, or with code 6 a protocol exception with PEX 1; `add` is the step
that ISO 11898-1 gives the transmitter's or the receiver's error counter (10 R270; log 38). -/
def execCanBusError (chan code : Nat) (tx : Bool) (add : Nat) (s : State) : Res :=
  .next (
    if s.canOn chan ∧ (s.canCh chan).busOff = false then
      if code = 6 then (if (s.canCh chan).pex then s.edgeCount chan 8 else s)
      else if 1 ≤ code ∧ code ≤ 5 then
        let n := if add = 0 then 0 else if tx ∨ 8 ≤ add then 8 else 1
        let s1 := (s.modCan chan fun c =>
          { c with lastError := code, tec := if tx then min 256 (c.tec + n) else c.tec, rec_ := if tx then c.rec_ else min 255 (c.rec_ + n) }).edgeCount chan 5
        if 255 < (s1.canCh chan).tec then
          ((s1.modCan chan fun c =>
            { c with busOff := true, recovering := c.autoRecover, tec := 255,
                     txq := match c.sending with | some x => requeue x c.txq | none => c.txq, sending := none }).raiseDev .busOff).edgeCount chan 7
        else s1
      else s
    else s)

/-- Meaning of CAN_BUS_OFF_RECOVERED, `dt` ticks after the last command (10 R270). -/
def execCanBusOffRecovered (chan dt : Nat) (s : State) : Res :=
  .next (if chan ≤ 5 ∧ (s.canCh chan).busOff ∧ (s.canCh chan).recovering then
    (s.adv dt).modCan chan fun c => { c with busOff := false, recovering := false, tec := 0, rec_ := 0 }
  else s)

/-- Queue a frame on a CAN channel; false when its queue is full (10 R265). -/
def State.canQueue (s : State) (c : Nat) (f : CanFrame) (o : TxOrigin) : State × Bool :=
  let n := ((s.canCh c).txq.filter fun x => x.origin != .timeMsg).length +
    (match (s.canCh c).sending with | some x => if x.origin = .timeMsg then 0 else 1 | none => 0)
  if o ≠ .timeMsg ∧ 31 ≤ n then (s.edgeCount c 2, false)
  else (s.modCan c fun ch => { ch with txq := ch.txq ++ [{ frame := f, origin := o, at_ := s.tim.ticks }] }, true)

/-! ### LIN -/

/-- The protected identifier of a frame ID (ISO 17987, PRESUMED, log 38). -/
def linPid (id : Nat) : Nat :=
  let b (i : Nat) : Nat := id / 2 ^ i % 2
  id % 64 + 64 * ((b 0 + b 1 + b 2 + b 4) % 2) + 128 * ((b 1 + b 3 + b 4 + b 5 + 1) % 2)

/-- The checksum of a LIN response (10 R272; ISO 17987, PRESUMED, log 38). -/
def linCheck (enhanced : Bool) (id : Nat) (data : List Byte) : Nat :=
  let start := if enhanced ∧ id ≠ 0x3C ∧ id ≠ 0x3D then linPid id else 0
  255 - data.foldl (fun a b => if 255 < a + b.toNat then a + b.toNat - 255 else a + b.toNat) start

/-- The entry of a frame ID: IDs 0x3E and 0x3F are always ignored (10 R272). -/
def LinCh.ent (c : LinCh) (id : Nat) : LinEnt := if 0x3E ≤ id then {} else Tbl.get LinEnt.dflt c.table id

/-- Answer a header by the frame table: publish, publish the time message, or wait for a response (10 R272, R273, R282; 08 R229,
R230). -/
def State.linAnswer (s : State) (c id : Nat) (header : Bool) : State :=
  let ch := s.linCh c
  let e := ch.ent id
  let head (s : State) : State := if header then s.emit (.linHeader c id) else s
  let send (d : List Byte) : State :=
    (((head s).emit (.linResponse c d (linCheck e.enhanced id d))).txCount (6 + c)).modLin c fun ch => { ch with hdr := none }
  match e.dir with
  | 0 => (head s).modLin c fun ch => { ch with hdr := none }
  | 1 => (head s).modLin c fun ch => { ch with hdr := some { id := id, time := s.now72 } }
  | 2 =>
    match Tbl.get noneAt ch.bufs id with
    | some d => send d
    | none => (s.edgeCount (6 + c) 9).modLin c fun ch => { ch with hdr := none }
  | _ =>
    if s.edge.isValid ch.timeTable 2 then
      (if s.timeOk then send (s.timePayload ch.timeTable) else (s.edgeCount (6 + c) 4).modLin c fun ch => { ch with hdr := none })
    else s.modLin c fun ch => { ch with hdr := none }

/-- The schedule as written (10 R273, R289). -/
def LinCh.written (c : LinCh) : List (Nat × Nat) := (List.range c.schedLen).map fun i => Tbl.get (fun _ => ((0, 0) : Nat × Nat)) c.sched i

/-- The go-to-sleep frame of a commander, which then stops its schedule (10 R274). -/
def State.linSleep (s : State) (c : Nat) : State :=
  let d : List Byte := 0 :: List.replicate 7 0xFF
  (((s.emit (.linHeader c 0x3C)).emit (.linResponse c d (linCheck false 0x3C d))).txCount (6 + c)).modLin c fun ch =>
    { ch with sleepDue := false, stopped := true, slotAt := none, hdr := none }

/-- Meaning of LIN_SLOT_START: the next slot of a commander's schedule starts as the one before ends (10 R273). -/
def execLinSlotStart (chan : Nat) (s : State) : Res :=
  let ch := s.linCh chan
  .next (
    if s.linOn chan ∧ ch.commander ∧ ch.stopped = false then
      let at_ := match ch.slotAt with | some t => t + ticksMs (ch.round.getD ch.slot (0, 0)).2 | none => s.tim.ticks
      let s1 := s.advTick at_
      if ch.sleepDue then s1.linSleep chan
      else
        let fresh := ch.slotAt.isNone || decide (ch.round.length ≤ ch.slot + 1)
        let round := if fresh then ch.written else ch.round
        let slot := if fresh then 0 else ch.slot + 1
        match round[slot]? with
        | none => s1.modLin chan fun ch => { ch with slotAt := none, round := [], slot := 0, hdr := none }
        | some e => (s1.modLin chan fun ch => { ch with slotAt := some s1.tim.ticks, round := round, slot := slot }).linAnswer chan e.1 true
    else s)

/-- Meaning of LIN_HEADER_RX, `dt` ticks after the last command: a responder receives a header, with a good sync byte or not
(10 R273). -/
def execLinHeaderRx (chan id : Nat) (sync : Bool) (dt : Nat) (s : State) : Res :=
  .next (
    if s.linOn chan ∧ (s.linCh chan).commander = false ∧ id ≤ 0x3F then
      let s1 := s.adv dt
      if !sync then ((s1.edgeCount (6 + chan) 10).modLin chan fun c => { c with lastError := 5, hdr := none })
      else s1.linAnswer chan id false
    else s)

/-- Meaning of LIN_RESPONSE_RX, `dt` ticks after the last command: a response with its checksum; `err` 1 is a bad stop bit in it, 2 a
bit read back wrong of a response sent (10 R265, R273). -/
def execLinResponseRx (chan : Nat) (data : List Byte) (check err dt : Nat) (s : State) : Res :=
  .next (
    if s.linOn chan then
      let s1 := s.adv dt
      if err = 2 then (s1.edgeCount (6 + chan) 8).modLin chan fun c => { c with lastError := 9 }
      else
        match (s1.linCh chan).hdr with
        | none => s1
        | some h =>
          if h.done then s1
          else if err = 1 then (s1.edgeCount (6 + chan) 7).modLin chan fun c => { c with lastError := 1 }
          else
            let e := (s1.linCh chan).ent h.id
            if data.length ≠ e.len then s1
            else if check ≠ linCheck e.enhanced h.id data then (s1.edgeCount (6 + chan) 6).modLin chan fun c => { c with lastError := 3 }
            else
              let s2 := (s1.modLin chan fun c => { c with hdr := some { h with done := true } }).noteFirst
                { kind := 1, src := 6 + chan, id := h.id, data := data }
              if h.id = 0x3C ∧ data.head? = some 0 then s2.rxCount (6 + chan)
              else if 8 ≤ (s2.linCh chan).rxq.length then s2.edgeCount (6 + chan) 1
              else (s2.modLin chan fun c => { c with rxq := c.rxq ++ [{ id := h.id, data := data, time := h.time }] }).rxCount (6 + chan)
    else s)

/-- Meaning of LIN_SLOT_END: a subscribed slot ends without a complete response (10 R273). -/
def execLinSlotEnd (chan : Nat) (s : State) : Res :=
  .next (
    match (s.linCh chan).hdr, (s.linCh chan).slotAt with
    | some h, some t =>
      if s.linOn chan ∧ (s.linCh chan).commander ∧ h.done = false then
        ((s.advTick (t + ticksMs ((s.linCh chan).round.getD (s.linCh chan).slot (0, 0)).2)).edgeCount (6 + chan) 5).modLin chan fun c =>
          { c with hdr := none, lastError := 8 }
      else s
    | _, _ => s)

/-- Meaning of LIN_GO_TO_SLEEP: a commander told to sleep reaches its next slot (10 R274). -/
def execLinGoToSleep (chan : Nat) (s : State) : Res :=
  let ch := s.linCh chan
  .next (
    if s.linOn chan ∧ ch.commander ∧ ch.sleepDue then
      (match ch.slotAt with | some t => s.advTick (t + ticksMs (ch.round.getD ch.slot (0, 0)).2) | none => s).linSleep chan
    else s)

/-- Meaning of LIN_WAKE_PULSE: a commander told to wake sends a dominant pulse of 1 ms (10 R274). -/
def execLinWakePulse (chan : Nat) (s : State) : Res :=
  .next (
    if s.linOn chan ∧ (s.linCh chan).commander ∧ (s.linCh chan).pulseDue then
      let s1 := (s.emit (.linWake chan)).adv (ticksMs 1)
      s1.modLin chan fun c => { c with pulseDue := false, pulseEnd := some s1.tim.ticks }
    else s)

/-- Meaning of LIN_SCHEDULE_RESTART: 100 ms after the pulse (10 R274). -/
def execLinScheduleRestart (chan : Nat) (s : State) : Res :=
  .next (
    match (s.linCh chan).pulseEnd with
    | some t =>
      if s.linOn chan then
        (s.advTick (t + ticksMs 100)).modLin chan fun c => { c with pulseEnd := none, stopped := false, slotAt := none }
      else s
    | none => s)

/-! ### Serial reception -/

/-- The format table in force of a serial engine. -/
def State.serTabOf (s : State) (c : Nat) : SerTab := s.edge.serTab (s.serCh c).table

/-- The bit rate in force (10 R276, R290). -/
def State.serBaud (s : State) (c : Nat) : Nat := if (s.serCh c).baud = 0 then (s.serTabOf c).baud else (s.serCh c).baud

/-- A new TABLE and BAUD are taken with both state tables at rest (10 R280). -/
def SerCh.takeNext (c : SerCh) : SerCh :=
  match c.next with
  | some n => if !c.receiving && (c.mode == .ready || c.mode == .waiting) then { c with table := n.1, baud := n.2, next := none } else c
  | none => c

/-- The frame being received is discarded, with its counter and LAST_ERROR (10 R279, R295). -/
def State.serDiscard (s : State) (c i err : Nat) : State :=
  (s.modSer c fun ch => ({ ch with receiving := false, chars := [], lastError := err } : SerCh).takeNext).edgeCount (10 + c) i

/-- A whole frame has been received (10 R265, R277, R279). -/
def State.serDeliver (s : State) (c addr : Nat) (payload : List Nat) : State :=
  let s1 := s.noteFirst { kind := 2, src := 10 + c, id := addr % 2 ^ 32, data := (payload.take 8).map (BitVec.ofNat 8) }
  let s2 := s1.modSer c fun ch => ({ ch with receiving := false, chars := [] } : SerCh).takeNext
  if 4 ≤ (s2.serCh c).rxq.length then s2.edgeCount (10 + c) 1
  else (s2.modSer c fun ch => { ch with rxq := ch.rxq ++ [{ addr := addr, payload := payload, time := (s.serCh c).rxTime }] }).rxCount (10 + c)

/-- What the characters so far make: the frame goes on, ends, or is discarded (10 R279). -/
def State.serStep (s : State) (c : Nat) (gap : Bool) : State :=
  match (s.serTabOf c).read gap (s.serCh c).chars with
  | .more => if gap then s.serDiscard c 7 3 else s
  | .lit => s.serDiscard c 9 5
  | .check => s.serDiscard c 7 3
  | .done a p => s.serDeliver c a p

/-- FRAME_GAP has passed before a character: `gap` is the idle before it in ns (10 R276, R279). -/
def State.gapPassed (s : State) (c gap : Nat) : Bool :=
  let t := s.serTabOf c
  t.gap == 0 || (decide (t.gap * 1000000000 ≤ gap * 2 * s.serBaud c) && decide (1000 * t.fld 3 23 12 ≤ gap))

/-- Meaning of SER_CHAR_RX, `dt` ticks after the last command: a character with its parity and stop bits good or not, after an idle
of `gap` ns (10 R279). -/
def execSerCharRx (chan value : Nat) (parity stop : Bool) (gap dt : Nat) (s : State) : Res :=
  .next (
    if s.serOn chan then
      let s1 := s.adv dt
      let c := s1.serCh chan
      let t := s1.serTabOf chan
      let v := value % 2 ^ t.dataBits
      if t.half && (c.mode == .lead || c.mode == .sending || c.mode == .lag) then s1
      else if c.receiving then
        if !parity then s1.serDiscard chan 6 2
        else if !stop then s1.serDiscard chan 5 1
        else if t.maxFrame < c.chars.length + 1 then s1.serDiscard chan 10 6
        else (s1.modSer chan fun c => { c with chars := c.chars ++ [v] }).serStep chan false
      else if !s1.gapPassed chan gap then s1
      else
        match t.elems with
        | [] => s1
        | e :: _ =>
          if e.type = 1 ∧ v ≠ e.lit then (s1.edgeCount (10 + chan) 9).modSer chan fun c => { c with lastError := 5 }
          else (s1.modSer chan fun c => { c with receiving := true, chars := [v], rxTime := s1.now72 }).serStep chan false
    else s)

/-- Meaning of SER_GAP_TIMEOUT, `dt` ticks after the last command: a gap above ICG_MAX, or with `reach` one of FRAME_GAP, meets a
frame being received (10 R279). -/
def execSerGapTimeout (chan : Nat) (reach : Bool) (dt : Nat) (s : State) : Res :=
  .next (
    if s.serOn chan ∧ (s.serCh chan).receiving then
      let s1 := s.adv dt
      let t := s1.serTabOf chan
      if reach && t.gapBody && t.gap != 0 then s1.serStep chan true
      else if t.icg ≠ 0 then s1.serDiscard chan 8 4
      else s1
    else s)

/-! ### Serial transmission -/

/-- The message that the transmitter takes next: the lowest PRIORITY, the earliest request among equals (10 R280). -/
def bestSer (i : Nat) : List SerTx → Option (Nat × SerTx)
  | [] => none
  | x :: xs =>
    match bestSer (i + 1) xs with
    | none => some (i, x)
    | some b => if x.prio ≤ b.2.prio then some (i, x) else some b

/-- The transmitter is READY: it takes new settings and the next message (10 R280). -/
def SerCh.ready (c : SerCh) : SerCh :=
  let c1 := ({ c with mode := .ready, cur := none, line := [], total := 0, attempts := 0 } : SerCh).takeNext
  match bestSer 0 c1.txq with
  | none => c1
  | some b => { c1 with mode := .waiting, cur := some b.2, txq := c1.txq.eraseIdx b.1 }

/-- Queue a message on a serial engine; false when its queue is full (10 R265, R280). -/
def State.serQueue (s : State) (c : Nat) (m : SerTx) : State × Bool :=
  let n := ((s.serCh c).txq.filter fun x => x.origin != .timeMsg).length +
    (match (s.serCh c).cur with | some x => if x.origin = .timeMsg then 0 else 1 | none => 0)
  if m.origin ≠ .timeMsg ∧ 16 ≤ n then (s.edgeCount (10 + c) 2, false)
  else
    (s.modSer c fun ch =>
      let ch1 := { ch with txq := ch.txq ++ [{ m with at_ := s.tim.ticks }] }
      if ch1.mode = .ready then ch1.ready else ch1, true)

/-- Meaning of SER_TX_QUEUE: firmware or the gateway asks for a message (10 R265, R277, R280). -/
def execSerTxQueue (chan addr : Nat) (payload : List Nat) (prio : Nat) (s : State) : Res :=
  .next (
    if s.serOn chan then
      if (s.serTabOf chan).accepts payload then
        (s.serQueue chan { addr := addr % 2 ^ 32, payload := payload, prio := max 1 (min 8 prio) }).1
      else s.edgeCount (10 + chan) 2
    else s)

/-- Meaning of SER_LINE_IDLE, `dt` ticks after the last command: the line has been idle for A, and DE is asserted (10 R280). -/
def execSerLineIdle (chan dt : Nat) (s : State) : Res :=
  .next (if s.serOn chan ∧ (s.serCh chan).mode = .waiting then
    (s.adv dt).modSer chan fun c => { c with mode := .lead, attempts := c.attempts + 1 }
  else s)

/-- The message to send with its content of now; none when there is nothing to send (08 R229, R230; 10 R282; 11 R312). -/
def State.fillSer (s : State) (tab : Nat) (m : SerTx) : Option SerTx :=
  match m.origin with
  | .plain => some m
  | .timeMsg => if s.timeOk then some { m with payload := (s.timePayload tab).map BitVec.toNat } else none
  | .slot n => (s.perSlot n).live.map fun d => { m with payload := d.map BitVec.toNat }

/-- Meaning of SER_DE_LEAD_END, `dt` ticks after the last command: the first start bit; the content is taken now (10 R280;
08 R229). -/
def execSerDeLeadEnd (chan dt : Nat) (s : State) : Res :=
  .next (
    match (s.serCh chan).cur with
    | none => s
    | some m =>
      if s.serOn chan ∧ (s.serCh chan).mode = .lead then
        let s1 := s.adv dt
        match s1.fillSer (s1.serCh chan).timeTable m with
        | none => (if m.origin = .timeMsg then s1.edgeCount (10 + chan) 4 else s1).modSer chan SerCh.ready
        | some x =>
          let l := (s1.serTabOf chan).send x.addr x.payload
          s1.modSer chan fun c => { c with mode := .sending, line := l, total := l.length }
      else s)

/-- Meaning of SER_CHAR_SENT, `dt` ticks after the last command: the next character has been sent, and the line read `echo`
(10 R280). -/
def execSerCharSent (chan echo dt : Nat) (s : State) : Res :=
  .next (
    match (s.serCh chan).line with
    | [] => s
    | v :: rest =>
      if s.serOn chan ∧ (s.serCh chan).mode = .sending then
        let s1 := (s.adv dt).emit (.serChar chan v)
        let t := s1.serTabOf chan
        if t.echo ∧ echo ≠ v then
          let s2 := (s1.edgeCount (10 + chan) 11).modSer chan fun c => { c with lastError := 7 }
          if (s2.serCh chan).attempts ≤ t.retries then s2.modSer chan fun c => ({ c with mode := .waiting, line := [], total := 0 } : SerCh).takeNext
          else (s2.edgeCount (10 + chan) 12).modSer chan SerCh.ready
        else s1.modSer chan fun c => { c with line := rest, mode := if rest.isEmpty then .lag else .sending }
      else s)

/-- Meaning of SER_DE_LAG_END, `dt` ticks after the last command: DE is released and the frame counted (10 R280, R286). -/
def execSerDeLagEnd (chan dt : Nat) (s : State) : Res :=
  .next (
    match (s.serCh chan).cur with
    | none => s
    | some m =>
      if s.serOn chan ∧ (s.serCh chan).mode = .lag then
        (((s.adv dt).txCount (10 + chan)).slotSent m.origin).modSer chan SerCh.ready
      else s)

/-- Meaning of SER_TX_EXPIRED: TX_LIFETIME has passed for the message that waits (10 R280). -/
def execSerTxExpired (chan : Nat) (s : State) : Res :=
  let c := s.serCh chan
  .next (
    match c.cur with
    | none => s
    | some m =>
      if s.serOn chan ∧ c.mode = .waiting ∧ c.txLife ≠ 0 then
        ((s.advTick (m.at_ + ticksMs c.txLife)).edgeCount (10 + chan) 3).modSer chan SerCh.ready
      else s)

/-! ### Wake and time messages -/

/-- Meaning of TRANSCEIVER_WAKE, `dt` ticks after the last command: a wake ball has been held at WAKE_POL for WAKE_FILTER (10 R285). -/
def execTransceiverWake (chan dt : Nat) (s : State) : Res :=
  .next (if chan ≤ 17 ∧ (Tbl.get WakeBall.dflt s.edge.balls chan).en then (s.adv dt).wakeSource { kind := 3, src := chan } else s)

/-- The index of the next instant k × PERIOD + PHASE ms not yet handled: `last` is the last one handled, plus 1 (10 R284). -/
def nextInstant (nowQ period phase last : Nat) : Nat :=
  let k := ceilDiv (nowQ - 12 - phase * 4000000) (period * 4000000)
  if k + 1 = last then k + 1 else k

/-- The instant of index `k` in quarter ns. -/
def instantQ (period phase k : Nat) : Nat := (k * period + phase) * 4000000

/-- Meaning of TIME_MSG_INSTANT: the next instant of a CAN or serial channel's time message (10 R284; 08 R230). -/
def execTimeMsgInstant (chan : Nat) (s : State) : Res :=
  let can := decide (chan ≤ 5)
  let c := chan - 10
  let on := if can then s.canOn chan && (s.canCh chan).timeEn else decide (10 ≤ chan) && s.serOn c && (s.serCh c).timeEn
  let tab := if can then (s.canCh chan).timeTable else (s.serCh c).timeTable
  .next (
    if on ∧ s.edge.isValid tab 2 then
      let p := s.edge.period tab
      let k := nextInstant s.nowQ p (s.edge.phase tab) (Tbl.get zeroAt s.gw.timeK chan)
      let s1 := (s.advQ (instantQ p (s.edge.phase tab) k)).modGw fun g => { g with timeK := Tbl.put zeroAt g.timeK chan (k + 1) }
      let w := s1.edge.tabWord tab 1
      let waits := if can then
          (s1.canCh chan).txq.any (fun x => x.origin == .timeMsg) || (match (s1.canCh chan).sending with | some x => x.origin == .timeMsg | none => false)
        else (s1.serCh c).txq.any (fun x => x.origin == .timeMsg) || (match (s1.serCh c).cur with | some x => x.origin == .timeMsg | none => false)
      if waits ∨ s1.timeOk = false then s1.edgeCount chan 4
      else if can then (s1.canQueue chan { ide := bit1 w 35, fdf := bit1 w 34, id := fld w 33 5 } .timeMsg).1
      else (s1.serQueue c { addr := fld w 33 5, prio := 8, origin := .timeMsg }).1
    else s)

end Sys2Proof.Machine
end

