-- ==== Sys2Proof/Machine/EdgeCmds.lean ====
section
/-! DEFINITION. The EDGE commands (10 R287 to R295). -/

namespace Sys2Proof.Machine

/-! ### CAN -/

/-- A bit rate from NBRP and the segments lies within `lo` to `hi` b/s (10 R267, R268). -/
def rateIn (brp s1 s2 lo hi : Nat) : Bool :=
  decide (lo * (brp * (1 + s1 + s2)) ≤ 80000000 ∧ 80000000 ≤ hi * (brp * (1 + s1 + s2)))

/-- A synchronisation jump width: from 1, and above its TSEG2 clamped to it (10 R287). -/
def fSjw (hi lo seg : Nat) : Fld := { hi := hi, lo := lo, clamp := fun v => if seg < v then some (seg, 5) else none, bad := (· == 0) }

/-- Word `i` of EDGE.CAN_WRITE as data-phase timing, checked when the MODE uses it (10 R287). -/
def wPhase (r : Req) (i top : Nat) (used : Bool) : List Fld :=
  if used then
    [fNeed 35 30 fun v => decide (1 ≤ v ∧ v ≤ 32) && rateIn v (r.fld i 29 24) (r.fld i 23 19) 1 top, fIn 29 24 1 32, fIn 23 19 1 16,
     fSjw 18 14 (r.fld i 23 19), fAny 13 6, fAny 5 5]
  else [fAny 35 30, fAny 29 24, fAny 23 19, fAny 18 14, fAny 13 6, fAny 5 5]

/-- Whether a time-message table fits a MODE (10 R287). -/
def EdgeSt.timeFits (e : EdgeSt) (n mode : Nat) : Bool :=
  e.isValid n 2 && (if e.timeFdf n then decide (1 ≤ mode) else decide (e.timeLen n ≤ 8))

/-- 0xF01 EDGE.CAN_WRITE (10 R271, R287). -/
def edgeCanWrite : CmdSpec where
  opcode := 0xF01
  lenOk := lenIs 4
  locked := policyLocked
  fields := fun r s =>
    let c := r.fld 1 35 32
    let m := r.fld 1 30 29
    [[fNeed 35 32 (· ≤ 5), fAny 31 31, fNeed 30 29 fun m => decide (m ≤ 1) || (m == 2 && decide (4 ≤ c)), fAny 28 28, fAny 27 27, fAny 26 26,
      fAny 25 25, fNeed 24 24 fun v => v == 0 || s.edge.timeFits (r.fld 1 23 18) m, fAny 23 18, fAny 17 6],
     [fNeed 35 30 fun v => decide (1 ≤ v ∧ v ≤ 32) && rateIn v (r.fld 2 29 22) (r.fld 2 21 14) 10000 1000000, fIn 29 22 2 255, fIn 21 14 2 128,
      fSjw 13 6 (r.fld 2 21 14)],
     wPhase r 3 8000000 (m != 0),
     if c ≤ 3 then [fTo 35 0 (fun _ => true) 0 4] else wPhase r 4 10000000 (m == 2)]
  run := fun r s =>
    let n := r.fld 1 35 32
    let c := s.canCh n
    let t := (r.word 2, r.word 3, r.word 4)
    let off := c.enable && (!r.bit 1 31 || c.mode != r.fld 1 30 29 || c.timing != t)
    let s1 := s.modCan n fun c =>
      { c with enable := r.bit 1 31, mode := r.fld 1 30 29, listen := r.bit 1 28, autoRecover := r.bit 1 27, oneShot := r.bit 1 26, pex := r.bit 1 25,
               timeEn := r.bit 1 24, timeTable := r.fld 1 23 18, txLife := r.fld 1 17 6, timing := t, offAfter := off && c.sending.isSome }
    { st := if off && c.sending.isNone then s1.dropCan n else s1 }

/-- Meaning of EDGE_CAN_WRITE. -/
def execEdgeCanWrite (r : Req) (s : State) : Res := .next (mailbox edgeCanWrite r s)

/-- A CAN channel as words 1 to 4 of EDGE.CAN_WRITE (10 R287). -/
def CanCh.words (c : CanCh) (n : Nat) : List Word :=
  [pack [(32, 4, n), (31, 1, b1 c.enable), (29, 2, c.mode), (28, 1, b1 c.listen), (27, 1, b1 c.autoRecover), (26, 1, b1 c.oneShot), (25, 1, b1 c.pex),
         (24, 1, b1 c.timeEn), (18, 6, c.timeTable), (6, 12, c.txLife)], c.timing.1, c.timing.2.1, c.timing.2.2]

/-- 0xF07 EDGE.CAN_RECOVER (10 R270, R293). -/
def edgeCanRecover : CmdSpec where
  opcode := 0xF07
  lenOk := lenIs 1
  fields := fun _ s => [[fNeed 35 32 fun c => decide (c ≤ 5) && (s.canCh c).busOff]]
  run := fun r s => { st := s.modCan (r.fld 1 35 32) fun c => { c with recovering := true } }

/-- Meaning of EDGE_CAN_RECOVER. -/
def execEdgeCanRecover (r : Req) (s : State) : Res := .next (mailbox edgeCanRecover r s)

/-! ### LIN -/

/-- 0xF02 EDGE.LIN_WRITE (10 R288). -/
def edgeLinWrite : CmdSpec where
  opcode := 0xF02
  lenOk := lenIs 1
  locked := policyLocked
  fields := fun _ _ => [[fNeed 35 32 (· ≤ 3), fAny 31 31, fAny 30 30, fRange 29 15 1000 20000, fAny 14 9]]
  run := fun r s =>
    { st := s.modLin (r.fld 1 35 32) fun c =>
        let c1 := { c with enable := r.bit 1 31, commander := r.bit 1 30, baud := r.fld 1 29 15, timeTable := r.fld 1 14 9 }
        if c.enable = c1.enable ∧ c.commander = c1.commander then c1
        else { c1 with slotAt := none, round := [], slot := 0, hdr := none, stopped := false, sleepDue := false, pulseDue := false, pulseEnd := none } }

/-- Meaning of EDGE_LIN_WRITE. -/
def execEdgeLinWrite (r : Req) (s : State) : Res := .next (mailbox edgeLinWrite r s)

/-- A LIN channel as word 1 of EDGE.LIN_WRITE (10 R288). -/
def LinCh.word (c : LinCh) (n : Nat) : Word :=
  pack [(32, 4, n), (31, 1, b1 c.enable), (30, 1, b1 c.commander), (15, 15, c.baud), (9, 6, c.timeTable)]

/-- The fields of a frame entry of ID `id` (10 R289). -/
def linEntFields (e : EdgeSt) (tab id : Nat) (w : Word) : List Fld :=
  let dir : Fld :=
    if 0x3E ≤ id then fTo 35 34 (fun _ => true) 0 4
    else fNeed 35 34 fun d => d != 3 || (e.isValid tab 2 && e.timeLen tab == fld w 32 29)
  [dir, if id = 0x3C ∨ id = 0x3D then fTo 33 33 (fun _ => true) 0 4 else fAny 33 33, fIn 32 29 1 8]

/-- 0xF03 EDGE.LIN_TABLE_WRITE (10 R273, R289). -/
def edgeLinTableWrite : CmdSpec where
  opcode := 0xF03
  lenOk := fun n => decide (2 ≤ n ∧ n ≤ 65)
  locked := policyLocked
  fields := fun r s =>
    let k := r.bit 1 31
    let st := r.fld 1 30 25
    let n := r.words.length - 1
    [fNeed 35 32 (· ≤ 3), fAny 31 31, fNeed 30 25 fun v => decide (v + n ≤ 64), if k then fIn 24 18 1 64 else fAny 24 18] ::
      (List.range n).map fun i =>
        if k then [fAny 35 30, fMin 29 22 1] else linEntFields s.edge (s.linCh (r.fld 1 35 32)).timeTable (st + i) (r.word (2 + i))
  run := fun r s =>
    let st := r.fld 1 30 25
    let ws := r.words.drop 1
    { st := s.modLin (r.fld 1 35 32) fun c =>
        if r.bit 1 31 then
          { c with schedLen := r.fld 1 24 18,
                   sched := Tbl.puts (fun _ => ((0, 0) : Nat × Nat)) c.sched st (ws.map fun w => (fld w 35 30, fld w 29 22)) }
        else
          { c with table := Tbl.puts LinEnt.dflt c.table st (ws.map fun w => { dir := fld w 35 34, enhanced := bit1 w 33, len := fld w 32 29 }) } }

/-- Meaning of EDGE_LIN_TABLE_WRITE. -/
def execEdgeLinTableWrite (r : Req) (s : State) : Res := .next (mailbox edgeLinTableWrite r s)

/-! ### Serial -/

/-- 0xF04 EDGE.SER_WRITE (10 R280, R290; log 39). -/
def edgeSerWrite : CmdSpec where
  opcode := 0xF04
  lenOk := lenIs 2
  locked := policyLocked
  fields := fun r s =>
    [[fNeed 35 32 (· ≤ 7), fAny 31 31, fNeed 30 25 fun t => s.edge.isValid t 1, fAny 24 24,
      fNeed 23 18 fun t => !r.bit 1 24 || s.edge.isValid t 2, fAny 17 6],
     [{ hi := 35, lo := 12, clamp := fun v => if v ≠ 0 ∧ v < 300 then some (300, 1) else if 12000000 < v then some (12000000, 2) else none }]]
  run := fun r s =>
    { st := s.modSer (r.fld 1 35 32) fun c =>
        let c1 : SerCh := { c with enable := r.bit 1 31, timeEn := r.bit 1 24, timeTable := r.fld 1 23 18, txLife := r.fld 1 17 6,
                                   next := some (r.fld 1 30 25, r.fld 2 35 12) }
        let c2 := if c1.enable then c1 else { c1 with receiving := false, chars := [] }
        c2.takeNext }

/-- Meaning of EDGE_SER_WRITE. -/
def execEdgeSerWrite (r : Req) (s : State) : Res := .next (mailbox edgeSerWrite r s)

/-- A serial engine as words 1 and 2 of EDGE.SER_WRITE (10 R290). -/
def SerCh.words (c : SerCh) (n : Nat) : List Word :=
  [pack [(32, 4, n), (31, 1, b1 c.enable), (25, 6, c.table), (24, 1, b1 c.timeEn), (18, 6, c.timeTable), (6, 12, c.txLife)], pack [(12, 24, c.baud)]]

/-! ### Tables -/

/-- An enabled channel uses a slot of the format table store (10 R280, R291). -/
def EdgeSt.inUse (e : EdgeSt) (n : Nat) : Bool :=
  (e.can.any fun c => c.2.enable && c.2.timeEn && c.2.timeTable == n) ||
    (e.lin.any fun c => c.2.enable && c.2.timeTable == n && c.2.table.any fun x => x.2.dir == 3) ||
    (e.ser.any fun c => c.2.enable && (c.2.table == n || (c.2.timeEn && c.2.timeTable == n) || (match c.2.next with | some x => x.1 == n | none => false)))

/-- 0xF05 EDGE.TABLE_LOAD (10 R275, R281, R283, R291). -/
def edgeTableLoad : CmdSpec where
  opcode := 0xF05
  lenOk := fun n => decide (2 ≤ n ∧ n ≤ 255)
  locked := policyLocked
  busy := fun r s => s.edge.inUse (r.fld 1 35 30)
  fields := fun r _ => [[fAny 35 30, fNeed 29 20 fun v => decide (v + (r.words.length - 1) ≤ 1024), fAny 19 19]]
  run := fun r s =>
    let n := r.fld 1 35 30
    let st := r.fld 1 29 20
    let s1 := s.modEdge fun e =>
      { e with store := Tbl.puts wordZero e.store (1024 * n + st) (r.words.drop 1), valid := if st = 0 then setMask e.valid n false else e.valid }
    if r.bit 1 19 then
      let x := s1.edge.fixTable n
      let cs := (x.2.filter fun c => decide (st ≤ c.1 ∧ c.1 + 1 < st + r.words.length)).map fun c => { c.2 with word := c.1 + 2 - st }
      if x.1.slotOk n then { st := s1.modEdge fun _ => { x.1 with valid := setMask x.1.valid n true }, clamps := cs }
      else { st := s1.modEdge fun _ => { x.1 with valid := setMask x.1.valid n false }, code := .refused, keep := true }
    else { st := s1 }

/-- Meaning of EDGE_TABLE_LOAD. -/
def execEdgeTableLoad (r : Req) (s : State) : Res := .next (mailbox edgeTableLoad r s)

/-! ### Wake balls -/

/-- 0xF06 EDGE.WAKE_WRITE (10 R292). -/
def edgeWakeWrite : CmdSpec where
  opcode := 0xF06
  lenOk := lenIs 1
  locked := policyLocked
  fields := fun _ _ => [[fNeed 35 31 (· ≤ 17), fAny 30 30, fAny 29 29, fRange 28 19 1 1000, fAny 18 18]]
  run := fun r s =>
    { st := s.modEdge fun e =>
        { e with balls := Tbl.put WakeBall.dflt e.balls (r.fld 1 35 31) { en := r.bit 1 30, pol := r.fld 1 29 29, filter := r.fld 1 28 19, stbPol := r.fld 1 18 18 } } }

/-- Meaning of EDGE_WAKE_WRITE. -/
def execEdgeWakeWrite (r : Req) (s : State) : Res := .next (mailbox edgeWakeWrite r s)

/-! ### Reads -/

/-- 0xF08 EDGE.CONFIG_READ (10 R294). -/
def edgeConfigRead : CmdSpec where
  opcode := 0xF08
  lenOk := lenIs 1
  changes := fun _ => false
  fields := fun r _ =>
    let k := r.fld 1 35 33
    let top := match k with | 0 => 5 | 1 | 2 | 3 => 3 | 4 => 7 | 5 => 17 | _ => 31
    [[fNeed 35 33 (· ≤ 6), fNeed 32 28 (· ≤ top)] ++
      if k = 6 then [fAny 27 22, fNeed 21 12 fun v => decide (v + r.fld 1 11 4 ≤ 1024), fIn 11 4 1 254] else []]
  run := fun r s =>
    let i := r.fld 1 32 28
    let e := s.edge
    { st := s
      payload := match r.fld 1 35 33 with
        | 0 => (s.canCh i).words i
        | 1 => [(s.linCh i).word i]
        | 2 => (Tbl.gets LinEnt.dflt (s.linCh i).table 0 64).map fun x => pack [(34, 2, x.dir), (33, 1, b1 x.enhanced), (29, 4, x.len)]
        | 3 => pack [(18, 7, (s.linCh i).schedLen)] ::
            (Tbl.gets (fun _ => ((0, 0) : Nat × Nat)) (s.linCh i).sched 0 64).map fun x => pack [(30, 6, x.1), (22, 8, x.2)]
        | 4 => (s.serCh i).words i
        | 5 =>
          let b := Tbl.get WakeBall.dflt e.balls i
          [pack [(31, 5, i), (30, 1, b1 b.en), (29, 1, b.pol), (19, 10, b.filter), (18, 1, b.stbPol)]]
        | _ => pack [(35, 1, b1 (inMask e.valid (r.fld 1 27 22)))] :: Tbl.gets wordZero e.store (1024 * r.fld 1 27 22 + r.fld 1 21 12) (r.fld 1 11 4) }

/-- Meaning of EDGE_CONFIG_READ. -/
def execEdgeConfigRead (r : Req) (s : State) : Res := .next (mailbox edgeConfigRead r s)

/-- Word 1 of EDGE.STATUS_READ (10 R295). -/
def State.edgeState (s : State) (n : Nat) : Word :=
  if n ≤ 5 then
    let c := s.canCh n
    let st := if !c.enable then 0 else if c.busOff then 3 else if 128 ≤ c.tec ∨ 128 ≤ c.rec_ then 2 else 1
    pack [(34, 2, st), (26, 8, c.tec), (18, 8, c.rec_), (14, 4, c.lastError)]
  else if n ≤ 9 then pack [(34, 2, b1 (s.linCh (n - 6)).enable), (14, 4, (s.linCh (n - 6)).lastError)]
  else pack [(34, 2, b1 (s.serCh (n - 10)).enable), (14, 4, (s.serCh (n - 10)).lastError)]

/-- 0xF09 EDGE.STATUS_READ (10 R295). -/
def edgeStatusRead : CmdSpec where
  opcode := 0xF09
  lenOk := lenIs 1
  changes := fun r => r.bit 1 30
  fields := fun _ _ => [[fNeed 35 31 (· ≤ 17), fAny 30 30]]
  run := fun r s =>
    let n := r.fld 1 35 31
    let c := s.edgeCtr n
    { st := if r.bit 1 30 then s.modCtrE n fun _ => {} else s
      payload := [s.edgeState n] ++ words72 c.rx ++ words72 c.tx ++ (Tbl.gets zeroAt c.c 0 12).map w36 }

/-- Meaning of EDGE_STATUS_READ. -/
def execEdgeStatusRead (r : Req) (s : State) : Res := .next (mailbox edgeStatusRead r s)

end Sys2Proof.Machine
end

