-- ==== Sys2Proof/Machine/Gw.lean ====
section
/-! DEFINITION. The gateway engine: IEEE 1722 frames and messages, the mapping tables, bundles and periodic slots (11 R296 to R314). -/

namespace Sys2Proof.Machine

/-- The kinds of a message: CAN, LIN, serial and CAN XL, in the order of MTYPE (11 R308). -/
inductive MsgKind where
  | can | lin | ser | xl
deriving DecidableEq, Repr

/-- A legacy message in the gateway. -/
structure GwMsg where
  /-- Its kind. -/
  kind : MsgKind := .can
  /-- Its CAN or CAN XL fields. -/
  frame : CanFrame := {}
  /-- 29-bit identifier. -/
  ide : Bool := false
  /-- Identifier, frame ID or ADDRESS. -/
  id : Nat := 0
  /-- Payload bytes. -/
  data : List Byte := []
  /-- Timestamp, 72 bits. -/
  time : Nat := 0
deriving DecidableEq, Repr

/-- MTYPE of a kind (11 R308). -/
def MsgKind.code : MsgKind → Nat
  | .can => 0 | .lin => 1 | .ser => 2 | .xl => 3

/-! ### Entries -/

/-- A field of word `i` of an entry (11 R317, R318). -/
def GwEnt.fld (e : GwEnt) (i hi lo : Nat) : Nat := Sys2Proof.fld (e.words.getD (i - 1) 0) hi lo
/-- An uplink entry. -/
def State.upEnt (s : State) (i : Nat) : GwEnt := Tbl.get GwEnt.dflt s.gw.up i
/-- A downlink entry. -/
def State.downEnt (s : State) (i : Nat) : GwEnt := Tbl.get GwEnt.dflt s.gw.down i
/-- A bundle. -/
def State.bundle (s : State) (i : Nat) : Bundle := Tbl.get Bundle.dflt s.gw.bundles i
/-- Change a bundle. -/
def State.modBundle (s : State) (i : Nat) (f : Bundle → Bundle) : State := s.modGw fun g => { g with bundles := Tbl.upd Bundle.dflt g.bundles i f }
/-- A field of word `i` of a bundle (11 R316). -/
def Bundle.fld (b : Bundle) (i hi lo : Nat) : Nat := Sys2Proof.fld (b.words.getD (i - 1) 0) hi lo

/-- Change an uplink (no) or downlink (yes) entry. -/
def State.modEnt (s : State) (down : Bool) (i : Nat) (f : GwEnt → GwEnt) : State :=
  s.modGw fun g => if down then { g with down := Tbl.upd GwEnt.dflt g.down i f } else { g with up := Tbl.upd GwEnt.dflt g.up i f }

/-- The channel and the rate of an entry. -/
def GwEnt.chan (e : GwEnt) (down : Bool) : Nat := if down then e.fld 4 35 31 else e.fld 1 24 20
/-- RATE of an entry. -/
def GwEnt.rate (e : GwEnt) (down : Bool) : Nat := if down then e.fld 5 35 20 else e.fld 4 17 2
/-- PRIO of an entry. -/
def GwEnt.prio (e : GwEnt) (down : Bool) : Nat := if down then e.fld 5 19 16 else e.fld 1 6 3

/-- The key of an entry matches a message (11 R304). -/
def GwEnt.keyIs (e : GwEnt) (m : GwMsg) : Bool :=
  (e.fld 2 35 35 == 1) == m.ide && Nat.land m.id (e.fld 3 31 0) == e.fld 2 31 0

/-- A token's worth of the bucket: its units are 1/312 500 000 of a token, so that RATE of them come with each tick. -/
def tokenUnit : Nat := 312500000

/-- Refill the bucket and take one token; no when it has none (11 R306). -/
def GwEnt.take (e : GwEnt) (down : Bool) (now : Nat) : GwEnt × Bool :=
  let r := e.rate down
  if r = 0 then (e, true)
  else
    let t := min (e.fld 3 35 32 * tokenUnit) (e.tokens + (now - e.last) * r)
    if tokenUnit ≤ t then ({ e with tokens := t - tokenUnit, last := now }, true) else ({ e with tokens := t, last := now }, false)

/-- The counters of an entry that stop a message. -/
inductive GwDrop where
  | rate | zone | fit | full
deriving DecidableEq, Repr

/-- Count a drop of an entry; the counters of D5 raise EDGE_SAT (11 R315). -/
def State.entDrop (s : State) (down : Bool) (i : Nat) (d : GwDrop) : State :=
  let e := if down then s.downEnt i else s.upEnt i
  let old := match d with | .rate => e.rateDrops | .zone => e.zoneDrops | .fit => e.fitDrops | .full => e.queueFull
  (s.modEnt down i fun e =>
    match d with
    | .rate => { e with rateDrops := sat36 old 1 }
    | .zone => { e with zoneDrops := sat36 old 1 }
    | .fit => { e with fitDrops := sat36 old 1 }
    | .full => { e with queueFull := sat36 old 1 }).satRaise old 1 fun t => t.raiseDev .edgeSat

/-- A counter of the gateway itself steps. -/
def State.gwCount (s : State) (old : Nat) (f : GwSt → GwSt) : State := (s.modGw f).satRaise old 1 fun t => t.raiseDev .edgeSat

/-! ### ACF messages -/

/-- A 64-bit count of nanoseconds of a 72-bit time (11 R299). -/
def acfTime (t : Nat) : Nat := t / 2 ^ 32 * 1000000000 + t % 2 ^ 32 / 4

/-- Quadlet 0 of an ACF message. -/
def acfHead (type len pad : Nat) (rest : Nat) : List Byte := beBytes 4 (type * 2 ^ 25 + len % 512 * 2 ^ 16 + pad * 2 ^ 14 + rest)

/-- Pad bytes of a payload. -/
def padOf (n : Nat) : Nat := (4 - n % 4) % 4

/-- An ACF message of the given type, further bits of quadlet 0, and further quadlets (11 R299). -/
def acfMake (type rest : Nat) (quads : List Byte) (data : List Byte) : List Byte :=
  let p := padOf data.length
  acfHead type (1 + (quads.length + data.length + p) / 4) p rest ++ quads ++ data ++ List.replicate p 0

/-- A message as an ACF message of a bus (11 R299, R310). -/
def GwMsg.acf (m : GwMsg) (bus : Nat) (brief : Bool) : List Byte :=
  let ts := beBytes 8 (acfTime m.time)
  let f := m.frame
  match m.kind with
  | .can =>
    let bits := b1 f.rtr * 2 ^ 12 + b1 m.ide * 2 ^ 11 + b1 f.brs * 2 ^ 10 + b1 f.fdf * 2 ^ 9 + b1 f.esi * 2 ^ 8 + bus
    if brief then acfMake 2 bits (beBytes 4 (m.id % 2 ^ 29)) m.data else acfMake 1 (2 ^ 13 + bits) (ts ++ beBytes 4 (m.id % 2 ^ 29)) m.data
  | .lin => acfMake 3 (2 ^ 13 + bus * 2 ^ 8 + m.id % 64) ts m.data
  | .ser => acfMake 6 (2 ^ 13 + bus) ts m.data
  | .xl =>
    acfMake 0x7A (2 ^ 13 + b1 f.sec * 2 ^ 12 + bus) (ts ++ beBytes 4 (f.sdt % 256 * 2 ^ 24 + f.vcid % 256 * 2 ^ 16 + m.id % 2 ^ 11) ++ beBytes 4 f.af) m.data

/-- A message read from an ACF message of a known type: its bus and itself; none for a type not in R299 (11 R299). -/
def acfRead (bs : List Byte) : Option (Nat × GwMsg) :=
  let q := beVal (slice bs 0 4)
  let pad := bitsOf q 15 14
  let body (n : Nat) : List Byte := let b := bs.drop n; b.take (b.length - pad)
  let can (n : Nat) : Option (Nat × GwMsg) :=
    let id := beVal (slice bs (n - 4) 4) % 2 ^ 29
    some (bitsOf q 4 0,
      { kind := .can, ide := inMask q 11, id := id, data := body n,
        frame := { rtr := inMask q 12, ide := inMask q 11, brs := inMask q 10, fdf := inMask q 9, esi := inMask q 8, id := id } })
  match bitsOf q 31 25 with
  | 1 => can 16
  | 2 => can 8
  | 3 => some (bitsOf q 12 8, { kind := .lin, id := bitsOf q 5 0, data := body 12 })
  | 6 => some (bitsOf q 4 0, { kind := .ser, data := body 12 })
  | 0x7A =>
    let w := beVal (slice bs 12 4)
    some (bitsOf q 4 0,
      { kind := .xl, id := bitsOf w 10 0, data := body 20,
        frame := { xl := true, id := bitsOf w 10 0, sdt := bitsOf w 31 24, vcid := bitsOf w 23 16, af := beVal (slice bs 16 4), sec := inMask q 12 } })
  | _ => none

/-- Header bytes of an ACF type, 4 for a type that is skipped (11 R299). -/
def acfHdr (type : Nat) : Nat := match type with | 1 => 16 | 2 => 8 | 3 => 12 | 6 => 12 | 0x7A => 20 | _ => 4

/-! ### Uplink frames -/

/-- The Internet checksum of bytes. -/
def inetSum (bs : List Byte) : Nat :=
  let s := (List.range (ceilDiv bs.length 2)).foldl (fun a i => a + (byteAt bs (2 * i)).toNat * 256 + (byteAt bs (2 * i + 1)).toNat) 0
  let t := s % 65536 + s / 65536
  65535 - (t % 65536 + t / 65536)

/-- GW_MAC: the image's, or the base MAC address plus 1 (11 R301). -/
def State.gwMac (s : State) : Nat := s.img.gwMac.getD ((s.img.baseMac + 1) % 2 ^ 48)

/-- The NTSCF header and the messages of a bundle (11 R298, R301; ntscf_data_length has 11 bits, log 41). -/
def Bundle.ntscf (b : Bundle) : List Byte :=
  let acf := b.acf.flatten
  [0x82] ++ beBytes 2 (32768 + acf.length % 2048) ++ beBytes 1 b.seq ++ beBytes 8 (b.fld 4 35 0 * 2 ^ 28 + b.fld 5 35 8) ++ acf

/-- The UDP form of a bundle's content (11 R301). -/
def Bundle.udp (b : Bundle) : List Byte :=
  let body := beBytes 4 b.encap ++ b.ntscf
  let n := 8 + body.length
  let ip0 := [0x45, BitVec.ofNat 8 (4 * b.fld 3 9 4)] ++ beBytes 2 (20 + n) ++ beBytes 2 b.ipId ++ [0x40, 0, 64, 17]
  let addrs := beBytes 4 (b.fld 6 31 0) ++ beBytes 4 (b.fld 7 31 0)
  let ip := ip0 ++ beBytes 2 (inetSum (ip0 ++ addrs)) ++ addrs
  let ports := beBytes 2 (b.fld 8 35 20) ++ beBytes 2 (b.fld 8 19 4) ++ beBytes 2 n
  let c := inetSum (addrs ++ [0, 17] ++ beBytes 2 n ++ ports ++ body)
  ip ++ ports ++ beBytes 2 (if c = 0 then 65535 else c) ++ body

/-- The frame of a bundle (11 R301). -/
def State.bundleFrame (s : State) (b : Bundle) : List Byte :=
  let vid := b.fld 1 22 11
  let tag := if vid = 0 then [] else beBytes 2 0x8100 ++ beBytes 2 (b.fld 1 25 23 * 8192 + vid)
  let udp := b.fld 1 28 28 == 1
  let x := beBytes 6 (b.fld 2 35 0 * 4096 + b.fld 3 35 24) ++ beBytes 6 s.gwMac ++ tag ++ beBytes 2 (if udp then 0x0800 else 0x22F0) ++
    (if udp then b.udp else b.ntscf)
  let x := x ++ List.replicate (60 - x.length) 0
  x ++ fcsOf x

/-- The port on which uplink frames enter: 30 while SW is up, else 31 (11 R296). -/
def State.uplinkPort (s : State) : Option Nat :=
  if inMask s.sys.links 2 && s.has 1 then some 30 else if inMask s.sys.links 3 && s.has 2 then some 31 else none

/-- Close a bundle: its frame enters the fabric (11 R310). -/
def State.closeBundle (s : State) (i : Nat) : State :=
  let b := s.bundle i
  if b.acf = [] then s
  else
    let s1 := s.modBundle i fun b =>
      { b with acf := [], seq := (b.seq + 1) % 256, ipId := (b.ipId + 1) % 65536,
               encap := if b.fld 1 28 28 = 1 then (b.encap + 1) % 2 ^ 32 else b.encap, frames := add72 b.frames 1 }
    match s1.uplinkPort with
    | some p => s1.stage p (s.bundleFrame b) false { gwZone := some b.zone }
    | none => s1

/-- A message joins a bundle (11 R300, R310). -/
def State.joinBundle (s : State) (i zone : Nat) (acf : List Byte) : State :=
  if 2044 < acf.length then
    let old := (s.bundle i).tooLong
    (s.modBundle i fun b => { b with tooLong := sat36 old 1 }).satRaise old 1 fun t => t.raiseDev .edgeSat
  else
    let b := s.bundle i
    let s1 := if b.acf ≠ [] ∧ (b.zone ≠ zone ∨ b.fld 3 23 10 < b.acf.flatten.length + acf.length) then s.closeBundle i else s
    let s2 := s1.modBundle i fun b =>
      { b with acf := b.acf ++ [acf], zone := zone, since := if b.acf = [] then s.tim.ticks else b.since, messages := add72 b.messages 1 }
    if b.fld 1 10 0 = 0 then s2.closeBundle i else s2

/-! ### Messages to channels -/

/-- Whether a message of an identifier fits a channel (11 R307; log 42). -/
def State.gwFits (s : State) (d : Nat) (m : GwMsg) (ide : Bool) (id : Nat) : Bool :=
  let idOk := if ide then decide (id < 2 ^ 29) else decide (id < 2 ^ 11)
  if d ≤ 5 then
    let mode := (s.canCh d).mode
    !m.frame.rtr && idOk &&
      (match m.kind with
        | .xl => mode == 2 && decide (1 ≤ m.data.length ∧ m.data.length ≤ 2048)
        | _ => if m.frame.fdf then decide (1 ≤ mode) && decide (m.data.length ≤ 64) else decide (m.data.length ≤ 8))
  else if d ≤ 9 then
    let e := (s.linCh (d - 6)).ent (id % 64)
    e.dir == 2 && e.len == m.data.length && !m.frame.rtr
  else (s.serTabOf (d - 10)).accepts (m.data.map BitVec.toNat) && !m.frame.rtr

/-- The CAN frame that a message makes on a channel (11 R305, R307). -/
def GwMsg.onCan (m : GwMsg) (ide : Bool) (id : Nat) : CanFrame :=
  match m.kind with
  | .xl => { m.frame with id := id, ide := false, data := m.data }
  | _ => { fdf := m.frame.fdf, brs := m.frame.fdf && m.frame.brs, ide := ide, id := id, data := if m.frame.fdf then padFd 0xCC m.data else m.data }

/-- Queue a message on a channel; no when its queue is full (11 R305, R307). -/
def State.gwQueue (s : State) (d : Nat) (m : GwMsg) (ide : Bool) (id prio : Nat) : State × Bool :=
  if d ≤ 5 then s.canQueue d (m.onCan ide id) .plain
  else if d ≤ 9 then (s.modLin (d - 6) fun c => { c with bufs := Tbl.put noneAt c.bufs (id % 64) (some m.data) }, true)
  else s.serQueue (d - 10) { addr := id % 2 ^ 32, payload := m.data.map BitVec.toNat, prio := max 1 (min 8 prio) }

/-- Offer a message to a channel under the checks of R307. -/
def State.gwOffer (s : State) (down : Bool) (i d zone : Nat) (m : GwMsg) : State :=
  let e := if down then s.downEnt i else s.upEnt i
  let w := if down then 4 else 5
  let x := if down then e.fld 4 30 30 == 1 else e.fld 5 35 35 == 1
  let ide := if x then (if down then e.fld 4 29 29 else e.fld w 34 34) == 1 else m.ide
  let id := if x then (if down then e.fld 4 28 0 else e.fld w 33 5) else m.id
  if !s.zon.permits zone (s.zon.chanZone d) then s.entDrop down i .zone
  else if !s.gwFits d m ide id then s.entDrop down i .fit
  else
    match s.gwQueue d m ide id (e.prio down) with
    | (s1, true) => s1
    | (s1, false) => s1.entDrop down i .full

/-! ### Uplink -/

/-- The oldest message in a channel's receive buffer, taken out (10 R265). -/
def State.rxTake (s : State) (c : Nat) : Option (GwMsg × State) :=
  if c ≤ 5 then
    match (s.canCh c).rxq with
    | [] => none
    | x :: r =>
      some ({ kind := if x.frame.xl then .xl else .can, frame := x.frame, ide := x.frame.ide, id := x.frame.id, data := x.frame.data, time := x.time },
        s.modCan c fun ch => { ch with rxq := r })
  else if c ≤ 9 then
    match (s.linCh (c - 6)).rxq with
    | [] => none
    | x :: r => some ({ kind := .lin, id := x.id, data := x.data, time := x.time }, s.modLin (c - 6) fun ch => { ch with rxq := r })
  else
    match (s.serCh (c - 10)).rxq with
    | [] => none
    | x :: r =>
      some ({ kind := .ser, id := x.addr, data := x.payload.map (BitVec.ofNat 8), time := x.time }, s.modSer (c - 10) fun ch => { ch with rxq := r })

/-- The first valid uplink entry of a channel that matches (11 R304). -/
def GwSt.upMatch (g : GwSt) (c : Nat) (m : GwMsg) : Option Nat :=
  (g.up.find? fun e => e.2.valid && e.2.fld 1 24 20 == c && e.2.keyIs m).map Prod.fst

/-- A decisive entry counts the match and takes a token; no when it has none (11 R304, R306). -/
def State.entMatch (s : State) (down : Bool) (i : Nat) : State × Bool :=
  let e := if down then s.downEnt i else s.upEnt i
  let x := e.take down s.tim.ticks
  let s1 := s.modEnt down i fun _ => { x.1 with matched := add72 e.matched 1 }
  if x.2 then (s1, true) else (s1.entDrop down i .rate, false)

/-- Meaning of GW_UPLINK_MATCH: the oldest message received on a channel is matched (11 R304 to R310). -/
def execGwUplinkMatch (chan : Nat) (s : State) : Res :=
  .next (
    if 17 < chan ∨ s.cuffRuns = false then s
    else
      match s.rxTake chan with
      | none => s
      | some (m, s1) =>
        match s1.gw.upMatch chan m with
        | none =>
          let old := Tbl.get zeroAt s1.gw.unmatched chan
          s1.gwCount old fun g => { g with unmatched := Tbl.put zeroAt g.unmatched chan (sat36 old 1) }
        | some i =>
          match s1.entMatch false i with
          | (s2, false) => s2
          | (s2, true) =>
            let e := s2.upEnt i
            let zone := s2.zon.chanZone chan
            let s3 :=
              if e.fld 1 19 19 = 1 then
                let b := e.fld 1 18 13
                s2.joinBundle b zone (m.acf (e.fld 1 12 8) ((s2.bundle b).fld 1 27 27 == 1))
              else s2
            if e.fld 1 7 7 = 1 then (maskList (e.fld 4 35 18) 18).foldl (fun s d => s.gwOffer false i d zone m) s3 else s3)

/-- Meaning of BUNDLE_MAX_WAIT (11 R310). -/
def execBundleMaxWait (bundle : Nat) (s : State) : Res :=
  let b := s.bundle bundle
  .next (if bundle ≤ 63 ∧ b.acf ≠ [] ∧ s.cuffRuns then (s.advTick (b.since + ticksUs (b.fld 1 10 0))).closeBundle bundle else s)

/-! ### Downlink -/

/-- Where the AVTP header of a frame begins, in its bytes without the FCS; none when it is no gateway input (11 R298, R302). -/
def avtpAt (bs : List Byte) : Option Nat :=
  let rec skip (n at_ : Nat) : Nat :=
    match n with
    | 0 => at_
    | k + 1 => if beVal (slice bs at_ 2) = 0x8100 ∨ beVal (slice bs at_ 2) = 0x88A8 then skip k (at_ + 4) else at_
  let t := skip 8 12
  let ok (a : Nat) : Option Nat := if (byteAt bs a).toNat = 0x82 ∧ (byteAt bs (a + 1)).toNat / 16 % 8 = 0 ∧ a + 12 ≤ bs.length then some a else none
  if beVal (slice bs t 2) = 0x22F0 then ok (t + 2)
  else if beVal (slice bs t 2) = 0x0800 then
    let ip := t + 2
    let ihl := 4 * ((byteAt bs ip).toNat % 16)
    if (byteAt bs ip).toNat / 16 = 4 ∧ 20 ≤ ihl ∧ (byteAt bs (ip + 9)).toNat = 17 ∧ beVal (slice bs (ip + 6) 2) % 16384 = 0 ∧
        beVal (slice bs (ip + ihl + 2) 2) = 17220 then ok (ip + ihl + 12)
    else none
  else none

/-- The ACF messages of an area, and whether an overrun ended them (11 R302); `n` bounds their number. -/
def acfSplit (area : List Byte) : Nat → List (List Byte) × Bool
  | 0 => ([], false)
  | n + 1 =>
    if area.length = 0 then ([], false)
    else if area.length < 4 then ([], true)
    else
      let len := 4 * bitsOf (beVal (slice area 0 4)) 24 16
      if len = 0 ∨ area.length < len then ([], true)
      else
        let r := acfSplit (area.drop len) n
        (area.take len :: r.1, r.2)

/-- The first valid downlink entry of a stream that matches (11 R308). -/
def GwSt.downMatch (g : GwSt) (stream bus : Nat) (m : GwMsg) : Option Nat :=
  (g.down.find? fun e => e.2.valid && e.2.fld 1 24 11 == stream && e.2.fld 1 10 9 == m.kind.code && e.2.fld 1 8 4 == bus && e.2.keyIs m).map Prod.fst

/-- The content of a slot as a message to be sent on its channel (11 R312). -/
def PerSlot.msg (p : PerSlot) (data : List Byte) : GwMsg :=
  { kind := if p.chan ≤ 5 then .can else .ser, ide := p.fld 1 21 21 == 1, id := p.id, data := data,
    frame := { ide := p.fld 1 21 21 == 1, fdf := p.fld 1 20 20 == 1, brs := p.fld 1 19 19 == 1, id := p.id } }

/-- What a write of a slot's payload meets: nothing, or the check of R307 that stops it (11 R312). -/
def State.slotCheck (s : State) (p : PerSlot) (zone : Nat) (data : List Byte) : Option GwDrop :=
  if !s.zon.permits zone (s.zon.chanZone p.chan) then some .zone
  else if p.fld 1 18 12 < data.length then some .fit
  else if !s.gwFits p.chan (p.msg data) (p.fld 1 21 21 == 1) p.id then some .fit
  else none

/-- A payload is written into a slot (11 R312, R313). -/
def State.slotWrite (s : State) (n : Nat) (data : List Byte) : State :=
  s.modSlot n fun p => { p with data := some data, freshAt := s.tim.ticks, isStale := false }

/-- One message of a frame at D5 (11 R308, R312). -/
def State.gwDown (s : State) (x : GwIn) (bs : List Byte) : State :=
  match acfRead bs with
  | none => s.gwCount s.gw.skipped fun g => { g with skipped := sat36 g.skipped 1 }
  | some (bus, m) =>
    match s.gw.downMatch x.stream bus m with
    | none => s.gwCount s.gw.downUnmatched fun g => { g with downUnmatched := sat36 g.downUnmatched 1 }
    | some i =>
      match s.entMatch true i with
      | (s1, false) => s1
      | (s1, true) =>
        let e := s1.downEnt i
        let n := e.fld 5 13 6
        if m.frame.rtr then s1.entDrop true i .fit
        else if e.fld 5 15 15 = 0 then s1.gwOffer true i (e.fld 4 35 31) x.zone m
        else
          let p := s1.perSlot n
          let s2 :=
            if p.valid = false ∨ p.fld 1 11 11 = 0 then s1.entDrop true i .fit
            else
              match s1.slotCheck p x.zone m.data with
              | some d => s1.entDrop true i d
              | none => s1.slotWrite n m.data
          if e.fld 5 14 14 = 1 then s2.gwOffer true i (e.fld 4 35 31) x.zone m else s2

/-- Meaning of GW_FRAME_DECODE: the oldest frame at the gateway output is decoded (11 R302, R308). -/
def execGwFrameDecode (s : State) : Res :=
  .next (
    match s.gw.inbox with
    | [] => s
    | x :: rest =>
      let s1 := s.modGw fun g => { g with inbox := rest }
      let bad (s : State) : State := s.gwCount s.gw.badAvtp fun g => { g with badAvtp := sat36 g.badAvtp 1 }
      let bs := bodyOf x.bytes
      if s.cuffRuns = false then s1
      else
        match avtpAt bs with
        | none => bad s1
        | some a =>
          let len := beVal (slice bs (a + 1) 2) % 2048
          let r := acfSplit (slice bs (a + 12) len) (len / 4 + 1)
          let s2 := (r.1.filter fun m => decide (acfHdr (bitsOf (beVal (slice m 0 4)) 31 25) ≤ m.length)).foldl (fun s m => s.gwDown x m) s1
          if r.2 || decide (bs.length < a + 12 + len) && (slice bs (a + 12) len).length % 4 ≠ 0 ||
              r.1.any (fun m => decide (m.length < acfHdr (bitsOf (beVal (slice m 0 4)) 31 25))) then bad s2 else s2)

/-! ### Periodic slots -/

/-- Meaning of PERIODIC_SLOT_INSTANT: the next instant of a slot (10 R284; 11 R312, R313). -/
def execPeriodicSlotInstant (slot : Nat) (s : State) : Res :=
  let p := s.perSlot slot
  let c := p.chan
  .next (
    if slot ≤ 255 ∧ p.valid ∧ (if c ≤ 5 then s.canOn c else s.serOn (c - 10)) then
      let k := nextInstant s.nowQ (p.fld 3 35 20) (p.fld 3 19 4) p.lastK
      let s1 := (s.advQ (instantQ (p.fld 3 35 20) (p.fld 3 19 4) k)).modSlot slot fun p => { p with lastK := k + 1 }
      let o : TxOrigin := .slot slot
      let waits := if c ≤ 5 then
          (s1.canCh c).txq.any (fun x => x.origin == o) || (match (s1.canCh c).sending with | some x => x.origin == o | none => false)
        else (s1.serCh (c - 10)).txq.any (fun x => x.origin == o) || (match (s1.serCh (c - 10)).cur with | some x => x.origin == o | none => false)
      match p.live with
      | none => s1
      | some d =>
        if waits then
          let old := p.skips
          (s1.modSlot slot fun p => { p with skips := sat36 old 1 }).satRaise old 1 fun t => t.raiseDev .edgeSat
        else if c ≤ 5 then (s1.canQueue c ((p.msg d).onCan (p.fld 1 21 21 == 1) p.id) o).1
        else (s1.serQueue (c - 10) { addr := p.id, payload := d.map BitVec.toNat, prio := max 1 (min 8 (p.fld 2 6 3)), origin := o }).1
    else s)

/-- Meaning of PERIODIC_STALE: FRESH_MS have passed since a slot's last payload write; the timer of SOURCE 0 stands still in a
switchover gap (11 R313, R314). -/
def execPeriodicStale (slot : Nat) (s : State) : Res :=
  let p := s.perSlot slot
  .next (
    if slot ≤ 255 ∧ p.valid ∧ p.data.isSome ∧ p.isStale = false ∧ p.fld 4 35 20 ≠ 0 ∧ s.cuffRuns ∧ ¬ (p.fld 1 11 11 = 0 ∧ s.pair.held) then
      let s1 := s.advTick (p.freshAt + ticksMs (p.fld 4 35 20))
      let old := p.stale
      (((s1.modSlot slot fun p => { p with isStale := true, stale := sat36 old 1 }).satRaise old 1 fun t => t.raiseDev .edgeSat)).raiseDev .gwStale
    else s)

/-- The end of a switchover gap: the FRESH_MS timers of SOURCE 0 start again from full (11 R314). -/
def State.gapFresh (s : State) : State :=
  s.modGw fun g =>
    { g with slots := Tbl.remap PerSlot.dflt (fun p => if p.valid && p.fld 1 11 11 == 0 then { p with freshAt := s.tim.ticks } else p) g.slots }

end Sys2Proof.Machine
end

