-- ==== Sys2Proof/Machine/Crypto.lean ====
section
/-! DEFINITION. The algorithms that 15 names by their standards: SHA-384, HMAC, AES-256, CMAC, key wrap, the SP 800-108 counter KDF and the
recovery of ECDSA P-384 keys (log 43). -/

namespace Sys2Proof.Crypto

/-! ### SHA-384 -/

/-- The round constants of SHA-512. -/
def shaK : List (BitVec 64) :=
  [0x428a2f98d728ae22, 0x7137449123ef65cd, 0xb5c0fbcfec4d3b2f, 0xe9b5dba58189dbbc] ++
  [0x3956c25bf348b538, 0x59f111f1b605d019, 0x923f82a4af194f9b, 0xab1c5ed5da6d8118] ++
  [0xd807aa98a3030242, 0x12835b0145706fbe, 0x243185be4ee4b28c, 0x550c7dc3d5ffb4e2] ++
  [0x72be5d74f27b896f, 0x80deb1fe3b1696b1, 0x9bdc06a725c71235, 0xc19bf174cf692694] ++
  [0xe49b69c19ef14ad2, 0xefbe4786384f25e3, 0x0fc19dc68b8cd5b5, 0x240ca1cc77ac9c65] ++
  [0x2de92c6f592b0275, 0x4a7484aa6ea6e483, 0x5cb0a9dcbd41fbd4, 0x76f988da831153b5] ++
  [0x983e5152ee66dfab, 0xa831c66d2db43210, 0xb00327c898fb213f, 0xbf597fc7beef0ee4] ++
  [0xc6e00bf33da88fc2, 0xd5a79147930aa725, 0x06ca6351e003826f, 0x142929670a0e6e70] ++
  [0x27b70a8546d22ffc, 0x2e1b21385c26c926, 0x4d2c6dfc5ac42aed, 0x53380d139d95b3df] ++
  [0x650a73548baf63de, 0x766a0abb3c77b2a8, 0x81c2c92e47edaee6, 0x92722c851482353b] ++
  [0xa2bfe8a14cf10364, 0xa81a664bbc423001, 0xc24b8b70d0f89791, 0xc76c51a30654be30] ++
  [0xd192e819d6ef5218, 0xd69906245565a910, 0xf40e35855771202a, 0x106aa07032bbd1b8] ++
  [0x19a4c116b8d2d0c8, 0x1e376c085141ab53, 0x2748774cdf8eeb99, 0x34b0bcb5e19b48a8] ++
  [0x391c0cb3c5c95a63, 0x4ed8aa4ae3418acb, 0x5b9cca4f7763e373, 0x682e6ff3d6b2b8a3] ++
  [0x748f82ee5defb2fc, 0x78a5636f43172f60, 0x84c87814a1f0ab72, 0x8cc702081a6439ec] ++
  [0x90befffa23631e28, 0xa4506cebde82bde9, 0xbef9a3f7b2c67915, 0xc67178f2e372532b] ++
  [0xca273eceea26619c, 0xd186b8c721c0c207, 0xeada7dd6cde0eb1e, 0xf57d4f7fee6ed178] ++
  [0x06f067aa72176fba, 0x0a637dc5a2c898a6, 0x113f9804bef90dae, 0x1b710b35131c471b] ++
  [0x28db77f523047d84, 0x32caab7b40c72493, 0x3c9ebe0a15c9bebc, 0x431d67c49c100d4c] ++
  [0x4cc5d4becb3e42b6, 0x597f299cfc657e2a, 0x5fcb6fab3ad6faec, 0x6c44198c4a475817]

/-- The initial hash value of SHA-384. -/
def shaInit : List (BitVec 64) :=
  [0xcbbb9d5dc1059ed8, 0x629a292a367cd507, 0x9159015a3070dd17, 0x152fecd8f70e5939] ++
  [0x67332667ffc00b31, 0x8eb44a8768581511, 0xdb0c2e0d64f98fa7, 0x47b5481dbefa4fa4]

/-- The next word of a message schedule from its last 16 words. -/
def shaNext (w : List (BitVec 64)) : BitVec 64 :=
  let a := w.getD 1 0
  let b := w.getD 14 0
  (b.rotateRight 19 ^^^ b.rotateRight 61 ^^^ (b >>> 6)) + w.getD 9 0 + (a.rotateRight 1 ^^^ a.rotateRight 8 ^^^ (a >>> 7)) + w.getD 0 0

/-- The rounds of one block: the working variables and a sliding window of 16 schedule words. -/
def shaRounds : List (BitVec 64) → List (BitVec 64) → List (BitVec 64) → List (BitVec 64)
  | [], _, v => v
  | k :: ks, w, v =>
    match v with
    | [a, b, c, d, e, f, g, h] =>
      let t1 := h + (e.rotateRight 14 ^^^ e.rotateRight 18 ^^^ e.rotateRight 41) + ((e &&& f) ^^^ (~~~e &&& g)) + k + w.headD 0
      let t2 := (a.rotateRight 28 ^^^ a.rotateRight 34 ^^^ a.rotateRight 39) + ((a &&& b) ^^^ (a &&& c) ^^^ (b &&& c))
      shaRounds ks (w.drop 1 ++ [shaNext w]) [t1 + t2, a, b, c, d + t1, e, f, g]
    | _ => v

/-- A 64-bit word of eight bytes. -/
def word64 (bs : List Byte) : BitVec 64 := BitVec.ofNat 64 (beVal bs)

/-- The blocks of a padded message; `n` bounds their number. -/
def shaBlocks (h : List (BitVec 64)) (m : List Byte) : Nat → List (BitVec 64)
  | 0 => h
  | n + 1 =>
    let w := (List.range 16).map fun i => word64 (slice m (8 * i) 8)
    shaBlocks (List.zipWith (· + ·) h (shaRounds shaK w h)) (m.drop 128) n

/-- The SHA-384 digest of bytes, 48 bytes. -/
def sha384 (m : List Byte) : List Byte :=
  let z := (111 + 128 - m.length % 128) % 128
  let p := m ++ [0x80] ++ List.replicate z 0 ++ beBytes 16 (8 * m.length)
  ((shaBlocks shaInit p (p.length / 128)).map fun w => beBytes 8 w.toNat).flatten.take 48

/-- HMAC-SHA-384. -/
def hmac384 (key m : List Byte) : List Byte :=
  let k0 := if 128 < key.length then sha384 key else key
  let k := k0 ++ List.replicate (128 - k0.length) 0
  sha384 (k.map (· ^^^ 0x5C) ++ sha384 (k.map (· ^^^ 0x36) ++ m))

/-! ### AES-256 -/

/-- The substitution box of AES. -/
def sbox : List Byte :=
  [0x63, 0x7c, 0x77, 0x7b, 0xf2, 0x6b, 0x6f, 0xc5, 0x30, 0x01, 0x67, 0x2b, 0xfe, 0xd7, 0xab, 0x76] ++
  [0xca, 0x82, 0xc9, 0x7d, 0xfa, 0x59, 0x47, 0xf0, 0xad, 0xd4, 0xa2, 0xaf, 0x9c, 0xa4, 0x72, 0xc0] ++
  [0xb7, 0xfd, 0x93, 0x26, 0x36, 0x3f, 0xf7, 0xcc, 0x34, 0xa5, 0xe5, 0xf1, 0x71, 0xd8, 0x31, 0x15] ++
  [0x04, 0xc7, 0x23, 0xc3, 0x18, 0x96, 0x05, 0x9a, 0x07, 0x12, 0x80, 0xe2, 0xeb, 0x27, 0xb2, 0x75] ++
  [0x09, 0x83, 0x2c, 0x1a, 0x1b, 0x6e, 0x5a, 0xa0, 0x52, 0x3b, 0xd6, 0xb3, 0x29, 0xe3, 0x2f, 0x84] ++
  [0x53, 0xd1, 0x00, 0xed, 0x20, 0xfc, 0xb1, 0x5b, 0x6a, 0xcb, 0xbe, 0x39, 0x4a, 0x4c, 0x58, 0xcf] ++
  [0xd0, 0xef, 0xaa, 0xfb, 0x43, 0x4d, 0x33, 0x85, 0x45, 0xf9, 0x02, 0x7f, 0x50, 0x3c, 0x9f, 0xa8] ++
  [0x51, 0xa3, 0x40, 0x8f, 0x92, 0x9d, 0x38, 0xf5, 0xbc, 0xb6, 0xda, 0x21, 0x10, 0xff, 0xf3, 0xd2] ++
  [0xcd, 0x0c, 0x13, 0xec, 0x5f, 0x97, 0x44, 0x17, 0xc4, 0xa7, 0x7e, 0x3d, 0x64, 0x5d, 0x19, 0x73] ++
  [0x60, 0x81, 0x4f, 0xdc, 0x22, 0x2a, 0x90, 0x88, 0x46, 0xee, 0xb8, 0x14, 0xde, 0x5e, 0x0b, 0xdb] ++
  [0xe0, 0x32, 0x3a, 0x0a, 0x49, 0x06, 0x24, 0x5c, 0xc2, 0xd3, 0xac, 0x62, 0x91, 0x95, 0xe4, 0x79] ++
  [0xe7, 0xc8, 0x37, 0x6d, 0x8d, 0xd5, 0x4e, 0xa9, 0x6c, 0x56, 0xf4, 0xea, 0x65, 0x7a, 0xae, 0x08] ++
  [0xba, 0x78, 0x25, 0x2e, 0x1c, 0xa6, 0xb4, 0xc6, 0xe8, 0xdd, 0x74, 0x1f, 0x4b, 0xbd, 0x8b, 0x8a] ++
  [0x70, 0x3e, 0xb5, 0x66, 0x48, 0x03, 0xf6, 0x0e, 0x61, 0x35, 0x57, 0xb9, 0x86, 0xc1, 0x1d, 0x9e] ++
  [0xe1, 0xf8, 0x98, 0x11, 0x69, 0xd9, 0x8e, 0x94, 0x9b, 0x1e, 0x87, 0xe9, 0xce, 0x55, 0x28, 0xdf] ++
  [0x8c, 0xa1, 0x89, 0x0d, 0xbf, 0xe6, 0x42, 0x68, 0x41, 0x99, 0x2d, 0x0f, 0xb0, 0x54, 0xbb, 0x16]

/-- The box applied to a byte. -/
def sub (b : Byte) : Byte := sbox.getD b.toNat 0
/-- The inverse box applied to a byte. -/
def invSub (b : Byte) : Byte := BitVec.ofNat 8 (sbox.findIdx (· == b))

/-- Multiplication by x in the field of AES. -/
def xtime (b : Byte) : Byte := (b <<< 1) ^^^ (if 0x80 ≤ b.toNat then 0x1B else 0)

/-- Multiplication of a byte by a constant below 16. -/
def gmul (c : Nat) (b : Byte) : Byte :=
  let b2 := xtime b
  let b4 := xtime b2
  (if c % 2 = 1 then b else 0) ^^^ (if c / 2 % 2 = 1 then b2 else 0) ^^^ (if c / 4 % 2 = 1 then b4 else 0) ^^^ (if c / 8 % 2 = 1 then xtime b4 else 0)

/-- The exclusive or of two byte strings. -/
def xorB (a b : List Byte) : List Byte := List.zipWith (· ^^^ ·) a b

/-- The expanded key words from word `i` on; `w` holds the words so far, latest first. -/
def keyWords (w : List (List Byte)) (i : Nat) (rcon : Byte) : Nat → List (List Byte)
  | 0 => w.reverse
  | n + 1 =>
    let t := w.headD []
    let u := if i % 8 = 0 then xorB ((t.drop 1 ++ t.take 1).map sub) [rcon, 0, 0, 0] else if i % 8 = 4 then t.map sub else t
    keyWords (xorB (w.getD 7 []) u :: w) (i + 1) (if i % 8 = 0 then xtime rcon else rcon) n

/-- The fifteen round keys of a 32-byte key. -/
def roundKeys (key : List Byte) : List (List Byte) :=
  let w := keyWords ((List.range 8).map fun i => slice key (4 * i) 4).reverse 8 1 52
  (List.range 15).map fun r => ((List.range 4).map fun c => w.getD (4 * r + c) []).flatten

/-- Row shift: byte r of column c comes from column c + r, or c − r inversely. -/
def shiftRows (invert : Bool) (st : List Byte) : List Byte :=
  (List.range 16).map fun i => st.getD (4 * ((i / 4 + (if invert then 4 - i % 4 else i % 4)) % 4) + i % 4) 0

/-- Column mixing by the circulant row `m`. -/
def mixCols (m : List Nat) (st : List Byte) : List Byte :=
  (List.range 16).map fun i => (List.range 4).foldl (fun a j => a ^^^ gmul (m.getD ((4 + j - i % 4) % 4) 0) (st.getD (4 * (i / 4) + j) 0)) 0

/-- The encryption of one block under AES-256 (FIPS 197). -/
def aesEnc (key blk : List Byte) : List Byte :=
  let ks := roundKeys key
  let s1 := ((ks.drop 1).take 13).foldl (fun s k => xorB (mixCols [2, 3, 1, 1] (shiftRows false (s.map sub))) k) (xorB blk (ks.headD []))
  xorB (shiftRows false (s1.map sub)) (ks.getD 14 [])

/-- The decryption of one block under AES-256 (FIPS 197). -/
def aesDec (key blk : List Byte) : List Byte :=
  let ks := (roundKeys key).reverse
  let s1 := ((ks.drop 1).take 13).foldl (fun s k => mixCols [14, 11, 13, 9] (xorB ((shiftRows true s).map invSub) k)) (xorB blk (ks.headD []))
  xorB ((shiftRows true s1).map invSub) (ks.getD 14 [])

/-! ### CMAC, key wrap and derivation -/

/-- Doubling in the field of CMAC. -/
def dbl (b : List Byte) : List Byte :=
  let n := beVal b
  beBytes 16 (Nat.xor (2 * n % 2 ^ 128) (if 2 ^ 127 ≤ n then 0x87 else 0))

/-- AES-CMAC (NIST SP 800-38B). -/
def cmac (key m : List Byte) : List Byte :=
  let k1 := dbl (aesEnc key (List.replicate 16 0))
  let n := max 1 (ceilDiv m.length 16)
  let t := m.drop (16 * (n - 1))
  let tail := if t.length = 16 then xorB t k1 else xorB (t ++ [0x80] ++ List.replicate (15 - t.length) 0) (dbl k1)
  let c := (List.range (n - 1)).foldl (fun c i => aesEnc key (xorB c (slice m (16 * i) 16))) (List.replicate 16 0)
  aesEnc key (xorB c tail)

/-- The initial value of AES key wrap (NIST SP 800-38F). -/
def kwIv : List Byte := List.replicate 8 0xA6

/-- AES key wrap of a string of whole 8-byte blocks (NIST SP 800-38F, KW). -/
def kwWrap (key p : List Byte) : List Byte :=
  let n := p.length / 8
  let r := (List.range (6 * n)).foldl (fun (x : List Byte × List Byte) t =>
    let b := aesEnc key (x.1 ++ x.2.take 8)
    (xorB (b.take 8) (beBytes 8 (t + 1)), x.2.drop 8 ++ b.drop 8)) (kwIv, p)
  r.1 ++ r.2

/-- AES key unwrap; none when the integrity check fails (NIST SP 800-38F, KW). -/
def kwUnwrap (key c : List Byte) : Option (List Byte) :=
  let n := c.length / 8 - 1
  let r := (List.range (6 * n)).foldl (fun (x : List Byte × List Byte) t =>
    let l := x.2.length - 8
    let b := aesDec key (xorB x.1 (beBytes 8 (6 * n - t)) ++ x.2.drop l)
    (b.take 8, b.drop 8 ++ x.2.take l)) (c.take 8, c.drop 8)
  if r.1 = kwIv ∧ 2 ≤ n then some r.2 else none

/-- Key derivation in counter mode to `len` bytes, with HMAC-SHA-384 or AES-CMAC (15 R432). -/
def kdf (useCmac : Bool) (key label context : List Byte) (len : Nat) : List Byte :=
  let w := if useCmac then 16 else 48
  ((List.range (ceilDiv len w)).map fun i =>
    let m := beBytes 4 (i + 1) ++ label ++ [0] ++ context ++ beBytes 4 (8 * len)
    if useCmac then cmac key m else hmac384 key m).flatten.take len

/-! ### ECDSA P-384 -/

/-- The prime of P-384. -/
def pP : Nat := 2 ^ 384 - 2 ^ 128 - 2 ^ 96 + 2 ^ 32 - 1
/-- The order of P-384. -/
def pN : Nat := 0xffffffffffffffffffffffffffffffffffffffffffffffffc7634d81f4372ddf581a0db248b0a77aecec196accc52973
/-- The coefficient b of P-384. -/
def pB : Nat := 0xb3312fa7e23ee7e4988e056be3f82d19181d9c6efe8141120314088f5013875ac656398d8a2ed19d2a85c8edd3ec2aef
/-- The base point of P-384. -/
def pG : Nat × Nat :=
  (0xaa87ca22be8b05378eb1c71ef320ad746e1d3b628ba79b9859f741e082542a385502f25dbf55296c3a545e3872760ab7,
   0x3617de4a96262c6f5d9e98bf9292dc29f8f41dbd289a147ce9da3113b5f0b8c00a60b1ce1d7e819d7a431d7c90ea0e5f)

/-- A power modulo `m`, by the low `n` bits of the exponent. -/
def powMod (m b e : Nat) : Nat → Nat
  | 0 => 1 % m
  | n + 1 => let h := powMod m (b * b % m) (e / 2) n; if e % 2 = 1 then h * b % m else h

/-- The inverse modulo a prime. -/
def invMod (m a : Nat) : Nat := powMod m (a % m) (m - 2) 384

/-- A point of the curve; none at infinity. -/
abbrev Point := Option (Nat × Nat)

/-- The sum of two points. -/
def addPt (a b : Point) : Point :=
  match a, b with
  | none, q => q
  | p, none => p
  | some (x1, y1), some (x2, y2) =>
    let out (l : Nat) : Point :=
      let x := (l * l + 2 * pP - x1 - x2) % pP
      some (x, (l * (x1 + pP - x) + pP - y1) % pP)
    if x1 = x2 then
      if (y1 + y2) % pP = 0 then none else out ((3 * x1 * x1 + pP - 3) * invMod pP (2 * y1) % pP)
    else out ((y2 + pP - y1) * invMod pP (x2 + pP - x1) % pP)

/-- A multiple of a point, by the low `n` bits of the factor. -/
def mulPt (k : Nat) (q : Point) : Nat → Point
  | 0 => none
  | n + 1 => let h := mulPt (k / 2) (addPt q q) n; if k % 2 = 1 then addPt h q else h

/-- The points of the curve with a given x (p is 3 modulo 4). -/
def liftX (x : Nat) : List (Nat × Nat) :=
  let v := (x * x * x + (pP - 3) * x + pB) % pP
  let y := powMod pP v ((pP + 1) / 4) 384
  if x < pP ∧ y * y % pP = v then [(x, y), (x, (pP - y) % pP)] else []

/-- The candidate public keys of a signature over a digest, at most four (15 R425). -/
def candidates (r s : Nat) (digest : List Byte) : List (Nat × Nat) :=
  if r = 0 ∨ pN ≤ r ∨ s = 0 ∨ pN ≤ s then []
  else
    let e := beVal digest % pN
    let ri := invMod pN r
    let u := (pN - e) * ri % pN
    let v := s * ri % pN
    (liftX r ++ liftX (r + pN)).filterMap fun q => addPt (mulPt u (some pG) 384) (mulPt v (some q) 384)

/-- Whether a signature over a digest is that of a key with the given hash (15 R425). -/
def verifies (r s : Nat) (digest : List Byte) (vhash : Nat) : Bool :=
  (candidates r s digest).any fun q => beVal (sha384 (4 :: (beBytes 48 q.1 ++ beBytes 48 q.2))) == vhash

end Sys2Proof.Crypto
end

