-- ==== Sys2Proof/Machine/Images.lean ====
section
/-! DEFINITION. Reading an image: words, records, structural checks, digest, measurement and signature (14 R393 to R405; 15 R425). -/

namespace Sys2Proof.Machine

open Sys2Proof.Crypto

/-- The words of a slot (14 R393). -/
def ImgSt.slot (g : ImgSt) (n : Nat) : Tbl Word := if n = 0 then g.slotA else g.slotB

/-- Word `w` of an image counted as a slot counts it: its HEADER starts at word 1; `n` is 0 A, 1 B, 2 factory (14 R393). -/
def ImgSt.word (g : ImgSt) (n w : Nat) : Word :=
  if n = 2 then Config.factoryWord (w - 1) else if w ≤ 838859 then Tbl.get erasedAt (g.slot n) w else 0xFFFFFFFFF

/-- Words `w` to `w + k - 1` of an image. -/
def ImgSt.words (g : ImgSt) (n w k : Nat) : List Word := (List.range k).map fun i => g.word n (w + i)

/-- A slot with words stored from `w` on. -/
def ImgSt.setWords (g : ImgSt) (n w : Nat) (ws : List Word) : ImgSt :=
  if n = 0 then { g with slotA := Tbl.puts erasedAt g.slotA w ws } else { g with slotB := Tbl.puts erasedAt g.slotB w ws }

/-! ### Slot states -/

/-- Slot states (14 R395). -/
inductive SlotMode where
  | empty | written | trial | confirmed | superseded | rejected
deriving DecidableEq, Repr

/-- The value of a slot state word (14 R395). -/
def SlotMode.word : SlotMode → Word
  | .empty => 0xFFFFFFFFF
  | .written => 0x0FFFFFFFF
  | .trial => 0x00FFFFFFF
  | .confirmed => 0x000FFFFFF
  | .superseded => 0x0000FFFFF
  | .rejected => 0

/-- The state of a slot; a value not in the table is REJECTED (14 R395). -/
def ImgSt.slotMode (g : ImgSt) (n : Nat) : SlotMode :=
  let w := g.word n 0
  ([.empty, .written, .trial, .confirmed, .superseded] : List SlotMode).find? (fun m => m.word == w) |>.getD .rejected

/-- The device writes a slot state word, which raises IMAGE (14 R395, R408). -/
def State.slotTo (s : State) (n : Nat) (m : SlotMode) : State :=
  if n ≤ 1 then (s.modImg fun g => g.setWords n 0 [m.word]).raiseDev .image else s

/-! ### Records -/

/-- A record of an image. -/
structure ImgRec where
  /-- KIND. -/
  kind : Nat := 0
  /-- Word of its header. -/
  pos : Nat := 0
  /-- LENGTH. -/
  len : Nat := 0
deriving DecidableEq, Repr

/-- The record whose header lies at word `w` (14 R396). -/
def ImgSt.recAt (g : ImgSt) (n w : Nat) : ImgRec :=
  let h := g.word n w
  { kind := fld h 35 30, pos := w, len := fld h 29 10 }

/-- Payload word `i` of a record, counted from 1. -/
def ImgSt.recWord (g : ImgSt) (n : Nat) (r : ImgRec) (i : Nat) : Word := g.word n (r.pos + i)

/-- The records from word `w` through SIGNATURE, as far as they reach no further than word `last`; the number bounds them. -/
def ImgSt.recordsFrom (g : ImgSt) (n w last : Nat) : Nat → List ImgRec
  | 0 => []
  | k + 1 =>
    let r := g.recAt n w
    if last < w + r.len then []
    else if r.kind = 0x0F then [r]
    else r :: g.recordsFrom n (w + r.len + 1) last k

/-- The HEADER field IMAGE_WORDS (14 R398). -/
def ImgSt.imageWords (g : ImgSt) (n : Nat) : Nat := fld (g.word n 6) 35 16
/-- SEQUENCE (14 R398). -/
def ImgSt.sequence (g : ImgSt) (n : Nat) : Nat := fld (g.word n 5) 31 0
/-- The version word, word 3 of HEADER (14 R398). -/
def ImgSt.version (g : ImgSt) (n : Nat) : Word := g.word n 4
/-- FORMAT. -/
def ImgSt.format (g : ImgSt) (n : Nat) : Nat := fld (g.word n 3) 35 28
/-- LINING_VER. -/
def ImgSt.liningVerOf (g : ImgSt) (n : Nat) : Nat := fld (g.word n 3) 27 20
/-- LINING_MIN. -/
def ImgSt.liningMinOf (g : ImgSt) (n : Nat) : Nat := fld (g.word n 3) 19 12
/-- TRIAL_S, a value below 60 clamped to 60. -/
def ImgSt.trialSecs (g : ImgSt) (n : Nat) : Nat := max 60 (fld (g.word n 7) 35 20)

/-- The records of an image through SIGNATURE. -/
def ImgSt.records (g : ImgSt) (n : Nat) : List ImgRec := g.recordsFrom n 1 (g.imageWords n) (g.imageWords n)

/-- Whether the kinds of the records after FIRMWARE stand in order (14 R397). -/
def kindsFit : List Nat → Bool
  | 0x03 :: ks => tail ks
  | ks => tail ks
where
  /-- COMMAND records, LOCKS, SIGNATURE. -/
  tail : List Nat → Bool
    | 0x04 :: ks => tail ks
    | [0x05, 0x0F] => true
    | [0x0F] => true
    | _ => false

/-- Whether the LENGTH of a record fits its kind, and that of a COMMAND its request header (14 R398 to R403, R405). -/
def ImgSt.recFits (g : ImgSt) (n : Nat) (r : ImgRec) : Bool :=
  match r.kind with
  | 0x01 => r.len == 6
  | 0x02 => decide (1024 ≤ r.len ∧ r.len ≤ 131072)
  | 0x03 => r.len == 4
  | 0x04 => r.len == 1 + fld (g.recWord n r 1) 23 16
  | 0x05 => r.len == 1
  | 0x0F => r.len == 25
  | _ => false

/-- The structural checks but for the signature (14 R405). -/
def ImgSt.structured (g : ImgSt) (n : Nat) : Bool :=
  let rs := g.records n
  let ks := rs.map ImgRec.kind
  g.word n 2 == 0x4E4633606 && rs.all (g.recFits n) && ks.take 2 == [0x01, 0x02] && kindsFit (ks.drop 2) &&
    !(n == 2 && ks.contains 0x05) &&
    (match rs.getLast? with | some r => r.pos + r.len == g.imageWords n | none => false)

/-- The 5-byte encodings of words (13 R359). -/
def encode5 (ws : List Word) : List Byte := (ws.map fun w => beBytes 5 w.toNat).flatten

/-- The measurement of an image: the digest of its FIRMWARE record (14 R399). -/
def ImgSt.measurement (g : ImgSt) (n : Nat) : List Byte :=
  let r := g.recAt n 8
  sha384 (encode5 (g.words n 8 (r.len + 1)))

/-- A value of 32-bit words, most significant first. -/
def val32 (ws : List Word) : Nat := ws.foldl (fun a w => a * 2 ^ 32 + fld w 31 0) 0

/-- The eligibility of verifier slots 2 and 3 to sign user images (15 R425). -/
def KeySt.imageSlot (k : KeySt) (v : Nat) : Bool :=
  decide (2 ≤ v ∧ v ≤ 3) && inMask k.vValid (v - 2) && !inMask k.vRevoked v && inMask k.vRole (2 * (v - 2))

/-- The eligibility of a verifier slot for an image (15 R425). -/
def KeySt.eligible (k : KeySt) (factory : Bool) (v : Nat) : Bool :=
  if factory then decide (v ≤ 1) && !inMask k.vRevoked v
  else if k.imageSlot 2 || k.imageSlot 3 then k.imageSlot v
  else decide (v ≤ 1) && !inMask k.vRevoked v

/-- VHASH of a verifier slot (15 R424). -/
def KeySt.vhash (k : KeySt) (v : Nat) : Nat := if v ≤ 1 then Config.vendorHash v else Tbl.get zeroAt k.vHash v

/-- KEY_SLOT of an image's signature (14 R403). -/
def ImgSt.signer (g : ImgSt) (n : Nat) : Nat :=
  match (g.records n).getLast? with
  | some r => fld (g.recWord n r 1) 35 32
  | none => 4

/-- Whether the signature verifies (14 R403; 15 R425). -/
def State.signed (s : State) (n : Nat) : Bool :=
  let g := s.img
  match (g.records n).getLast? with
  | some r =>
    let v := fld (g.recWord n r 1) 35 32
    s.key.eligible (n == 2) v &&
      verifies (val32 (g.words n (r.pos + 2) 12)) (val32 (g.words n (r.pos + 14) 12)) (sha384 (encode5 (g.words n 1 (r.pos + 1)))) (s.key.vhash v)
  | none => false

/-- The structural checks of an image (14 R405). -/
def State.imageValid (s : State) (n : Nat) : Bool := s.img.structured n && s.signed n

/-! ### Firmware -/

/-- The FIRMWARE of image `n` is loaded at word 0 of a core's SRAM (14 R399; 18 R514). -/
def State.loadFirmware (s : State) (d : Fab) (n : Nat) : State :=
  let g := s.img
  let len := (g.recAt n 8).len
  let s1 := s.modCore d fun k => { k with verified := true, slot := n, sram := Tbl.puts noneAt [] 0 ((g.words n 9 len).map some), regs := [] }
  s1.modImg fun i => match d with | .west => { i with verW := g.version n } | .east => { i with verE := g.version n }

/-- The measurement of the firmware of image `n` is written before D0 releases the core (15 R426). -/
def State.measure (s : State) (d : Fab) (n : Nat) : State :=
  let m := s.img.measurement n
  s.modKey fun k => match d with | .west => { k with measW := m } | .east => { k with measE := m }

/-- A core's firmware is loaded and measured (14 R399; 15 R426). -/
def State.loadCore (s : State) (d : Fab) (n : Nat) : State := (s.loadFirmware d n).measure d n

/-- The measurement of a core, 48 bytes (15 R426). -/
def KeySt.meas (k : KeySt) : Fab → List Byte
  | .west => k.measW
  | .east => k.measE

end Sys2Proof.Machine
end

