-- ==== Sys2Proof/Machine/PortCmds.lean ====
section
/-! DEFINITION. The PORT and MACSEC commands, cable tests and the key agreement of MACsec (09 R249, R252 to R264). -/

namespace Sys2Proof.Machine

/-! ### Keyed state -/

/-- The device is keyed (15 R428). -/
def State.keyed (s : State) : Bool := s.key.rs.isSome && !s.key.unkeyedRun

/-- UNKEYED of the commands that name it. -/
def needsKeys : Req → State → Bool := fun _ s => !s.keyed

/-- LOCKED while the KEY lock is set (13 R365). -/
def keyLocked : Req → State → Bool := fun _ s => s.locks.key

/-- A key slot (15 R430). -/
def State.slot (s : State) (h : Nat) : KeySlot := Tbl.get KeySlot.dflt s.key.slots h

/-- A handle that names a key with the use DERIVE (15 R430). -/
def State.derives (s : State) (h : Nat) : Bool := (s.slot h).valid && (s.slot h).use == 3

/-! ### PORT commands -/

/-- Word 1 of PORT.CONFIG_WRITE as the port holds it (09 R257). -/
def PortSt.word (c : PortSt) (p : Nat) : Word :=
  pack [(31, 5, p), (30, 1, b1 c.enable), (27, 3, c.rate), (26, 1, b1 c.role), (25, 1, b1 c.eee), (24, 1, b1 c.retain),
        (23, 1, b1 c.tc10), (22, 1, b1 c.usx)]

/-- A RATE as used (09 R257). -/
def rateUsed (p v : Nat) : Nat :=
  match kindOfPort p with
  | .multiGig => if 3 ≤ v ∧ v ≤ 5 then v else 5
  | k => k.top

/-- A Hem link: port 2 or 15 with STRAP_HEM (17 R493). -/
def State.hemPort (s : State) (p : Nat) : Bool := s.sys.hem && (p == 2 || p == 15)

/-- 0xD01 PORT.CONFIG_WRITE (09 R257, R242). -/
def portConfigWrite : CmdSpec where
  opcode := 0xD01
  lenOk := lenIs 1
  locked := policyLocked
  fields := fun r s =>
    let p := r.fld 1 35 31
    let k := kindOfPort p
    let rate : Fld := { hi := 29, lo := 27, clamp := fun v => if rateUsed p v ≠ v then some (rateUsed p v, if 5 < v then 2 else 4) else none }
    [[fFront, fAny 30 30, rate, fTo 26 26 (fun _ => !k.t1) 0 4, fTo 25 25 (fun _ => !(k == .multiGig || k == .gig)) 0 4,
      fTo 24 24 (fun _ => !k.t1) 0 4, fTo 23 23 (fun _ => !k.t1) 0 4, fTo 22 22 (fun _ => k != .serdes || s.hemPort p) 0 4]]
  run := fun r s =>
    let p := Req.port1 r
    let c := s.port p
    let moved := c.rate != r.fld 1 29 27 || c.role != r.bit 1 26 || c.usx != r.bit 1 22
    let s1 := s.modPort p fun c =>
      { c with enable := r.bit 1 30, rate := r.fld 1 29 27, role := r.bit 1 26, eee := r.bit 1 25, retain := r.bit 1 24,
               tc10 := r.bit 1 23, usx := r.bit 1 22 }
    let s2 :=
      if !r.bit 1 30 then s1.disablePort p
      else if c.mode = .disabled then (if s.started then s1.enablePort p else s1)
      else if moved then (s1.modPort p fun c => { c with retainValid := false }).train p false
      else s1
    { st := s2 }

/-- Meaning of PORT_CONFIG_WRITE. -/
def execPortConfigWrite (r : Req) (s : State) : Res := .next (mailbox portConfigWrite r s)

/-- The four multidrop ports. -/
def fPlca : Fld := fNeed 35 31 fun p => p == 11 || p == 12 || p == 24 || p == 25

/-- 0xD02 PORT.PLCA_WRITE (09 R258). -/
def portPlcaWrite : CmdSpec where
  opcode := 0xD02
  lenOk := lenIs 2
  locked := policyLocked
  fields := fun r _ =>
    [[fPlca, fNeed 30 28 (· < max 2 (min 8 (r.fld 1 27 24))), fRange 27 24 2 8, fMin 23 16 20, fAny 11 8, fMin 7 0 1],
     [fRange 35 22 64 9216, fAny 21 18]]
  run := fun r s =>
    let n : PlcaCfg := { nodeId := r.fld 1 30 28, nodeCount := r.fld 1 27 24, toTimer := r.fld 1 23 16, maxBurst := r.fld 1 11 8,
                         burstTimer := r.fld 1 7 0, peerMax := r.fld 2 35 22, peerBurst := r.fld 2 21 18 }
    let s1 := s.modPort (Req.port1 r) fun c =>
      let c1 := { c with plcaNext := some n, plca := { c.plca with peerMax := n.peerMax, peerBurst := n.peerBurst } }
      if c.mode = .up ∧ c.beacons then c1 else c1.takePlca
    { st := if (s.port (Req.port1 r)).mode = .training ∧ (s1.port (Req.port1 r)).coordinator then s1.portUp (Req.port1 r) else s1 }

/-- Meaning of PORT_PLCA_WRITE. -/
def execPortPlcaWrite (r : Req) (s : State) : Res := .next (mailbox portPlcaWrite r s)

/-- 0xD03 PORT.CONFIG_READ (09 R259). -/
def portConfigRead : CmdSpec where
  opcode := 0xD03
  lenOk := lenIs 1
  changes := fun _ => false
  fields := fun _ _ => [[fFront]]
  run := fun r s => { st := s, payload := [(s.port (Req.port1 r)).word (Req.port1 r)] }

/-- Meaning of PORT_CONFIG_READ. -/
def execPortConfigRead (r : Req) (s : State) : Res := .next (mailbox portConfigRead r s)

/-- PLCA settings as the words of PORT.PLCA_WRITE (09 R258). -/
def PlcaCfg.words (c : PlcaCfg) (p : Nat) : List Word :=
  [pack [(31, 5, p), (28, 3, c.nodeId), (24, 4, c.nodeCount), (16, 8, c.toTimer), (8, 4, c.maxBurst), (0, 8, c.burstTimer)],
   pack [(22, 14, c.peerMax), (18, 4, c.peerBurst)]]

/-- 0xD04 PORT.PLCA_READ (09 R259). -/
def portPlcaRead : CmdSpec where
  opcode := 0xD04
  lenOk := lenIs 1
  changes := fun _ => false
  fields := fun _ _ => [[fPlca]]
  run := fun r s => { st := s, payload := (s.port (Req.port1 r)).plca.words (Req.port1 r) }

/-- Meaning of PORT_PLCA_READ. -/
def execPortPlcaRead (r : Req) (s : State) : Res := .next (mailbox portPlcaRead r s)

/-- The code of a link state (09 R260). -/
def LinkMode.code : LinkMode → Nat
  | .disabled => 0 | .training => 1 | .resuming => 2 | .up => 3 | .sleepWait => 4 | .sleeping => 5 | .diag => 6

/-- The payload of PORT.STATUS_READ (09 R260). -/
def PortSt.status (c : PortSt) (p : Nat) : List Word :=
  let t1 := (kindOfPort p).t1
  [pack [(33, 3, c.mode.code), (30, 3, c.rateNow), (29, 1, b1 c.role), (28, 1, b1 c.retainValid), (27, 1, b1 c.lpi),
         (24, 3, if t1 then c.sqi else 0), (21, 3, if t1 then c.sqiMin.getD c.sqi else 0), (20, 1, b1 c.beacons)],
   w36 (c.plcaWait p), w36 c.linkDowns, w36 c.trainFails, w36 c.resumeOks, w36 c.resumeFails, w36 c.rxFcs, w36 c.rxOversize,
   w36 c.rxRunts, w36 c.fecUncorrected, w36 c.lpiEntries, pack [(18, 18, c.beaconLoss), (0, 18, c.plcaConflicts)]] ++
    words72 c.fecCorrected

/-- CLEAR of PORT.STATUS_READ (09 R260, 00 R4). -/
def PortSt.cleared (c : PortSt) : PortSt :=
  { c with linkDowns := 0, trainFails := 0, resumeOks := 0, resumeFails := 0, rxFcs := 0, rxOversize := 0, rxRunts := 0,
           fecUncorrected := 0, lpiEntries := 0, beaconLoss := 0, plcaConflicts := 0, fecCorrected := 0, sqiMin := none }

/-- 0xD05 PORT.STATUS_READ (09 R260). -/
def portStatusRead : CmdSpec where
  opcode := 0xD05
  lenOk := lenIs 1
  changes := fun r => r.bit 1 30
  fields := fun _ _ => [[fFront, fAny 30 30]]
  run := fun r s =>
    let p := Req.port1 r
    { st := if r.bit 1 30 then s.modPort p PortSt.cleared else s, payload := (s.port p).status p }

/-- Meaning of PORT_STATUS_READ. -/
def execPortStatusRead (r : Req) (s : State) : Res := .next (mailbox portStatusRead r s)

/-- 0xD06 PORT.CABLE_TEST: a port that R242 gives no row for, being disabled, asleep or about to sleep, is refused (09 R249, R261;
log 29). -/
def portCableTest : CmdSpec where
  opcode := 0xD06
  lenOk := lenIs 1
  locked := policyLocked
  busy := fun r s => !s.tokenFree 3 (Req.port1 r)
  fields := fun _ _ => [[fNeed 35 31 fun p => decide (p ≤ 25) && (kindOfPort p).t1]]
  run := fun r s =>
    let p := Req.port1 r
    let m := (s.port p).mode
    if m = .training ∨ m = .up ∨ m = .resuming then
      { st := ((s.takeToken 3 p).portTo p .diag true).modPort p fun c => { c with tester := some r.path }, later := true }
    else .fail s .refused

/-- Meaning of PORT_CABLE_TEST. -/
def execPortCableTest (r : Req) (s : State) : Res := .next (mailbox portCableTest r s)

/-- Meaning of CABLE_TEST_DONE: result and distance in 0.1 m; a port taken out of DIAG before ends without a result (09 R242, R249,
R261; log 29). -/
def execCableTestDone (port result distance : Nat) (s : State) : Res :=
  .next (
    if port ≤ 25 then
      match (s.port port).tester with
      | none => s
      | some p =>
        let s1 := (s.modPort port fun c => { c with tester := none }).dropToken 3 port
        if (s1.port port).mode = .diag ∧ result ≤ 4 then
          let dist := if result = 0 ∨ result = 4 then 0 else if 1500 < distance then 0x7FF else distance
          ((s1.modPort port fun c => { c with retainValid := false }).train port false).finish p .done
            [pack [(33, 3, result), (22, 11, dist)]] []
        else
          let s2 := if (s1.port port).mode = .diag then (s1.modPort port fun c => { c with retainValid := false }).train port false else s1
          s2.finish p .timeout [] []
    else s)

/-! ### MACSEC commands -/

/-- Ports with MACsec (09 R239). -/
def hasMacsec (p : Nat) : Bool :=
  decide (p ≤ 25) && (kindOfPort p == .multiGig || kindOfPort p == .serdes || kindOfPort p == .gig)

/-- PORT of a MACSEC command. -/
def fSecy : Fld := fNeed 35 31 hasMacsec

/-- MKA starts again: no peer, no key server, no SA (09 R262, R263). -/
def SecySt.restart (y : SecySt) : SecySt := { y with peers := [], keyServer := false, txSa := none, rxSas := [], nextPn := 0 }

/-- Change the SecY of a port. -/
def State.modSecy (s : State) (p : Nat) (f : SecySt → SecySt) : State := s.modPort p fun c => { c with secy := f c.secy }

/-- 0xE01 MACSEC.PORT_WRITE (09 R262). -/
def macsecPortWrite : CmdSpec where
  opcode := 0xE01
  lenOk := lenIs 2
  kinds := [4]
  locked := keyLocked
  unkeyed := needsKeys
  fields := fun r s =>
    [[fSecy, fNeed 30 30 fun v => v == 0 || (s.port (Req.port1 r)).secy.mka.isSome, fAny 29 29, fAny 28 28,
      fTo 27 26 (· == 3) 0 2, fMax 25 24 2, fAny 23 23, fAny 22 22],
     [if r.bit 1 29 then fMax 35 4 1073741823 else fAny 35 4]]
  run := fun r s =>
    { st := s.modSecy (Req.port1 r) fun y =>
        { y.restart with
          enable := r.bit 1 30, xpn := r.bit 1 29, conf := r.bit 1 28, confOffset := r.fld 1 27 26, validate := r.fld 1 25 24,
          replay := r.bit 1 23, includeSci := r.bit 1 22, window := r.fld 2 35 4 } }

/-- Meaning of MACSEC_PORT_WRITE. -/
def execMacsecPortWrite (r : Req) (s : State) : Res := .next (mailbox macsecPortWrite r s)

/-- The bytes of the CKN words of MACSEC.MKA_WRITE that lie within CKN_LEN (09 R263). -/
def cknOf (r : Req) : List Nat :=
  (List.range (r.fld 1 10 5)).map fun k => r.fld (2 + k / 4) (31 - 8 * (k % 4)) (24 - 8 * (k % 4))

/-- 0xE02 MACSEC.MKA_WRITE (09 R263). -/
def macsecMkaWrite : CmdSpec where
  opcode := 0xE02
  lenOk := lenIs 9
  kinds := [4]
  locked := keyLocked
  unkeyed := needsKeys
  fields := fun r s =>
    let n := min 32 (r.fld 1 10 5)
    [fSecy, fNeed 30 19 s.derives, fAny 18 11, { hi := 10, lo := 5, clamp := fun v => if 32 < v then some (32, 2) else none, bad := (· == 0) }] ::
      (List.range 8).map fun w => (List.range 4).map fun j => fTo (31 - 8 * j) (24 - 8 * j) (fun _ => decide (n ≤ 4 * w + j)) 0 5
  run := fun r s =>
    { st := s.modSecy (Req.port1 r) fun y =>
        { y.restart with mka := some { handle := r.fld 1 30 19, prio := r.fld 1 18 11, ckn := cknOf r } } }

/-- Meaning of MACSEC_MKA_WRITE. -/
def execMacsecMkaWrite (r : Req) (s : State) : Res := .next (mailbox macsecMkaWrite r s)

/-- MKA of MACSEC.STATUS_READ (09 R264). -/
def SecySt.mkaState (y : SecySt) : Nat :=
  if !y.enable || y.mka.isNone then 0 else if y.peers = [] then 1 else if y.txSa.isNone then 2 else 3

/-- Receive channels in use (09 R264). -/
def SecySt.channels (y : SecySt) : Nat := ((List.range 2).filter fun c => y.rxSas.any fun e => e.1 == c).length

/-- The payload of MACSEC.STATUS_READ (09 R264). -/
def SecySt.status (y : SecySt) : List Word :=
  [pack [(34, 2, y.mkaState), (33, 1, b1 y.keyServer), (31, 2, y.txSa.getD 0), (29, 2, y.channels)]] ++ words72 y.nextPn ++
    words72 y.outProtected ++ words72 y.inOk ++
    [w36 y.inInvalid, w36 y.inNotValid, w36 y.inLate, w36 y.inNoSa, w36 y.inUntagged, w36 y.outNoSa, w36 y.outPnExhausted]

/-- 0xE03 MACSEC.STATUS_READ (09 R264). -/
def macsecStatusRead : CmdSpec where
  opcode := 0xE03
  lenOk := lenIs 1
  changes := fun r => r.bit 1 30
  fields := fun _ _ => [[fSecy, fAny 30 30]]
  run := fun r s =>
    let p := Req.port1 r
    { st :=
        if r.bit 1 30 then
          s.modSecy p fun y => { y with outProtected := 0, inOk := 0, inInvalid := 0, inNotValid := 0, inLate := 0, inNoSa := 0, inUntagged := 0, outNoSa := 0, outPnExhausted := 0 }
        else s
      payload := (s.port p).secy.status }

/-- Meaning of MACSEC_STATUS_READ. -/
def execMacsecStatusRead (r : Req) (s : State) : Res := .next (mailbox macsecStatusRead r s)

/-! ### Key agreement -/

/-- The active core runs its firmware and holds its outputs open. -/
def State.coreServes (s : State) : Bool := (s.core s.pair.active).mode == .active && !s.pair.held

/-- Add a receive SA: two are in use on a channel (09 R252). -/
def addRxSa (l : List (Nat × Nat)) (ch an : Nat) : List (Nat × Nat) :=
  let own := (l.filter fun e => e.1 == ch && e.2 != an).map Prod.snd
  (l.filter fun e => e.1 != ch) ++ (own.drop (own.length - 1) ++ [an]).map fun a => (ch, a)

/-- Meaning of MKA_SAK_INSTALL: the SAK reaches the port's die and the SAs of this AN are in use (09 R252, R255, R256). -/
def execMkaSakInstall (port an : Nat) (s : State) : Res :=
  let y := (s.port port).secy
  .next (
    if hasMacsec port ∧ an ≤ 3 ∧ y.enable ∧ y.mka.isSome ∧ y.peers ≠ [] ∧ s.coreServes ∧ s.keyed ∧ s.has (dieOfPort port).num then
      (s.modSecy port fun y =>
        { y with txSa := some an, nextPn := 1,
                 rxSas := (List.range (min 2 y.peers.length)).foldl (fun l ch => addRxSa l ch an) y.rxSas }).mirrorOut [4]
    else s)

/-- Meaning of MKA_HELLO_TIME: the peers heard since the last one, as (identifier, priority), refresh their life time of 6 s, peers
whose life time has run out are dropped, the key server is chosen by priority, and an MKPDU is sent (09 R255; the tie rule is
log 30). -/
def execMkaHelloTime (port : Nat) (heard : List (Nat × Nat)) (s : State) : Res :=
  let y := (s.port port).secy
  .next (
    match y.mka with
    | none => s
    | some m =>
      if hasMacsec port ∧ y.enable ∧ s.coreServes ∧ s.keyed then
        let now := s.monoNs
        let kept := y.peers.filter fun e => !(heard.any fun h => h.1 == e.id) && decide (now - e.heard < 6000000000)
        let ps := kept ++ heard.map fun h => { id := h.1 % 2 ^ 96, prio := h.2 % 256, heard := now : MkaPeer }
        let own := s.img.baseMac * 65536 + port + 1
        let first := ps.all fun e => decide (m.prio < e.prio) || (m.prio == e.prio && decide (own < e.id))
        let s1 := s.modSecy port fun y => { y with peers := ps, keyServer := first && !ps.isEmpty }
        (s1.mirrorOut [4]).emit (.mkpdu port)
      else s)

end Sys2Proof.Machine
end

