-- ==== Sys2Proof/Machine/Keys.lean ====
section
/-! DEFINITION. The root secret, the key store, key blobs, tamper alarms and the cipher engine's lock (15 R426 to R441). -/

namespace Sys2Proof.Machine

open Sys2Proof.Crypto

/-! ### Derivations of the device -/

/-- ASCII bytes of a label. -/
def ascii (s : String) : List Byte := s.toList.map fun c => BitVec.ofNat 8 c.toNat

/-- The unique device identifier as 9 bytes (15 R424). -/
def uidBytes : List Byte := beBytes 9 (of72 (Config.uidWord 0) (Config.uidWord 1))

/-- The device derivation key, 48 bytes (15 R430, R432; log 45). -/
def ddkOf (rs : List Byte) : List Byte := kdf false rs (ascii "NF-DDK") uidBytes 48

/-- BK(M), the transfer key of a measurement (15 R432, R433). -/
def bkOf (rs m : List Byte) : List Byte := kdf false (ddkOf rs) (ascii "NF-BLOB") m 32

/-- KEY_ID: the first 36 bits of a derivation of 48 bytes, 0 when unkeyed (15 R432, R445; log 45). -/
def State.keyId (s : State) : Nat :=
  if s.keyed then
    match s.key.rs with
    | some rs => beVal (kdf false (ddkOf rs) (ascii "NF-KID") [] 48) / 2 ^ 348
    | none => 0
  else 0

/-! ### Slots -/

/-- A key slot, with the device slots as RS and DDK give them (15 R430). -/
def State.keySlot (s : State) (h : Nat) : KeySlot :=
  if h ≤ 1 then
    match (if s.keyed then s.key.rs else none) with
    | some rs => { valid := true, use := 3, len := 12, origin := if h = 0 then 0 else 2, key := if h = 0 then rs else ddkOf rs }
    | none => {}
  else s.slot h

/-- The attribute word of a slot (15 R430). -/
def KeySlot.attr (k : KeySlot) (h : Nat) : Word :=
  if k.valid then
    pack [(35, 1, 1), (32, 3, k.use), (28, 4, k.len), (27, 1, b1 k.wrappable), (26, 1, b1 k.persisted), (24, 2, k.origin), (12, 12, k.parent), (0, 12, h)]
  else pack [(0, 12, h)]

/-- Write a slot. -/
def State.setSlot (s : State) (h : Nat) (k : KeySlot) : State :=
  s.modKey fun y => { y with slots := Tbl.put KeySlot.dflt y.slots h k }

/-- A user slot (15 R430). -/
def userSlot (h : Nat) : Bool := decide (0x10 ≤ h ∧ h ≤ 0xFF)

/-! ### Blobs -/

/-- The KEY_BLOB records behind an image from word `w` on; `n` bounds them (14 R397, 15 R434). -/
def ImgSt.blobsFrom (g : ImgSt) (img w : Nat) : Nat → List ImgRec × Nat
  | 0 => ([], w)
  | n + 1 =>
    let r := g.recAt img w
    if g.word img w = 0xFFFFFFFFF ∨ r.kind ≠ 0x06 ∨ 838859 < w + r.len then ([], w)
    else
      let x := g.blobsFrom img (w + r.len + 1) n
      (r :: x.1, x.2)

/-- The KEY_BLOB records of a slot and the first word behind them. -/
def ImgSt.blobs (g : ImgSt) (img : Nat) : List ImgRec × Nat := if img = 2 then ([], 0) else g.blobsFrom img (g.imageWords img + 1) 65536

/-- The payload of a key wrapped under BK(M): its blob words (15 R434). -/
def blobWords (bk : List Byte) (h : Nat) (k : KeySlot) : List Word :=
  let c := kwWrap bk (beBytes 8 (k.attr h).toNat ++ k.key)
  let n := c.length / 4
  pack [(30, 6, 0x06), (10, 20, n + 1)] :: pack [(32, 4, 1), (20, 12, h), (12, 8, n)] :: (List.range n).map fun i => w36 (beVal (slice c (4 * i) 4))

/-- The wrapped bytes of a blob record. -/
def ImgSt.blobBytes (g : ImgSt) (img : Nat) (r : ImgRec) : List Byte :=
  ((List.range (r.len - 1)).map fun i => beBytes 4 (fld (g.recWord img r (2 + i)) 31 0)).flatten

/-- Whether `n` words from `w` on lie in the slot and are erased. -/
def ImgSt.room (g : ImgSt) (img w n : Nat) : Bool :=
  decide (w + n ≤ 838860) && (g.words img w n).all (· == 0xFFFFFFFFF)

/-- Append records behind an image's blobs; none when the slot has no erased room (15 R447). -/
def State.appendBlobs (s : State) (img : Nat) (ws : List Word) : Option State :=
  let w := (s.img.blobs img).2
  if s.img.room img w ws.length then some (s.modImg fun g => g.setWords img w ws) else none

/-- Clear word 1 of the live blobs of an image that `f` picks by handle (15 R434). -/
def State.clearBlobs (s : State) (img : Nat) (f : Nat → Bool) : State :=
  (s.img.blobs img).1.foldl (fun s r => if f (fld (s.img.recWord img r 1) 31 20) then s.modImg fun g => g.setWords img (r.pos + 1) [0] else s) s

/-- A key as its blob's plaintext gives it (15 R434). -/
def keyOfPlain (p : List Byte) : KeySlot :=
  let a := w36 (beVal (p.take 8))
  { valid := true, use := fld a 34 32, len := fld a 31 28, wrappable := bit1 a 27, persisted := true, origin := 3, parent := fld a 23 12, key := p.drop 8 }

/-! ### Zeroing, abort and alarms -/

/-- RS and every key-store slot are zeroed (15 R436). -/
def State.zeroize (s : State) : State := s.modKey fun k => { k with rs := none, slots := [], lock := none }

/-- Every installed SA of every port is deleted (15 R436). -/
def State.dropSas (s : State) : State :=
  (List.range 26).foldl (fun s p => s.modPort p fun c => { c with secy := { c.secy with txSa := none, rxSas := [] } }) s

/-- Commands whose execution is a request to the engine (15 R438, "KEY commands"). -/
def keyOps : List Nat := [0x0A2, 0x0A3, 0x0A4, 0x0A5, 0x0A7, 0x0AB, 0x0C2, 0x085]

/-- The key operation of a path's head request is aborted: the command returns REFUSED (15 R438, R444). -/
def State.abortOn (s : State) (p : Path) : State × Bool :=
  match (s.path p).waiting with
  | [] => (s, false)
  | pd :: rest =>
    if pd.opcode ∈ keyOps ∧ (s.path p).ready ∧ s.coreServes ∧ s.pair.promoting.isNone then
      let s1 := (s.modPath p fun q => { q with waiting := rest }).modKey fun k => { k with aborts := sat36 k.aborts 1, lock := none }
      let s2 := s1.satRaise s.key.aborts 1 fun t => t.raiseDev .countSat
      let s3 := if pd.opcode = 0x0A2 then s2.zeroize else s2
      (s3.respond pd .refused [] [], true)
    else (s, false)

/-- The phase of an alarm: 0 AO absent, 1 start-up up to the end of the blob step, 2 sleep, 3 awake (15 R437, R439). -/
def State.tamperPhase (s : State) : Nat :=
  if !s.key.ao then 0
  else
    match s.sys.start with
    | .forwarding | .config | .locks => if s.pow.mode = .asleep then 2 else 3
    | _ => 1

/-- The BK seconds counter (15 R439). -/
def State.bkSeconds (s : State) : Nat := (s.key.bkBase + s.tim.ticks / 312500000) % 2 ^ 32

/-- An alarm of a tamper source, with the path whose key operation it meets (15 R435 to R439). -/
def State.tamper (s : State) (src : Nat) (during : Option Path) : State :=
  let c := Tbl.get TamperCfg.dflt s.key.tamper src
  let ph := s.tamperPhase
  let ab := match during with | some p => if ph = 3 then s.abortOn p else (s, false) | none => (s, false)
  let s1 := ab.1.modKey fun k => { k with lock := none, vbat := k.vbat || src == 3 }
  let e : TamperRec := { source := src, phase := ph, action := c.action, aborted := ab.2, secs := s.bkSeconds, time := if ph = 0 then 0 else s.now72 % 2 ^ 36 }
  let s2 := s1.modKey fun k => { k with tlog := (k.tlog ++ [e]).drop (k.tlog.length + 1 - 32), ttotal := sat36 k.ttotal 1 }
  let s3 := if c.action = 0 then s2 else s2.zeroize
  let s4 := if c.action = 2 ∧ 2 ≤ ph then s3.dropSas else s3
  match ph with
  | 0 => s4.modKey fun k => { k with tamperDue := true, tamperLost := k.tamperLost ++ [src] }
  | 1 => ((s4.modKey fun k => { k with unkeyedRun := true }).raiseDev .tamper).logFault 0x16 0 src
  | 2 =>
    let s5 := s4.logFault 0x16 0 src
    if c.wake then (s5.raiseDev .tamper).wakeSource { kind := 7 } else s5.modKey fun k => { k with tamperDue := true }
  | _ => (s4.raiseDev .tamper).logFault 0x16 0 src

/-- Meaning of TAMPER_ALARM, `dt` ticks after the last command: the BK sources alone are watched while AO is absent, and the SUPPLY
source counts no excursion with a controlled power-down (15 R435 to R438). -/
def execTamperAlarm (source : Nat) (during : Option Path) (dt : Nat) (s : State) : Res :=
  .next (
    if 1 ≤ source ∧ source ≤ 7 ∧ (s.key.ao ∨ source ≤ 4) ∧ ¬ (source = 5 ∧ s.key.cpd) then (s.adv dt).tamper source during else s)

/-! ### Timers -/

/-- Meaning of CIPHER_LOCK_IDLE: 100 ms without a CIPHER.BLOCK (15 R440). -/
def execCipherLockIdle (s : State) : Res :=
  .next (
    match s.key.lock with
    | some l => (s.advTick (l.usedAt + ticksMs 100)).modKey fun k => { k with lock := none }
    | none => s)

/-- Meaning of NONCE_EXPIRY: 30 s after CHALLENGE (15 R442). -/
def execNonceExpiry (s : State) : Res :=
  .next (
    match s.key.nonce with
    | some n => (s.advTick (n.2 + ticksS 30)).modKey fun k => { k with nonce := none }
    | none => s)

/-- Meaning of OPEN_LOCKOUT_END: the hour of 8 failed OPENs has passed (15 R442). -/
def execOpenLockoutEnd (s : State) : Res :=
  .next (
    match s.key.lockout with
    | some t => (s.advTick (t + ticksS 3600)).modKey fun k => { k with lockout := none, fails := [] }
    | none => s)

end Sys2Proof.Machine
end

