-- ==== Sys2Proof/Machine/Pair.lean ====
section
/-! DEFINITION. The arbiter, promotions, the standby's Lining and catch-up, and the update states that follow them (12 R337 to R347;
14 R409 to R414). -/

namespace Sys2Proof.Machine

/-! ### Update states -/

/-- The update state changes, which raises IMAGE; in IDLE the token is free (14 R408). -/
def State.updTo (s : State) (m : UpdMode) : State :=
  let s1 := (s.modImg fun g => { g with mode := m, target := if m = .idle then 3 else g.target }).raiseDev .image
  if m = .idle then s1.dropToken 0 0 else s1

/-- The target is written REJECTED, with the code of the last fall-back (14 R409, R415). -/
def State.rejectTarget (s : State) (why : Nat) : State :=
  (s.slotTo s.img.target .rejected).modImg fun g => { g with lastFallback := why }

/-! ### Debugger and restart -/

/-- The debugger leaves a core, which runs on; the token is free (12 R343, R355; 18 R521). -/
def State.detach (s : State) (d : Fab) : State :=
  if (s.core d).attached then
    let s1 := (s.modCore d fun k => { k with attached := false, halted := false, breaks := [], replay := [], regs := [] }).dropToken 2 d.num
    if d = s1.pair.active then s1.modPair fun p => { p with mode := if p.mode = .debug then p.beforeDebug else p.mode } else s1
  else s

/-- The depot session ends; the debugger with it (15 R442, 18 R521). -/
def State.endSession (s : State) : State := ((s.modKey fun k => { k with session := none }).detach .west).detach .east

/-- A core as it starts its firmware anew: its counters and its record at the arbiter stay (12 R337, R352). -/
def CoreSt.fresh (k : CoreSt) : CoreSt :=
  { mode := .cold, lastFault := k.lastFault, slot := k.slot, segments := k.segments, tripwireRuns := k.tripwireRuns, liningRecords := k.liningRecords,
    oddA := k.oddA, oddB := k.oddB, oddC := k.oddC, noMajority := k.noMajority, tripwireMisses := k.tripwireMisses, holdParity := k.holdParity,
    liningStales := k.liningStales, liningMismatch := k.liningMismatch, sramCorrected := k.sramCorrected }

/-- The core domain of a fabric die (16 R457). -/
def coreDom (d : Fab) : Nat := match d with | .west => 4 | .east => 7

/-- A core starts the firmware of image `n`: domain, tests and measurement before it is COLD (12 R353; 15 R426; 18 R518). -/
def State.startCore (s : State) (d : Fab) (n : Nat) : State :=
  let s1 := if s.dom (coreDom d) = .on then s else s.domTo (coreDom d) .on
  (s1.modCore d CoreSt.fresh).loadCore d n

/-- The Lining's outstanding records are dropped with their buffers. -/
def State.dropLining (s : State) : State :=
  (s.freeBufs (s.pair.sent.map fun e => (e.2.1, e.2.2.1, e.2.2.2))).modPair fun p => { p with sent := [], snapOut := false, inSnapshot := false, snapDone := false }

/-- The standby is restarted with the firmware of image `n` and catches up; the pair is SINGLE until it is WARM (12 R343, R353). -/
def State.restartStandby (s : State) (n : Nat) : State :=
  let d := s.standby
  let s1 := ((s.detach d).dropLining.startCore d n).modPair fun p => { p with mode := if p.mode = .normal ∨ p.mode = .degraded then .single else p.mode }
  s1.startCatchUp

/-! ### Faults of a core -/

/-- A fault of the active core ends a handover, and turns a trial into a fall-back (14 R409, R414). -/
def State.updateFault (s : State) : State :=
  match s.img.mode with
  | .handover => ((s.rejectTarget 5).updTo .idle).modImg fun g => { g with waiter := none }
  | .trial => (s.rejectTarget 3).updTo .fallback
  | _ => s

/-- The active core fails while the records are executed: the other core becomes ACTIVE, the tables of both fabric dies are cleared, and the
records are executed again from the first (18 R514). -/
def State.configAgain (s : State) (c : Fab) : State :=
  let s1 := (s.modCore c fun k => { k with mode := .failed }).modCore c.other fun k => { k with mode := .active }
  let s2 : State := { s1 with tab := { linkDown := s1.tab.linkDown }, zon := {}, egr := {}, fabW := {}, fabE := {} }
  let pool (q : PoolSt) : PoolSt := { q with limits := [], levels := [] }
  let s3 := ((s2.modPool .west pool).modPool .east pool).modImg fun g => { g with next := some (false, 1, 0) }
  s3.modPair fun p => { p with active := c.other, mode := .single }

/-- A fault of a core of class 1 HEARTBEAT, 2 DIE, 3 CORE or 4 CHECKER reaches the arbiter (12 R334, R343; 14 R414; 18 R523). -/
def State.coreFails (s : State) (c : Fab) (cls : Nat) : State :=
  let s0 := s.modCore c fun k => { k with lastFault := cls, report := none }
  let s1 := if cls = 3 then s0.raiseDev .coreFault else if cls = 4 then s0.raiseDev .checkerFault else s0
  if c = s1.pair.active then
    let s2 := (s1.detach c).logFault (3 + cls) c.num 0
    if s2.sys.start = .config ∧ (s2.core c.other).mode = .cold then s2.configAgain c
    else if s2.pair.promoting.isSome ∨ s2.pair.mode = .gap ∨ s2.pair.mode = .restart ∨ s2.sys.start ≠ .forwarding then s2
    else
      let was := s2.img.mode
      let s3 := s2.updateFault
      s3.modPair fun p => { p with promoting := some cls, mode := if was = .handover then .single else p.mode }
  else
    let s2 := (s1.detach c).logFault 8 c.num 0
    if s2.pair.mode = .gap then
      let old := s2.pair.active
      let cause := s2.pair.promoting.getD 0
      let s3 := s2.updateFault
      ((s3.modCore old fun k => { k with mode := if 5 ≤ cause ∧ k.mode ≠ .off then .cold else .failed }).modCore c fun k => { k with mode := .cold }).modPair fun p =>
        { p with active := c, mode := .restart, owned := false, promoting := none }
    else
      let s3 := (s2.modCore c fun k => { k with mode := .failed }).modPair fun p =>
        { p with mode := if p.mode = .normal ∨ p.mode = .degraded then .single else p.mode }
      if s3.img.mode = .trial ∧ s3.pair.promoting.isNone ∧ s3.has c.num then s3.restartStandby s3.img.runSlot else s3

/-! ### The gap -/

/-- Commands whose answer is the gap's own and comes from the new core (12 R349; 14 R420, R422). -/
def State.gapWaits (s : State) (p : Path) : Bool := s.pair.waiter == some p || s.img.waiter == some p

/-- The old core's requests at the fence: one that made no intent record is as if not taken, one that made one is answered
TIMEOUT after the gap (12 R346). -/
def PathSt.fenced (q : PathSt) (waits : Bool) : PathSt :=
  if waits then q
  else
    let back := (q.held.filter fun h => !h.intent).map HeldRsp.pend ++
      (match q.running with | some k => if k.intent || k.orphan then [] else [k.pend] | none => [])
    { q with held := q.held.filter HeldRsp.intent, waiting := back ++ q.waiting,
             running := match q.running with | some k => if k.intent || k.orphan then some { k with orphan := true } else none | none => none }

/-- Operations of the device no longer answer the path's request (12 R346). -/
def State.forgetPath (s : State) (p : Path) : State :=
  let t := s.modTab fun t => { t with act := t.act.map fun a => if a.path = p then { a with path := .image } else a }
  let u := t.modTim fun m => { m with waiters := m.waiters.filter fun w => w.1 ≠ p }
  let v := (List.range 26).foldl (fun s n => s.modPort n fun c => { c with tester := if c.tester = some p then some .image else c.tester }) u
  let v := v.modStk fun k => { k with jobs := k.jobs.filter fun j => j.path ≠ p, reqs := k.reqs.filter fun q => q.path ≠ p }
  let w := v.modSeal fun l => { l with commitOf := l.commitOf.map fun e => if e.1 = p then (.image, e.2) else e }
  w.modSys fun y => { y with reload := y.reload.map fun e => if e.2 = some p then (e.1, none) else e }

/-- Every path is fenced at gap start (12 R343, R346). -/
def State.fence (s : State) : State :=
  (hostPaths ++ [Path.image, Path.relay]).foldl (fun s p =>
    if s.gapWaits p then s
    else
      let s1 := if (s.path p).running.isSome then s.forgetPath p else s
      s1.modPath p fun q => q.fenced false) s

/-- The orphans of every path are answered TIMEOUT by the new core (12 R346). -/
def State.timeoutOrphans (s : State) : State :=
  (hostPaths ++ [Path.image, Path.relay]).foldl (fun s p =>
    match (s.path p).running with
    | some k => if k.orphan then (s.modPath p fun q => { q with running := none }).respond k.pend .timeout [] [] true else s
    | none => s) s

/-- The gap that starts stops the trial timer, and the one that ends lets it run on (14 R409). -/
def State.trialHold (s : State) (stop : Bool) : State :=
  s.modImg fun g =>
    if stop then { g with trialStop := if g.trialStop.isSome then g.trialStop else some s.tim.ticks }
    else match g.trialStop with
      | some t => { g with trialStop := none, trialAt := g.trialAt + (s.tim.ticks - t) }
      | none => g

/-- Outputs are held and the gap counts from here (12 R344, R345, R348). -/
def State.openGap (s : State) (m : PairMode) (cause : Nat) : State :=
  (s.modPair fun p => { p with mode := m, held := true, owned := false, gapStart := s.now72, gapMono := s.monoNs, lastCause := cause }).trialHold true

/-- Meaning of GAP_START, `dt` ticks after the last command: the promotion or restart that the arbiter has decided begins
(12 R343, R344). -/
def execGapStart (dt : Nat) (s : State) : Res :=
  .next (
    match s.pair.promoting with
    | none => s
    | some cause =>
      if s.pair.held then s
      else
        let s1 := s.adv dt
        if s1.pair.mode = .single then
          if 5 ≤ cause ∧ s1.img.mode ≠ .fallback then
            let w := if s1.pair.waiter.isSome then s1.pair.waiter else s1.img.waiter
            let s2 := (s1.modPair fun p => { p with promoting := none, waiter := none }).modImg fun g => { g with waiter := none }
            match w with | some p => s2.finish p .refused [] [] | none => s2
          else
            let s2 := (s1.openGap .restart cause).modPair fun p => { p with promoting := none }
            let s3 := s2.modCore s2.pair.active fun k => { k with mode := if k.mode = .off then .off else .cold, halted := false, stopped := false }
            s3.fence
        else
          let old := s1.pair.active
          let s2 := (s1.openGap .gap cause).modPair fun p => { p with switchovers := sat36 p.switchovers 1 }
          let s3 := (s2.satRaise s1.pair.switchovers 1 fun t => t.raiseDev .countSat).raiseDev .switchover
          (s3.fence).flushOutput old 13)

/-! ### The Lining at the standby -/

/-- One step of the CRC-32C register, reflected (log 16). -/
def crc32cBit (c : Nat) : Nat := if c % 2 = 1 then Nat.xor (c / 2) 0x82F63B78 else c / 2

/-- CRC-32C of bytes (12 R338; 13 R376; log 16). -/
def crc32c (bs : List Byte) : Nat :=
  Nat.xor (bs.foldl (fun c b => Nat.repeat crc32cBit 8 (Nat.xor c b.toNat)) 0xFFFFFFFF) 0xFFFFFFFF

/-- The standby applies one record that has arrived (12 R339 to R341). -/
def State.applyLining (s : State) (r : List Word) : State :=
  let h := r.headD 0
  let kind := fld h 35 28
  let sq := fld h 27 16
  let c := s.standby
  if kind = 8 then s.modPair fun p => { p with rxSeq := (sq + 1) % 4096, inSnapshot := true, snapDone := false }
  else if (s.core c).mode ≠ .warm ∧ s.pair.inSnapshot = false ∧ s.pair.snapDone = false then s
  else if sq ≠ s.pair.rxSeq then s.becomeStale
  else
    let s1 := s.modPair fun p => { p with rxSeq := (sq + 1) % 4096 }
    if 3 ≤ kind ∧ kind ≤ 7 then s1.modPair fun p => { p with copy := Tbl.put nilAt p.copy kind (r.drop 1) }
    else if kind = 9 then s1.modPair fun p => { p with inSnapshot := false, snapDone := true, snapOut := false }
    else if kind = 10 then
      let k := (r.getD 1 0).toNat
      if crc32c (encode5 (Tbl.get nilAt s1.pair.copy k)) = (r.getD 2 0).toNat then s1
      else (s1.coreTick c CoreSt.liningMismatch fun x n => { x with liningMismatch := n }).journal k (s1.mirror k)
    else s1

/-- A record is acknowledged: it leaves LAG and its buffer is free (12 R339). -/
def State.ackLining (s : State) (e : List Word × Fab × Nat × Nat) : State :=
  (s.modPair fun p => { p with sent := p.sent.erase e }).freeBufs [(e.2.1, e.2.2.1, e.2.2.2)]

/-- Meaning of LINING_RECORD_RX: a record that the active core has sent reaches the standby (12 R338, R339). -/
def execLiningRecordRx (rec : List Word) (s : State) : Res :=
  .next (
    match s.pair.sent.find? fun e => e.1 == rec with
    | some e => (s.ackLining e).applyLining rec
    | none => s)

/-- Meaning of LINING_AUDIT_TIMER: AUDIT_MS have passed; a digest of each KIND is sent (12 R340). -/
def execLiningAuditTimer (s : State) : Res :=
  .next (
    if (s.core s.pair.active).mode = .active ∧ s.pair.held = false then
      [3, 4, 5, 6, 7].foldl (fun s k => s.journal 10 [w36 k, w36 (crc32c (encode5 ((s.mirror k).take 255)))]) s
    else s)

/-- Meaning of STANDBY_LINING_APPLIED, `dt` ticks after the last command: the core being promoted has applied the outstanding
records and owns the mailboxes, its CPU port and the Lining direction (12 R344). -/
def execStandbyLiningApplied (dt : Nat) (s : State) : Res :=
  .next (
    if s.pair.held ∧ s.pair.mode = .gap ∧ s.pair.owned = false then
      let s1 := s.adv dt
      let s2 := s1.pair.sent.foldl (fun s e => (s.ackLining e).applyLining e.1) s1
      s2.modPair fun p => { p with owned := true, mustCatchUp := (s2.core s2.standby).mode != .warm }
    else s)

/-- Answers that the new core owes at the end of the gap (12 R346, R349; 14 R420, R422). -/
def State.gapAnswers (s : State) : State :=
  let pay := [pack [(16, 20, s.pair.gapUs)]]
  let s1 := match s.pair.waiter with | some p => s.finish p .done pay [] | none => s
  let s2 := match s.img.waiter with | some p => s1.finish p .done pay [] | none => s1
  ((s2.modPair fun p => { p with waiter := none }).modImg fun g => { g with waiter := none }).timeoutOrphans

/-- Meaning of GAP_END, `dt` ticks after the last command: the promoted core is ACTIVE, the old one FAILED or COLD (12 R343 to R347;
14 R409; 11 R314). -/
def execGapEnd (dt : Nat) (s : State) : Res :=
  .next (
    if s.pair.held ∧ s.pair.mode = .gap ∧ s.pair.owned then
      let s0 := s.adv dt
      let old := s0.pair.active
      let cause := s0.pair.promoting.getD 0
      let us := min (2 ^ 20 - 1) ((s0.monoNs - s0.pair.gapMono) / 1000)
      let s1 := (s0.modCore old fun k => { k with mode := if 5 ≤ cause ∧ k.mode ≠ .off then .cold else .failed, halted := false }).modCore old.other fun k =>
        { k with mode := .active }
      let s2 := s1.modPair fun p =>
        { p with active := old.other, mode := if (s1.core old).mode = .warm then .normal else .single, held := false, owned := false, promoting := none,
                 gapUs := us, snapOut := false, inSnapshot := false, snapDone := false }
      let s3 := ((s2.trialHold false).gapFresh).gapAnswers
      if s3.img.mode = .fallback then s3.restartStandby s3.img.runSlot
      else if 5 ≤ cause ∧ (s3.core old).mode = .cold then s3.startCatchUp else s3
    else s)

/-- Meaning of RESTART_CAUGHT_UP, `dt` ticks after the last command: the core restarted from saved state runs and has caught up, and
the gap ends (12 R343; 18 R519). -/
def execRestartCaughtUp (dt : Nat) (s : State) : Res :=
  .next (
    if s.pair.held ∧ s.pair.mode = .restart ∧ (s.core s.pair.active).mode = .cold then
      let s0 := s.adv dt
      let d := s0.pair.active
      let us := min (2 ^ 20 - 1) ((s0.monoNs - s0.pair.gapMono) / 1000)
      let s1 := (s0.dropLining.startCore d s0.img.runSlot).modCore d fun k => { k with mode := .active }
      let s2 := s1.modPair fun p => { p with mode := .single, held := false, owned := false, promoting := none, gapUs := us, mustCatchUp := false }
      let s3a := (s2.trialHold false).gapFresh
      let s3b := match s3a.img.waiter with | some p => (s3a.modImg fun g => { g with waiter := none }).finish p .done [0] [] | none => s3a
      let s3 := s3b.timeoutOrphans
      if s3.img.mode = .fallback ∧ s3.has d.other.num then s3.restartStandby s3.img.runSlot else s3
    else s)

/-! ### Catch-up -/

/-- What the update does when the restarted core is WARM (14 R409, R411). -/
def State.warmUpdate (s : State) : State :=
  match s.img.mode with
  | .handover =>
    ((s.slotTo s.img.target .trial).updTo .trial).modImg (fun g => { g with trialAt := s.tim.ticks, trialStop := none }) |>.modPair fun p =>
      { p with promoting := some 6 }
  | .confirming => (s.modImg fun g => { g with liningVer := g.liningVerOf g.runSlot }).updTo .idle
  | .fallback => s.updTo .idle
  | _ => s

/-- Meaning of CATCHUP_COMPLETE: the standby has applied the snapshot's end and LAG is 0, so it is WARM; or a core promoted while it
was not WARM has completed its own catch-up (12 R341, R343). -/
def execCatchupComplete (s : State) : Res :=
  let c := s.standby
  let m := (s.core c).mode
  .next (
    if s.pair.held then s
    else if s.pair.mustCatchUp then s.modPair fun p => { p with mustCatchUp := false }
    else if (m = .catchingUp ∨ m = .stale) ∧ s.pair.snapDone ∧ s.pair.sent = [] ∧ s.sys.start = .forwarding then
      ((s.modCore c fun k => { k with mode := .warm }).modPair fun p =>
        { p with mode := if p.mode = .degraded ∨ p.mode = .single then .normal else p.mode, beforeDebug := .normal }).warmUpdate
    else s)

/-- Meaning of HANDOVER_TIMEOUT: the new core is not WARM 600 ms after the receipt of IMG.HANDOVER (14 R409). -/
def State.handoverFails (s : State) : State :=
  let w := s.img.waiter
  let s1 := (((s.rejectTarget 5).updTo .idle).modImg fun g => { g with waiter := none }).restartStandby s.img.runSlot
  match w with | some p => s1.finish p .refused [] [] | none => s1

/-- Meaning of HANDOVER_TIMEOUT (14 R409). -/
def execHandoverTimeout (s : State) : Res :=
  .next (if s.img.mode = .handover then (s.advTick (s.img.handoverAt + ticksMs 600)).handoverFails else s)

/-- A trial falls back: the old core is promoted when it is WARM, else the active core restarts with the old firmware
(14 R409, R414). -/
def State.fallBack (s : State) (why : Nat) : State :=
  let s1 := (s.rejectTarget why).updTo .fallback
  let warm := (s1.core s1.standby).mode == .warm
  s1.modPair fun p => { p with promoting := some 6, mode := if warm then p.mode else .single }

/-- Meaning of TRIAL_TIMEOUT: TRIAL_S of the target image have elapsed (14 R409). -/
def execTrialTimeout (s : State) : Res :=
  .next (
    if s.img.mode = .trial ∧ s.pair.promoting.isNone ∧ s.pair.held = false then
      (s.advTick (s.img.trialAt + ticksS (s.img.trialSecs s.img.target))).fallBack 2
    else s)

/-- Meaning of CORE_RESTART_FAILED: a core that starts fails its tests (FAILED with class CORE), or the verification of its firmware
(OFF) (12 R323; 14 R409; 18 R518). -/
def execCoreRestartFailed (core : Fab) (verify : Bool) (s : State) : Res :=
  let m := (s.core core).mode
  .next (
    if (m = .cold ∨ m = .catchingUp) ∧ s.pair.mode ≠ .gap then
      let s1 := s.modCore core fun k => { k with mode := if verify then .off else .failed, lastFault := if verify then k.lastFault else 3 }
      let s2 := s1.modKey fun k => if verify then (match core with | .west => { k with measW := [] } | .east => { k with measE := [] }) else k
      let s3 := if verify then s2.logFault 0x17 0 0 else s2.logFault 0x18 core.num 3
      if s3.img.mode = .handover ∧ core ≠ s3.pair.active then s3.handoverFails else s3
    else s)

/-- Meaning of DEPOT_SESSION_TIMEOUT: 600 s without a request (15 R442). -/
def execDepotSessionTimeout (s : State) : Res :=
  .next (if s.key.session.isSome then (s.advTick (s.key.sessionAt + ticksS 600)).endSession else s)

end Sys2Proof.Machine
end

