-- ==== Sys2Proof/Machine/Guard.lean ====
section
/-! DEFINITION. Guarded tasks: the vote, the tripwire, SRAM errors, heartbeats and fault reports of a core (12 R323 to R334, R342). -/

namespace Sys2Proof

/-- A decoded write: program register, value and tag (12 R328). -/
abbrev Decoded := Nat × Word × Bool

/-- An address-tagged value with its offset moved by `k` (12 R326, R328). -/
def moveOffset (v : Word) (k : Nat) : Word := w36 (v.toNat / 0x2000 * 0x2000 + (v.toNat + k) % 0x2000)

/-- A write of pass 0 A, 1 B or 2 C decoded (12 R328). -/
def RegWrite.decode (w : RegWrite) (pass rel : Nat) : Decoded :=
  match pass with
  | 0 => (w.reg % 32, w.val, w.tagged)
  | 1 => (w.reg % 32, ~~~w.val, w.tagged)
  | _ => (w.reg % 32, if w.tagged then moveOffset w.val (0x2000 - rel % 0x2000) else w.val, w.tagged)

end Sys2Proof

namespace Sys2Proof.Machine

/-! ### The vote -/

/-- Differences between two decoded streams (12 R329). -/
def diffs : List Decoded → List Decoded → Nat
  | [], l => l.length
  | l, [] => l.length
  | a :: s, b :: t => (if a = b then 0 else 1) + diffs s t

/-- What the vote names (12 R330). -/
inductive Vote where
  | agreement | odd (pass : Nat) | noMajority | fault
deriving DecidableEq, Repr

/-- The vote over DIFF_AB, DIFF_AC and DIFF_BC (12 R330). -/
def vote (ab ac bc : Nat) : Vote :=
  match ab, ac, bc with
  | 0, 0, 0 => .agreement
  | _ + 1, _ + 1, 0 => .odd 0
  | _ + 1, 0, _ + 1 => .odd 1
  | 0, _ + 1, _ + 1 => .odd 2
  | _ + 1, _ + 1, _ + 1 => .noMajority
  | _, _, _ => .fault

/-- The SRAM word of a pass that holds offset `o` of the guarded region (12 R326). -/
def guardWord (pass o rel : Nat) : Nat :=
  Config.guardBase + 0x2000 * pass + (if pass = 2 then (o + rel) % 0x2000 else o)

/-- A value as pass B stores it, or as the others do (12 R326). -/
def guardCode (pass : Nat) (v : Option Word) : Option Word := if pass = 1 then v.map (~~~ ·) else v

/-- The data copy of one pass is rebuilt from that of another (12 R331). -/
def CoreSt.rebuild (k : CoreSt) (src dst : Nat) : CoreSt :=
  { k with sram := (List.range 0x2000).foldl (fun t o =>
      Tbl.put noneAt t (guardWord dst o k.relShift) (guardCode dst (guardCode src (Tbl.get noneAt k.sram (guardWord src o k.relShift))))) k.sram }

/-- The register banks after a segment, from decoded writes of the majority: G0 to G31 in plain encoding, G32 to G63 as pass C holds
them (12 R326, R331; log 46). -/
def CoreSt.banks (k : CoreSt) (ws : List Decoded) : CoreSt :=
  { k with regs := ws.foldl (fun t w =>
      Tbl.put noneAt (Tbl.put noneAt t w.1 (some w.2.1)) (w.1 + 32) (some (if w.2.2 then moveOffset w.2.1 k.relShift else w.2.1))) k.regs }

/-! ### Outcomes -/

/-- The core has a fault to report (12 R334). -/
def State.owes (s : State) (c : Fab) (checker : Bool) : State :=
  s.modCore c fun k => { k with report := if k.report.isSome then k.report else some checker, guardStopped := k.guardStopped || checker }

/-- Times within a window of `ms` that ends now, with now (12 R331, R334); µs. -/
def State.within (s : State) (l : List Nat) (ms : Nat) : List Nat := (l.filter fun t => decide (s.monoNs / 1000 < t + 1000 * ms)) ++ [s.monoNs / 1000]

/-- One pass is odd (12 R331). -/
def State.oddPass (s : State) (c : Fab) (pass : Nat) : State :=
  let s1 := match pass with
    | 0 => s.coreTick c CoreSt.oddA fun k n => { k with oddA := n }
    | 1 => s.coreTick c CoreSt.oddB fun k n => { k with oddB := n }
    | _ => s.coreTick c CoreSt.oddC fun k n => { k with oddC := n }
  let l := s1.within (s1.core c).oddTimes s1.pair.guard.oddWindowMs
  let s2 := s1.modCore c fun k => { k with oddTimes := l }
  if s2.pair.guard.oddLimit ≤ l.length then s2.owes c false else s2

/-- A parity error of a hold entry, or a hold fault (12 R330, R333, R334). -/
def State.holdParity (s : State) (c : Fab) : State :=
  let s1 := s.coreTick c CoreSt.holdParity fun k n => { k with holdParity := n }
  let l := s1.within (s1.core c).parityTimes s1.pair.guard.oddWindowMs
  let s2 := s1.modCore c fun k => { k with parityTimes := l }
  if 2 ≤ l.length then s2.owes c true else s2

/-- A core that executes firmware (12 R323, R342). -/
def State.coreLives (s : State) (c : Fab) : Bool :=
  let k := s.core c
  !(k.mode == .off || k.mode == .failed) && !k.stopped && s.sys.start == .forwarding

/-- Meaning of GUARD_SEGMENT_END: the writes of the three passes, whether the segment is its task's first, and whether a hold entry
has wrong parity (12 R326 to R333; the commit step's effects are those of the command that the task serves, log 46). -/
def execGuardSegmentEnd (core : Fab) (first : Bool) (a b c : List RegWrite) (parity : Bool) (s : State) : Res :=
  .next (
    if s.coreLives core ∧ (s.core core).guardStopped = false then
      let s1 := s.modCore core fun k => { k with relShift := if first then (k.relShift + 0x0A6) % 0x2000 else k.relShift, replay := [] }
      let rel := (s1.core core).relShift
      let da := a.map fun w => w.decode 0 rel
      let db := b.map fun w => w.decode 1 rel
      let dc := c.map fun w => w.decode 2 rel
      if parity then s1.holdParity core
      else
        let done (t : State) : State := t.modCore core fun k => { k with segments := add72 k.segments 1 }
        match vote (diffs da db) (diffs da dc) (diffs db dc) with
        | .agreement => (done s1).modCore core fun k => k.banks da
        | .odd p =>
          let q := if p = 0 then 2 else 0
          ((done s1).oddPass core p).modCore core fun k => (k.banks (if q = 0 then da else dc)).rebuild q p
        | .noMajority => ((done s1).coreTick core CoreSt.noMajority fun k n => { k with noMajority := n }).owes core false
        | .fault => s1.holdParity core
    else s)

/-! ### The tripwire -/

/-- Whether a tripwire of a pass gives the vote and the differences that it must (12 R332). -/
def tripPasses (pass : Nat) (d : Nat × Nat × Nat) : Bool :=
  match pass with
  | 0 => d == (1, 1, 0)
  | 1 => d == (1, 0, 1)
  | _ => d == (0, 1, 1)

/-- One tripwire segment runs: its count, its pass and its miss (12 R332). -/
def State.tripwire (s : State) (c : Fab) (passed : Bool) : State :=
  let s1 := s.modCore c fun k => { k with tripwireRuns := add72 k.tripwireRuns 1, tripCount := k.tripCount + 1, tripPass := (k.tripPass + 1) % 3 }
  if passed then s1 else s1.coreTick c CoreSt.tripwireMisses fun k n => { k with tripwireMisses := n }

/-- Meaning of TRIPWIRE_TIMER: DIFF_AB, DIFF_AC and DIFF_BC of the segment, and of its repetition after a miss (12 R332, R334). -/
def execTripwireTimer (core : Fab) (first again : Nat × Nat × Nat) (s : State) : Res :=
  .next (
    if s.coreLives core ∧ (s.core core).guardStopped = false then
      let ok := tripPasses (s.core core).tripPass first
      let s1 := s.tripwire core ok
      if ok then s1
      else
        let ok2 := tripPasses (s1.core core).tripPass again
        let s2 := s1.tripwire core ok2
        if ok2 then s2 else s2.owes core true
    else s)

/-! ### SRAM, heartbeats and reports -/

/-- Meaning of SRAM_ECC_ERROR (12 R324, R334). -/
def execSramEccError (core : Fab) (err : EccErr) (s : State) : Res :=
  .next (
    if s.coreLives core then
      match err with
      | .corrected => s.coreTick core CoreSt.sramCorrected fun k n => { k with sramCorrected := n }
      | .plain => (s.modCore core fun k => { k with stopped := true }).owes core false
      | .guarded p => s.oddPass core p
    else s)

/-- Meaning of HEARTBEAT_TX: with it the active core begins the catch-up of a STALE standby whose records have all arrived
(12 R341, R342; log 47). -/
def execHeartbeatTx (core : Fab) (s : State) : Res :=
  .next (
    if s.coreLives core ∧ (s.core core).halted = false then
      let s1 := s.modCore core fun k => { k with hbSeq := k.hbSeq + 1, hbTime := some s.monoNs }
      if core = s1.pair.active ∧ s1.pair.held = false ∧ (s1.core core.other).mode = .stale ∧ s1.pair.snapOut = false ∧ s1.pair.sent = [] then s1.sendSnapshot
      else s1
    else s)

/-- Meaning of HEARTBEAT_LOSS: 250 µs after the last heartbeat; a core under a debugger is not judged (12 R342, R343). -/
def execHeartbeatLoss (core : Fab) (s : State) : Res :=
  let k := s.core core
  .next (
    match k.hbTime with
    | none => s
    | some t =>
      if k.attached ∨ k.mode = .off ∨ k.mode = .failed then s
      else ((s.advNs (t + 250000)).modCore core fun k => { k with hbTime := none }).coreFails core 1)

/-- Meaning of CORE_DOMAIN_LOST, `dt` ticks after the last command: a core's domain fails while it is ON (12 R342, R343). -/
def execCoreDomainLost (core : Fab) (dt : Nat) (s : State) : Res :=
  .next (
    if s.dom (coreDom core) = .on then
      let m := (s.core core).mode
      let s1 := ((s.adv dt).detach core).domTo (coreDom core) .failed
      if m = .off ∨ m = .failed then s1 else s1.coreFails core 2
    else s)

/-- Meaning of CORE_FAULT_REPORT: the fault that a core owes reaches the arbiter (12 R334, R342). -/
def execCoreFaultReport (core : Fab) (s : State) : Res :=
  let k := s.core core
  .next (
    match k.report with
    | none => s
    | some checker => if k.mode = .off ∨ k.mode = .failed then s else s.coreFails core (if checker then 4 else 3))

end Sys2Proof.Machine
end

