-- ==== Sys2Proof/Machine/GwCmds.lean ====
section
/-! DEFINITION. The GW commands (11 R316 to R322). -/

namespace Sys2Proof.Machine

/-! ### Bundles -/

/-- The fields of GW.BUNDLE_WRITE; a write of VALID 0 leaves the others unread (11 R316). -/
def bundleFields (r : Req) (s : State) : List (List Fld) :=
  let used := s.gw.up.any fun e => e.2.valid && e.2.fld 1 19 19 == 1 && e.2.fld 1 18 13 == r.fld 1 35 30
  if r.bit 1 29 then
    let z : Nat → Nat → Fld := fun hi lo => if r.bit 1 28 then fAny hi lo else fTo hi lo (fun _ => true) 0 4
    [[fAny 35 30, fAny 29 29, fAny 28 28, fAny 27 27, fAny 25 23, fTo 22 11 (· == 4095) 0 2, fMax 10 0 2000], wAny,
     [fAny 35 24, fRange 23 10 64 8000, z 9 4], wAny, [fAny 35 8], [z 31 0], [z 31 0], [z 35 20, z 19 4]]
  else [[fAny 35 30, fNeed 29 29 fun _ => !used, fAny 28 0], wAny, wAny, wAny, wAny, wAny, wAny, wAny]

/-- 0x101 GW.BUNDLE_WRITE (11 R316). -/
def gwBundleWrite : CmdSpec where
  opcode := 0x101
  lenOk := lenIs 8
  locked := policyLocked
  fields := bundleFields
  run := fun r s =>
    let b := r.fld 1 35 30
    { st := (s.closeBundle b).modBundle b fun x =>
        if r.bit 1 29 then { x with valid := true, words := r.words } else { x with valid := false, words := [] } }

/-- Meaning of GW_BUNDLE_WRITE. -/
def execGwBundleWrite (r : Req) (s : State) : Res := .next (mailbox gwBundleWrite r s)

/-! ### Uplink and downlink entries -/

/-- The key and bucket words of an entry on channel `c` (11 R317). -/
def keyFields (r : Req) (c : Nat) : List (List Fld) :=
  let m := r.fld 3 31 0
  [[if c ≤ 5 then fAny 35 35 else fTo 35 35 (fun _ => true) 0 4,
    { hi := 31, lo := 0, clamp := fun v => if Nat.land v m = v then none else some (Nat.land v m, 5) }],
   [fMin 35 32 1, fAny 31 0]]

/-- PRIO of an entry: 0 and a value above 8 are clamped to 8 (11 R317). -/
def fPrio (hi lo : Nat) : Fld := { hi := hi, lo := lo, clamp := fun v => if v = 0 then some (8, 1) else if 8 < v then some (8, 2) else none }

/-- The fields of GW.UP_WRITE (11 R317). -/
def upFields (r : Req) (s : State) : List (List Fld) :=
  let c := r.fld 1 24 20
  if r.bit 1 25 then
    [[fAny 35 26, fAny 25 25, fNeed 24 20 (· ≤ 17), fAny 19 19, fNeed 18 13 fun b => !r.bit 1 19 || (s.bundle b).valid, fAny 12 8, fAny 7 7,
      fPrio 6 3]] ++ keyFields r c ++
    [[{ hi := 35, lo := 18, clamp := fun v => if inMask v c then some (setMask v c false, 5) else none }, fAny 17 2], [fAny 35 35, fAny 34 34, fAny 33 5]]
  else [[fAny 35 26, fAny 25 25, fAny 24 0], wAny, wAny, wAny, wAny]

/-- An entry as written, with a full bucket; its counters go on (11 R303, R306). -/
def GwEnt.write (e : GwEnt) (valid : Bool) (ws : List Word) (now : Nat) : GwEnt :=
  if valid then { e with valid := true, words := ws, tokens := Sys2Proof.fld (ws.getD 2 0) 35 32 * tokenUnit, last := now }
  else { e with valid := false, words := [], tokens := 0, last := 0 }

/-- 0x102 GW.UP_WRITE (11 R317). -/
def gwUpWrite : CmdSpec where
  opcode := 0x102
  lenOk := lenIs 5
  locked := policyLocked
  fields := upFields
  run := fun r s => { st := s.modEnt false (r.fld 1 35 26) fun e => e.write (r.bit 1 25) r.words s.tim.ticks }

/-- Meaning of GW_UP_WRITE. -/
def execGwUpWrite (r : Req) (s : State) : Res := .next (mailbox gwUpWrite r s)

/-- Whether a message kind MTYPE fits a channel (11 R318). -/
def kindFits (m c : Nat) : Bool :=
  match m with
  | 0 => decide (c ≤ 5)
  | 1 => decide (6 ≤ c ∧ c ≤ 9)
  | 2 => decide (10 ≤ c ∧ c ≤ 17)
  | _ => decide (4 ≤ c ∧ c ≤ 5)

/-- The fields of GW.DOWN_WRITE (11 R318). -/
def downFields (r : Req) (s : State) : List (List Fld) :=
  let c := r.fld 4 35 31
  let n := r.fld 5 13 6
  let zoneOk := s.gw.down.all fun e =>
    e.1 == r.fld 1 35 26 || !e.2.valid || e.2.fld 1 24 11 != r.fld 1 24 11 || s.zon.chanZone (e.2.chan true) == s.zon.chanZone c
  let slotOk := (s.perSlot n).valid && (s.perSlot n).fld 1 11 11 == 1 && (s.perSlot n).chan == c
  if r.bit 1 25 then
    [[fAny 35 26, fAny 25 25, fNeed 24 11 fun _ => zoneOk, fNeed 10 9 fun m => kindFits m c, fAny 8 4]] ++ keyFields r c ++
    [[fNeed 35 31 (· ≤ 17), fAny 30 30, fAny 29 29, fAny 28 0], [fAny 35 20, fPrio 19 16, fNeed 15 15 fun v => v == 0 || slotOk, fAny 14 14, fAny 13 6]]
  else [[fAny 35 26, fAny 25 25, fAny 24 0], wAny, wAny, wAny, wAny]

/-- The gateway zone entry of a stream after a change of the downlink entries (11 R309): the zone of the channel of its valid
entries, or none. -/
def State.gwZoneOf (s : State) (stream : Nat) (zone : Option Nat) : State :=
  if s.gw.down.any fun e => e.2.valid && e.2.fld 1 24 11 == stream then
    match zone with
    | some z => s.modZon fun q => { q with gw := Tbl.put noneAt q.gw stream (some z) }
    | none => s
  else s.modZon fun q => { q with gw := Tbl.put noneAt q.gw stream none }

/-- 0x103 GW.DOWN_WRITE (11 R309, R318; 18 R520). -/
def gwDownWrite : CmdSpec where
  opcode := 0x103
  lenOk := lenIs 5
  locked := policyLocked
  busy := copyBusy
  fields := downFields
  run := fun r s =>
    let i := r.fld 1 35 26
    let old := s.downEnt i
    let s1 := s.modEnt true i fun e => e.write (r.bit 1 25) r.words s.tim.ticks
    let s2 := if old.valid then s1.gwZoneOf (old.fld 1 24 11) none else s1
    { st := if r.bit 1 25 then s2.gwZoneOf (r.fld 1 24 11) (some (s.zon.chanZone (r.fld 4 35 31))) else s2 }

/-- Meaning of GW_DOWN_WRITE. -/
def execGwDownWrite (r : Req) (s : State) : Res := .next (mailbox gwDownWrite r s)

/-! ### Periodic slots -/

/-- 0x104 GW.PERIODIC_WRITE (11 R319). -/
def gwPeriodicWrite : CmdSpec where
  opcode := 0x104
  lenOk := lenIs 4
  locked := policyLocked
  kinds := [7]
  fields := fun r _ =>
    let c := r.fld 1 26 22
    let z : Nat → Fld := fun b => if c ≤ 5 then fAny b b else fTo b b (fun _ => true) 0 4
    if r.bit 1 27 then
      [[fAny 35 28, fAny 27 27, fNeed 26 22 fun c => decide (c ≤ 5 ∨ (10 ≤ c ∧ c ≤ 17)), z 21, z 20, z 19, fIn 18 12 1 64, fAny 11 11,
        fTo 10 9 (fun v => decide (2 ≤ v)) 0 2],
       [fAny 35 7, fAny 6 3],
       [fRange 35 20 10 60000, fNeed 19 4 fun p => decide (p < max 10 (min 60000 (r.fld 3 35 20)))],
       [fMax 35 20 60000]]
    else [[fAny 35 28, fAny 27 27, fAny 26 0], wAny, wAny, wAny]
  run := fun r s =>
    { st := s.modSlot (r.fld 1 35 28) fun p =>
        let q := { p with data := none, freshAt := 0, isStale := false, lastK := 0 }
        if r.bit 1 27 then { q with valid := true, words := r.words } else { q with valid := false, words := [] } }

/-- Meaning of GW_PERIODIC_WRITE. -/
def execGwPeriodicWrite (r : Req) (s : State) : Res := .next (mailbox gwPeriodicWrite r s)

/-- The words of up to 64 payload bytes, four each in bits 31:0, padded to `n` words (11 R320). -/
def quadWords (n : Nat) (bs : List Byte) : List Word := (List.range n).map fun i => w36 (beVal (slice (bs ++ List.replicate 4 0) (4 * i) 4))

/-- The bytes of words that carry four each. -/
def quadBytes (ws : List Word) : List Byte := (ws.map fun w => beBytes 4 (fld w 31 0)).flatten

/-- 0x105 GW.PERIODIC_DATA (11 R312, R320; log 40). -/
def gwPeriodicData : CmdSpec where
  opcode := 0x105
  lenOk := fun n => decide (2 ≤ n ∧ n ≤ 17)
  lenReq := fun r => decide (1 + ceilDiv (r.fld 1 27 21) 4 ≤ r.words.length)
  kinds := [7]
  fields := fun r _ =>
    let n := r.fld 1 27 21
    [fAny 35 28, fIn 27 21 1 64] :: (List.range (r.words.length - 1)).map fun i =>
      (List.range 4).map fun j =>
        if 4 * i + j < n then fAny (31 - 8 * j) (24 - 8 * j) else fTo (31 - 8 * j) (24 - 8 * j) (fun _ => true) 0 5
  run := fun r s =>
    let n := r.fld 1 35 28
    let p := s.perSlot n
    let data := (quadBytes (r.words.drop 1)).take (r.fld 1 27 21)
    let zone := s.zon.portZone (26 + s.pair.active.bit)
    if p.valid && p.fld 1 11 11 == 0 && (s.slotCheck p zone data).isNone then { st := s.slotWrite n data } else .fail s .refused

/-- Meaning of GW_PERIODIC_DATA. -/
def execGwPeriodicData (r : Req) (s : State) : Res := .next (mailbox gwPeriodicData r s)

/-! ### Reads -/

/-- Words in force with the index in the given place of word 1; an object that is absent reads 0 beside it. -/
def gwWords (valid : Bool) (ws : List Word) (i lo n : Nat) : List Word :=
  if valid then ws else w36 (i * 2 ^ lo) :: List.replicate (n - 1) 0

/-- The words of a slot: its configuration, the BYTES word and its payload (11 R321). -/
def PerSlot.readWords (p : PerSlot) (i : Nat) : List Word :=
  let d := p.data.getD []
  gwWords p.valid p.words i 28 4 ++ [pack [(28, 8, i), (21, 7, d.length)]] ++ quadWords 16 d

/-- 0x106 GW.READ (11 R321). -/
def gwRead : CmdSpec where
  opcode := 0x106
  lenOk := lenIs 1
  changes := fun _ => false
  fields := fun r _ =>
    [[fAny 35 34, fNeed 33 24 fun i => match r.fld 1 35 34 with | 0 => decide (i ≤ 63) | 3 => decide (i ≤ 255) | _ => true]]
  run := fun r s =>
    let i := r.fld 1 33 24
    { st := s
      payload := match r.fld 1 35 34 with
        | 0 => gwWords (s.bundle i).valid (s.bundle i).words i 30 8
        | 1 => gwWords (s.upEnt i).valid (s.upEnt i).words i 26 5
        | 2 => gwWords (s.downEnt i).valid (s.downEnt i).words i 26 5
        | _ => (s.perSlot i).readWords i }

/-- Meaning of GW_READ. -/
def execGwRead (r : Req) (s : State) : Res := .next (mailbox gwRead r s)

/-- The counters that GW.STATS_READ returns (11 R322). -/
def State.gwStats (s : State) (kind i : Nat) : List Word :=
  let ent (e : GwEnt) : List Word := words72 e.matched ++ [w36 e.rateDrops, w36 e.zoneDrops, w36 e.fitDrops, w36 e.queueFull]
  match kind with
  | 0 => ent (s.upEnt i)
  | 1 => ent (s.downEnt i)
  | 2 => words72 (s.bundle i).frames ++ words72 (s.bundle i).messages ++ [w36 (s.bundle i).tooLong]
  | 3 => words72 (s.perSlot i).sent ++ [w36 (s.perSlot i).skips, w36 (s.perSlot i).stale]
  | 4 => [w36 (Tbl.get zeroAt s.gw.unmatched i)]
  | _ => [w36 s.gw.badAvtp, w36 s.gw.skipped, w36 s.gw.downUnmatched, w36 (Tbl.get zeroAt s.gw.loopDrops 0), w36 (Tbl.get zeroAt s.gw.loopDrops 1)]

/-- The counters that GW.STATS_READ returns are cleared (11 R322). -/
def State.gwClear (s : State) (kind i : Nat) : State :=
  match kind with
  | 0 => s.modEnt false i fun e => { e with matched := 0, rateDrops := 0, zoneDrops := 0, fitDrops := 0, queueFull := 0 }
  | 1 => s.modEnt true i fun e => { e with matched := 0, rateDrops := 0, zoneDrops := 0, fitDrops := 0, queueFull := 0 }
  | 2 => s.modBundle i fun b => { b with frames := 0, messages := 0, tooLong := 0 }
  | 3 => s.modSlot i fun p => { p with sent := 0, skips := 0, stale := 0 }
  | 4 => s.modGw fun g => { g with unmatched := Tbl.put zeroAt g.unmatched i 0 }
  | _ => s.modGw fun g => { g with badAvtp := 0, skipped := 0, downUnmatched := 0, loopDrops := [] }

/-- 0x107 GW.STATS_READ (11 R322). -/
def gwStatsRead : CmdSpec where
  opcode := 0x107
  lenOk := lenIs 1
  changes := fun r => r.bit 1 22
  fields := fun r _ =>
    let k := r.fld 1 35 33
    [[fNeed 35 33 (· ≤ 5),
      if k = 5 then fTo 32 23 (fun _ => true) 0 4
      else fNeed 32 23 fun i => match k with | 0 | 1 => true | 2 => decide (i ≤ 63) | 3 => decide (i ≤ 255) | _ => decide (i ≤ 17),
      fAny 22 22]]
  run := fun r s =>
    let k := r.fld 1 35 33
    let i := r.fld 1 32 23
    { st := if r.bit 1 22 then s.gwClear k i else s, payload := s.gwStats k i }

/-- Meaning of GW_STATS_READ. -/
def execGwStatsRead (r : Req) (s : State) : Res := .next (mailbox gwStatsRead r s)

end Sys2Proof.Machine
end

