-- ==== Sys2Proof/Machine/PairCmds.lean ====
section
/-! DEFINITION. The CORE commands (12 R348 to R355). -/

namespace Sys2Proof.Machine

/-- The code of a core state (12 R337). -/
def CoreMode.code : CoreMode → Nat
  | .off => 0 | .cold => 1 | .catchingUp => 2 | .warm => 3 | .stale => 4 | .active => 5 | .failed => 6 | .debug => 7

/-- The code of a pair state (12 R348). -/
def PairMode.code : PairMode → Nat
  | .normal => 0 | .degraded => 1 | .single => 2 | .gap => 3 | .restart => 4 | .debug => 5

/-- 0x041 CORE.STATUS_READ (12 R348). -/
def coreStatusRead : CmdSpec where
  opcode := 0x041
  lenOk := lenIs 0
  standby := true
  changes := fun _ => false
  run := fun _ s =>
    let p := s.pair
    { st := s
      payload :=
        [pack [(33, 3, p.mode.code), (32, 1, p.active.bit), (28, 4, p.west.mode.code), (24, 4, p.east.mode.code), (20, 4, p.lastCause),
               (12, 8, min 255 p.sent.length)]] ++ words72 p.gapStart ++
        [pack [(16, 20, p.gapUs), (12, 4, p.west.lastFault), (8, 4, p.east.lastFault)], w36 p.switchovers] }

/-- Meaning of CORE_STATUS_READ. -/
def execCoreStatusRead (r : Req) (s : State) : Res := .next (mailbox coreStatusRead r s)

/-- CORE.SWITCH and CORE.RESTART are BUSY while an update hands over or is on trial (12 R349; 14 R414). -/
def updBusy : Req → State → Bool := fun _ s =>
  s.img.mode == .handover || s.img.mode == .trial || s.img.mode == .confirming || s.img.mode == .fallback

/-- 0x042 CORE.SWITCH (12 R343, R349). -/
def coreSwitch : CmdSpec where
  opcode := 0x042
  lenOk := lenIs 1
  gapBusy := true
  busy := updBusy
  fields := fun _ s =>
    [[fNeed 35 35 fun v => fabOf v != s.pair.active && (s.core (fabOf v)).mode == .warm && s.pair.mode == .normal]]
  run := fun r s => { st := s.modPair fun p => { p with promoting := some 5, waiter := some r.path }, later := true }

/-- Meaning of CORE_SWITCH. -/
def execCoreSwitch (r : Req) (s : State) : Res := .next (mailbox coreSwitch r s)

/-- 0x043 CORE.GUARD_WRITE (12 R350). -/
def coreGuardWrite : CmdSpec where
  opcode := 0x043
  lenOk := lenIs 2
  locked := policyLocked
  fields := fun _ _ => [[fRange 35 26 10 1000, fMin 25 22 1, fMin 21 10 10], [fRange 35 22 100 10000]]
  run := fun r s =>
    { st := s.modPair fun p =>
        { p with guard := { tripwireMs := r.fld 1 35 26, oddLimit := r.fld 1 25 22, oddWindowMs := r.fld 1 21 10, auditMs := r.fld 2 35 22 } } }

/-- Meaning of CORE_GUARD_WRITE. -/
def execCoreGuardWrite (r : Req) (s : State) : Res := .next (mailbox coreGuardWrite r s)

/-- 0x044 CORE.GUARD_READ (12 R351). -/
def coreGuardRead : CmdSpec where
  opcode := 0x044
  lenOk := lenIs 0
  changes := fun _ => false
  run := fun _ s =>
    let g := s.pair.guard
    { st := s, payload := [pack [(26, 10, g.tripwireMs), (22, 4, g.oddLimit), (10, 12, g.oddWindowMs)], pack [(22, 14, g.auditMs)]] }

/-- Meaning of CORE_GUARD_READ. -/
def execCoreGuardRead (r : Req) (s : State) : Res := .next (mailbox coreGuardRead r s)

/-- The counters of a core in the order of CORE.STATS_READ (12 R352). -/
def CoreSt.stats (k : CoreSt) : List Word :=
  words72 k.segments ++ words72 k.tripwireRuns ++ words72 k.liningRecords ++
    [w36 k.oddA, w36 k.oddB, w36 k.oddC, w36 k.noMajority, w36 k.tripwireMisses, w36 k.holdParity, w36 k.liningStales, w36 k.liningMismatch,
     w36 k.sramCorrected]

/-- The counters of a core cleared. -/
def CoreSt.clear (k : CoreSt) : CoreSt :=
  { k with segments := 0, tripwireRuns := 0, liningRecords := 0, oddA := 0, oddB := 0, oddC := 0, noMajority := 0, tripwireMisses := 0,
           holdParity := 0, liningStales := 0, liningMismatch := 0, sramCorrected := 0 }

/-- 0x045 CORE.STATS_READ (12 R352). -/
def coreStatsRead : CmdSpec where
  opcode := 0x045
  lenOk := lenIs 1
  standby := true
  changes := fun r => r.bit 1 34
  fields := fun _ s => [[fNeed 35 35 fun v => (s.core (fabOf v)).mode != .off, fAny 34 34]]
  run := fun r s =>
    { st := if r.bit 1 34 then s.modCore r.dieBit CoreSt.clear else s, payload := (s.core r.dieBit).stats }

/-- Meaning of CORE_STATS_READ. -/
def execCoreStatsRead (r : Req) (s : State) : Res := .next (mailbox coreStatsRead r s)

/-- 0x046 CORE.RESTART: the core of an absent die stays OFF (12 R337, R343, R353; log 48). -/
def coreRestart : CmdSpec where
  opcode := 0x046
  lenOk := lenIs 1
  gapBusy := true
  busy := updBusy
  fields := fun _ s => [[fNeed 35 35 fun v => fabOf v != s.pair.active && (s.core (fabOf v)).mode != .debug]]
  run := fun r s => { st := if s.dom (coreDom r.dieBit) = .failed then s else s.restartStandby s.img.runSlot }

/-- Meaning of CORE_RESTART. -/
def execCoreRestart (r : Req) (s : State) : Res := .next (mailbox coreRestart r s)

/-- The three tripwires of a self-test in pass order, with the outcome of each; two misses running are a CHECKER fault
(12 R332, R334, R354). -/
def State.selfTrip (s : State) (c : Fab) (a b d : Bool) : State :=
  let s1 := (((s.modCore c fun k => { k with tripPass := 0 }).tripwire c a).tripwire c b).tripwire c d
  if (!a && !b) || (!b && !d) then s1.owes c true else s1

/-- 0x047 CORE.SELFTEST: whether each part passes is the hardware's, a free value (12 R354; log 2). -/
def coreSelftest : CmdSpec where
  opcode := 0x047
  lenOk := lenIs 1
  standby := true
  fields := fun _ s => [[fNeed 35 35 fun v => s.coreLives (fabOf v)]]
  run := fun r s =>
    let c := r.dieBit
    let x := s.freeBelow 16
    let s1 := (s.useFree).selfTrip c (inMask x 3) (inMask x 2) (inMask x 1)
    { st := if inMask x 0 then s1 else s1.holdParity c, payload := [pack [(32, 4, x)]] }

/-- Meaning of CORE_SELFTEST. -/
def execCoreSelftest (r : Req) (s : State) : Res := .next (mailbox coreSelftest r s)

/-! ### CORE.DEBUG -/

/-- A value that the firmware's own work leaves open is drawn and kept (12 R355; log 46). -/
def State.debugRead (s : State) (c : Fab) (mem : Bool) (i : Nat) : State × Word :=
  let k := s.core c
  match Tbl.get noneAt (if mem then k.sram else k.regs) i with
  | some v => (s, v)
  | none =>
    let v := w36 (s.freeBelow (2 ^ 36))
    let keep (k : CoreSt) : CoreSt :=
      if mem then { k with sram := Tbl.put noneAt k.sram i (some v) }
      else if k.halted then { k with regs := Tbl.put noneAt k.regs i (some v) } else k
    ((s.modCore c keep).useFree, v)

/-- A register or memory write of the debugger in pass A, applied to the other passes at the same count (12 R336). -/
def CoreSt.debugWrite (k : CoreSt) (mem : Bool) (i : Nat) (v : Word) (count : Nat) : CoreSt :=
  let o := i - Config.guardBase
  let k1 : CoreSt := { k with replay := k.replay ++ [{ count := count, mem := mem, idx := i, val := v }] }
  if mem then
    if Config.guardBase ≤ i ∧ o < 0x2000 then
      { k1 with sram := ([0, 1, 2] : List Nat).foldl (fun t p => Tbl.put noneAt t (guardWord p o k.relShift) (guardCode p (some v))) k.sram }
    else { k with sram := Tbl.put noneAt k.sram i (some v) }
  else { k1 with regs := Tbl.put noneAt (Tbl.put noneAt k.regs i (some v)) (i + 32) (some v) }

/-- The core goes to another place of its program: pass A's counter and registers are open (12 R355; log 46). -/
def State.moved (s : State) (c : Fab) : State :=
  (s.modCore c fun k => { k with pc := s.freeBelow 163840, regs := [] }).useFree

/-- ATTACH (12 R343, R355; log 46). -/
def State.attach (s : State) (c : Fab) : State :=
  let s1 := (s.takeToken 2 c.num).modCore c fun k => { k with attached := true, hbTime := none }
  if c = s1.pair.active then s1.modPair fun p => { p with beforeDebug := p.mode, mode := .debug }
  else
    ((s1.modCore c fun k => { k with mode := .debug }).dropLining).modPair fun p => { p with mode := if p.mode = .normal ∨ p.mode = .degraded then .single else p.mode }

/-- DETACH: a standby catches up again (12 R341, R355; log 46). -/
def State.letGo (s : State) (c : Fab) : State :=
  let s1 := s.detach c
  if c ≠ s1.pair.active ∧ (s1.core c).mode = .debug then s1.startCatchUp else s1

/-- Whether a debug action is carried out, in the order of the checks of R355. -/
def debugCheck (s : State) (c : Fab) (act : Nat) : Code :=
  let k := s.core c
  if act = 0 then
    if !s.tokenFree 2 c.num then .busy
    else if s.coreLives c && (c != s.pair.active || s.pair.mode == .normal || s.pair.mode == .single) then .done else .refused
  else if !k.attached then .refused
  else if (act = 5 ∧ 8 ≤ k.breaks.length) ∨ ((act = 8 ∨ act = 10) ∧ 256 ≤ k.replay.length) then .noSpace
  else .done

/-- The effect of a debug action on a core, with the value that a read returns (12 R355). -/
def State.debugAct (s : State) (c : Fab) (act i a : Nat) (v : Word) : State × Option Word :=
  match act with
  | 0 => (s.attach c, none)
  | 1 => (s.letGo c, none)
  | 2 => ((s.modCore c fun k => { k with halted := true }).moved c, none)
  | 3 => (s.modCore c fun k => { k with halted := false, regs := [] }, none)
  | 4 => (s.moved c, none)
  | 5 => (s.modCore c fun k => { k with breaks := if a ∈ k.breaks then k.breaks else k.breaks ++ [a] }, none)
  | 6 => (s.modCore c fun k => { k with breaks := k.breaks.erase a }, none)
  | 7 => let x := s.debugRead c false i; (x.1, some x.2)
  | 8 => ((s.modCore c fun k => k.debugWrite false i v (s.freeBelow 16384)).useFree, none)
  | 9 => let x := s.debugRead c true a; (x.1, some x.2)
  | _ => ((s.modCore c fun k => k.debugWrite true a v (s.freeBelow 16384)).useFree, none)

/-- 0x048 CORE.DEBUG (12 R335, R336, R355). -/
def coreDebug : CmdSpec where
  opcode := 0x048
  lenOk := lenIs 2
  standby := true
  changes := fun r => !(r.fld 1 34 31 == 7 || r.fld 1 34 31 == 9)
  fields := fun r _ =>
    let act := r.fld 1 34 31
    [[fNeed 35 35 fun _ => r.path == .service, fNeed 34 31 (· ≤ 10), fNeed 30 29 (· == 0), fNeed 28 23 (· ≤ 31), fNeed 22 5 (· ≤ 163839)],
     if act = 7 ∨ act = 9 then [fTo 35 0 (fun _ => true) 0 4] else wAny]
  run := fun r s =>
    let c := r.dieBit
    let act := r.fld 1 34 31
    let code := debugCheck s c act
    if code ≠ .done then .fail s code
    else
      let x := s.debugAct c act (r.fld 1 28 23) (r.fld 1 22 5) (r.word 2)
      let k := x.1.core c
      { st := x.1
        payload := match x.2 with
          | some v => [v]
          | none => [pack [(35, 1, b1 k.halted), (17, 18, k.pc), (8, 9, k.replay.length)]] }

/-- Meaning of CORE_DEBUG. -/
def execCoreDebug (r : Req) (s : State) : Res := .next (mailbox coreDebug r s)

end Sys2Proof.Machine
end

