-- ==== Sys2Proof/Machine/Host.lean ====
section
/-! DEFINITION. The registers of the access paths: words, event registers, FIFO, the D0 window, SPI, service port and resets
(13 R356 to R384; 19 R546). -/

namespace Sys2Proof

/-- DIE of IDENTITY0 (13 R364). -/
def Path.dieField (p : Path) : Nat :=
  match p with | .pcieW0 | .pcieW1 => 1 | .pcieE0 | .pcieE1 => 2 | _ => 0

end Sys2Proof

namespace Sys2Proof.Machine

/-! ### Reading a register -/

/-- Whether an access path has registers of its own (13 R356, R364). -/
def hasRegs (p : Path) : Bool := p.isPcie || p == .spi

/-- Word `k` of a ring (13 R378). -/
def Ring.word (r : Ring) (k : Nat) : Word :=
  match k with
  | 0 => pack [(0, 32, r.baseLo)]
  | 1 => pack [(0, 32, r.baseHi)]
  | 2 => pack [(35, 1, b1 r.enable), (31, 4, r.size), (22, 9, r.bufSize), (12, 10, r.coalUs)]
  | _ => pack [(16, 16, r.tail), (0, 16, r.head)]

/-- A ring of a function. -/
def State.ring (s : State) (p : Path) (rx : Bool) (n : Nat) : Ring :=
  Tbl.get Ring.dflt (if rx then (s.path p).rx else (s.path p).tx) n

/-- Change a ring of a function. -/
def State.modRing (s : State) (p : Path) (rx : Bool) (n : Nat) (f : Ring → Ring) : State :=
  s.modPath p fun q => if rx then { q with rx := Tbl.upd Ring.dflt q.rx n f } else { q with tx := Tbl.upd Ring.dflt q.tx n f }

/-- The word of SEAL_STATUS (13 R365). -/
def SealSt.word (l : SealSt) : Word := pack [(30, 6, l.valid), (24, 6, l.mismatch), (0, 24, l.passSeq)]

/-- The device is awake (13 R359, R365; log 51). -/
def State.isAwake (s : State) : Bool := s.started && s.pow.mode != .asleep && s.pow.mode != .waking

/-- Word `k` of the D0 window, as a path reads it (13 R365). -/
def State.d0Word (s : State) (p : Path) (k : Nat) : Word :=
  match k with
  | 0 => pack [(35, 1, b1 (s.path p).posted.isSome), (34, 1, b1 s.isAwake)]
  | 1 => pack [(35, 1, b1 s.locks.policy)]
  | 2 => pack [(35, 1, b1 s.locks.sealLock), (0, 2, s.locks.reaction)]
  | 3 => pack [(35, 1, b1 s.locks.key)]
  | 4 => pack [(35, 1, b1 s.locks.power), (0, 16, s.locks.limit)]
  | 5 => s.sealSt.word
  | _ => 0

/-- A word of a path's map whose read changes nothing; an unassigned word reads 0 (13 R361, R362, R364). -/
def State.regWord (s : State) (p : Path) (idx : Nat) : Word :=
  let q := s.path p
  if 0xC00 ≤ idx then 0
  else if 0x800 ≤ idx then s.d0Word p (idx - 0x800)
  else if 0x400 ≤ idx ∧ idx < 0x500 then
    if p.isPcie then (s.ring p (decide (0x480 ≤ idx)) ((idx - 0x400) % 128 / 4)).word (idx % 4) else 0
  else if 0x28 ≤ idx ∧ idx ≤ 0x2B then pack [(0, 28, (q.ev (idx - 0x28)).mask)]
  else
    match idx with
    | 0x000 => pack [(20, 16, 0x3606), (12, 8, 0x10), (9, 3, p.dieField), (7, 2, s.sys.member), (6, 1, p.func)]
    | 0x001 => Config.uidWord 0
    | 0x002 => Config.uidWord 1
    | 0x003 =>
      pack [(35, 1, s.pair.active.bit), (32, 3, s.pair.mode.code), (31, 1, b1 s.started), (30, 1, b1 q.posted.isSome),
            (29, 1, b1 (s.sealSt.mismatch != 0))]
    | 0x011 =>
      pack [(35, 1, b1 (s.accepting && q.reqFree)), (30, 5, q.outstanding), (19, 11, q.fifo.length), (7, 12, q.popcnt)]
    | 0x013 => q.rspLast
    | 0x015 => pack [(25, 11, q.level)]
    | _ => 0

/-! ### Response FIFO -/

/-- The next response word leaves the FIFO: MBX_RSP_LAST takes it and POPCNT advances; an empty FIFO pops nothing (13 R372). -/
def PathSt.pop (q : PathSt) : PathSt × Word :=
  match q.fifo with
  | [] => (q, 0)
  | w :: rest =>
    ({ q with fifo := rest, rspLast := w, popcnt := (q.popcnt + 1) % 4096,
              left := if q.left = 0 then fld w 23 16 else q.left - 1 }, w)

/-- The rest of the response whose header was popped last is discarded (13 R372). -/
def PathSt.dropRest (q : PathSt) : PathSt := { q with fifo := q.fifo.drop q.left, left := 0 }

/-- Meaning of RESPONSE_FIFO_PLACE: the oldest held response fits and is placed; its request's buffers go back (13 R369). -/
def execResponseFifoPlace (p : Path) (s : State) : Res :=
  .next (
    match (s.path p).held with
    | [] => s
    | h :: rest =>
      if (s.path p).fifo.length + h.words.length ≤ 1024 then
        ((s.modPath p fun q => { q with held := rest }).freeBufs h.pend.bufs).fifoPut p h.words
      else s)

/-- A read of a word of a path, with the effects of the read: a pop, or a read of an event register (13 R357, R362, R372, R373). -/
def State.readWord (s : State) (p : Path) (idx : Nat) : State × Word :=
  if idx = 0x012 then (s.modPath p fun q => q.pop.1, (s.path p).pop.2)
  else if 0x20 ≤ idx ∧ idx ≤ 0x23 then
    (s.modPath p fun q => q.setEv (idx - 0x20) (q.ev (idx - 0x20)).read, ((s.path p).ev (idx - 0x20)).word)
  else (s, s.regWord p idx)

/-- Meaning of MBX_RSP_POP (13 R372). -/
def execMbxRspPop (p : Path) (s : State) : Res :=
  .next (if hasRegs p && s.pathUp p then (s.readWord p 0x012).1.emit (.regRead p (s.readWord p 0x012).2) else s)

/-- Meaning of EVT_READ: a whole read or a read at +0 is a read under 13 R373; a read at +4 returns the upper bits of the last one. -/
def execEvtRead (p : Path) (reg : Nat) (size : RdSize) (s : State) : Res :=
  .next (
    if hasRegs p && s.pathUp p && decide (reg ≤ 3) then
      match (if p = .spi then .whole else size) with
      | .high => s.emit (.regRead p (pack [(0, 4, ((s.path p).ev reg).upper)]))
      | .low => (s.readWord p (0x20 + reg)).1.emit (.regRead p (pack [(0, 32, (s.readWord p (0x20 + reg)).2.toNat)]))
      | .whole => (s.readWord p (0x20 + reg)).1.emit (.regRead p (s.readWord p (0x20 + reg)).2)
    else s)

/-! ### The D0 window -/

/-- Apply a posted write to a word of the D0 window; a locked register takes nothing and the write is logged (13 R365, R366; 00 R5). -/
def State.applyD0 (s : State) (p : Path) (k : Nat) (w : Word) : State :=
  let full (locked : Bool) (f : LockSt → LockSt) : State :=
    if locked then s.logLate p 4 (s.regAddr p (0x800 + k)) else s.modLocks f
  match k with
  | 1 => full s.locks.policy fun l => { l with policy := bit1 w 35 }
  | 2 => full s.locks.sealLock fun l => { l with sealLock := bit1 w 35, reaction := fld w 1 0 }
  | 3 => full s.locks.key fun l => { l with key := bit1 w 35 }
  | 4 => full s.locks.power fun l => { l with power := bit1 w 35, limit := fld w 15 0 }
  | _ => s

/-- Apply the posted write of one path, whose AO_BUSY clears (13 R363). -/
def State.applyPath (s : State) (p : Path) : State :=
  match (s.path p).posted with
  | none => s
  | some e => (s.modPath p fun q => { q with posted := none }).applyD0 p e.1 e.2

/-- The paths whose writes D0 applies at one edge, in their order (13 R363). -/
def postedOrder : List Path := [.pcieW0, .pcieW1, .pcieE0, .pcieE1, .spi]

/-- Tick of the next edge of the 32.768 kHz clock (13 R363). -/
def slowEdge (t : Nat) : Nat := ceilDiv ((t * 32768 / 312500000 + 1) * 312500000) 32768

/-- The next edge of the slow clock: every posted write is applied (13 R363). -/
def State.slowApply (s : State) : State := postedOrder.foldl State.applyPath (s.advTick (slowEdge s.tim.ticks))

/-- A write to the D0 window is posted, or discarded while AO_BUSY is 1 (13 R362, R363). -/
def State.post (s : State) (p : Path) (k : Nat) (w : Word) : State :=
  if 6 ≤ k then s.logLate p 1 (0x800 + k)
  else if (s.path p).posted.isSome then (s.raiseHost p .aoDiscard).logLate p 3 (s.regAddr p (0x800 + k))
  else s.modPath p fun q => { q with posted := some (k, w) }

/-! ### Writing a register -/

/-- A write of a ring's word (13 R378). -/
def State.writeRing (s : State) (p : Path) (rx : Bool) (n k : Nat) (w : Word) : State :=
  match k with
  | 0 => s.modRing p rx n fun r => { r with baseLo := fld w 31 6 * 64 }
  | 1 => s.modRing p rx n fun r => { r with baseHi := fld w 31 0 }
  | 2 =>
    let size := fld w 34 31
    let buf := fld w 30 22
    if bit1 w 35 then
      if size < 6 ∨ 12 < size ∨ (rx = true ∧ (buf < 4 ∨ 146 < buf)) then
        s.logLate p 5 (s.regAddr p ((if rx then 0x480 else 0x400) + 4 * n + 2))
      else s.modRing p rx n fun r => { r with enable := true, size := size, bufSize := buf, coalUs := fld w 21 12 }
    else s.modRing p rx n fun r =>
      { r with enable := false, size := size, bufSize := buf, coalUs := fld w 21 12, head := 0, tail := 0, uncovered := none }
  | _ => s.modRing p rx n fun r => { r with tail := fld w 31 16 }

/-- The request that a window spells (13 R367). -/
def PathSt.windowReq (q : PathSt) (p : Path) : Nat × Req :=
  let word (i : Nat) : Word := Tbl.get (fun _ => (0 : Word)) q.window i
  let h := word 0
  (fld h 35 24, { path := p, tag := fld h 15 8, flags := fld h 7 0, words := (List.range (fld h 23 16)).map fun i => word (i + 1) })

/-- A doorbell: the window is submitted; on SPI it is a wake request of kind "host" (13 R356, R368; 16 R488). -/
def State.doorbell (s : State) (p : Path) : State :=
  let s1 := if p = .spi ∧ s.pow.wake.spiWake then s.wakeSource { kind := 5 } else s
  let m := (s1.path p).windowReq p
  (s1.submit m.1 m.2).answerBad p 16

/-- A write commits a word of a path's map; one that fails enters the late-write log (13 R357, R361 to R364, R383). -/
def State.writeWord (s : State) (p : Path) (idx : Nat) (w : Word) : State :=
  let s1 := s.modPath p fun q => { q with writeTag := (q.writeTag + 1) % 65536 }
  if 0xC00 ≤ idx then s1.logLate p 1 (idx % 4096)
  else if 0x800 ≤ idx then s1.post p (idx - 0x800) w
  else if 0x100 ≤ idx ∧ idx < 0x200 then
    s1.modPath p fun q => { q with window := Tbl.put (fun _ => (0 : Word)) q.window (idx - 0x100) w }
  else if 0x400 ≤ idx ∧ idx < 0x500 ∧ p.isPcie then
    s1.writeRing p (decide (0x480 ≤ idx)) ((idx - 0x400) % 128 / 4) (idx % 4) w
  else if 0x20 ≤ idx ∧ idx ≤ 0x23 then
    s1.modPath p fun q => q.setEv (idx - 0x20) ((q.ev (idx - 0x20)).write (fld w 35 28))
  else if 0x28 ≤ idx ∧ idx ≤ 0x2B then
    s1.modPath p fun q => q.setEv (idx - 0x28) { q.ev (idx - 0x28) with mask := fld w 27 0 }
  else if idx = 0x010 then s1.doorbell p
  else if idx = 0x014 then s1.modPath p PathSt.dropRest
  else if idx = 0x015 then s1.modPath p fun q => { q with level := fld w 35 25 }
  else if idx ≤ 3 ∨ idx = 0x011 ∨ idx = 0x012 ∨ idx = 0x013 then s1
  else s1.logLate p 1 idx

/-- A write by a host: on PCIe 4 bytes at +0 take the holder as bits 35:32 and clear it; a path without registers, or whose link
is down, carries none (13 R357). -/
def State.hostWrite (s : State) (p : Path) (idx : Nat) (w : Word) (half : Bool) : State :=
  if hasRegs p && s.pathUp p then
    if half && p.isPcie then
      (s.modPath p fun q => { q with upper := 0 }).writeWord p idx (pack [(0, 32, w.toNat), (32, 4, (s.path p).upper)])
    else s.writeWord p idx w
  else s

/-- Meaning of UPPER_BITS_WRITE (13 R357). -/
def execUpperBitsWrite (p : Path) (v : Nat) (s : State) : Res :=
  .next (if p.isPcie && s.pathUp p then s.modPath p fun q => { q with upper := v % 16 } else s)

/-- Meaning of REGISTER_WRITE (13 R357, R361 to R364). -/
def execRegisterWrite (p : Path) (idx : Nat) (w : Word) (half : Bool) (s : State) : Res := .next (s.hostWrite p idx w half)

/-- Meaning of MBX_DOORBELL: the window of a path is submitted (13 R368). -/
def execMbxDoorbell (p : Path) (s : State) : Res := .next (s.hostWrite p 0x010 0 false)

/-- Meaning of MBX_RSP_DROP (13 R372). -/
def execMbxRspDrop (p : Path) (s : State) : Res := .next (s.hostWrite p 0x014 0 false)

/-- Meaning of EVT_WRITE (13 R373). -/
def execEvtWrite (p : Path) (reg : Nat) (w : Word) (s : State) : Res :=
  .next (if reg ≤ 3 then s.hostWrite p (0x20 + reg) w false else s)

/-- Meaning of D0_POSTED_WRITE_APPLY: the clock runs to the next slow edge (13 R363). -/
def execD0PostedWriteApply (s : State) : Res := .next s.slowApply

/-- Meaning of POLICY_LOCK_SET: the write to POLICY is posted and applied at the next slow edge (13 R363, R365). -/
def execPolicyLockSet (p : Path) (w : Word) (s : State) : Res := .next (s.hostWrite p 0x801 w false).slowApply

/-- Meaning of SEAL_LOCK_SET (13 R363, R365). -/
def execSealLockSet (p : Path) (w : Word) (s : State) : Res := .next (s.hostWrite p 0x802 w false).slowApply

/-- Meaning of KEY_LOCK_SET (13 R363, R365). -/
def execKeyLockSet (p : Path) (w : Word) (s : State) : Res := .next (s.hostWrite p 0x803 w false).slowApply

/-- Meaning of POWER_LIMIT_LOCK_SET (13 R363, R365). -/
def execPowerLimitLockSet (p : Path) (w : Word) (s : State) : Res := .next (s.hostWrite p 0x804 w false).slowApply

/-- Meaning of RING_CTRL_WRITE (13 R378). -/
def execRingCtrlWrite (p : Path) (rx : Bool) (n : Nat) (w : Word) (s : State) : Res :=
  .next (if n < 32 then s.hostWrite p ((if rx then 0x480 else 0x400) + 4 * n + 2) w false else s)

/-- Meaning of RING_TAIL_WRITE (13 R378). -/
def execRingTailWrite (p : Path) (rx : Bool) (n : Nat) (w : Word) (s : State) : Res :=
  .next (if n < 32 then s.hostWrite p ((if rx then 0x480 else 0x400) + 4 * n + 3) w false else s)

/-! ### SPI -/

/-- An unmasked flag of the SPI instance is set, so that SPI_INT is driven low (13 R359). -/
def State.spiInt (s : State) : Bool :=
  (List.range 4).any fun n => Nat.land ((s.path .spi).ev n).flags ((s.path .spi).ev n).mask != 0

/-- The status byte (13 R359). -/
def State.spiStatus (s : State) : Byte :=
  BitVec.ofNat 8 (b1 s.isAwake * 128 + b1 (s.path .spi).posted.isSome * 64 + b1 (!(s.path .spi).fifo.isEmpty) * 32 +
    b1 s.spiInt * 16 + b1 s.host.spiT.lastErr * 8)

/-- A transaction that failed or was ignored (13 R359). -/
def State.spiErr (s : State) (b : Bool) : State := s.modHost fun h => { h with spiT := { h.spiT with lastErr := b } }

/-- The words that 5-byte groups write, from index `i` on; a partial word is discarded (13 R359). -/
def State.spiWrite (s : State) (i : Nat) : List Byte → State
  | b0 :: b1 :: b2 :: b3 :: b4 :: rest =>
    (s.hostWrite .spi i (w36 (beVal [b0, b1, b2, b3, b4])) false).spiWrite (i + 1) rest
  | _ => s

/-- The words that `n` groups read, from index `i` on; a word is read when its first byte is returned (13 R359; log 52). -/
def State.spiRead (s : State) (i : Nat) : Nat → State × List Byte
  | 0 => (s, [])
  | n + 1 =>
    let x := s.readWord .spi i
    let y := x.1.spiRead (i + 1) n
    (y.1, wordBytes5 x.2 ++ y.2)

/-- Meaning of SPI_TRANSACTION: the bytes that the controller sends while chip select is low (13 R359). -/
def execSpiTransaction (bytes : List Byte) (s : State) : Res :=
  .next (
    match bytes with
    | [] => s
    | c :: rest =>
      let st := s.spiStatus
      let s0 := s.spiErr false
      let zeros (n : Nat) : List Byte := List.replicate n 0
      let idx := beVal (rest.take 2)
      let ok := (c == 0x0B || c == 0x02) && decide (idx < 0x1000)
      if !ok then (s0.spiErr true).emit (.spiBytes (st :: zeros rest.length))
      else if rest.length < 2 then s0.emit (.spiBytes (st :: zeros rest.length))
      else if c = 0x02 then (s0.spiWrite idx (rest.drop 2)).emit (.spiBytes (st :: zeros rest.length))
      else
        let n := rest.length - 3
        let x := s0.spiRead idx (ceilDiv n 5)
        x.1.emit (.spiBytes (st :: zeros (min 3 rest.length) ++ x.2.take n)))

/-! ### Service port -/

/-- The words of a service-port message (13 R360). -/
def serviceWords (n : Nat) (bs : List Byte) : List Word := (List.range n).map fun i => w36 (beVal (slice bs (5 * i) 5))

/-- A request of the service port: a repeat sends the stored response again (13 R360). -/
def State.serviceRequest (s : State) (mac sq : Nat) (ws : List Word) : State :=
  let h := ws.headD 0
  if s.host.svcT.lastSeq = some sq then
    if s.host.svcT.stored.isEmpty then s else s.emit (.service 2 sq s.host.svcT.stored)
  else if fld h 23 16 + 1 ≠ ws.length then s
  else
    let s1 := s.modHost fun h => { h with svcT := { lastSeq := some sq, mac := mac, stored := [] } }
    (s1.submit (fld h 35 24) { path := .service, tag := fld h 15 8, flags := fld h 7 0, words := ws.drop 1 }).answerBad .service 16

/-- An event clear of the service port: four sequence values (13 R360, R373). -/
def PathSt.clearBy (q : PathSt) (ws : List Word) : PathSt :=
  { q with evHost := q.evHost.write (fld (ws.getD 0 0) 35 28), evWest := q.evWest.write (fld (ws.getD 1 0) 35 28),
           evEast := q.evEast.write (fld (ws.getD 2 0) 35 28), evDev := q.evDev.write (fld (ws.getD 3 0) 35 28) }

/-- Meaning of SERVICE_FRAME_RX: a frame at the service port, from its destination address to its FCS; one that is no message
for the device is ignored (13 R360; log 53). -/
def execServiceFrameRx (bytes : List Byte) (s : State) : Res :=
  .next (
    let n := beVal (slice bytes 16 2)
    if s.domOn 3 && fcsRight bytes && dmacOf bytes == s.img.baseMac + 2 && typeOf bytes == 0x88B5 && decide (1 ≤ n) && decide (n ≤ 256) &&
        decide (18 + 5 * n + 4 ≤ bytes.length) then
      let ws := serviceWords n (bytes.drop 18)
      match (byteAt bytes 14).toNat with
      | 1 => s.serviceRequest (beVal (slice bytes 6 6)) (byteAt bytes 15).toNat ws
      | 4 => if n = 4 then s.modPath .service fun q => q.clearBy ws else s
      | _ => s
    else s)

/-- Meaning of SERVICE_PORT_LINK_DOWN: any depot session ends (15 R442). -/
def execServicePortLinkDown (s : State) : Res := .next s.endSession

/-! ### Resets and links of PCIe -/

/-- Meaning of FUNCTION_LEVEL_RESET (13 R382; 15 R440). -/
def execFunctionLevelReset (p : Path) (s : State) : Res :=
  .next (
    if p.isPcie then
      let stop (t : Tbl Ring) : Tbl Ring :=
        Tbl.remap Ring.dflt (fun r => { r with enable := false, head := 0, tail := 0, uncovered := none }) t
      let s1 := (s.path p).held.foldl (fun s h => s.freeBufs h.pend.bufs) s
      let s2 := s1.modPath p fun q =>
        { q with upper := 0, window := [], fifo := [], left := 0, evHost := {}, evWest := {}, evEast := {}, evDev := {}, lateLog := [],
                 held := [], running := q.running.map fun k => { k with pend := { k.pend with drop := true } },
                 tx := stop q.tx, rx := stop q.rx }
      let s3 := s2.modHost fun h => { h with delivering := h.delivering.filter fun x => x.path != p }
      s3.modKey fun k => { k with lock := match k.lock with | some l => if l.path = p then none else some l | none => none }
    else s)

/-- Meaning of PERST_N_RELEASE: honoured only while the SerDes domain is ON (19 R546). -/
def execPerstNRelease (die : Fab) (s : State) : Res :=
  .next (
    match die with
    | .west => if s.domOn 6 ∧ s.host.pcieW = false then s.modHost fun h => { h with trainW := true } else s
    | .east => if s.domOn 9 ∧ s.host.pcieE = false then s.modHost fun h => { h with trainE := true } else s)

/-- Meaning of PCIE_LINK_CHANGE: the link of an endpoint comes up, while its SerDes domain is ON, or goes down (16 R460). -/
def execPcieLinkChange (die : Fab) (up : Bool) (s : State) : Res :=
  .next (
    match die with
    | .west => s.modHost fun h => { h with pcieW := up && s.domOn 6, trainW := h.trainW && !up }
    | .east => s.modHost fun h => { h with pcieE := up && s.domOn 9, trainE := h.trainE && !up })

/-! ### Failures -/

/-- Meaning of LATE_WRITE_FAIL: an internal write of a path fails (13 R383, R384). -/
def execLateWriteFail (p : Path) (reason addr : Nat) (s : State) : Res :=
  .next (if hasRegs p && decide (1 ≤ reason ∧ reason ≤ 8) then s.logLate p reason (addr % 2 ^ 32) else s)

/-- Meaning of FIFO_POINTER_FAULT: the FIFO is emptied and the fault logged (13 R372; 18 R523, R556). -/
def execFifoPointerFault (f : FifoRef) (s : State) : Res :=
  .next (
    match f with
    | .path p n =>
      if p.isHost then
        ((s.modPath p fun q => { q with fifo := [], left := 0 }).raiseHost p .fifoReset).logFault 0x0B p.dieField n
      else s
    | .die d n =>
      let s1 := if d = 1 then s.raiseDie .west .fifoFault else if d = 2 then s.raiseDie .east .fifoFault else s
      if d ≤ 5 then s1.logFault 0x0B d n else s)

/-! ### DMA rings -/

/-- A completed descriptor: its vector now, or when COAL_US has passed (13 R381). -/
def State.ringVector (s : State) (p : Path) (rx : Bool) (n : Nat) : State :=
  let r := s.ring p rx n
  if r.coalUs = 0 then s.emit (.msix p (8 + n))
  else if r.uncovered.isSome then s
  else s.modRing p rx n fun r => { r with uncovered := some s.tim.ticks }

/-- Meaning of RING_COALESCE_EXPIRY (13 R381). -/
def execRingCoalesceExpiry (p : Path) (rx : Bool) (n : Nat) (s : State) : Res :=
  .next (
    match (s.ring p rx n).uncovered with
    | none => s
    | some t =>
      ((s.advTick (t + ticksUs (s.ring p rx n).coalUs)).modRing p rx n fun r => { r with uncovered := none }).emit (.msix p (8 + n)))

/-- The two functions of a fabric die. -/
def functionsOf (d : Fab) : Path × Path := match d with | .west => (.pcieW0, .pcieW1) | .east => (.pcieE0, .pcieE1)

/-- Place `k` of the round robin over the transmit rings of a die: function k / 32, ring k mod 32. -/
def placePath (d : Fab) (k : Nat) : Path := if k < 32 then (functionsOf d).1 else (functionsOf d).2

/-- The next enabled transmit ring with a descriptor, after the one served last (13 R379). -/
def State.nextTx (s : State) (d : Fab) : Option Nat :=
  let last := match d with | .west => s.host.txTurnW | .east => s.host.txTurnE
  ((List.range 64).map fun i => (last + 1 + i) % 64).find? fun k =>
    (s.ring (placePath d k) false (k % 32)).enable && (s.ring (placePath d k) false (k % 32)).tail != (s.ring (placePath d k) false (k % 32)).head

/-- Meaning of TX_RING_FRAME, `dt` ticks after the last command: LENGTH of the descriptor, the bytes read, and whether a read
completed in error (13 R379). -/
def execTxRingFrame (die : Fab) (length : Nat) (bytes : List Byte) (err : Bool) (dt : Nat) (s : State) : Res :=
  .next (
    if s.started && s.pathUp (functionsOf die).1 then
      match s.nextTx die with
      | none => s
      | some k =>
        let p := placePath die k
        let n := k % 32
        let i := (s.ring p false n).head
        let s0 := (s.adv dt).modHost fun h => match die with | .west => { h with txTurnW := k } | .east => { h with txTurnE := k }
        if err ∨ length < 60 ∨ 9212 < length then
          let s1 := s0.modRing p false n fun r => { r with head := (i + 1) % 65536, errors := sat36 r.errors 1 }
          (((s1.emit (.txDesc p n i 3)).raiseHost p .ringError).satRaise (s.ring p false n).errors 1 fun t => t.raiseDie die .countSat).ringVector p false n
        else
          let body := (bytes ++ List.replicate length 0).take length
          let s1 := s0.stage (28 + die.bit) (body ++ fcsOf body) false {}
          let s2 := s1.modRing p false n fun r =>
            { r with head := (i + 1) % 65536, frames := add72 r.frames 1, octets := add72 r.octets (length + 4) }
          (s2.emit (.txDesc p n i 1)).ringVector p false n
    else s)

/-- Meaning of RX_RING_DELIVERY, `dt` ticks after the last command: the oldest frame that has left the host port of a die is
written to its ring (13 R380). -/
def execRxRingDelivery (die : Fab) (dt : Nat) (s : State) : Res :=
  .next (
    match s.host.delivering.find? fun x => x.path = (functionsOf die).1 ∨ x.path = (functionsOf die).2 with
    | none => s
    | some x =>
      let r := s.ring x.path true x.ring
      let s0 := (s.adv dt).modHost fun h => { h with delivering := h.delivering.erase x }
      if r.enable = false ∨ r.head = r.tail then s0
      else
        let room := 64 * r.bufSize - 64
        let trunc := decide (room < x.bytes.length)
        let s1 := s0.modRing x.path true x.ring fun r =>
          { r with head := (r.head + 1) % 65536, frames := add72 r.frames 1, octets := add72 r.octets x.bytes.length,
                   errors := if trunc then sat36 r.errors 1 else r.errors }
        let s2 := s1.emit (.rxBuffer x.path x.ring r.head x.desc (x.bytes.take room) x.bytes.length (1 + 2 * b1 trunc))
        let s3 := if trunc then
            (s2.raiseHost x.path .ringError).satRaise r.errors 1 fun t => t.raiseDie die .countSat
          else s2
        s3.ringVector x.path true x.ring)

/-! ### The seal -/

/-- The words of a SEAL.COMMIT response (13 R389). -/
def SealSt.refs (l : SealSt) (mask : Nat) : List Word :=
  (List.range 6).map fun d => if inMask mask d then pack [(0, 32, Tbl.get zeroAt l.refCrc d)] else 0

/-- The reaction to a mismatch of a die: event and log entry, and REACTION 0b10 disables the die's front ports (13 R377). -/
def State.sealReact (s : State) (d : Nat) : State :=
  let s1 := (s.raiseDev .sealMismatch).logFault 0x0D d 0
  if s1.locks.reaction = 2 ∧ 1 ≤ d ∧ d ≤ 4 then
    let s2 := s1.modSeal fun l => { l with shut := setMask l.shut d true }
    (portsOf (if d % 2 = 1 then .west else .east)).foldl State.disablePort s2
  else s1

/-- Meaning of SEAL_PASS_END: a die's scanner completes a pass with this CRC (13 R376, R377, R389; log 54). -/
def execSealPassEnd (die crc : Nat) (s : State) : Res :=
  .next (
    if die ≤ 5 ∧ s.has die then
      let c := crc % 2 ^ 32
      let s0 := s.modSeal fun l =>
        { l with lastCrc := Tbl.put zeroAt l.lastCrc die c, passSeq := if die = 1 then (l.passSeq + 1) % 2 ^ 24 else l.passSeq }
      if s.sealSt.commit.contains die then
        let s1 := s0.modSeal fun l =>
          { l with refCrc := Tbl.put zeroAt l.refCrc die c, valid := setMask l.valid die true, mismatch := setMask l.mismatch die false,
                   commit := l.commit.filter fun x => x != die }
        if s1.sealSt.commit.isEmpty then
          match s1.sealSt.commitOf with
          | some (p, m) => (s1.modSeal fun l => { l with commitOf := none }).finish p .done (s1.sealSt.refs m) []
          | none => s1
        else s1
      else if inMask s.sealSt.valid die then
        if c = Tbl.get zeroAt s.sealSt.refCrc die then
          if s.locks.reaction = 1 then s0.modSeal fun l => { l with mismatch := setMask l.mismatch die false } else s0
        else (s0.modSeal fun l => { l with mismatch := setMask l.mismatch die true }).sealReact die
      else s0
    else s)

end Sys2Proof.Machine
end

