-- ==== Sys2Proof/Machine/KeyCmds.lean ====
section
/-! DEFINITION. The KEY and CIPHER commands (15 R442 to R456). -/

namespace Sys2Proof.Machine

open Sys2Proof.Crypto

/-- A request within a depot session (15 R442). -/
def State.inSession (s : State) (r : Req) : Bool := r.path == .service && s.key.session.isSome

/-- LOCKED of the key commands while the KEY lock is set, but from a depot session (15 R443). -/
def keyCmdLocked : Req → State → Bool := fun r s => s.locks.key && !s.inSession r

/-- A measurement as 12 words (15 R445). -/
def measWords (m : List Byte) : List Word := (List.range 12).map fun i => w36 (beVal (slice m (4 * i) 4))

/-- 0x0A1 KEY.STATUS_READ (15 R445). -/
def keyStatusRead : CmdSpec where
  opcode := 0x0A1
  lenOk := lenIs 0
  changes := fun _ => false
  run := fun _ s =>
    let k := s.key
    let used := (k.slots.filter fun e => userSlot e.1 && e.2.valid).length
    { st := s
      payload :=
        [pack [(35, 1, b1 s.keyed), (34, 1, b1 k.bkFlag), (33, 1, b1 k.vbat), (32, 1, b1 k.session.isSome), (24, 8, used)], w36 s.keyId] ++
          measWords (k.meas s.pair.active) ++ measWords (k.meas s.standby) }

/-- Meaning of KEY_STATUS_READ. -/
def execKeyStatusRead (r : Req) (s : State) : Res := .next (mailbox keyStatusRead r s)

/-! ### Provisioning -/

/-- A new root secret from the random source, a free value (15 R444; log 2, log 45). -/
def State.newRoot (s : State) : State :=
  (s.modKey fun k => { k with rs := some (beBytes 48 (s.freeBelow (2 ^ 384))), bkFlag := false }).useFree

/-- 0x0A2 KEY.PROVISION (15 R444, R446; 18 R521). -/
def keyProvision : CmdSpec where
  opcode := 0x0A2
  lenOk := lenIs 1
  busy := fun _ s => !s.tokenFree 1 0
  fields := fun r s => [[fNeed 35 35 fun _ => s.inSession r && s.img.mode == .idle && !s.key.vbat]]
  run := fun r s =>
    let s1 := (s.takeToken 1 0).zeroize
    let s2 := if r.bit 1 35 then s1 else s1.newRoot
    let s3 := (s2.clearBlobs s2.img.runSlot fun _ => true).dropToken 1 0
    { st := s3, payload := [w36 s3.keyId] }

/-- Meaning of KEY_PROVISION. -/
def execKeyProvision (r : Req) (s : State) : Res := .next (mailbox keyProvision r s)

/-! ### Creating keys -/

/-- LEN as used: a value other than 8 or 12, and 12 with a use other than DERIVE, is 8 (15 R447). -/
def keyLen (r : Req) : Nat := if r.fld 1 20 17 = 12 ∧ r.fld 1 23 21 = 3 then 12 else 8

/-- Word 1 of the commands that create a key; `kind` is 0 GENERATE, 1 IMPORT, 2 DERIVE (15 R447). -/
def keyWord (kind : Nat) (r : Req) (s : State) : List Fld :=
  let form := kind = 1 ∧ r.bit 1 14
  let src := s.keySlot (r.fld 1 13 2)
  [fNeed 35 24 fun h => userSlot h && !(s.slot h).valid,
   fNeed 23 21 (· ≤ 3),
   { hi := 20, lo := 17, clamp := fun v => if v ≠ keyLen r then some (keyLen r, if v = 12 then 5 else if v < 8 then 1 else 2) else none },
   fAny 16 16, fAny 15 15,
   if kind = 1 then fNeed 14 14 (fun v => v == 1 || s.inSession r) else fTo 14 14 (fun _ => true) 0 4,
   if form then fNeed 13 2 fun _ => src.valid && src.use == 2
   else if kind = 2 then fNeed 13 2 fun h => h != 0 && src.valid && src.use == 3
   else fTo 13 2 (fun _ => true) 0 4,
   if kind = 2 then fNeed 1 1 fun v => v == 0 || src.len != 12 else fTo 1 1 (fun _ => true) 0 4]

/-- The key of a command enters its slot, with its blob when PERSIST is 1 and a user slot runs (15 R434, R447). -/
def State.makeKey (s : State) (r : Req) (k : KeySlot) : Reply :=
  let h := r.fld 1 35 24
  let store (t : State) (k : KeySlot) : Reply := { st := t.setSlot h k, payload := [k.attr h] }
  match s.key.rs with
  | some rs =>
    if r.bit 1 15 ∧ s.img.runSlot ≠ 2 then
      let k1 := { k with persisted := true }
      match s.appendBlobs s.img.runSlot (blobWords (bkOf rs (s.key.meas s.pair.active)) h k1) with
      | some t => store t k1
      | none => .fail s .noSpace
    else store s k
  | none => store s k

/-- A slot as a command's word 1 describes it (15 R430, R447). -/
def slotOf (r : Req) (origin parent : Nat) (key : List Byte) : KeySlot :=
  { valid := true, use := r.fld 1 23 21, len := keyLen r, wrappable := r.bit 1 16, origin := origin, parent := parent, key := key }

/-- PERSIST is BUSY while an update is under way (15 R447). -/
def persistBusy : Req → State → Bool := fun r s => r.bit 1 15 && s.img.mode != .idle

/-- 0x0A3 KEY.GENERATE (15 R447; the key is a free value, log 2). -/
def keyGenerate : CmdSpec where
  opcode := 0x0A3
  lenOk := lenIs 1
  locked := keyCmdLocked
  unkeyed := needsKeys
  busy := persistBusy
  fields := fun r s => [keyWord 0 r s]
  run := fun r s => (s.useFree).makeKey r (slotOf r 0 0 (beBytes (4 * keyLen r) (s.freeBelow (2 ^ (32 * keyLen r)))))

/-- Meaning of KEY_GENERATE. -/
def execKeyGenerate (r : Req) (s : State) : Res := .next (mailbox keyGenerate r s)

/-- Bytes of 32-bit words. -/
def bytes32 (ws : List Word) : List Byte := (ws.map fun w => beBytes 4 (fld w 31 0)).flatten

/-- 0x0A4 KEY.IMPORT (15 R447). -/
def keyImport : CmdSpec where
  opcode := 0x0A4
  lenOk := fun n => decide (9 ≤ n ∧ n ≤ 15)
  lenReq := fun r => r.words.length == (if r.bit 1 14 then 3 else 1) + keyLen r
  locked := keyCmdLocked
  unkeyed := needsKeys
  busy := persistBusy
  fields := fun r s => keyWord 1 r s :: (r.words.drop 1).map fun _ => [fAny 31 0]
  run := fun r s =>
    let body := bytes32 (r.words.drop 1)
    if r.bit 1 14 then
      match kwUnwrap (s.keySlot (r.fld 1 13 2)).key body with
      | some k => s.makeKey r (slotOf r 1 (r.fld 1 13 2) k)
      | none => .fail s .refused
    else s.makeKey r (slotOf r 1 0 body)

/-- Meaning of KEY_IMPORT. -/
def execKeyImport (r : Req) (s : State) : Res := .next (mailbox keyImport r s)

/-- 0x0A5 KEY.DERIVE (15 R432, R447). -/
def keyDerive : CmdSpec where
  opcode := 0x0A5
  lenOk := fun n => decide (3 ≤ n ∧ n ≤ 34)
  lenReq := fun r => r.words.length == 2 + ceilDiv (r.fld 2 35 28 + r.fld 2 27 20) 4
  locked := keyCmdLocked
  unkeyed := needsKeys
  busy := persistBusy
  fields := fun r s =>
    keyWord 2 r s :: [fNeed 35 28 fun v => decide (1 ≤ v ∧ v ≤ 64), fNeed 27 20 (· ≤ 64)] :: (r.words.drop 2).map fun _ => [fAny 31 0]
  run := fun r s =>
    let body := bytes32 (r.words.drop 2)
    let label := body.take (r.fld 2 35 28)
    let ctx := slice body (r.fld 2 35 28) (r.fld 2 27 20)
    let h := r.fld 1 13 2
    if label.take 3 = ascii "NF-" then .fail s .refused
    else s.makeKey r (slotOf r 2 h (kdf (r.bit 1 1) (s.keySlot h).key label ctx (4 * keyLen r)))

/-- Meaning of KEY_DERIVE. -/
def execKeyDerive (r : Req) (s : State) : Res := .next (mailbox keyDerive r s)

/-- 0x0A6 KEY.DELETE (15 R434, R440, R448). -/
def keyDelete : CmdSpec where
  opcode := 0x0A6
  lenOk := lenIs 1
  locked := keyCmdLocked
  unkeyed := needsKeys
  fields := fun _ s =>
    [[fNeed 35 24 fun h => userSlot h && (s.slot h).valid &&
        !(s.ports.any fun p => match p.2.secy.mka with | some m => m.handle == h | none => false)]]
  run := fun r s =>
    let h := r.fld 1 35 24
    { st := ((s.setSlot h {}).clearBlobs s.img.runSlot (· == h)).modKey fun k =>
        { k with lock := match k.lock with | some l => if l.handle = h then none else some l | none => none } }

/-- Meaning of KEY_DELETE. -/
def execKeyDelete (r : Req) (s : State) : Res := .next (mailbox keyDelete r s)

/-- 0x0A7 KEY.INFO_READ (15 R449). -/
def keyInfoRead : CmdSpec where
  opcode := 0x0A7
  lenOk := lenIs 1
  changes := fun _ => false
  unkeyed := needsKeys
  fields := fun _ _ => [[fNeed 35 24 (· ≤ 0xFF)]]
  run := fun r s =>
    let h := r.fld 1 35 24
    let k := s.keySlot h
    { st := s
      payload := [k.attr h, if k.valid ∧ k.use ≤ 1 then pack [(12, 24, beVal ((aesEnc k.key (List.replicate 16 0)).take 3))] else 0] }

/-- Meaning of KEY_INFO_READ. -/
def execKeyInfoRead (r : Req) (s : State) : Res := .next (mailbox keyInfoRead r s)

/-! ### Tamper settings and log -/

/-- Settings of a source in force (15 R450). -/
def State.tamperCfg (s : State) (k : Nat) : TamperCfg := Tbl.get TamperCfg.dflt s.key.tamper k

/-- 0x0A8 KEY.TAMPER_WRITE (15 R443, R450). -/
def keyTamperWrite : CmdSpec where
  opcode := 0x0A8
  lenOk := lenIs 1
  locked := keyCmdLocked
  fields := fun r s =>
    let k := r.fld 1 35 32
    let pin := k = 1 ∨ k = 2
    let free := s.inSession r || r.path == .image
    [[fNeed 35 32 fun v => decide (1 ≤ v ∧ v ≤ 7),
      { hi := 31, lo := 30, clamp := fun v => if v = 3 then some (1, 2) else none,
        bad := fun v => !free && decide ((if v = 3 then 1 else v) < (s.tamperCfg k).action) },
      if 5 ≤ k then fTo 29 29 (fun _ => true) 0 4 else fAny 29 29,
      if pin then fAny 28 28 else fTo 28 28 (fun _ => true) 0 4,
      if pin then fMin 27 20 1 else fTo 27 20 (fun _ => true) 0 4]]
  run := fun r s =>
    let c : TamperCfg := { action := r.fld 1 31 30, wake := r.bit 1 29, pol := r.fld 1 28 28, filter := r.fld 1 27 20 }
    { st := s.modKey fun y => { y with tamper := Tbl.put TamperCfg.dflt y.tamper (r.fld 1 35 32) c } }

/-- Meaning of KEY_TAMPER_WRITE. -/
def execKeyTamperWrite (r : Req) (s : State) : Res := .next (mailbox keyTamperWrite r s)

/-- An entry of the tamper log (15 R439). -/
def TamperRec.words (e : TamperRec) : List Word :=
  [pack [(32, 4, e.source), (30, 2, e.phase), (28, 2, e.action), (27, 1, b1 e.aborted)], pack [(0, 32, e.secs)], w36 e.time]

/-- 0x0A9 KEY.TAMPER_READ (15 R451). -/
def keyTamperRead : CmdSpec where
  opcode := 0x0A9
  lenOk := lenIs 1
  changes := fun r => r.bit 1 35 && r.bit 1 34
  fields := fun r s => [[fAny 35 35, if s.inSession r then fAny 34 34 else fTo 34 34 (fun _ => true) 0 5]]
  run := fun r s =>
    if r.bit 1 35 then
      { st := if r.bit 1 34 then s.modKey fun k => { k with tlog := [] } else s
        payload := [w36 s.key.ttotal, pack [(30, 6, s.key.tlog.length)]] ++ (s.key.tlog.map TamperRec.words).flatten }
    else
      { st := s
        payload := ([1, 2, 3, 4, 5, 6, 7] : List Nat).map fun k =>
          let c := s.tamperCfg k
          pack [(32, 4, k), (30, 2, c.action), (29, 1, b1 c.wake), (28, 1, c.pol), (20, 8, c.filter)] }

/-- Meaning of KEY_TAMPER_READ. -/
def execKeyTamperRead (r : Req) (s : State) : Res := .next (mailbox keyTamperRead r s)

/-! ### Verifier slots and sessions -/

/-- A VALID, unrevoked verifier slot with the DEPOT role (15 R424, R442). -/
def KeySt.depotSlot (k : KeySt) (v : Nat) : Bool :=
  !inMask k.vRevoked v && (decide (v ≤ 1) || (decide (v ≤ 3) && inMask k.vValid (v - 2) && inMask k.vRole (2 * (v - 2) + 1)))

/-- Whether KEY.VERIFIER_WRITE is refused (15 R452). -/
def State.verifierBad (s : State) (r : Req) : Bool :=
  let v := r.fld 1 34 33
  let role := r.fld 1 32 31
  decide (v ≤ 1) || role == 0 || !s.inSession r ||
    (if r.bit 1 35 then
      s.key.signers.contains v || (s.key.depotSlot v && ((List.range 4).filter s.key.depotSlot).length == 1)
    else inMask s.key.vValid (v - 2))

/-- 0x0AA KEY.VERIFIER_WRITE (15 R424, R452). -/
def keyVerifierWrite : CmdSpec where
  opcode := 0x0AA
  lenOk := fun n => n == 1 || n == 13
  lenReq := fun r => r.words.length == if r.bit 1 35 then 1 else 13
  fields := fun r s => [fAny 35 35, fNeed 34 33 fun _ => !s.verifierBad r, fAny 32 31] :: (r.words.drop 1).map fun _ => [fAny 31 0]
  run := fun r s =>
    let v := r.fld 1 34 33
    let b := v - 2
    { st := s.modKey fun k =>
        if r.bit 1 35 then { k with vRevoked := setMask k.vRevoked v true }
        else
          { k with vValid := setMask k.vValid b true,
                   vRole := setMask (setMask k.vRole (2 * b) (r.bit 1 32)) (2 * b + 1) (r.bit 1 31),
                   vHash := Tbl.put zeroAt k.vHash v (val32 (r.words.drop 1)) } }

/-- Meaning of KEY_VERIFIER_WRITE. -/
def execKeyVerifierWrite (r : Req) (s : State) : Res := .next (mailbox keyVerifierWrite r s)

/-- The digest that a tool signs to open a session (15 R442). -/
def State.sessionDigest (s : State) (nonce : Nat) : List Byte :=
  sha384 (ascii "NF-DEPOT" ++ uidBytes ++ beBytes 32 nonce ++ beBytes 6 s.host.svcT.mac)

/-- An OPEN fails: 8 failures within one hour begin the lock-out (15 R442). -/
def State.openFails (s : State) : State :=
  s.modKey fun k =>
    let l := (k.fails.filter fun t => decide (s.tim.ticks < t + ticksS 3600)) ++ [s.tim.ticks]
    { k with nonce := none, fails := l, lockout := if 8 ≤ l.length then l.head? else k.lockout }

/-- 0x0AB KEY.SESSION (15 R442, R453). -/
def keySession : CmdSpec where
  opcode := 0x0AB
  lenOk := fun n => n == 1 || n == 25
  lenReq := fun r => r.words.length == if r.fld 1 35 34 = 1 then 25 else 1
  busy := fun r s => r.fld 1 35 34 == 0 && s.key.lockout.isSome
  fields := fun r _ => [fNeed 35 34 fun a => a != 3 && r.path == .service] :: (r.words.drop 1).map fun _ => [fAny 31 0]
  run := fun r s =>
    match r.fld 1 35 34 with
    | 0 =>
      let n := s.freeBelow (2 ^ 256)
      { st := (s.modKey fun k => { k with nonce := some (n, s.tim.ticks) }).useFree
        payload := (List.range 8).map fun i => pack [(0, 32, n / 2 ^ (32 * (7 - i)))] }
    | 1 =>
      match s.key.nonce with
      | none => .fail s .refused
      | some n =>
        let rr := val32 ((r.words.drop 1).take 12)
        let ss := val32 (r.words.drop 13)
        match (List.range 4).find? fun v => s.key.depotSlot v && verifies rr ss (s.sessionDigest n.1) (s.key.vhash v) with
        | some v =>
          { st := s.modKey fun k => { k with nonce := none, session := some s.host.svcT.mac, sessionAt := s.tim.ticks }
            payload := [pack [(34, 2, v)]] }
        | none => { st := s.openFails, code := .refused, keep := true }
    | _ => { st := s.endSession }

/-- Meaning of KEY_SESSION. -/
def execKeySession (r : Req) (s : State) : Res := .next (mailbox keySession r s)

/-! ### CIPHER commands -/

/-- 0x0C1 CIPHER.LOCK (15 R440, R454). -/
def cipherLock : CmdSpec where
  opcode := 0x0C1
  lenOk := lenIs 1
  unkeyed := needsKeys
  busy := fun _ s => s.key.lock.isSome
  fields := fun r s =>
    let k := s.keySlot (r.fld 1 35 24)
    [[fNeed 35 24 fun _ => k.valid && k.use == r.fld 1 23 23, fAny 23 23]]
  run := fun r s =>
    { st := s.modKey fun k =>
        { k with lock := some { path := r.path, handle := r.fld 1 35 24, decrypt := r.bit 1 23, usedAt := s.tim.ticks } } }

/-- Meaning of CIPHER_LOCK. -/
def execCipherLock (r : Req) (s : State) : Res := .next (mailbox cipherLock r s)

/-- 0x0C2 CIPHER.BLOCK (15 R441, R455). -/
def cipherBlock : CmdSpec where
  opcode := 0x0C2
  lenOk := fun n => decide (5 ≤ n ∧ n ≤ 65)
  lenReq := fun r => decide (1 ≤ r.fld 1 35 31 ∧ r.fld 1 35 31 ≤ 16) && r.words.length == 1 + 4 * r.fld 1 35 31
  unkeyed := needsKeys
  run := fun r s =>
    match s.key.lock with
    | none => .fail s .notOwner
    | some l =>
      if l.path ≠ r.path then .fail s .notOwner
      else
        let n := r.fld 1 35 31
        let key := (s.keySlot l.handle).key
        let body := bytes32 (r.words.drop 1)
        let out := ((List.range n).map fun i =>
          let b := slice body (16 * i) 16
          if l.decrypt then aesDec key b else aesEnc key b).flatten
        { st := s.modKey fun k => { k with lock := some { l with usedAt := s.tim.ticks }, blocks := add72 k.blocks n }
          payload := (List.range (4 * n)).map fun i => w36 (beVal (slice out (4 * i) 4)) }

/-- Meaning of CIPHER_BLOCK. -/
def execCipherBlock (r : Req) (s : State) : Res := .next (mailbox cipherBlock r s)

/-- 0x0C3 CIPHER.UNLOCK (15 R456). -/
def cipherUnlock : CmdSpec where
  opcode := 0x0C3
  lenOk := lenIs 0
  run := fun r s =>
    match s.key.lock with
    | none => .fail s .refused
    | some l => if l.path = r.path then { st := s.modKey fun k => { k with lock := none } } else .fail s .notOwner

/-- Meaning of CIPHER_UNLOCK. -/
def execCipherUnlock (r : Req) (s : State) : Res := .next (mailbox cipherUnlock r s)

/-- The die of a path (13 R356). -/
def pathDie (p : Path) : Nat := if p.isPcie then (p.die .west).num else 0

/-- The lock register (15 R440). -/
def State.lockWord (s : State) : Word :=
  match s.key.lock with
  | none => pack [(24, 8, 0x3F)]
  | some l =>
    pack [(35, 1, 1), (32, 3, pathDie l.path), (24, 8, l.path.owner), (12, 12, l.handle), (11, 1, b1 l.decrypt),
          (0, 10, ceilDiv (l.usedAt + ticksMs 100 - s.tim.ticks) 312500)]

/-- 0x0C4 CIPHER.STATUS_READ (15 R440, R456). -/
def cipherStatusRead : CmdSpec where
  opcode := 0x0C4
  lenOk := lenIs 0
  changes := fun _ => false
  run := fun _ s => { st := s, payload := [s.lockWord] ++ words72 s.key.blocks ++ [w36 s.key.aborts] }

/-- Meaning of CIPHER_STATUS_READ. -/
def execCipherStatusRead (r : Req) (s : State) : Res := .next (mailbox cipherStatusRead r s)

end Sys2Proof.Machine
end

