-- ==== Sys2Proof/Machine/HostCmds.lean ====
section
/-! DEFINITION. The HOST and SEAL commands (13 R385 to R390). -/

namespace Sys2Proof.Machine

/-- 0x001 HOST.ECHO (13 R385). -/
def hostEcho : CmdSpec where
  opcode := 0x001
  lenOk := fun _ => true
  changes := fun _ => false
  run := fun r s => { st := s, payload := r.words }

/-- Meaning of HOST_ECHO. -/
def execHostEcho (r : Req) (s : State) : Res := .next (mailbox hostEcho r s)

/-- The four words of HOST.VERSION_READ (13 R386). -/
def State.versionWords (s : State) : List Word :=
  let n := s.img.runSlot
  [pack [(8, 28, fld (s.img.version n) 35 8)], pack [(34, 2, n), (0, 32, s.img.sequence n)], pack [(28, 8, 1)],
   pack [(35, 1, b1 (needsKeys {} s)), (34, 1, b1 s.locks.policy), (33, 1, b1 s.locks.sealLock), (32, 1, b1 s.locks.key),
         (31, 1, b1 s.locks.power)]]

/-- 0x002 HOST.VERSION_READ (13 R386). -/
def hostVersionRead : CmdSpec where
  opcode := 0x002
  lenOk := lenIs 0
  changes := fun _ => false
  run := fun _ s => { st := s, payload := s.versionWords }

/-- Meaning of HOST_VERSION_READ. -/
def execHostVersionRead (r : Req) (s : State) : Res := .next (mailbox hostVersionRead r s)

/-- The three words of a late-write entry (13 R384). -/
def LateEntry.words (e : LateEntry) : List Word := [pack [(32, 4, e.reason), (0, 32, e.address)], pack [(20, 16, e.tag)], w36 e.time]

/-- 0x003 HOST.LATE_LOG_READ (13 R387). -/
def hostLateLogRead : CmdSpec where
  opcode := 0x003
  lenOk := lenIs 1
  changes := fun r => r.bit 1 35
  fields := fun _ _ => [[fAny 35 35]]
  run := fun r s =>
    let q := s.path r.path
    { st := if r.bit 1 35 then s.modPath r.path fun q => { q with lateLog := [] } else s
      payload := [w36 q.lateTotal, pack [(31, 5, q.lateLog.length)]] ++ (q.lateLog.map LateEntry.words).flatten }

/-- Meaning of HOST_LATE_LOG_READ. -/
def execHostLateLogRead (r : Req) (s : State) : Res := .next (mailbox hostLateLogRead r s)

/-- NO_RING of queue `q` on a die (13 R380, R388). -/
def HostSt.noRing (h : HostSt) (p : Path) (q : Nat) : Nat := Tbl.get zeroAt (if p.dieField = 1 then h.noRingW else h.noRingE) q

/-- The counters of a ring cleared, with NO_RING of its queue for a receive ring (13 R388). -/
def State.clearRing (s : State) (p : Path) (rx : Bool) (n : Nat) : State :=
  let s1 := s.modRing p rx n fun g => { g with frames := 0, octets := 0, errors := 0 }
  if rx then s1.modHost fun h =>
    if p.dieField = 1 then { h with noRingW := Tbl.put zeroAt h.noRingW n 0 } else { h with noRingE := Tbl.put zeroAt h.noRingE n 0 }
  else s1

/-- 0x004 HOST.RING_STATS_READ (13 R388). -/
def hostRingStatsRead : CmdSpec where
  opcode := 0x004
  lenOk := lenIs 1
  changes := fun r => r.bit 1 29
  fields := fun r _ => [[fNeed 35 35 fun _ => r.path.isPcie, fAny 34 30, fAny 29 29]]
  run := fun r s =>
    let rx := r.bit 1 35
    let n := r.fld 1 34 30
    let g := s.ring r.path rx n
    { st := if r.bit 1 29 then s.clearRing r.path rx n else s
      payload := words72 g.frames ++ words72 g.octets ++ [w36 g.errors, if rx then w36 (s.host.noRing r.path n) else 0] }

/-- Meaning of HOST_RING_STATS_READ. -/
def execHostRingStatsRead (r : Req) (s : State) : Res := .next (mailbox hostRingStatsRead r s)

/-! ### SEAL commands -/

/-- Begin a commit: the next complete pass of each die in the mask gives its reference (13 R376, R389). -/
def State.startCommit (s : State) (p : Path) (mask : Nat) : State :=
  s.modSeal fun l => { l with commit := maskList mask 6, commitOf := some (p, mask) }

/-- 0x011 SEAL.COMMIT (13 R376, R389). -/
def sealCommit : CmdSpec where
  opcode := 0x011
  lenOk := lenIs 1
  locked := fun _ s => s.locks.sealLock
  busy := fun _ s => !s.sealSt.commit.isEmpty
  fields := fun _ s => [[fNeed 35 30 fun m => m != 0 && (maskList m 6).all fun d => s.has d]]
  run := fun r s => { st := s.startCommit r.path (r.fld 1 35 30), later := true }

/-- Meaning of SEAL_COMMIT. -/
def execSealCommit (r : Req) (s : State) : Res := .next (mailbox sealCommit r s)

/-- 0x012 SEAL.STATUS_READ (13 R390). -/
def sealStatusRead : CmdSpec where
  opcode := 0x012
  lenOk := lenIs 0
  changes := fun _ => false
  run := fun _ s =>
    { st := s, payload := s.sealSt.word :: (List.range 6).map fun d => pack [(0, 32, Tbl.get zeroAt s.sealSt.lastCrc d)] }

/-- Meaning of SEAL_STATUS_READ. -/
def execSealStatusRead (r : Req) (s : State) : Res := .next (mailbox sealStatusRead r s)

end Sys2Proof.Machine
end

