-- ==== Sys2Proof/Machine/Power.lean ====
section
/-! DEFINITION. Core voltage and pace, the power estimate, the peripheral feeds and the vehicle supply (16 R460 to R471). -/

namespace Sys2Proof.Machine

/-! ### Pace -/

/-- Pace of a fabric die. -/
def PowerSt.pace (p : PowerSt) : Fab → PaceSt
  | .west => p.west
  | .east => p.east

/-- Change the pace of a fabric die. -/
def State.modPace (s : State) (d : Fab) (f : PaceSt → PaceSt) : State :=
  s.modPow fun p => match d with | .west => { p with west := f p.west } | .east => { p with east := f p.east }

/-- Whether the core of a die runs. -/
def State.coreRuns (s : State) (d : Fab) : Bool := !((s.core d).mode == .off || (s.core d).mode == .failed)

/-- A die's own input rates in kb/s: front ports that are UP, host port, gateway port and CPU port (16 R460). -/
def State.localRate (s : State) (d : Fab) : Nat :=
  ((portsOf d).filter fun p => (s.port p).mode == .up).foldl (fun n p => n + rateKbps (s.port p).rateNow) 0 +
    (if (match d with | .west => s.host.pcieW | .east => s.host.pcieE) then 15750000 else 0) + 4000000 +
    (if s.coreRuns d then 2000000 else 0)

/-- The demand D of a die in kb/s; the Seam input carries the other die's terms (16 R460). -/
def State.demand (s : State) (d : Fab) : Nat := s.localRate d + if s.has d.other.num then s.localRate d.other else 0

/-- The floor F (16 R460). -/
def State.paceFloor (s : State) (d : Fab) : Nat :=
  if (s.pow.pace d).cfg.floor || (portsOf d).any fun p => (s.gate p).mode != .off then 454 else 100

/-- The curve band of a junction temperature (16 R461). -/
def bandOf (tj : Int) : Nat := if tj < 0 then 0 else if tj < 50 then 1 else if tj < 100 then 2 else 3

/-- The points of a band. -/
def PowerSt.curve (p : PowerSt) (b : Nat) : List (Nat × Nat) := Tbl.get nilAt p.curves b

/-- P_t, rounded up to a whole Mhs/s; without a curve there is no P_top (16 R460; log 31). -/
def State.paceTarget (s : State) (d : Fab) (tj : Int) : Nat :=
  let c := (s.pow.pace d).cfg
  let want := max (ceilDiv (s.demand d * (100 + c.headroom)) 25600000) (s.paceFloor d)
  match (s.pow.curve (bandOf tj)).getLast? with
  | some (top, _) => min top want
  | none => want

/-- Step 1: the voltage of the first point whose PACE is P_t or more (16 R461). -/
def startVolt (pts : List (Nat × Nat)) (pt : Nat) : Option Nat := (pts.find? fun e => decide (pt ≤ e.1)).map Prod.snd

/-- A rise by STEP_MV, up to 780 mV (16 R461). -/
def PaceSt.rise (c : PaceSt) (now : Nat) : PaceSt :=
  if c.vdd < 780 then { c with vdd := min 780 (c.vdd + c.cfg.stepMv), stepAt := now } else c

/-- A shortage of pace: PACE, the log and PACE_SHORT once for each episode (16 R463). -/
def State.paceShortage (s : State) (d : Fab) : State :=
  let c := s.pow.pace d
  if c.short then s
  else
    (((s.modPace d fun c => { c with short := true, paceShort := sat36 c.paceShort 1 }).satRaise c.paceShort 1
      fun t => t.raiseDie d .countSat).raiseDev .pace).logFault 0x0E d.num 0

/-- Steps 1, 2 and 4 on a new measurement (16 R461, R462). -/
def PaceSt.control (c : PaceSt) (pts : List (Nat × Nat)) (pm pt now : Nat) (tj : Int) : PaceSt :=
  let moved := pt != c.target || bandOf tj != bandOf c.tj || c.vdd == 0
  let v := (startVolt pts pt).getD c.vdd
  let c1 : PaceSt := { c with measured := pm, target := pt, tj := tj }
  let restart := moved && decide (c.vdd < v)
  let c2 := if restart then { c1 with vdd := v, stepAt := now } else c1
  let below := decide (pm < pt)
  let c3 := if below && c.belowSince.isNone && !restart then c2.rise now else c2
  { c3 with
    belowSince := if below then some (c.belowSince.getD now) else none
    aboveSince := if pt * (100 + c.cfg.guard) ≤ pm * 100 then some (c.aboveSince.getD now) else none
    short := c.short && (below || (decide (pm < 454) && c3.vdd == 780)) }

/-- Meaning of PACE_SAMPLE, `dt` ticks after the last command: the 8 monitors of a die and its hottest junction sensor report
(16 R460 to R463). -/
def execPaceSample (die : Fab) (monitors : List Nat) (tj : Int) (dt : Nat) (s : State) : Res :=
  .next (
    if s.has die.num ∧ monitors.length = 8 then
      let s1 := s.adv dt
      let pm := min 2047 (monitors.foldl min (monitors.headD 0))
      let pt := s1.paceTarget die tj
      let s2 := s1.modPace die fun c => c.control (s1.pow.curve (bandOf tj)) pm pt s1.tim.ticks tj
      if pm < 454 ∧ (s2.pow.pace die).vdd = 780 then s2.paceShortage die else s2
    else s)

/-- Meaning of PACE_RISE_TIMER (16 R461). -/
def execPaceRiseTimer (die : Fab) (s : State) : Res :=
  let c := s.pow.pace die
  .next (if c.belowSince.isSome then
    let s1 := s.advTick (c.stepAt + ticksUs 20)
    s1.modPace die fun c => c.rise s1.tim.ticks
  else s)

/-- Meaning of PACE_FALL_TIMER: P_m has held above the guard for 10 ms (16 R461). -/
def execPaceFallTimer (die : Fab) (s : State) : Res :=
  .next (
    match (s.pow.pace die).aboveSince with
    | none => s
    | some t =>
      let s1 := s.advTick (t + ticksMs 10)
      s1.modPace die fun c =>
        { c with vdd := if 600 < c.vdd then max 600 (c.vdd - c.cfg.stepMv) else c.vdd, stepAt := s1.tim.ticks, aboveSince := some s1.tim.ticks })

/-- Meaning of PACE_SHORT_TIMER: P_m has been below P_t for 100 µs (16 R463). -/
def execPaceShortTimer (die : Fab) (s : State) : Res :=
  .next (
    match (s.pow.pace die).belowSince with
    | none => s
    | some t => (s.advTick (t + ticksUs 100)).paceShortage die)

/-! ### Ageing -/

/-- The pace in thousandths that a band gives at a voltage, interpolated between its points; none beyond its ends (16 R464). -/
def curvePace (v : Nat) : List (Nat × Nat) → Option Nat
  | (p1, v1) :: (p2, v2) :: r =>
    if v1 ≤ v ∧ v ≤ v2 then some (1000 * p1 + 1000 * (p2 - p1) * (v - v1) / (v2 - v1)) else curvePace v ((p2, v2) :: r)
  | [(p1, v1)] => if v = v1 then some (1000 * p1) else none
  | [] => none

/-- V_R: the voltage in mV at which A times the pace of the 100 °C band reaches 454; none where the curves do not give it (16 R464;
log 32). -/
def PowerSt.needVolt (p : PowerSt) (c : PaceSt) : Option Nat :=
  match curvePace c.vdd (p.curve (bandOf c.tj)) with
  | none => none
  | some here =>
    (List.range 181).map (600 + ·) |>.find? fun v =>
      match curvePace v (p.curve 3) with
      | some q => decide (454 * here ≤ c.measured * q)
      | none => false

/-- The mean of a list. -/
def meanOf (l : List Nat) : Nat := l.foldl (· + ·) 0 / l.length

/-- The hour's V_R joins the day, and a full day its mean to the last 64 days (16 R464). -/
def PaceSt.hour (c : PaceSt) (v : Nat) : PaceSt :=
  let h := c.hours ++ [v]
  let c1 : PaceSt := { c with vr := v, onHours := sat36 c.onHours 1 }
  if h.length < 24 then { c1 with hours := h }
  else { c1 with hours := [], days := (c.days ++ [meanOf h]).drop (c.days.length + 1 - 64) }

/-- Meaning of AGEING_HOUR: the ageing factor, V_R and REMAIN_MONTHS; the spec gives no rule for the fit that REMAIN_MONTHS is read
from, so it is a free value (16 R464; log 32). -/
def execAgeingHour (die : Fab) (s : State) : Res :=
  .next (
    if s.has die.num then
      let c := s.pow.pace die
      let s1 := match s.pow.needVolt c with
        | some v => s.modPace die fun c => c.hour v
        | none => (s.modPace die fun c => c.hour (s.freeBelow 4096)).useFree
      let s2 := (s1.modPace die fun c => { c with remain := s1.freeBelow 4096 }).useFree
      let c2 := s2.pow.pace die
      if c2.eol then s2
      else if c2.cfg.eolMv ≤ c2.vr ∨ c2.remain < 12 then
        ((s2.modPace die fun c => { c with eol := true }).raiseDev .endOfLife).logFault 0x0F die.num 0
      else s2
    else s)

/-! ### Power estimate -/

/-- The PMBus address of regulator `i` (16 R481). -/
def PowerCfg.pmbus (c : PowerCfg) (i : Nat) : Nat := if i < 4 then bitsOf c.pm0 (31 - 8 * i) (24 - 8 * i) else bitsOf c.pm1 (63 - 8 * i) (56 - 8 * i)

/-- One feed. -/
def State.feed (s : State) (f : Nat) : Feed := Tbl.get Feed.dflt s.pow.feeds f

/-- Change one feed. -/
def State.modFeed (s : State) (f : Nat) (g : Feed → Feed) : State := s.modPow fun p => { p with feeds := Tbl.upd Feed.dflt p.feeds f g }

/-- Meaning of POWER_ESTIMATE, `dt` ticks after the last command: READ_POUT of each regulator in 10 mW, the currents of the two core
regulators in mA, and the feed currents in mA as the converter has them (16 R465, R466; log 33). -/
def execPowerEstimate (pout : List Nat) (ampW ampE : Nat) (feeds : List Nat) (dt : Nat) (s : State) : Res :=
  let s1 := s.adv dt
  let sum := ((List.range 8).filter fun i => s1.pow.cfg.pmbus i ≠ 0).foldl (fun n i => n + pout.getD i 0) 0
  let est := min 65535 (sum + (s1.pow.west.vdd * ampW + s1.pow.east.vdd * ampE) / 10000)
  let lim := s1.locks.limit
  let now := s1.tim.ticks
  let s2 := s1.modPow fun p =>
    { p with estimate := est
             overSince := if lim ≠ 0 ∧ lim < est then some (p.overSince.getD now) else none
             underSince := if lim ≠ 0 ∧ 10 * est < 9 * lim then some (p.underSince.getD now) else none }
  .next ((List.range 8).foldl (fun s f =>
    if (s.feed f).mode = .inrush ∨ (s.feed f).mode = .on then s.modFeed f fun c => { c with current := min 16383 (feeds.getD f 0) } else s) s2)

/-- Meaning of POWER_SHED_TIMER: the estimate has been above LIMIT for 1 s (16 R465). -/
def execPowerShedTimer (s : State) : Res :=
  .next (
    match s.pow.overSince with
    | none => s
    | some t =>
      let s1 := s.advTick (t + ticksS 1)
      let s2 := s1.modPow fun p => { p with overSince := some s1.tim.ticks }
      match (List.range 26).reverse.find? fun p => inMask s.pow.cfg.shed p && (s.port p).enable && !inMask s.pow.shedPorts p with
      | none => s2
      | some p =>
        ((s2.disablePort p).modPow fun q => { q with shedPorts := setMask q.shedPorts p true }).logFault 0x15 (dieOfPort p).num p)

/-- Meaning of POWER_RESTORE_TIMER: the estimate has been below 90 % of LIMIT for 10 s (16 R465). -/
def execPowerRestoreTimer (s : State) : Res :=
  .next (
    match s.pow.underSince with
    | none => s
    | some t =>
      let s1 := s.advTick (t + ticksS 10)
      let s2 := s1.modPow fun p => { p with underSince := some s1.tim.ticks }
      match (List.range 26).find? fun p => inMask s.pow.shedPorts p with
      | none => s2
      | some p => (s2.modPow fun q => { q with shedPorts := setMask q.shedPorts p false }).enablePort p)

/-! ### Feeds -/

/-- A feed enters INRUSH: a new configuration takes effect (16 R466, R482). -/
def Feed.start (f : Feed) (t : Nat) : Feed := { f with mode := .inrush, now := f.cfg, since := t }

/-- The load-switch enables are free to rise: no switchover gap holds them (12 R345). -/
def State.feedsFree (s : State) : Bool := !s.pair.held

/-- Meaning of FEED_OVERCURRENT_TRIP, `dt` ticks after the last command: the current has been above its limit for TRIP_US
(16 R466). -/
def execFeedOvercurrentTrip (feed current dt : Nat) (s : State) : Res :=
  let f := s.feed feed
  .next (
    if feed ≤ 7 ∧ ((f.mode = .inrush ∧ f.now.inrushMa < current) ∨ (f.mode = .on ∧ f.now.limitMa < current)) then
      let s1 := s.adv dt
      let s2 := s1.modFeed feed fun f =>
        { f with mode := if f.used < f.now.retries then .retryWait else .lockout, used := if f.used < f.now.retries then f.used + 1 else f.used,
                 trips := satN 16 f.trips 1, current := 0, since := s1.tim.ticks }
      (s2.raiseDev .loadTrip).logFault 0x14 5 feed
    else s)

/-- Meaning of FEED_INRUSH_END, with the current that the converter then reads in mA (16 R466). -/
def execFeedInrushEnd (feed current : Nat) (s : State) : Res :=
  let f := s.feed feed
  .next (
    if feed ≤ 7 ∧ f.mode = .inrush then
      let s1 := s.advTick (f.since + ticksMs f.now.inrushMs)
      s1.modFeed feed fun f => { f with mode := .on, current := min 16383 current, since := s1.tim.ticks }
    else s)

/-- Meaning of FEED_RETRY_EXPIRY (16 R466). -/
def execFeedRetryExpiry (feed : Nat) (s : State) : Res :=
  let f := s.feed feed
  .next (
    if feed ≤ 7 ∧ f.mode = .retryWait ∧ s.feedsFree then
      let s1 := s.advTick (f.since + ticksMs f.now.retryMs)
      s1.modFeed feed fun f => f.start s1.tim.ticks
    else s)

/-- Meaning of FEED_RETRY_RESTORE: the feed has stayed ON for 10 × RETRY_MS (16 R466). -/
def execFeedRetryRestore (feed : Nat) (s : State) : Res :=
  let f := s.feed feed
  .next (
    if feed ≤ 7 ∧ f.mode = .on then (s.advTick (f.since + 10 * ticksMs f.now.retryMs)).modFeed feed fun f => { f with used := 0 } else s)

/-- Meaning of FEED_SHED_RESTORE, `dt` ticks after the last command: the supply, in 10 mV, has stayed above UV for 100 ms
(16 R466). -/
def execFeedShedRestore (feed volts dt : Nat) (s : State) : Res :=
  .next (
    if feed ≤ 7 ∧ (s.feed feed).mode = .shed ∧ s.pow.cfg.uv < volts ∧ s.feedsFree then
      let s1 := (s.adv dt).modPow fun p => { p with volts := min 4095 volts }
      s1.modFeed feed fun f => f.start s1.tim.ticks
    else s)

/-- Meaning of FEED_AUTO_ON: the next AUTO_ON feed is enabled, 1 ms after the one before (16 R466). -/
def execFeedAutoOn (s : State) : Res :=
  .next (
    match s.pow.autoOn with
    | ([], _) => s
    | (f :: r, t) =>
      if s.feedsFree then
        let s1 := s.advTick t
        let s2 := s1.modPow fun p => { p with autoOn := (r, s1.tim.ticks + ticksMs 1) }
        if (s2.feed f).mode = .off ∧ (s2.feed f).cfg.valid then s2.modFeed f fun c => c.start s1.tim.ticks else s2
      else s)

/-! ### Supply -/

/-- The supply takes a state with the voltage that decides it, in 10 mV. -/
def State.supplyTo (s : State) (m : SupplyMode) (volts : Nat) : State := s.modPow fun p => { p with supply := m, volts := min 4095 volts }

/-- Meaning of SUPPLY_OV, `dt` ticks after the last command: above OV for 1 ms (16 R468). -/
def execSupplyOv (volts dt : Nat) (s : State) : Res :=
  .next (if s.key.ao ∧ s.pow.cfg.ov < volts then (((s.adv dt).supplyTo .ov volts).raiseDev .supply).logFault 0x12 7 0 else s)

/-- Meaning of SUPPLY_UV, `dt` ticks after the last command: below UV for UV_MS (16 R469). -/
def execSupplyUv (volts dt : Nat) (s : State) : Res :=
  .next (if s.key.ao ∧ volts < s.pow.cfg.uv ∧ ¬ s.pow.down then (((s.adv dt).supplyTo .uv volts).raiseDev .supply).logFault 0x12 7 1 else s)

/-- Meaning of SUPPLY_CRANK, `dt` ticks after the last command: below CRANK for 100 µs; the CRANK_SHED feeds go to SHED
(16 R466, R470). -/
def execSupplyCrank (volts dt : Nat) (s : State) : Res :=
  .next (
    if s.key.ao ∧ volts < s.pow.cfg.crank ∧ ¬ s.pow.down then
      let s1 := (((s.adv dt).supplyTo .crank volts).raiseDev .supply).logFault 0x12 7 2
      (maskList s1.pow.cfg.crankShed 8).foldl (fun s f =>
        if (s.feed f).mode = .inrush ∨ (s.feed f).mode = .on then
          s.modFeed f fun c => { c with mode := .shed, current := 0, since := s1.tim.ticks }
        else s) s1
    else s)

/-- Meaning of SUPPLY_NORMAL: the supply is within its thresholds again (16 R467). -/
def execSupplyNormal (volts dt : Nat) (s : State) : Res :=
  .next (if s.key.ao ∧ s.pow.cfg.uv ≤ volts ∧ volts ≤ s.pow.cfg.ov ∧ ¬ s.pow.down then (s.adv dt).supplyTo .normal volts else s)

/-- Meaning of CONTROLLED_POWER_DOWN, `dt` ticks after the last command: below OFF for OFF_MS (16 R471); the device then waits for
its supply (log 34). -/
def execControlledPowerDown (volts dt : Nat) (s : State) : Res :=
  .next (
    if s.key.ao ∧ volts < s.pow.cfg.off ∧ ¬ s.pow.down then
      let s1 := ((s.adv dt).supplyTo .off volts).logFault 0x13 7 0
      let s2 := s1.modPow fun p => { p with feeds := Tbl.remap Feed.dflt (fun f => if f.mode = .off then f else f.toOff s1.tim.ticks) p.feeds, autoOn := ([], 0), down := true, mode := .awake, latch := none }
      (s2.runOff.modKey fun k => { k with cpd := true }).modSys fun y => { y with start := .supplyWait }
    else s)

end Sys2Proof.Machine
end

