-- ==== Sys2Proof/Machine/PowerCmds.lean ====
section
/-! DEFINITION. The POWER, PACE and WAKE commands (16 R479 to R492). -/

namespace Sys2Proof.Machine

/-- LOCKED while the POWER_LIMIT lock is set (13 R365). -/
def powerLocked : Req → State → Bool := fun _ s => s.locks.power

/-! ### POWER commands -/

/-- The code of a domain state (16 R479). -/
def DomMode.code : DomMode → Nat
  | .off => 0 | .on => 1 | .retain => 2 | .failed => 3

/-- The code of a feed state (16 R479). -/
def FeedMode.code : FeedMode → Nat
  | .off => 0 | .inrush => 1 | .on => 2 | .retryWait => 3 | .lockout => 4 | .shed => 5

/-- The code of a supply state (16 R479). -/
def SupplyMode.code : SupplyMode → Nat
  | .normal => 0 | .uv => 1 | .crank => 2 | .off => 3 | .ov => 4

/-- The payload of POWER.STATUS_READ (16 R479). -/
def State.powerStatus (s : State) : List Word :=
  [pack ((List.range 16).map fun d => (34 - 2 * d, 2, (s.dom d).code)),
   pack [(33, 3, match s.pow.run with | some r => r.seq + 1 | none => 0), (30, 3, s.pow.supply.code), (18, 12, s.pow.volts)],
   pack [(20, 16, s.pow.estimate), (14, 6, (maskList s.pow.shedPorts 26).length)]] ++
    (List.range 8).map fun f => pack [(33, 3, (s.feed f).mode.code), (19, 14, (s.feed f).current), (3, 16, (s.feed f).trips)]

/-- 0x0D1 POWER.STATUS_READ (16 R479). -/
def powerStatusRead : CmdSpec where
  opcode := 0x0D1
  lenOk := lenIs 1
  changes := fun r => r.bit 1 35
  fields := fun _ _ => [[fAny 35 35]]
  run := fun r s =>
    { st := if r.bit 1 35 then s.modPow fun p => { p with feeds := Tbl.remap Feed.dflt (fun f => { f with trips := 0 }) p.feeds } else s
      payload := s.powerStatus }

/-- Meaning of POWER_STATUS_READ. -/
def execPowerStatusRead (r : Req) (s : State) : Res := .next (mailbox powerStatusRead r s)

/-- The domains that a domain needs ON (16 R457). -/
def domNeeds (d : Nat) : List Nat :=
  match d with
  | 3 | 4 | 7 | 14 => [2]
  | 5 | 6 => [4]
  | 8 | 9 => [7]
  | 10 | 11 => [2, 4]
  | 12 | 13 => [2, 7]
  | 15 => [14]
  | _ => []

/-- The domains, as (ON, in RETAIN) by mask, from which a sequence starts: COLD from all OFF, WAKE from the states asleep, SLEEP and
OFF from all ON that DOMAIN_MASK allows (16 R457, R459, R480). -/
def seqStart (k mask : Nat) : List Nat :=
  if k ≤ 1 then [] else (List.range 16).filter fun d => decide (2 ≤ d) && inMask mask d

/-- Whether a sequence keeps "Needs": at each step every domain that is ON has what it needs ON (16 R457, R480). -/
def seqKeeps (mask : Nat) (on : List Nat) : List SeqStep → Bool
  | [] => true
  | t :: r =>
    let on1 :=
      if t.action = 3 ∨ inMask mask t.domain = false then on
      else if t.action = 1 then t.domain :: on
      else on.filter fun d => d != t.domain
    (on1.all fun d => (domNeeds d).all fun n => on1.contains n) && seqKeeps mask on1 r

/-- A step of POWER.SEQ_LOAD (16 R480). -/
def stepOfWord (w : Word) : SeqStep := { domain := fld w 35 32, action := fld w 31 30, waitUs := fld w 29 16, pgTimeout := fld w 15 4 }

/-- A step as its word (16 R480). -/
def SeqStep.word (t : SeqStep) : Word := pack [(32, 4, t.domain), (30, 2, t.action), (16, 14, t.waitUs), (4, 12, t.pgTimeout)]

/-- A sequence as the words of POWER.SEQ_LOAD. -/
def seqWords (k : Nat) (l : List SeqStep) : List Word := pack [(34, 2, k), (28, 6, l.length)] :: l.map SeqStep.word

/-- The fields of a step word (16 R480). -/
def stepFields (w : Word) : List Fld :=
  if fld w 31 30 = 3 then [fTo 35 32 (fun _ => true) 0 5, fAny 31 30, fAny 29 16, fTo 15 4 (fun _ => true) 0 5]
  else [fNeed 35 32 (2 ≤ ·), fNeed 31 30 fun a => a != 2 || domRetains (fld w 35 32), fAny 29 16, fMin 15 4 1]

/-- 0x0D2 POWER.SEQ_LOAD (16 R480). -/
def powerSeqLoad : CmdSpec where
  opcode := 0x0D2
  lenOk := fun n => decide (2 ≤ n ∧ n ≤ 33)
  lenReq := fun r => decide (r.words.length = 1 + r.fld 1 33 28)
  locked := powerLocked
  busy := fun r s => match s.pow.run with | some k => k.seq == r.fld 1 35 34 | none => false
  fields := fun r _ => [fAny 35 34, fAny 33 28] :: (r.words.drop 1).map stepFields
  run := fun r s =>
    let k := r.fld 1 35 34
    let l := (r.words.drop 1).map stepOfWord
    if seqKeeps s.pow.cfg.mask (seqStart k s.pow.cfg.mask) l then { st := s.modPow fun p => { p with seqs := Tbl.put noneAt p.seqs k (some l) } }
    else .fail s .refused

/-- Meaning of POWER_SEQ_LOAD. -/
def execPowerSeqLoad (r : Req) (s : State) : Res := .next (mailbox powerSeqLoad r s)

/-- The configuration as the words of POWER.CONFIG_WRITE (16 R481). -/
def PowerCfg.words (c : PowerCfg) : List Word :=
  [pack [(20, 16, c.mask)], pack [(10, 26, c.shed)], pack [(4, 32, c.pm0)], pack [(4, 32, c.pm1)],
   pack [(24, 12, c.div), (12, 12, c.uv), (0, 12, c.crank)], pack [(24, 12, c.off), (12, 12, c.on), (0, 12, c.ov)],
   pack [(26, 10, c.uvMs), (16, 10, c.offMs), (8, 8, c.crankShed)]]

/-- The domains that DOMAIN_MASK cannot mask (16 R481). -/
def domFixed (d : Nat) : Bool := d ≤ 2 || d == 4 || d == 5 || d == 7 || d == 8 || d == 14 || d == 15

/-- The four PMBus addresses of a word (16 R481). -/
def wPmbus : List Fld :=
  [28, 20, 12, 4].map fun lo => { hi := lo + 7, lo := lo, clamp := fun v => if 128 ≤ v then some (v - 128, 2) else none }

/-- A time from 1 to 1 000 ms: 0 is clamped to 1, and a value above has no clamp value (00 R7, 16 R481). -/
def fMsRange (hi lo : Nat) : Fld := { hi := hi, lo := lo, clamp := fun v => if v < 1 then some (1, 1) else none, bad := fun v => decide (1000 < v) }

/-- 0x0D3 POWER.CONFIG_WRITE (16 R481). -/
def powerConfigWrite : CmdSpec where
  opcode := 0x0D3
  lenOk := lenIs 7
  locked := powerLocked
  fields := fun r _ =>
    let ok := decide (r.fld 6 35 24 < r.fld 5 11 0 ∧ r.fld 5 11 0 < r.fld 5 23 12 ∧ r.fld 5 23 12 < r.fld 6 11 0 ∧
      r.fld 6 35 24 < r.fld 6 23 12 ∧ r.fld 6 23 12 < r.fld 6 11 0)
    [(List.range 16).reverse.map fun d => if domFixed d then fTo (20 + d) (20 + d) (fun _ => true) 1 1 else fAny (20 + d) (20 + d),
     [fAny 35 10], wPmbus, wPmbus, [fMin 35 24 100, fAny 23 12, fAny 11 0], [fNeed 35 24 fun _ => ok, fAny 23 12, fAny 11 0],
     [fMsRange 35 26, fMsRange 25 16, fAny 15 8]]
  run := fun r s =>
    { st := s.modPow fun p =>
        { p with cfg := { mask := r.fld 1 35 20, shed := r.fld 2 35 10, pm0 := r.fld 3 35 4, pm1 := r.fld 4 35 4, div := r.fld 5 35 24,
                          uv := r.fld 5 23 12, crank := r.fld 5 11 0, off := r.fld 6 35 24, on := r.fld 6 23 12, ov := r.fld 6 11 0,
                          uvMs := r.fld 7 35 26, offMs := r.fld 7 25 16, crankShed := r.fld 7 15 8 } } }

/-- Meaning of POWER_CONFIG_WRITE. -/
def execPowerConfigWrite (r : Req) (s : State) : Res := .next (mailbox powerConfigWrite r s)

/-- The configuration of a feed as the words of POWER.LOAD_CONFIG (16 R482). -/
def FeedCfg.words (c : FeedCfg) (f : Nat) : List Word :=
  [pack [(33, 3, f), (32, 1, b1 c.valid), (31, 1, b1 c.sleepOn), (27, 4, c.retries), (26, 1, b1 c.autoOn)],
   pack [(20, 16, c.scale), (6, 14, c.limitMa)], pack [(22, 14, c.inrushMa), (12, 10, c.inrushMs), (0, 12, c.tripUs)],
   pack [(20, 16, c.retryMs)]]

/-- 0x0D4 POWER.LOAD_CONFIG (16 R482). -/
def powerLoadConfig : CmdSpec where
  opcode := 0x0D4
  lenOk := lenIs 4
  locked := powerLocked
  fields := fun r _ =>
    let top := max 1 (r.fld 2 35 20) * 4095 / 1000
    [[fAny 35 33, fAny 32 32, fAny 31 31, fAny 30 27, fAny 26 26], [fMin 35 20 1, fMax 19 6 top],
     [fMin 35 22 (min (r.fld 2 19 6) top), fMax 21 12 1000, fMin 11 0 50], [fMin 35 20 10]]
  run := fun r s =>
    let c : FeedCfg :=
      { valid := r.bit 1 32, sleepOn := r.bit 1 31, retries := r.fld 1 30 27, autoOn := r.bit 1 26, scale := r.fld 2 35 20,
        limitMa := r.fld 2 19 6, inrushMa := r.fld 3 35 22, inrushMs := r.fld 3 21 12, tripUs := r.fld 3 11 0, retryMs := r.fld 4 35 20 }
    { st := s.modFeed (r.fld 1 35 33) fun f => { f with cfg := c, now := if f.mode = .off then c else f.now } }

/-- Meaning of POWER_LOAD_CONFIG. -/
def execPowerLoadConfig (r : Req) (s : State) : Res := .next (mailbox powerLoadConfig r s)

/-- One feed under an ACTION of POWER.LOAD_SET (16 R466, R483). -/
def Feed.command (f : Feed) (action t : Nat) : Feed :=
  match action with
  | 0 => if f.mode = .off then f else f.toOff t
  | 1 => if f.mode = .off ∧ f.cfg.valid then f.start t else f
  | _ => if f.mode = .lockout then f.toOff t else f

/-- 0x0D5 POWER.LOAD_SET (16 R483; log 35). -/
def powerLoadSet : CmdSpec where
  opcode := 0x0D5
  lenOk := lenIs 1
  kinds := [5]
  fields := fun _ s => [[fNeed 35 28 fun m => (maskList m 8).all fun f => (s.feed f).cfg.valid, fNeed 27 26 (· ≤ 2)]]
  run := fun r s =>
    { st := (maskList (r.fld 1 35 28) 8).foldl (fun t f => t.modFeed f fun c => c.command (r.fld 1 27 26) s.tim.ticks) s }

/-- Meaning of POWER_LOAD_SET. -/
def execPowerLoadSet (r : Req) (s : State) : Res := .next (mailbox powerLoadSet r s)

/-- 0x0D6 POWER.READ (16 R492). -/
def powerRead : CmdSpec where
  opcode := 0x0D6
  lenOk := lenIs 1
  changes := fun _ => false
  fields := fun r _ => [[fNeed 35 34 (· ≤ 2), fNeed 33 31 fun i => r.fld 1 35 34 != 2 || decide (i ≤ 3)]]
  run := fun r s =>
    let i := r.fld 1 33 31
    { st := s
      payload := match r.fld 1 35 34 with
        | 0 => s.pow.cfg.words
        | 1 => (s.feed i).cfg.words i
        | _ => seqWords i (s.pow.steps i) }

/-- Meaning of POWER_READ. -/
def execPowerRead (r : Req) (s : State) : Res := .next (mailbox powerRead r s)

/-! ### PACE commands -/

/-- A curve band as the words of PACE.CURVE_LOAD (16 R484). -/
def curveWords (b : Nat) (l : List (Nat × Nat)) : List Word := pack [(34, 2, b), (29, 5, l.length)] :: l.map fun e => pack [(25, 11, e.1), (13, 12, e.2)]

/-- Points that ascend in PACE and VOLT (16 R484). -/
def ascending : List (Nat × Nat) → Bool
  | a :: b :: r => decide (a.1 < b.1 ∧ a.2 < b.2) && ascending (b :: r)
  | _ => true

/-- 0x0E1 PACE.CURVE_LOAD (16 R484). -/
def paceCurveLoad : CmdSpec where
  opcode := 0x0E1
  lenOk := fun n => decide (2 ≤ n ∧ n ≤ 17)
  lenReq := fun r => decide (r.words.length = 1 + r.fld 1 33 29)
  locked := powerLocked
  fields := fun r _ => [fAny 35 34, fAny 33 29] :: (r.words.drop 1).map fun _ => [fAny 35 25, fRange 24 13 600 780]
  run := fun r s =>
    let l := (r.words.drop 1).map fun w => (fld w 35 25, fld w 24 13)
    if ascending l && decide (454 ≤ (l.getLastD (0, 0)).1) then { st := s.modPow fun p => { p with curves := Tbl.put nilAt p.curves (r.fld 1 35 34) l } }
    else .fail s .refused

/-- Meaning of PACE_CURVE_LOAD. -/
def execPaceCurveLoad (r : Req) (s : State) : Res := .next (mailbox paceCurveLoad r s)

/-- The settings as the word of PACE.CONFIG_WRITE (16 R485). -/
def PaceCfg.word (c : PaceCfg) (d : Fab) : Word :=
  pack [(35, 1, d.bit), (34, 1, b1 c.floor), (28, 6, c.headroom), (23, 5, c.guard), (18, 5, c.stepMv), (6, 12, c.eolMv)]

/-- 0x0E2 PACE.CONFIG_WRITE (16 R485). -/
def paceConfigWrite : CmdSpec where
  opcode := 0x0E2
  lenOk := lenIs 1
  locked := powerLocked
  fields := fun _ _ => [[fAny 35 35, fAny 34 34, fMax 33 28 50, fRange 27 23 2 20, fRange 22 18 1 20, fRange 17 6 650 720]]
  run := fun r s =>
    { st := s.modPace r.dieBit fun c =>
        { c with cfg := { floor := r.bit 1 34, headroom := r.fld 1 33 28, guard := r.fld 1 27 23, stepMv := r.fld 1 22 18, eolMv := r.fld 1 17 6 } } }

/-- Meaning of PACE_CONFIG_WRITE. -/
def execPaceConfigWrite (r : Req) (s : State) : Res := .next (mailbox paceConfigWrite r s)

/-- 0x0E3 PACE.STATUS_READ (16 R486). -/
def paceStatusRead : CmdSpec where
  opcode := 0x0E3
  lenOk := lenIs 1
  changes := fun r => r.bit 1 34
  fields := fun _ _ => [[fAny 35 35, fAny 34 34]]
  run := fun r s =>
    let c := s.pow.pace r.dieBit
    { st := if r.bit 1 34 then s.modPace r.dieBit fun c => { c with paceShort := 0 } else s
      payload := [pack [(25, 11, c.measured), (14, 11, c.target), (5, 9, ofSigned 9 c.tj)], pack [(24, 12, c.vdd), (12, 12, c.vr)],
        pack [(24, 12, c.remain), (23, 1, b1 c.eol)], w36 c.onHours, w36 c.paceShort] }

/-- Meaning of PACE_STATUS_READ. -/
def execPaceStatusRead (r : Req) (s : State) : Res := .next (mailbox paceStatusRead r s)

/-- 0x0E4 PACE.READ (16 R492). -/
def paceRead : CmdSpec where
  opcode := 0x0E4
  lenOk := lenIs 1
  changes := fun _ => false
  fields := fun _ _ => [[fAny 35 35, fAny 34 34, fAny 33 32]]
  run := fun r s =>
    { st := s
      payload := if r.bit 1 34 then curveWords (r.fld 1 33 32) (s.pow.curve (r.fld 1 33 32)) else [(s.pow.pace r.dieBit).cfg.word r.dieBit] }

/-- Meaning of PACE_READ. -/
def execPaceRead (r : Req) (s : State) : Res := .next (mailbox paceRead r s)

/-! ### WAKE commands -/

/-- A policy entry as the words of WAKE.POLICY_WRITE (16 R487). -/
def WakePolicy.words (e : WakePolicy) (i : Nat) : List Word :=
  [pack [(30, 6, i), (29, 1, b1 e.valid), (26, 3, e.kind), (21, 5, e.src), (20, 1, b1 e.primary)], pack [(0, 32, e.value)], pack [(0, 32, e.mask)]]

/-- The sources of a KIND (16 R472). -/
def wakeSrcOk (kind src : Nat) : Bool :=
  match kind with
  | 0 => decide (src ≤ 5)
  | 1 => decide (6 ≤ src ∧ src ≤ 9)
  | 2 => decide (10 ≤ src ∧ src ≤ 17)
  | 3 | 4 => decide (src ≤ 25)
  | 5 => decide (src ≤ 25) && (kindOfPort src).t1
  | _ => false

/-- 0x0F1 WAKE.POLICY_WRITE (16 R487). -/
def wakePolicyWrite : CmdSpec where
  opcode := 0x0F1
  lenOk := lenIs 3
  locked := policyLocked
  fields := fun r _ =>
    let m := r.fld 3 31 0
    [[fAny 35 30, fAny 29 29, fNeed 28 26 (· ≤ 5), fNeed 25 21 (wakeSrcOk (r.fld 1 28 26)), fAny 20 20],
     [{ hi := 31, lo := 0, clamp := fun v => if Nat.land v m ≠ v then some (Nat.land v m, 5) else none }], [fAny 31 0]]
  run := fun r s =>
    let e : WakePolicy := { valid := r.bit 1 29, kind := r.fld 1 28 26, src := r.fld 1 25 21, primary := r.bit 1 20, value := r.fld 2 31 0, mask := r.fld 3 31 0 }
    { st := s.modPow fun p => { p with policy := Tbl.put WakePolicy.dflt p.policy (r.fld 1 35 30) e } }

/-- Meaning of WAKE_POLICY_WRITE. -/
def execWakePolicyWrite (r : Req) (s : State) : Res := .next (mailbox wakePolicyWrite r s)

/-- The settings as the words of WAKE.CONFIG_WRITE (16 R488). -/
def WakeCfg.words (c : WakeCfg) : List Word :=
  [pack [(35, 1, b1 c.sleepEn), (23, 12, c.sleepS), (13, 10, c.prepareMs), (0, 13, c.keepAwakeMin)],
   pack [(34, 2, c.locEn), (32, 2, c.locPol), (22, 10, c.locFilter), (21, 1, b1 c.spiWake)], pack [(12, 24, c.timerS)]]

/-- 0x0F2 WAKE.CONFIG_WRITE (16 R488). -/
def wakeConfigWrite : CmdSpec where
  opcode := 0x0F2
  lenOk := lenIs 3
  locked := policyLocked
  fields := fun _ _ =>
    [[fAny 35 35, fMin 34 23 1, fRange 22 13 20 1000, fAny 12 0], [fAny 35 34, fAny 33 32, fRange 31 22 1 1000, fAny 21 21], [fAny 35 12]]
  run := fun r s =>
    { st := s.modPow fun p =>
        { p with wake := { sleepEn := r.bit 1 35, sleepS := r.fld 1 34 23, prepareMs := r.fld 1 22 13, keepAwakeMin := r.fld 1 12 0, locEn := r.fld 2 35 34,
                           locPol := r.fld 2 33 32, locFilter := r.fld 2 31 22, spiWake := r.bit 2 21, timerS := r.fld 3 35 12 } } }

/-- Meaning of WAKE_CONFIG_WRITE. -/
def execWakeConfigWrite (r : Req) (s : State) : Res := .next (mailbox wakeConfigWrite r s)

/-- The code of a state of the agreement (16 R490). -/
def SleepMode.code : SleepMode → Nat
  | .awake => 0 | .prepare => 1 | .committed => 2 | .asleep => 3 | .waking => 4

/-- Put or end the hold of a path. -/
def State.setHold (s : State) (i : Nat) (h : Option Hold) : State := s.modPow fun p => { p with holds := Tbl.put noneAt p.holds i h }

/-- A hold begins: it restarts the timer, or cancels a sleep in preparation (16 R473, R474, R489). -/
def State.hold (s : State) (path : Path) (primary : Bool) (secs : Nat) : State :=
  let s1 := s.setHold (hostPaths.idxOf path) (some { until_ := s.tim.ticks + ticksS secs, primary := primary })
  match s1.pow.mode with
  | .awake =>
    let s2 := s1.restartTimer
    if primary then s2.restartAwake else s2.keepAwake { kind := 6, ident := path.owner }
  | .prepare => s1.wakeSource { kind := 11 }
  | _ => s1

/-- 0x0F3 WAKE.HOLD; SLEEP_NOW has no effect where the guard of R474 fails (16 R474, R489). -/
def wakeHold : CmdSpec where
  opcode := 0x0F3
  lenOk := lenIs 1
  fields := fun r s =>
    let others := s.holders.any fun i => i != hostPaths.idxOf r.path
    [[fNeed 35 34 fun a => a ≤ 1 || (a == 2 && !others), fAny 33 33, fMin 32 21 1]]
  run := fun r s =>
    let s1 :=
      match r.fld 1 35 34 with
      | 0 => s.hold r.path (r.bit 1 33) (r.fld 1 32 21)
      | 1 => if (hostPaths.idxOf r.path) ∈ s.holders then (s.setHold (hostPaths.idxOf r.path) none).restartTimer else s
      | _ => if s.pow.mode = .awake ∧ s.pow.wake.sleepEn ∧ s.holders = [] ∧ s.follows = false then s.enterPrepare else s
    { st := s1, payload := [pack [(33, 3, s1.pow.mode.code)]] }

/-- Meaning of WAKE_HOLD. -/
def execWakeHold (r : Req) (s : State) : Res := .next (mailbox wakeHold r s)

/-- Seconds left on the sleep timer, rounded up; a member runs none (16 R473, R490; 17 R507). -/
def State.timerLeft (s : State) : Nat :=
  if s.follows then 0 else ceilDiv (s.pow.timerAt + ticksS s.pow.wake.sleepS - s.tim.ticks) 312500000

/-- 0x0F4 WAKE.STATUS_READ (16 R490). -/
def wakeStatusRead : CmdSpec where
  opcode := 0x0F4
  lenOk := lenIs 1
  changes := fun r => r.bit 1 35
  fields := fun _ _ => [[fAny 35 35]]
  run := fun r s =>
    { st := if r.bit 1 35 then s.modPow fun p => { p with wakes := 0, lateWakes := 0, cancels := 0 } else s
      payload := [pack [(33, 3, s.pow.mode.code), (27, 6, maskOf s.holders), (15, 12, s.timerLeft)], pack [(12, 24, min (2 ^ 24 - 1) s.awakeS)],
        w36 s.pow.wakes, w36 s.pow.lateWakes, w36 s.pow.cancels] }

/-- Meaning of WAKE_STATUS_READ. -/
def execWakeStatusRead (r : Req) (s : State) : Res := .next (mailbox wakeStatusRead r s)

/-- The six words of a wake record (16 R475). -/
def WakeRec.words (r : WakeRec) : List Word :=
  [pack [(32, 4, r.kind), (27, 5, r.src), (26, 1, b1 r.late), (25, 1, b1 r.cancel), (24, 1, b1 r.firstValid)]] ++ words72 r.time ++
    [r.first.1, r.first.2.1, r.first.2.2]

/-- The four words of a keep-awake entry (16 R476). -/
def KeepRec.words (k : KeepRec) : List Word :=
  let mac := 3 ≤ k.kind && k.kind ≤ 5
  [pack [(32, 4, k.kind), (27, 5, k.src), (21, 6, k.index)], if mac then w36 (k.ident / 4096) else w36 k.ident,
   pack [(24, 12, if mac then k.ident % 4096 else 0), (0, 24, k.count)], w36 k.time]

/-- 0x0F5 WAKE.LOG_READ (16 R491). -/
def wakeLogRead : CmdSpec where
  opcode := 0x0F5
  lenOk := lenIs 1
  changes := fun r => r.bit 1 24
  fields := fun r s =>
    let n := if r.bit 1 35 then s.pow.keep.length else s.pow.recs.length
    [[fAny 35 35, fNeed 34 30 fun v => v == 0 || decide (v < n), fNeed 29 25 fun v => decide (1 ≤ v ∧ v ≤ 16), fAny 24 24]]
  run := fun r s =>
    let k := r.bit 1 35
    let n := if k then s.pow.keep.length else s.pow.recs.length
    let ws := if k then (s.pow.keep.drop (r.fld 1 34 30)).map KeepRec.words else (s.pow.recs.drop (r.fld 1 34 30)).map WakeRec.words
    { st :=
        if r.bit 1 24 then s.modPow fun p => if k then { p with keep := [], keepOmitted := 0 } else { p with recs := [], recOmitted := 0 } else s
      payload := pack [(30, 6, n), (18, 12, if k then s.pow.keepOmitted else s.pow.recOmitted)] :: (ws.take (r.fld 1 29 25)).flatten }

/-- Meaning of WAKE_LOG_READ. -/
def execWakeLogRead (r : Req) (s : State) : Res := .next (mailbox wakeLogRead r s)

/-- 0x0F6 WAKE.READ (16 R492). -/
def wakeRead : CmdSpec where
  opcode := 0x0F6
  lenOk := lenIs 1
  changes := fun _ => false
  fields := fun _ _ => [[fAny 35 35, fAny 34 29]]
  run := fun r s =>
    let i := r.fld 1 34 29
    { st := s, payload := if r.bit 1 35 then (Tbl.get WakePolicy.dflt s.pow.policy i).words i else s.pow.wake.words }

/-- Meaning of WAKE_READ. -/
def execWakeRead (r : Req) (s : State) : Res := .next (mailbox wakeRead r s)

end Sys2Proof.Machine
end

