-- ==== Sys2Proof/Machine/Records.lean ====
section
/-! DEFINITION. COMMAND records: which requests may stand in an image, their checks, and the image reports (14 R401, R405, R406). -/

namespace Sys2Proof.Machine

/-- The commands that may stand in a record (14 R401, 15 R443). -/
def recordSpecs : List CmdSpec :=
  [coreGuardWrite, maintExclWrite, keyTamperWrite, powerSeqLoad, powerConfigWrite, powerLoadConfig, paceCurveLoad, paceConfigWrite] ++
  [wakePolicyWrite, wakeConfigWrite, gwBundleWrite, gwUpWrite, gwDownWrite, gwPeriodicWrite, pathOutputWrite, pathMirrorWrite] ++
  [poolLimitWrite, poolLevelWrite, rulePortWrite, ruleProgramLoad, ruleRangeWrite, ruleEntryWrite, ruleGroupWrite, ruleCommit] ++
  [ruleFragWrite, fwdEntryWrite, fwdCommit, fwdPortWrite, fwdLearnWrite, frerFuncWrite, zoneMapWrite, zonePolicyWrite] ++
  [meterWrite, meterFilterWrite, gclConfigWrite, gclListWrite, gclPatternWrite, shaperQueueWrite, shaperPreemptWrite, shaperMmWrite] ++
  [qstatSamplerWrite, timeConfigWrite, timePortWrite, portConfigWrite, portPlcaWrite, macsecPortWrite, macsecMkaWrite, edgeCanWrite] ++
  [edgeLinWrite, edgeLinTableWrite, edgeSerWrite, edgeTableLoad, edgeWakeWrite]

/-- The command of an opcode that may stand in a record. -/
def recordSpec (op : Nat) : Option CmdSpec := recordSpecs.find? fun c => c.opcode == op

/-! ### Records as requests -/

/-- The opcode of a COMMAND record. -/
def ImgSt.recOp (g : ImgSt) (n : Nat) (r : ImgRec) : Nat := fld (g.recWord n r 1) 35 24

/-- A COMMAND record as a request of owner 0x40, its TAG and FLAGS clamped to 0 (14 R401). -/
def ImgSt.recReq (g : ImgSt) (n : Nat) (r : ImgRec) : Req := { path := .image, tag := 0, flags := 0, words := g.words n (r.pos + 2) (r.len - 1) }

/-- The clamps of a record's TAG and FLAGS (14 R401). -/
def tagClamps (h : Word) : List Clamp :=
  (if fld h 15 8 = 0 then [] else [{ word := 0, lsb := 8, width := 8, reason := 3, given := fld h 15 8, used := 0 }]) ++
    (if fld h 7 0 = 0 then [] else [{ word := 0, lsb := 0, width := 8, reason := 3, given := fld h 7 0, used := 0 }])

/-- What the checks of a record find: its result and its clamps. -/
abbrev RecResult := Code × List Clamp

/-- A result of checks with the clamps that they found. -/
def recResult (bad : Bool) (cs : List Clamp) : RecResult := if bad then (.refused, []) else (if cs.isEmpty then .done else .clamped, cs)

/-- The field checks of a COMMAND record (14 R405, R406). -/
def State.checkCommand (s : State) (n : Nat) (r : ImgRec) : RecResult :=
  let g := s.img
  let op := g.recOp n r
  let q := g.recReq n r
  match recordSpec op with
  | none => (if knownOp op then .refused else .badOpcode, [])
  | some sp =>
    if !sp.lenFits q then (.badLength, [])
    else
      let c := checkWords 1 (sp.fields q s) q.words
      recResult c.bad (tagClamps (g.recWord n r 1) ++ c.clamps)

/-- The fields of HEADER (14 R398). -/
def headerFields : List (List Fld) :=
  [wAny, [fAny 35 28, fAny 27 20, fAny 19 12], [fAny 35 28, fAny 27 20, fAny 19 8], [fAny 31 0], [fAny 35 16], [fMin 35 20 60]]

/-- The fields of IDENTITY: a group address has no clamp value (14 R400). -/
def identityFields (gwEn : Bool) : List (List Fld) :=
  let mac : Nat → Bool := fun v => inMask v 28
  [[{ hi := 35, lo := 0, bad := mac }], [fAny 35 24, fAny 23 23],
   if gwEn then [{ hi := 35, lo := 0, bad := mac }] else [fTo 35 0 (fun _ => true) 0 5],
   if gwEn then [fAny 35 24] else [fTo 35 24 (fun _ => true) 0 5]]

/-- The fields of LOCKS (14 R402). -/
def locksFields (w : Word) : List (List Fld) :=
  [[fAny 35 35, fTo 34 34 (fun _ => !bit1 w 31) 0 5, fAny 33 33, fAny 32 32, fAny 31 31, fTo 30 29 (· == 3) 0 2,
    { hi := 28, lo := 13, clamp := fun v => if v ≠ 0 ∧ v < 100 then some (100, 1) else if 1900 < v then some (1900, 2) else none }]]

/-- The checked payload of a HEADER, IDENTITY or LOCKS record. -/
def ImgSt.checkedRec (g : ImgSt) (n : Nat) (r : ImgRec) : Checked :=
  let ws := g.words n (r.pos + 1) r.len
  match r.kind with
  | 0x01 => checkWords 1 headerFields ws
  | 0x03 => checkWords 1 (identityFields (bit1 (ws.getD 1 0) 23)) ws
  | 0x05 => checkWords 1 (locksFields (ws.getD 0 0)) ws
  | _ => { words := ws }

/-- The field checks of any record (14 R405). -/
def State.checkRecord (s : State) (n : Nat) (r : ImgRec) : RecResult :=
  if r.kind = 0x04 then s.checkCommand n r
  else
    let c := s.img.checkedRec n r
    recResult c.bad c.clamps

/-! ### Reports -/

/-- The report entries of a record's result (14 R406). -/
def reportEntries (idx : Nat) (phase : Nat) (x : RecResult) : List (List Word) :=
  let a := pack [(16, 20, idx), (8, 8, x.1.val), (7, 1, phase)]
  match x.1 with
  | .done => []
  | .clamped => x.2.map fun c => a :: c.words
  | _ => [[a, 0, 0, 0]]

/-- Entries join a report of at most 512; the others are counted in OMITTED (14 R406). -/
def State.addReport (s : State) (start : Bool) (es : List (List Word)) : State :=
  s.modImg fun g =>
    if start then { g with repS := (g.repS ++ es).take 512, omitS := satN 12 g.omitS (g.repS.length + es.length - 512) }
    else { g with repV := (g.repV ++ es).take 512, omitV := satN 12 g.omitV (g.repV.length + es.length - 512) }

/-- The verify report of an image (14 R406). -/
def State.verifyReport (s : State) (n : Nat) : State :=
  let rs := s.img.records n
  let es := ((rs.zip (List.range rs.length)).map fun e => reportEntries e.2 0 (s.checkRecord n e.1)).flatten
  (s.modImg fun g => { g with repV := [], omitV := 0 }).addReport false es

/-- A commit of a record takes effect at once, without an activation time (14 R401). -/
def State.commitNow (s : State) : State :=
  match s.tab.act with
  | none => s
  | some a =>
    let t := s.now72
    match a.kind with
    | .rule =>
      s.modTab fun b => { b.setBank (b.gen + 2) (b.bank (b.gen + 1)) with gen := b.gen + 1, ruleT := t, act := none }
    | .fwd =>
      s.modTab fun b => let c := { b with fgen := b.fgen + 1 }; { c.swept with fwdT := t, act := none }
    | .policy => (s.modZon fun z => z.setRows a.rows).modTab fun b => { b with act := none }

/-- A COMMAND record is executed as a request of owner 0x40 (14 R401). -/
def State.runCommand (s : State) (n : Nat) (r : ImgRec) : State × RecResult :=
  let g := s.img
  let op := g.recOp n r
  let q := g.recReq n r
  match recordSpec op with
  | none => (s, if knownOp op then .refused else .badOpcode, [])
  | some sp =>
    let j := sp.judge q s
    let cs := tagClamps (g.recWord n r 1) ++ j.2
    if j.1.later then (j.1.st.commitNow.mirrorOut sp.kinds, recResult false cs)
    else if j.1.code = .done ∨ j.1.code = .clamped then (j.1.st.mirrorOut sp.kinds, recResult false cs)
    else (j.1.st, j.1.code, [])

end Sys2Proof.Machine
end

