-- ==== Sys2Proof/Machine/ImgCmds.lean ====
section
/-! DEFINITION. The IMG commands and the end of an erase (14 R408 to R423). -/

namespace Sys2Proof.Machine

/-- The code of an update state (14 R415). -/
def UpdMode.code : UpdMode → Nat
  | .idle => 0 | .erasing => 1 | .loading => 2 | .verified => 3 | .prepared => 4 | .handover => 5 | .trial => 6 | .confirming => 7 | .fallback => 8

/-- BUSY in every update state in which the state table has no row for the command (14 R409). -/
def updIn (l : List UpdMode) : Req → State → Bool := fun _ s => !l.contains s.img.mode

/-- Trial seconds that remain (14 R409, R415). -/
def State.trialLeft (s : State) : Nat :=
  let g := s.img
  if g.mode = .trial then
    let now := match g.trialStop with | some t => t | none => s.tim.ticks
    ceilDiv (g.trialAt + ticksS (g.trialSecs g.target) - now) 312500000
  else 0

/-- 0x081 IMG.STATUS_READ (14 R415). -/
def imgStatusRead : CmdSpec where
  opcode := 0x081
  lenOk := lenIs 0
  changes := fun _ => false
  run := fun _ s =>
    let g := s.img
    { st := s
      payload :=
        [pack [(32, 4, g.mode.code), (30, 2, g.runSlot), (28, 2, g.target), (27, 1, b1 g.configOnly)], g.word 0 0, g.word 1 0, g.version g.runSlot,
         if g.target ≤ 1 ∧ (g.word g.target 2) = 0x4E4633606 then g.version g.target else 0,
         pack [(20, 16, s.trialLeft), (16, 4, g.lastFallback)], pack [(16, 20, g.written)]] }

/-- Meaning of IMG_STATUS_READ. -/
def execImgStatusRead (r : Req) (s : State) : Res := .next (mailbox imgStatusRead r s)

/-- 0x082 IMG.BEGIN (14 R408, R409, R416). -/
def imgBegin : CmdSpec where
  opcode := 0x082
  lenOk := lenIs 0
  busy := fun r s => updIn [.idle, .erasing, .loading, .verified, .prepared] r s || (s.img.mode == .idle && !s.tokenFree 0 0)
  run := fun r s =>
    if s.inSession r && s.img.flash then
      let t := if s.img.runSlot = 0 then 1 else 0
      let s1 := if s.img.mode = .idle then s.takeToken 0 0 else s
      { st := (s1.modImg fun g => { g with target := t, written := 0, prepared := false, configOnly := false }).updTo .erasing
        payload := [pack [(35, 1, t)]] }
    else .fail s .refused

/-- Meaning of IMG_BEGIN. -/
def execImgBegin (r : Req) (s : State) : Res := .next (mailbox imgBegin r s)

/-- Meaning of IMG_ERASE_COMPLETE, `dt` ticks after the last command (14 R409). -/
def execImgEraseComplete (dt : Nat) (s : State) : Res :=
  .next (
    if s.img.mode = .erasing then
      ((s.adv dt).modImg fun g => if g.target = 0 then { g with slotA := [] } else { g with slotB := [] }).updTo .loading
    else s)

/-- 0x083 IMG.WRITE (14 R417). -/
def imgWrite : CmdSpec where
  opcode := 0x083
  lenOk := fun n => decide (2 ≤ n ∧ n ≤ 255)
  busy := updIn [.loading]
  fields := fun r s => [[fNeed 35 16 fun o => decide (o ≤ 838858) && s.inSession r]]
  run := fun r s =>
    let o := r.fld 1 35 16
    let ws := r.words.drop 1
    if o + ws.length ≤ 838859 ∧ s.img.room s.img.target (o + 1) ws.length then
      { st := s.modImg fun g => { g.setWords g.target (o + 1) ws with written := g.written + ws.length } }
    else .fail s .refused

/-- Meaning of IMG_WRITE. -/
def execImgWrite (r : Req) (s : State) : Res := .next (mailbox imgWrite r s)

/-- The measurement as 12 words, most significant first (14 R418). -/
def ImgSt.measWords (g : ImgSt) (n : Nat) : List Word := Sys2Proof.Machine.measWords (g.measurement n)

/-- The words of a passed IMG.VERIFY (14 R418). -/
def State.verifyWords (s : State) (checked : Bool) : List Word :=
  let g := s.img
  let t := g.target
  let clamps := (g.repV.filter fun e => fld (e.headD 0) 15 8 == 1).length
  [pack [(28, 8, g.format t), (27, 1, b1 g.configOnly), (26, 1, b1 checked), (6, 20, (g.records t).length)]] ++ g.measWords t ++
    [pack [(26, 10, min 1023 clamps), (16, 10, min 1023 (g.repV.length - clamps))]]

/-- 0x084 IMG.VERIFY (14 R405, R406, R409, R410, R418). -/
def imgVerify : CmdSpec where
  opcode := 0x084
  lenOk := lenIs 0
  busy := updIn [.loading, .verified]
  run := fun _ s =>
    let t := s.img.target
    let run := s.img.runSlot
    if s.imageValid t ∧ s.img.sequence run < s.img.sequence t then
      let checked := decide (s.img.format t ≤ s.img.format run)
      let s1 := if checked then s.verifyReport t else s.modImg fun g => { g with repV := [], omitV := 0 }
      let s2 := (s1.modImg fun g => { g with configOnly := g.measurement t == g.measurement run }).slotTo t .written
      let s3 := s2.updTo .verified
      { st := s3, payload := s3.verifyWords checked }
    else { st := s.updTo .loading, code := .refused, keep := true }

/-- Meaning of IMG_VERIFY. -/
def execImgVerify (r : Req) (s : State) : Res := .next (mailbox imgVerify r s)

/-- The keys that the new firmware needs: those with a blob in the running slot (14 R412, 15 R434; log 49). -/
def State.neededKeys (s : State) : List (Nat × KeySlot) := s.key.slots.filter fun e => userSlot e.1 && e.2.valid && e.2.persisted

/-- 0x085 IMG.PREPARE (14 R410, R412, R419). -/
def imgPrepare : CmdSpec where
  opcode := 0x085
  lenOk := lenIs 0
  unkeyed := needsKeys
  busy := updIn [.verified]
  run := fun r s =>
    let g := s.img
    match s.key.rs with
    | some rs =>
      if s.inSession r && !g.configOnly && !g.prepared then
        let ks := s.neededKeys
        let ws := (ks.map fun e => blobWords (bkOf rs (g.measurement g.target)) e.1 e.2).flatten
        match s.appendBlobs g.target ws with
        | some t => { st := (t.modImg fun g => { g with prepared := true }).updTo .prepared, payload := [pack [(28, 8, ks.length)]] }
        | none => .fail s .refused
      else .fail s .refused
    | none => .fail s .refused

/-- Meaning of IMG_PREPARE. -/
def execImgPrepare (r : Req) (s : State) : Res := .next (mailbox imgPrepare r s)

/-- 0x086 IMG.HANDOVER (14 R409 to R412, R420). -/
def imgHandover : CmdSpec where
  opcode := 0x086
  lenOk := lenIs 0
  busy := fun _ s => !(s.img.mode == .prepared || (s.img.mode == .verified && (!s.keyed || s.img.configOnly)))
  run := fun r s =>
    let g := s.img
    if s.inSession r ∧ s.pair.mode = .normal ∧ g.configOnly = false ∧ g.liningMinOf g.target ≤ g.liningVerOf g.runSlot then
      let s1 := (s.updTo .handover).modImg fun g => { g with handoverAt := s.tim.ticks, waiter := some r.path }
      { st := s1.restartStandby s1.img.target, later := true }
    else .fail s .refused

/-- Meaning of IMG_HANDOVER. -/
def execImgHandover (r : Req) (s : State) : Res := .next (mailbox imgHandover r s)

/-- 0x087 IMG.CONFIRM (14 R409, R410, R421). -/
def imgConfirm : CmdSpec where
  opcode := 0x087
  lenOk := lenIs 0
  busy := updIn [.verified, .trial]
  run := fun r s =>
    let g := s.img
    if !s.inSession r then .fail s .refused
    else if g.mode = .verified then
      if g.configOnly then { st := ((s.slotTo g.target .confirmed).slotTo g.runSlot .superseded).updTo .idle } else .fail s .refused
    else
      let s1 := (s.slotTo g.target .confirmed).slotTo g.runSlot .superseded
      let s2 := ((s1.modImg fun g => { g with runSlot := g.target }).modKey fun k => { k with signers := [g.signer g.target, g.signer 2] }).updTo .confirming
      { st := s2.restartStandby s2.img.runSlot }

/-- Meaning of IMG_CONFIRM. -/
def execImgConfirm (r : Req) (s : State) : Res := .next (mailbox imgConfirm r s)

/-- 0x088 IMG.ROLLBACK (14 R409, R414, R422). -/
def imgRollback : CmdSpec where
  opcode := 0x088
  lenOk := lenIs 0
  busy := updIn [.idle, .erasing, .loading, .verified, .prepared, .trial]
  run := fun r s =>
    let g := s.img
    if !s.inSession r || g.mode == .idle then .fail s .refused
    else if g.mode = .trial then { st := (s.fallBack 1).modImg fun g => { g with waiter := some r.path }, later := true }
    else { st := (if g.slotMode g.target = .empty then s else s.slotTo g.target .rejected).updTo .idle, payload := [0] }

/-- Meaning of IMG_ROLLBACK. -/
def execImgRollback (r : Req) (s : State) : Res := .next (mailbox imgRollback r s)

/-- 0x089 IMG.REPORT_READ (14 R423). -/
def imgReportRead : CmdSpec where
  opcode := 0x089
  lenOk := lenIs 1
  changes := fun _ => false
  fields := fun _ _ => [[fAny 35 35, fAny 34 26, fMin 25 20 1]]
  run := fun r s =>
    let g := s.img
    let es := if r.bit 1 35 then g.repS else g.repV
    { st := s
      payload := pack [(26, 10, es.length), (14, 12, if r.bit 1 35 then g.omitS else g.omitV)] ::
        ((es.drop (r.fld 1 34 26)).take (r.fld 1 25 20)).flatten }

/-- Meaning of IMG_REPORT_READ. -/
def execImgReportRead (r : Req) (s : State) : Res := .next (mailbox imgReportRead r s)

end Sys2Proof.Machine
end

