-- ==== Sys2Proof/Machine/Internal.lean ====
section
/-! DEFINITION. The internal address map: blocks, what their words hold, and address errors (01 R21 to R23; 13 R391; 14 R393, R406;
15 R424, R426; 18 R525). -/

namespace Sys2Proof.Machine

/-! ### Addresses -/

/-- MEMBER of an internal address (01 R21). -/
def addrMember (a : Nat) : Nat := bitsOf a 31 30
/-- DIE of an internal address (01 R21). -/
def addrDie (a : Nat) : Nat := bitsOf a 29 27
/-- BLOCK of an internal address (01 R21). -/
def addrBlock (a : Nat) : Nat := bitsOf a 26 20
/-- OFFSET of an internal address (01 R21). -/
def addrOffset (a : Nat) : Nat := bitsOf a 19 0

/-- The extents of the defined blocks, as (die kind, block, extent): die kind 0 D0, 1 D1 and D2, 3 D3 and D4, 5 D5 (01 R22). -/
def extents : List (Nat × Nat × Nat) :=
  [(0, 0x00, 1024), (0, 0x01, 16384), (0, 0x02, 16384), (0, 0x03, 4096), (0, 0x04, 1024), (0, 0x05, 256), (0, 0x06, 64), (0, 0x07, 256),
   (0, 0x08, 65536), (0, 0x09, 16384)] ++
  [(1, 0x00, 4096), (1, 0x01, 16384), (1, 0x08, 65536), (1, 0x09, 49152), (1, 0x0A, 4096), (1, 0x0B, 8192), (1, 0x0C, 8192),
   (1, 0x0D, 34816), (1, 0x0E, 16384), (1, 0x0F, 65536), (1, 0x10, 262144), (1, 0x11, 65536), (1, 0x18, 163840), (1, 0x20, 1048576),
   (1, 0x21, 1048576), (1, 0x22, 147968), (1, 0x30, 256), (1, 0x31, 4096), (1, 0x32, 1024)] ++
  [(3, 0x00, 13312), (3, 0x01, 65536), (5, 0x00, 16384), (5, 0x01, 65536), (5, 0x02, 65536), (5, 0x03, 256)]

/-- The die whose map a die has (01 R22). -/
def dieKind (d : Nat) : Nat := if d = 2 then 1 else if d = 4 then 3 else d

/-- The extent of a block of a die; an unassigned block has none (01 R22). -/
def blockExtent (d b : Nat) : Option Nat := (extents.find? fun e => e.1 == dieKind d && e.2.1 == b).map fun e => e.2.2

/-- Blocks that R22 marks "depot read". -/
def depotRead (d b : Nat) : Bool :=
  (d == 0 && [0x05, 0x07, 0x08, 0x09].contains b) || (dieKind d == 1 && [0x0A, 0x10, 0x11, 0x20, 0x21, 0x22].contains b)

/-- The key store, which is never accessed through an address (01 R23). -/
def isKeyStore (a : Nat) : Bool := addrDie a == 0 && addrBlock a == 3

/-- An address of this package that an access can reach (01 R22, R23). -/
def addrOk (a : Nat) : Bool :=
  decide (addrDie a ≤ 5) && !isKeyStore a &&
    (match blockExtent (addrDie a) (addrBlock a) with | some n => decide (addrOffset a < n) | none => false)

/-! ### Words -/

/-- The four words of a fault-log entry (18 R525). -/
def FaultEntry.words (e : FaultEntry) : List Word :=
  [pack [(28, 8, e.code), (25, 3, e.die), (23, 2, e.cls), (15, 8, e.rep), (4, 11, e.boot)], w36 e.detail] ++ words72 e.time

/-- Words 16 to 8 191 of the fault log: the entry whose place in the circle of 2 044 this is (18 R525). -/
def SysSt.logWord (y : SysSt) (off : Nat) : Word :=
  let n := (off - 16) / 4
  let first := y.logTotal - y.log.length
  let e := (y.log.getD ((n + 2044 - first % 2044) % 2044) {})
  e.words.getD ((off - 16) % 4) 0

/-- A word of an image report (14 R406). -/
def reportWord (es : List (List Word)) (k : Nat) : Word := (es.getD (k / 4) []).getD (k % 4) 0

/-- A word of the one-time-programmable store (14 R393, 15 R424). -/
def State.otpWord (s : State) (off : Nat) : Word :=
  let k := s.key
  if 256 ≤ off then Config.factoryWord (off - 256)
  else if off ≤ 1 then Config.uidWord off
  else if off ≤ 15 then Config.trimWord off
  else if off ≤ 63 then pack [(0, 32, k.vhash ((off - 16) / 12) / 2 ^ (32 * (11 - (off - 16) % 12)))]
  else if off = 64 then pack [(32, 4, 3 + 4 * k.vValid), (28, 4, k.vRevoked), (20, 8, 15 + 16 * k.vRole)]
  else 0

/-- A word of a block whose layout the spec gives; none elsewhere (01 R22). -/
def State.knownWord (s : State) (a : Nat) : Option Word :=
  let off := addrOffset a
  if addrDie a = 0 then
    match addrBlock a with
    | 0x00 => if off ≤ 5 then some (s.d0Word .spi off) else some 0
    | 0x05 =>
      if off ≤ 11 then some ((measWords (s.key.meas .west)).getD off 0)
      else if 16 ≤ off ∧ off ≤ 27 then some ((measWords (s.key.meas .east)).getD (off - 16) 0) else none
    | 0x08 => some (s.otpWord off)
    | 0x09 =>
      if off < 16 ∨ 12288 ≤ off then none
      else if off < 8192 then some (s.sys.logWord off)
      else if off < 10240 then some (reportWord s.img.repV (off - 8192)) else some (reportWord s.img.repS (off - 10240))
    | _ => none
  else none

/-- The core whose local SRAM an address lies in, block 0x18 of its die (01 R22). -/
def sramOf (a : Nat) : Option Fab := if dieKind (addrDie a) = 1 ∧ addrBlock a = 0x18 then some (fabOf (addrDie a - 1)) else none

/-- The word at an address of this package: as its block lays it out; else as the bridge last wrote it; else open, by address and
count of free values (logs 3, 55). -/
def State.intWord (s : State) (a : Nat) : Word :=
  match s.knownWord a with
  | some w => w
  | none =>
    (match sramOf a with
     | some d => Tbl.get noneAt (s.core d).sram (addrOffset a)
     | none => Tbl.get noneAt s.stk.raw (a % 2 ^ 30)).getD (Config.registerWord a s.free)

/-- The die of the active core, which decodes and requests for the package. -/
def State.reqDie (s : State) : Nat := s.pair.active.num

/-- An access to an address of this package that cannot be made: counted and logged; the key store's also raises the tamper
event (01 R23; 15 R435). -/
def State.badAccess (s : State) (a : Nat) : State :=
  let d := if addrDie a ≤ 5 then addrDie a else s.reqDie
  let s1 := s.addrError d a
  if isKeyStore a then s1.tamper 7 none else s1

/-- Read one word of this package (01 R22, R23). -/
def State.intRead (s : State) (a : Nat) : State × Word :=
  if addrOk a then (if (s.knownWord a).isSome then s else s.useFree, s.intWord a) else (s.badAccess a, 0)

/-- Read `n` words of this package in ascending order. -/
def State.intReads (s : State) (a : Nat) : Nat → State × List Word
  | 0 => (s, [])
  | n + 1 =>
    let x := s.intRead a
    let y := x.1.intReads (a + 1) n
    (y.1, x.2 :: y.2)

/-- Write one word of this package: a word whose layout the spec gives is not writable through the map; another is kept as it is
(01 R22, R23; log 55). -/
def State.intWrite (s : State) (a : Nat) (w : Word) : State :=
  if addrOk a then
    if (s.knownWord a).isSome then s
    else match sramOf a with
    | some d => s.modCore d fun k => { k with sram := Tbl.put noneAt k.sram (addrOffset a) (some w) }
    | none => s.modStk fun k => { k with raw := Tbl.put noneAt k.raw (a % 2 ^ 30) (some w) }
  else s.badAccess a

/-- Write words of this package in ascending order. -/
def State.intWrites (s : State) (a : Nat) : List Word → State
  | [] => s
  | w :: ws => (s.intWrite a w).intWrites (a + 1) ws

end Sys2Proof.Machine
end

