-- ==== Sys2Proof/Machine/Stack.lean ====
section
/-! DEFINITION. The stack: HELLO and the stack state, the sleep messages, and the management bridge (17 R498 to R508). -/

namespace Sys2Proof.Machine

/-! ### Frames for the bridge engine -/

/-- Word `i`, from 0, of a stack-control or bridge frame (17 R498, R499). -/
def msgWord (bytes : List Byte) (i : Nat) : Word := w36 (beVal (slice bytes (14 + 5 * i) 5))

/-- Whether an entry of the inbox is of this TYPE with this code in bits 35:32 of its first word. -/
def isMsg (ty code : Nat) (e : Nat × Nat × List Byte) : Bool := e.1 == ty && fld (msgWord e.2.2 0) 35 32 == code

/-- Take the oldest frame that waits at a Hem port when it is of this kind: the sender and its bytes. -/
def State.takeMsg (s : State) (p ty code : Nat) : Option (State × Nat × List Byte) :=
  match (Tbl.get HemCtr.dflt s.stk.hems p).inbox with
  | [] => none
  | e :: rest =>
    if isMsg ty code e then
      some (s.modStk fun k => { k with hems := Tbl.upd HemCtr.dflt k.hems p fun c => { c with inbox := rest } }, e.2.1, e.2.2)
    else none

/-! ### Membership -/

/-- Each change of the stack state makes a fault-log entry (17 R500; 18 R523). -/
def State.stackTo (s : State) (m : StackMode) : State :=
  if s.stk.mode = m then s else (s.modStk fun k => { k with mode := m }).logFault 0x19 0 m.code

/-- A HELLO with its arrival (17 R498). -/
def helloOf (bytes : List Byte) (now : Nat) : Hello :=
  let w := msgWord bytes 0
  { member := fld w 31 30, state := fld w 29 27, master := fld w 26 25, reach := fld w 24 23, awakeS := fld w 21 0, at_ := now }

/-- Whether a HELLO reaches a master (17 R498). -/
def Hello.reaches (h : Hello) : Bool := (h.state == 1 || h.state == 2 || h.state == 4) && decide (h.reach ≤ 2)

/-- A tick lies within the last 5 ms (17 R500, R505). -/
def State.recent (s : State) (t : Nat) : Bool := decide (s.tim.ticks ≤ t + ticksMs 5)

/-- The last HELLO of a Hem port, while it is not older than 5 ms. -/
def State.hello (s : State) (p : Nat) : Option Hello :=
  match (Tbl.get HemCtr.dflt s.stk.hems p).hello with
  | some h => if s.recent h.at_ then some h else none
  | none => none

/-- Hem links from a Hem port to master `m` (17 R498). -/
def State.portReach (s : State) (p m : Nat) : Option Nat :=
  match s.hello p with
  | some h => if h.reaches && h.master == m then some (min 3 (h.reach + 1)) else none
  | none => none

/-- The slave port chosen when the package becomes a member (17 R498). -/
def State.chooseSlave (s : State) (m : Nat) : Nat :=
  match s.portReach 2 m, s.portReach 15 m with
  | some a, some b => if a < b then 2 else if b < a then 15 else if (s.gptp 2).role ≠ 1 ∧ (s.gptp 15).role = 1 then 15 else 2
  | none, some _ => 15
  | _, _ => 2

/-- A Hem port becomes the slave port (08 R226, 17 R498). -/
def State.takeSlave (s : State) (p : Nat) : State := s.modTim fun t => { t with slavePort := some p, syncHeard := some t.ticks }

/-- The package follows master `m` (17 R498, R500). -/
def State.join (s : State) (m : Nat) : State :=
  let r := min ((s.portReach 2 m).getD 3) ((s.portReach 15 m).getD 3)
  ((s.modStk fun k => { k with master := m, reach := r, masterAt := s.tim.ticks }).takeSlave (s.chooseSlave m)).stackTo .member

/-- A HELLO that reaches the member's master: reach and slave port (17 R498). -/
def State.heardMaster (s : State) (p : Nat) : State :=
  let m := s.stk.master
  let r := min ((s.portReach 2 m).getD 3) ((s.portReach 15 m).getD 3)
  let s1 := s.modStk fun k => { k with reach := r, masterAt := s.tim.ticks }
  match s1.tim.slavePort with
  | none => s1.takeSlave p
  | some q =>
    match s1.portReach q m, s1.portReach (17 - q) m with
    | some a, some b => if b < a then s1.takeSlave (17 - q) else s1
    | _, _ => s1

/-- Meaning of STACK_HELLO_RX: the HELLO that waits at a Hem port (17 R498, R500). -/
def execStackHelloRx (port : Nat) (s : State) : Res :=
  .next (
    match s.takeMsg port 2 1 with
    | none => s
    | some (s0, _, bytes) =>
      let h := helloOf bytes s.tim.ticks
      let s1 := s0.modStk fun k =>
        { k with hems := Tbl.upd HemCtr.dflt k.hems port fun c => { c with hello := some h },
                 heard := Tbl.put noneAt k.heard h.member (some s.tim.ticks) }
      if h.member = s.sys.member then (if s.stk.mode = .single then s1 else s1.stackTo .conflict)
      else
        match s.stk.mode with
        | .orphan => if h.reaches then s1.join h.master else s1
        | .acting => if (h.member = 0 ∧ h.state = 1) ∨ (h.state = 4 ∧ h.member < s.sys.member) then s1.join h.member else s1
        | .member => if h.reaches && h.master == s.stk.master then s1.heardMaster port else s1
        | _ => s1)

/-- Meaning of HELLO_TX: at the next whole millisecond each Hem port sends a HELLO (17 R498). -/
def execHelloTx (s : State) : Res :=
  .next (if s.stk.mode = .single then s else (s.advTick ((s.tim.ticks / ticksMs 1 + 1) * ticksMs 1)).stackSend 1 false)

/-- The package stands alone: its source of time is lost and it runs its own agreement (17 R500). -/
def State.orphaned (s : State) : State :=
  (((s.modTim fun t => { t with slavePort := none, syncHeard := none, relay := none }).sourceLost).restartTimer).stackTo .orphan

/-- Meaning of MASTER_LOST: 5 ms without a HELLO that reaches the master (17 R500). -/
def execMasterLost (s : State) : Res :=
  .next (if s.stk.mode = .member then (s.advTick (s.stk.masterAt + ticksMs 5)).orphaned else s)

/-! ### The sleep agreement of the stack -/

/-- Meaning of STACK_MATCH_RX: a member's match restarts the master's timer, or is a wake source (17 R507; 16 R473, R474). -/
def execStackMatchRx (port : Nat) (s : State) : Res :=
  .next (
    match s.takeMsg port 2 2 with
    | none => s
    | some (s0, _, bytes) =>
      if s0.isMaster then
        match s0.pow.mode with
        | .awake => if bit1 (msgWord bytes 0) 22 then s0.restartTimer.restartAwake else s0.restartTimer
        | _ => s0.wakeSource { kind := 9, src := port }
      else s0)

/-- A message of the sleep agreement counts when it comes from the member's master (17 R507). -/
def State.fromMaster (s : State) (bytes : List Byte) : Bool := s.follows && fld (msgWord bytes 0) 31 30 == s.stk.master

/-- Meaning of STACK_PREPARE_RX (17 R507; 16 R474). -/
def execStackPrepareRx (port : Nat) (s : State) : Res :=
  .next (
    match s.takeMsg port 2 3 with
    | none => s
    | some (s0, _, bytes) => if s0.fromMaster bytes ∧ s0.pow.mode = .awake then s0.enterPrepare else s0)

/-- Meaning of STACK_CANCEL_RX (17 R507; 16 R474). -/
def execStackCancelRx (port : Nat) (s : State) : Res :=
  .next (
    match s.takeMsg port 2 4 with
    | none => s
    | some (s0, _, bytes) =>
      if s0.fromMaster bytes ∧ s0.pow.mode = .prepare then (s0.cancelPrepare.wakeRecord { kind := 12, cancel := true }).restartAwake
      else s0)

/-- Meaning of STACK_COMMIT_RX (17 R507; 16 R474). -/
def execStackCommitRx (port : Nat) (s : State) : Res :=
  .next (
    match s.takeMsg port 2 5 with
    | none => s
    | some (s0, _, bytes) => if s0.fromMaster bytes ∧ s0.pow.mode = .prepare then s0.commitSleep else s0)

/-! ### The bridge as requester -/

/-- Send a bridge message on a Hem port, in PTP_QUEUE (17 R499, R501). -/
def State.sendBridge (s : State) (p : Nat) (ws : List Word) : State := s.inject p s.tim.cfg.ptpQueue .bridge (s.stackFrame ws)

/-- The words of a request (17 R501). -/
def BridgeReq.words (q : BridgeReq) : List Word :=
  [pack [(32, 4, q.burst.op), (26, 6, q.tag), (20, 6, q.burst.count)], pack [(0, 32, q.burst.addr)]] ++ q.burst.data

/-- The Hem port behind which a member has sent a HELLO within 5 ms (17 R505). -/
def State.portToMember (s : State) (m : Nat) : Option Nat :=
  [2, 15].find? fun p => match s.hello p with | some h => h.member == m | none => false

/-- Keep a job, in place of the one of its path. -/
def State.keepJob (s : State) (j : Job) : State :=
  s.modStk fun k => { k with jobs := (k.jobs.filter fun x => x.path ≠ j.path) ++ [j] }

/-- A job and its requests are gone. -/
def State.dropJob (s : State) (p : Path) : State :=
  s.modStk fun k => { k with jobs := k.jobs.filter fun x => x.path ≠ p, reqs := k.reqs.filter fun q => q.path ≠ p }

/-- Issue a burst of a job on a Hem port (17 R501, R502). -/
def State.issue (s : State) (p : Nat) (path : Path) (b : Burst) : State :=
  let q : BridgeReq := { tag := s.stk.nextTag, burst := b, port := p, peer := addrMember b.addr, at_ := s.tim.ticks, path := path }
  (s.modStk fun k => { k with nextTag := (k.nextTag + 1) % 64, reqs := k.reqs ++ [q] }).sendBridge p q.words

/-- Issue the first of a job's bursts, one at a time; a job whose member is gone waits for its time to run out (17 R502, R505). -/
def State.issueFirst (s : State) (j : Job) (bs : List Burst) : State :=
  match bs with
  | [] => s.keepJob { j with todo := [] }
  | b :: rest =>
    match s.portToMember j.member with
    | some p => (s.keepJob { j with todo := rest }).issue p j.path b
    | none => s.keepJob { j with todo := bs }

/-- Cut `n` words from address `a` into bursts of at most 64 words, at every multiple of 64 (17 R502); at most `f` bursts. -/
def cutBursts (op a : Nat) (data : List Word) (n : Nat) : Nat → List Burst
  | 0 => []
  | f + 1 =>
    if n = 0 then []
    else
      let k := min n (64 - a % 64)
      { op := op, addr := a, count := k, data := data.take k } :: cutBursts op (a + k) (data.drop k) (n - k) f

/-- The internal address of word `k` of a member's relay mailbox: 0 to 255 the request, 256 to 511 the response (17 R510; log 56). -/
def relayAddr (m k : Nat) : Nat := m * 2 ^ 30 + (Config.relayBlock % 2 ^ 21) * 512 + k

/-- STACK.RELAY has its inner response, or cannot hold it (17 R510). -/
def State.relayDone (s : State) (j : Job) : State :=
  let t := s.dropJob j.path
  if 254 < j.got.length then t.finish j.path .noSpace [] [] else t.finish j.path .done (pack [(34, 2, j.member)] :: j.got) []

/-- The bursts of a job have been answered: the next part of its work (13 R391; 17 R510). -/
def State.jobEnd (s : State) (j : Job) : State :=
  let pollHdr : List Burst := [{ op := 2, addr := relayAddr j.member 256, count := 1 }]
  match j.mode with
  | .diag => (s.dropJob j.path).finish j.path .done j.got []
  | .write => s.issueFirst { j with mode := .poll, got := [] } pollHdr
  | .poll =>
    let h := j.got.headD 0
    let n := fld h 23 16
    if h = 0 then s.issueFirst { j with got := [] } pollHdr
    else if n = 0 ∨ 254 < n + 1 then s.relayDone (if 254 < n + 1 then { j with got := List.replicate 255 0 } else j)
    else s.issueFirst { j with mode := .body } (cutBursts 2 (relayAddr j.member 257) [] n 8)
  | .body => s.relayDone j

/-- A DIAG.READ of another member goes on with these bursts: the range of a member that is gone reads 0 as address errors (17 R505). -/
def State.diagRun (s : State) (j : Job) : List Burst → State
  | [] => s.jobEnd { j with todo := [] }
  | b :: rest =>
    match s.portToMember j.member with
    | some p => (s.keepJob { j with todo := rest }).issue p j.path b
    | none =>
      ((List.range b.count).foldl (fun s i => s.addrError s.reqDie (b.addr + i)) s).diagRun { j with got := j.got ++ List.replicate b.count 0 } rest

/-- A request has its answer, or has failed: the words read, 0 where it failed (17 R502). -/
def State.reqDone (s : State) (q : BridgeReq) (ok : Bool) (ws : List Word) : State :=
  let s1 := s.modStk fun k => { k with reqs := k.reqs.erase q }
  match s1.stk.jobs.find? fun j => j.path == q.path with
  | none => s1
  | some j =>
    let j1 := { j with got := j.got ++ (if q.burst.op = 2 then (if ok then ws else List.replicate q.burst.count 0) else []) }
    if j.mode = .diag then s1.diagRun j1 j1.todo
    else if !ok then s1
    else match j1.todo with
    | [] => s1.jobEnd j1
    | b :: rest => s1.issueFirst j1 (b :: rest)

/-- A request is withdrawn and issued again after 1 µs to 8 µs (17 R503). -/
def State.backOff (s : State) (q : BridgeReq) : State :=
  let n := ticksUs 1 + s.freeBelow (ticksUs 8 - ticksUs 1 + 1)
  (s.useFree.modStk fun k =>
    { k with backoffs := sat36 k.backoffs 1, reqs := k.reqs.map fun x => if x = q then { x with backoff := some (s.tim.ticks + n) } else x }).satRaise
      s.stk.backoffs 1 fun t => t.raiseDev .countSat

/-- A response for the request of its TAG on its link (17 R502, R503). -/
def State.bridgeAnswer (s : State) (port : Nat) (bytes : List Byte) (ofOps : List Nat) : State :=
  let w := msgWord bytes 0
  match s.stk.reqs.find? fun q => q.tag == fld w 31 26 && q.port == port && ofOps.contains q.burst.op && q.backoff.isNone with
  | none => s
  | some q =>
    if fld w 19 16 = 2 then s.backOff q
    else s.reqDone q (fld w 19 16 == 0) ((List.range q.burst.count).map fun i => msgWord bytes (i + 2))

/-- Meaning of BRIDGE_WACK_RX (17 R502). -/
def execBridgeWackRx (port : Nat) (s : State) : Res :=
  .next (match s.takeMsg port 1 5 with | none => s | some (s0, _, bytes) => s0.bridgeAnswer port bytes [1, 4])

/-- Meaning of BRIDGE_RDATA_RX (17 R502). -/
def execBridgeRdataRx (port : Nat) (s : State) : Res :=
  .next (match s.takeMsg port 1 6 with | none => s | some (s0, _, bytes) => s0.bridgeAnswer port bytes [2, 3])

/-- Meaning of BRIDGE_BACKOFF_EXPIRY: the oldest withdrawn request is issued again (17 R503). -/
def execBridgeBackoffExpiry (s : State) : Res :=
  .next (
    match s.stk.reqs.find? fun q => q.backoff.isSome with
    | none => s
    | some q =>
      let s1 := s.advTick (q.backoff.getD 0)
      (s1.modStk fun k => { k with reqs := k.reqs.map fun x => if x = q then { x with backoff := none, at_ := s1.tim.ticks } else x }).sendBridge
        q.port q.words)

/-- Meaning of BRIDGE_TIMEOUT: 100 µs without a response to the oldest request; it fails with STATUS 4 (17 R502; 18 R523). -/
def execBridgeTimeout (s : State) : Res :=
  .next (
    match s.stk.reqs.find? fun q => q.backoff.isNone with
    | none => s
    | some q =>
      let s1 := (s.advTick (q.at_ + ticksUs 100)).modStk fun k => { k with timeouts := sat36 k.timeouts 1 }
      ((s1.satRaise s.stk.timeouts 1 fun t => t.raiseDev .countSat).logFault 0x1A s.reqDie 0).reqDone q false [])

/-- Meaning of RELAY_TIMEOUT: 1 s without an inner response for a path's STACK.RELAY (17 R510). -/
def execRelayTimeout (path : Path) (s : State) : Res :=
  .next (
    match s.stk.jobs.find? fun j => j.path == path && j.mode != .diag with
    | none => s
    | some j => ((s.advTick (j.at_ + ticksS 1)).dropJob path).finish path .timeout [] [])

/-! ### The bridge as target -/

/-- A request as it arrived: its sender's link, TAG, COUNT, address and data (17 R501). -/
structure BridgeIn where
  /-- Hem port. -/
  port : Nat
  /-- Sender on the link. -/
  src : Nat
  /-- TAG. -/
  tag : Nat
  /-- COUNT, 1 to 64. -/
  count : Nat
  /-- Internal address. -/
  addr : Nat
  /-- Data words. -/
  data : List Word
deriving DecidableEq, Repr

/-- A bridge request read from its frame (17 R501). -/
def bridgeIn (port src : Nat) (bytes : List Byte) : BridgeIn :=
  let w := msgWord bytes 0
  let n := if fld w 25 20 = 0 then 64 else fld w 25 20
  { port := port, src := src, tag := fld w 31 26, count := n, addr := fld (msgWord bytes 1) 31 0,
    data := (List.range n).map fun i => msgWord bytes (i + 2) }

/-- Answer a request with WACK or RDATA (17 R501, R502). -/
def State.answer (s : State) (b : BridgeIn) (op status : Nat) (ws : List Word) : State :=
  s.sendBridge b.port ([pack [(32, 4, op), (26, 6, b.tag), (20, 6, b.count), (16, 4, status)], pack [(0, 32, b.addr)]] ++ ws)

/-- Whether an address lies in the relay mailbox (log 56). -/
def isRelay (a : Nat) : Bool := a % 2 ^ 30 / 512 == Config.relayBlock % 2 ^ 21

/-- A relayed request is written: its last word submits it as a request of owner 0x45 (17 R510). -/
def State.relayWrite (s : State) (k : Nat) (ws : List Word) : State :=
  let s1 := s.modPath .relay fun q =>
    { q with window := Tbl.puts (fun _ => (0 : Word)) (if k = 0 then [] else q.window) k ws, fifo := if k = 0 then [] else q.fifo }
  let m := (s1.path .relay).windowReq .relay
  let last := m.2.words.length
  if k ≤ last ∧ last < k + ws.length then (s1.submit m.1 m.2).answerBad .relay 16 else s1

/-- The addresses of a request that this package cannot reach. -/
def State.badAddrs (s : State) (b : BridgeIn) : List Nat :=
  ((List.range b.count).map fun i => b.addr + i).filter fun a => addrMember a != s.sys.member || !(isRelay a || addrOk a)

/-- Execute a write: STATUS 1 and no effect on an address error (17 R501, R502; 01 R23). -/
def State.doWrite (s : State) (b : BridgeIn) : State × Nat :=
  if s.badAddrs b ≠ [] then ((s.badAddrs b).foldl State.badAccess s, 1)
  else if isRelay b.addr then ((if b.addr % 512 < 256 then s.relayWrite (b.addr % 512) b.data else s), 0)
  else (s.intWrites b.addr b.data, 0)

/-- Execute a read: STATUS 1 and zeros on an address error (17 R501, R502; 01 R23). -/
def State.doRead (s : State) (b : BridgeIn) : State × Nat × List Word :=
  if s.badAddrs b ≠ [] then ((s.badAddrs b).foldl State.badAccess s, 1, List.replicate b.count 0)
  else if isRelay b.addr then
    (s, 0, (List.range b.count).map fun i => (s.path .relay).fifo.getD (b.addr % 512 + i - 256) 0)
  else
    let x := s.intReads b.addr b.count
    (x.1, 0, x.2)

/-- A request of this package outstanding to the sender over the same link (17 R503). -/
def State.conflicts (s : State) (b : BridgeIn) : Option BridgeReq :=
  s.stk.reqs.find? fun q => q.port == b.port && q.peer == b.src && q.backoff.isNone

/-- Whether this package backs off before the sender: a member before the master, the higher member number before the lower
(17 R503). -/
def State.yields (s : State) (src : Nat) : Bool := !s.isMaster && (src == s.stk.master || decide (src < s.sys.member))

/-- Execute a request that has arrived, after the conflict rule (17 R503): `f` executes it, `op` is the kind of its answer. -/
def State.serveBridge (s : State) (b : BridgeIn) (op : Nat) (f : State → State) : State :=
  match s.conflicts b with
  | some q =>
    if s.yields b.src then f (s.backOff q) else s.answer b op 2 (if op = 6 then List.replicate b.count 0 else [])
  | none => f s

/-- The lock of the register bus of the die that an address names (17 R504). -/
def State.busLock (s : State) (a : Nat) : Option (Nat × Nat × Nat × Nat) := Tbl.get noneAt s.stk.locks (addrDie a)

/-- The request that waits at the head of a Hem port, unless it waits for a register bus (17 R504). -/
def State.takeRequest (s : State) (port op : Nat) : Option (State × BridgeIn) :=
  match s.takeMsg port 1 op with
  | none => none
  | some (s0, src, bytes) =>
    let b := bridgeIn port src bytes
    if addrMember b.addr = s.sys.member ∧ (s.busLock b.addr).isSome then none else some (s0, b)

/-- Meaning of BRIDGE_WRITE_RX (17 R502, R503). -/
def execBridgeWriteRx (port : Nat) (s : State) : Res :=
  .next (
    match s.takeRequest port 1 with
    | none => s
    | some (s0, b) => s0.serveBridge b 5 fun t => (t.doWrite b).1.answer b 5 (t.doWrite b).2 [])

/-- Meaning of BRIDGE_READ_RX (17 R502, R503). -/
def execBridgeReadRx (port : Nat) (s : State) : Res :=
  .next (
    match s.takeRequest port 2 with
    | none => s
    | some (s0, b) => s0.serveBridge b 6 fun t => (t.doRead b).1.answer b 6 (t.doRead b).2.1 (t.doRead b).2.2)

/-- Meaning of BRIDGE_LOCK_READ_RX: the read, and the lock of the die's register bus (17 R504). -/
def execBridgeLockReadRx (port : Nat) (s : State) : Res :=
  .next (
    match s.takeRequest port 3 with
    | none => s
    | some (s0, b) => s0.serveBridge b 6 fun t =>
      let x := t.doRead b
      let u := if x.2.1 = 0 then
          x.1.modStk fun k => { k with locks := Tbl.put noneAt k.locks (addrDie b.addr) (some (port, b.src, b.addr, s.tim.ticks)) }
        else x.1
      u.answer b 6 x.2.1 x.2.2)

/-- Take the oldest UNLOCK_WRITE of a Hem port: it passes requests that wait for the bus that it releases (17 R504). -/
def State.takeUnlock (s : State) (port : Nat) : Option (State × BridgeIn) :=
  let box := (Tbl.get HemCtr.dflt s.stk.hems port).inbox
  match box.find? (isMsg 1 4) with
  | none => none
  | some e =>
    some (s.modStk fun k => { k with hems := Tbl.upd HemCtr.dflt k.hems port fun c => { c with inbox := c.inbox.erase e } }, bridgeIn port e.2.1 e.2.2)

/-- Meaning of BRIDGE_UNLOCK_WRITE_RX: the write and the release, or lock expired (17 R504). -/
def execBridgeUnlockWriteRx (port : Nat) (s : State) : Res :=
  .next (
    match s.takeUnlock port with
    | none => s
    | some (s0, b) => s0.serveBridge b 5 fun t =>
      match t.busLock b.addr with
      | some (p, m, a, _) =>
        if p = port ∧ m = b.src ∧ a = b.addr then
          let u := t.modStk fun k => { k with locks := Tbl.put noneAt k.locks (addrDie b.addr) none }
          (u.doWrite b).1.answer b 5 (u.doWrite b).2 []
        else t.answer b 5 3 []
      | none => t.answer b 5 3 [])

/-- Meaning of BRIDGE_LOCK_EXPIRY: 20 µs without the UNLOCK_WRITE (17 R504). -/
def execBridgeLockExpiry (die : Nat) (s : State) : Res :=
  .next (
    match Tbl.get noneAt s.stk.locks die with
    | none => s
    | some (_, _, _, t) => (s.advTick (t + ticksUs 20)).modStk fun k => { k with locks := Tbl.put noneAt k.locks die none })

end Sys2Proof.Machine
end

