-- ==== Sys2Proof/Machine/StackCmds.lean ====
section
/-! DEFINITION. The STACK commands and DIAG.READ, which may cross the bridge (13 R391; 17 R509 to R511). -/

namespace Sys2Proof.Machine

/-! ### DIAG.READ -/

/-- COUNT of a DIAG.READ as used: 0 is clamped to 1 (13 R391). -/
def diagCount (r : Req) : Nat := max 1 (r.fld 2 35 28)

/-- Whether a member is this package or is present (17 R505). -/
def State.memberHere (s : State) (m : Nat) : Bool := m == s.sys.member || (s.portToMember m).isSome

/-- Whether DIAG.READ is refused: another source than the service port, or a range that is not within one depot-read block of a
present member (13 R391). -/
def State.diagBad (s : State) (r : Req) : Bool :=
  let a := r.fld 1 31 0
  r.path != .service ||
    (s.memberHere (addrMember a) &&
      (!depotRead (addrDie a) (addrBlock a) ||
        (match blockExtent (addrDie a) (addrBlock a) with | some n => decide (n < addrOffset a + diagCount r) | none => true)))

/-- 0x021 DIAG.READ (13 R391; 17 R502, R505). -/
def diagRead : CmdSpec where
  opcode := 0x021
  lenOk := lenIs 2
  changes := fun _ => false
  fields := fun r s =>
    [[fNeed 31 0 fun _ => !s.diagBad r], [{ fTo 35 28 (· == 0) 1 1 with bad := fun n => decide (254 < n) }]]
  run := fun r s =>
    let a := r.fld 1 31 0
    let n := diagCount r
    if addrMember a = s.sys.member then
      let x := s.intReads a n
      { st := x.1, payload := x.2 }
    else if (s.portToMember (addrMember a)).isSome then
      { st := s.diagRun { path := r.path, member := addrMember a, mode := .diag, at_ := s.tim.ticks } (cutBursts 2 a [] n 8), later := true }
    else
      let s1 := (List.range n).foldl (fun s i => s.addrError s.reqDie (a + i)) s
      { st := if isKeyStore a then s1.tamper 7 none else s1, payload := List.replicate n 0 }

/-- Meaning of DIAG_READ. -/
def execDiagRead (r : Req) (s : State) : Res := .next (mailbox diagRead r s)

/-! ### STACK commands -/

/-- The counters of the stack cleared (17 R509). -/
def StackSt.cleared (k : StackSt) : StackSt :=
  { k with timeouts := 0, backoffs := 0, hems := Tbl.remap HemCtr.dflt (fun c => { c with hdrErrors := 0, loops := 0 }) k.hems }

/-- 0x061 STACK.STATUS_READ (17 R509). -/
def stackStatusRead : CmdSpec where
  opcode := 0x061
  lenOk := lenIs 1
  changes := fun r => r.bit 1 35
  fields := fun _ _ => [[fAny 35 35]]
  run := fun r s =>
    let k := s.stk
    let hem (p : Nat) : HemCtr := Tbl.get HemCtr.dflt k.hems p
    let seen := maskOf ((List.range 4).filter fun m => match Tbl.get noneAt k.heard m with | some t => s.recent t | none => false)
    { st := if r.bit 1 35 then s.modStk StackSt.cleared else s
      payload :=
        [pack [(33, 3, k.mode.code), (31, 2, s.sys.member), (29, 2, k.master), (25, 4, seen), (23, 2, k.reach), (22, 1, b1 (s.tim.slavePort == some 15))],
         w36 (hem 2).hdrErrors, w36 (hem 2).loops, w36 (hem 15).hdrErrors, w36 (hem 15).loops, w36 k.timeouts, w36 k.backoffs] }

/-- Meaning of STACK_STATUS_READ. -/
def execStackStatusRead (r : Req) (s : State) : Res := .next (mailbox stackStatusRead r s)

/-- 0x062 STACK.RELAY (17 R510). -/
def stackRelay : CmdSpec where
  opcode := 0x062
  lenOk := fun n => decide (2 ≤ n)
  lenReq := fun r => r.words.length == r.fld 2 23 16 + 2
  fields := fun _ s =>
    [[fNeed 35 34 fun m => m != s.sys.member && (s.portToMember m).isSome], [fNeed 35 24 fun op => op != 0x062, fAny 23 0]]
  run := fun r s =>
    let m := r.fld 1 35 34
    let ws := r.words.drop 1
    { st := s.issueFirst { path := r.path, member := m, mode := .write, at_ := s.tim.ticks } (cutBursts 1 (relayAddr m 0) ws ws.length 8)
      later := true }

/-- Meaning of STACK_RELAY. -/
def execStackRelay (r : Req) (s : State) : Res := .next (mailbox stackRelay r s)

/-- Whether STACK.DESIGNATE is refused (17 R511). -/
def State.designateBad (s : State) (r : Req) : Bool :=
  !r.path.isHost ||
    (if r.bit 1 35 then s.stk.mode != .acting
     else s.stk.mode != .orphan || ([2, 15] : List Nat).any fun p => match s.hello p with | some h => h.state == 1 || h.state == 4 | none => false)

/-- 0x063 STACK.DESIGNATE (17 R500, R511). -/
def stackDesignate : CmdSpec where
  opcode := 0x063
  lenOk := lenIs 1
  fields := fun r s => [[fNeed 35 35 fun _ => !s.designateBad r]]
  run := fun r s =>
    { st :=
        if r.bit 1 35 then s.orphaned
        else
          (((s.modTim fun t => { t with slavePort := none, syncHeard := none, relay := none }).modStk fun k =>
            { k with master := s.sys.member, reach := 0 })).stackTo .acting }

/-- Meaning of STACK_DESIGNATE. -/
def execStackDesignate (r : Req) (s : State) : Res := .next (mailbox stackDesignate r s)

end Sys2Proof.Machine
end

