-- ==== Sys2Proof/Machine/Start.lean ====
section
/-! DEFINITION. Resets, start-up, the loss and the reload of a die, and the in-package links (18 R512 to R520, R523, R524; 14 R392, R401
to R407; 15 R434, R437; 01 R12). -/

namespace Sys2Proof.Machine

open Sys2Proof.Crypto

/-! ### States of start-up -/

/-- START_STATE (18 R527). -/
def StartMode.code : StartMode → Nat
  | .aoUp => 0 | .clockWait => 1 | .supplyWait => 2 | .sequence => 3 | .selftest => 4 | .image => 5 | .coreBoot => 6 | .keys => 7
  | .config => 8 | .locks => 9 | .forwarding => 10 | .haltPower => 12 | .haltImage => 13 | .haltSilicon => 14

/-- Start-up enters a state (18 R514). -/
def State.startTo (s : State) (m : StartMode) : State := s.modSys fun y => { y with start := m, since := s.tim.ticks }

/-- Start-up enters a HALT state: FAULT_N is driven low, and the log names the state (18 R514, R517, R556). -/
def State.halt (s : State) (m : StartMode) : State := ((s.startTo m).modSys fun y => { y with faultN := true }).logFault 0x21 7 m.code

/-! ### Device resets -/

/-- A front port after a device reset: its retained coefficients stay (09 R243, 18 R513). -/
def PortSt.kept (p : Nat) (c : PortSt) : PortSt :=
  { PortSt.dflt p with retainValid := c.retainValid, storeTemp := c.storeTemp, phyTemp := c.phyTemp }

/-- A core after a device reset: the arbiter's record of its last fault stays (18 R526). -/
def CoreSt.kept (k : CoreSt) : CoreSt := { lastFault := k.lastFault }

/-- The pair after a device reset: the arbiter's record stays (18 R526). -/
def PairSt.kept (p : PairSt) : PairSt :=
  { west := p.west.kept, east := p.east.kept, lastCause := p.lastCause, gapStart := p.gapStart, gapUs := p.gapUs, switchovers := p.switchovers }

/-- The time base after a device reset, without its configuration (08 R219; 14 R392). -/
def TimeSt.fresh (t : TimeSt) : TimeSt :=
  { t with cfg := {}, ports := [], slavePort := none, syncHeard := none, relay := none, waiters := [], pendSecs := none }

/-- Pace after a device reset: the ageing history stays in block 0x01 of D0 (16 R464). -/
def PaceSt.kept (c : PaceSt) : PaceSt :=
  { vr := c.vr, remain := c.remain, eol := c.eol, onHours := c.onHours, hours := c.hours, days := c.days }

/-- The power controller after a device reset: the ageing history, the wake records and the keep-awake log stay (18 R526). -/
def PowerSt.kept (p : PowerSt) : PowerSt :=
  { west := p.west.kept, east := p.east.kept, volts := p.volts, supply := p.supply, recs := p.recs, keep := p.keep, recOmitted := p.recOmitted,
    keepOmitted := p.keepOmitted, wakes := p.wakes, lateWakes := p.lateWakes, cancels := p.cancels }

/-- Keys after a device reset: BK, OTP, the tamper settings and the engine's counters stay; a start-up clears the controlled power-down
flag (15 R424, R428, R435; 18 R513). -/
def KeySt.kept (k : KeySt) : KeySt :=
  { k with unkeyedRun := false, slots := [], measW := [], measE := [], cpd := false, lock := none, session := none, nonce := none, signers := [] }

/-- The image state after a device reset: the flash and the image reports stay (18 R526). -/
def ImgSt.kept (g : ImgSt) : ImgSt :=
  { flash := g.flash, slotA := g.slotA, slotB := g.slotB, lastFallback := g.lastFallback, repV := g.repV, omitV := g.omitV, repS := g.repS,
    omitS := g.omitS }

/-- The stack after a device reset: the straps and the state that follows from HELLOs stay (17 R493, R500). -/
def StackSt.kept (k : StackSt) : StackSt :=
  { mode := k.mode, master := k.master, reach := k.reach, heard := k.heard, masterAt := k.masterAt }

/-- A device reset of code 1 to 3: sequence OFF, what R513 clears and keeps, and start-up from CLOCK_WAIT (18 R512, R513). -/
def State.deviceReset (s0 : State) (code : Nat) : State :=
  let s := s0.runOff
  let y : SysSt :=
    { start := .clockWait, since := s.tim.ticks, lastReset := code, boots := (s.sys.boots + 1) % 2048, resetTime := s.now72, member := s.sys.member,
      hem := s.sys.hem, log := s.sys.log, logTotal := s.sys.logTotal }
  let t : State :=
    { pending := s.pending, out := s.out, free := s.free, sys := y, pair := s.pair.kept, tim := s.tim.fresh, pow := s.pow.kept, key := s.key.kept,
      img := s.img.kept, stk := s.stk.kept, ports := s.ports.foldl (fun t e => Tbl.put PortSt.dflt t e.1 (e.2.kept e.1)) [] }
  t.logFault 0x20 7 (code * 2 ^ 32)

/-- Meaning of RESET_N_INPUT, `dt` ticks after the last command: RESET_N has been low for 10 µs (18 R512). -/
def execResetNInput (dt : Nat) (s : State) : Res := .next (if s.key.ao then (s.adv dt).deviceReset 1 else s)

/-- Meaning of SUPPLY_RESTORED: after a controlled power-down the supply, in 10 mV, has been above ON for 100 ms; the restart is a reset of
code 3 with a wake record of kind 8 (16 R471, 18 R512). -/
def execSupplyRestored (volts dt : Nat) (s : State) : Res :=
  .next (
    if s.pow.down ∧ s.pow.cfg.on < volts then
      (((s.adv dt).supplyTo .normal volts).deviceReset 3).wakeRecord { kind := 8 }
    else s)

/-- What the loss of the AO supply leaves: BK, OTP and the flash (15 R437; 18 R513, R526). -/
def State.aoLost (s : State) : State :=
  { pending := s.pending, out := s.out, free := s.free,
    img := { flash := s.img.flash, slotA := s.img.slotA, slotB := s.img.slotB },
    key := { rs := s.key.rs, bkFlag := s.key.bkFlag, vbat := s.key.vbat, cpd := s.key.cpd, ao := false, bkBase := s.bkSeconds, tamper := s.key.tamper,
             tlog := s.key.tlog, ttotal := s.key.ttotal, tamperDue := s.key.tamperDue, tamperLost := s.key.tamperLost, vValid := s.key.vValid,
             vRevoked := s.key.vRevoked, vRole := s.key.vRole, vHash := s.key.vHash } }

/-- Meaning of AO_SUPPLY_LOSS, `dt` ticks after the last command: without a controlled power-down it is the SUPPLY source, whose event and
log entry the next start-up gives; then everything outside BK is lost (15 R435 to R437). -/
def execAoSupplyLoss (dt : Nat) (s : State) : Res :=
  .next (
    if s.key.ao then
      let s0 := s.adv dt
      let s1 := if s0.key.cpd then s0 else
        (s0.tamper 5 none).modKey fun k => { k with tamperDue := true, tamperLost := k.tamperLost ++ [5] }
      s1.aoLost
    else s)

/-- BK as it is when it has lost all its supply: RS is gone and the power-on flag is set (15 R427, R428). -/
def KeySt.bkLost (k : KeySt) : KeySt :=
  { k with rs := none, bkFlag := true, vbat := false, bkBase := 0, tamper := [], tlog := [], ttotal := 0, tamperDue := false, tamperLost := [] }

/-- Meaning of AO_POWER_UP: the AO supply rises, with BK supplied meanwhile or not; start-up begins in AO_UP (15 R435; 18 R512, R513). -/
def execAoPowerUp (bk : Bool) (s : State) : Res :=
  .next (
    if s.key.ao then s
    else (s.modKey fun k => { (if bk then k else k.bkLost) with ao := true, cpd := false, bkBase := if bk then s.bkSeconds else 0 }).modTim fun _ => {})

/-! ### Clock and supply -/

/-- Meaning of SLOW_OSC_RUNNING, `dt` ticks after the last command: the straps are sampled, and the stack state follows from them; alarms
from the time without AO are told now (15 R437; 17 R493, R500; 18 R514). -/
def execSlowOscRunning (hem : Bool) (mbr dt : Nat) (s : State) : Res :=
  let m := mbr % 4
  .next (
    if s.key.ao ∧ s.sys.start = .aoUp then
      let s0 := (s.adv dt).modSys fun y => { y with hem := hem, member := if hem then m else 0 }
      let s1 := s0.modStk fun k => { k with mode := if !hem then .single else if m = 0 then .master else .orphan }
      let s2 := s1.logFault 0x20 7 0
      let s3 := if !hem ∧ m ≠ 0 then s2.logFault 0x22 7 0 else s2
      let s4 := if s3.key.tamperDue then s3.raiseDev .tamper else s3
      let s5 := s4.key.tamperLost.foldl (fun s k => s.logFault 0x16 0 k) s4
      (s5.modKey fun k => { k with tamperDue := false, tamperLost := [] }).startTo .clockWait
    else s)

/-- Meaning of TCXO_LOCK, `dt` ticks after the last command: the TCXO is there and the PLLs are locked (18 R514). -/
def execTcxoLock (dt : Nat) (s : State) : Res :=
  .next (
    if s.sys.start = .clockWait then
      (((s.adv dt).modSys fun y => { y with faultN := false }).domTo 2 .on).startTo .supplyWait
    else s)

/-- Meaning of CLOCK_WAIT_TIMEOUT: 100 ms without lock (18 R514, R517). -/
def execClockWaitTimeout (s : State) : Res :=
  .next (
    if s.sys.start = .clockWait ∧ s.sys.faultN = false then
      ((s.advTick (s.sys.since + ticksMs 100)).modSys fun y => { y with faultN := true }).logFault 0x21 7 1
    else s)

/-- Meaning of SUPPLY_ON_STABLE, `dt` ticks after the last command: the supply, in 10 mV, has been above ON for 100 ms (18 R514). -/
def execSupplyOnStable (volts dt : Nat) (s : State) : Res :=
  .next (
    if s.sys.start = .supplyWait ∧ ¬ s.pow.down ∧ s.pow.cfg.on < volts then
      ((((s.adv dt).supplyTo .normal volts).modKey fun k => { k with cpd := false }).startTo .sequence).runSeq 0
    else s)

/-- Meaning of HALT_POWER_RETRY: 5 s have passed, and COLD runs again with every die (18 R514). -/
def execHaltPowerRetry (s : State) : Res :=
  .next (
    if s.sys.start = .haltPower ∧ s.sys.retries < 3 then
      (((s.advTick (s.sys.since + ticksS 5)).modSys fun y => { y with retries := y.retries + 1, faultN := false, absent := 0 }).startTo .sequence).runSeq 0
    else s)

/-! ### In-package links -/

/-- The gateway port moves away from a link or die that is lost (01 R12). -/
def State.gwPortFit (s : State) : State :=
  let ok (p : Nat) : Bool := inMask s.sys.links (p - 28) && s.has (p - 29)
  let p := s.sys.gwPort
  if ok p ∨ ¬ ok (61 - p) then s
  else (s.flushOutput (dieOfPort p) (localOf p)).modSys fun y => { y with gwPort := 61 - p }

/-- A Cuff link is lost: SW of the West die or SE of the East die (01 R12; 18 R523, R556). -/
def State.cuffLinkLost (s : State) (d : Fab) : State :=
  let l := 2 + d.bit
  if inMask s.sys.links l then ((s.modSys fun y => { y with links := setMask y.links l false }).logFault 0x02 d.num d.bit).gwPortFit else s

/-- Meaning of CUFF_LINK_LOST: all gateway traffic moves to the surviving link (01 R12). -/
def execCuffLinkLost (die : Fab) (s : State) : Res := .next (if s.key.ao then s.cuffLinkLost die else s)

/-! ### Loss of a die -/

/-- The domains of a die (16 R457). -/
def dieDoms (die : Nat) : List Nat := [4, 5, 6, 7, 8, 9, 10, 11, 12, 13, 14, 15].filter fun d => domDie d == die

/-- The front ports of a fabric or PHY die (01 R17). -/
def diePorts (die : Nat) : List Nat :=
  match die with | 1 | 3 => portsOf .west | 2 | 4 => portsOf .east | _ => []

/-- A cable test on a port whose die is lost returns TIMEOUT, and its token is free (18 R524). -/
def State.testLost (s : State) (p : Nat) : State :=
  match (s.port p).tester with
  | some q => ((s.modPort p fun c => { c with tester := none }).dropToken 3 p).finish q .timeout [] []
  | none => s

/-- A port of a lost die is down with its link-down bit set; coefficients in a lost PHY die are gone (09 R243; 18 R523). -/
def State.portLost (s : State) (die p : Nat) : State :=
  ((s.portTo p .disabled true).modPort p fun c => { c with retainValid := c.retainValid && decide (die ≤ 2), pulse := false }).testLost p

/-- A commit of the seal goes on without a lost die; with no other die left it has failed (13 R389). -/
def State.commitLost (s : State) (die : Nat) : State :=
  if s.sealSt.commit.contains die then
    let s1 := s.modSeal fun l => { l with commit := l.commit.filter fun x => x != die }
    match s1.sealSt.commit, s1.sealSt.commitOf with
    | [], some (p, _) => (s1.modSeal fun l => { l with commitOf := none }).finish p .refused [] []
    | _, _ => s1
  else s

/-- The domains of a die take a state. -/
def State.dieTo (s : State) (die : Nat) (m : DomMode) : State := (dieDoms die).foldl (fun s d => s.domTo d m) s

/-- The fabric die of this number. -/
def fabDie (die : Nat) : Option Fab := match die with | 1 => some .west | 2 => some .east | _ => none

/-- A core's die or domain is gone: the arbiter acts on a fault of class DIE (12 R342, R343). -/
def State.coreGone (s : State) (die : Nat) : State :=
  match fabDie die with
  | some d => if (s.core d).mode = .off ∨ (s.core d).mode = .failed then s else s.coreFails d 2
  | none => s

/-- Ports, core, domains and the gateway's link of a die that is lost in service (12 R343; 18 R523, R524). -/
def State.dieDown (s : State) (die : Nat) : State :=
  let s1 := (diePorts die).foldl (fun s p => s.portLost die p) s
  let down (s : State) : State := (((s.dieTo die .failed).setPresent die false).commitLost die).gwPortFit
  match fabDie die with
  | some d => if (s.core d).mode = .off ∨ (s.core d).mode = .failed then down s1 else (down (s1.detach d)).coreFails d 2
  | none => down s1

/-- Begin the reload of a die: its domains OFF, then ON in the order of COLD (18 R520 step 1). -/
def State.startReload (s : State) (die : Nat) (p : Option Path) : State :=
  let s1 := s.modSys fun y => { y with reload := some (die, p), absent := setMask y.absent die false, reloadDue := setMask y.reloadDue die false }
  (s1.dieTo die .off).seqFrom (some die) 0 0 33

/-- The automatic reload of a lost die: once in any 10 minutes, and after the reload that runs (18 R520). -/
def State.autoReloads (s : State) (die : Nat) : State :=
  let last := Tbl.get zeroAt s.sys.autoReload die
  if last ≠ 0 ∧ s.monoNs - (last - 1) < 600000000000 then s
  else if s.sys.reload.isSome ∨ s.pow.run.isSome then s.modSys fun y => { y with reloadDue := setMask y.reloadDue die true }
  else (s.modSys fun y => { y with autoReload := Tbl.put zeroAt y.autoReload die (s.monoNs + 1) }).startReload die none

/-- The next automatic reload that waits (18 R520). -/
def State.nextReload (s : State) : State :=
  match maskList s.sys.reloadDue 6 with
  | d :: _ => s.autoReloads d
  | [] => s

/-- A reload ends without the die: it stays absent (18 R520 step 2, R530). -/
def State.reloadFails (s : State) (die : Nat) (p : Option Path) : State :=
  let s1 := ((s.dieTo die .off).setPresent die false).modSys fun y => { y with reload := none }
  (match p with | some q => s1.finish q .refused [] [] | none => s1).nextReload

/-- A die is lost (18 R523, R524): before FORWARDING it is logged, and only the reaction of CONFIG applies. -/
def State.loseDie (s : State) (die code detail : Nat) : State :=
  let s1 := s.logFault code die detail
  if s.sys.start = .config then s1.coreGone die
  else if s.sys.start ≠ .forwarding then s1
  else (s1.dieDown die).autoReloads die

/-- Meaning of DIE_LOST, `dt` ticks after the last command (18 R523). -/
def execDieLost (die dt : Nat) (s : State) : Res :=
  .next (if 1 ≤ die ∧ die ≤ 5 ∧ s.has die ∧ s.key.ao then (s.adv dt).loseDie die 0x11 die else s)

/-- Meaning of SEQ_PG_TIMEOUT: the domain of the step in progress is not good within PG_TIMEOUT (16 R459; 18 R514, R523). -/
def execSeqPgTimeout (s : State) : Res :=
  .next (
    match s.pow.run with
    | none => s
    | some r =>
      match (s.pow.steps r.seq)[r.step]? with
      | none => s
      | some t =>
        if r.waiting ∨ t.domain ≤ 1 then s
        else
          let die := domDie t.domain
          let s0 := (s.advTick (r.since + ticksUs (10 * t.pgTimeout))).domTo t.domain .failed
          let s1 := s0.modPow fun p => { p with run := none }
          if s.sys.start = .sequence then
            if t.domain = 2 ∨ (s0.dom 4 = .failed ∧ s0.dom 7 = .failed) then (s1.logFault 0x10 die t.domain).halt .haltPower
            else
              let s2 := if die = 0 then s0 else (s0.setPresent die false).modSys fun y => { y with absent := setMask y.absent die true }
              (s2.logFault 0x10 die t.domain).seqFrom r.only r.seq (r.step + 1) 33
          else
            match s1.sys.reload with
            | some (d, p) => if r.only = some d then (s1.logFault 0x10 die t.domain).reloadFails d p else s1.logFault 0x10 die t.domain
            | none => if die = 0 then s1.logFault 0x10 die t.domain else s1.loseDie die 0x10 t.domain)

/-! ### Self-tests -/

/-- The reaction to a failed self-test: its number, the die and, for a loopback, the link (18 R515). -/
def State.testFails (s : State) (f : Nat × Nat × Nat) : State :=
  let s1 := s.logFault 0x18 f.2.1 f.1
  match f.1 with
  | 2 => (s1.modSys fun y => { y with absent := setMask y.absent f.2.1 true }).setPresent f.2.1 false
  | 3 => s1.modSys fun y => { y with coreFail := setMask y.coreFail f.2.1 true }
  | 4 => if inMask s1.sys.links (f.2.2 % 2) then (s1.modSys fun y => { y with links := setMask y.links (f.2.2 % 2) false }).logFault 0x01 f.2.1 (f.2.2 % 2) else s1
  | 5 => s1.cuffLinkLost (fabOf (f.2.2 % 2))
  | 7 => (diePorts f.2.1).foldl (fun s p => s.modPort p fun c => { c with retainValid := false }) s1
  | 8 => s1.modSys fun y => { y with cuffOk := false }
  | _ => s1

/-- The dies that run each test (18 R515). -/
def testDies (t : Nat) : List Nat :=
  match t with | 1 => [0] | 2 | 3 | 4 | 6 => [1, 2] | 5 => [1, 2, 5] | 7 => [3, 4] | 8 => [5] | _ => []

/-- A fabric die with a core that can run (18 R514, R515). -/
def State.coreFit (s : State) (d : Fab) : Bool := s.has d.num && !inMask s.sys.coreFail d.num && s.dom (coreDom d) == .on

/-- Meaning of SELFTEST_COMPLETE, `dt` ticks after the last command, with the tests that failed (18 R514, R515). -/
def execSelftestComplete (fails : List (Nat × Nat × Nat)) (dt : Nat) (s : State) : Res :=
  .next (
    if s.sys.start = .selftest then
      let fs := fails.filter fun f => (testDies f.1).contains f.2.1 && s.has f.2.1
      let s1 := fs.foldl State.testFails (s.adv dt)
      if (fs.all fun f => f.1 != 1) && (s1.coreFit .west || s1.coreFit .east) then s1.startTo .image else s1.halt .haltSilicon
    else s)

/-! ### Choosing an image and booting the cores -/

/-- A slot in TRIAL is written REJECTED: a fall-back by reset (14 R407, R415). -/
def State.dropTrial (s : State) (n : Nat) : State :=
  if s.img.slotMode n = .trial then ((s.slotTo n .rejected).modImg fun g => { g with lastFallback := 4 }).logFault 0x17 0 0 else s

/-- The CONFIRMED slots, the higher SEQUENCE first (14 R407). -/
def ImgSt.candidates (g : ImgSt) : List Nat :=
  let c := [0, 1].filter fun n => g.slotMode n == .confirmed
  if c = [0, 1] ∧ g.sequence 0 < g.sequence 1 then [1, 0] else c

/-- A candidate that fails verification is left as it is; the log and the IMAGE event tell (14 R407). -/
def State.candidateFails (s : State) : State := (s.logFault 0x17 0 0).raiseDev .image

/-- The rules of 14 R407: the slot to boot, 2 for the factory image. -/
def State.chooseSlot (s : State) : State × Nat :=
  if !s.img.flash then (s, 2)
  else
    let s1 := (s.dropTrial 0).dropTrial 1
    match s1.img.candidates with
    | [] => (s1, 2)
    | [a] => if s1.imageValid a then (s1, a) else (s1.candidateFails, 2)
    | a :: b :: _ =>
      if s1.imageValid a then (s1.slotTo b .superseded, a)
      else if s1.imageValid b then (s1.candidateFails, b)
      else (s1.candidateFails.candidateFails, 2)

/-- The firmware of the image is loaded into each present core (18 R514); verifier slots of the running and the factory image (15 R452). -/
def State.boot (s : State) (n : Nat) : State :=
  let s1 := s.modImg fun g => { g with runSlot := n, repS := [], omitS := 0, liningVer := g.liningVerOf n }
  let s2 := s1.modKey fun k => { k with signers := if n = 2 then [s.img.signer 2] else [s.img.signer n, s.img.signer 2] }
  let load (s : State) (d : Fab) : State := if s.coreFit d then s.loadFirmware d n else s
  (load (load s2 .west) .east).startTo .coreBoot

/-- Meaning of IMAGE_VERIFIED, `dt` ticks after the last command: D0 has applied R407 (14 R407; 18 R514). -/
def execImageVerified (dt : Nat) (s : State) : Res :=
  .next (
    if s.sys.start = .image then
      let c := (s.adv dt).chooseSlot
      if c.2 = 2 ∧ c.1.imageValid 2 = false then c.1.halt .haltImage else c.1.boot c.2
    else s)

/-- A core is released: its measurement is written, and it runs (15 R426; 18 R514). -/
def State.release (s : State) (d : Fab) (m : CoreMode) : State :=
  (s.measure d s.img.runSlot).modCore d fun k => { k with mode := m }

/-- Meaning of MEASUREMENT_RELEASED, `dt` ticks after the last command: which of the cores run (15 R426; 18 R514). -/
def execMeasurementReleased (west east : Bool) (dt : Nat) (s : State) : Res :=
  let w := west && s.coreFit .west
  let e := east && s.coreFit .east
  .next (
    if s.sys.start = .coreBoot ∧ (w ∨ e) then
      let s1 := s.adv dt
      let s2 := if w then s1.release .west .active else s1
      let s3 := if e then s2.release .east (if w then .cold else .active) else s2
      (s3.modPair fun p => { p with active := if w then .west else .east, mode := .single }).startTo .keys
    else s)

/-- Meaning of CORE_BOOT_TIMEOUT: no core runs 100 ms after IMAGE (18 R514). -/
def execCoreBootTimeout (s : State) : Res :=
  .next (if s.sys.start = .coreBoot then (s.advTick (s.sys.since + ticksMs 100)).halt .haltSilicon else s)

/-! ### Keys -/

/-- D0 unwraps one blob record, whose index in the report is `idx` (15 R434). -/
def State.unwrapBlob (s : State) (n : Nat) (r : ImgRec) (idx : Nat) : State :=
  let w := s.img.recWord n r 1
  let h := fld w 31 20
  if fld w 35 32 ≠ 1 then s
  else
    match (if s.keyed then s.key.rs else none) with
    | none => s.addReport true (reportEntries idx 1 (.unkeyed, []))
    | some rs =>
      match kwUnwrap (bkOf rs (s.img.measurement n)) (s.img.blobBytes n r) with
      | some p => if userSlot h ∧ (s.slot h).valid = false then s.setSlot h (keyOfPlain p) else s.addReport true (reportEntries idx 1 (.refused, []))
      | none => s.addReport true (reportEntries idx 1 (.refused, []))

/-- Meaning of BLOBS_HANDLED, `dt` ticks after the last command: the live blobs of the booted slot; LIMIT and REACTION are 0 before the
first record (14 R402; 15 R434, R437; 18 R514). -/
def execBlobsHandled (dt : Nat) (s : State) : Res :=
  .next (
    if s.sys.start = .keys then
      let n := s.img.runSlot
      let bs := (s.img.blobs n).1
      let k := (s.img.records n).length
      let s1 := (bs.zip (List.range bs.length)).foldl (fun s e => s.unwrapBlob n e.1 (k + e.2)) (s.adv dt)
      ((s1.modLocks fun l => { l with reaction := 0, limit := 0 }).modImg fun g => { g with next := some (false, 1, 0) }).startTo .config
    else s)

/-! ### Records -/

/-- An IDENTITY record takes effect (14 R400). -/
def ImgSt.identify (g : ImgSt) (ws : List Word) : ImgSt :=
  let at48 (a b : Word) : Nat := a.toNat * 4096 + fld b 35 24
  { g with baseMac := at48 (ws.getD 0 0) (ws.getD 1 0), gwMac := if bit1 (ws.getD 1 0) 23 then some (at48 (ws.getD 2 0) (ws.getD 3 0)) else none }

/-- The firmware executes one record before SIGNATURE, and reports what it finds (14 R392, R401, R405, R406). -/
def State.runRecord (s : State) (n : Nat) (r : ImgRec) (idx : Nat) : State :=
  if r.kind = 0x04 then
    let x := s.runCommand n r
    x.1.addReport true (reportEntries idx 1 x.2)
  else
    let c := s.img.checkedRec n r
    let s1 := if r.kind = 0x03 ∧ c.bad = false then s.modImg fun g => g.identify c.words else s
    s1.addReport true (reportEntries idx 1 (recResult c.bad c.clamps))

/-- Meaning of IMAGE_RECORD_EXEC, `dt` ticks after the last command: the next record of the factory image, and after its SIGNATURE those of
the booted user slot; then LOCKS (14 R392, R401; 18 R514). -/
def execImageRecordExec (dt : Nat) (s : State) : Res :=
  .next (
    if s.sys.start = .config then
      match s.img.next with
      | none => s
      | some (user, pos, idx) =>
        let n := if user then s.img.runSlot else 2
        let r := s.img.recAt n pos
        let s1 := s.adv dt
        if r.kind = 0x0F then
          if user ∨ s1.img.runSlot = 2 then (s1.modImg fun g => { g with next := none }).startTo .locks
          else s1.modImg fun g => { g with next := some (true, 1, 0) }
        else (s1.runRecord n r idx).modImg fun g => { g with next := some (user, pos + r.len + 1, idx + 1) }
    else s)

/-! ### Locks and forwarding -/

/-- The clamped word of the booted slot's LOCKS record (14 R402). -/
def ImgSt.locksWord (g : ImgSt) : Option Word :=
  if g.runSlot = 2 then none
  else (((g.records g.runSlot).find? fun r => r.kind == 5).map fun r => (g.checkedRec g.runSlot r).words.getD 0 0)

/-- The lock bits that a LOCKS record sets (14 R402). -/
def LockSt.apply (l : LockSt) (w : Word) : LockSt :=
  { l with limit := fld w 28 13, reaction := fld w 30 29, policy := l.policy || bit1 w 35, key := l.key || bit1 w 33, power := l.power || bit1 w 32,
           sealLock := l.sealLock || bit1 w 34 }

/-- A LOCKS record is applied: LIMIT and REACTION, the seal, the lock bits (14 R402). -/
def State.applyLocks (s : State) (w : Word) : State :=
  let s1 := if bit1 w 31 then s.startCommit .image s.sys.present else s
  s1.modLocks fun l => l.apply w

/-- The device commits the gate lists that records have written (07 R179; 14 R401). -/
def State.commitLists (s : State) : State :=
  (List.range 26).foldl (fun s p => if (s.gate p).admin = {} then s else s.modGate p fun g => g.commit (g.admin.changeTime s.nowQ)) s

/-- The mailboxes serve: REQ_FREE goes to 1 on every path (13 R364; 16 R478; 18 R514). -/
def State.openMailboxes (s : State) : State := hostPaths.foldl (fun s p => s.raiseHost p .reqFree) s

/-- Feeds with AUTO_ON, to be enabled one after the other (16 R466). -/
def PowerSt.autoQueue (p : PowerSt) (now : Nat) : PowerSt :=
  { p with autoOn := ((List.range 8).filter fun i => (Tbl.get Feed.dflt p.feeds i).cfg.valid && (Tbl.get Feed.dflt p.feeds i).cfg.autoOn, now) }

/-- Meaning of LOCKS_APPLY, `dt` ticks after the last command: LOCKS is applied, ports and channels are enabled, and the device forwards; a
COLD standby catches up (14 R402, R406; 18 R514). -/
def execLocksApply (dt : Nat) (s : State) : Res :=
  .next (
    if s.sys.start = .locks then
      let s0 := s.adv dt
      let s1 := match s0.img.locksWord with | some w => s0.applyLocks w | none => s0
      let s2 := s1.commitLists.startTo .forwarding
      let s3 := ((List.range 26).foldl State.enablePort s2).modEdge fun e => { e with up := s2.has 5 && s2.sys.cuffOk }
      let s4 := ((s3.openMailboxes.modPow fun p => p.autoQueue s3.tim.ticks).restartTimer).restartAwake
      let s5 := if s4.img.repS.isEmpty then s4 else s4.raiseDev .image
      if (s5.core s5.standby).mode = .cold then s5.startCatchUp else s5
    else s)

/-! ### The end of a reload -/

/-- The tables of a reloaded fabric die are those of the live one; its gate lists are committed with the live die's times (18 R520). -/
def State.fillFabric (s : State) (d : Fab) : State :=
  let q := s.fab d.other
  let w := s.pool d.other
  let s1 := (s.modFab d fun f => { q.retained with nextFid := f.nextFid, nextOrder := f.nextOrder }).modPool d fun x => { x with limits := w.limits, levels := w.levels }
  (portsOf d).foldl (fun s p =>
    let g := s.gate p
    if g.mode = .off then s
    else
      let g1 : GateSt := { g with mode := .off, hold := false, extend := none }
      let g2 := g1.modAdmin fun _ => g1.oper
      s.modGate p fun _ => g2.commit (g2.admin.changeTime s.nowQ)) s1

/-- Whether a record belongs to the Cuff die: EDGE and GW domains (18 R520). -/
def cuffRecord (op : Nat) : Bool := decide (0xF01 ≤ op ∧ op ≤ 0xF09) || decide (0x101 ≤ op ∧ op ≤ 0x107)

/-- The records of an image for the Cuff die are executed again, and the channel zones of its zone records (18 R520). -/
def State.cuffRecords (s : State) (n : Nat) : State :=
  (s.img.records n).foldl (fun s r =>
    let op := s.img.recOp n r
    if r.kind ≠ 0x04 then s
    else if cuffRecord op then (s.runCommand n r).1
    else if op = 0x701 then
      let z := (s.runCommand n r).1.zon
      s.modZon fun y => { y with chan := z.chan }
    else s) s

/-- The SOURCE 0 payloads of a KIND 0x07 record go back into their slots; the number bounds its entries (18 R520; log 8). -/
def State.restoreSlots (s : State) : Nat → List Word → State
  | 0, _ => s
  | _, [] => s
  | k + 1, w :: ws =>
    let n := fld w 35 28
    let len := fld w 27 21
    let q := ceilDiv len 4
    let p := s.perSlot n
    let s1 := if p.valid ∧ p.fld 1 11 11 = 0 then s.slotWrite n ((quadBytes (ws.take q)).take len) else s
    s1.restoreSlots k (ws.drop q)

/-- The Cuff die is filled from the image's records and the save area; changes by command are lost, which the log tells (18 R520). -/
def State.fillCuff (s : State) : State :=
  let s0 := (s.modZon fun z => { z with chan := [] }).modLocks fun _ => {}
  let s1 := s0.cuffRecords 2
  let s2 := (if s1.img.runSlot = 2 then s1 else s1.cuffRecords s1.img.runSlot).modLocks fun _ => s.locks
  let s3 := s2.restoreSlots 256 (Tbl.get nilAt s2.sys.save 7)
  let s4 := if s3.sys.cuffChanged then s3.logFault 0x11 5 (2 ^ 35 + 5) else s3
  (s4.modSys fun y => { y with cuffChanged := false }).modEdge fun e => { e with up := s4.sys.cuffOk }

/-- A die is present again with its ports (18 R520 step 4). -/
def State.dieUp (s : State) (die : Nat) : State := (diePorts die).foldl State.enablePort (s.setPresent die true)

/-- The core of a reloaded fabric die follows R518: it catches up from the active core, or is the active core that was lost (18 R518). -/
def State.reloadCore (s : State) (d : Fab) : State :=
  if d = s.pair.active then s else (s.startCore d s.img.runSlot).startCatchUp

/-- What a reloaded die is filled with (18 R520 step 3). -/
def State.fillDie (s : State) (die : Nat) : State :=
  match fabDie die with
  | some d => s.fillFabric d
  | none => if die = 5 then s.fillCuff else s

/-- A die that the sequence has switched on again answers: a fabric die has built its free lists (03 R52; 18 R520). -/
def State.reloaded (s : State) (die : Nat) : Bool :=
  s.pow.run.isNone && match fabDie die with | some d => (s.pool d).built | none => true

/-- Meaning of DIE_RELOAD_FORWARDING, `dt` ticks after the last command: the reloaded die has run its tests, with the number of the one that
failed or 0; its tables are filled, its ports and channels enabled, and FAULT.DIE_RELOAD is answered (18 R520, R530). -/
def execDieReloadForwarding (test dt : Nat) (s : State) : Res :=
  .next (
    match s.sys.reload with
    | none => s
    | some (die, p) =>
      if s.reloaded die then
        let s0 := s.adv dt
        if test ≠ 0 ∧ (testDies test).contains die then (s0.logFault 0x18 die test).reloadFails die p
        else
          let s1 := (s0.fillDie die).dieUp die
          let s2 := match fabDie die with | some d => s1.reloadCore d | none => s1
          let s3 := (s2.modSys fun y => { y with reload := none }).gwPortFit
          (match p with | some q => s3.finish q .done [] [] | none => s3).nextReload
      else s)

/-! ### The control plane after a wake -/

/-- A core that failed its self-test or verification after a wake (16 R478; 18 R515). -/
def State.wakeFails (s : State) (d : Fab) : State :=
  (s.modCore d fun k => { k with mode := .failed, lastFault := 3 }).logFault 0x18 d.num 3

/-- Meaning of CORE_WAKE_REBUILD, `dt` ticks after the last command: which cores run verified firmware after a wake. The core that was
active is active again, or the other one, and the mailboxes serve (16 R478). -/
def execCoreWakeRebuild (west east : Bool) (dt : Nat) (s : State) : Res :=
  let ok (d : Fab) : Bool := (match d with | .west => west | .east => east) && s.has d.num
  let a := if ok s.pair.active then s.pair.active else s.pair.active.other
  .next (
    if s.pow.rebuild ∧ s.pow.mode = .awake ∧ ok a then
      let s0 := s.adv dt
      let s1 := (s0.dropLining.startCore a s0.img.runSlot).modCore a fun k => { k with mode := .active }
      let s2 := s1.modPair fun p => { p with active := a, mode := .single, promoting := none, held := false, owned := false, mustCatchUp := false }
      let s3 := if ok a.other then s2.startCore a.other s2.img.runSlot else if s2.has a.other.num then s2.wakeFails a.other else s2
      let s5 := (s3.modPow fun p => { p with rebuild := false }).openMailboxes
      if (s5.core a.other).mode = .cold then s5.startCatchUp else s5
    else s)

end Sys2Proof.Machine
end

