-- ==== Sys2Proof/Machine/StartCmds.lean ====
section
/-! DEFINITION. The FAULT commands (18 R527 to R531). -/

namespace Sys2Proof.Machine

/-- 0x031 FAULT.STATUS_READ (18 R527). -/
def faultStatusRead : CmdSpec where
  opcode := 0x031
  lenOk := lenIs 0
  changes := fun _ => false
  run := fun _ s =>
    let y := s.sys
    { st := s,
      payload :=
        [pack [(32, 4, y.start.code), (29, 3, y.lastReset), (18, 11, y.boots), (17, 1, b1 y.faultN), (16, 1, b1 (inMask y.links 0)),
               (15, 1, b1 (inMask y.links 1)), (14, 1, b1 (inMask y.links 2)), (13, 1, b1 (inMask y.links 3)), (7, 6, y.present)],
         w36 y.logTotal] ++ words72 y.resetTime }

/-- Meaning of FAULT_STATUS_READ. -/
def execFaultStatusRead (r : Req) (s : State) : Res := .next (mailbox faultStatusRead r s)

/-- The four words of an entry (18 R525). -/
def FaultEntry.logWords (e : FaultEntry) : List Word :=
  [pack [(28, 8, e.code), (25, 3, e.die), (23, 2, e.cls), (15, 8, e.rep), (4, 11, e.boot)], w36 e.detail] ++ words72 e.time

/-- 0x032 FAULT.LOG_READ (18 R528). -/
def faultLogRead : CmdSpec where
  opcode := 0x032
  lenOk := lenIs 1
  changes := fun r => r.bit 1 18
  fields := fun r s =>
    let n := s.sys.log.length
    [[fNeed 35 25 fun v => n == 0 || decide (v < n), fMin 24 19 1, fTo 18 18 (fun _ => !s.inSession r) 0 4]]
  run := fun r s =>
    let l := s.sys.log
    let es := (l.drop (r.fld 1 35 25)).take (r.fld 1 24 19)
    { st := if r.bit 1 18 then s.modSys fun y => { y with log := [] } else s
      payload := pack [(24, 12, l.length)] :: (es.map FaultEntry.logWords).flatten }

/-- Meaning of FAULT_LOG_READ. -/
def execFaultLogRead (r : Req) (s : State) : Res := .next (mailbox faultLogRead r s)

/-- The dies that an in-package link joins: 0 SA, 1 SB, 2 SW, 3 SE (01 R9). -/
def linkDies (l : Nat) : List Nat := match l with | 2 => [1, 5] | 3 => [2, 5] | _ => [1, 2]

/-- 0x033 FAULT.LINK_ENABLE (18 R529): the result of the loopback test is a free value (log 2). -/
def faultLinkEnable : CmdSpec where
  opcode := 0x033
  lenOk := lenIs 1
  gapBusy := true
  busy := fun _ s => s.sys.reload.isSome
  fields := fun _ s => [[fNeed 35 34 fun l => !inMask s.sys.links l && (linkDies l).all fun d => s.has d]]
  run := fun r s =>
    let s1 := s.useFree
    if s.freeBelow 2 = 0 then { st := s1, code := .refused, keep := true }
    else { st := (s1.modSys fun y => { y with links := setMask y.links (r.fld 1 35 34) true }).gwPortFit }

/-- Meaning of FAULT_LINK_ENABLE. -/
def execFaultLinkEnable (r : Req) (s : State) : Res := .next (mailbox faultLinkEnable r s)

/-- 0x034 FAULT.DIE_RELOAD (18 R520, R530): the response follows the reload. -/
def faultDieReload : CmdSpec where
  opcode := 0x034
  lenOk := lenIs 1
  gapBusy := true
  busy := fun _ s => s.sys.reload.isSome
  fields := fun _ s => [[fNeed 35 33 fun d => decide (1 ≤ d ∧ d ≤ 5) && !s.has d]]
  run := fun r s => { st := s.startReload (r.fld 1 35 33) (some r.path), later := true }

/-- Meaning of FAULT_DIE_RELOAD. -/
def execFaultDieReload (r : Req) (s : State) : Res := .next (mailbox faultDieReload r s)

/-- 0x035 FAULT.RESET (18 R531). -/
def faultReset : CmdSpec where
  opcode := 0x035
  lenOk := lenIs 1
  fields := fun r s => [[fNeed 35 35 fun c => c == 1 && s.inSession r]]
  run := fun _ s => { st := s.modSys fun y => { y with resetPending := true } }

/-- Meaning of FAULT_RESET: a device reset of code 2 follows 1 ms after the response (18 R531). -/
def execFaultReset (r : Req) (s : State) : Res :=
  let s1 := mailbox faultReset r s
  .next (if s1.sys.resetPending then (s1.adv (ticksMs 1)).deviceReset 2 else s1)

end Sys2Proof.Machine
end

