-- ==== Sys2Proof/Machine/Dispatch.lean ====
section
/-! DEFINITION. One arm per command: each calls its meaning. -/

namespace Sys2Proof.Machine

def exec (i : Instr) (s : State) : Host.Outcome State Fault Refusal :=
  match i with
  | .frameRxStart port bytes hdr phy sec mm dt => Sys2Proof.Machine.execFrameRxStart port bytes hdr phy sec mm dt s
  | .fabricWordStore die fid => Sys2Proof.Machine.execFabricWordStore die fid s
  | .frameEndStored die fid dt => Sys2Proof.Machine.execFrameEndStored die fid dt s
  | .parseEngineTake die eng port => Sys2Proof.Machine.execParseEngineTake die eng port s
  | .parseEnd die eng => Sys2Proof.Machine.execParseEnd die eng s
  | .parseClass die eng => Sys2Proof.Machine.execParseClass die eng s
  | .parseExtract die eng => Sys2Proof.Machine.execParseExtract die eng s
  | .parseLoad die eng => Sys2Proof.Machine.execParseLoad die eng s
  | .parseAnd die eng => Sys2Proof.Machine.execParseAnd die eng s
  | .parseTest die eng => Sys2Proof.Machine.execParseTest die eng s
  | .parseTestne die eng => Sys2Proof.Machine.execParseTestne die eng s
  | .parseJump die eng => Sys2Proof.Machine.execParseJump die eng s
  | .parseAdvance die eng => Sys2Proof.Machine.execParseAdvance die eng s
  | .parseLenset die eng => Sys2Proof.Machine.execParseLenset die eng s
  | .parseFail die eng => Sys2Proof.Machine.execParseFail die eng s
  | .parseBudgetExhausted die eng => Sys2Proof.Machine.execParseBudgetExhausted die eng s
  | .collectorTake die eng => Sys2Proof.Machine.execCollectorTake die eng s
  | .recircPassStart die eng => Sys2Proof.Machine.execRecircPassStart die eng s
  | .learnEntryWrite => Sys2Proof.Machine.execLearnEntryWrite s
  | .fragTimeout die index => Sys2Proof.Machine.execFragTimeout die index s
  | .seamFrameStart die link => Sys2Proof.Machine.execSeamFrameStart die link s
  | .seamWordSend die link => Sys2Proof.Machine.execSeamWordSend die link s
  | .seamWordRx die link => Sys2Proof.Machine.execSeamWordRx die link s
  | .seamLinkLost link west east => Sys2Proof.Machine.execSeamLinkLost link west east s
  | .cuffLinkLost die => Sys2Proof.Machine.execCuffLinkLost die s
  | .egressSelect die out lat dt => Sys2Proof.Machine.execEgressSelect die out lat dt s
  | .egressFrameEnd die out => Sys2Proof.Machine.execEgressFrameEnd die out s
  | .stagingUnderrun die out => Sys2Proof.Machine.execStagingUnderrun die out s
  | .expressPreempt die out dt => Sys2Proof.Machine.execExpressPreempt die out dt s
  | .poolAlloc die owner req contended => Sys2Proof.Machine.execPoolAlloc die owner req contended s
  | .poolFree die owner pool index contended => Sys2Proof.Machine.execPoolFree die owner pool index contended s
  | .poolShare die owner pool index k contended => Sys2Proof.Machine.execPoolShare die owner pool index k contended s
  | .poolRelease die owner pool index contended => Sys2Proof.Machine.execPoolRelease die owner pool index contended s
  | .freeListBuilt die => Sys2Proof.Machine.execFreeListBuilt die s
  | .cpuPortDelivery die => Sys2Proof.Machine.execCpuPortDelivery die s
  | .txRingFrame die length bytes err dt => Sys2Proof.Machine.execTxRingFrame die length bytes err dt s
  | .rxRingDelivery die dt => Sys2Proof.Machine.execRxRingDelivery die dt s
  | .ringCoalesceExpiry p rx n => Sys2Proof.Machine.execRingCoalesceExpiry p rx n s
  | .cbsRefill port => Sys2Proof.Machine.execCbsRefill port s
  | .gclEntryStart port => Sys2Proof.Machine.execGclEntryStart port s
  | .gclChangeTime port => Sys2Proof.Machine.execGclChangeTime port s
  | .gclCopyComplete port => Sys2Proof.Machine.execGclCopyComplete port s
  | .mmVerifyTimer port => Sys2Proof.Machine.execMmVerifyTimer port s
  | .mmVerifyRx port respond => Sys2Proof.Machine.execMmVerifyRx port respond s
  | .samplerPeriod die n => Sys2Proof.Machine.execSamplerPeriod die n s
  | .activationArmDeadline armed => Sys2Proof.Machine.execActivationArmDeadline armed s
  | .activationTimeReached => Sys2Proof.Machine.execActivationTimeReached s
  | .ruleBankRetired => Sys2Proof.Machine.execRuleBankRetired s
  | .fwdSweepEnd => Sys2Proof.Machine.execFwdSweepEnd s
  | .frerResetTimeout die fn => Sys2Proof.Machine.execFrerResetTimeout die fn s
  | .restoreHoldEnd port => Sys2Proof.Machine.execRestoreHoldEnd port s
  | .linkDownDeclared port => Sys2Proof.Machine.execLinkDownDeclared port s
  | .pcsLock port dt => Sys2Proof.Machine.execPcsLock port dt s
  | .trainTimeout port => Sys2Proof.Machine.execTrainTimeout port s
  | .usxgmiiAnWord port up rate => Sys2Proof.Machine.execUsxgmiiAnWord port up rate s
  | .portSleepCmd port => Sys2Proof.Machine.execPortSleepCmd port s
  | .tc10SleepReqRx port => Sys2Proof.Machine.execTc10SleepReqRx port s
  | .tc10SleepAckRx port => Sys2Proof.Machine.execTc10SleepAckRx port s
  | .sleepWaitTimeout port => Sys2Proof.Machine.execSleepWaitTimeout port s
  | .tc10WakeReqRx port => Sys2Proof.Machine.execTc10WakeReqRx port s
  | .wakePulseDetected port dt => Sys2Proof.Machine.execWakePulseDetected port dt s
  | .portWakeCmd port temp => Sys2Proof.Machine.execPortWakeCmd port temp s
  | .resumeDeadline port => Sys2Proof.Machine.execResumeDeadline port s
  | .cableTestDone port result distance => Sys2Proof.Machine.execCableTestDone port result distance s
  | .lpiIdleTimer port => Sys2Proof.Machine.execLpiIdleTimer port s
  | .lpiWakeComplete port dt => Sys2Proof.Machine.execLpiWakeComplete port dt s
  | .beaconLossTimeout port => Sys2Proof.Machine.execBeaconLossTimeout port s
  | .beaconRx port => Sys2Proof.Machine.execBeaconRx port s
  | .plcaTxOpportunity port burst collision dt => Sys2Proof.Machine.execPlcaTxOpportunity port burst collision dt s
  | .sqiUpdate port sqi fixed lost temp => Sys2Proof.Machine.execSqiUpdate port sqi fixed lost temp s
  | .mkaSakInstall port an => Sys2Proof.Machine.execMkaSakInstall port an s
  | .freqAdjApply => Sys2Proof.Machine.execFreqAdjApply s
  | .timeStepApply => Sys2Proof.Machine.execTimeStepApply s
  | .slewEnd => Sys2Proof.Machine.execSlewEnd s
  | .ppsEdge dt => Sys2Proof.Machine.execPpsEdge dt s
  | .ppsMissing => Sys2Proof.Machine.execPpsMissing s
  | .holdoverMaxExpiry => Sys2Proof.Machine.execHoldoverMaxExpiry s
  | .syncRx port => Sys2Proof.Machine.execSyncRx port s
  | .syncTimeout => Sys2Proof.Machine.execSyncTimeout s
  | .syncTx port dt => Sys2Proof.Machine.execSyncTx port dt s
  | .followUpTx port dt => Sys2Proof.Machine.execFollowUpTx port dt s
  | .pdelayReqTx port dt => Sys2Proof.Machine.execPdelayReqTx port dt s
  | .pdelayRx port => Sys2Proof.Machine.execPdelayRx port s
  | .announceTx port dt => Sys2Proof.Machine.execAnnounceTx port dt s
  | .ppsOutPulse => Sys2Proof.Machine.execPpsOutPulse s
  | .canFrameRx chan frame sof lost dt => Sys2Proof.Machine.execCanFrameRx chan frame sof lost dt s
  | .canArbWin chan dt => Sys2Proof.Machine.execCanArbWin chan dt s
  | .canTxDone chan ok dt => Sys2Proof.Machine.execCanTxDone chan ok dt s
  | .canTxExpired chan => Sys2Proof.Machine.execCanTxExpired chan s
  | .canBusError chan code tx add => Sys2Proof.Machine.execCanBusError chan code tx add s
  | .canBusOffRecovered chan dt => Sys2Proof.Machine.execCanBusOffRecovered chan dt s
  | .linSlotStart chan => Sys2Proof.Machine.execLinSlotStart chan s
  | .linHeaderRx chan id sync dt => Sys2Proof.Machine.execLinHeaderRx chan id sync dt s
  | .linResponseRx chan data check err dt => Sys2Proof.Machine.execLinResponseRx chan data check err dt s
  | .linSlotEnd chan => Sys2Proof.Machine.execLinSlotEnd chan s
  | .linGoToSleep chan => Sys2Proof.Machine.execLinGoToSleep chan s
  | .linWakePulse chan => Sys2Proof.Machine.execLinWakePulse chan s
  | .linScheduleRestart chan => Sys2Proof.Machine.execLinScheduleRestart chan s
  | .serCharRx chan value parity stop gap dt => Sys2Proof.Machine.execSerCharRx chan value parity stop gap dt s
  | .serGapTimeout chan reach dt => Sys2Proof.Machine.execSerGapTimeout chan reach dt s
  | .serTxQueue chan addr payload prio => Sys2Proof.Machine.execSerTxQueue chan addr payload prio s
  | .serLineIdle chan dt => Sys2Proof.Machine.execSerLineIdle chan dt s
  | .serDeLeadEnd chan dt => Sys2Proof.Machine.execSerDeLeadEnd chan dt s
  | .serCharSent chan echo dt => Sys2Proof.Machine.execSerCharSent chan echo dt s
  | .serDeLagEnd chan dt => Sys2Proof.Machine.execSerDeLagEnd chan dt s
  | .serTxExpired chan => Sys2Proof.Machine.execSerTxExpired chan s
  | .transceiverWake chan dt => Sys2Proof.Machine.execTransceiverWake chan dt s
  | .timeMsgInstant chan => Sys2Proof.Machine.execTimeMsgInstant chan s
  | .gwUplinkMatch chan => Sys2Proof.Machine.execGwUplinkMatch chan s
  | .bundleMaxWait bundle => Sys2Proof.Machine.execBundleMaxWait bundle s
  | .gwFrameDecode => Sys2Proof.Machine.execGwFrameDecode s
  | .periodicSlotInstant slot => Sys2Proof.Machine.execPeriodicSlotInstant slot s
  | .periodicStale slot => Sys2Proof.Machine.execPeriodicStale slot s
  | .guardSegmentEnd core first a b c parity => Sys2Proof.Machine.execGuardSegmentEnd core first a b c parity s
  | .tripwireTimer core first again => Sys2Proof.Machine.execTripwireTimer core first again s
  | .sramEccError core err => Sys2Proof.Machine.execSramEccError core err s
  | .heartbeatTx core => Sys2Proof.Machine.execHeartbeatTx core s
  | .heartbeatLoss core => Sys2Proof.Machine.execHeartbeatLoss core s
  | .coreDomainLost core dt => Sys2Proof.Machine.execCoreDomainLost core dt s
  | .coreFaultReport core => Sys2Proof.Machine.execCoreFaultReport core s
  | .gapStart dt => Sys2Proof.Machine.execGapStart dt s
  | .standbyLiningApplied dt => Sys2Proof.Machine.execStandbyLiningApplied dt s
  | .gapEnd dt => Sys2Proof.Machine.execGapEnd dt s
  | .restartCaughtUp dt => Sys2Proof.Machine.execRestartCaughtUp dt s
  | .liningRecordRx rec => Sys2Proof.Machine.execLiningRecordRx rec s
  | .liningAuditTimer => Sys2Proof.Machine.execLiningAuditTimer s
  | .catchupComplete => Sys2Proof.Machine.execCatchupComplete s
  | .handoverTimeout => Sys2Proof.Machine.execHandoverTimeout s
  | .trialTimeout => Sys2Proof.Machine.execTrialTimeout s
  | .imgEraseComplete dt => Sys2Proof.Machine.execImgEraseComplete dt s
  | .mbxDoorbell p => Sys2Proof.Machine.execMbxDoorbell p s
  | .responseFifoPlace p => Sys2Proof.Machine.execResponseFifoPlace p s
  | .mbxRspPop p => Sys2Proof.Machine.execMbxRspPop p s
  | .mbxRspDrop p => Sys2Proof.Machine.execMbxRspDrop p s
  | .evtRead p reg size => Sys2Proof.Machine.execEvtRead p reg size s
  | .evtWrite p reg w => Sys2Proof.Machine.execEvtWrite p reg w s
  | .upperBitsWrite p v => Sys2Proof.Machine.execUpperBitsWrite p v s
  | .registerWrite p idx w half => Sys2Proof.Machine.execRegisterWrite p idx w half s
  | .d0PostedWriteApply => Sys2Proof.Machine.execD0PostedWriteApply s
  | .policyLockSet p w => Sys2Proof.Machine.execPolicyLockSet p w s
  | .sealLockSet p w => Sys2Proof.Machine.execSealLockSet p w s
  | .keyLockSet p w => Sys2Proof.Machine.execKeyLockSet p w s
  | .powerLimitLockSet p w => Sys2Proof.Machine.execPowerLimitLockSet p w s
  | .ringCtrlWrite p rx n w => Sys2Proof.Machine.execRingCtrlWrite p rx n w s
  | .ringTailWrite p rx n w => Sys2Proof.Machine.execRingTailWrite p rx n w s
  | .spiTransaction bytes => Sys2Proof.Machine.execSpiTransaction bytes s
  | .serviceFrameRx bytes => Sys2Proof.Machine.execServiceFrameRx bytes s
  | .functionLevelReset p => Sys2Proof.Machine.execFunctionLevelReset p s
  | .perstNRelease die => Sys2Proof.Machine.execPerstNRelease die s
  | .lateWriteFail p reason addr => Sys2Proof.Machine.execLateWriteFail p reason addr s
  | .fifoPointerFault f => Sys2Proof.Machine.execFifoPointerFault f s
  | .sealPassEnd die crc => Sys2Proof.Machine.execSealPassEnd die crc s
  | .tamperAlarm source during dt => Sys2Proof.Machine.execTamperAlarm source during dt s
  | .cipherLockIdle => Sys2Proof.Machine.execCipherLockIdle s
  | .depotSessionTimeout => Sys2Proof.Machine.execDepotSessionTimeout s
  | .nonceExpiry => Sys2Proof.Machine.execNonceExpiry s
  | .openLockoutEnd => Sys2Proof.Machine.execOpenLockoutEnd s
  | .seqStepPowerGood dt => Sys2Proof.Machine.execSeqStepPowerGood dt s
  | .seqWaitExpiry => Sys2Proof.Machine.execSeqWaitExpiry s
  | .seqPgTimeout => Sys2Proof.Machine.execSeqPgTimeout s
  | .paceSample die monitors tj dt => Sys2Proof.Machine.execPaceSample die monitors tj dt s
  | .paceRiseTimer die => Sys2Proof.Machine.execPaceRiseTimer die s
  | .paceFallTimer die => Sys2Proof.Machine.execPaceFallTimer die s
  | .paceShortTimer die => Sys2Proof.Machine.execPaceShortTimer die s
  | .ageingHour die => Sys2Proof.Machine.execAgeingHour die s
  | .powerEstimate pout ampW ampE feeds dt => Sys2Proof.Machine.execPowerEstimate pout ampW ampE feeds dt s
  | .powerShedTimer => Sys2Proof.Machine.execPowerShedTimer s
  | .powerRestoreTimer => Sys2Proof.Machine.execPowerRestoreTimer s
  | .feedOvercurrentTrip feed current dt => Sys2Proof.Machine.execFeedOvercurrentTrip feed current dt s
  | .feedInrushEnd feed current => Sys2Proof.Machine.execFeedInrushEnd feed current s
  | .feedRetryExpiry feed => Sys2Proof.Machine.execFeedRetryExpiry feed s
  | .feedRetryRestore feed => Sys2Proof.Machine.execFeedRetryRestore feed s
  | .feedShedRestore feed volts dt => Sys2Proof.Machine.execFeedShedRestore feed volts dt s
  | .feedAutoOn => Sys2Proof.Machine.execFeedAutoOn s
  | .supplyOv volts dt => Sys2Proof.Machine.execSupplyOv volts dt s
  | .supplyUv volts dt => Sys2Proof.Machine.execSupplyUv volts dt s
  | .supplyCrank volts dt => Sys2Proof.Machine.execSupplyCrank volts dt s
  | .controlledPowerDown volts dt => Sys2Proof.Machine.execControlledPowerDown volts dt s
  | .supplyRestored volts dt => Sys2Proof.Machine.execSupplyRestored volts dt s
  | .wakePolicyMatch w => Sys2Proof.Machine.execWakePolicyMatch w s
  | .sleepTimerExpiry => Sys2Proof.Machine.execSleepTimerExpiry s
  | .prepareCancel kind src => Sys2Proof.Machine.execPrepareCancel kind src s
  | .commitPoint => Sys2Proof.Machine.execCommitPoint s
  | .sleepSeqComplete => Sys2Proof.Machine.execSleepSeqComplete s
  | .wakeSource kind src dt => Sys2Proof.Machine.execWakeSource kind src dt s
  | .wakeSeqComplete => Sys2Proof.Machine.execWakeSeqComplete s
  | .coreWakeRebuild west east dt => Sys2Proof.Machine.execCoreWakeRebuild west east dt s
  | .wakeLocInput input dt => Sys2Proof.Machine.execWakeLocInput input dt s
  | .sleepWakeTimer => Sys2Proof.Machine.execSleepWakeTimer s
  | .wakeHoldExpiry path => Sys2Proof.Machine.execWakeHoldExpiry path s
  | .helloTx => Sys2Proof.Machine.execHelloTx s
  | .stackHelloRx port => Sys2Proof.Machine.execStackHelloRx port s
  | .stackMatchRx port => Sys2Proof.Machine.execStackMatchRx port s
  | .stackPrepareRx port => Sys2Proof.Machine.execStackPrepareRx port s
  | .stackCancelRx port => Sys2Proof.Machine.execStackCancelRx port s
  | .stackCommitRx port => Sys2Proof.Machine.execStackCommitRx port s
  | .masterLost => Sys2Proof.Machine.execMasterLost s
  | .bridgeWriteRx port => Sys2Proof.Machine.execBridgeWriteRx port s
  | .bridgeReadRx port => Sys2Proof.Machine.execBridgeReadRx port s
  | .bridgeLockReadRx port => Sys2Proof.Machine.execBridgeLockReadRx port s
  | .bridgeUnlockWriteRx port => Sys2Proof.Machine.execBridgeUnlockWriteRx port s
  | .bridgeWackRx port => Sys2Proof.Machine.execBridgeWackRx port s
  | .bridgeRdataRx port => Sys2Proof.Machine.execBridgeRdataRx port s
  | .bridgeBackoffExpiry => Sys2Proof.Machine.execBridgeBackoffExpiry s
  | .bridgeTimeout => Sys2Proof.Machine.execBridgeTimeout s
  | .bridgeLockExpiry die => Sys2Proof.Machine.execBridgeLockExpiry die s
  | .stkWakeInput => Sys2Proof.Machine.execStkWakeInput s
  | .relayTimeout path => Sys2Proof.Machine.execRelayTimeout path s
  | .aoPowerUp bk => Sys2Proof.Machine.execAoPowerUp bk s
  | .resetNInput dt => Sys2Proof.Machine.execResetNInput dt s
  | .slowOscRunning hem mbr dt => Sys2Proof.Machine.execSlowOscRunning hem mbr dt s
  | .tcxoLock dt => Sys2Proof.Machine.execTcxoLock dt s
  | .clockWaitTimeout => Sys2Proof.Machine.execClockWaitTimeout s
  | .supplyOnStable volts dt => Sys2Proof.Machine.execSupplyOnStable volts dt s
  | .selftestComplete fails dt => Sys2Proof.Machine.execSelftestComplete fails dt s
  | .imageVerified dt => Sys2Proof.Machine.execImageVerified dt s
  | .measurementReleased west east dt => Sys2Proof.Machine.execMeasurementReleased west east dt s
  | .blobsHandled dt => Sys2Proof.Machine.execBlobsHandled dt s
  | .imageRecordExec dt => Sys2Proof.Machine.execImageRecordExec dt s
  | .locksApply dt => Sys2Proof.Machine.execLocksApply dt s
  | .haltPowerRetry => Sys2Proof.Machine.execHaltPowerRetry s
  | .dieLost die dt => Sys2Proof.Machine.execDieLost die dt s
  | .dieReloadForwarding test dt => Sys2Proof.Machine.execDieReloadForwarding test dt s
  | .pathOutputWrite r => Sys2Proof.Machine.execPathOutputWrite r s
  | .pathOutputRead r => Sys2Proof.Machine.execPathOutputRead r s
  | .pathMirrorWrite r => Sys2Proof.Machine.execPathMirrorWrite r s
  | .pathMirrorRead r => Sys2Proof.Machine.execPathMirrorRead r s
  | .poolLimitWrite r => Sys2Proof.Machine.execPoolLimitWrite r s
  | .poolLevelWrite r => Sys2Proof.Machine.execPoolLevelWrite r s
  | .poolConfigRead r => Sys2Proof.Machine.execPoolConfigRead r s
  | .poolStatsRead r => Sys2Proof.Machine.execPoolStatsRead r s
  | .poolErrlogRead r => Sys2Proof.Machine.execPoolErrlogRead r s
  | .poolCellRead r => Sys2Proof.Machine.execPoolCellRead r s
  | .rulePortWrite r => Sys2Proof.Machine.execRulePortWrite r s
  | .ruleProgramLoad r => Sys2Proof.Machine.execRuleProgramLoad r s
  | .ruleRangeWrite r => Sys2Proof.Machine.execRuleRangeWrite r s
  | .ruleEntryWrite r => Sys2Proof.Machine.execRuleEntryWrite r s
  | .ruleEntryRead r => Sys2Proof.Machine.execRuleEntryRead r s
  | .ruleGroupWrite r => Sys2Proof.Machine.execRuleGroupWrite r s
  | .ruleCommit r => Sys2Proof.Machine.execRuleCommit r s
  | .ruleStatusRead r => Sys2Proof.Machine.execRuleStatusRead r s
  | .ruleFragWrite r => Sys2Proof.Machine.execRuleFragWrite r s
  | .ruleStatsRead r => Sys2Proof.Machine.execRuleStatsRead r s
  | .rulePortRead r => Sys2Proof.Machine.execRulePortRead r s
  | .ruleRangeRead r => Sys2Proof.Machine.execRuleRangeRead r s
  | .ruleGroupRead r => Sys2Proof.Machine.execRuleGroupRead r s
  | .fwdEntryWrite r => Sys2Proof.Machine.execFwdEntryWrite r s
  | .fwdEntryRead r => Sys2Proof.Machine.execFwdEntryRead r s
  | .fwdCommit r => Sys2Proof.Machine.execFwdCommit r s
  | .fwdStatusRead r => Sys2Proof.Machine.execFwdStatusRead r s
  | .fwdPortWrite r => Sys2Proof.Machine.execFwdPortWrite r s
  | .fwdPortRead r => Sys2Proof.Machine.execFwdPortRead r s
  | .fwdLearnWrite r => Sys2Proof.Machine.execFwdLearnWrite r s
  | .fwdLearnFlush r => Sys2Proof.Machine.execFwdLearnFlush r s
  | .fwdStatsRead r => Sys2Proof.Machine.execFwdStatsRead r s
  | .frerFuncWrite r => Sys2Proof.Machine.execFrerFuncWrite r s
  | .frerFuncRead r => Sys2Proof.Machine.execFrerFuncRead r s
  | .frerReset r => Sys2Proof.Machine.execFrerReset r s
  | .zoneMapWrite r => Sys2Proof.Machine.execZoneMapWrite r s
  | .zoneMapRead r => Sys2Proof.Machine.execZoneMapRead r s
  | .zonePolicyWrite r => Sys2Proof.Machine.execZonePolicyWrite r s
  | .zonePolicyRead r => Sys2Proof.Machine.execZonePolicyRead r s
  | .zoneGwRead r => Sys2Proof.Machine.execZoneGwRead r s
  | .zoneStatsRead r => Sys2Proof.Machine.execZoneStatsRead r s
  | .meterWrite r => Sys2Proof.Machine.execMeterWrite r s
  | .meterRead r => Sys2Proof.Machine.execMeterRead r s
  | .meterFilterWrite r => Sys2Proof.Machine.execMeterFilterWrite r s
  | .meterFilterRead r => Sys2Proof.Machine.execMeterFilterRead r s
  | .meterStatsRead r => Sys2Proof.Machine.execMeterStatsRead r s
  | .meterUnblock r => Sys2Proof.Machine.execMeterUnblock r s
  | .gclConfigWrite r => Sys2Proof.Machine.execGclConfigWrite r s
  | .gclListWrite r => Sys2Proof.Machine.execGclListWrite r s
  | .gclPatternWrite r => Sys2Proof.Machine.execGclPatternWrite r s
  | .gclCommit r => Sys2Proof.Machine.execGclCommit r s
  | .gclCancel r => Sys2Proof.Machine.execGclCancel r s
  | .gclRead r => Sys2Proof.Machine.execGclRead r s
  | .gclStatusRead r => Sys2Proof.Machine.execGclStatusRead r s
  | .gclCheck r => Sys2Proof.Machine.execGclCheck r s
  | .shaperQueueWrite r => Sys2Proof.Machine.execShaperQueueWrite r s
  | .shaperQueueRead r => Sys2Proof.Machine.execShaperQueueRead r s
  | .shaperPreemptWrite r => Sys2Proof.Machine.execShaperPreemptWrite r s
  | .shaperMmWrite r => Sys2Proof.Machine.execShaperMmWrite r s
  | .shaperMmRead r => Sys2Proof.Machine.execShaperMmRead r s
  | .qstatQueueRead r => Sys2Proof.Machine.execQstatQueueRead r s
  | .qstatSamplerWrite r => Sys2Proof.Machine.execQstatSamplerWrite r s
  | .qstatSamplerRead r => Sys2Proof.Machine.execQstatSamplerRead r s
  | .timeRead r => Sys2Proof.Machine.execTimeRead r s
  | .timeSet r => Sys2Proof.Machine.execTimeSet r s
  | .timeAdjust r => Sys2Proof.Machine.execTimeAdjust r s
  | .timeConfigWrite r => Sys2Proof.Machine.execTimeConfigWrite r s
  | .timeConfigRead r => Sys2Proof.Machine.execTimeConfigRead r s
  | .timePortWrite r => Sys2Proof.Machine.execTimePortWrite r s
  | .timePortRead r => Sys2Proof.Machine.execTimePortRead r s
  | .timePpsRead r => Sys2Proof.Machine.execTimePpsRead r s
  | .portConfigWrite r => Sys2Proof.Machine.execPortConfigWrite r s
  | .portPlcaWrite r => Sys2Proof.Machine.execPortPlcaWrite r s
  | .portConfigRead r => Sys2Proof.Machine.execPortConfigRead r s
  | .portPlcaRead r => Sys2Proof.Machine.execPortPlcaRead r s
  | .portStatusRead r => Sys2Proof.Machine.execPortStatusRead r s
  | .portCableTest r => Sys2Proof.Machine.execPortCableTest r s
  | .macsecPortWrite r => Sys2Proof.Machine.execMacsecPortWrite r s
  | .macsecMkaWrite r => Sys2Proof.Machine.execMacsecMkaWrite r s
  | .macsecStatusRead r => Sys2Proof.Machine.execMacsecStatusRead r s
  | .edgeCanWrite r => Sys2Proof.Machine.execEdgeCanWrite r s
  | .edgeLinWrite r => Sys2Proof.Machine.execEdgeLinWrite r s
  | .edgeLinTableWrite r => Sys2Proof.Machine.execEdgeLinTableWrite r s
  | .edgeSerWrite r => Sys2Proof.Machine.execEdgeSerWrite r s
  | .edgeTableLoad r => Sys2Proof.Machine.execEdgeTableLoad r s
  | .edgeWakeWrite r => Sys2Proof.Machine.execEdgeWakeWrite r s
  | .edgeCanRecover r => Sys2Proof.Machine.execEdgeCanRecover r s
  | .edgeConfigRead r => Sys2Proof.Machine.execEdgeConfigRead r s
  | .edgeStatusRead r => Sys2Proof.Machine.execEdgeStatusRead r s
  | .gwBundleWrite r => Sys2Proof.Machine.execGwBundleWrite r s
  | .gwUpWrite r => Sys2Proof.Machine.execGwUpWrite r s
  | .gwDownWrite r => Sys2Proof.Machine.execGwDownWrite r s
  | .gwPeriodicWrite r => Sys2Proof.Machine.execGwPeriodicWrite r s
  | .gwPeriodicData r => Sys2Proof.Machine.execGwPeriodicData r s
  | .gwRead r => Sys2Proof.Machine.execGwRead r s
  | .gwStatsRead r => Sys2Proof.Machine.execGwStatsRead r s
  | .coreStatusRead r => Sys2Proof.Machine.execCoreStatusRead r s
  | .coreSwitch r => Sys2Proof.Machine.execCoreSwitch r s
  | .coreGuardWrite r => Sys2Proof.Machine.execCoreGuardWrite r s
  | .coreGuardRead r => Sys2Proof.Machine.execCoreGuardRead r s
  | .coreStatsRead r => Sys2Proof.Machine.execCoreStatsRead r s
  | .coreRestart r => Sys2Proof.Machine.execCoreRestart r s
  | .coreSelftest r => Sys2Proof.Machine.execCoreSelftest r s
  | .coreDebug r => Sys2Proof.Machine.execCoreDebug r s
  | .hostEcho r => Sys2Proof.Machine.execHostEcho r s
  | .hostVersionRead r => Sys2Proof.Machine.execHostVersionRead r s
  | .hostLateLogRead r => Sys2Proof.Machine.execHostLateLogRead r s
  | .hostRingStatsRead r => Sys2Proof.Machine.execHostRingStatsRead r s
  | .sealCommit r => Sys2Proof.Machine.execSealCommit r s
  | .sealStatusRead r => Sys2Proof.Machine.execSealStatusRead r s
  | .diagRead r => Sys2Proof.Machine.execDiagRead r s
  | .faultStatusRead r => Sys2Proof.Machine.execFaultStatusRead r s
  | .faultLogRead r => Sys2Proof.Machine.execFaultLogRead r s
  | .faultLinkEnable r => Sys2Proof.Machine.execFaultLinkEnable r s
  | .faultDieReload r => Sys2Proof.Machine.execFaultDieReload r s
  | .faultReset r => Sys2Proof.Machine.execFaultReset r s
  | .maintStatusRead r => Sys2Proof.Machine.execMaintStatusRead r s
  | .maintExclWrite r => Sys2Proof.Machine.execMaintExclWrite r s
  | .stackStatusRead r => Sys2Proof.Machine.execStackStatusRead r s
  | .stackRelay r => Sys2Proof.Machine.execStackRelay r s
  | .stackDesignate r => Sys2Proof.Machine.execStackDesignate r s
  | .imgStatusRead r => Sys2Proof.Machine.execImgStatusRead r s
  | .imgBegin r => Sys2Proof.Machine.execImgBegin r s
  | .imgWrite r => Sys2Proof.Machine.execImgWrite r s
  | .imgVerify r => Sys2Proof.Machine.execImgVerify r s
  | .imgPrepare r => Sys2Proof.Machine.execImgPrepare r s
  | .imgHandover r => Sys2Proof.Machine.execImgHandover r s
  | .imgConfirm r => Sys2Proof.Machine.execImgConfirm r s
  | .imgRollback r => Sys2Proof.Machine.execImgRollback r s
  | .imgReportRead r => Sys2Proof.Machine.execImgReportRead r s
  | .keyStatusRead r => Sys2Proof.Machine.execKeyStatusRead r s
  | .keyProvision r => Sys2Proof.Machine.execKeyProvision r s
  | .keyGenerate r => Sys2Proof.Machine.execKeyGenerate r s
  | .keyImport r => Sys2Proof.Machine.execKeyImport r s
  | .keyDerive r => Sys2Proof.Machine.execKeyDerive r s
  | .keyDelete r => Sys2Proof.Machine.execKeyDelete r s
  | .keyInfoRead r => Sys2Proof.Machine.execKeyInfoRead r s
  | .keyTamperWrite r => Sys2Proof.Machine.execKeyTamperWrite r s
  | .keyTamperRead r => Sys2Proof.Machine.execKeyTamperRead r s
  | .keyVerifierWrite r => Sys2Proof.Machine.execKeyVerifierWrite r s
  | .keySession r => Sys2Proof.Machine.execKeySession r s
  | .cipherLock r => Sys2Proof.Machine.execCipherLock r s
  | .cipherBlock r => Sys2Proof.Machine.execCipherBlock r s
  | .cipherUnlock r => Sys2Proof.Machine.execCipherUnlock r s
  | .cipherStatusRead r => Sys2Proof.Machine.execCipherStatusRead r s
  | .powerStatusRead r => Sys2Proof.Machine.execPowerStatusRead r s
  | .powerSeqLoad r => Sys2Proof.Machine.execPowerSeqLoad r s
  | .powerConfigWrite r => Sys2Proof.Machine.execPowerConfigWrite r s
  | .powerLoadConfig r => Sys2Proof.Machine.execPowerLoadConfig r s
  | .powerLoadSet r => Sys2Proof.Machine.execPowerLoadSet r s
  | .powerRead r => Sys2Proof.Machine.execPowerRead r s
  | .paceCurveLoad r => Sys2Proof.Machine.execPaceCurveLoad r s
  | .paceConfigWrite r => Sys2Proof.Machine.execPaceConfigWrite r s
  | .paceStatusRead r => Sys2Proof.Machine.execPaceStatusRead r s
  | .paceRead r => Sys2Proof.Machine.execPaceRead r s
  | .wakePolicyWrite r => Sys2Proof.Machine.execWakePolicyWrite r s
  | .wakeConfigWrite r => Sys2Proof.Machine.execWakeConfigWrite r s
  | .wakeHold r => Sys2Proof.Machine.execWakeHold r s
  | .wakeStatusRead r => Sys2Proof.Machine.execWakeStatusRead r s
  | .wakeLogRead r => Sys2Proof.Machine.execWakeLogRead r s
  | .wakeRead r => Sys2Proof.Machine.execWakeRead r s
  | .wakePulseEnd port => Sys2Proof.Machine.execWakePulseEnd port s
  | .plcaBeaconTx port => Sys2Proof.Machine.execPlcaBeaconTx port s
  | .mkaHelloTime port heard => Sys2Proof.Machine.execMkaHelloTime port heard s
  | .servicePortLinkDown => Sys2Proof.Machine.execServicePortLinkDown s
  | .pcieLinkChange die up => Sys2Proof.Machine.execPcieLinkChange die up s
  | .aoSupplyLoss dt => Sys2Proof.Machine.execAoSupplyLoss dt s
  | .supplyNormal volts dt => Sys2Proof.Machine.execSupplyNormal volts dt s
  | .coreBootTimeout => Sys2Proof.Machine.execCoreBootTimeout s
  | .coreRestartFailed core verify => Sys2Proof.Machine.execCoreRestartFailed core verify s

end Sys2Proof.Machine
end

