-- ==== Sys2Proof/Machine/Step.lean ====
section
/-! DEFINITION. One step of the block: the command at the front of the queue, or one tick of the clock when none waits (log 1). -/

namespace Sys2Proof.Machine

/-- The block with nothing commanded: one tick of 312.5 MHz passes (08 R208, R212; log 1). -/
def State.idle (s : State) : State := s.adv 1

/-- One step: the command at the front of the queue runs with the rest of the queue left; an empty queue lets one tick pass
(log 1). -/
def step (s : State) : Host.Outcome State Fault Refusal :=
  match s.pending with
  | [] => .next s.idle
  | c :: rest => exec c { s with pending := rest }

/-- The state with the command that a word spells at the front of its queue; the state itself where it spells none (log 28). -/
def State.withFetchWord (s : State) (nbits w : Nat) : State :=
  match decodeTableWord nbits w with
  | some c => { s with pending := c :: s.pending }
  | none => s

end Sys2Proof.Machine
end

