-- ==== Sys2Proof/Safety.lean ====
section
/-! DEFINITION. What the statements about this block are said in: a request that its core takes, its answer, and the slices of the
state that a command may touch. -/

namespace Sys2Proof.Machine

/-! ### Slices -/

/-- The slices that the mailbox protocol itself never touches. -/
structure Slices where
  /-- Queue. -/
  pending : List Instr
  /-- Locks. -/
  locks : LockSt
  /-- Time. -/
  tim : TimeSt
  /-- Shared tables. -/
  tab : TabSt
  /-- Zones and meters. -/
  zon : ZoneSt
  /-- Gates and shapers. -/
  egr : EgressSt
  /-- Front ports. -/
  ports : Tbl PortSt
  /-- Stack. -/
  stk : StackSt
  /-- Gateway. -/
  gw : GwSt
  /-- Images. -/
  img : ImgSt
  /-- Power. -/
  pow : PowerSt
  /-- Keys. -/
  key : KeySt
  /-- Legacy channels. -/
  edge : EdgeSt
  /-- Frame path of D1. -/
  fabW : FabSt
  /-- Frame path of D2. -/
  fabE : FabSt
  /-- Counter of free values. -/
  free : Nat

/-- The slices of a state. -/
def State.wide (s : State) : Slices :=
  { pending := s.pending, locks := s.locks, tim := s.tim, tab := s.tab, zon := s.zon, egr := s.egr, ports := s.ports, stk := s.stk, gw := s.gw,
    img := s.img, pow := s.pow, key := s.key, edge := s.edge, fabW := s.fabW, fabE := s.fabE, free := s.free }

/-! ### The pair without its journal -/

/-- A core without what the journal changes. -/
def CoreSt.rest (k : CoreSt) : CoreSt := { k with liningRecords := 0, liningStales := 0, mode := .off }

/-- The pair without what the journal changes. -/
def PairSt.rest (p : PairSt) : PairSt :=
  { p with west := p.west.rest, east := p.east.rest, mode := .normal, txSeq := 0, sent := [], inSnapshot := false, snapDone := false, snapOut := false }

/-! ### Mailbox commands -/

/-- The active core serves requests that change state: the pair is in no gap and no restart, the core is ACTIVE and not
halted, it has caught up, and no bridge request holds a register bus (12 R343, R346; 17 R504). -/
def State.coreTakes (s : State) : Prop :=
  s.pair.promoting = none ∧ s.pair.mode ≠ .gap ∧ s.pair.mode ≠ .restart ∧ s.pair.mustCatchUp = false ∧ s.stk.locks = [] ∧
    (s.core s.pair.active).mode = .active ∧ (s.core s.pair.active).halted = false

/-- The request `r` of opcode `op`, with FLAGS 0, is the one that waits on its path, nothing of that path runs or is held, and the
active core takes it now (13 R367, R369). -/
def State.serves (s : State) (op : Nat) (r : Req) : Prop :=
  r.flags = 0 ∧ (∃ seq bufs, (s.path r.path).waiting = [{ opcode := op, req := r, seq := seq, bufs := bufs }]) ∧
    (s.path r.path).running = none ∧ (s.path r.path).held = [] ∧ s.coreTakes

/-- The state in which the core executes the request: it has been taken from its path. -/
def State.taken (s : State) (p : Path) : State := s.modPath p fun q => { q with waiting := q.waiting.drop 1 }

/-- Every check of 13 R370 passes, and no field is clamped (13 R371). -/
def CmdSpec.plain (sp : CmdSpec) (r : Req) (s : State) : Prop :=
  sp.lenFits r = true ∧ sp.locked r s = false ∧ sp.unkeyed r s = false ∧ sp.busy r s = false ∧
    checkWords 1 (sp.fields r s) r.words = { words := r.words }

/-- The response `ws` to the request `r` has gone out: behind what the path's FIFO held, when it fits; as a service frame; or to
the requester inside the device (13 R360, R369). -/
def State.told (s t : State) (r : Req) (ws : List Word) : Prop :=
  match r.path with
  | .service => ∃ sq, Output.service 2 sq ws ∈ t.out
  | .image => (t.path .image).fifo = ws
  | .relay => (t.path .relay).fifo = ws
  | p => (s.path p).fifo.length + ws.length ≤ 1024 → (t.path p).fifo = (s.path p).fifo ++ ws

/-- A command of opcode `op` that the core takes, that passes its checks, and of which `cond` holds, answers DONE with the payload
`ws` and has the effect `eff`. -/
def does (op : Nat) (c : Req → Instr) (sp : CmdSpec) (cond : Req → State → Prop) (ws : Req → State → State → List Word)
    (eff : Req → State → State → Prop) : Prop :=
  ∀ (r : Req) (s : State), s.serves op r → sp.plain r (s.taken r.path) → cond r s →
    ∃ t, exec (c r) s = .next t ∧ s.told t r (responseWords op r.tag .done (ws r s t) []) ∧ eff r s t

/-- A command of opcode `op` that the core takes, that passes its checks, and of which `cond` holds, starts and has the effect `eff`; its
response follows later (13 R369). -/
def starts (op : Nat) (c : Req → Instr) (sp : CmdSpec) (cond : Req → State → Prop) (eff : Req → State → State → Prop) : Prop :=
  ∀ (r : Req) (s : State), s.serves op r → sp.plain r (s.taken r.path) → cond r s →
    ∃ t, exec (c r) s = .next t ∧ (∃ k, (t.path r.path).running = some k ∧ k.pend.req = r ∧ k.orphan = false) ∧ eff r s t

/-- Every slice that `f` does not take from its second argument stays, whatever the request and whatever it meets. -/
def leaves (c : Req → Instr) (f : Slices → Slices → Slices) : Prop :=
  ∀ (r : Req) (s t : State), exec (c r) s = .next t → f t.wide s.wide = s.wide

/-- The command completes from `s`, in a state of which `P` holds. -/
def runs (i : Instr) (s : State) (P : State → Prop) : Prop := ∃ t, exec i s = .next t ∧ P t

/-- No condition. -/
def always (_ : Req) (_ : State) : Prop := True

/-- A command that changes nothing but paths, buffers, cores, seal, start-up and the record of outputs, and answers the payload `ws`. -/
def reads (op : Nat) (c : Req → Instr) (sp : CmdSpec) (ws : Req → State → List Word) : Prop :=
  does op c sp always (fun r s _ => ws r s) fun _ s t => t.wide = s.wide

/-- A command that answers nothing but DONE and has the effect `eff`. -/
def writes (op : Nat) (c : Req → Instr) (sp : CmdSpec) (eff : Req → State → State → Prop) : Prop :=
  does op c sp always (fun _ _ _ => []) eff

/-- A request of opcode `op`, of a permitted LENGTH, that meets `cond` is answered `code` with no payload, and nothing but its path and
its buffers changes (13 R366, R370). -/
def turned (op : Nat) (c : Req → Instr) (sp : CmdSpec) (cond : Req → State → Prop) (code : Code) : Prop :=
  ∀ (r : Req) (s : State), s.serves op r → sp.lenFits r = true → cond r s →
    ∃ t, exec (c r) s = .next t ∧ s.told t r (responseWords op r.tag code [] []) ∧ t.wide = s.wide

/-- `x` with the instant of the last depot-session request of `y`, which taking a request on the service port sets (15 R442). -/
def Slices.session (x y : Slices) : Slices := { x with key := { x.key with sessionAt := y.key.sessionAt } }

/-! ### Events -/

/-- The part of the device that an event belongs to. -/
inductive Area where
  /-- The way of a frame, the front ports' links and the clock. -/
  | fabric
  /-- The legacy channels and the gateway. -/
  | legacy
  /-- Power, pace and feeds. -/
  | power
  /-- Events that act on cores, paths, buffers and start-up alone. -/
  | quiet
  /-- Everything else. -/
  | other
deriving DecidableEq, Repr

/-- The area of an event; mailbox commands and the events that reach further have none. -/
def areaOf : Instr → Area
  | .gclEntryStart .. | .gclChangeTime .. | .gclCopyComplete .. | .mmVerifyTimer .. | .mmVerifyRx .. | .samplerPeriod ..
  | .frameRxStart .. | .parseEnd .. | .parseClass .. | .parseExtract .. | .parseLoad .. | .parseAnd .. | .parseTest ..
  | .parseTestne .. | .parseJump .. | .parseAdvance .. | .parseLenset .. | .parseFail .. | .parseBudgetExhausted ..
  | .parseEngineTake .. | .recircPassStart .. | .collectorTake .. | .fabricWordStore .. | .frameEndStored .. | .seamFrameStart ..
  | .seamWordSend .. | .seamWordRx .. | .seamLinkLost .. | .egressSelect .. | .egressFrameEnd .. | .stagingUnderrun ..
  | .expressPreempt .. | .cbsRefill .. | .activationArmDeadline .. | .activationTimeReached .. | .ruleBankRetired .. | .fwdSweepEnd ..
  | .learnEntryWrite .. | .fragTimeout .. | .frerResetTimeout .. | .restoreHoldEnd .. | .cpuPortDelivery .. | .freqAdjApply ..
  | .timeStepApply .. | .slewEnd .. | .ppsEdge .. | .ppsMissing .. | .holdoverMaxExpiry .. | .ppsOutPulse .. | .syncTx ..
  | .followUpTx .. | .pdelayReqTx .. | .pdelayRx .. | .syncRx .. | .syncTimeout .. | .announceTx .. | .linkDownDeclared ..
  | .pcsLock .. | .trainTimeout .. | .usxgmiiAnWord .. | .resumeDeadline .. | .wakePulseEnd .. | .tc10SleepAckRx ..
  | .sleepWaitTimeout .. | .lpiIdleTimer .. | .lpiWakeComplete .. | .beaconLossTimeout .. | .beaconRx .. | .plcaBeaconTx ..
  | .plcaTxOpportunity .. | .sqiUpdate .. | .cableTestDone .. | .mkaSakInstall .. | .mkaHelloTime .. => .fabric
  | .canFrameRx .. | .canArbWin .. | .canTxDone .. | .canTxExpired .. | .canBusError .. | .canBusOffRecovered .. | .linSlotStart ..
  | .linHeaderRx .. | .linResponseRx .. | .linSlotEnd .. | .linGoToSleep .. | .linWakePulse .. | .linScheduleRestart ..
  | .serCharRx .. | .serGapTimeout .. | .serTxQueue .. | .serLineIdle .. | .serDeLeadEnd .. | .serCharSent .. | .serDeLagEnd ..
  | .serTxExpired .. | .timeMsgInstant .. | .gwUplinkMatch .. | .bundleMaxWait .. | .gwFrameDecode .. | .periodicSlotInstant ..
  | .periodicStale .. => .legacy
  | .paceSample .. | .paceRiseTimer .. | .paceFallTimer .. | .paceShortTimer .. | .ageingHour .. | .powerEstimate ..
  | .feedOvercurrentTrip .. | .feedInrushEnd .. | .feedRetryExpiry .. | .feedRetryRestore .. | .feedShedRestore .. | .feedAutoOn ..
  | .supplyOv .. | .supplyUv .. | .supplyCrank .. | .supplyNormal .. => .power
  | .poolAlloc .. | .poolFree .. | .poolShare .. | .poolRelease .. | .freeListBuilt .. | .tc10SleepReqRx .. | .liningRecordRx ..
  | .liningAuditTimer .. | .guardSegmentEnd .. | .tripwireTimer .. | .sramEccError .. | .heartbeatTx .. | .responseFifoPlace ..
  | .mbxRspPop .. | .evtRead .. | .upperBitsWrite .. | .perstNRelease .. | .pcieLinkChange .. | .lateWriteFail ..
  | .fifoPointerFault .. => .quiet
  | _ => .other

/-- What an event of an area leaves. -/
def Area.stays (a : Area) (s t : State) : Prop :=
  match a with
  | .fabric => t.locks = s.locks ∧ t.img = s.img ∧ t.pow = s.pow ∧ t.key = s.key ∧ t.edge = s.edge
  | .legacy => t.locks = s.locks ∧ t.tab = s.tab ∧ t.zon = s.zon ∧ t.egr = s.egr ∧ t.ports = s.ports ∧ t.img = s.img ∧ t.key = s.key
  | .power => t.wide = { s.wide with tim := t.tim, pow := t.pow, free := t.free }
  | .quiet => t.wide = s.wide
  | .other => True

/-! ### Locks -/

/-- Every lock bit of `l` that is set is set in `m` (13 R366). -/
def LockSt.holds (l m : LockSt) : Prop :=
  (l.policy = true → m.policy = true) ∧ (l.sealLock = true → m.sealLock = true) ∧ (l.key = true → m.key = true) ∧
    (l.power = true → m.power = true)

/-- The commands that reset the device or take its always-on supply away (13 R366; 18 R512). -/
def resetsDevice : Instr → Bool
  | .resetNInput .. | .supplyRestored .. | .aoSupplyLoss .. | .faultReset .. => true
  | _ => false

end Sys2Proof.Machine
end

