-- ==== Sys2Proof/Certificates/Slice0/Obligations.lean ====
section
/-! DEFINITION. The statements about this block. A statement about a mailbox command says what it answers and changes when the active core
takes it (`does`, `reads`, `writes`, `starts`); one about an event says what state it leads to (`runs`). -/

section

open Sys2Proof Sys2Proof.Machine Sys2Proof.Crypto

/-- PATH commands: OUTPUT_WRITE and MIRROR_WRITE set the fields that they name, and the read commands return the fields in force (02 R46 to
R49). MIRROR_WRITE is stated where its destination is no source. -/
def Obligations.PathCommandsSetAndReadOutputsAndMirrors : Prop :=
  writes 0x201 .pathOutputWrite pathOutputWrite (fun r _ t =>
    let c := Tbl.get OutCfg.dflt (t.fab (pathOutput r).1).outs (pathOutput r).2
    c.resLimit = r.fld 1 19 0 ∧ c.pocketMask = r.fld 2 31 0 ∧ (r.bit 1 29 = false → c.ctEn = r.bit 1 30)) ∧
  reads 0x202 .pathOutputRead pathOutputRead (fun r s =>
    let c := Tbl.get OutCfg.dflt (s.fab (pathOutput r).1).outs (pathOutput r).2
    [pack [(31, 5, r.fld 1 35 31), (30, 1, b1 c.ctEn), (29, 1, r.fld 1 29 29), (28, 1, r.fld 1 28 28), (0, 20, c.resLimit)],
     w36 c.pocketMask]) ∧
  does 0x203 .pathMirrorWrite pathMirrorWrite (fun r _ => inMask (r.fld 2 31 0) (r.fld 1 29 25) = false) (fun _ _ _ => [])
    (fun r _ t =>
      let m := Tbl.get MirrorCfg.dflt (t.fab r.dieBit).mirrors (r.fld 1 34 33)
      m.enable = r.bit 1 32 ∧ m.mode = r.fld 1 31 30 ∧ m.destPort = r.fld 1 29 25 ∧ m.destQueue = r.fld 1 24 20 ∧
        m.truncate = r.fld 1 19 6 ∧ m.sourceMask = r.fld 2 31 0) ∧
  reads 0x204 .pathMirrorRead pathMirrorRead (fun r s =>
    let m := Tbl.get MirrorCfg.dflt (s.fab r.dieBit).mirrors (r.fld 1 34 33)
    [pack [(35, 1, r.fld 1 35 35), (33, 2, r.fld 1 34 33), (32, 1, b1 m.enable), (30, 2, m.mode), (25, 5, m.destPort),
           (20, 5, m.destQueue), (6, 14, m.truncate)], w36 m.sourceMask])

/-- POOL commands: the limits and levels written are those in force, and the read commands return limits, levels, counters, the error log
and a buffer's record (03 R68 to R73). -/
def Obligations.PoolCommandsSetLimitsAndReadCounters : Prop :=
  writes 0x301 .poolLimitWrite poolLimitWrite (fun r s t =>
    ∀ o, Tbl.get limitDflt (t.pool r.dieBit).limits o =
      if o = r.fld 1 34 30 then r.fld 1 15 0 else Tbl.get limitDflt (s.pool r.dieBit).limits o) ∧
  writes 0x302 .poolLevelWrite poolLevelWrite (fun r _ t =>
    let l := Tbl.get levelDflt (t.pool r.dieBit).levels
    l 0 = r.fld 1 34 19 ∧ l 1 = r.fld 1 18 6 ∧ l 2 = r.fld 2 35 25 ∧ l 3 = r.fld 2 24 16 ∧ l 4 = r.fld 2 15 2) ∧
  reads 0x303 .poolConfigRead poolConfigRead (fun r s =>
    let q := s.pool r.dieBit
    let l := Tbl.get levelDflt q.levels
    [pack [(35, 1, r.dieBit.bit), (30, 5, r.fld 1 34 30), (0, 16, Tbl.get limitDflt q.limits (r.fld 1 34 30))],
     pack [(35, 1, r.dieBit.bit), (19, 16, l 0), (6, 13, l 1)], pack [(25, 11, l 2), (16, 9, l 3), (2, 14, l 4)]]) ∧
  does 0x304 .poolStatsRead poolStatsRead always (fun r s _ => poolStatsWords s r.dieBit (r.fld 1 34 32) (r.fld 1 31 23))
    (fun _ s t => t.wide = s.wide) ∧
  does 0x305 .poolErrlogRead poolErrlogRead always (fun r s _ =>
      let q := s.pool r.dieBit
      [w36 q.errTotal, pack [(31, 5, q.errLog.length)]] ++ (q.errLog.map PoolErr.words).flatten)
    (fun _ s t => t.wide = s.wide) ∧
  reads 0x306 .poolCellRead poolCellRead (fun r s =>
    let q := s.pool r.dieBit
    [poolRecordWord q (r.fld 1 34 33) (r.fld 1 32 18),
     if r.fld 1 34 33 = 0 then q.word0 (r.fld 1 32 18)
     else pack [(0, 1, b1 (Tbl.get BufRec.dflt (q.msg (r.fld 1 34 33)) (r.fld 1 32 18)).inUse)]])

/-- RULE commands that write: parse configuration, programs, comparators, rules, the staging directory and the fragment time-out take the
values of the request; RULE.COMMIT arms an activation 50 µs after its receipt (04 R95, R99 to R107). A program is loaded where no port
selects it and it fits; a live rule is written with LIVE; a group's ranges are empty or lie inside the rules; EXPECT_GEN is GEN. RULE
commands that read return the fields in force, and CLEAR of RULE.STATS_READ clears the counters returned (04 R103, R106, R108, R109). -/
def Obligations.RuleCommandsSetAndReturnTheFields : Prop :=
  (writes 0x401 .rulePortWrite rulePortWrite (fun r _ t =>
    let c := Tbl.get PortParse.dflt t.tab.ports (r.fld 1 35 31)
    c.prog = r.fld 1 30 27 ∧ c.budget = r.fld 1 26 21 ∧ c.malCopy = r.bit 1 20 ∧ c.malMirror = r.bit 1 19) ∧
  does 0x402 .ruleProgramLoad ruleProgramLoad
    (fun r s => r.fld 1 31 23 + (r.words.drop 1).length ≤ 512 ∧ ∀ p, p < 32 → (Tbl.get PortParse.dflt s.tab.ports p).prog ≠ r.fld 1 35 32)
    (fun _ _ _ => [])
    (fun r _ t => ∀ i (h : i < (r.words.drop 1).length),
      Tbl.get noneAt t.tab.prog (512 * r.fld 1 35 32 + r.fld 1 31 23 + i) = some ((r.words.drop 1)[i])) ∧
  writes 0x403 .ruleRangeWrite ruleRangeWrite (fun r _ t =>
    Tbl.get RangeCmp.dflt t.tab.ranges (r.fld 1 35 30) =
      { enable := r.bit 1 29, field := r.fld 1 28 25, low := r.fld 2 35 20, high := r.fld 2 19 4 }) ∧
  does 0x404 .ruleEntryWrite ruleEntryWrite (fun r s => s.tab.ruleState (r.fld 1 35 24) = 2 → r.bit 1 23 = true) (fun _ _ _ => [])
    (fun r s t => ∀ i, Tbl.get nilAt t.tab.rules i = if i = r.fld 1 35 24 then r.words.drop 1 else Tbl.get nilAt s.tab.rules i) ∧
  does 0x406 .ruleGroupWrite ruleGroupWrite
    (fun r _ => (r.fld 2 23 14 ≠ 0 → r.fld 2 35 24 ≠ 0 ∧ r.fld 2 35 24 + r.fld 2 23 14 ≤ 4096) ∧
      (r.fld 3 35 26 ≠ 0 → r.fld 2 13 2 ≠ 0 ∧ r.fld 2 13 2 + r.fld 3 35 26 ≤ 4096))
    (fun _ _ _ => [])
    (fun r s t =>
      let g := Tbl.get GroupEnt.dflt (t.tab.bank (s.tab.gen + 1)) (16 * r.fld 1 35 32 + r.fld 1 31 28)
      g.base1 = r.fld 2 35 24 ∧ g.count1 = r.fld 2 23 14 ∧ g.base2 = r.fld 2 13 2 ∧ g.count2 = r.fld 3 35 26 ∧
        g.defFwd = r.bit 3 25 ∧ g.defCpu = r.bit 3 24 ∧ g.incFwd = r.bit 3 23 ∧ g.incCpu = r.bit 3 22 ∧
        g.fmissFwd = r.bit 3 21 ∧ g.fmissCpu = r.bit 3 20 ∧ t.tab.bank s.tab.gen = s.tab.bank s.tab.gen) ∧
  starts 0x407 .ruleCommit ruleCommit (fun r s => r.fld 1 35 28 = s.tab.gen % 256)
    (fun r s t => t.tab = { s.tab with act := some { kind := .rule, t := s.nowQ + 200000, path := r.path, rows := [] } }) ∧
  writes 0x409 .ruleFragWrite ruleFragWrite (fun r _ t => t.tab.fragTimeout = r.fld 1 35 26)) ∧
  (reads 0x405 .ruleEntryRead ruleEntryRead (fun r s =>
    pack [(24, 12, r.fld 1 35 24), (22, 2, s.tab.ruleState (r.fld 1 35 24))] :: s.tab.rule (r.fld 1 35 24)) ∧
  reads 0x408 .ruleStatusRead ruleStatusRead (fun _ s =>
    [pack [(28, 8, s.tab.gen), (27, 1, s.tab.gen), (26, 1, b1 s.tab.retiring), (25, 1, b1 (s.has 1)), (24, 1, b1 (s.has 2)),
           (14, 10, s.tab.fragTimeout)], pack [(27, 9, s.fabW.fragsUsed), (18, 9, s.fabE.fragsUsed)]] ++ words72 s.tab.ruleT) ∧
  does 0x40A .ruleStatsRead ruleStatsRead always (fun r s _ => ruleStatsWords s r.dieBit (r.fld 1 34 33) (r.fld 1 32 21))
    (fun r s t => (r.bit 1 20 = false → t.wide = s.wide) ∧
      (r.bit 1 20 = true → r.fld 1 34 33 = 1 → Tbl.get zeroAt (t.fab r.dieBit).hits (r.fld 1 32 21) = 0)) ∧
  reads 0x40B .rulePortRead rulePortRead (fun r s =>
    let c := Tbl.get PortParse.dflt s.tab.ports (r.fld 1 35 31)
    [pack [(31, 5, r.fld 1 35 31), (27, 4, c.prog), (21, 6, c.budget), (20, 1, b1 c.malCopy), (19, 1, b1 c.malMirror)]]) ∧
  reads 0x40C .ruleRangeRead ruleRangeRead (fun r s => (Tbl.get RangeCmp.dflt s.tab.ranges (r.fld 1 35 30)).words (r.fld 1 35 30)) ∧
  reads 0x40D .ruleGroupRead ruleGroupRead (fun r s =>
    (Tbl.get GroupEnt.dflt (s.tab.bank (s.tab.gen + r.fld 1 27 27)) (16 * r.fld 1 35 32 + r.fld 1 31 28)).words))

/-- FWD.ENTRY_WRITE and FWD.COMMIT: MODE 0 and 1 put a group with VALID into its entries and leave every other entry, MODE 2 withdraws a
live group, MODE 3 frees a group's entries (05 R131), and FWD.COMMIT arms the switch of the generation 50 µs after its receipt (05 R129,
R133). -/
def Obligations.ForwardingEntriesAreWrittenWithdrawnAndFreed : Prop :=
  does 0x501 .fwdEntryWrite fwdEntryWrite
    (fun r s => r.fld 1 21 20 ≤ 1 ∧ r.words.length = 1 + 4 * r.fld 1 19 18 ∧ ((entriesOf (r.words.drop 1)).headD {}).valid = true ∧
      writeRefused s.tab (r.fld 1 35 22) (r.fld 1 19 18) (r.fld 1 21 20 == 0) (entriesOf (r.words.drop 1)) = false)
    (fun _ _ _ => [])
    (fun r s t => ∀ j, t.tab.fwdEnt j =
      if h : r.fld 1 35 22 ≤ j ∧ j - r.fld 1 35 22 < (entriesOf (r.words.drop 1)).length then
        ((entriesOf (r.words.drop 1))[j - r.fld 1 35 22]'h.2).setHead true (if r.fld 1 21 20 = 0 then 0 else 1)
          (if r.fld 1 21 20 = 0 then 0 else (s.tab.fgen + 1) % 2)
      else s.tab.fwdEnt j) ∧
  does 0x501 .fwdEntryWrite fwdEntryWrite
    (fun r s => r.fld 1 21 20 = 2 ∧ r.words.length = 1 ∧ removeRefused s.tab (r.fld 1 35 22) (r.fld 1 19 18) true = false)
    (fun _ _ _ => [])
    (fun r s t => ∀ j, t.tab.fwdEnt j =
      if r.fld 1 35 22 ≤ j ∧ j - r.fld 1 35 22 < r.fld 1 19 18 then (s.tab.fwdEnt j).setHead true 2 ((s.tab.fgen + 1) % 2)
      else s.tab.fwdEnt j) ∧
  does 0x501 .fwdEntryWrite fwdEntryWrite
    (fun r s => r.fld 1 21 20 = 3 ∧ r.words.length = 1 ∧ removeRefused s.tab (r.fld 1 35 22) (r.fld 1 19 18) false = false)
    (fun _ _ _ => [])
    (fun r s t => ∀ j, t.tab.fwdEnt j =
      if r.fld 1 35 22 ≤ j ∧ j - r.fld 1 35 22 < r.fld 1 19 18 then {} else s.tab.fwdEnt j) ∧
  starts 0x503 .fwdCommit fwdCommit (fun r s => r.fld 1 35 28 = s.tab.fgen % 256)
    (fun r s t => t.tab = { s.tab with act := some { kind := .fwd, t := s.nowQ + 200000, path := r.path, rows := [] } })

/-- FWD and FRER commands that set fields: the VLAN and learning settings of one port, the learning region, and one FRER function with its
reset on both fabric dies; every other port and function keeps its own (05 R135, R137, R140, R142). A learning region is written where every
learned entry lies in it and no other valid entry does. FWD and FRER commands that read return the entry with its state, the status words,
the port settings, the counters and the FRER function with its sequence state (05 R132, R134, R136, R139, R141). -/
def Obligations.ForwardingCommandsSetAndReturnTheFields : Prop :=
  (writes 0x505 .fwdPortWrite fwdPortWrite (fun r s t => ∀ p,
    let c := Tbl.get VlanPort.dflt t.tab.vlan p
    let b := Tbl.get VlanPort.dflt s.tab.vlan p
    if p = r.fld 1 35 31 then
      c.pvid = r.fld 1 30 19 ∧ c.defPcp = r.fld 1 18 16 ∧ c.accept = r.fld 1 15 14 ∧ c.inFilter = r.bit 1 13 ∧
        c.egMode = r.fld 1 12 11 ∧ c.learn = r.bit 1 10 ∧ c.rtagRx = r.bit 1 9 ∧ c.rtagTx = r.bit 1 8 ∧
        c.flushOnDown = r.bit 1 7 ∧ c.learnQueue = r.fld 2 35 31 ∧ c.restoreHold = r.fld 2 30 21 ∧ c.inFrames = b.inFrames ∧
        c.outFrames = b.outFrames
    else c = b) ∧
  does 0x507 .fwdLearnWrite fwdLearnWrite
    (fun r s => ∀ e, e ∈ s.tab.fwdList → e.2.valid = true → e.2.learned = inRange e.1 (r.fld 1 34 21) (r.fld 1 20 6))
    (fun _ _ _ => [])
    (fun r s t => t.tab = { s.tab with learnEn := r.bit 1 35, learnBase := r.fld 1 34 21, learnCount := r.fld 1 20 6 }) ∧
  does 0x508 .fwdLearnFlush fwdLearnFlush always
    (fun r s _ => [pack [(21, 15, (s.tab.fwdList.filter fun e => e.2.learned && flushSelects r e.2).length)]])
    (fun r s t => t.tab = s.tab.flushLearned (flushSelects r)) ∧
  writes 0x601 .frerFuncWrite frerFuncWrite (fun r s t =>
    (∀ fn, Tbl.get FrerCfg.dflt t.tab.frer fn =
      if fn = r.fld 1 35 26 then
        { mode := r.fld 1 25 24, history := r.fld 1 23 18, takeNoSeq := r.bit 1 17, resetMs := r.fld 1 16 5 }
      else Tbl.get FrerCfg.dflt s.tab.frer fn) ∧
    ∀ d, (Tbl.get FrerDyn.dflt (t.fab d).frer (r.fld 1 35 26)).takeAny = true ∧
      (Tbl.get FrerDyn.dflt (t.fab d).frer (r.fld 1 35 26)).genSeq = 0) ∧
  writes 0x603 .frerReset frerResetCmd (fun r s t => t.tab = s.tab ∧ ∀ d fn,
    Tbl.get FrerDyn.dflt (t.fab d).frer fn =
      if fn = r.fld 1 35 26 then { Tbl.get FrerDyn.dflt (s.fab d).frer fn with takeAny := true, h := 0, genSeq := 0 }
      else Tbl.get FrerDyn.dflt (s.fab d).frer fn)) ∧
  (reads 0x502 .fwdEntryRead fwdEntryRead (fun r s =>
    let e := s.tab.fwdEnt (r.fld 1 35 22)
    [pack [(22, 14, r.fld 1 35 22), (20, 2, e.stateCode), (6, 14, s.tab.altRefs s.tab.fgen (r.fld 1 35 22))], e.w0, e.w1, e.w2, e.w3]) ∧
  reads 0x504 .fwdStatusRead fwdStatusRead (fun _ s =>
    [pack [(28, 8, s.tab.fgen), (27, 1, b1 s.tab.sweep), (26, 1, b1 (s.has 1)), (25, 1, b1 (s.has 2)), (24, 1, b1 s.tab.learnEn)],
     pack [(21, 15, s.tab.stagedCount 1), (6, 15, s.tab.stagedCount 2)], pack [(10, 26, s.tab.linkDown)]] ++ words72 s.tab.fwdT) ∧
  reads 0x506 .fwdPortRead fwdPortRead (fun r s => (Tbl.get VlanPort.dflt s.tab.vlan (r.fld 1 35 31)).words (r.fld 1 35 31)) ∧
  does 0x509 .fwdStatsRead fwdStatsRead always (fun r s _ => fwdStatsWords s r.dieBit (r.fld 1 34 32) (r.fld 1 31 18))
    (fun r s t => (r.bit 1 17 = false → t.wide = s.wide) ∧
      (r.bit 1 17 = true → r.fld 1 34 32 = 0 → ∀ d, Tbl.get zeroAt (t.fab d).groupFrames (r.fld 1 31 18) = 0)) ∧
  reads 0x602 .frerFuncRead frerFuncRead (fun r s =>
    let fn := r.fld 1 34 25
    let c := Tbl.get FrerCfg.dflt s.tab.frer fn
    let f := Tbl.get FrerDyn.dflt (s.fab r.dieBit).frer fn
    [c.word fn, pack [(20, 16, if c.mode = 1 then f.genSeq else f.recovSeq), (19, 1, b1 f.takeAny)], pack [(4, 32, f.h)]]))

/-- ZONE and METER commands that set fields: the zone of a port or channel, a meter and a filter as the request gives them, each on both
fabric dies, with everything else as before; ZONE.POLICY_WRITE arms an activation 50 µs after its receipt and leaves the matrix in force (06
R148, R153, R159, R161, R165, R167, R170). ZONE and METER commands that read return the zones, the matrix, a gateway entry, the counters, a
meter with its buckets refilled to now, and a filter with its BLOCKED; CLEAR clears the counters returned (06 R160, R162 to R164, R166,
R168, R169). -/
def Obligations.ZoneAndMeterCommandsSetAndReturnTheFields : Prop :=
  (writes 0x701 .zoneMapWrite zoneMapWrite (fun r s t =>
    (∀ i, Tbl.get zeroAt t.zon.port i =
      if r.bit 1 35 = false ∧ i = r.fld 1 34 30 then r.fld 1 29 26 else Tbl.get zeroAt s.zon.port i) ∧
    (∀ i, Tbl.get zeroAt t.zon.chan i =
      if r.bit 1 35 = true ∧ i = r.fld 1 34 30 then r.fld 1 29 26 else Tbl.get zeroAt s.zon.chan i) ∧
    t.zon.permit = s.zon.permit ∧ t.zon.gw = s.zon.gw) ∧
  starts 0x703 .zonePolicyWrite zonePolicyWrite always (fun r s t => t.zon = s.zon ∧
    t.tab = { s.tab with
      act := some { kind := .policy, t := s.nowQ + 200000, path := r.path, rows := r.words.map fun w => fld w 15 0 } }) ∧
  writes 0x801 .meterWrite meterWrite (fun r s t =>
    (∀ i, t.zon.meter i =
      if i = r.fld 1 35 26 then
        { cm := r.bit 1 25, cf := r.bit 1 24, deiMark := r.bit 1 23, marEn := r.bit 1 22, overhead := r.fld 1 21 16,
          cir := r.fld 2 35 15, eir := r.fld 3 35 15, cbs := r.fld 4 35 16, ebs := r.fld 5 35 16 }
      else s.zon.meter i) ∧
    ∀ d, (t.meterDyn d (r.fld 1 35 26)).tc = 1024 * r.fld 4 35 16 ∧ (t.meterDyn d (r.fld 1 35 26)).te = 1024 * r.fld 5 35 16 ∧
      (t.meterDyn d (r.fld 1 35 26)).mar = false) ∧
  writes 0x803 .meterFilterWrite meterFilterWrite (fun r s t =>
    (∀ i, t.zon.filter i =
      if i = r.fld 1 35 26 then
        { valid := r.bit 1 25, pcpWild := r.bit 1 24, pcp := r.fld 1 23 21, stream := r.fld 1 20 7, portWild := r.bit 1 6,
          port := r.fld 1 5 1, blockOversize := r.bit 1 0, maxSdu := r.fld 2 35 22, meterEn := r.bit 2 21, meter := r.fld 2 20 11 }
      else s.zon.filter i) ∧
    ∀ d, (t.filterDyn d (r.fld 1 35 26)).blocked = false) ∧
  writes 0x806 .meterUnblock meterUnblock (fun r s t => t.zon = s.zon ∧ ∀ d,
    (r.bit 1 35 = true → (t.filterDyn d (r.fld 1 34 25)).blocked = false ∧ ∀ i, t.meterDyn d i = s.meterDyn d i) ∧
    (r.bit 1 35 = false → (t.meterDyn d (r.fld 1 34 25)).mar = false ∧ ∀ i, t.filterDyn d i = s.filterDyn d i))) ∧
  (reads 0x702 .zoneMapRead zoneMapRead (fun _ s => s.zon.mapWords) ∧
  reads 0x704 .zonePolicyRead zonePolicyRead (fun _ s => (List.range 16).map fun i => w36 (Tbl.get rowDflt s.zon.permit i)) ∧
  reads 0x705 .zoneGwRead zoneGwRead (fun r s =>
    let e := Tbl.get noneAt s.zon.gw (r.fld 1 35 22)
    [pack [(22, 14, r.fld 1 35 22), (21, 1, b1 e.isSome), (17, 4, e.getD 0)]]) ∧
  does 0x706 .zoneStatsRead zoneStatsRead always
    (fun r s _ => [if r.bit 1 34 then w36 (s.fab r.dieBit).zon.gwUnmapped
      else w36 (Tbl.get PairCtr.dflt (s.fab r.dieBit).pairs (r.fld 1 33 26)).denies])
    (fun r s t => (r.bit 1 25 = false → t.wide = s.wide) ∧
      (r.bit 1 25 = true → r.bit 1 34 = true → (t.fab r.dieBit).zon.gwUnmapped = 0) ∧
      (r.bit 1 25 = true → r.bit 1 34 = false → (Tbl.get PairCtr.dflt (t.fab r.dieBit).pairs (r.fld 1 33 26)).denies = 0)) ∧
  reads 0x802 .meterRead meterRead (fun r s =>
    let c := s.zon.meter (r.fld 1 34 25)
    let m := (s.meterDyn r.dieBit (r.fld 1 34 25)).refilled c s.nowQ
    c.words (r.fld 1 34 25) ++ [pack [(16, 20, m.tc / 1024), (15, 1, b1 m.mar)], pack [(16, 20, m.te / 1024)]]) ∧
  reads 0x804 .meterFilterRead meterFilterRead (fun r s =>
    (s.zon.filter (r.fld 1 34 25)).words (r.fld 1 34 25) ++ [pack [(35, 1, b1 (s.filterDyn r.dieBit (r.fld 1 34 25)).blocked)]]) ∧
  does 0x805 .meterStatsRead meterStatsRead always
    (fun r s _ =>
      if r.bit 1 34 then
        let f := s.filterDyn r.dieBit (r.fld 1 33 24)
        words72 f.matched ++ [w36 f.sduDrops, w36 f.blockedDrops, w36 f.sduLate]
      else
        let m := s.meterDyn r.dieBit (r.fld 1 33 24)
        words72 m.green ++ words72 m.yellow ++ words72 m.red)
    (fun r s t => (r.bit 1 23 = false → t.wide = s.wide) ∧
      (r.bit 1 23 = true → r.bit 1 34 = true → (t.filterDyn r.dieBit (r.fld 1 33 24)).matched = 0) ∧
      (r.bit 1 23 = true → r.bit 1 34 = false → (t.meterDyn r.dieBit (r.fld 1 33 24)).green = 0)))

/-- GCL, SHAPER and QSTAT commands that set fields: the admin list of a port, its commitment and cancellation, a queue, the preemptable
queues, the MAC merge of a port and a sampler; the operating list stays (07 R179 to R181, R192 to R196, R200, R202, R203, R206). A load fits
its table, and every port that commits has its die present. GCL, SHAPER and QSTAT commands that read return the part of the named list, its
state, the check's findings, a queue, the MAC merge, a queue's counters and a sampler; CLEAR clears the counters returned (07 R197 to R199,
R201, R204, R205, R207). -/
def Obligations.GateShaperAndQueueCommandsSetAndReturnTheFields : Prop :=
  (writes 0x901 .gclConfigWrite gclConfigWrite (fun r s t => ∀ p,
    (t.gate p).oper = (s.gate p).oper ∧
    (p = Req.port1 r → (t.gate p).admin.cfg =
      { gateEn := r.bit 1 30, len := r.fld 1 29 19, guard := r.fld 1 18 7, cycle := r.fld 2 29 0, ext := r.fld 3 19 0,
        base := of72 (r.word 4) (r.word 5) }) ∧
    (p ≠ Req.port1 r → t.gate p = s.gate p)) ∧
  does 0x902 .gclListWrite gclListWrite (fun r _ => r.fld 1 30 21 + (r.words.drop 1).length ≤ 1024) (fun _ _ _ => [])
    (fun r s t => (t.gate (Req.port1 r)).oper = (s.gate (Req.port1 r)).oper ∧ ∀ j,
      Tbl.get zeroW (t.gate (Req.port1 r)).admin.entries j =
        if h : r.fld 1 30 21 ≤ j ∧ j - r.fld 1 30 21 < (r.words.drop 1).length then (r.words.drop 1)[j - r.fld 1 30 21]'h.2
        else Tbl.get zeroW (s.gate (Req.port1 r)).admin.entries j) ∧
  does 0x903 .gclPatternWrite gclPatternWrite (fun r _ => r.fld 1 30 25 + (r.words.drop 1).length ≤ 64) (fun _ _ _ => [])
    (fun r s t => (t.gate (Req.port1 r)).oper = (s.gate (Req.port1 r)).oper ∧ ∀ j,
      Tbl.get zeroW (t.gate (Req.port1 r)).admin.patterns j =
        if h : r.fld 1 30 25 ≤ j ∧ j - r.fld 1 30 25 < (r.words.drop 1).length then (r.words.drop 1)[j - r.fld 1 30 25]'h.2
        else Tbl.get zeroW (s.gate (Req.port1 r)).admin.patterns j) ∧
  does 0x904 .gclCommit gclCommit (fun r s => ∀ p, p ∈ maskPorts r → s.has (dieOfPort p).num = true)
    (fun r _ t => ((maskPorts r).map fun p => words72 (timeOfQ (t.gate p).ct)).flatten)
    (fun r s t => ∀ p, t.gate p =
      if p ∈ maskPorts r then (s.gate p).commit ((s.gate p).admin.changeTime s.nowQ) else s.gate p) ∧
  does 0x905 .gclCancel gclCancel always (fun r s _ => [pack [(10, 26, maskOf ((maskPorts r).filter (cancellable s)))]])
    (fun r s t => ∀ p, t.gate p =
      if p ∈ maskPorts r ∧ cancellable s p = true then { s.gate p with mode := (s.gate p).before, extend := none } else s.gate p) ∧
  writes 0xA01 .shaperQueueWrite shaperQueueWrite (fun r s t => ∀ k,
    Tbl.get QueueCfg.dflt t.egr.queues k =
      if k = 32 * Req.port1 r + r.fld 1 30 26 then
        { Tbl.get QueueCfg.dflt s.egr.queues k with
          cbs := r.bit 1 25, yellow := r.fld 1 24 15, qmax := r.fld 1 14 1, slope := r.fld 2 35 12 }
      else Tbl.get QueueCfg.dflt s.egr.queues k) ∧
  writes 0xA03 .shaperPreemptWrite shaperPreemptWrite (fun r s t => t.egr = { s.egr with preempt := r.fld 1 35 4 }) ∧
  writes 0xA04 .shaperMmWrite shaperMmWrite (fun r s t => ∀ p, t.mm p =
    if p = Req.port1 r then
      ({ s.mm p with en := r.bit 1 30, verifyEn := r.bit 1 29, verifyMs := r.fld 1 28 21, addFrag := r.fld 1 20 19 } : MmSt).restart
    else s.mm p) ∧
  writes 0xB02 .qstatSamplerWrite qstatSamplerWrite (fun r s t => ∀ i, t.sampler r.dieBit i =
    if i = r.fld 1 34 33 then
      { enable := r.bit 1 32, output := r.fld 1 31 27, queue := r.fld 1 26 22, period := r.fld 1 21 2, binBase := r.fld 2 35 8,
        binWidth := r.fld 3 35 16, limit := r.fld 4 35 8, lastAt := s.tim.ticks }
    else s.sampler r.dieBit i)) ∧
  (does 0x906 .gclRead gclRead
    (fun r _ => (r.fld 1 29 28 = 1 → r.fld 1 27 18 + r.fld 1 17 10 ≤ 1024) ∧ (2 ≤ r.fld 1 29 28 → r.fld 1 27 18 + r.fld 1 17 10 ≤ 64))
    (fun r s _ =>
      let b := (s.gate (Req.port1 r)).named (r.bit 1 30)
      match r.fld 1 29 28 with
      | 0 => b.cfg.words (Req.port1 r)
      | 1 => Tbl.gets zeroW b.entries (r.fld 1 27 18) (r.fld 1 17 10)
      | _ => Tbl.gets zeroW b.patterns (r.fld 1 27 18) (r.fld 1 17 10))
    (fun _ s t => t.wide = s.wide) ∧
  reads 0x907 .gclStatusRead gclStatusRead (fun r s =>
    let g := s.gate (Req.port1 r)
    [pack [(34, 2, g.mode.code), (33, 1, b1 g.hold), (32, 1, g.bank), (22, 10, g.entry)]] ++
      words72 (timeOfQ g.ct) ++ words72 (timeOfQ g.start.toNat) ++ [w36 g.gatesNow, w36 g.restarts]) ∧
  reads 0x908 .gclCheck gclCheck (fun r s => gclCheckWords s (Req.port1 r) ((s.gate (Req.port1 r)).named (r.bit 1 30))) ∧
  reads 0xA02 .shaperQueueRead shaperQueueRead (fun r s =>
    let c := s.queueCfg (Req.port1 r) (r.fld 1 30 26)
    [pack [(31, 5, Req.port1 r), (26, 5, r.fld 1 30 26), (25, 1, b1 c.cbs), (15, 10, c.yellow), (1, 14, c.qmax)], pack [(12, 24, c.slope)],
     pack [(18, 18, ofSigned 18 (c.credit / 1024))]]) ∧
  does 0xA05 .shaperMmRead shaperMmRead always
    (fun r s _ =>
      let p := Req.port1 r
      let m := s.mm p
      [pack [(31, 5, p), (30, 1, b1 m.en), (29, 1, b1 m.verifyEn), (21, 8, m.verifyMs), (19, 2, m.addFrag)],
       pack [(33, 3, m.verify.code), (32, 1, b1 (s.mmActive p)), (31, 1, b1 (s.gate p).hold)], pack [(4, 32, s.egr.preempt)]] ++
        words72 m.fragTx ++ words72 m.fragRx ++ words72 m.assyOk ++ [pack [(18, 18, m.assyErr), (0, 18, m.smdErr)], w36 m.holds])
    (fun r s t => (r.bit 1 30 = false → t.wide = s.wide) ∧ (r.bit 1 30 = true → t.mm (Req.port1 r) =
      { s.mm (Req.port1 r) with fragTx := 0, fragRx := 0, assyOk := 0, assyErr := 0, smdErr := 0, holds := 0 })) ∧
  does 0xB01 .qstatQueueRead qstatQueueRead always
    (fun r s _ =>
      let c := s.queueCtr r.dieBit (r.fld 1 34 30) (r.fld 1 29 25)
      [(s.fab r.dieBit).depthWord (r.fld 1 34 30) (r.fld 1 29 25), pack [(12, 24, c.hwm)]] ++ words72 c.txFrames ++
        words72 c.txOctets ++ [w36 c.delayMin, w36 c.delayMax, w36 c.sduExceeded, w36 c.yellowDrops, w36 c.txOverrun, w36 c.creditClamps])
    (fun r s t => (r.bit 1 24 = false → t.wide = s.wide) ∧ (r.bit 1 24 = true →
      t.queueCtr r.dieBit (r.fld 1 34 30) (r.fld 1 29 25) =
        { hwm := (s.fab r.dieBit).queueBytes (r.fld 1 34 30) (r.fld 1 29 25) })) ∧
  does 0xB03 .qstatSamplerRead qstatSamplerRead always
    (fun r s _ =>
      let c := s.sampler r.dieBit (r.fld 1 34 33)
      c.words r.dieBit (r.fld 1 34 33) ++ (Tbl.gets zeroAt c.bins 0 16).map w36 ++ [w36 c.above, pack [(30, 6, c.samples.length)]] ++
        c.samples ++ List.replicate (32 - c.samples.length) 0)
    (fun r s t => (r.bit 1 32 = false → t.wide = s.wide) ∧ (r.bit 1 32 = true →
      t.sampler r.dieBit (r.fld 1 34 33) = { s.sampler r.dieBit (r.fld 1 34 33) with bins := [], above := 0, samples := [] })))

/-- TIME commands that change the clock: TIME.SET with NEXT_PPS keeps the seconds for the next edge; otherwise it steps or slews, and its
response follows where a correction is scheduled (08 R211, R213, R232); TIME.ADJUST corrects by OFFSET (08 R233). All leave UNSET for
FREE-RUN, and TIME.SET sets SEC_VALID. -/
def Obligations.TimeCommandsCorrectTheClock : Prop :=
  does 0xC02 .timeSet timeSet (fun r s => s.isMember = false ∧ r.bit 1 35 = true ∧ s.tim.cfg.ppsInEn = true) (fun _ _ _ => [0, 0])
    (fun r s t => t.tim = { s.tim with pendSecs := some (of72 (r.word 2) (r.word 3) / 2 ^ 32) }) ∧
  does 0xC02 .timeSet timeSet
    (fun r s => s.isMember = false ∧ r.bit 1 35 = false ∧ (s.tim.mode = .unset ∨ s.tim.mode = .free) ∧
      qOfTime (of72 (r.word 2) (r.word 3)) = s.nowQ)
    (fun _ s _ => words72 s.now72) (fun _ _ t => t.tim.mode = .free ∧ t.tim.secValid = true) ∧
  starts 0xC02 .timeSet timeSet
    (fun r s => s.isMember = false ∧ r.bit 1 35 = false ∧ qOfTime (of72 (r.word 2) (r.word 3)) ≠ s.nowQ ∧
      (s.tim.mode = .unset ∨ (s.tim.mode = .free ∧ s.tim.cfg.stepEn = true ∧
        4000 * s.tim.cfg.slewLimit < ((qOfTime (of72 (r.word 2) (r.word 3)) : Int) - s.nowQ).natAbs)))
    (fun r s t => t.tim.mode = .free ∧ t.tim.secValid = true ∧ t.tim.waiters = s.tim.waiters ++ [(r.path, true)]) ∧
  starts 0xC02 .timeSet timeSet
    (fun r s => s.isMember = false ∧ r.bit 1 35 = false ∧ s.tim.mode = .free ∧
      (s.correct ((qOfTime (of72 (r.word 2) (r.word 3)) : Int) - s.nowQ) false).2 = .slew)
    (fun r s t => t.tim.mode = .free ∧ t.tim.secValid = true ∧ t.tim.waiters = s.tim.waiters ++ [(r.path, false)]) ∧
  does 0xC03 .timeAdjust timeAdjust
    (fun _ s => s.tim.mode = .unset ∨ (s.tim.mode = .free ∧ s.timeSource = 0)) (fun _ _ _ => [])
    (fun _ _ t => t.tim.mode = .free)

/-- TIME commands that set fields: the configuration, whose PPS_IN_EN restarts the alignment of PPS_IN or drops its source, and one gPTP
port, the other front port of the pair turning master when this one is slave (08 R215, R216, R234, R236). TIME commands that read return the
clock with its state, the configuration, a gPTP port and PPS_IN; CLEAR clears the counters returned (08 R231, R235, R237, R238). -/
def Obligations.TimeCommandsSetAndReturnTheFields : Prop :=
  (writes 0xC04 .timeConfigWrite timeConfigWrite (fun r s t => t.tim.cfg = Req.timeCfg r ∧ t.tim.ports = s.tim.ports ∧
    (s.tim.cfg.ppsInEn = false → (Req.timeCfg r).ppsInEn = true → t.tim.aligned = false) ∧
    (s.tim.cfg.ppsInEn = true → (Req.timeCfg r).ppsInEn = false → t.tim.mode ≠ .locking ∧ t.tim.mode ≠ .locked)) ∧
  writes 0xC06 .timePortWrite timePortWrite (fun r s t =>
    let c := t.ptp (Req.port1 r)
    let o := s.ptp (Req.port1 r)
    c.role = r.fld 1 29 28 ∧ c.en = r.bit 1 30 ∧ c.logSync = signedOf 4 (r.fld 1 27 24) ∧ c.logPdelay = signedOf 4 (r.fld 1 23 20) ∧
    c.pdelayStatic = r.bit 1 19 ∧ c.staticDelay = r.fld 2 35 20 ∧ c.asym = signedOf 16 (r.fld 2 19 4) ∧
    c.txExtra = r.fld 3 35 26 ∧ c.rxExtra = r.fld 3 25 16 ∧ c.syncTx = o.syncTx ∧ c.syncRx = o.syncRx ∧
    (r.fld 1 29 28 = 1 → (t.ptp (17 - Req.port1 r)).role = 2) ∧ t.tim.cfg = s.tim.cfg)) ∧
  (reads 0xC01 .timeRead timeRead (fun _ s =>
    let t := s.tim
    [pack [(33, 3, t.mode.code), (31, 2, s.timeSource), (30, 1, b1 t.secValid), (29, 1, b1 t.slept), (28, 1, b1 (t.slew != 0)),
           (0, 28, t.steps)]] ++ words72 s.now72 ++
      [pack [(4, 32, ofSigned 32 t.lastE)], pack [(8, 28, ofSigned 28 t.freqAdj)],
       pack [(16, 20, if t.mode = .holdover then (t.ticks - t.holdFrom) / 312500000 else 0)]]) ∧
  reads 0xC05 .timeConfigRead timeConfigRead (fun _ s => s.tim.cfg.words) ∧
  does 0xC07 .timePortRead timePortRead always
    (fun r s _ =>
      let c := s.ptp (Req.port1 r)
      c.words (Req.port1 r) ++ [pack [(4, 32, ofSigned 32 c.linkDelay), (3, 1, b1 c.delayOk)], pack [(8, 28, ofSigned 28 c.ratio)],
        w36 c.syncTx, w36 c.syncRx, w36 c.pdelayLost, w36 c.discards])
    (fun r s t => (r.bit 1 30 = false → t.wide = s.wide) ∧ (r.bit 1 30 = true → t.ptp (Req.port1 r) =
      { s.ptp (Req.port1 r) with syncTx := 0, syncRx := 0, pdelayLost := 0, discards := 0 })) ∧
  does 0xC08 .timePpsRead timePpsRead always
    (fun _ s _ => words72 s.tim.edgeTime ++
      [w36 s.tim.ppsAccepts, w36 s.tim.ppsRejects, w36 s.tim.ppsMisses, pack [(4, 32, ofSigned 32 s.tim.rejOffset)]])
    (fun r s t => (r.bit 1 35 = false → t.wide = s.wide) ∧
      (r.bit 1 35 = true → t.tim = { s.tim with ppsAccepts := 0, ppsRejects := 0, ppsMisses := 0 })))

/-- PORT and MACSEC commands that change a port: its configuration, ENABLE 0 leading to DISABLED; its PLCA settings, taken at once where the
segment has no beacons; the cable test from a state with a powered PHY; and MACsec with MKA starting over (09 R242, R249, R257, R258, R261
to R263). PORT and MACSEC commands that read return the settings in force and the state with its counters; CLEAR clears the counters
returned (09 R259, R260, R264). -/
def Obligations.PortAndMacsecCommandsSetAndReturnTheFields : Prop :=
  (writes 0xD01 .portConfigWrite portConfigWrite (fun r _ t =>
    let c := t.port (Req.port1 r)
    c.enable = r.bit 1 30 ∧ c.rate = r.fld 1 29 27 ∧ c.role = r.bit 1 26 ∧ c.eee = r.bit 1 25 ∧ c.retain = r.bit 1 24 ∧
      c.tc10 = r.bit 1 23 ∧ c.usx = r.bit 1 22 ∧ (r.bit 1 30 = false → c.mode = .disabled)) ∧
  does 0xD02 .portPlcaWrite portPlcaWrite (fun r s => (s.port (Req.port1 r)).beacons = false) (fun _ _ _ => [])
    (fun r _ t =>
      let c := (t.port (Req.port1 r)).plca
      c.nodeId = r.fld 1 30 28 ∧ c.nodeCount = r.fld 1 27 24 ∧ c.toTimer = r.fld 1 23 16 ∧ c.maxBurst = r.fld 1 11 8 ∧
        c.burstTimer = r.fld 1 7 0 ∧ c.peerMax = r.fld 2 35 22 ∧ c.peerBurst = r.fld 2 21 18) ∧
  starts 0xD06 .portCableTest portCableTest
    (fun r s => (s.port (Req.port1 r)).mode = .training ∨ (s.port (Req.port1 r)).mode = .up ∨ (s.port (Req.port1 r)).mode = .resuming)
    (fun r _ t => (t.port (Req.port1 r)).mode = .diag ∧ (t.port (Req.port1 r)).tester = some r.path) ∧
  writes 0xE01 .macsecPortWrite macsecPortWrite (fun r s t => ∀ p, t.port p =
    if p = Req.port1 r then
      { s.port p with secy :=
        { (s.port p).secy.restart with
          enable := r.bit 1 30, xpn := r.bit 1 29, conf := r.bit 1 28, confOffset := r.fld 1 27 26, validate := r.fld 1 25 24,
          replay := r.bit 1 23, includeSci := r.bit 1 22, window := r.fld 2 35 4 } }
    else s.port p) ∧
  writes 0xE02 .macsecMkaWrite macsecMkaWrite (fun r s t => ∀ p, t.port p =
    if p = Req.port1 r then
      { s.port p with secy :=
        { (s.port p).secy.restart with mka := some { handle := r.fld 1 30 19, prio := r.fld 1 18 11, ckn := cknOf r } } }
    else s.port p)) ∧
  (reads 0xD03 .portConfigRead portConfigRead (fun r s =>
    let c := s.port (Req.port1 r)
    [c.word (Req.port1 r)]) ∧
  reads 0xD04 .portPlcaRead portPlcaRead (fun r s => (s.port (Req.port1 r)).plca.words (Req.port1 r)) ∧
  does 0xD05 .portStatusRead portStatusRead always (fun r s _ => (s.port (Req.port1 r)).status (Req.port1 r))
    (fun r s t => (r.bit 1 30 = false → t.wide = s.wide) ∧
      (r.bit 1 30 = true → t.port (Req.port1 r) = (s.port (Req.port1 r)).cleared)) ∧
  does 0xE03 .macsecStatusRead macsecStatusRead always (fun r s _ => (s.port (Req.port1 r)).secy.status)
    (fun r s t => (r.bit 1 30 = false → t.wide = s.wide) ∧
      (r.bit 1 30 = true → (t.port (Req.port1 r)).secy.inOk = 0 ∧ (t.port (Req.port1 r)).secy.outProtected = 0 ∧
        (t.port (Req.port1 r)).secy.peers = (s.port (Req.port1 r)).secy.peers)))

/-- EDGE commands that write a channel: a CAN channel, whose queue goes when it is switched off or retimed while nothing is being sent; its
recovery from bus-off; a LIN channel, its frame table and its schedule; a serial engine; and a wake ball (10 R270, R271, R273, R280, R287 to
R290, R292, R293). EDGE.TABLE_LOAD stores the words given and, with VALIDATE, makes the slot valid where the whole table is in order;
EDGE.CONFIG_READ and EDGE.STATUS_READ return the settings and the counters, which CLEAR clears (10 R275, R283, R291, R294, R295). -/
def Obligations.ChannelCommandsSetAndReturnTheFields : Prop :=
  (writes 0xF01 .edgeCanWrite edgeCanWrite (fun r s t =>
    let c := t.canCh (r.fld 1 35 32)
    let o := s.canCh (r.fld 1 35 32)
    c.enable = r.bit 1 31 ∧ c.mode = r.fld 1 30 29 ∧ c.listen = r.bit 1 28 ∧ c.autoRecover = r.bit 1 27 ∧ c.oneShot = r.bit 1 26 ∧
      c.pex = r.bit 1 25 ∧ c.timeEn = r.bit 1 24 ∧ c.timeTable = r.fld 1 23 18 ∧ c.txLife = r.fld 1 17 6 ∧
      c.timing = (r.word 2, r.word 3, r.word 4) ∧
      ((o.enable = false ∨ (r.bit 1 31 = true ∧ o.mode = r.fld 1 30 29 ∧ o.timing = (r.word 2, r.word 3, r.word 4))) → c.txq = o.txq) ∧
      (o.enable = true → r.bit 1 31 = false → o.sending = none → c.txq = []) ∧
      (∀ n, n ≠ r.fld 1 35 32 → t.canCh n = s.canCh n)) ∧
  writes 0xF07 .edgeCanRecover edgeCanRecover (fun r s t => ∀ n, t.canCh n =
    if n = r.fld 1 35 32 then { s.canCh n with recovering := true } else s.canCh n) ∧
  writes 0xF02 .edgeLinWrite edgeLinWrite (fun r s t =>
    let c := t.linCh (r.fld 1 35 32)
    let o := s.linCh (r.fld 1 35 32)
    c.enable = r.bit 1 31 ∧ c.commander = r.bit 1 30 ∧ c.baud = r.fld 1 29 15 ∧ c.timeTable = r.fld 1 14 9 ∧
      (o.enable = r.bit 1 31 → o.commander = r.bit 1 30 → c.slotAt = o.slotAt) ∧
      (o.enable ≠ r.bit 1 31 ∨ o.commander ≠ r.bit 1 30 → c.slotAt = none) ∧
      (∀ n, n ≠ r.fld 1 35 32 → t.linCh n = s.linCh n)) ∧
  writes 0xF03 .edgeLinTableWrite edgeLinTableWrite (fun r s t =>
    let c := t.linCh (r.fld 1 35 32)
    let o := s.linCh (r.fld 1 35 32)
    (r.bit 1 31 = true → c.schedLen = r.fld 1 24 18 ∧ c.table = o.table ∧ ∀ i (h : i < (r.words.drop 1).length),
      Tbl.get (fun _ => ((0, 0) : Nat × Nat)) c.sched (r.fld 1 30 25 + i) =
        (fld ((r.words.drop 1)[i]) 35 30, fld ((r.words.drop 1)[i]) 29 22)) ∧
    (r.bit 1 31 = false → c.schedLen = o.schedLen ∧ c.sched = o.sched ∧ ∀ i (h : i < (r.words.drop 1).length),
      Tbl.get LinEnt.dflt c.table (r.fld 1 30 25 + i) =
        { dir := fld ((r.words.drop 1)[i]) 35 34, enhanced := bit1 ((r.words.drop 1)[i]) 33, len := fld ((r.words.drop 1)[i]) 32 29 })) ∧
  writes 0xF04 .edgeSerWrite edgeSerWrite (fun r s t =>
    let c := t.serCh (r.fld 1 35 32)
    c.enable = r.bit 1 31 ∧ c.timeEn = r.bit 1 24 ∧ c.timeTable = r.fld 1 23 18 ∧ c.txLife = r.fld 1 17 6 ∧
      ((c.table = r.fld 1 30 25 ∧ c.baud = r.fld 2 35 12 ∧ c.next = none) ∨
        (c.next = some (r.fld 1 30 25, r.fld 2 35 12) ∧ c.table = (s.serCh (r.fld 1 35 32)).table)) ∧
      (∀ n, n ≠ r.fld 1 35 32 → t.serCh n = s.serCh n)) ∧
  writes 0xF06 .edgeWakeWrite edgeWakeWrite (fun r s t => ∀ i,
    Tbl.get WakeBall.dflt t.edge.balls i =
      if i = r.fld 1 35 31 then { en := r.bit 1 30, pol := r.fld 1 29 29, filter := r.fld 1 28 19, stbPol := r.fld 1 18 18 }
      else Tbl.get WakeBall.dflt s.edge.balls i)) ∧
  (does 0xF05 .edgeTableLoad edgeTableLoad (fun r _ => r.bit 1 19 = false) (fun _ _ _ => [])
    (fun r s t =>
      (∀ i (h : i < (r.words.drop 1).length),
        Tbl.get wordZero t.edge.store (1024 * r.fld 1 35 30 + r.fld 1 29 20 + i) = (r.words.drop 1)[i]) ∧
      t.edge.valid = (if r.fld 1 29 20 = 0 then setMask s.edge.valid (r.fld 1 35 30) false else s.edge.valid) ∧
      t.edge.can = s.edge.can ∧ t.edge.lin = s.edge.lin ∧ t.edge.ser = s.edge.ser) ∧
  does 0xF05 .edgeTableLoad edgeTableLoad
    (fun r s =>
      let e : EdgeSt :=
        { s.edge with
          store := Tbl.puts wordZero s.edge.store (1024 * r.fld 1 35 30 + r.fld 1 29 20) (r.words.drop 1)
          valid := if r.fld 1 29 20 = 0 then setMask s.edge.valid (r.fld 1 35 30) false else s.edge.valid }
      r.bit 1 19 = true ∧ (e.fixTable (r.fld 1 35 30)).2 = [] ∧ (e.fixTable (r.fld 1 35 30)).1.slotOk (r.fld 1 35 30) = true)
    (fun _ _ _ => []) (fun r _ t => inMask t.edge.valid (r.fld 1 35 30) = true) ∧
  reads 0xF08 .edgeConfigRead edgeConfigRead (fun r s =>
    let i := r.fld 1 32 28
    match r.fld 1 35 33 with
    | 0 => (s.canCh i).words i
    | 1 => [(s.linCh i).word i]
    | 2 => (Tbl.gets LinEnt.dflt (s.linCh i).table 0 64).map fun x => pack [(34, 2, x.dir), (33, 1, b1 x.enhanced), (29, 4, x.len)]
    | 3 => pack [(18, 7, (s.linCh i).schedLen)] ::
        (Tbl.gets (fun _ => ((0, 0) : Nat × Nat)) (s.linCh i).sched 0 64).map fun x => pack [(30, 6, x.1), (22, 8, x.2)]
    | 4 => (s.serCh i).words i
    | 5 =>
      let b := Tbl.get WakeBall.dflt s.edge.balls i
      [pack [(31, 5, i), (30, 1, b1 b.en), (29, 1, b.pol), (19, 10, b.filter), (18, 1, b.stbPol)]]
    | _ => pack [(35, 1, b1 (inMask s.edge.valid (r.fld 1 27 22)))] ::
        Tbl.gets wordZero s.edge.store (1024 * r.fld 1 27 22 + r.fld 1 21 12) (r.fld 1 11 4)) ∧
  does 0xF09 .edgeStatusRead edgeStatusRead always
    (fun r s _ =>
      let c := s.edgeCtr (r.fld 1 35 31)
      [s.edgeState (r.fld 1 35 31)] ++ words72 c.rx ++ words72 c.tx ++ (Tbl.gets zeroAt c.c 0 12).map w36)
    (fun r s t => (r.bit 1 30 = false → t.wide = s.wide) ∧ (r.bit 1 30 = true → t.edgeCtr (r.fld 1 35 31) = {})))

/-- GW commands: bundles, uplink and downlink entries and periodic slots become those of the request or invalid, a rate bucket starting
full; a slot of SOURCE D0 takes its payload; reads return entries and counters, which CLEAR clears (11 R304, R309, R312, R316 to R322). -/
def Obligations.GatewayCommandsWriteAndReadEntries : Prop :=
  writes 0x101 .gwBundleWrite gwBundleWrite (fun r _ t =>
    (t.bundle (r.fld 1 35 30)).valid = r.bit 1 29 ∧ (t.bundle (r.fld 1 35 30)).acf = [] ∧
      (t.bundle (r.fld 1 35 30)).words = if r.bit 1 29 = true then r.words else []) ∧
  writes 0x102 .gwUpWrite gwUpWrite (fun r s t => ∀ i, t.upEnt i =
    if i = r.fld 1 35 26 then
      (if r.bit 1 25 = true then
        { s.upEnt i with valid := true, words := r.words, tokens := r.fld 3 35 32 * tokenUnit, last := s.tim.ticks }
      else { s.upEnt i with valid := false, words := [], tokens := 0, last := 0 })
    else s.upEnt i) ∧
  writes 0x103 .gwDownWrite gwDownWrite (fun r s t =>
    (∀ i, t.downEnt i =
      if i = r.fld 1 35 26 then
        (if r.bit 1 25 = true then
          { s.downEnt i with valid := true, words := r.words, tokens := r.fld 3 35 32 * tokenUnit, last := s.tim.ticks }
        else { s.downEnt i with valid := false, words := [], tokens := 0, last := 0 })
      else s.downEnt i) ∧
    t.zon.permit = s.zon.permit ∧ t.zon.chan = s.zon.chan) ∧
  writes 0x104 .gwPeriodicWrite gwPeriodicWrite (fun r s t => ∀ i, t.perSlot i =
    if i = r.fld 1 35 28 then
      { s.perSlot i with
        valid := r.bit 1 27, words := if r.bit 1 27 = true then r.words else [], data := none, freshAt := 0, isStale := false, lastK := 0 }
    else s.perSlot i) ∧
  does 0x105 .gwPeriodicData gwPeriodicData
    (fun r s => (s.perSlot (r.fld 1 35 28)).valid = true ∧ (s.perSlot (r.fld 1 35 28)).fld 1 11 11 = 0 ∧
      s.slotCheck (s.perSlot (r.fld 1 35 28)) (s.zon.portZone (26 + s.pair.active.bit))
        ((quadBytes (r.words.drop 1)).take (r.fld 1 27 21)) = none)
    (fun _ _ _ => [])
    (fun r s t => t.perSlot (r.fld 1 35 28) =
      { s.perSlot (r.fld 1 35 28) with
        data := some ((quadBytes (r.words.drop 1)).take (r.fld 1 27 21)), freshAt := s.tim.ticks, isStale := false }) ∧
  reads 0x106 .gwRead gwRead (fun r s =>
    let i := r.fld 1 33 24
    match r.fld 1 35 34 with
    | 0 => gwWords (s.bundle i).valid (s.bundle i).words i 30 8
    | 1 => gwWords (s.upEnt i).valid (s.upEnt i).words i 26 5
    | 2 => gwWords (s.downEnt i).valid (s.downEnt i).words i 26 5
    | _ => (s.perSlot i).readWords i) ∧
  does 0x107 .gwStatsRead gwStatsRead always (fun r s _ => s.gwStats (r.fld 1 35 33) (r.fld 1 32 23))
    (fun r s t => (r.bit 1 22 = false → t.wide = s.wide) ∧
      (r.bit 1 22 = true → r.fld 1 35 33 = 2 →
        (t.bundle (r.fld 1 32 23)).frames = 0 ∧ (t.bundle (r.fld 1 32 23)).messages = 0 ∧ (t.bundle (r.fld 1 32 23)).tooLong = 0))

/-- CORE commands: the guard takes the settings written and is read back; status and counters are read, CLEAR clearing the counters; a
switch starts the promotion and answers when it ends; a restart restarts the standby of a present die; a self-test reports its four parts, a
free value each (log 2) (12 R337, R343, R348 to R354). -/
def Obligations.CoreCommandsGuardSwitchAndTestThePair : Prop :=
  reads 0x041 .coreStatusRead coreStatusRead (fun _ s =>
    let p := s.pair
    [pack [(33, 3, p.mode.code), (32, 1, p.active.bit), (28, 4, p.west.mode.code), (24, 4, p.east.mode.code), (20, 4, p.lastCause),
           (12, 8, min 255 p.sent.length)]] ++ words72 p.gapStart ++
      [pack [(16, 20, p.gapUs), (12, 4, p.west.lastFault), (8, 4, p.east.lastFault)], w36 p.switchovers]) ∧
  starts 0x042 .coreSwitch coreSwitch always (fun r s t =>
    t.pair.promoting = some 5 ∧ t.pair.waiter = some r.path ∧ t.pair.active = s.pair.active ∧ t.wide = s.wide) ∧
  writes 0x043 .coreGuardWrite coreGuardWrite (fun r s t =>
    t.pair.guard = { tripwireMs := r.fld 1 35 26, oddLimit := r.fld 1 25 22, oddWindowMs := r.fld 1 21 10, auditMs := r.fld 2 35 22 } ∧
      t.wide = s.wide) ∧
  reads 0x044 .coreGuardRead coreGuardRead (fun _ s =>
    let g := s.pair.guard
    [pack [(26, 10, g.tripwireMs), (22, 4, g.oddLimit), (10, 12, g.oddWindowMs)], pack [(22, 14, g.auditMs)]]) ∧
  does 0x045 .coreStatsRead coreStatsRead always
    (fun r s _ =>
      let k := s.core r.dieBit
      words72 k.segments ++ words72 k.tripwireRuns ++ words72 k.liningRecords ++
        [w36 k.oddA, w36 k.oddB, w36 k.oddC, w36 k.noMajority, w36 k.tripwireMisses, w36 k.holdParity, w36 k.liningStales,
         w36 k.liningMismatch, w36 k.sramCorrected])
    (fun r s t => t.wide = s.wide ∧ (r.bit 1 34 = true → (t.core r.dieBit).segments = 0 ∧ (t.core r.dieBit).oddA = 0)) ∧
  does 0x046 .coreRestart coreRestart (fun r s => s.dom (coreDom r.dieBit) ≠ .failed) (fun _ _ _ => [])
    (fun r s t => t.pair.rest = ((s.taken r.path).restartStandby s.img.runSlot).pair.rest) ∧
  does 0x047 .coreSelftest coreSelftest always (fun _ s _ => [pack [(32, 4, s.freeBelow 16)]]) (fun _ s t => t.free = s.free + 1)

/-- CORE.DEBUG on an attached core, or ATTACH itself: HALT and RESUME, breakpoints, registers and memory; a read returns what was written or
a free value, and every other action the core's state (12 R335, R336, R355; logs 2, 46). -/
def Obligations.DebuggerActsOnAnAttachedCore : Prop :=
  does 0x048 .coreDebug coreDebug
    (fun r s => r.fld 1 34 31 ≠ 7 ∧ r.fld 1 34 31 ≠ 9 ∧ debugCheck s r.dieBit (r.fld 1 34 31) = .done)
    (fun r _ t =>
      let k := t.core r.dieBit
      [pack [(35, 1, b1 k.halted), (17, 18, k.pc), (8, 9, k.replay.length)]])
    (fun r s t =>
      let k := t.core r.dieBit
      (r.fld 1 34 31 = 0 → k.attached = true) ∧ (r.fld 1 34 31 = 2 → k.halted = true) ∧ (r.fld 1 34 31 = 3 → k.halted = false) ∧
        (r.fld 1 34 31 = 5 → r.fld 1 22 5 ∈ k.breaks) ∧
        (r.fld 1 34 31 = 6 → k.breaks = (s.core r.dieBit).breaks.erase (r.fld 1 22 5)) ∧
        (r.fld 1 34 31 = 8 → Tbl.get noneAt k.regs (r.fld 1 28 23 + 32) = some (r.word 2))) ∧
  does 0x048 .coreDebug coreDebug (fun r s => r.fld 1 34 31 = 7 ∧ (s.core r.dieBit).attached = true)
    (fun r s _ => [(Tbl.get noneAt (s.core r.dieBit).regs (r.fld 1 28 23)).getD (w36 (s.freeBelow (2 ^ 36)))])
    (fun r s t => (t.core r.dieBit).halted = (s.core r.dieBit).halted) ∧
  does 0x048 .coreDebug coreDebug (fun r s => r.fld 1 34 31 = 9 ∧ (s.core r.dieBit).attached = true)
    (fun r s _ => [(Tbl.get noneAt (s.core r.dieBit).sram (r.fld 1 22 5)).getD (w36 (s.freeBelow (2 ^ 36)))])
    (fun r s t => (t.core r.dieBit).halted = (s.core r.dieBit).halted)

/-- HOST and SEAL commands: HOST.ECHO returns the words given, the reads return version, late log and ring counters; SEAL.COMMIT starts a
commit of the dies named and answers when it ends; SEAL.STATUS_READ returns the seal and the last CRC of each die (13 R376, R385 to R390).
What CLEAR clears is no part of this statement. -/
def Obligations.HostAndSealCommandsAnswer : Prop :=
  reads 0x001 .hostEcho hostEcho (fun r _ => r.words) ∧
  reads 0x002 .hostVersionRead hostVersionRead (fun _ s =>
    let n := s.img.runSlot
    [pack [(8, 28, fld (s.img.version n) 35 8)], pack [(34, 2, n), (0, 32, s.img.sequence n)], pack [(28, 8, 1)],
     pack [(35, 1, b1 (needsKeys {} s)), (34, 1, b1 s.locks.policy), (33, 1, b1 s.locks.sealLock), (32, 1, b1 s.locks.key),
           (31, 1, b1 s.locks.power)]]) ∧
  reads 0x003 .hostLateLogRead hostLateLogRead (fun r s =>
    [w36 (s.path r.path).lateTotal, pack [(31, 5, (s.path r.path).lateLog.length)]] ++
      ((s.path r.path).lateLog.map LateEntry.words).flatten) ∧
  reads 0x004 .hostRingStatsRead hostRingStatsRead (fun r s =>
    let g := s.ring r.path (r.bit 1 35) (r.fld 1 34 30)
    words72 g.frames ++ words72 g.octets ++
      [w36 g.errors, if r.bit 1 35 then w36 (s.host.noRing r.path (r.fld 1 34 30)) else 0]) ∧
  starts 0x011 .sealCommit sealCommit always (fun r s t =>
    t.sealSt.commit = maskList (r.fld 1 35 30) 6 ∧ t.sealSt.commitOf = some (r.path, r.fld 1 35 30) ∧ t.wide = s.wide) ∧
  reads 0x012 .sealStatusRead sealStatusRead (fun _ s =>
    s.sealSt.word :: (List.range 6).map fun d => pack [(0, 32, Tbl.get zeroAt s.sealSt.lastCrc d)])

/-- KEY commands that fill and empty slots: PROVISION zeroes the store and, without ZEROIZE, draws a root secret; GENERATE draws a key;
IMPORT takes the key given, DERIVE the derived one; DELETE empties the slot (15 R434, R444, R446 to R448). A key drawn is a free value (log
2), the cryptography is the model's (log 43), and clauses about GENERATE, IMPORT and DERIVE are stated without PERSIST. KEY commands about
tamper inputs, verifiers and sessions: a tamper input and a verifier slot take the fields given, REVOKED and VALID bits only being set; a
nonce is drawn; OPEN uses the nonce up whatever comes of it and opens a session only under a signature that a DEPOT verifier verifies; CLOSE
ends the session (15 R424, R442, R443, R450, R452, R453; logs 2, 43). -/
def Obligations.KeyStoreTamperAndSessionCommands : Prop :=
  (does 0x0A2 .keyProvision keyProvision always (fun _ _ t => [w36 t.keyId])
    (fun r s t => t.key.slots = [] ∧ t.key.lock = none ∧
      t.key.rs = if r.bit 1 35 = true then none else some (beBytes 48 (s.freeBelow (2 ^ 384)))) ∧
  does 0x0A3 .keyGenerate keyGenerate (fun r _ => r.bit 1 15 = false)
    (fun r s _ => [(slotOf r 0 0 (beBytes (4 * keyLen r) (s.freeBelow (2 ^ (32 * keyLen r))))).attr (r.fld 1 35 24)])
    (fun r s t => t.free = s.free + 1 ∧ ∀ h, t.slot h =
      if h = r.fld 1 35 24 then slotOf r 0 0 (beBytes (4 * keyLen r) (s.freeBelow (2 ^ (32 * keyLen r)))) else s.slot h) ∧
  does 0x0A4 .keyImport keyImport (fun r _ => r.bit 1 15 = false ∧ r.bit 1 14 = false)
    (fun r _ _ => [(slotOf r 1 0 (bytes32 (r.words.drop 1))).attr (r.fld 1 35 24)])
    (fun r s t => ∀ h, t.slot h = if h = r.fld 1 35 24 then slotOf r 1 0 (bytes32 (r.words.drop 1)) else s.slot h) ∧
  does 0x0A5 .keyDerive keyDerive
    (fun r _ => r.bit 1 15 = false ∧ ((bytes32 (r.words.drop 2)).take (r.fld 2 35 28)).take 3 ≠ ascii "NF-")
    (fun r _ t => [(t.slot (r.fld 1 35 24)).attr (r.fld 1 35 24)])
    (fun r s t => ∀ h, t.slot h =
      if h = r.fld 1 35 24 then
        slotOf r 2 (r.fld 1 13 2) (kdf (r.bit 1 1) (s.keySlot (r.fld 1 13 2)).key ((bytes32 (r.words.drop 2)).take (r.fld 2 35 28))
          (slice (bytes32 (r.words.drop 2)) (r.fld 2 35 28) (r.fld 2 27 20)) (4 * keyLen r))
      else s.slot h) ∧
  writes 0x0A6 .keyDelete keyDelete (fun r s t =>
    (∀ h, t.slot h = if h = r.fld 1 35 24 then {} else s.slot h) ∧ ∀ l, t.key.lock = some l → l.handle ≠ r.fld 1 35 24)) ∧
  (writes 0x0A8 .keyTamperWrite keyTamperWrite (fun r s t => ∀ k, t.tamperCfg k =
    if k = r.fld 1 35 32 then { action := r.fld 1 31 30, wake := r.bit 1 29, pol := r.fld 1 28 28, filter := r.fld 1 27 20 }
    else s.tamperCfg k) ∧
  does 0x0AA .keyVerifierWrite keyVerifierWrite (fun r _ => r.bit 1 35 = true) (fun _ _ _ => [])
    (fun r s t => t.key = { s.key with vRevoked := setMask s.key.vRevoked (r.fld 1 34 33) true }) ∧
  does 0x0AA .keyVerifierWrite keyVerifierWrite (fun r _ => r.bit 1 35 = false) (fun _ _ _ => [])
    (fun r s t => t.key.vValid = setMask s.key.vValid (r.fld 1 34 33 - 2) true ∧ t.key.vRevoked = s.key.vRevoked ∧
      Tbl.get zeroAt t.key.vHash (r.fld 1 34 33) = val32 (r.words.drop 1)) ∧
  does 0x0AB .keySession keySession (fun r _ => r.fld 1 35 34 = 0)
    (fun _ s _ => (List.range 8).map fun i => pack [(0, 32, s.freeBelow (2 ^ 256) / 2 ^ (32 * (7 - i)))])
    (fun _ s t => t.free = s.free + 1 ∧ t.key = { s.key with nonce := some (s.freeBelow (2 ^ 256), s.tim.ticks) }) ∧
  does 0x0AB .keySession keySession (fun r _ => 2 ≤ r.fld 1 35 34) (fun _ _ _ => []) (fun _ _ t => t.key.session = none) ∧
  ∀ (r : Req) (s : State) (n : Nat × Nat), s.serves 0x0AB r → keySession.plain r (s.taken r.path) → r.fld 1 35 34 = 1 →
    s.key.nonce = some n →
    ∃ t, exec (.keySession r) s = .next t ∧ t.key.nonce = none ∧
      (t.key.session ≠ s.key.session → ∃ v, s.key.depotSlot v = true ∧
        verifies (val32 ((r.words.drop 1).take 12)) (val32 (r.words.drop 13)) (s.sessionDigest n.1) (s.key.vhash v) = true))

/-- KEY and CIPHER commands that read and use keys: status, a slot's attributes, the tamper configuration or log; the engine's lock is
taken, used by its owner alone and given back, and its register read (15 R440, R441, R445, R449, R451, R454 to R456; log 43). -/
def Obligations.KeyReadsAndCipherCommands : Prop :=
  reads 0x0A1 .keyStatusRead keyStatusRead (fun _ s =>
    let k := s.key
    [pack [(35, 1, b1 s.keyed), (34, 1, b1 k.bkFlag), (33, 1, b1 k.vbat), (32, 1, b1 k.session.isSome),
           (24, 8, (k.slots.filter fun e => userSlot e.1 && e.2.valid).length)], w36 s.keyId] ++
      measWords (k.meas s.pair.active) ++ measWords (k.meas s.standby)) ∧
  reads 0x0A7 .keyInfoRead keyInfoRead (fun r s =>
    let h := r.fld 1 35 24
    let k := s.keySlot h
    [k.attr h, if k.valid ∧ k.use ≤ 1 then pack [(12, 24, beVal ((aesEnc k.key (List.replicate 16 0)).take 3))] else 0]) ∧
  does 0x0A9 .keyTamperRead keyTamperRead always
    (fun r s _ =>
      if r.bit 1 35 then
        [w36 s.key.ttotal, pack [(30, 6, s.key.tlog.length)]] ++ (s.key.tlog.map TamperRec.words).flatten
      else ([1, 2, 3, 4, 5, 6, 7] : List Nat).map fun k =>
        let c := s.tamperCfg k
        pack [(32, 4, k), (30, 2, c.action), (29, 1, b1 c.wake), (28, 1, c.pol), (20, 8, c.filter)])
    (fun r s t => t.key = if r.bit 1 35 = true ∧ r.bit 1 34 = true then { s.key with tlog := [] } else s.key) ∧
  writes 0x0C1 .cipherLock cipherLock (fun r s t => t.key =
    { s.key with lock := some { path := r.path, handle := r.fld 1 35 24, decrypt := r.bit 1 23, usedAt := s.tim.ticks } }) ∧
  does 0x0C2 .cipherBlock cipherBlock (fun r s => ∃ l, s.key.lock = some l ∧ l.path = r.path)
    (fun r s _ =>
      let l := s.key.lock.getD {}
      let body := bytes32 (r.words.drop 1)
      let out := ((List.range (r.fld 1 35 31)).map fun i =>
        let b := slice body (16 * i) 16
        if l.decrypt then aesDec (s.keySlot l.handle).key b else aesEnc (s.keySlot l.handle).key b).flatten
      (List.range (4 * r.fld 1 35 31)).map fun i => w36 (beVal (slice out (4 * i) 4)))
    (fun r s t => t.key.blocks = add72 s.key.blocks (r.fld 1 35 31) ∧ t.key.slots = s.key.slots) ∧
  does 0x0C3 .cipherUnlock cipherUnlock (fun r s => ∃ l, s.key.lock = some l ∧ l.path = r.path) (fun _ _ _ => [])
    (fun _ s t => t.key = { s.key with lock := none }) ∧
  reads 0x0C4 .cipherStatusRead cipherStatusRead (fun _ s => [s.lockWord] ++ words72 s.key.blocks ++ [w36 s.key.aborts])

/-- IMG commands of an update: BEGIN starts the erasure of the slot that does not run, WRITE puts words into erased room, VERIFY leads to
VERIFIED where the image is valid and newer and to LOADING where not, PREPARE wraps the keys kept (14 R405, R408 to R412, R416 to R419). IMG
commands that end an update: HANDOVER starts the new image on the standby, CONFIRM makes the target the running image or takes a
configuration, ROLLBACK goes back, at once or after a fall-back; IMG.REPORT_READ returns part of a report (14 R409 to R414, R420 to R423).
-/
def Obligations.UpdateCommandsLoadVerifyAndSwitch : Prop :=
  (reads 0x081 .imgStatusRead imgStatusRead (fun _ s =>
    let g := s.img
    [pack [(32, 4, g.mode.code), (30, 2, g.runSlot), (28, 2, g.target), (27, 1, b1 g.configOnly)], g.word 0 0, g.word 1 0, g.version g.runSlot,
     if g.target ≤ 1 ∧ (g.word g.target 2) = 0x4E4633606 then g.version g.target else 0,
     pack [(20, 16, s.trialLeft), (16, 4, g.lastFallback)], pack [(16, 20, g.written)]]) ∧
  does 0x082 .imgBegin imgBegin (fun r s => s.inSession r = true ∧ s.img.flash = true)
    (fun _ s _ => [pack [(35, 1, if s.img.runSlot = 0 then 1 else 0)]])
    (fun _ s t => t.img = { s.img with
      mode := .erasing, target := if s.img.runSlot = 0 then 1 else 0, written := 0, prepared := false, configOnly := false }) ∧
  does 0x083 .imgWrite imgWrite
    (fun r s => r.fld 1 35 16 + (r.words.drop 1).length ≤ 838859 ∧
      s.img.room s.img.target (r.fld 1 35 16 + 1) (r.words.drop 1).length = true ∧ s.img.target ≤ 1)
    (fun _ _ _ => [])
    (fun r s t => t.img.written = s.img.written + (r.words.drop 1).length ∧ ∀ i (h : i < (r.words.drop 1).length),
      t.img.word s.img.target (r.fld 1 35 16 + 1 + i) = (r.words.drop 1)[i]) ∧
  (∀ (r : Req) (s : State), s.serves 0x084 r → imgVerify.plain r (s.taken r.path) →
    ∃ t, exec (.imgVerify r) s = .next t ∧ t.img.mode =
      if s.imageValid s.img.target ∧ s.img.sequence s.img.runSlot < s.img.sequence s.img.target then .verified else .loading) ∧
  does 0x085 .imgPrepare imgPrepare
    (fun r s => s.key.rs.isSome = true ∧ s.inSession r = true ∧ s.img.configOnly = false ∧ s.img.prepared = false ∧ s.neededKeys = [] ∧
      s.img.room s.img.target (s.img.blobs s.img.target).2 0 = true)
    (fun _ _ _ => [pack [(28, 8, 0)]]) (fun _ _ t => t.img.mode = .prepared ∧ t.img.prepared = true)) ∧
  (starts 0x086 .imgHandover imgHandover
    (fun r s => s.inSession r = true ∧ s.pair.mode = .normal ∧ s.img.configOnly = false ∧
      s.img.liningMinOf s.img.target ≤ s.img.liningVerOf s.img.runSlot)
    (fun r s t => t.img.mode = .handover ∧ t.img.waiter = some r.path ∧ t.img.handoverAt = s.tim.ticks) ∧
  does 0x087 .imgConfirm imgConfirm (fun r s => s.inSession r = true ∧ s.img.mode = .verified ∧ s.img.configOnly = true)
    (fun _ _ _ => []) (fun _ s t => t.img.mode = .idle ∧ t.img.runSlot = s.img.runSlot) ∧
  does 0x087 .imgConfirm imgConfirm (fun r s => s.inSession r = true ∧ s.img.mode = .trial) (fun _ _ _ => [])
    (fun _ s t => t.img.mode = .confirming ∧ t.img.runSlot = s.img.target) ∧
  starts 0x088 .imgRollback imgRollback (fun r s => s.inSession r = true ∧ s.img.mode = .trial)
    (fun r _ t => t.img.mode = .fallback ∧ t.img.waiter = some r.path ∧ t.img.lastFallback = 1) ∧
  does 0x088 .imgRollback imgRollback (fun r s => s.inSession r = true ∧ s.img.mode ≠ .trial ∧ s.img.mode ≠ .idle) (fun _ _ _ => [0])
    (fun _ s t => t.img.mode = .idle ∧ t.img.runSlot = s.img.runSlot) ∧
  reads 0x089 .imgReportRead imgReportRead (fun r s =>
    let es := if r.bit 1 35 then s.img.repS else s.img.repV
    pack [(26, 10, es.length), (14, 12, if r.bit 1 35 then s.img.omitS else s.img.omitV)] ::
      ((es.drop (r.fld 1 34 26)).take (r.fld 1 25 20)).flatten))

/-- POWER and PACE commands that set fields: a sequence that keeps the order of the domains, the configuration, a feed's settings, which a
feed that is off takes at once, the action on the feeds named, a curve that rises, and the pacing of a core (16 R463 to R466, R480 to R485).
POWER and PACE commands that read return status, settings, sequences and curves; CLEAR clears the trips and the short-pace count (16 R479,
R486, R492). -/
def Obligations.PowerAndPaceCommandsSetAndReturnTheFields : Prop :=
  (does 0x0D2 .powerSeqLoad powerSeqLoad
    (fun r s => seqKeeps s.pow.cfg.mask (seqStart (r.fld 1 35 34) s.pow.cfg.mask) ((r.words.drop 1).map stepOfWord) = true)
    (fun _ _ _ => [])
    (fun r s t => ∀ k, Tbl.get noneAt t.pow.seqs k =
      if k = r.fld 1 35 34 then some ((r.words.drop 1).map stepOfWord) else Tbl.get noneAt s.pow.seqs k) ∧
  writes 0x0D3 .powerConfigWrite powerConfigWrite (fun r s t => t.pow = { s.pow with
    cfg := { mask := r.fld 1 35 20, shed := r.fld 2 35 10, pm0 := r.fld 3 35 4, pm1 := r.fld 4 35 4, div := r.fld 5 35 24,
             uv := r.fld 5 23 12, crank := r.fld 5 11 0, off := r.fld 6 35 24, on := r.fld 6 23 12, ov := r.fld 6 11 0,
             uvMs := r.fld 7 35 26, offMs := r.fld 7 25 16, crankShed := r.fld 7 15 8 } }) ∧
  writes 0x0D4 .powerLoadConfig powerLoadConfig (fun r s t => ∀ f,
    let c : FeedCfg :=
      { valid := r.bit 1 32, sleepOn := r.bit 1 31, retries := r.fld 1 30 27, autoOn := r.bit 1 26, scale := r.fld 2 35 20,
        limitMa := r.fld 2 19 6, inrushMa := r.fld 3 35 22, inrushMs := r.fld 3 21 12, tripUs := r.fld 3 11 0, retryMs := r.fld 4 35 20 }
    t.feed f =
      if f = r.fld 1 35 33 then { s.feed f with cfg := c, now := if (s.feed f).mode = .off then c else (s.feed f).now } else s.feed f) ∧
  writes 0x0D5 .powerLoadSet powerLoadSet (fun r s t => ∀ f, t.feed f =
    if f ∈ maskList (r.fld 1 35 28) 8 then (s.feed f).command (r.fld 1 27 26) s.tim.ticks else s.feed f) ∧
  does 0x0E1 .paceCurveLoad paceCurveLoad
    (fun r _ =>
      let l := (r.words.drop 1).map fun w => (fld w 35 25, fld w 24 13)
      ascending l = true ∧ 454 ≤ (l.getLastD (0, 0)).1)
    (fun _ _ _ => [])
    (fun r s t => ∀ k, Tbl.get nilAt t.pow.curves k =
      if k = r.fld 1 35 34 then (r.words.drop 1).map fun w => (fld w 35 25, fld w 24 13) else Tbl.get nilAt s.pow.curves k) ∧
  writes 0x0E2 .paceConfigWrite paceConfigWrite (fun r _ t => (t.pow.pace r.dieBit).cfg =
    { floor := r.bit 1 34, headroom := r.fld 1 33 28, guard := r.fld 1 27 23, stepMv := r.fld 1 22 18, eolMv := r.fld 1 17 6 })) ∧
  (does 0x0D1 .powerStatusRead powerStatusRead always
    (fun _ s _ =>
      [pack ((List.range 16).map fun d => (34 - 2 * d, 2, (s.dom d).code)),
       pack [(33, 3, match s.pow.run with | some r => r.seq + 1 | none => 0), (30, 3, s.pow.supply.code), (18, 12, s.pow.volts)],
       pack [(20, 16, s.pow.estimate), (14, 6, (maskList s.pow.shedPorts 26).length)]] ++
        (List.range 8).map fun f => pack [(33, 3, (s.feed f).mode.code), (19, 14, (s.feed f).current), (3, 16, (s.feed f).trips)])
    (fun r s t => (r.bit 1 35 = false → t.wide = s.wide) ∧ (r.bit 1 35 = true → ∀ f, (t.feed f).trips = 0)) ∧
  reads 0x0D6 .powerRead powerRead (fun r s =>
    let i := r.fld 1 33 31
    match r.fld 1 35 34 with
    | 0 => s.pow.cfg.words
    | 1 => (s.feed i).cfg.words i
    | _ => seqWords i (s.pow.steps i)) ∧
  does 0x0E3 .paceStatusRead paceStatusRead always
    (fun r s _ =>
      let c := s.pow.pace r.dieBit
      [pack [(25, 11, c.measured), (14, 11, c.target), (5, 9, ofSigned 9 c.tj)], pack [(24, 12, c.vdd), (12, 12, c.vr)],
       pack [(24, 12, c.remain), (23, 1, b1 c.eol)], w36 c.onHours, w36 c.paceShort])
    (fun r s t => (r.bit 1 34 = false → t.wide = s.wide) ∧ (r.bit 1 34 = true →
      t.pow.pace r.dieBit = { s.pow.pace r.dieBit with paceShort := 0 })) ∧
  reads 0x0E4 .paceRead paceRead (fun r s =>
    if r.bit 1 34 then curveWords (r.fld 1 33 32) (s.pow.curve (r.fld 1 33 32)) else [(s.pow.pace r.dieBit).cfg.word r.dieBit]))

/-- WAKE commands: a policy and the configuration take the fields given; HOLD registers its path, RELEASE removes it, SLEEP_NOW begins the
preparation of sleep where its guard holds; the reads return state, logs and settings, CLEAR clearing what it names (16 R473, R474, R487 to
R492). -/
def Obligations.WakeCommandsHoldReleaseAndRead : Prop :=
  writes 0x0F1 .wakePolicyWrite wakePolicyWrite (fun r s t => ∀ i, Tbl.get WakePolicy.dflt t.pow.policy i =
    if i = r.fld 1 35 30 then
      { valid := r.bit 1 29, kind := r.fld 1 28 26, src := r.fld 1 25 21, primary := r.bit 1 20, value := r.fld 2 31 0, mask := r.fld 3 31 0 }
    else Tbl.get WakePolicy.dflt s.pow.policy i) ∧
  writes 0x0F2 .wakeConfigWrite wakeConfigWrite (fun r s t => t.pow = { s.pow with
    wake := { sleepEn := r.bit 1 35, sleepS := r.fld 1 34 23, prepareMs := r.fld 1 22 13, keepAwakeMin := r.fld 1 12 0, locEn := r.fld 2 35 34,
              locPol := r.fld 2 33 32, locFilter := r.fld 2 31 22, spiWake := r.bit 2 21, timerS := r.fld 3 35 12 } }) ∧
  does 0x0F3 .wakeHold wakeHold (fun r s => r.fld 1 35 34 = 0 ∧ s.pow.mode = .awake)
    (fun _ _ t => [pack [(33, 3, t.pow.mode.code)]])
    (fun r s t => t.pow.mode = .awake ∧ Tbl.get noneAt t.pow.holds (hostPaths.idxOf r.path) =
      some { until_ := s.tim.ticks + ticksS (r.fld 1 32 21), primary := r.bit 1 33 }) ∧
  does 0x0F3 .wakeHold wakeHold (fun r s => r.fld 1 35 34 = 1 ∧ hostPaths.idxOf r.path ∈ s.holders)
    (fun _ _ t => [pack [(33, 3, t.pow.mode.code)]])
    (fun r s t => t.pow.mode = s.pow.mode ∧ t.pow.timerAt = s.tim.ticks ∧ Tbl.get noneAt t.pow.holds (hostPaths.idxOf r.path) = none) ∧
  does 0x0F3 .wakeHold wakeHold
    (fun r s => 2 ≤ r.fld 1 35 34 ∧ s.pow.mode = .awake ∧ s.pow.wake.sleepEn = true ∧ s.holders = [] ∧ s.follows = false)
    (fun _ _ _ => [pack [(33, 3, SleepMode.prepare.code)]]) (fun _ s t => t.pow.mode = .prepare ∧ t.pow.prepareAt = s.tim.ticks) ∧
  does 0x0F4 .wakeStatusRead wakeStatusRead always
    (fun _ s _ => [pack [(33, 3, s.pow.mode.code), (27, 6, maskOf s.holders), (15, 12, s.timerLeft)],
      pack [(12, 24, min (2 ^ 24 - 1) s.awakeS)], w36 s.pow.wakes, w36 s.pow.lateWakes, w36 s.pow.cancels])
    (fun r s t => t.pow = if r.bit 1 35 = true then { s.pow with wakes := 0, lateWakes := 0, cancels := 0 } else s.pow) ∧
  does 0x0F5 .wakeLogRead wakeLogRead always
    (fun r s _ =>
      let k := r.bit 1 35
      let ws := if k then (s.pow.keep.drop (r.fld 1 34 30)).map KeepRec.words else (s.pow.recs.drop (r.fld 1 34 30)).map WakeRec.words
      pack [(30, 6, if k then s.pow.keep.length else s.pow.recs.length), (18, 12, if k then s.pow.keepOmitted else s.pow.recOmitted)] ::
        (ws.take (r.fld 1 29 25)).flatten)
    (fun r s t => (r.bit 1 24 = false → t.wide = s.wide) ∧
      (r.bit 1 24 = true → r.bit 1 35 = true → t.pow.keep = [] ∧ t.pow.recs = s.pow.recs) ∧
      (r.bit 1 24 = true → r.bit 1 35 = false → t.pow.recs = [] ∧ t.pow.keep = s.pow.keep)) ∧
  reads 0x0F6 .wakeRead wakeRead (fun r s =>
    if r.bit 1 35 then (Tbl.get WakePolicy.dflt s.pow.policy (r.fld 1 34 29)).words (r.fld 1 34 29) else s.pow.wake.words)

/-- STACK and DIAG commands: the status of the stack, whose counters CLEAR clears; a relay and a read of another member become jobs on the
bridge; a read of this package is answered; STACK.DESIGNATE makes an orphan act for the master or ends that (13 R391; 17 R500, R502, R509 to
R511). -/
def Obligations.StackAndDiagnosisCommands : Prop :=
  does 0x021 .diagRead diagRead (fun r s => addrMember (r.fld 1 31 0) = s.sys.member)
    (fun r s _ => ((s.taken r.path).intReads (r.fld 1 31 0) (diagCount r)).2) (fun _ s t => t.stk.jobs = s.stk.jobs) ∧
  starts 0x021 .diagRead diagRead
    (fun r s => addrMember (r.fld 1 31 0) ≠ s.sys.member ∧ (s.portToMember (addrMember (r.fld 1 31 0))).isSome = true)
    (fun r _ t => ∃ j, j ∈ t.stk.jobs ∧ j.path = r.path ∧ j.member = addrMember (r.fld 1 31 0) ∧ j.mode = .diag) ∧
  does 0x061 .stackStatusRead stackStatusRead always
    (fun _ s _ =>
      let k := s.stk
      let hem (p : Nat) : HemCtr := Tbl.get HemCtr.dflt k.hems p
      let seen := maskOf ((List.range 4).filter fun m => match Tbl.get noneAt k.heard m with | some t => s.recent t | none => false)
      [pack [(33, 3, k.mode.code), (31, 2, s.sys.member), (29, 2, k.master), (25, 4, seen), (23, 2, k.reach), (22, 1, b1 (s.tim.slavePort == some 15))],
       w36 (hem 2).hdrErrors, w36 (hem 2).loops, w36 (hem 15).hdrErrors, w36 (hem 15).loops, w36 k.timeouts, w36 k.backoffs])
    (fun r s t => t.stk = if r.bit 1 35 = true then s.stk.cleared else s.stk) ∧
  starts 0x062 .stackRelay stackRelay always
    (fun r _ t => ∃ j, j ∈ t.stk.jobs ∧ j.path = r.path ∧ j.member = r.fld 1 35 34 ∧ j.mode = .write) ∧
  does 0x063 .stackDesignate stackDesignate (fun r _ => r.bit 1 35 = true) (fun _ _ _ => [])
    (fun _ _ t => t.stk.mode = .orphan ∧ t.tim.slavePort = none) ∧
  does 0x063 .stackDesignate stackDesignate (fun r _ => r.bit 1 35 = false) (fun _ _ _ => [])
    (fun _ s t => t.stk.mode = .acting ∧ t.stk.master = s.sys.member ∧ t.stk.reach = 0 ∧ t.tim.slavePort = none)

/-- FAULT and MAINT commands: status and log are read, the log returned being cleared with CLEAR; a link is enabled where its loopback
passes, a free value; a reload of a die begins and answers when it ends; FAULT.RESET restarts the device with code 2; the maintenance
token's time limits are read and written (18 R520, R522, R527 to R533; log 2). -/
def Obligations.FaultAndMaintenanceCommands : Prop :=
  reads 0x031 .faultStatusRead faultStatusRead (fun _ s =>
    let y := s.sys
    [pack [(32, 4, y.start.code), (29, 3, y.lastReset), (18, 11, y.boots), (17, 1, b1 y.faultN), (16, 1, b1 (inMask y.links 0)),
           (15, 1, b1 (inMask y.links 1)), (14, 1, b1 (inMask y.links 2)), (13, 1, b1 (inMask y.links 3)), (7, 6, y.present)],
     w36 y.logTotal] ++ words72 y.resetTime) ∧
  does 0x032 .faultLogRead faultLogRead always
    (fun r s _ => pack [(24, 12, s.sys.log.length)] ::
      (((s.sys.log.drop (r.fld 1 35 25)).take (r.fld 1 24 19)).map FaultEntry.logWords).flatten)
    (fun _ s t => t.wide = s.wide) ∧
  (∀ (r : Req) (s : State), s.serves 0x033 r → faultLinkEnable.plain r (s.taken r.path) →
    ∃ t, exec (.faultLinkEnable r) s = .next t ∧ t.free = s.free + 1 ∧
      t.sys.links = if s.freeBelow 2 = 0 then s.sys.links else setMask s.sys.links (r.fld 1 35 34) true) ∧
  starts 0x034 .faultDieReload faultDieReload always (fun r s t =>
    t.sys.reload = some (r.fld 1 35 33, some r.path) ∧ t.sys.absent = setMask s.sys.absent (r.fld 1 35 33) false) ∧
  (∀ (r : Req) (s : State), s.serves 0x035 r → faultReset.plain r (s.taken r.path) →
    ∃ t, exec (.faultReset r) s = .next t ∧ t.sys.start = .clockWait ∧ t.sys.lastReset = 2 ∧ t.sys.boots = (s.sys.boots + 1) % 2048 ∧
      t.pending = s.pending) ∧
  reads 0x051 .maintStatusRead maintStatusRead (fun _ s =>
    [pack ((List.range 4).map fun a => (32 + a, 1, b1 (s.sys.holders.any fun h => h.activity == a))),
     pack ((List.range 26).map fun p => (10 + p, 1, b1 ((s.port p).mode == .diag))), pack [(20, 16, s.sys.excl)]]) ∧
  writes 0x052 .maintExclWrite maintExclWrite (fun r s t => t.sys.excl = r.fld 1 35 20 ∧ t.wide = s.wide)

/-- A frame on a CPU port or a front port enters ingress staging; fragments are counted and reassembled; a free engine takes the oldest
frame of a port with its window; a second pass and the collector take theirs; a frame's words and end are stored once its bytes are there
(02 R25, R27, R30; 04 R74, R83, R84, R90). -/
def Obligations.FramesEnterStagingAndParseEngines : Prop :=
  (∀ (port : Nat) (bytes hdr : List Byte) (phy : Bool) (sec : SecRx) (dt : Nat) (s : State), 26 ≤ port → port < 28 →
    s.has (dieOfPort port).num = true → (s.pool (dieOfPort port)).built = true →
    runs (.frameRxStart port bytes hdr phy sec .whole dt) s fun t => ∃ f : FrameSt, f.inPort = port ∧ f.phyErr = phy ∧
      f.fcsOk = fcsRight bytes ∧ f.mode = .staged ∧
      (t.fab (dieOfPort port)).frames = (s.fab (dieOfPort port)).frames ++ [((s.fab (dieOfPort port)).nextFid, f)]) ∧
  (∀ (port : Nat) (bytes hdr : List Byte) (phy : Bool) (sec : SecRx) (dt : Nat) (s : State), port ≤ 25 →
    (s.port port).mode = .up → s.isHem port = false → (s.port port).secy.enable = false → isGptp bytes = false →
    s.has (dieOfPort port).num = true → (s.pool (dieOfPort port)).built = true →
    runs (.frameRxStart port bytes hdr phy sec .whole dt) s fun t => ∃ f : FrameSt, f.inPort = port ∧ f.hem = none ∧ f.toCpu = none ∧
      (t.fab (dieOfPort port)).frames = (s.fab (dieOfPort port)).frames ++ [((s.fab (dieOfPort port)).nextFid, f)]) ∧
  (∀ (port : Nat) (bytes hdr : List Byte) (phy : Bool) (sec : SecRx) (n dt : Nat) (s : State), port ≤ 25 →
    (s.port port).mode = .up → (s.mm port).en = true →
    runs (.frameRxStart port bytes hdr phy sec (.frags n) dt) s fun t =>
      (t.mm port).fragRx = add72 (s.mm port).fragRx n ∧ (t.mm port).assyOk = add72 (s.mm port).assyOk 1) ∧
  (∀ (port : Nat) (bytes hdr : List Byte) (phy : Bool) (sec : SecRx) (n dt : Nat) (s : State), port ≤ 25 →
    (s.port port).mode = .up → (s.mm port).en = true →
    runs (.frameRxStart port bytes hdr phy sec (.broken n) dt) s fun t =>
      (t.mm port).fragRx = add72 (s.mm port).fragRx n ∧ (t.mm port).assyErr = satN 18 (s.mm port).assyErr 1 ∧ t.fabW = s.fabW ∧
      t.fabE = s.fabE ∧ t.pending = s.pending) ∧
  (∀ (d : Fab) (e port fid : Nat) (f : FrameSt) (s : State),
    (s.fab d).frames.find? (fun x => x.2.inPort == port && x.2.mode == .staged) = some (fid, f) → s.engineFree d e = true →
    64 ≤ f.len → (128 < f.len ∨ (f.fcsOk = true ∧ f.phyErr = false)) →
    runs (.parseEngineTake d e port) s fun t =>
      t.engine d e = { fid := some fid, prog := (s.parsePort port).prog, budget := (s.parsePort port).budget,
                       win := f.bytes.take (min f.len 128), whole := decide (f.len ≤ 128) }) ∧
  (∀ (d : Fab) (e fid : Nat) (rest : List Nat) (f : FrameSt) (s : State), (s.fab d).second = fid :: rest → (s.fab d).frame fid = some f →
    (e = 22 ∨ e = 23) → (s.engine d e).fid = none →
    runs (.recircPassStart d e) s fun t => (t.engine d e).fid = some fid ∧ (t.engine d e).second = true ∧ (t.fab d).second = rest ∧
      (t.fab d).recircs = add72 (s.fab d).recircs 1) ∧
  (∀ (d : Fab) (e fid : Nat) (f : FrameSt) (s : State), (s.engine d e).fid = some fid → (s.fab d).frame fid = some f →
    (s.engine d e).done = true → s.inTagOrder f (s.engine d e).second = true →
    runs (.collectorTake d e) s fun t => t.engine d e = {}) ∧
  (∀ (d : Fab) (fid : Nat) (f : FrameSt) (s : State), (s.fab d).frame fid = some f → f.mode = .decided → f.seamFrom = none →
    f.own = none → f.stored < f.words →
    runs (.fabricWordStore d fid) s fun t =>
      let n := min f.len (32 * (f.stored + 1))
      let s1 := s.advQ (s.arrived f n)
      t = s1.storeWord d fid (slice f.bytes (32 * f.stored) (n - 32 * f.stored)) (f.stored + 1 == f.words) (decide (s1.nowQ < s1.rxEnd f))) ∧
  (∀ (d : Fab) (fid dt : Nat) (f : FrameSt) (s : State), (s.fab d).frame fid = some f → f.mode = .decided → f.seamFrom = none →
    f.own = none → f.ended = false → f.stored = f.words →
    runs (.frameEndStored d fid dt) s fun t => t = ((s.advQ (s.rxEnd f)).adv dt).endFrame d fid f)

/-- Each parse instruction that is an engine's next word takes one step, with the effect of its OP on class, field, register, cursor, length
or place (04 R75, R76, R79); an engine that has used its budget stops as PARSE_INCOMPLETE. -/
def Obligations.ParseInstructionsStepTheEngine : Prop :=
  (∀ (d : Fab) (e : Nat) (s : State),
    let g := s.engine d e
    let w := s.tab.progWord g.prog g.pc
    let g1 : Engine := { g with pc := g.pc + 1, steps := g.steps + 1 }
    (s.parseReady d e 0 = true → runs (.parseEnd d e) s fun t => t.engine d e = { g1 with done := true }) ∧
    (s.parseReady d e 1 = true → runs (.parseClass d e) s fun t => t.engine d e = { g1 with res := { g.res with cls := fld w 3 0 } }) ∧
    (s.parseReady d e 2 = true → runs (.parseExtract d e) s fun t => t.engine d e = g1.extract (fld w 31 25) (fld w 24 20)) ∧
    (s.parseReady d e 3 = true → runs (.parseLoad d e) s fun t => t.engine d e = g1.load (fld w 31 25) (fld w 24 23) (fld w 22 21)) ∧
    (s.parseReady d e 4 = true → runs (.parseAnd d e) s fun t =>
      t.engine d e = g1.setReg (fld w 22 21) (Nat.land (g.reg (fld w 22 21) % 65536) (fld w 15 0))) ∧
    (s.parseReady d e 5 = true → runs (.parseTest d e) s fun t =>
      t.engine d e = if g.reg (fld w 22 21) % 65536 = fld w 15 0 then { g1 with pc := fld w 31 23 } else g1) ∧
    (s.parseReady d e 6 = true → runs (.parseTestne d e) s fun t =>
      t.engine d e = if g.reg (fld w 22 21) % 65536 = fld w 15 0 then g1 else { g1 with pc := fld w 31 23 }) ∧
    (s.parseReady d e 7 = true → runs (.parseJump d e) s fun t => t.engine d e = { g1 with pc := fld w 31 23 }) ∧
    (s.parseReady d e 8 = true → runs (.parseAdvance d e) s fun t => t.engine d e =
      { g1 with cursor := g.cursor + g.reg (fld w 22 21) * (match fld w 20 19 with | 0 => 0 | 1 => 1 | 2 => 4 | _ => 8) + fld w 15 0 }) ∧
    (s.parseReady d e 9 = true → g.res.lenD = none → g.whole = false → runs (.parseLenset d e) s fun t =>
      (t.engine d e).res.lenD = some (g.base + g.cursor + g.reg (fld w 22 21) + fld w 15 0) ∧ (t.engine d e).done = false) ∧
    (s.parseReady d e 10 = true → runs (.parseFail d e) s fun t =>
      t.engine d e = { g1 with done := true, res := { g.res with cls := 0xF, mal := some 4 } }) ∧
    (g.fid.isSome = true → g.done = false → g.budget ≤ g.steps → runs (.parseBudgetExhausted d e) s fun t =>
      t.engine d e = { g with done := true, res := { g.res with cls := 0xE } }))

/-- Activation: one that could not be armed ends with no switch, one that was goes on; at its instant the rule or forwarding generation
steps, or the permission matrix takes the rows given; retirement copies the live bank over the other and the sweep ends the forwarding
switch (04 R94, R95, R105; 05 R129, R133; 06 R148, R161). -/
def Obligations.ActivationsSwitchGenerationsAndMatrix : Prop :=
  (∀ (a : Act) (s : State), s.tab.act = some a → a.reached = false →
    runs (.activationArmDeadline false) s (fun t => t.tab = { s.tab with act := none }) ∧
    (a.kind ≠ .policy → runs (.activationArmDeadline true) s fun t => t.tab = s.tab) ∧
    (a.kind = .rule → runs .activationTimeReached s fun t => t.tab =
      { s.tab with gen := s.tab.gen + 1, retiring := true, ruleT := timeOfQ a.t, act := some { a with reached := true } }) ∧
    (a.kind = .fwd → runs .activationTimeReached s fun t => t.tab =
      { s.tab with fgen := s.tab.fgen + 1, sweep := true, fwdT := timeOfQ a.t, act := some { a with reached := true } }) ∧
    (a.kind = .policy → runs .activationTimeReached s fun t => t.zon = s.zon.setRows a.rows ∧ t.tab = { s.tab with act := none })) ∧
  (∀ (a : Act) (s : State), s.tab.act = some a → a.kind = .rule → a.reached = true → s.oldGen = false →
    runs .ruleBankRetired s fun t => t.tab.retiring = false ∧ t.tab.act = none ∧ t.tab.gen = s.tab.gen ∧
      t.tab.bank s.tab.gen = s.tab.bank s.tab.gen ∧ t.tab.bank (s.tab.gen + 1) = s.tab.bank s.tab.gen) ∧
  (∀ (a : Act) (s : State), s.tab.act = some a → a.kind = .fwd → a.reached = true →
    runs .fwdSweepEnd s fun t => t.tab.sweep = false ∧ t.tab.act = none ∧ t.tab.fwd = s.tab.swept.fwd)

/-- Table engines: a learning request is taken from its queue, a fragment entry expires, a FRER function takes any sequence again, a port
that came up counts as up after its hold, and the firmware takes the head of its CPU port (03 R60; 04 R91; 05 R120, R124, R126). -/
def Obligations.TableTimersAndCpuDelivery : Prop :=
  (∀ (q : LearnReq) (qs : List LearnReq) (s : State), (s.fab s.learnDie).learnQ = q :: qs →
    runs .learnEntryWrite s fun t => (t.fab s.learnDie).learnQ = qs) ∧
  (∀ (d : Fab) (i : Nat) (s : State), (Tbl.get FragEnt.dflt (s.fab d).frags i).valid = true →
    runs (.fragTimeout d i) s fun t => Tbl.get FragEnt.dflt (t.fab d).frags i = {} ∧
      (t.fab d).fragTimeouts = sat36 (s.fab d).fragTimeouts 1) ∧
  (∀ (d : Fab) (fn : Nat) (s : State), fn < 1024 → (s.frerDyn d fn).takeAny = false →
    ((Tbl.get FrerCfg.dflt s.tab.frer fn).mode = 2 ∨ (Tbl.get FrerCfg.dflt s.tab.frer fn).mode = 3) →
    runs (.frerResetTimeout d fn) s fun t =>
      t.frerDyn d fn = { s.frerDyn d fn with takeAny := true, h := 0, resets := sat36 (s.frerDyn d fn).resets 1 }) ∧
  (∀ (port : Nat) (s : State), port ≤ 25 → (s.port port).mode = .up → inMask s.tab.linkDown port = true →
    runs (.restoreHoldEnd port) s fun t => t.tab = { s.tab with linkDown := setMask s.tab.linkDown port false }) ∧
  (∀ (d : Fab) (fid p i : Nat) (f : FrameSt) (c : Copy) (s s1 : State), s.cpuServed d = true →
    ((List.range 32).reverse.findSome? fun q => (s.fab d).headOf 13 q) = some (fid, f, c) →
    s.allocMsg d 0x47 (s.cpuContent d f c).length true = (s1, some (p, i)) →
    runs (.cpuPortDelivery d) s fun t => Output.cpuFrame d p i (s.cpuContent d f c) ∈ t.out)

/-- The Seam: a waiting copy begins on its link, a word of it goes out, a word that arrives is taken, and a lost link is marked; each only
as the link's state allows (01 R9 to R11; 02 R33, R34). -/
def Obligations.SeamLinksCarryAndLoseWords : Prop :=
  (∀ (d : Fab) (link fid : Nat) (f : FrameSt) (c : Copy) (rest : List (Nat × FrameSt × Copy)) (s : State), s.seamUp link = true →
    ((s.fab d).seamCopies fun _ c => c.mode == .sending && c.link == link).length < 16 →
    ((s.fab d).seamCopies fun f c => c.mode == .queued && s.seamLink f c == link) = (fid, f, c) :: rest →
    runs (.seamFrameStart d link) s fun t =>
      t = s.modFrame d fid fun f => f.modCopy c.cid fun x => { x with mode := .sending, link := link, startQ := s.nowQ }) ∧
  (∀ (d : Fab) (link fid : Nat) (f : FrameSt) (c : Copy) (rest : List (Nat × FrameSt × Copy)) (s : State), s.seamUp link = true →
    ((s.fab d).seamCopies fun f c => c.mode == .sending && c.link == link && seamReady f c) = (fid, f, c) :: rest →
    runs (.seamWordSend d link) s fun t => ∃ w : SeamWord, w.fid = fid ∧
      Tbl.get nilAt (t.fab d).seamWords link = Tbl.get nilAt (s.fab d).seamWords link ++ [w]) ∧
  (∀ (d : Fab) (link : Nat) (w : SeamWord) (ws : List SeamWord) (s : State),
    Tbl.get nilAt (s.fab d.other).seamWords link = w :: ws →
    runs (.seamWordRx d link) s fun t => Tbl.get nilAt (t.fab d.other).seamWords link = ws) ∧
  (∀ (link : Nat) (west east : Bool) (s : State), s.seamUp link = true → (west || east) = true →
    runs (.seamLinkLost link west east) s fun t => inMask t.sys.links link = false ∧
      ∀ l, l ≠ link → inMask t.sys.links l = inMask s.sys.links l)

/-- Output: the transmission selection decides, a frame that has ended is finished, one whose words are late is ended bad, a preemptable
frame is cut at its fragment, and credits are refilled every 512 ns (02 R35, R38, R39; 07 R183 to R186). -/
def Obligations.OutputsSelectFinishAndPreempt : Prop :=
  (∀ (d : Fab) (out lat dt : Nat) (s : State), runs (.egressSelect d out lat dt) s fun t => t = (s.adv dt).select d out lat) ∧
  (∀ (d : Fab) (out : Nat) (k : Nat × Nat) (f : FrameSt) (c : Copy) (s : State), (s.tx d out).cur = some k → s.copyAt d k = some (f, c) →
    (s.tx d out).waitPlca = false → (f.ended = true ∨ c.bad.isSome = true) →
    runs (.egressFrameEnd d out) s fun t =>
      t = ((s.advQ ((s.tx d out).beginQ + s.lineQ d out (s.tx d out).dur)).settle d out false).finishTx d out k f c) ∧
  (∀ (d : Fab) (out : Nat) (k : Nat × Nat) (s : State), (s.tx d out).cur = some k → s.copyAt d k = none →
    runs (.egressFrameEnd d out) s fun t => (t.tx d out).cur = none ∧ (t.tx d out).next = none) ∧
  (∀ (d : Fab) (out : Nat) (k : Nat × Nat) (f : FrameSt) (c : Copy) (s : State), (s.tx d out).cur = some k → s.copyAt d k = some (f, c) →
    f.ended = false → c.bad = none → (s.tx d out).waitPlca = false →
    runs (.stagingUnderrun d out) s fun t => (t.fab d).nextFid = (s.fab d).nextFid) ∧
  (∀ (d : Fab) (out dt : Nat) (k : Nat × Nat) (f : FrameSt) (c : Copy) (s : State), ((s.adv dt).tx d out).cur = some k →
    (s.adv dt).copyAt d k = some (f, c) → (s.adv dt).preempts d f out = true → ((s.adv dt).tx d out).paused = none →
    ((s.adv dt).tx d out).next = none → (((s.adv dt).choose d out true).isSome || (s.adv dt).inHold d out) = true →
    (s.adv dt).cutPoint d out + 72 ≤ ((s.adv dt).tx d out).dur →
    runs (.expressPreempt d out dt) s fun t => (t.tx d out).cur = none ∧ (t.tx d out).paused = some k) ∧
  (∀ (port : Nat) (s : State), port ≤ 25 → runs (.cbsRefill port) s fun t => (t.gate port).refillAt = t.tim.ticks)

/-- Pools: a request for a message buffer or a cell is answered with its grant, or that there is none; a buffer is freed, shared and
released by the rules of its owner and SHARE, each answered; the free list is built with every requester's spares; and the answer is the
last output (03 R50 to R57). -/
def Obligations.PoolOperationsAnswerTheirRequester : Prop :=
  (∀ (d : Fab) (x n : Nat) (fall c : Bool) (s : State), runs (.poolAlloc d x (.msg n fall) c) s fun t =>
    t.out.getLast? = some (.pool d x (match poolFor n with
      | none => .refused
      | some p => match ((s.contend d p c).allocMsg d x n fall).2 with | some h => .grant (handleWord h.1 h.2) | none => .empty))) ∧
  (∀ (d : Fab) (x : Nat) (c : Bool) (s : State), runs (.poolAlloc d x .cell c) s fun t =>
    t.out.getLast? = some (.pool d x (match ((s.contend d 0 c).grantCell d x).2 with | some k => .grant (handleWord 0 k) | none => .empty))) ∧
  (∀ (d : Fab) (x p i : Nat) (s : State), 1 ≤ p → p ≤ 3 → (s.buf d p i).inUse = true → (s.buf d p i).share ≤ 1 → (s.buf d p i).owner = x →
    runs (.poolFree d x p i false) s fun t => (t.buf d p i).inUse = false ∧ (t.buf d p i).share = 0 ∧ t.out.getLast? = some (.pool d x .done)) ∧
  (∀ (d : Fab) (x p i k : Nat) (s : State), 1 ≤ p → p ≤ 3 → (s.buf d p i).inUse = true → (s.buf d p i).owner = x →
    (s.buf d p i).share + k ≤ 31 →
    runs (.poolShare d x p i k false) s fun t =>
      t.buf d p i = { s.buf d p i with share := (s.buf d p i).share + k } ∧ t.out.getLast? = some (.pool d x .done)) ∧
  (∀ (d : Fab) (x p i : Nat) (s : State), 1 ≤ p → p ≤ 3 → (s.buf d p i).inUse = true → 2 < (s.buf d p i).share →
    runs (.poolRelease d x p i false) s fun t =>
      t.buf d p i = { s.buf d p i with share := (s.buf d p i).share - 1 } ∧ t.out.getLast? = some (.pool d x .notLast)) ∧
  (∀ (d : Fab) (x p i : Nat) (s : State), 1 ≤ p → p ≤ 3 → (s.buf d p i).inUse = true → (s.buf d p i).share = 2 →
    runs (.poolRelease d x p i false) s fun t =>
      t.buf d p i = { s.buf d p i with share := 1, owner := x } ∧ t.out.getLast? = some (.pool d x .last)) ∧
  (∀ (d : Fab) (s : State), runs (.freeListBuilt d) s fun t => (t.pool d).built = true)

/-- Gates, MAC merge and samplers: the entry of a list that begins, the change to the admin list, the copy that ends it, the verification of
MAC merge and a sample of a queue's depth (07 R174, R180 to R182, R187, R190). -/
def Obligations.GateVerificationAndSamplerEvents : Prop :=
  (∀ (port : Nat) (s : State), runs (.gclEntryStart port) s fun t => t = s.gateEntry port) ∧
  (∀ (port : Nat) (s : State), port ≤ 25 → (s.gate port).mode = .pending →
    runs (.gclChangeTime port) s fun t => t = (s.advQ (s.gate port).ct).gateChange port) ∧
  (∀ (port : Nat) (s : State), port ≤ 25 → (s.gate port).mode = .copying →
    runs (.gclCopyComplete port) s fun t => (t.gate port).oper = (s.gate port).oper ∧ (t.gate port).admin = (s.gate port).oper ∧
      (t.gate port).mode = if (s.gate port).oper.cfg.gateEn then .running else .off) ∧
  (∀ (port : Nat) (s : State), port ≤ 25 → (s.mm port).en = true → (s.mm port).verifyEn = true → (s.port port).mode = .up →
    ((s.mm port).verify = .initial ∨ (s.mm port).verify = .verifying) →
    runs (.mmVerifyTimer port) s fun t =>
      ((s.mm port).attempts < 3 → t.mm port = { s.mm port with verify := .verifying, attempts := (s.mm port).attempts + 1 } ∧
        t.out.getLast? = some (.mPacket port true)) ∧
      (3 ≤ (s.mm port).attempts → t.mm port = { s.mm port with verify := .failed })) ∧
  (∀ (port : Nat) (s : State), port ≤ 25 → (s.mm port).en = true →
    ((s.mm port).verify = .verifying → runs (.mmVerifyRx port true) s fun t => t.mm port = { s.mm port with verify := .succeeded }) ∧
    runs (.mmVerifyRx port false) s fun t => t.out = s.out ++ [.mPacket port false]) ∧
  (∀ (d : Fab) (i : Nat) (s : State), i ≤ 3 → (s.sampler d i).enable = true →
    runs (.samplerPeriod d i) s fun t => (t.sampler d i).lastAt = t.tim.ticks ∧
      (t.sampler d i).samples.getLast? = some ((s.fab d).depthWord (s.sampler d i).output (s.sampler d i).queue))

/-- Accesses to a path's registers: a pop, a drop, the read and the write of an event register, the upper-bits holder, the request window,
the doorbell and the level; a held response is placed when it fits (13 R357, R367 to R369, R372, R373). -/
def Obligations.PathRegisterAccesses : Prop :=
  (∀ (p : Path) (w : Word) (ws : List Word) (s : State), hasRegs p = true → s.pathUp p = true → (s.path p).fifo = w :: ws →
    runs (.mbxRspPop p) s fun t => (t.path p).fifo = ws ∧ (t.path p).rspLast = w ∧
      (t.path p).popcnt = ((s.path p).popcnt + 1) % 4096 ∧ t.out = s.out ++ [Output.regRead p w]) ∧
  (∀ (p : Path) (s : State), hasRegs p = true → s.pathUp p = true → (s.path p).fifo = [] →
    runs (.mbxRspPop p) s fun t => t.path p = s.path p ∧ t.out = s.out ++ [Output.regRead p 0]) ∧
  (∀ (p : Path) (s : State), hasRegs p = true → s.pathUp p = true →
    runs (.mbxRspDrop p) s fun t => (t.path p).fifo = (s.path p).fifo.drop (s.path p).left ∧ (t.path p).left = 0) ∧
  (∀ (p : Path) (reg : Nat) (s : State), hasRegs p = true → s.pathUp p = true → reg ≤ 3 →
    runs (.evtRead p reg .whole) s (fun t => (t.path p).ev reg = ((s.path p).ev reg).read ∧
      t.out = s.out ++ [Output.regRead p ((s.path p).ev reg).word]) ∧
    (p ≠ .spi → runs (.evtRead p reg .high) s fun t => t.path p = s.path p ∧
      t.out = s.out ++ [Output.regRead p (pack [(0, 4, ((s.path p).ev reg).upper)])])) ∧
  (∀ (p : Path) (reg : Nat) (w : Word) (s : State), hasRegs p = true → s.pathUp p = true → reg ≤ 3 →
    runs (.evtWrite p reg w) s fun t => (t.path p).ev reg = ((s.path p).ev reg).write (fld w 35 28)) ∧
  (∀ (p : Path) (v : Nat) (s : State), p.isPcie = true → s.pathUp p = true →
    runs (.upperBitsWrite p v) s fun t => (t.path p).upper = v % 16) ∧
  (∀ (p : Path) (i : Nat) (w : Word) (s : State), hasRegs p = true → s.pathUp p = true → i < 256 →
    runs (.registerWrite p (0x100 + i) w false) s (fun t =>
      (t.path p).window = Tbl.put (fun _ => (0 : Word)) (s.path p).window i w ∧ (t.path p).upper = (s.path p).upper) ∧
    (p.isPcie = true → runs (.registerWrite p (0x100 + i) w true) s fun t => (t.path p).upper = 0 ∧
      (t.path p).window = Tbl.put (fun _ => (0 : Word)) (s.path p).window i (pack [(0, 32, w.toNat), (32, 4, (s.path p).upper)])) ∧
    runs (.registerWrite p 0x015 w false) s (fun t => (t.path p).level = fld w 35 25)) ∧
  (∀ (p : Path) (bs : List (Fab × Nat × Nat)) (s s2 : State), p.isPcie = true → s.pathUp p = true → s.accepting = true →
    (s.path p).reqFree = true → (s.path p).waiting = [] → (s.path p).outstanding < 16 →
    ((s.path p).windowReq p).2.isLocal = false → knownOp ((s.path p).windowReq p).1 = true →
    ((s.modPath p fun q => { q with writeTag := (q.writeTag + 1) % 65536 }).raiseHost p .reqFree).requestBufs
      ((s.path p).windowReq p).2 = (s2, some bs) →
    runs (.mbxDoorbell p) s fun t => (t.path p).waiting =
      [{ opcode := ((s.path p).windowReq p).1, req := ((s.path p).windowReq p).2, seq := s.host.svcT.lastSeq.getD 0, bufs := bs }]) ∧
  (∀ (p : Path) (h : HeldRsp) (rest : List HeldRsp) (s : State), (s.path p).held = h :: rest →
    (s.path p).fifo.length + h.words.length ≤ 1024 →
    runs (.responseFifoPlace p) s fun t => (t.path p).held = rest ∧ (t.path p).fifo = (s.path p).fifo ++ h.words)

/-- A write to the D0 window is posted and D0 applies it at its next slow edge; a lock bit and the fields of its register are then as
written, and a locked register takes nothing (13 R363, R365, R366). -/
def Obligations.LockRegistersTakeThePostedWrite : Prop :=
  (∀ (p : Path) (k : Nat) (w : Word) (s : State), hasRegs p = true → s.pathUp p = true → k ≤ 5 → (s.path p).posted = none →
    runs (.registerWrite p (0x800 + k) w false) s fun t => (t.path p).posted = some (k, w) ∧ t.locks = s.locks) ∧
  (∀ (p : Path) (k : Nat) (w : Word) (s : State), hasRegs p = true → (s.path p).posted = some (k, w) →
    (∀ q, q ≠ p → (s.path q).posted = none) →
    runs .d0PostedWriteApply s fun t => (t.path p).posted = none ∧ t.locks = (s.applyD0 p k w).locks) ∧
  (∀ (p : Path) (w : Word) (s : State), hasRegs p = true → s.pathUp p = true → (∀ q, (s.path q).posted = none) →
    runs (.policyLockSet p w) s (fun t => t.locks = if s.locks.policy then s.locks else { s.locks with policy := bit1 w 35 }) ∧
    runs (.sealLockSet p w) s (fun t => t.locks = if s.locks.sealLock then s.locks else
      { s.locks with sealLock := bit1 w 35, reaction := fld w 1 0 }) ∧
    runs (.keyLockSet p w) s (fun t => t.locks = if s.locks.key then s.locks else { s.locks with key := bit1 w 35 }) ∧
    runs (.powerLimitLockSet p w) s (fun t => t.locks = if s.locks.power then s.locks else
      { s.locks with power := bit1 w 35, limit := fld w 15 0 }))

/-- DMA rings: RING_CTRL enables a ring with a legal size and takes nothing otherwise, TAIL is written whole, a transmit descriptor is
consumed with DONE or ERROR, a frame fills the next receive buffer, and a coalescing time ends with its vector (13 R378 to R381, R388). -/
def Obligations.RingsMoveFrames : Prop :=
  (∀ (p : Path) (rx : Bool) (n : Nat) (w : Word) (s : State), p.isPcie = true → s.pathUp p = true → n < 32 →
    (bit1 w 35 = true → 6 ≤ fld w 34 31 → fld w 34 31 ≤ 12 → (rx = true → 4 ≤ fld w 30 22 ∧ fld w 30 22 ≤ 146) →
      runs (.ringCtrlWrite p rx n w) s fun t => t.ring p rx n =
        { s.ring p rx n with enable := true, size := fld w 34 31, bufSize := fld w 30 22, coalUs := fld w 21 12 }) ∧
    (bit1 w 35 = true → (fld w 34 31 < 6 ∨ 12 < fld w 34 31) →
      runs (.ringCtrlWrite p rx n w) s fun t => t.ring p rx n = s.ring p rx n) ∧
    (bit1 w 35 = false → runs (.ringCtrlWrite p rx n w) s fun t => t.ring p rx n =
      { s.ring p rx n with enable := false, size := fld w 34 31, bufSize := fld w 30 22, coalUs := fld w 21 12, head := 0, tail := 0,
                           uncovered := none }) ∧
    runs (.ringTailWrite p rx n w) s (fun t => t.ring p rx n = { s.ring p rx n with tail := fld w 31 16 })) ∧
  (∀ (d : Fab) (k length dt : Nat) (bytes : List Byte) (err : Bool) (s : State), s.started = true → s.pathUp (functionsOf d).1 = true →
    s.nextTx d = some k →
    runs (.txRingFrame d length bytes err dt) s fun t =>
      let p := placePath d k
      let n := k % 32
      (t.ring p false n).head = ((s.ring p false n).head + 1) % 65536 ∧
      (if err ∨ length < 60 ∨ 9212 < length then
        Output.txDesc p n (s.ring p false n).head 3 ∈ t.out ∧ (t.ring p false n).errors = sat36 (s.ring p false n).errors 1
      else Output.txDesc p n (s.ring p false n).head 1 ∈ t.out ∧ (t.ring p false n).frames = add72 (s.ring p false n).frames 1 ∧
        (t.ring p false n).octets = add72 (s.ring p false n).octets (length + 4))) ∧
  (∀ (d : Fab) (dt : Nat) (x : Delivery) (s : State),
    s.host.delivering.find? (fun x => x.path = (functionsOf d).1 ∨ x.path = (functionsOf d).2) = some x →
    (s.ring x.path true x.ring).enable = true → (s.ring x.path true x.ring).head ≠ (s.ring x.path true x.ring).tail →
    runs (.rxRingDelivery d dt) s fun t =>
      let r := s.ring x.path true x.ring
      let r1 := t.ring x.path true x.ring
      let trunc := decide (64 * r.bufSize - 64 < x.bytes.length)
      r1.head = (r.head + 1) % 65536 ∧ r1.frames = add72 r.frames 1 ∧ r1.octets = add72 r.octets x.bytes.length ∧
      r1.errors = (if trunc then sat36 r.errors 1 else r.errors) ∧
      Output.rxBuffer x.path x.ring r.head x.desc (x.bytes.take (64 * r.bufSize - 64)) x.bytes.length (1 + 2 * b1 trunc) ∈ t.out) ∧
  (∀ (p : Path) (rx : Bool) (n t0 : Nat) (s : State), p.isPcie = true → (s.ring p rx n).uncovered = some t0 →
    runs (.ringCoalesceExpiry p rx n) s fun t =>
      t.ring p rx n = { s.ring p rx n with uncovered := none } ∧ Output.msix p (8 + n) ∈ t.out)

/-- Resets, faults and links of the host interface: a function-level reset clears its function and no lock, a failed write is logged, a FIFO
whose pointers disagree is emptied, a seal pass is compared or becomes the reference, links change, and an SPI or service frame takes effect
(13 R356, R359, R360, R372, R376, R377, R382, R384; 15 R442; 19 R546). -/
def Obligations.HostResetsFaultsAndLinks : Prop :=
  (∀ (p : Path) (s : State), p.isPcie = true →
    runs (.functionLevelReset p) s fun t => (t.path p).fifo = [] ∧ (t.path p).window = [] ∧ (t.path p).upper = 0 ∧
      (t.path p).lateLog = [] ∧ (t.path p).held = [] ∧ (∀ n, (t.path p).ev n = {}) ∧
      (∀ n, (t.ring p true n).enable = false ∧ (t.ring p false n).enable = false) ∧ t.locks = s.locks ∧ t.tab = s.tab) ∧
  (∀ (p : Path) (reason addr : Nat) (s : State), hasRegs p = true → 1 ≤ reason → reason ≤ 8 →
    runs (.lateWriteFail p reason addr) s fun t => (t.path p).lateTotal = sat36 (s.path p).lateTotal 1 ∧
      (t.path p).lateLog.getLast? =
        some { reason := reason, address := addr % 2 ^ 32, tag := (s.path p).writeTag, time := s.now72 % 2 ^ 36 }) ∧
  (∀ (p : Path) (n : Nat) (s : State), p.isHost = true →
    runs (.fifoPointerFault (.path p n)) s fun t => (t.path p).fifo = [] ∧ (t.path p).left = 0 ∧ (t.path p).rspLast = (s.path p).rspLast) ∧
  (∀ (d n : Nat) (s : State), d ≤ 5 → runs (.fifoPointerFault (.die d n)) s fun t => t.sys = (s.logFault 0x0B d n).sys) ∧
  (∀ (d crc : Nat) (s : State), d ≤ 5 → s.has d = true →
    runs (.sealPassEnd d crc) s fun t => Tbl.get zeroAt t.sealSt.lastCrc d = crc % 2 ^ 32 ∧
      (d ∈ s.sealSt.commit → Tbl.get zeroAt t.sealSt.refCrc d = crc % 2 ^ 32 ∧ inMask t.sealSt.valid d = true ∧
        inMask t.sealSt.mismatch d = false ∧ d ∉ t.sealSt.commit) ∧
      (d ∉ s.sealSt.commit → inMask s.sealSt.valid d = true → Tbl.get zeroAt s.sealSt.refCrc d ≠ crc % 2 ^ 32 →
        inMask t.sealSt.mismatch d = true)) ∧
  (∀ s : State, runs .servicePortLinkDown s fun t => t.key.session = none) ∧
  (∀ (up : Bool) (s : State),
    runs (.pcieLinkChange .west up) s (fun t => t.host = { s.host with pcieW := up && s.domOn 6, trainW := s.host.trainW && !up }) ∧
    runs (.pcieLinkChange .east up) s (fun t => t.host = { s.host with pcieE := up && s.domOn 9, trainE := s.host.trainE && !up })) ∧
  (∀ s : State, (s.domOn 6 = true → s.host.pcieW = false → runs (.perstNRelease .west) s fun t => t.host = { s.host with trainW := true }) ∧
    (s.domOn 9 = true → s.host.pcieE = false → runs (.perstNRelease .east) s fun t => t.host = { s.host with trainE := true })) ∧
  (∀ (a b b0 b1 b2 b3 b4 : Byte) (s : State), s.key.ao = true → 0x100 ≤ beVal [a, b] → beVal [a, b] < 0x200 →
    runs (.spiTransaction [0x02, a, b, b0, b1, b2, b3, b4]) s fun t => t.host.spiT.lastErr = false ∧
      (t.path .spi).window =
        Tbl.put (fun _ => (0 : Word)) (s.path .spi).window (beVal [a, b] - 0x100) (w36 (beVal [b0, b1, b2, b3, b4])) ∧
      t.out = s.out ++ [Output.spiBytes (s.spiStatus :: List.replicate 7 0)]) ∧
  (∀ (bytes : List Byte) (s : State), s.domOn 3 = true → fcsRight bytes = true → dmacOf bytes = s.img.baseMac + 2 → typeOf bytes = 0x88B5 →
    beVal (slice bytes 16 2) = 4 → 42 ≤ bytes.length → byteAt bytes 14 = 4 →
    runs (.serviceFrameRx bytes) s fun t => t = s.modPath .service fun q => q.clearBy (serviceWords 4 (bytes.drop 18)))

/-- Start-up: the AO supply rises, straps are sampled, the clock locks, the supply is stable, tests, images, cores, keys, records and locks
follow one another to FORWARDING, and what fails ends in a HALT state (14 R392, R401, R402, R407; 15 R426, R434 to R437; 18 R512 to R517).
-/
def Obligations.StartUpRunsItsStates : Prop :=
  (∀ (bk : Bool) (s : State), s.key.ao = false →
    runs (.aoPowerUp bk) s fun t => t.key.ao = true ∧ t.key.cpd = false ∧ t.tim = {} ∧
      (if bk then t.key.rs = s.key.rs else t.key.rs = none ∧ t.key.bkFlag = true)) ∧
  (∀ (hem : Bool) (mbr dt : Nat) (s : State), s.key.ao = true → s.sys.start = .aoUp →
    runs (.slowOscRunning hem mbr dt) s fun t => t.sys.start = .clockWait ∧ t.sys.hem = hem ∧
      t.sys.member = (if hem then mbr % 4 else 0) ∧
      t.stk.mode = (if hem then if mbr % 4 = 0 then .master else .orphan else .single)) ∧
  (∀ (dt : Nat) (s : State), s.sys.start = .clockWait →
    runs (.tcxoLock dt) s (fun t => t.sys.start = .supplyWait ∧ t.sys.faultN = false) ∧
    (s.sys.faultN = false → runs .clockWaitTimeout s fun t => t.sys.start = .clockWait ∧ t.sys.faultN = true)) ∧
  (∀ (volts dt : Nat) (s : State), s.sys.start = .supplyWait → s.pow.down = false → s.pow.cfg.on < volts →
    runs (.supplyOnStable volts dt) s fun t =>
      t = ((((s.adv dt).supplyTo .normal volts).modKey fun k => { k with cpd := false }).startTo .sequence).runSeq 0) ∧
  (∀ (dt x : Nat) (s : State), s.sys.start = .selftest →
    ((s.coreFit .west || s.coreFit .east) = true → runs (.selftestComplete [] dt) s fun t => t.sys.start = .image) ∧
    (s.has 0 = true → runs (.selftestComplete [(1, 0, x)] dt) s fun t => t.sys.start = .haltSilicon ∧ t.sys.faultN = true)) ∧
  (∀ (dt : Nat) (s : State), s.sys.start = .image →
    runs (.imageVerified dt) s fun t =>
      let c := (s.adv dt).chooseSlot
      if c.2 = 2 ∧ c.1.imageValid 2 = false then t.sys.start = .haltImage ∧ t.sys.faultN = true
      else t.sys.start = .coreBoot ∧ t.img.runSlot = c.2) ∧
  (∀ (w e : Bool) (dt : Nat) (s : State), s.sys.start = .coreBoot →
    ((w && s.coreFit .west) || (e && s.coreFit .east)) = true →
    runs (.measurementReleased w e dt) s fun t => t.sys.start = .keys ∧ t.pair.mode = .single ∧
      (if (w && s.coreFit .west) = true then t.pair.active = .west ∧ (t.core .west).mode = .active ∧
        ((e && s.coreFit .east) = true → (t.core .east).mode = .cold)
      else t.pair.active = .east ∧ (t.core .east).mode = .active)) ∧
  (∀ s : State, s.sys.start = .coreBoot → runs .coreBootTimeout s fun t => t.sys.start = .haltSilicon ∧ t.sys.faultN = true) ∧
  (∀ (dt : Nat) (s : State), s.sys.start = .keys →
    runs (.blobsHandled dt) s fun t => t.sys.start = .config ∧ t.img.next = some (false, 1, 0) ∧ t.locks.reaction = 0 ∧ t.locks.limit = 0) ∧
  (∀ (dt pos idx : Nat) (user : Bool) (s : State), s.sys.start = .config → s.img.next = some (user, pos, idx) →
    runs (.imageRecordExec dt) s fun t =>
      let r := s.img.recAt (if user then s.img.runSlot else 2) pos
      if r.kind = 0x0F then
        if user = true ∨ s.img.runSlot = 2 then t.sys.start = .locks ∧ t.img.next = none else t.img.next = some (true, 1, 0)
      else t.img.next = some (user, pos + r.len + 1, idx + 1)) ∧
  (∀ (dt : Nat) (s : State), s.sys.start = .locks →
    runs (.locksApply dt) s fun t => t.sys.start = .forwarding ∧
      t.locks = match s.img.locksWord with | some w => s.locks.apply w | none => s.locks) ∧
  (∀ s : State, s.sys.start = .haltPower → s.sys.retries < 3 →
    runs .haltPowerRetry s fun t => t.sys.retries = s.sys.retries + 1 ∧ t.sys.faultN = false)

/-- Losses and returns: a reset input and a restored supply reset the device, the AO supply takes everything but BK and the flash, a Cuff
link, a domain or a die is lost, a reload ends, and the cores are rebuilt after a wake (01 R12; 15 R435 to R437; 16 R459, R471, R478; 18
R512, R513, R520, R523). -/
def Obligations.LossesResetsAndReloads : Prop :=
  (∀ (dt : Nat) (s : State), s.key.ao = true →
    runs (.resetNInput dt) s (fun t => t.sys.start = .clockWait ∧ t.sys.lastReset = 1 ∧ t.locks = {} ∧ t.tab = {} ∧ t.zon = {} ∧
      t.img.flash = s.img.flash ∧ t.img.slotA = s.img.slotA ∧ t.img.slotB = s.img.slotB) ∧
    (s.key.cpd = true → runs (.aoSupplyLoss dt) s fun t => t.key.ao = false ∧ t.key.rs = s.key.rs ∧ t.locks = {} ∧ t.tab = {} ∧
      t.img.slotA = s.img.slotA ∧ t.img.slotB = s.img.slotB)) ∧
  (∀ (volts dt : Nat) (s : State), s.pow.down = true → s.pow.cfg.on < volts →
    runs (.supplyRestored volts dt) s fun t => t.sys.start = .clockWait ∧ t.sys.lastReset = 3 ∧ t.locks = {}) ∧
  (∀ (d : Fab) (s : State), s.key.ao = true → inMask s.sys.links (2 + d.bit) = true →
    runs (.cuffLinkLost d) s fun t => inMask t.sys.links (2 + d.bit) = false) ∧
  (∀ (r : SeqRun) (x : SeqStep) (s : State), s.pow.run = some r → (s.pow.steps r.seq)[r.step]? = some x → r.waiting = false →
    2 ≤ x.domain →
    (s.sys.start = .sequence → x.domain = 2 → runs .seqPgTimeout s fun t => t.sys.start = .haltPower ∧ t.sys.faultN = true ∧
      t.pow.run = none) ∧
    (s.sys.start ≠ .sequence → s.sys.reload = none → domDie x.domain = 0 →
      runs .seqPgTimeout s fun t => t.pow.run = none ∧ t.dom x.domain = .failed ∧ t.sys.start = s.sys.start)) ∧
  (∀ (die dt : Nat) (s : State), 1 ≤ die → die ≤ 5 → s.has die = true → s.key.ao = true → s.sys.start ≠ .config →
    runs (.dieLost die dt) s fun t =>
      let s1 := (s.adv dt).logFault 0x11 die die
      t = if s.sys.start = .forwarding then (s1.dieDown die).autoReloads die else s1) ∧
  (∀ (die dt : Nat) (s : State), s.sys.reload = some (die, none) → s.reloaded die = true → s.sys.reloadDue = 0 →
    runs (.dieReloadForwarding 0 dt) s fun t => t.sys.reload = none) ∧
  (∀ (dt : Nat) (s : State), s.pow.rebuild = true → s.pow.mode = .awake → s.has s.pair.active.num = true →
    runs (.coreWakeRebuild true true dt) s fun t => t.pow.rebuild = false ∧ t.pair.active = s.pair.active ∧
      (t.core s.pair.active).mode = .active)

/-- Front ports: a link goes up and down, trains, sleeps, resumes and idles, PLCA beacons and opportunities act on a 10BASE-T1S port, a
cable test ends, and key agreement installs a SAK and sends its MKPDU (05 R126; 09 R242, R243, R245 to R250, R252, R255, R256, R258). -/
def Obligations.FrontPortsFollowTheirLinks : Prop :=
  (∀ (p : Nat) (s : State), p ≤ 25 → (s.port p).mode = .up → kindOfPort p ≠ .multidrop →
    runs (.linkDownDeclared p) s fun t => (t.port p).mode = .training ∧ (t.port p).linkDowns = sat36 (s.port p).linkDowns 1 ∧
      inMask t.tab.linkDown p = true) ∧
  (∀ (p dt : Nat) (s : State), p ≤ 25 → kindOfPort p ≠ .multidrop → (s.port p).pulse = false → (s.port p).usx = false →
    ((s.port p).mode = .training → runs (.pcsLock p dt) s fun t => (t.port p).mode = .up ∧ (t.port p).upAt = (s.adv dt).monoNs) ∧
    ((s.port p).mode = .resuming → runs (.pcsLock p dt) s fun t => (t.port p).mode = .up ∧
      (t.port p).resumeOks = sat36 (s.port p).resumeOks 1)) ∧
  (∀ (p : Nat) (s : State), p ≤ 25 →
    ((kindOfPort p).t1 = true → (s.port p).mode = .training →
      runs (.trainTimeout p) s fun t => (t.port p).trainFails = sat36 (s.port p).trainFails 1 ∧ (t.port p).mode = .training) ∧
    ((s.port p).mode = .sleepWait → runs (.tc10SleepAckRx p) s (fun t => (t.port p).mode = .sleeping) ∧
      runs (.sleepWaitTimeout p) s fun t => (t.port p).mode = .sleeping) ∧
    ((s.port p).mode = .resuming → runs (.resumeDeadline p) s fun t => (t.port p).mode = .training ∧ (t.port p).retainValid = false ∧
      (t.port p).resumeFails = sat36 (s.port p).resumeFails 1) ∧
    runs (.wakePulseEnd p) s (fun t => (t.port p).pulse = false)) ∧
  (∀ (p rate : Nat) (s : State), p = 2 ∨ p = 15 → (s.port p).usx = true → 2 ≤ rate → rate ≤ 5 →
    ((s.port p).mode = .training → runs (.usxgmiiAnWord p true rate) s fun t => (t.port p).mode = .up ∧ (t.port p).usxRate = rate) ∧
    ((s.port p).mode = .up → runs (.usxgmiiAnWord p false rate) s fun t => (t.port p).mode = .training)) ∧
  (∀ (p dt : Nat) (s : State), p ≤ 25 → kindOfPort p = .multiGig ∨ kindOfPort p = .gig →
    ((s.port p).eee = true → (s.port p).mode = .up → (s.port p).lpi = false → s.outIdle (dieOfPort p) (localOf p) = true →
      (s.gate p).scheduled = false → runs (.lpiIdleTimer p) s fun t => (t.port p).lpi = true ∧
        (t.port p).lpiEntries = sat36 (s.port p).lpiEntries 1) ∧
    ((s.port p).lpi = true → (s.port p).lpiWaking = true →
      runs (.lpiWakeComplete p dt) s fun t => (t.port p).lpi = false ∧ (t.port p).lpiWaking = false)) ∧
  (∀ (p : Nat) (s : State), p ≤ 25 → kindOfPort p = .multidrop →
    ((s.port p).mode = .up → (s.port p).coordinator = false →
      runs (.beaconLossTimeout p) s (fun t => (t.port p).mode = .training ∧ (t.port p).beacons = false ∧
        (t.port p).beaconLoss = satN 18 (s.port p).beaconLoss 1) ∧
      runs (.beaconRx p) s fun t => (t.port p).beacons = true) ∧
    ((s.port p).mode = .training → (s.port p).coordinator = false → runs (.beaconRx p) s fun t => (t.port p).mode = .up) ∧
    ((s.port p).mode = .up → (s.port p).coordinator = true →
      runs (.beaconRx p) s (fun t => (t.port p).plcaConflicts = satN 18 (s.port p).plcaConflicts 1) ∧
      runs (.plcaBeaconTx p) s fun t => (t.port p).beacons = true ∧ (t.port p).burstLeft = 0)) ∧
  (∀ (p dt : Nat) (k : Nat × Nat) (collision : Bool) (s : State), p ≤ 25 → kindOfPort p = .multidrop → (s.port p).mode = .up →
    (s.tx (dieOfPort p) (localOf p)).cur = some k → (s.tx (dieOfPort p) (localOf p)).waitPlca = true →
    runs (.plcaTxOpportunity p false collision dt) s fun t => (t.port p).burstLeft = (s.port p).plca.maxBurst ∧
      (t.port p).plcaConflicts = (if collision then satN 18 (s.port p).plcaConflicts 1 else (s.port p).plcaConflicts) ∧
      (t.tx (dieOfPort p) (localOf p)).waitPlca = false ∧ (t.tx (dieOfPort p) (localOf p)).beginQ = (s.adv dt).nowQ) ∧
  (∀ (p sqi fixed lost temp : Nat) (s : State), p ≤ 25 → (kindOfPort p).t1 = true → (s.port p).mode = .up →
    runs (.sqiUpdate p sqi fixed lost temp) s fun t => (t.port p).sqi = min 7 sqi ∧ (t.port p).phyTemp = temp ∧
      (t.port p).fecCorrected = add72 (s.port p).fecCorrected fixed ∧ (t.port p).fecUncorrected = sat36 (s.port p).fecUncorrected lost) ∧
  (∀ (p result distance : Nat) (q : Path) (s : State), p ≤ 25 → kindOfPort p ≠ .multidrop → (s.port p).tester = some q →
    (s.port p).mode = .diag → result ≤ 4 →
    runs (.cableTestDone p result distance) s fun t => (t.port p).tester = none ∧ (t.port p).mode = .training ∧
      (t.port p).retainValid = false) ∧
  (∀ (p an : Nat) (s : State), hasMacsec p = true → an ≤ 3 → (s.port p).secy.enable = true → (s.port p).secy.mka.isSome = true →
    (s.port p).secy.peers ≠ [] → s.coreServes = true → s.keyed = true → s.has (dieOfPort p).num = true →
    runs (.mkaSakInstall p an) s fun t => (t.port p).secy.txSa = some an ∧ (t.port p).secy.nextPn = 1) ∧
  (∀ (p : Nat) (heard : List (Nat × Nat)) (s : State), hasMacsec p = true → (s.port p).secy.enable = true →
    (s.port p).secy.mka.isSome = true → s.coreServes = true → s.keyed = true →
    runs (.mkaHelloTime p heard) s fun t => Output.mkpdu p ∈ t.out ∧ (t.port p).secy.peers =
      ((s.port p).secy.peers.filter fun e => !(heard.any fun h => h.1 == e.id) && decide (s.monoNs - e.heard < 6000000000)) ++
        heard.map fun h => { id := h.1 % 2 ^ 96, prio := h.2 % 256, heard := s.monoNs : MkaPeer })

/-- Sleep and wake: ports are put to sleep and woken, a policy match restarts the sleep timer, the timer leads through PREPARE and the
commit point to sleep, and a wake source cancels, is latched, or wakes the device (09 R242, R250, R251; 16 R472 to R479, R488, R489; 17
R507, R508). -/
def Obligations.SleepAndWakeFollowTheAgreement : Prop :=
  (∀ (p temp : Nat) (s : State), p ≤ 25 →
    ((s.pow.mode = .prepare ∨ s.pow.mode = .committed) → (s.port p).mode = .up →
      runs (.portSleepCmd p) s fun t => (t.port p).mode = if (s.port p).tc10 then .sleepWait else .sleeping) ∧
    ((s.pow.mode = .awake ∨ s.pow.mode = .waking) → (s.port p).mode = .sleepWait →
      runs (.portWakeCmd p temp) s fun t => (t.port p).mode = .up ∧ (t.port p).phyTemp = temp)) ∧
  (∀ (p dt : Nat) (s : State), p ≤ 25 → (kindOfPort p).t1 = true → (s.port p).tc10 = true →
    ((s.port p).mode = .up → runs (.tc10SleepReqRx p) s fun t => t.out = s.out ++ [Output.tc10Answer p (s.pow.mode == .prepare)]) ∧
    ((s.port p).mode = .sleepWait → runs (.tc10WakeReqRx p) s (fun t => (t.port p).mode = .up) ∧
      runs (.wakePulseDetected p dt) s fun t => (t.port p).mode = .up)) ∧
  (∀ (w : WakeIn) (i : Nat) (s : State), i < 64 → (Tbl.get WakePolicy.dflt s.pow.policy i).matches w = true → s.pow.mode = .awake →
    s.follows = false → runs (.wakePolicyMatch w) s fun t => t.pow.timerAt = s.tim.ticks ∧ t.pow.mode = .awake) ∧
  (∀ s : State, s.pow.mode = .awake → s.follows = false → s.pow.wake.sleepEn = true → s.holders = [] →
    runs .sleepTimerExpiry s fun t => t.pow.mode = .prepare) ∧
  (∀ (kind src : Nat) (s : State), s.pow.mode = .prepare → s.follows = false →
    runs (.prepareCancel kind src) s (fun t => t.pow.mode = .awake ∧ t.pow.cancels = sat36 s.pow.cancels 1) ∧
    runs .commitPoint s fun t => t.pow.mode = .committed ∧ t.pow.latch = none) ∧
  (∀ s : State, s.pow.mode = .committed → s.pow.run = none →
    (s.pow.latch = none → runs .sleepSeqComplete s fun t => t.pow.mode = .asleep ∧ t.pow.stbDriven = true ∧ t.pow.sleepAt = s.tim.ticks) ∧
    (s.pow.latch.isSome = true → runs .sleepSeqComplete s fun t => t.pow.mode = .waking ∧ t.pow.lateWakes = sat36 s.pow.lateWakes 1 ∧
      t.pow.latch = none)) ∧
  (∀ (kind src dt input : Nat) (s : State), s.pow.mode = .asleep →
    (kind % 16 ≠ 9 → kind % 16 ≠ 10 → runs (.wakeSource kind src dt) s fun t => t.pow.mode = .waking ∧ t.pow.wakes = sat36 s.pow.wakes 1) ∧
    (input ≤ 1 → inMask s.pow.wake.locEn input = true → runs (.wakeLocInput input dt) s fun t => t.pow.mode = .waking) ∧
    (s.pow.wake.timerS ≠ 0 → runs .sleepWakeTimer s fun t => t.pow.mode = .waking) ∧
    (s.stk.mode ≠ .single → runs .stkWakeInput s fun t => t.pow.mode = .waking)) ∧
  (∀ (kind src dt : Nat) (s : State), s.pow.mode = .committed → s.follows = false → s.pow.latch = none → kind % 16 ≠ 9 →
    runs (.wakeSource kind src dt) s fun t => t.pow.latch = some { kind := kind % 16, src := src % 32 } ∧ t.pow.mode = .committed) ∧
  (∀ s : State, s.pow.mode = .waking → s.pow.run = none →
    runs .wakeSeqComplete s fun t => t.pow.mode = .awake ∧ t.pow.rebuild = true ∧ t.pow.stbDriven = false) ∧
  (∀ (p : Path) (s : State), (Tbl.get noneAt s.pow.holds (hostPaths.idxOf p)).isSome = true →
    runs (.wakeHoldExpiry p) s fun t => Tbl.get noneAt t.pow.holds (hostPaths.idxOf p) = none)

/-- Power: a step of a sequence gives its domain the step's state, pace and supply voltage follow the measurements, feeds start, trip, retry
and come back, ports are shed and restored, and the supply's thresholds are followed (16 R457 to R471; 12 R345). -/
def Obligations.PowerFollowsSequencesAndMeasurements : Prop :=
  (∀ (r : SeqRun) (x : SeqStep) (dt : Nat) (s : State), s.pow.run = some r → (s.pow.steps r.seq)[r.step]? = some x →
    (r.waiting = false → 2 ≤ x.domain → x.waitUs ≠ 0 → runs (.seqStepPowerGood dt) s fun t =>
      t.dom x.domain = x.result ∧ ∃ k, t.pow.run = some { r with waiting := true, since := k }) ∧
    (r.waiting = true → (s.pow.steps r.seq)[r.step + 1]? = none → runs .seqWaitExpiry s fun t => t.pow.run = none)) ∧
  (∀ (d : Fab) (ms : List Nat) (tj : Int) (dt : Nat) (s : State), s.has d.num = true → ms.length = 8 →
    runs (.paceSample d ms tj dt) s (fun t => (t.pow.pace d).measured = min 2047 (ms.foldl min (ms.headD 0)) ∧
      (t.pow.pace d).target = (s.adv dt).paceTarget d tj ∧ (t.pow.pace d).tj = tj) ∧
    runs (.ageingHour d) s fun t => (t.pow.pace d).onHours = sat36 (s.pow.pace d).onHours 1) ∧
  (∀ (d : Fab) (s : State),
    ((s.pow.pace d).belowSince.isSome = true → runs (.paceRiseTimer d) s fun t => (t.pow.pace d).vdd =
      if (s.pow.pace d).vdd < 780 then min 780 ((s.pow.pace d).vdd + (s.pow.pace d).cfg.stepMv) else (s.pow.pace d).vdd) ∧
    ((s.pow.pace d).aboveSince.isSome = true → runs (.paceFallTimer d) s fun t => (t.pow.pace d).vdd =
      if 600 < (s.pow.pace d).vdd then max 600 ((s.pow.pace d).vdd - (s.pow.pace d).cfg.stepMv) else (s.pow.pace d).vdd) ∧
    ((s.pow.pace d).belowSince.isSome = true → (s.pow.pace d).short = false → runs (.paceShortTimer d) s fun t =>
      (t.pow.pace d).short = true ∧ (t.pow.pace d).paceShort = sat36 (s.pow.pace d).paceShort 1)) ∧
  (∀ (pout feeds : List Nat) (ampW ampE dt : Nat) (s : State),
    runs (.powerEstimate pout ampW ampE feeds dt) s fun t => t.pow.estimate =
      min 65535 (((List.range 8).filter fun i => s.pow.cfg.pmbus i ≠ 0).foldl (fun n i => n + pout.getD i 0) 0 +
        (s.pow.west.vdd * ampW + s.pow.east.vdd * ampE) / 10000)) ∧
  (∀ (p : Nat) (s : State), s.pow.overSince.isSome = true →
    ((List.range 26).reverse.find? fun p => inMask s.pow.cfg.shed p && (s.port p).enable && !inMask s.pow.shedPorts p) = some p →
    runs .powerShedTimer s fun t => inMask t.pow.shedPorts p = true ∧ (t.port p).mode = .disabled) ∧
  (∀ (p : Nat) (s : State), s.pow.underSince.isSome = true →
    ((List.range 26).find? fun p => inMask s.pow.shedPorts p) = some p →
    runs .powerRestoreTimer s fun t => inMask t.pow.shedPorts p = false) ∧
  (∀ (f current volts dt : Nat) (s : State), f ≤ 7 →
    (((s.feed f).mode = .inrush ∧ (s.feed f).now.inrushMa < current) ∨ ((s.feed f).mode = .on ∧ (s.feed f).now.limitMa < current) →
      runs (.feedOvercurrentTrip f current dt) s fun t => (t.feed f).mode =
        (if (s.feed f).used < (s.feed f).now.retries then .retryWait else .lockout) ∧ (t.feed f).trips = satN 16 (s.feed f).trips 1 ∧
        (t.feed f).current = 0) ∧
    ((s.feed f).mode = .inrush → runs (.feedInrushEnd f current) s fun t => (t.feed f).mode = .on ∧ (t.feed f).current = min 16383 current) ∧
    ((s.feed f).mode = .retryWait → s.feedsFree = true → runs (.feedRetryExpiry f) s fun t => (t.feed f).mode = .inrush ∧
      (t.feed f).now = (s.feed f).cfg) ∧
    ((s.feed f).mode = .on → runs (.feedRetryRestore f) s fun t => (t.feed f).used = 0 ∧ (t.feed f).mode = .on) ∧
    ((s.feed f).mode = .shed → s.pow.cfg.uv < volts → s.feedsFree = true →
      runs (.feedShedRestore f volts dt) s fun t => (t.feed f).mode = .inrush ∧ (t.feed f).now = (s.feed f).cfg)) ∧
  (∀ (f t0 : Nat) (rest : List Nat) (s : State), s.pow.autoOn = (f :: rest, t0) → s.feedsFree = true → (s.feed f).mode = .off →
    (s.feed f).cfg.valid = true → runs .feedAutoOn s fun t => (t.feed f).mode = .inrush ∧ t.pow.autoOn.1 = rest) ∧
  (∀ (volts dt : Nat) (s : State), s.key.ao = true →
    (s.pow.cfg.ov < volts → runs (.supplyOv volts dt) s fun t => t.pow.supply = .ov ∧ t.pow.volts = min 4095 volts) ∧
    (volts < s.pow.cfg.uv → s.pow.down = false → runs (.supplyUv volts dt) s fun t => t.pow.supply = .uv ∧ t.pow.volts = min 4095 volts) ∧
    (volts < s.pow.cfg.crank → s.pow.down = false →
      runs (.supplyCrank volts dt) s fun t => t.pow.supply = .crank ∧ t.pow.volts = min 4095 volts ∧
        (∀ f, f < 8 → inMask s.pow.cfg.crankShed f = true → (s.feed f).mode = .on → (t.feed f).mode = .shed)) ∧
    (s.pow.cfg.uv ≤ volts → volts ≤ s.pow.cfg.ov → s.pow.down = false →
      runs (.supplyNormal volts dt) s fun t => t.pow.supply = .normal ∧ t.pow.volts = min 4095 volts) ∧
    (volts < s.pow.cfg.off → s.pow.down = false → runs (.controlledPowerDown volts dt) s fun t => t.pow.down = true ∧ t.key.cpd = true ∧
      t.sys.start = .supplyWait ∧ ∀ f, (t.feed f).mode = .off))

/-- Time: a scheduled frequency or step takes effect, a slew ends, PPS edges align or are missed, holdover ends, PPS_OUT pulses, and the
time engine sends and takes the messages of gPTP (08 R209 to R211, R214 to R218, R220 to R223, R225, R226). -/
def Obligations.TimeEngineFollowsItsClockAndMessages : Prop :=
  (∀ (c : FreqChange) (s : State), s.tim.pendFreq = some c →
    runs .freqAdjApply s fun t => t.tim.pendFreq = none ∧ t.tim.base = c.base ∧ (∀ v n, c.slew = some (v, n) → t.tim.slew = v)) ∧
  (∀ (k : Nat) (amt : Int) (s : State), s.tim.pendStep = some (k, amt) →
    runs .timeStepApply s fun t => t.tim.pendStep = none ∧ t.tim.steps = satN 28 s.tim.steps 1 ∧ t.tim.epoch = s.tim.epoch + 1) ∧
  (∀ (k : Nat) (s : State), s.tim.slewEnd = some k → runs .slewEnd s fun t => t.tim.slew = 0 ∧ t.tim.slewEnd = none) ∧
  (∀ (dt : Nat) (s : State), s.tim.cfg.ppsInEn = true → s.isMember = false → s.tim.edgeTick = none → s.tim.aligned = false →
    runs (.ppsEdge dt) s fun t => t.tim.aligned = true ∧ t.tim.mode = .locking ∧ t.tim.ppsAccepts = sat36 s.tim.ppsAccepts 1) ∧
  (∀ (k : Nat) (s : State), s.tim.acceptTick = some k →
    runs .ppsMissing s fun t => t.tim.ppsMisses = sat36 s.tim.ppsMisses 1 ∧ t.tim.acceptTick = none ∧
      (s.tim.mode = .locked → t.tim.mode = .holdover) ∧ (s.tim.mode = .locking → t.tim.mode = .free)) ∧
  (∀ s : State, s.tim.mode = .holdover → runs .holdoverMaxExpiry s fun t => t.tim.mode = .free) ∧
  (∀ s : State, s.tim.on = true → s.tim.pulses = true →
    runs .ppsOutPulse s fun t =>
      let n := if s.nextSec = s.tim.ppsLast then s.nextSec + 1 else s.nextSec
      t.tim.ppsLast = n ∧ t.out = s.out ++ [Output.ppsOut n s.tim.cfg.ppsOutWidth (s.tim.cfg.ppsOutPol == 0)]) ∧
  (∀ (p : Nat) (m : Nat × List Byte) (s : State), (s.gptp p).inbox.find? (fun m => ptpType m.2 == 0) = some m →
    inMask (byteAt m.2 20).toNat 1 = false →
    runs (.syncRx p) s fun t => (t.gptp p).syncRx = sat36 (s.gptp p).syncRx 1 ∧ (t.gptp p).inbox = (s.gptp p).inbox.erase m) ∧
  (∀ (p k : Nat) (s : State), s.tim.slavePort = some p → s.tim.syncHeard = some k →
    runs .syncTimeout s fun t => t.tim.slavePort =
      if (s.port (17 - p)).mode = .up ∧ (s.gptp (17 - p)).delayOk then some (17 - p) else none) ∧
  (∀ (p dt : Nat) (s : State), s.ptpMaster p = true →
    ((s.relaysTime = false ∨ s.tim.relay.isSome = true) → runs (.syncTx p dt) s fun t =>
      (t.gptp p).syncSeq = ((s.gptp p).syncSeq + 1) % 65536) ∧
    (s.tim.cfg.announceEn = true → (s.core s.pair.active).mode = .active → (s.core s.pair.active).halted = false →
      runs (.announceTx p dt) s fun t => (t.gptp p).annSeq = ((s.gptp p).annSeq + 1) % 65536)) ∧
  (∀ (p dt : Nat) (s : State), s.ptpOn p = true →
    ((s.gptp p).followUp.isSome = true → runs (.followUpTx p dt) s fun t => (t.gptp p).followUp = none) ∧
    ((s.gptp p).pdelayStatic = false → runs (.pdelayReqTx p dt) s fun t => (t.gptp p).reqSeq = ((s.gptp p).reqSeq + 1) % 65536)) ∧
  (∀ (p : Nat) (m : Nat × List Byte) (s : State),
    (s.gptp p).inbox.find? (fun m => ptpType m.2 == 2 || ptpType m.2 == 3 || ptpType m.2 == 0xA) = some m →
    runs (.pdelayRx p) s fun t => (t.gptp p).inbox = (s.gptp p).inbox.erase m ∧
      (s.ptpOn p = true → ptpType m.2 = 3 → (s.gptp p).exchange.isSome = true → ptpSeq m.2 = (s.gptp p).reqSeq →
        slice m.2 58 10 = s.portId p → (t.gptp p).resp = some (ptpTime m.2, (m.1 : Int) - 4 * (s.gptp p).rxExtra)))

/-- CAN and LIN channels: a frame or a response is received, a pending frame wins, is sent or expires, errors lead to bus-off and back, a
schedule starts its slots, ends them, sleeps and wakes (08 R229; 10 R265, R266, R269 to R274; 16 R475). -/
def Obligations.CanAndLinChannelsFollowTheirBus : Prop :=
  (∀ (c sof dt : Nat) (f : CanFrame) (s : State), s.canOn c = true → (s.canCh c).busOff = false → canFits (s.canCh c).mode f = true →
    f.xl = false → (s.canCh c).rxq.length < 64 →
    runs (.canFrameRx c f sof false dt) s fun t => ∃ x : CanRx, x.frame = f ∧ (t.canCh c).rxq = (s.canCh c).rxq ++ [x]) ∧
  (∀ (c dt i : Nat) (x : CanTx) (s : State), s.canOn c = true → (s.canCh c).busOff = false → (s.canCh c).listen = false →
    (s.canCh c).sending = none → (∀ y ∈ (s.canCh c).txq, y.origin = .plain) → bestCan 0 (s.canCh c).txq = some (i, x) →
    runs (.canArbWin c dt) s fun t => (t.canCh c).sending = some x ∧ (t.canCh c).txq = (s.canCh c).txq.eraseIdx i) ∧
  (∀ (c dt : Nat) (x : CanTx) (s : State), c ≤ 5 → (s.canCh c).sending = some x → (s.canCh c).offAfter = false →
    runs (.canTxDone c true dt) s (fun t => (t.canCh c).sending = none ∧ (t.canCh c).tec = (s.canCh c).tec - 1 ∧
      Output.canFrame c x.frame ∈ t.out) ∧
    ((s.canCh c).oneShot = false → runs (.canTxDone c false dt) s fun t => (t.canCh c).sending = none ∧
      (t.canCh c).txq = requeue x (s.canCh c).txq)) ∧
  (∀ (c : Nat) (x : CanTx) (s : State), c ≤ 5 → (s.canCh c).txLife ≠ 0 → firstTimed (s.canCh c).txq = some x →
    runs (.canTxExpired c) s fun t => (t.canCh c).txq = (s.canCh c).txq.erase x) ∧
  (∀ (c code add : Nat) (s : State), s.canOn c = true → (s.canCh c).busOff = false → 1 ≤ code → code ≤ 5 →
    ((s.canCh c).tec ≤ 255 → runs (.canBusError c code false add) s fun t => (t.canCh c).lastError = code ∧
      (t.canCh c).rec_ = min 255 ((s.canCh c).rec_ + if add = 0 then 0 else if 8 ≤ add then 8 else 1) ∧ (t.canCh c).busOff = false) ∧
    (248 ≤ (s.canCh c).tec → add ≠ 0 → runs (.canBusError c code true add) s fun t => (t.canCh c).busOff = true ∧
      (t.canCh c).sending = none ∧ (t.canCh c).recovering = (s.canCh c).autoRecover)) ∧
  (∀ (c dt : Nat) (s : State), c ≤ 5 → (s.canCh c).busOff = true → (s.canCh c).recovering = true →
    runs (.canBusOffRecovered c dt) s fun t => (t.canCh c).busOff = false ∧ (t.canCh c).recovering = false ∧ (t.canCh c).tec = 0 ∧
      (t.canCh c).rec_ = 0) ∧
  (∀ (c : Nat) (e : Nat × Nat) (es : List (Nat × Nat)) (s : State), s.linOn c = true → (s.linCh c).commander = true →
    (s.linCh c).stopped = false → (s.linCh c).sleepDue = false → (s.linCh c).slotAt = none → (s.linCh c).written = e :: es →
    ((s.linCh c).ent e.1).dir = 1 →
    runs (.linSlotStart c) s fun t => (t.linCh c).round = e :: es ∧ (t.linCh c).slot = 0 ∧
      (∃ h : LinHdr, h.id = e.1 ∧ (t.linCh c).hdr = some h) ∧ Output.linHeader c e.1 ∈ t.out) ∧
  (∀ (c id dt : Nat) (s : State), s.linOn c = true → (s.linCh c).commander = false → id ≤ 0x3F →
    runs (.linHeaderRx c id false dt) s (fun t => (t.linCh c).lastError = 5 ∧ (t.linCh c).hdr = none) ∧
    (((s.linCh c).ent id).dir = 1 → runs (.linHeaderRx c id true dt) s fun t => ∃ h : LinHdr, h.id = id ∧ (t.linCh c).hdr = some h)) ∧
  (∀ (c check dt : Nat) (data : List Byte) (h : LinHdr) (s : State), s.linOn c = true → (s.linCh c).hdr = some h → h.done = false →
    h.id ≠ 0x3C → data.length = ((s.linCh c).ent h.id).len → check = linCheck ((s.linCh c).ent h.id).enhanced h.id data →
    (s.linCh c).rxq.length < 8 →
    runs (.linResponseRx c data check 0 dt) s fun t => (t.linCh c).hdr = some { h with done := true } ∧
      (t.linCh c).rxq = (s.linCh c).rxq ++ [{ id := h.id, data := data, time := h.time }]) ∧
  (∀ (c : Nat) (h : LinHdr) (s : State), s.linOn c = true → (s.linCh c).commander = true →
    ((s.linCh c).hdr = some h → (s.linCh c).slotAt.isSome = true → h.done = false →
      runs (.linSlotEnd c) s fun t => (t.linCh c).hdr = none ∧ (t.linCh c).lastError = 8) ∧
    ((s.linCh c).sleepDue = true → runs (.linGoToSleep c) s fun t => (t.linCh c).stopped = true ∧ (t.linCh c).sleepDue = false) ∧
    ((s.linCh c).pulseDue = true → runs (.linWakePulse c) s fun t => (t.linCh c).pulseDue = false ∧ (t.linCh c).pulseEnd = some t.tim.ticks ∧
      Output.linWake c ∈ t.out)) ∧
  (∀ (c : Nat) (s : State), s.linOn c = true → (s.linCh c).pulseEnd.isSome = true →
    runs (.linScheduleRestart c) s fun t => (t.linCh c).stopped = false ∧ (t.linCh c).pulseEnd = none ∧ (t.linCh c).slotAt = none)

/-- Serial engines and the gateway: a character ends or goes on with a frame, a message is queued, sent and expires, a transceiver wakes the
device, a time message is due, and the gateway matches, closes a bundle, decodes a frame, and sends and ages periodic slots (08 R229, R230;
10 R265, R276 to R280, R285; 11 R300, R304 to R315). -/
def Obligations.SerialEnginesAndGatewayMoveMessages : Prop :=
  (∀ (c v gap dt : Nat) (stop : Bool) (s : State), s.serOn c = true → (s.serTabOf c).half = false → (s.serCh c).receiving = true →
    runs (.serCharRx c v false stop gap dt) s fun t => (t.serCh c).receiving = false ∧ (t.serCh c).chars = [] ∧ (t.serCh c).lastError = 2) ∧
  (∀ (c dt : Nat) (s : State), s.serOn c = true → (s.serCh c).receiving = true → (s.serTabOf c).icg ≠ 0 →
    runs (.serGapTimeout c false dt) s fun t => (t.serCh c).receiving = false ∧ (t.serCh c).lastError = 4) ∧
  (∀ (c a prio : Nat) (pl : List Nat) (s : State), s.serOn c = true → (s.serTabOf c).accepts pl = true → (s.serCh c).mode = .waiting →
    (s.serCh c).txq = [] →
    runs (.serTxQueue c a pl prio) s fun t => (t.serCh c).txq =
      [{ addr := a % 2 ^ 32, payload := pl, prio := max 1 (min 8 prio), at_ := s.tim.ticks }]) ∧
  (∀ (c dt : Nat) (s : State), s.serOn c = true → (s.serCh c).mode = .waiting →
    runs (.serLineIdle c dt) s fun t => (t.serCh c).mode = .lead ∧ (t.serCh c).attempts = (s.serCh c).attempts + 1) ∧
  (∀ (c dt : Nat) (m : SerTx) (s : State), s.serOn c = true → (s.serCh c).cur = some m → m.origin = .plain →
    ((s.serCh c).mode = .lead → runs (.serDeLeadEnd c dt) s fun t => (t.serCh c).mode = .sending ∧
      (t.serCh c).line = (s.serTabOf c).send m.addr m.payload) ∧
    ((s.serCh c).mode = .lag → (s.serCh c).txq = [] → runs (.serDeLagEnd c dt) s fun t => (t.serCh c).mode = .ready ∧ (t.serCh c).cur = none) ∧
    ((s.serCh c).mode = .waiting → (s.serCh c).txLife ≠ 0 → (s.serCh c).txq = [] →
      runs (.serTxExpired c) s fun t => (t.serCh c).mode = .ready ∧ (t.serCh c).cur = none)) ∧
  (∀ (c v dt : Nat) (rest : List Nat) (s : State), s.serOn c = true → (s.serCh c).mode = .sending → (s.serCh c).line = v :: rest →
    runs (.serCharSent c v dt) s fun t => (t.serCh c).line = rest ∧ (t.serCh c).mode = (if rest.isEmpty then .lag else .sending) ∧
      Output.serChar c v ∈ t.out) ∧
  (∀ (c dt : Nat) (s : State), c ≤ 17 → (Tbl.get WakeBall.dflt s.edge.balls c).en = true → s.pow.mode = .asleep →
    runs (.transceiverWake c dt) s fun t => t.pow.mode = .waking) ∧
  (∀ (c : Nat) (s : State), s.canOn c = true → (s.canCh c).timeEn = true → s.edge.isValid (s.canCh c).timeTable 2 = true →
    s.timeOk = true → (s.canCh c).txq = [] → (s.canCh c).sending = none →
    runs (.timeMsgInstant c) s fun t => ∃ x : CanTx, x.origin = .timeMsg ∧ (t.canCh c).txq = [x]) ∧
  (∀ (c : Nat) (m : GwMsg) (s s1 : State), c ≤ 17 → s.cuffRuns = true → s.rxTake c = some (m, s1) →
    (s1.gw.upMatch c m = none → runs (.gwUplinkMatch c) s fun t =>
      Tbl.get zeroAt t.gw.unmatched c = sat36 (Tbl.get zeroAt s1.gw.unmatched c) 1) ∧
    (∀ (i : Nat) (s2 : State), s1.gw.upMatch c m = some i → s1.entMatch false i = (s2, true) → (s2.upEnt i).fld 1 19 19 = 1 →
      (s2.upEnt i).fld 1 7 7 = 0 → runs (.gwUplinkMatch c) s fun t =>
        let b := (s2.upEnt i).fld 1 18 13
        t = s2.joinBundle b (s2.zon.chanZone c) (m.acf ((s2.upEnt i).fld 1 12 8) ((s2.bundle b).fld 1 27 27 == 1)))) ∧
  (∀ (b : Nat) (s : State), b ≤ 63 → (s.bundle b).acf ≠ [] → s.cuffRuns = true →
    runs (.bundleMaxWait b) s fun t => t = (s.advTick ((s.bundle b).since + ticksUs ((s.bundle b).fld 1 10 0))).closeBundle b) ∧
  (∀ (x : GwIn) (rest : List GwIn) (a : Nat) (m : List Byte) (s : State), s.gw.inbox = x :: rest → s.cuffRuns = true →
    (avtpAt (bodyOf x.bytes) = none → runs .gwFrameDecode s fun t => t.gw.inbox = rest ∧ t.gw.badAvtp = sat36 s.gw.badAvtp 1) ∧
    (avtpAt (bodyOf x.bytes) = some a →
      acfSplit (slice (bodyOf x.bytes) (a + 12) (beVal (slice (bodyOf x.bytes) (a + 1) 2) % 2048))
        (beVal (slice (bodyOf x.bytes) (a + 1) 2) % 2048 / 4 + 1) = ([m], false) →
      a + 12 + beVal (slice (bodyOf x.bytes) (a + 1) 2) % 2048 ≤ (bodyOf x.bytes).length →
      acfHdr (bitsOf (beVal (slice m 0 4)) 31 25) ≤ m.length →
      runs .gwFrameDecode s fun t => t = (s.modGw fun g => { g with inbox := rest }).gwDown x m)) ∧
  (∀ (n : Nat) (d : List Byte) (s : State), n ≤ 255 → (s.perSlot n).chan ≤ 5 → s.canOn (s.perSlot n).chan = true →
    (s.perSlot n).live = some d → (s.canCh (s.perSlot n).chan).txq = [] → (s.canCh (s.perSlot n).chan).sending = none →
    runs (.periodicSlotInstant n) s fun t => ∃ x : CanTx, x.origin = .slot n ∧ (t.canCh (s.perSlot n).chan).txq = [x]) ∧
  (∀ (n : Nat) (s : State), n ≤ 255 → (s.perSlot n).valid = true → (s.perSlot n).data.isSome = true → (s.perSlot n).isStale = false →
    (s.perSlot n).fld 4 35 20 ≠ 0 → s.cuffRuns = true → s.pair.held = false →
    runs (.periodicStale n) s fun t => (t.perSlot n).isStale = true ∧ (t.perSlot n).stale = sat36 (s.perSlot n).stale 1)

/-- The safety cores: votes over the three passes, tripwires, SRAM errors, heartbeats, fault reports, promotion and its gap, the Lining, and
the timers of an update (12 R326 to R348; 14 R409, R414; 15 R442; 18 R518). -/
def Obligations.CoresVoteFailAndSwitchOver : Prop :=
  (∀ (c : Fab) (first parity : Bool) (wa wb wc : List RegWrite) (s : State), s.coreLives c = true → (s.core c).guardStopped = false →
    let rel := if first then ((s.core c).relShift + 0x0A6) % 0x2000 else (s.core c).relShift
    let da := wa.map fun w => w.decode 0 rel
    let db := wb.map fun w => w.decode 1 rel
    let dc := wc.map fun w => w.decode 2 rel
    (parity = true → runs (.guardSegmentEnd c first wa wb wc parity) s fun t =>
      (t.core c).holdParity = sat36 (s.core c).holdParity 1 ∧ (t.core c).segments = (s.core c).segments) ∧
    (parity = false → vote (diffs da db) (diffs da dc) (diffs db dc) = .agreement → runs (.guardSegmentEnd c first wa wb wc parity) s fun t =>
      t.core c = ({ s.core c with relShift := rel, replay := [], segments := add72 (s.core c).segments 1 } : CoreSt).banks da) ∧
    (parity = false → vote (diffs da db) (diffs da dc) (diffs db dc) = .noMajority → runs (.guardSegmentEnd c first wa wb wc parity) s fun t =>
      (t.core c).noMajority = sat36 (s.core c).noMajority 1 ∧ (t.core c).report.isSome = true)) ∧
  (∀ (c : Fab) (x y : Nat × Nat × Nat) (s : State), s.coreLives c = true → (s.core c).guardStopped = false →
    (tripPasses (s.core c).tripPass x = true → runs (.tripwireTimer c x y) s fun t =>
      (t.core c).tripwireRuns = add72 (s.core c).tripwireRuns 1 ∧ (t.core c).tripPass = ((s.core c).tripPass + 1) % 3 ∧
      (t.core c).tripwireMisses = (s.core c).tripwireMisses) ∧
    (tripPasses (s.core c).tripPass x = false → tripPasses (((s.core c).tripPass + 1) % 3) y = false →
      runs (.tripwireTimer c x y) s fun t => (t.core c).guardStopped = true ∧ (t.core c).report.isSome = true)) ∧
  (∀ (c : Fab) (s : State), s.coreLives c = true →
    runs (.sramEccError c .corrected) s (fun t => (t.core c).sramCorrected = sat36 (s.core c).sramCorrected 1) ∧
    runs (.sramEccError c .plain) s (fun t => (t.core c).stopped = true ∧ (t.core c).report.isSome = true) ∧
    ((s.core c).halted = false → runs (.heartbeatTx c) s fun t => (t.core c).hbSeq = (s.core c).hbSeq + 1 ∧
      (t.core c).hbTime = some s.monoNs)) ∧
  (∀ s : State, s.sys.start = .forwarding → s.pair.promoting = none → s.pair.mode ≠ .gap → s.pair.mode ≠ .restart →
    (s.core s.pair.active).mode ≠ .off → (s.core s.pair.active).mode ≠ .failed → (s.core s.pair.active).attached = false →
    ((s.core s.pair.active).hbTime.isSome = true →
      runs (.heartbeatLoss s.pair.active) s fun t => t.pair.promoting = some 1 ∧ (t.core s.pair.active).lastFault = 1 ∧
        (t.core s.pair.active).hbTime = none) ∧
    (∀ k, (s.core s.pair.active).report = some k → runs (.coreFaultReport s.pair.active) s fun t =>
      t.pair.promoting = some (if k then 4 else 3) ∧ (t.core s.pair.active).report = none)) ∧
  (∀ (c : Fab) (dt : Nat) (s : State), s.dom (coreDom c) = .on → runs (.coreDomainLost c dt) s fun t => t.dom (coreDom c) = .failed) ∧
  (∀ (dt cause : Nat) (s : State), s.pair.promoting = some cause → s.pair.held = false → s.pair.mode ≠ .single →
    runs (.gapStart dt) s fun t => t.pair.mode = .gap ∧ t.pair.held = true ∧ t.pair.lastCause = cause ∧
      t.pair.switchovers = sat36 s.pair.switchovers 1) ∧
  (∀ (dt : Nat) (s : State), s.pair.held = true →
    (s.pair.mode = .gap → s.pair.owned = false → runs (.standbyLiningApplied dt) s fun t => t.pair.owned = true) ∧
    (s.pair.mode = .gap → s.pair.owned = true → runs (.gapEnd dt) s fun t => t.pair.active = s.pair.active.other ∧
      t.pair.mode = .single ∧ t.pair.held = false ∧ t.pair.promoting = none ∧ (t.core s.pair.active.other).mode = .active) ∧
    (s.pair.mode = .restart → (s.core s.pair.active).mode = .cold → runs (.restartCaughtUp dt) s fun t =>
      t.pair.active = s.pair.active ∧ t.pair.mode = .single ∧ t.pair.held = false ∧ (t.core s.pair.active).mode = .active)) ∧
  (∀ (e : List Word × Fab × Nat × Nat) (s : State), s.pair.sent.find? (fun x => x.1 == e.1) = some e →
    (s.core s.standby).mode = .warm → 3 ≤ fld (e.1.headD 0) 35 28 → fld (e.1.headD 0) 35 28 ≤ 7 →
    fld (e.1.headD 0) 27 16 = s.pair.rxSeq →
    runs (.liningRecordRx e.1) s fun t => t.pair.sent = s.pair.sent.erase e ∧ t.pair.rxSeq = (s.pair.rxSeq + 1) % 4096 ∧
      Tbl.get nilAt t.pair.copy (fld (e.1.headD 0) 35 28) = e.1.drop 1) ∧
  (∀ s : State, (s.core s.pair.active).mode = .active → s.pair.held = false →
    runs .liningAuditTimer s fun t =>
      t = [3, 4, 5, 6, 7].foldl (fun s k => s.journal 10 [w36 k, w36 (crc32c (encode5 ((s.mirror k).take 255)))]) s) ∧
  (∀ s : State, s.pair.held = false →
    (s.pair.mustCatchUp = true → runs .catchupComplete s fun t => t.pair.mustCatchUp = false) ∧
    (s.pair.mustCatchUp = false → (s.core s.standby).mode = .catchingUp → s.pair.snapDone = true → s.pair.sent = [] →
      s.sys.start = .forwarding → runs .catchupComplete s fun t => (t.core s.standby).mode = .warm ∧
        (s.pair.mode = .single ∨ s.pair.mode = .degraded → t.pair.mode = .normal))) ∧
  (∀ s : State,
    (s.img.mode = .handover → runs .handoverTimeout s fun t => t.img.mode = .idle ∧ t.img.lastFallback = 5) ∧
    (s.img.mode = .trial → s.pair.promoting = none → s.pair.held = false → runs .trialTimeout s fun t =>
      t.img.mode = .fallback ∧ t.img.lastFallback = 2 ∧ t.pair.promoting = some 6) ∧
    (s.key.session.isSome = true → runs .depotSessionTimeout s fun t => t.key.session = none)) ∧
  (∀ (c : Fab) (verify : Bool) (s : State), (s.core c).mode = .cold ∨ (s.core c).mode = .catchingUp → s.pair.mode ≠ .gap →
    s.img.mode ≠ .handover →
    runs (.coreRestartFailed c verify) s fun t => (t.core c).mode = if verify then .off else .failed)

/-- Image store, tamper sources and key timers: an erase empties its slot, an alarm is logged and zeroizes as its source says, and the
cipher lock, the nonce and the lock-out of KEY.OPEN end (14 R412; 15 R435 to R438, R442, R446, R453). -/
def Obligations.StoreAndKeyTimersEnd : Prop :=
  (∀ (dt : Nat) (s : State), s.img.mode = .erasing →
    runs (.imgEraseComplete dt) s fun t => t.img.mode = .loading ∧ (if s.img.target = 0 then t.img.slotA = [] else t.img.slotB = [])) ∧
  (∀ (source dt : Nat) (during : Option Path) (s : State), 1 ≤ source → source ≤ 7 → (s.key.ao = true ∨ source ≤ 4) →
    ¬ (source = 5 ∧ s.key.cpd = true) →
    runs (.tamperAlarm source during dt) s fun t => t.key.ttotal = sat36 s.key.ttotal 1 ∧ t.key.lock = none ∧
      ((Tbl.get TamperCfg.dflt s.key.tamper source).action ≠ 0 → t.key.rs = none)) ∧
  (∀ s : State,
    (s.key.lock.isSome = true → runs .cipherLockIdle s fun t => t.key.lock = none) ∧
    (s.key.nonce.isSome = true → runs .nonceExpiry s fun t => t.key.nonce = none) ∧
    (s.key.lockout.isSome = true → runs .openLockoutEnd s fun t => t.key.lockout = none ∧ t.key.fails = []))

/-- The stack: HELLO messages are sent and heard, members follow their master through sleep, and the bridge serves, answers, backs off,
times out and locks a register bus (16 R474; 17 R498, R500 to R504, R507, R510). -/
def Obligations.StackMembersTalkAndBridge : Prop :=
  (∀ s : State, s.stk.mode ≠ .single →
    runs .helloTx s fun t => t = (s.advTick ((s.tim.ticks / ticksMs 1 + 1) * ticksMs 1)).stackSend 1 false) ∧
  (∀ (p x : Nat) (bytes : List Byte) (s s0 : State), s.takeMsg p 2 1 = some (s0, x, bytes) →
    let h := helloOf bytes s.tim.ticks
    (h.member ≠ s.sys.member → s.stk.mode = .master → runs (.stackHelloRx p) s fun t =>
      (Tbl.get HemCtr.dflt t.stk.hems p).hello = some h ∧ Tbl.get noneAt t.stk.heard h.member = some s.tim.ticks ∧ t.stk.mode = .master) ∧
    (h.member ≠ s.sys.member → s.stk.mode = .orphan → h.reaches = true →
      runs (.stackHelloRx p) s fun t => t.stk.mode = .member ∧ t.stk.master = h.master) ∧
    (h.member = s.sys.member → s.stk.mode ≠ .single → runs (.stackHelloRx p) s fun t => t.stk.mode = .conflict)) ∧
  (∀ (p x : Nat) (bytes : List Byte) (s s0 : State),
    (s.takeMsg p 2 2 = some (s0, x, bytes) → s0.isMaster = true → s0.pow.mode = .awake →
      runs (.stackMatchRx p) s fun t => t.pow.timerAt = s.tim.ticks ∧ t.pow.mode = .awake) ∧
    (s.takeMsg p 2 3 = some (s0, x, bytes) → s0.fromMaster bytes = true → s0.pow.mode = .awake →
      runs (.stackPrepareRx p) s fun t => t.pow.mode = .prepare) ∧
    (s.takeMsg p 2 4 = some (s0, x, bytes) → s0.fromMaster bytes = true → s0.pow.mode = .prepare →
      runs (.stackCancelRx p) s fun t => t.pow.mode = .awake ∧ t.pow.cancels = sat36 s.pow.cancels 1) ∧
    (s.takeMsg p 2 5 = some (s0, x, bytes) → s0.fromMaster bytes = true → s0.pow.mode = .prepare →
      runs (.stackCommitRx p) s fun t => t.pow.mode = .committed)) ∧
  (∀ s : State, s.stk.mode = .member → runs .masterLost s fun t => t.stk.mode = .orphan ∧ t.tim.slavePort = none) ∧
  (∀ (p : Nat) (b : BridgeIn) (s s0 : State), s0.conflicts b = none → s0.badAddrs b = [] → isRelay b.addr = false →
    (s.takeRequest p 1 = some (s0, b) →
      runs (.bridgeWriteRx p) s fun t => t = (s0.intWrites b.addr b.data).answer b 5 0 []) ∧
    (s.takeRequest p 2 = some (s0, b) → runs (.bridgeReadRx p) s fun t =>
      t = (s0.intReads b.addr b.count).1.answer b 6 0 (s0.intReads b.addr b.count).2) ∧
    (s.takeRequest p 3 = some (s0, b) → runs (.bridgeLockReadRx p) s fun t =>
      Tbl.get noneAt t.stk.locks (addrDie b.addr) = some (p, b.src, b.addr, s0.tim.ticks)) ∧
    (∀ k, s.takeUnlock p = some (s0, b) → s0.busLock b.addr = some (p, b.src, b.addr, k) →
      runs (.bridgeUnlockWriteRx p) s fun t => Tbl.get noneAt t.stk.locks (addrDie b.addr) = none)) ∧
  (∀ (p x : Nat) (bytes : List Byte) (q : BridgeReq) (s s0 : State),
    let w := msgWord bytes 0
    fld w 19 16 ≠ 2 →
    (s.takeMsg p 1 5 = some (s0, x, bytes) →
      s0.stk.reqs.find? (fun q => q.tag == fld w 31 26 && q.port == p && [1, 4].contains q.burst.op && q.backoff.isNone) = some q →
      runs (.bridgeWackRx p) s fun t =>
        t = s0.reqDone q (fld w 19 16 == 0) ((List.range q.burst.count).map fun i => msgWord bytes (i + 2))) ∧
    (s.takeMsg p 1 6 = some (s0, x, bytes) →
      s0.stk.reqs.find? (fun q => q.tag == fld w 31 26 && q.port == p && [2, 3].contains q.burst.op && q.backoff.isNone) = some q →
      runs (.bridgeRdataRx p) s fun t =>
        t = s0.reqDone q (fld w 19 16 == 0) ((List.range q.burst.count).map fun i => msgWord bytes (i + 2)))) ∧
  (∀ (q : BridgeReq) (s : State),
    (s.stk.reqs.find? (fun q => q.backoff.isSome) = some q → runs .bridgeBackoffExpiry s fun t =>
      ∃ x ∈ t.stk.reqs, x.tag = q.tag ∧ x.burst = q.burst ∧ x.backoff = none) ∧
    (s.stk.reqs.find? (fun q => q.backoff.isNone) = some q → runs .bridgeTimeout s fun t => t.stk.timeouts = sat36 s.stk.timeouts 1)) ∧
  (∀ (die : Nat) (s : State), (Tbl.get noneAt s.stk.locks die).isSome = true →
    runs (.bridgeLockExpiry die) s fun t => Tbl.get noneAt t.stk.locks die = none) ∧
  (∀ (path : Path) (j : Job) (s : State), s.stk.jobs.find? (fun j => j.path == path && j.mode != .diag) = some j →
    runs (.relayTimeout path) s fun t => t.stk.jobs = s.stk.jobs.filter fun x => x.path ≠ path)

/-- A step takes the command at the front of the queue and is its `exec` with the queue's rest. -/
def Obligations.StepRunsTheFrontCommand : Prop :=
  ∀ (c : Instr) (rest : List Instr) (s : State), step { s with pending := c :: rest } = exec c { s with pending := rest }

/-- With no command waiting, a step lets one tick of 312.5 MHz pass: the clock moves and nothing else does. The model's choice (log 1). -/
def Obligations.EmptyQueueLetsOneTickPass : Prop :=
  ∀ s : State, s.pending = [] → ∃ t, step s = .next t ∧ t.tim.ticks = s.tim.ticks + 1 ∧ t = { s with tim := t.tim }

/-- What the spec gives for reset: start-up at its first state, no lock bit and no limit, paths whose FIFOs are empty and whose event
registers are clear and masked, rings disabled, no seal, a clock that is UNSET, tables of generation 0, links down, domains off, empty key
slots (05 R131; 08 R208; 13 R364, R365, R372, R373, R378; 18 R512). -/
def Obligations.ResetHoldsTheSpecsValues : Prop :=
  State.reset.pending = [] ∧ State.reset.sys.start = .aoUp ∧
    State.reset.locks = { policy := false, sealLock := false, key := false, power := false, reaction := 0, limit := 0 } ∧
    (∀ p, p ∈ hostPaths →
      let q := State.reset.path p
      q.reqFree = true ∧ q.waiting = [] ∧ q.running = none ∧ q.fifo = [] ∧ q.held = [] ∧ q.popcnt = 0 ∧ q.level = 0 ∧ q.lateLog = [] ∧
        q.lateTotal = 0 ∧ q.posted = none ∧ ∀ n, (q.ev n).raised = [] ∧ (q.ev n).mask = 0 ∧ (q.ev n).seq = 0) ∧
    (∀ p i, (Tbl.get Ring.dflt (State.reset.path p).tx i).enable = false ∧ (Tbl.get Ring.dflt (State.reset.path p).rx i).enable = false) ∧
    State.reset.sealSt.valid = 0 ∧ State.reset.sealSt.mismatch = 0 ∧ State.reset.sealSt.passSeq = 0 ∧
    State.reset.tim.mode = .unset ∧ State.reset.tab.gen = 0 ∧ State.reset.tab.fgen = 0 ∧ (∀ j, j ≠ 0 → (State.reset.tab.fwdEnt j).valid = false) ∧
    (∀ d, 2 ≤ d → State.reset.dom d = .off) ∧ ∀ h, (State.reset.slot h).valid = false

/-- No command stops: every one answers a next state, from every state, and leaves the commands that wait behind it. -/
def Obligations.EveryCommandAnswersAndLeavesTheQueue : Prop :=
  ∀ (i : Instr) (s : State), ∃ t, exec i s = .next t ∧ t.pending = s.pending

/-- A lock bit that is set stays set under every step, but for a reset of the device and the loss of its always-on supply (13 R366, R382,
R402). -/
def Obligations.SetLockBitsStayUntilAReset : Prop :=
  ∀ s t : State, step s = .next t → (∀ c rest, s.pending = c :: rest → resetsDevice c = false) → s.locks.holds t.locks

/-- Verifier slots are one-time-programmable: no step clears VALID or REVOKED of a slot, a reset of the device and the loss of its supply
included (15 R424). -/
def Obligations.VerifierBitsAreNeverCleared : Prop :=
  ∀ (s t : State) (v : Nat), step s = .next t →
    (inMask s.key.vValid v = true → inMask t.key.vValid v = true) ∧ (inMask s.key.vRevoked v = true → inMask t.key.vRevoked v = true)

/-- What mailbox commands leave, whatever the request and whatever it meets: a command changes the slice of its own function and, by taking
a request of a depot session, that session's instant; every other slice stays. -/
def Obligations.MailboxCommandsLeaveTheOtherSlices : Prop :=
  (∀ c, c ∈ ([
      .ruleEntryRead, .ruleStatusRead, .rulePortRead, .ruleRangeRead, .ruleGroupRead, .zoneMapRead, .zonePolicyRead, .zoneGwRead,
      .meterRead, .meterFilterRead, .fwdEntryRead, .fwdStatusRead, .fwdPortRead, .frerFuncRead, .gclRead, .gclStatusRead, .gclCheck,
      .shaperQueueRead, .poolLimitWrite, .poolLevelWrite, .poolConfigRead, .poolStatsRead, .poolErrlogRead, .poolCellRead,
      .pathOutputRead, .pathMirrorRead, .timeRead, .timeConfigRead, .maintStatusRead, .maintExclWrite, .edgeConfigRead, .portConfigRead,
      .portPlcaRead, .gwRead, .coreStatusRead, .coreSwitch, .coreGuardWrite, .coreGuardRead, .coreStatsRead, .keyStatusRead,
      .keyInfoRead, .cipherStatusRead, .hostEcho, .hostVersionRead, .hostLateLogRead, .hostRingStatsRead, .sealCommit, .sealStatusRead,
      .powerRead, .paceRead, .wakeRead, .imgStatusRead, .imgReportRead, .faultStatusRead, .faultLogRead] : List (Req → Instr)) →
    leaves c fun x y => Slices.session x y) ∧
  (∀ c, c ∈ ([
      .keyTamperWrite, .keyTamperRead, .keyVerifierWrite, .cipherLock, .cipherBlock, .cipherUnlock] : List (Req → Instr)) →
    leaves c fun x y => { x with key := y.key }) ∧
  (∀ c, c ∈ ([
      .edgeCanWrite, .edgeCanRecover, .edgeLinWrite, .edgeLinTableWrite, .edgeSerWrite, .edgeTableLoad, .edgeWakeWrite, .edgeStatusRead] : List (Req → Instr)) →
    leaves c fun x y => { Slices.session x y with edge := y.edge }) ∧
  (∀ c, c ∈ ([
      .gclConfigWrite, .gclListWrite, .gclPatternWrite, .gclCommit, .gclCancel, .shaperQueueWrite, .shaperPreemptWrite, .shaperMmWrite,
      .shaperMmRead] : List (Req → Instr)) →
    leaves c fun x y => { Slices.session x y with egr := y.egr }) ∧
  (∀ c, c ∈ ([
      .coreSelftest, .coreDebug] : List (Req → Instr)) →
    leaves c fun x y => { Slices.session x y with free := y.free }) ∧
  (∀ c, c ∈ ([
      .keySession] : List (Req → Instr)) →
    leaves c fun x y => { x with key := y.key, free := y.free }) ∧
  (∀ c, c ∈ ([
      .gwUpWrite, .gwPeriodicWrite, .gwPeriodicData, .gwStatsRead] : List (Req → Instr)) →
    leaves c fun x y => { Slices.session x y with gw := y.gw }) ∧
  (∀ c, c ∈ ([
      .portStatusRead, .macsecPortWrite, .macsecMkaWrite, .macsecStatusRead] : List (Req → Instr)) →
    leaves c fun x y => { Slices.session x y with ports := y.ports }) ∧
  (∀ c, c ∈ ([
      .powerStatusRead, .powerSeqLoad, .powerConfigWrite, .powerLoadConfig, .powerLoadSet, .paceCurveLoad, .paceConfigWrite,
      .paceStatusRead, .wakePolicyWrite, .wakeConfigWrite, .wakeStatusRead, .wakeLogRead] : List (Req → Instr)) →
    leaves c fun x y => { Slices.session x y with pow := y.pow }) ∧
  (∀ c, c ∈ ([
      .stackStatusRead] : List (Req → Instr)) →
    leaves c fun x y => { Slices.session x y with stk := y.stk }) ∧
  (∀ c, c ∈ ([
      .ruleProgramLoad, .ruleRangeWrite, .ruleEntryWrite, .ruleGroupWrite, .ruleCommit, .ruleFragWrite, .zonePolicyWrite, .fwdEntryWrite,
      .fwdCommit, .fwdPortWrite, .fwdLearnWrite, .fwdLearnFlush] : List (Req → Instr)) →
    leaves c fun x y => { Slices.session x y with tab := y.tab }) ∧
  (∀ c, c ∈ ([
      .timeSet, .timeAdjust, .timeConfigWrite, .timePpsRead] : List (Req → Instr)) →
    leaves c fun x y => { Slices.session x y with tim := y.tim }) ∧
  (∀ c, c ∈ ([
      .zoneMapWrite] : List (Req → Instr)) →
    leaves c fun x y => { Slices.session x y with zon := y.zon }) ∧
  (∀ c, c ∈ ([
      .portPlcaWrite] : List (Req → Instr)) →
    leaves c fun x y => { Slices.session x y with egr := y.egr, ports := y.ports }) ∧
  (∀ c, c ∈ ([
      .zoneStatsRead, .meterStatsRead, .meterUnblock, .frerReset, .qstatQueueRead, .qstatSamplerWrite, .qstatSamplerRead,
      .pathOutputWrite, .pathMirrorWrite] : List (Req → Instr)) →
    leaves c fun x y => { Slices.session x y with fabE := y.fabE, fabW := y.fabW }) ∧
  (∀ c, c ∈ ([
      .gwDownWrite] : List (Req → Instr)) →
    leaves c fun x y => { Slices.session x y with gw := y.gw, zon := y.zon }) ∧
  (∀ c, c ∈ ([
      .rulePortWrite] : List (Req → Instr)) →
    leaves c fun x y => { Slices.session x y with ports := y.ports, tab := y.tab }) ∧
  (∀ c, c ∈ ([
      .timePortWrite, .timePortRead] : List (Req → Instr)) →
    leaves c fun x y => { Slices.session x y with ports := y.ports, tim := y.tim }) ∧
  (∀ c, c ∈ ([
      .faultLinkEnable] : List (Req → Instr)) →
    leaves c fun x y => { Slices.session x y with fabE := y.fabE, fabW := y.fabW, free := y.free }) ∧
  (∀ c, c ∈ ([
      .gwBundleWrite] : List (Req → Instr)) →
    leaves c fun x y => { Slices.session x y with fabE := y.fabE, fabW := y.fabW, gw := y.gw }) ∧
  (∀ c, c ∈ ([
      .fwdStatsRead, .frerFuncWrite] : List (Req → Instr)) →
    leaves c fun x y => { Slices.session x y with fabE := y.fabE, fabW := y.fabW, tab := y.tab }) ∧
  (∀ c, c ∈ ([
      .meterWrite, .meterFilterWrite] : List (Req → Instr)) →
    leaves c fun x y => { Slices.session x y with fabE := y.fabE, fabW := y.fabW, zon := y.zon }) ∧
  (∀ c, c ∈ ([
      .stackDesignate] : List (Req → Instr)) →
    leaves c fun x y => { Slices.session x y with pow := y.pow, stk := y.stk, tim := y.tim }) ∧
  (∀ c, c ∈ ([
      .keyImport, .keyDerive, .keyDelete] : List (Req → Instr)) →
    leaves c fun x y => { x with key := y.key, img := y.img }) ∧
  (∀ c, c ∈ ([
      .imgBegin, .imgWrite, .imgPrepare, .imgRollback] : List (Req → Instr)) →
    leaves c fun x y => { Slices.session x y with img := y.img }) ∧
  (∀ c, c ∈ ([
      .keyProvision, .keyGenerate] : List (Req → Instr)) →
    leaves c fun x y => { x with key := y.key, free := y.free, img := y.img })

/-- What events leave: those of the frame path, the links and the clock leave lock bits, images, power, keys and legacy channels; those of
the legacy channels and the gateway leave lock bits, tables, zones, gates, ports, images and keys; those of pace, feeds and supply change
nothing but power and the clock; and the quiet ones change no slice. -/
def Obligations.EventsLeaveTheOtherAreas : Prop :=
  ∀ (i : Instr) (s t : State), exec i s = .next t → (areaOf i).stays s t

/-- While a lock bit is set, the commands that the chapters name for it answer LOCKED and change nothing: POLICY, POWER, SEAL, and KEY,
which spares the depot session (13 R366; 15 R443). -/
def Obligations.LockedCommandsAnswerLocked : Prop :=
  (∀ c, c ∈ ([
      (0x401, .rulePortWrite, rulePortWrite), (0x402, .ruleProgramLoad, ruleProgramLoad), (0x403, .ruleRangeWrite, ruleRangeWrite),
      (0x404, .ruleEntryWrite, ruleEntryWrite), (0x406, .ruleGroupWrite, ruleGroupWrite), (0x407, .ruleCommit, ruleCommit),
      (0x409, .ruleFragWrite, ruleFragWrite), (0x701, .zoneMapWrite, zoneMapWrite), (0x703, .zonePolicyWrite, zonePolicyWrite),
      (0x801, .meterWrite, meterWrite), (0x803, .meterFilterWrite, meterFilterWrite), (0x501, .fwdEntryWrite, fwdEntryWrite),
      (0x503, .fwdCommit, fwdCommit), (0x505, .fwdPortWrite, fwdPortWrite), (0x507, .fwdLearnWrite, fwdLearnWrite),
      (0x508, .fwdLearnFlush, fwdLearnFlush), (0x601, .frerFuncWrite, frerFuncWrite), (0x603, .frerReset, frerResetCmd),
      (0x901, .gclConfigWrite, gclConfigWrite), (0x902, .gclListWrite, gclListWrite), (0x903, .gclPatternWrite, gclPatternWrite),
      (0x904, .gclCommit, gclCommit), (0x905, .gclCancel, gclCancel), (0xA01, .shaperQueueWrite, shaperQueueWrite),
      (0xA03, .shaperPreemptWrite, shaperPreemptWrite), (0xA04, .shaperMmWrite, shaperMmWrite), (0x301, .poolLimitWrite, poolLimitWrite),
      (0x203, .pathMirrorWrite, pathMirrorWrite), (0xC02, .timeSet, timeSet), (0xC03, .timeAdjust, timeAdjust),
      (0xC04, .timeConfigWrite, timeConfigWrite), (0xC06, .timePortWrite, timePortWrite), (0x052, .maintExclWrite, maintExclWrite),
      (0xF01, .edgeCanWrite, edgeCanWrite), (0xF02, .edgeLinWrite, edgeLinWrite), (0xF03, .edgeLinTableWrite, edgeLinTableWrite),
      (0xF04, .edgeSerWrite, edgeSerWrite), (0xF05, .edgeTableLoad, edgeTableLoad), (0xF06, .edgeWakeWrite, edgeWakeWrite),
      (0xD01, .portConfigWrite, portConfigWrite), (0xD02, .portPlcaWrite, portPlcaWrite), (0xD06, .portCableTest, portCableTest),
      (0x101, .gwBundleWrite, gwBundleWrite), (0x102, .gwUpWrite, gwUpWrite), (0x103, .gwDownWrite, gwDownWrite),
      (0x104, .gwPeriodicWrite, gwPeriodicWrite), (0x043, .coreGuardWrite, coreGuardWrite), (0x0F1, .wakePolicyWrite, wakePolicyWrite),
      (0x0F2, .wakeConfigWrite, wakeConfigWrite)] : List (Nat × (Req → Instr) × CmdSpec)) →
    turned c.1 c.2.1 c.2.2 (fun _ s => s.locks.policy = true) .locked) ∧
  (∀ c, c ∈ ([
      (0xE01, .macsecPortWrite, macsecPortWrite), (0xE02, .macsecMkaWrite, macsecMkaWrite)] : List (Nat × (Req → Instr) × CmdSpec)) →
    turned c.1 c.2.1 c.2.2 (fun _ s => s.locks.key = true) .locked) ∧
  (∀ c, c ∈ ([
      (0x0A3, .keyGenerate, keyGenerate), (0x0A4, .keyImport, keyImport), (0x0A5, .keyDerive, keyDerive), (0x0A6, .keyDelete, keyDelete),
      (0x0A8, .keyTamperWrite, keyTamperWrite)] : List (Nat × (Req → Instr) × CmdSpec)) →
    turned c.1 c.2.1 c.2.2 (fun r s => s.locks.key = true ∧ s.inSession r = false) .locked) ∧
  (∀ c, c ∈ ([
      (0x011, .sealCommit, sealCommit)] : List (Nat × (Req → Instr) × CmdSpec)) →
    turned c.1 c.2.1 c.2.2 (fun _ s => s.locks.sealLock = true) .locked) ∧
  (∀ c, c ∈ ([
      (0x0D2, .powerSeqLoad, powerSeqLoad), (0x0D3, .powerConfigWrite, powerConfigWrite), (0x0D4, .powerLoadConfig, powerLoadConfig),
      (0x0E1, .paceCurveLoad, paceCurveLoad), (0x0E2, .paceConfigWrite, paceConfigWrite)] : List (Nat × (Req → Instr) × CmdSpec)) →
    turned c.1 c.2.1 c.2.2 (fun _ s => s.locks.power = true) .locked)

/-- The supply's thresholds: above OV, below UV and below CRANK each raise SUPPLY on every path and make an entry of the fault log, and
below CRANK the CRANK_SHED feeds that are in INRUSH or ON go to SHED (16 R466, R468 to R470). The entry is the newest of the log; its DETAIL
is the model's reading. -/
def Obligations.SupplyThresholdsRaiseSupply : Prop :=
  ∀ (volts dt : Nat) (s : State), s.key.ao = true →
    let told (t : State) : Prop := (∀ p, p ∈ hostPaths → ((t.path p).evDev.lf DevFlag.supply.bit).isSome = true) ∧
      ∃ e, t.sys.log.getLast? = some e ∧ e.code = 0x12
    (s.pow.cfg.ov < volts → runs (.supplyOv volts dt) s told) ∧
    (volts < s.pow.cfg.uv → s.pow.down = false → runs (.supplyUv volts dt) s told) ∧
    (volts < s.pow.cfg.crank → s.pow.down = false → runs (.supplyCrank volts dt) s fun t => told t ∧
      ∀ f, f < 8 → inMask s.pow.cfg.crankShed f = true → ((s.feed f).mode = .inrush ∨ (s.feed f).mode = .on) → (t.feed f).mode = .shed)

/-- A slot whose payload has not been written for FRESH_MS becomes stale: STALE is counted once, GW_STALE is raised on every path, STALE_ACT
0 goes on with the last payload, and STALE_ACT 1 has none until the next write (11 R313). -/
def Obligations.StaleSlotsAreCountedAndStopOrGoOn : Prop :=
  ∀ (n : Nat) (s : State), n ≤ 255 → (s.perSlot n).valid = true → (s.perSlot n).data.isSome = true → (s.perSlot n).isStale = false →
    (s.perSlot n).fld 4 35 20 ≠ 0 → s.cuffRuns = true → s.pair.held = false →
    runs (.periodicStale n) s fun t =>
      (t.perSlot n).isStale = true ∧ (t.perSlot n).stale = sat36 (s.perSlot n).stale 1 ∧
        (∀ p, p ∈ hostPaths → ((t.path p).evDev.lf DevFlag.gwStale.bit).isSome = true) ∧
        ((s.perSlot n).fld 1 10 9 = 0 → (t.perSlot n).live = (s.perSlot n).data) ∧
        ((s.perSlot n).fld 1 10 9 = 1 → (t.perSlot n).live = none ∧ ∀ data, ((t.slotWrite n data).perSlot n).live = some data) ∧
        runs (.periodicStale n) t fun u => u = t

/-- A shortage of pace: P_m below P_t for more than 100 µs, or below 454 with the voltage at 780 mV, raises PACE on every path, makes an
entry of the fault log, and counts PACE_SHORT once for the episode (16 R463). -/
def Obligations.PaceShortagesAreCountedOncePerEpisode : Prop :=
  (∀ (d : Fab) (s : State),
    let told (t : State) : Prop := (∀ p, p ∈ hostPaths → ((t.path p).evDev.lf DevFlag.pace.bit).isSome = true) ∧
      (∃ e, t.sys.log.getLast? = some e ∧ e.code = 0x0E ∧ e.die = d.num) ∧
      (t.pow.pace d).short = true ∧ (t.pow.pace d).paceShort = sat36 (s.pow.pace d).paceShort 1
    ((s.pow.pace d).belowSince.isSome = true → (s.pow.pace d).short = false → runs (.paceShortTimer d) s told) ∧
    (∀ (ms : List Nat) (tj : Int) (dt : Nat), s.has d.num = true → ms.length = 8 → ms.foldl min (ms.headD 0) < 454 →
      (s.pow.pace d).short = false → runs (.paceSample d ms tj dt) s fun t => (t.pow.pace d).vdd = 780 → told t)) ∧
  (∀ (d : Fab) (s : State), (s.pow.pace d).short = true →
    runs (.paceShortTimer d) s fun t => (t.pow.pace d).paceShort = (s.pow.pace d).paceShort)

end
end

