-- ==== Sys2Proof/Laws/State.lean ====
section
/-! SUPPORT. What each update of the state does to each of its fields: one lemma for each, true by definition. -/

namespace Sys2Proof.Machine

/-! ### modHost -/

@[simp] theorem State.modHost_pending (s : State) (f : HostSt → HostSt) : (s.modHost f).pending = s.pending := rfl
@[simp] theorem State.modHost_host (s : State) (f : HostSt → HostSt) : (s.modHost f).host = f s.host := rfl
@[simp] theorem State.modHost_locks (s : State) (f : HostSt → HostSt) : (s.modHost f).locks = s.locks := rfl
@[simp] theorem State.modHost_sealSt (s : State) (f : HostSt → HostSt) : (s.modHost f).sealSt = s.sealSt := rfl
@[simp] theorem State.modHost_pair (s : State) (f : HostSt → HostSt) : (s.modHost f).pair = s.pair := rfl
@[simp] theorem State.modHost_sys (s : State) (f : HostSt → HostSt) : (s.modHost f).sys = s.sys := rfl
@[simp] theorem State.modHost_tim (s : State) (f : HostSt → HostSt) : (s.modHost f).tim = s.tim := rfl
@[simp] theorem State.modHost_poolW (s : State) (f : HostSt → HostSt) : (s.modHost f).poolW = s.poolW := rfl
@[simp] theorem State.modHost_poolE (s : State) (f : HostSt → HostSt) : (s.modHost f).poolE = s.poolE := rfl
@[simp] theorem State.modHost_tab (s : State) (f : HostSt → HostSt) : (s.modHost f).tab = s.tab := rfl
@[simp] theorem State.modHost_zon (s : State) (f : HostSt → HostSt) : (s.modHost f).zon = s.zon := rfl
@[simp] theorem State.modHost_egr (s : State) (f : HostSt → HostSt) : (s.modHost f).egr = s.egr := rfl
@[simp] theorem State.modHost_ports (s : State) (f : HostSt → HostSt) : (s.modHost f).ports = s.ports := rfl
@[simp] theorem State.modHost_stk (s : State) (f : HostSt → HostSt) : (s.modHost f).stk = s.stk := rfl
@[simp] theorem State.modHost_gw (s : State) (f : HostSt → HostSt) : (s.modHost f).gw = s.gw := rfl
@[simp] theorem State.modHost_img (s : State) (f : HostSt → HostSt) : (s.modHost f).img = s.img := rfl
@[simp] theorem State.modHost_pow (s : State) (f : HostSt → HostSt) : (s.modHost f).pow = s.pow := rfl
@[simp] theorem State.modHost_key (s : State) (f : HostSt → HostSt) : (s.modHost f).key = s.key := rfl
@[simp] theorem State.modHost_edge (s : State) (f : HostSt → HostSt) : (s.modHost f).edge = s.edge := rfl
@[simp] theorem State.modHost_fabW (s : State) (f : HostSt → HostSt) : (s.modHost f).fabW = s.fabW := rfl
@[simp] theorem State.modHost_fabE (s : State) (f : HostSt → HostSt) : (s.modHost f).fabE = s.fabE := rfl
@[simp] theorem State.modHost_out (s : State) (f : HostSt → HostSt) : (s.modHost f).out = s.out := rfl
@[simp] theorem State.modHost_free (s : State) (f : HostSt → HostSt) : (s.modHost f).free = s.free := rfl

/-! ### modPair -/

@[simp] theorem State.modPair_pending (s : State) (f : PairSt → PairSt) : (s.modPair f).pending = s.pending := rfl
@[simp] theorem State.modPair_host (s : State) (f : PairSt → PairSt) : (s.modPair f).host = s.host := rfl
@[simp] theorem State.modPair_locks (s : State) (f : PairSt → PairSt) : (s.modPair f).locks = s.locks := rfl
@[simp] theorem State.modPair_sealSt (s : State) (f : PairSt → PairSt) : (s.modPair f).sealSt = s.sealSt := rfl
@[simp] theorem State.modPair_pair (s : State) (f : PairSt → PairSt) : (s.modPair f).pair = f s.pair := rfl
@[simp] theorem State.modPair_sys (s : State) (f : PairSt → PairSt) : (s.modPair f).sys = s.sys := rfl
@[simp] theorem State.modPair_tim (s : State) (f : PairSt → PairSt) : (s.modPair f).tim = s.tim := rfl
@[simp] theorem State.modPair_poolW (s : State) (f : PairSt → PairSt) : (s.modPair f).poolW = s.poolW := rfl
@[simp] theorem State.modPair_poolE (s : State) (f : PairSt → PairSt) : (s.modPair f).poolE = s.poolE := rfl
@[simp] theorem State.modPair_tab (s : State) (f : PairSt → PairSt) : (s.modPair f).tab = s.tab := rfl
@[simp] theorem State.modPair_zon (s : State) (f : PairSt → PairSt) : (s.modPair f).zon = s.zon := rfl
@[simp] theorem State.modPair_egr (s : State) (f : PairSt → PairSt) : (s.modPair f).egr = s.egr := rfl
@[simp] theorem State.modPair_ports (s : State) (f : PairSt → PairSt) : (s.modPair f).ports = s.ports := rfl
@[simp] theorem State.modPair_stk (s : State) (f : PairSt → PairSt) : (s.modPair f).stk = s.stk := rfl
@[simp] theorem State.modPair_gw (s : State) (f : PairSt → PairSt) : (s.modPair f).gw = s.gw := rfl
@[simp] theorem State.modPair_img (s : State) (f : PairSt → PairSt) : (s.modPair f).img = s.img := rfl
@[simp] theorem State.modPair_pow (s : State) (f : PairSt → PairSt) : (s.modPair f).pow = s.pow := rfl
@[simp] theorem State.modPair_key (s : State) (f : PairSt → PairSt) : (s.modPair f).key = s.key := rfl
@[simp] theorem State.modPair_edge (s : State) (f : PairSt → PairSt) : (s.modPair f).edge = s.edge := rfl
@[simp] theorem State.modPair_fabW (s : State) (f : PairSt → PairSt) : (s.modPair f).fabW = s.fabW := rfl
@[simp] theorem State.modPair_fabE (s : State) (f : PairSt → PairSt) : (s.modPair f).fabE = s.fabE := rfl
@[simp] theorem State.modPair_out (s : State) (f : PairSt → PairSt) : (s.modPair f).out = s.out := rfl
@[simp] theorem State.modPair_free (s : State) (f : PairSt → PairSt) : (s.modPair f).free = s.free := rfl

/-! ### modSys -/

@[simp] theorem State.modSys_pending (s : State) (f : SysSt → SysSt) : (s.modSys f).pending = s.pending := rfl
@[simp] theorem State.modSys_host (s : State) (f : SysSt → SysSt) : (s.modSys f).host = s.host := rfl
@[simp] theorem State.modSys_locks (s : State) (f : SysSt → SysSt) : (s.modSys f).locks = s.locks := rfl
@[simp] theorem State.modSys_sealSt (s : State) (f : SysSt → SysSt) : (s.modSys f).sealSt = s.sealSt := rfl
@[simp] theorem State.modSys_pair (s : State) (f : SysSt → SysSt) : (s.modSys f).pair = s.pair := rfl
@[simp] theorem State.modSys_sys (s : State) (f : SysSt → SysSt) : (s.modSys f).sys = f s.sys := rfl
@[simp] theorem State.modSys_tim (s : State) (f : SysSt → SysSt) : (s.modSys f).tim = s.tim := rfl
@[simp] theorem State.modSys_poolW (s : State) (f : SysSt → SysSt) : (s.modSys f).poolW = s.poolW := rfl
@[simp] theorem State.modSys_poolE (s : State) (f : SysSt → SysSt) : (s.modSys f).poolE = s.poolE := rfl
@[simp] theorem State.modSys_tab (s : State) (f : SysSt → SysSt) : (s.modSys f).tab = s.tab := rfl
@[simp] theorem State.modSys_zon (s : State) (f : SysSt → SysSt) : (s.modSys f).zon = s.zon := rfl
@[simp] theorem State.modSys_egr (s : State) (f : SysSt → SysSt) : (s.modSys f).egr = s.egr := rfl
@[simp] theorem State.modSys_ports (s : State) (f : SysSt → SysSt) : (s.modSys f).ports = s.ports := rfl
@[simp] theorem State.modSys_stk (s : State) (f : SysSt → SysSt) : (s.modSys f).stk = s.stk := rfl
@[simp] theorem State.modSys_gw (s : State) (f : SysSt → SysSt) : (s.modSys f).gw = s.gw := rfl
@[simp] theorem State.modSys_img (s : State) (f : SysSt → SysSt) : (s.modSys f).img = s.img := rfl
@[simp] theorem State.modSys_pow (s : State) (f : SysSt → SysSt) : (s.modSys f).pow = s.pow := rfl
@[simp] theorem State.modSys_key (s : State) (f : SysSt → SysSt) : (s.modSys f).key = s.key := rfl
@[simp] theorem State.modSys_edge (s : State) (f : SysSt → SysSt) : (s.modSys f).edge = s.edge := rfl
@[simp] theorem State.modSys_fabW (s : State) (f : SysSt → SysSt) : (s.modSys f).fabW = s.fabW := rfl
@[simp] theorem State.modSys_fabE (s : State) (f : SysSt → SysSt) : (s.modSys f).fabE = s.fabE := rfl
@[simp] theorem State.modSys_out (s : State) (f : SysSt → SysSt) : (s.modSys f).out = s.out := rfl
@[simp] theorem State.modSys_free (s : State) (f : SysSt → SysSt) : (s.modSys f).free = s.free := rfl

/-! ### modTim -/

@[simp] theorem State.modTim_pending (s : State) (f : TimeSt → TimeSt) : (s.modTim f).pending = s.pending := rfl
@[simp] theorem State.modTim_host (s : State) (f : TimeSt → TimeSt) : (s.modTim f).host = s.host := rfl
@[simp] theorem State.modTim_locks (s : State) (f : TimeSt → TimeSt) : (s.modTim f).locks = s.locks := rfl
@[simp] theorem State.modTim_sealSt (s : State) (f : TimeSt → TimeSt) : (s.modTim f).sealSt = s.sealSt := rfl
@[simp] theorem State.modTim_pair (s : State) (f : TimeSt → TimeSt) : (s.modTim f).pair = s.pair := rfl
@[simp] theorem State.modTim_sys (s : State) (f : TimeSt → TimeSt) : (s.modTim f).sys = s.sys := rfl
@[simp] theorem State.modTim_tim (s : State) (f : TimeSt → TimeSt) : (s.modTim f).tim = f s.tim := rfl
@[simp] theorem State.modTim_poolW (s : State) (f : TimeSt → TimeSt) : (s.modTim f).poolW = s.poolW := rfl
@[simp] theorem State.modTim_poolE (s : State) (f : TimeSt → TimeSt) : (s.modTim f).poolE = s.poolE := rfl
@[simp] theorem State.modTim_tab (s : State) (f : TimeSt → TimeSt) : (s.modTim f).tab = s.tab := rfl
@[simp] theorem State.modTim_zon (s : State) (f : TimeSt → TimeSt) : (s.modTim f).zon = s.zon := rfl
@[simp] theorem State.modTim_egr (s : State) (f : TimeSt → TimeSt) : (s.modTim f).egr = s.egr := rfl
@[simp] theorem State.modTim_ports (s : State) (f : TimeSt → TimeSt) : (s.modTim f).ports = s.ports := rfl
@[simp] theorem State.modTim_stk (s : State) (f : TimeSt → TimeSt) : (s.modTim f).stk = s.stk := rfl
@[simp] theorem State.modTim_gw (s : State) (f : TimeSt → TimeSt) : (s.modTim f).gw = s.gw := rfl
@[simp] theorem State.modTim_img (s : State) (f : TimeSt → TimeSt) : (s.modTim f).img = s.img := rfl
@[simp] theorem State.modTim_pow (s : State) (f : TimeSt → TimeSt) : (s.modTim f).pow = s.pow := rfl
@[simp] theorem State.modTim_key (s : State) (f : TimeSt → TimeSt) : (s.modTim f).key = s.key := rfl
@[simp] theorem State.modTim_edge (s : State) (f : TimeSt → TimeSt) : (s.modTim f).edge = s.edge := rfl
@[simp] theorem State.modTim_fabW (s : State) (f : TimeSt → TimeSt) : (s.modTim f).fabW = s.fabW := rfl
@[simp] theorem State.modTim_fabE (s : State) (f : TimeSt → TimeSt) : (s.modTim f).fabE = s.fabE := rfl
@[simp] theorem State.modTim_out (s : State) (f : TimeSt → TimeSt) : (s.modTim f).out = s.out := rfl
@[simp] theorem State.modTim_free (s : State) (f : TimeSt → TimeSt) : (s.modTim f).free = s.free := rfl

/-! ### modLocks -/

@[simp] theorem State.modLocks_pending (s : State) (f : LockSt → LockSt) : (s.modLocks f).pending = s.pending := rfl
@[simp] theorem State.modLocks_host (s : State) (f : LockSt → LockSt) : (s.modLocks f).host = s.host := rfl
@[simp] theorem State.modLocks_locks (s : State) (f : LockSt → LockSt) : (s.modLocks f).locks = f s.locks := rfl
@[simp] theorem State.modLocks_sealSt (s : State) (f : LockSt → LockSt) : (s.modLocks f).sealSt = s.sealSt := rfl
@[simp] theorem State.modLocks_pair (s : State) (f : LockSt → LockSt) : (s.modLocks f).pair = s.pair := rfl
@[simp] theorem State.modLocks_sys (s : State) (f : LockSt → LockSt) : (s.modLocks f).sys = s.sys := rfl
@[simp] theorem State.modLocks_tim (s : State) (f : LockSt → LockSt) : (s.modLocks f).tim = s.tim := rfl
@[simp] theorem State.modLocks_poolW (s : State) (f : LockSt → LockSt) : (s.modLocks f).poolW = s.poolW := rfl
@[simp] theorem State.modLocks_poolE (s : State) (f : LockSt → LockSt) : (s.modLocks f).poolE = s.poolE := rfl
@[simp] theorem State.modLocks_tab (s : State) (f : LockSt → LockSt) : (s.modLocks f).tab = s.tab := rfl
@[simp] theorem State.modLocks_zon (s : State) (f : LockSt → LockSt) : (s.modLocks f).zon = s.zon := rfl
@[simp] theorem State.modLocks_egr (s : State) (f : LockSt → LockSt) : (s.modLocks f).egr = s.egr := rfl
@[simp] theorem State.modLocks_ports (s : State) (f : LockSt → LockSt) : (s.modLocks f).ports = s.ports := rfl
@[simp] theorem State.modLocks_stk (s : State) (f : LockSt → LockSt) : (s.modLocks f).stk = s.stk := rfl
@[simp] theorem State.modLocks_gw (s : State) (f : LockSt → LockSt) : (s.modLocks f).gw = s.gw := rfl
@[simp] theorem State.modLocks_img (s : State) (f : LockSt → LockSt) : (s.modLocks f).img = s.img := rfl
@[simp] theorem State.modLocks_pow (s : State) (f : LockSt → LockSt) : (s.modLocks f).pow = s.pow := rfl
@[simp] theorem State.modLocks_key (s : State) (f : LockSt → LockSt) : (s.modLocks f).key = s.key := rfl
@[simp] theorem State.modLocks_edge (s : State) (f : LockSt → LockSt) : (s.modLocks f).edge = s.edge := rfl
@[simp] theorem State.modLocks_fabW (s : State) (f : LockSt → LockSt) : (s.modLocks f).fabW = s.fabW := rfl
@[simp] theorem State.modLocks_fabE (s : State) (f : LockSt → LockSt) : (s.modLocks f).fabE = s.fabE := rfl
@[simp] theorem State.modLocks_out (s : State) (f : LockSt → LockSt) : (s.modLocks f).out = s.out := rfl
@[simp] theorem State.modLocks_free (s : State) (f : LockSt → LockSt) : (s.modLocks f).free = s.free := rfl

/-! ### modSeal -/

@[simp] theorem State.modSeal_pending (s : State) (f : SealSt → SealSt) : (s.modSeal f).pending = s.pending := rfl
@[simp] theorem State.modSeal_host (s : State) (f : SealSt → SealSt) : (s.modSeal f).host = s.host := rfl
@[simp] theorem State.modSeal_locks (s : State) (f : SealSt → SealSt) : (s.modSeal f).locks = s.locks := rfl
@[simp] theorem State.modSeal_sealSt (s : State) (f : SealSt → SealSt) : (s.modSeal f).sealSt = f s.sealSt := rfl
@[simp] theorem State.modSeal_pair (s : State) (f : SealSt → SealSt) : (s.modSeal f).pair = s.pair := rfl
@[simp] theorem State.modSeal_sys (s : State) (f : SealSt → SealSt) : (s.modSeal f).sys = s.sys := rfl
@[simp] theorem State.modSeal_tim (s : State) (f : SealSt → SealSt) : (s.modSeal f).tim = s.tim := rfl
@[simp] theorem State.modSeal_poolW (s : State) (f : SealSt → SealSt) : (s.modSeal f).poolW = s.poolW := rfl
@[simp] theorem State.modSeal_poolE (s : State) (f : SealSt → SealSt) : (s.modSeal f).poolE = s.poolE := rfl
@[simp] theorem State.modSeal_tab (s : State) (f : SealSt → SealSt) : (s.modSeal f).tab = s.tab := rfl
@[simp] theorem State.modSeal_zon (s : State) (f : SealSt → SealSt) : (s.modSeal f).zon = s.zon := rfl
@[simp] theorem State.modSeal_egr (s : State) (f : SealSt → SealSt) : (s.modSeal f).egr = s.egr := rfl
@[simp] theorem State.modSeal_ports (s : State) (f : SealSt → SealSt) : (s.modSeal f).ports = s.ports := rfl
@[simp] theorem State.modSeal_stk (s : State) (f : SealSt → SealSt) : (s.modSeal f).stk = s.stk := rfl
@[simp] theorem State.modSeal_gw (s : State) (f : SealSt → SealSt) : (s.modSeal f).gw = s.gw := rfl
@[simp] theorem State.modSeal_img (s : State) (f : SealSt → SealSt) : (s.modSeal f).img = s.img := rfl
@[simp] theorem State.modSeal_pow (s : State) (f : SealSt → SealSt) : (s.modSeal f).pow = s.pow := rfl
@[simp] theorem State.modSeal_key (s : State) (f : SealSt → SealSt) : (s.modSeal f).key = s.key := rfl
@[simp] theorem State.modSeal_edge (s : State) (f : SealSt → SealSt) : (s.modSeal f).edge = s.edge := rfl
@[simp] theorem State.modSeal_fabW (s : State) (f : SealSt → SealSt) : (s.modSeal f).fabW = s.fabW := rfl
@[simp] theorem State.modSeal_fabE (s : State) (f : SealSt → SealSt) : (s.modSeal f).fabE = s.fabE := rfl
@[simp] theorem State.modSeal_out (s : State) (f : SealSt → SealSt) : (s.modSeal f).out = s.out := rfl
@[simp] theorem State.modSeal_free (s : State) (f : SealSt → SealSt) : (s.modSeal f).free = s.free := rfl

/-! ### modTab -/

@[simp] theorem State.modTab_pending (s : State) (f : TabSt → TabSt) : (s.modTab f).pending = s.pending := rfl
@[simp] theorem State.modTab_host (s : State) (f : TabSt → TabSt) : (s.modTab f).host = s.host := rfl
@[simp] theorem State.modTab_locks (s : State) (f : TabSt → TabSt) : (s.modTab f).locks = s.locks := rfl
@[simp] theorem State.modTab_sealSt (s : State) (f : TabSt → TabSt) : (s.modTab f).sealSt = s.sealSt := rfl
@[simp] theorem State.modTab_pair (s : State) (f : TabSt → TabSt) : (s.modTab f).pair = s.pair := rfl
@[simp] theorem State.modTab_sys (s : State) (f : TabSt → TabSt) : (s.modTab f).sys = s.sys := rfl
@[simp] theorem State.modTab_tim (s : State) (f : TabSt → TabSt) : (s.modTab f).tim = s.tim := rfl
@[simp] theorem State.modTab_poolW (s : State) (f : TabSt → TabSt) : (s.modTab f).poolW = s.poolW := rfl
@[simp] theorem State.modTab_poolE (s : State) (f : TabSt → TabSt) : (s.modTab f).poolE = s.poolE := rfl
@[simp] theorem State.modTab_tab (s : State) (f : TabSt → TabSt) : (s.modTab f).tab = f s.tab := rfl
@[simp] theorem State.modTab_zon (s : State) (f : TabSt → TabSt) : (s.modTab f).zon = s.zon := rfl
@[simp] theorem State.modTab_egr (s : State) (f : TabSt → TabSt) : (s.modTab f).egr = s.egr := rfl
@[simp] theorem State.modTab_ports (s : State) (f : TabSt → TabSt) : (s.modTab f).ports = s.ports := rfl
@[simp] theorem State.modTab_stk (s : State) (f : TabSt → TabSt) : (s.modTab f).stk = s.stk := rfl
@[simp] theorem State.modTab_gw (s : State) (f : TabSt → TabSt) : (s.modTab f).gw = s.gw := rfl
@[simp] theorem State.modTab_img (s : State) (f : TabSt → TabSt) : (s.modTab f).img = s.img := rfl
@[simp] theorem State.modTab_pow (s : State) (f : TabSt → TabSt) : (s.modTab f).pow = s.pow := rfl
@[simp] theorem State.modTab_key (s : State) (f : TabSt → TabSt) : (s.modTab f).key = s.key := rfl
@[simp] theorem State.modTab_edge (s : State) (f : TabSt → TabSt) : (s.modTab f).edge = s.edge := rfl
@[simp] theorem State.modTab_fabW (s : State) (f : TabSt → TabSt) : (s.modTab f).fabW = s.fabW := rfl
@[simp] theorem State.modTab_fabE (s : State) (f : TabSt → TabSt) : (s.modTab f).fabE = s.fabE := rfl
@[simp] theorem State.modTab_out (s : State) (f : TabSt → TabSt) : (s.modTab f).out = s.out := rfl
@[simp] theorem State.modTab_free (s : State) (f : TabSt → TabSt) : (s.modTab f).free = s.free := rfl

/-! ### modZon -/

@[simp] theorem State.modZon_pending (s : State) (f : ZoneSt → ZoneSt) : (s.modZon f).pending = s.pending := rfl
@[simp] theorem State.modZon_host (s : State) (f : ZoneSt → ZoneSt) : (s.modZon f).host = s.host := rfl
@[simp] theorem State.modZon_locks (s : State) (f : ZoneSt → ZoneSt) : (s.modZon f).locks = s.locks := rfl
@[simp] theorem State.modZon_sealSt (s : State) (f : ZoneSt → ZoneSt) : (s.modZon f).sealSt = s.sealSt := rfl
@[simp] theorem State.modZon_pair (s : State) (f : ZoneSt → ZoneSt) : (s.modZon f).pair = s.pair := rfl
@[simp] theorem State.modZon_sys (s : State) (f : ZoneSt → ZoneSt) : (s.modZon f).sys = s.sys := rfl
@[simp] theorem State.modZon_tim (s : State) (f : ZoneSt → ZoneSt) : (s.modZon f).tim = s.tim := rfl
@[simp] theorem State.modZon_poolW (s : State) (f : ZoneSt → ZoneSt) : (s.modZon f).poolW = s.poolW := rfl
@[simp] theorem State.modZon_poolE (s : State) (f : ZoneSt → ZoneSt) : (s.modZon f).poolE = s.poolE := rfl
@[simp] theorem State.modZon_tab (s : State) (f : ZoneSt → ZoneSt) : (s.modZon f).tab = s.tab := rfl
@[simp] theorem State.modZon_zon (s : State) (f : ZoneSt → ZoneSt) : (s.modZon f).zon = f s.zon := rfl
@[simp] theorem State.modZon_egr (s : State) (f : ZoneSt → ZoneSt) : (s.modZon f).egr = s.egr := rfl
@[simp] theorem State.modZon_ports (s : State) (f : ZoneSt → ZoneSt) : (s.modZon f).ports = s.ports := rfl
@[simp] theorem State.modZon_stk (s : State) (f : ZoneSt → ZoneSt) : (s.modZon f).stk = s.stk := rfl
@[simp] theorem State.modZon_gw (s : State) (f : ZoneSt → ZoneSt) : (s.modZon f).gw = s.gw := rfl
@[simp] theorem State.modZon_img (s : State) (f : ZoneSt → ZoneSt) : (s.modZon f).img = s.img := rfl
@[simp] theorem State.modZon_pow (s : State) (f : ZoneSt → ZoneSt) : (s.modZon f).pow = s.pow := rfl
@[simp] theorem State.modZon_key (s : State) (f : ZoneSt → ZoneSt) : (s.modZon f).key = s.key := rfl
@[simp] theorem State.modZon_edge (s : State) (f : ZoneSt → ZoneSt) : (s.modZon f).edge = s.edge := rfl
@[simp] theorem State.modZon_fabW (s : State) (f : ZoneSt → ZoneSt) : (s.modZon f).fabW = s.fabW := rfl
@[simp] theorem State.modZon_fabE (s : State) (f : ZoneSt → ZoneSt) : (s.modZon f).fabE = s.fabE := rfl
@[simp] theorem State.modZon_out (s : State) (f : ZoneSt → ZoneSt) : (s.modZon f).out = s.out := rfl
@[simp] theorem State.modZon_free (s : State) (f : ZoneSt → ZoneSt) : (s.modZon f).free = s.free := rfl

/-! ### modEgr -/

@[simp] theorem State.modEgr_pending (s : State) (f : EgressSt → EgressSt) : (s.modEgr f).pending = s.pending := rfl
@[simp] theorem State.modEgr_host (s : State) (f : EgressSt → EgressSt) : (s.modEgr f).host = s.host := rfl
@[simp] theorem State.modEgr_locks (s : State) (f : EgressSt → EgressSt) : (s.modEgr f).locks = s.locks := rfl
@[simp] theorem State.modEgr_sealSt (s : State) (f : EgressSt → EgressSt) : (s.modEgr f).sealSt = s.sealSt := rfl
@[simp] theorem State.modEgr_pair (s : State) (f : EgressSt → EgressSt) : (s.modEgr f).pair = s.pair := rfl
@[simp] theorem State.modEgr_sys (s : State) (f : EgressSt → EgressSt) : (s.modEgr f).sys = s.sys := rfl
@[simp] theorem State.modEgr_tim (s : State) (f : EgressSt → EgressSt) : (s.modEgr f).tim = s.tim := rfl
@[simp] theorem State.modEgr_poolW (s : State) (f : EgressSt → EgressSt) : (s.modEgr f).poolW = s.poolW := rfl
@[simp] theorem State.modEgr_poolE (s : State) (f : EgressSt → EgressSt) : (s.modEgr f).poolE = s.poolE := rfl
@[simp] theorem State.modEgr_tab (s : State) (f : EgressSt → EgressSt) : (s.modEgr f).tab = s.tab := rfl
@[simp] theorem State.modEgr_zon (s : State) (f : EgressSt → EgressSt) : (s.modEgr f).zon = s.zon := rfl
@[simp] theorem State.modEgr_egr (s : State) (f : EgressSt → EgressSt) : (s.modEgr f).egr = f s.egr := rfl
@[simp] theorem State.modEgr_ports (s : State) (f : EgressSt → EgressSt) : (s.modEgr f).ports = s.ports := rfl
@[simp] theorem State.modEgr_stk (s : State) (f : EgressSt → EgressSt) : (s.modEgr f).stk = s.stk := rfl
@[simp] theorem State.modEgr_gw (s : State) (f : EgressSt → EgressSt) : (s.modEgr f).gw = s.gw := rfl
@[simp] theorem State.modEgr_img (s : State) (f : EgressSt → EgressSt) : (s.modEgr f).img = s.img := rfl
@[simp] theorem State.modEgr_pow (s : State) (f : EgressSt → EgressSt) : (s.modEgr f).pow = s.pow := rfl
@[simp] theorem State.modEgr_key (s : State) (f : EgressSt → EgressSt) : (s.modEgr f).key = s.key := rfl
@[simp] theorem State.modEgr_edge (s : State) (f : EgressSt → EgressSt) : (s.modEgr f).edge = s.edge := rfl
@[simp] theorem State.modEgr_fabW (s : State) (f : EgressSt → EgressSt) : (s.modEgr f).fabW = s.fabW := rfl
@[simp] theorem State.modEgr_fabE (s : State) (f : EgressSt → EgressSt) : (s.modEgr f).fabE = s.fabE := rfl
@[simp] theorem State.modEgr_out (s : State) (f : EgressSt → EgressSt) : (s.modEgr f).out = s.out := rfl
@[simp] theorem State.modEgr_free (s : State) (f : EgressSt → EgressSt) : (s.modEgr f).free = s.free := rfl

/-! ### modStk -/

@[simp] theorem State.modStk_pending (s : State) (f : StackSt → StackSt) : (s.modStk f).pending = s.pending := rfl
@[simp] theorem State.modStk_host (s : State) (f : StackSt → StackSt) : (s.modStk f).host = s.host := rfl
@[simp] theorem State.modStk_locks (s : State) (f : StackSt → StackSt) : (s.modStk f).locks = s.locks := rfl
@[simp] theorem State.modStk_sealSt (s : State) (f : StackSt → StackSt) : (s.modStk f).sealSt = s.sealSt := rfl
@[simp] theorem State.modStk_pair (s : State) (f : StackSt → StackSt) : (s.modStk f).pair = s.pair := rfl
@[simp] theorem State.modStk_sys (s : State) (f : StackSt → StackSt) : (s.modStk f).sys = s.sys := rfl
@[simp] theorem State.modStk_tim (s : State) (f : StackSt → StackSt) : (s.modStk f).tim = s.tim := rfl
@[simp] theorem State.modStk_poolW (s : State) (f : StackSt → StackSt) : (s.modStk f).poolW = s.poolW := rfl
@[simp] theorem State.modStk_poolE (s : State) (f : StackSt → StackSt) : (s.modStk f).poolE = s.poolE := rfl
@[simp] theorem State.modStk_tab (s : State) (f : StackSt → StackSt) : (s.modStk f).tab = s.tab := rfl
@[simp] theorem State.modStk_zon (s : State) (f : StackSt → StackSt) : (s.modStk f).zon = s.zon := rfl
@[simp] theorem State.modStk_egr (s : State) (f : StackSt → StackSt) : (s.modStk f).egr = s.egr := rfl
@[simp] theorem State.modStk_ports (s : State) (f : StackSt → StackSt) : (s.modStk f).ports = s.ports := rfl
@[simp] theorem State.modStk_stk (s : State) (f : StackSt → StackSt) : (s.modStk f).stk = f s.stk := rfl
@[simp] theorem State.modStk_gw (s : State) (f : StackSt → StackSt) : (s.modStk f).gw = s.gw := rfl
@[simp] theorem State.modStk_img (s : State) (f : StackSt → StackSt) : (s.modStk f).img = s.img := rfl
@[simp] theorem State.modStk_pow (s : State) (f : StackSt → StackSt) : (s.modStk f).pow = s.pow := rfl
@[simp] theorem State.modStk_key (s : State) (f : StackSt → StackSt) : (s.modStk f).key = s.key := rfl
@[simp] theorem State.modStk_edge (s : State) (f : StackSt → StackSt) : (s.modStk f).edge = s.edge := rfl
@[simp] theorem State.modStk_fabW (s : State) (f : StackSt → StackSt) : (s.modStk f).fabW = s.fabW := rfl
@[simp] theorem State.modStk_fabE (s : State) (f : StackSt → StackSt) : (s.modStk f).fabE = s.fabE := rfl
@[simp] theorem State.modStk_out (s : State) (f : StackSt → StackSt) : (s.modStk f).out = s.out := rfl
@[simp] theorem State.modStk_free (s : State) (f : StackSt → StackSt) : (s.modStk f).free = s.free := rfl

/-! ### modGw -/

@[simp] theorem State.modGw_pending (s : State) (f : GwSt → GwSt) : (s.modGw f).pending = s.pending := rfl
@[simp] theorem State.modGw_host (s : State) (f : GwSt → GwSt) : (s.modGw f).host = s.host := rfl
@[simp] theorem State.modGw_locks (s : State) (f : GwSt → GwSt) : (s.modGw f).locks = s.locks := rfl
@[simp] theorem State.modGw_sealSt (s : State) (f : GwSt → GwSt) : (s.modGw f).sealSt = s.sealSt := rfl
@[simp] theorem State.modGw_pair (s : State) (f : GwSt → GwSt) : (s.modGw f).pair = s.pair := rfl
@[simp] theorem State.modGw_sys (s : State) (f : GwSt → GwSt) : (s.modGw f).sys = s.sys := rfl
@[simp] theorem State.modGw_tim (s : State) (f : GwSt → GwSt) : (s.modGw f).tim = s.tim := rfl
@[simp] theorem State.modGw_poolW (s : State) (f : GwSt → GwSt) : (s.modGw f).poolW = s.poolW := rfl
@[simp] theorem State.modGw_poolE (s : State) (f : GwSt → GwSt) : (s.modGw f).poolE = s.poolE := rfl
@[simp] theorem State.modGw_tab (s : State) (f : GwSt → GwSt) : (s.modGw f).tab = s.tab := rfl
@[simp] theorem State.modGw_zon (s : State) (f : GwSt → GwSt) : (s.modGw f).zon = s.zon := rfl
@[simp] theorem State.modGw_egr (s : State) (f : GwSt → GwSt) : (s.modGw f).egr = s.egr := rfl
@[simp] theorem State.modGw_ports (s : State) (f : GwSt → GwSt) : (s.modGw f).ports = s.ports := rfl
@[simp] theorem State.modGw_stk (s : State) (f : GwSt → GwSt) : (s.modGw f).stk = s.stk := rfl
@[simp] theorem State.modGw_gw (s : State) (f : GwSt → GwSt) : (s.modGw f).gw = f s.gw := rfl
@[simp] theorem State.modGw_img (s : State) (f : GwSt → GwSt) : (s.modGw f).img = s.img := rfl
@[simp] theorem State.modGw_pow (s : State) (f : GwSt → GwSt) : (s.modGw f).pow = s.pow := rfl
@[simp] theorem State.modGw_key (s : State) (f : GwSt → GwSt) : (s.modGw f).key = s.key := rfl
@[simp] theorem State.modGw_edge (s : State) (f : GwSt → GwSt) : (s.modGw f).edge = s.edge := rfl
@[simp] theorem State.modGw_fabW (s : State) (f : GwSt → GwSt) : (s.modGw f).fabW = s.fabW := rfl
@[simp] theorem State.modGw_fabE (s : State) (f : GwSt → GwSt) : (s.modGw f).fabE = s.fabE := rfl
@[simp] theorem State.modGw_out (s : State) (f : GwSt → GwSt) : (s.modGw f).out = s.out := rfl
@[simp] theorem State.modGw_free (s : State) (f : GwSt → GwSt) : (s.modGw f).free = s.free := rfl

/-! ### modImg -/

@[simp] theorem State.modImg_pending (s : State) (f : ImgSt → ImgSt) : (s.modImg f).pending = s.pending := rfl
@[simp] theorem State.modImg_host (s : State) (f : ImgSt → ImgSt) : (s.modImg f).host = s.host := rfl
@[simp] theorem State.modImg_locks (s : State) (f : ImgSt → ImgSt) : (s.modImg f).locks = s.locks := rfl
@[simp] theorem State.modImg_sealSt (s : State) (f : ImgSt → ImgSt) : (s.modImg f).sealSt = s.sealSt := rfl
@[simp] theorem State.modImg_pair (s : State) (f : ImgSt → ImgSt) : (s.modImg f).pair = s.pair := rfl
@[simp] theorem State.modImg_sys (s : State) (f : ImgSt → ImgSt) : (s.modImg f).sys = s.sys := rfl
@[simp] theorem State.modImg_tim (s : State) (f : ImgSt → ImgSt) : (s.modImg f).tim = s.tim := rfl
@[simp] theorem State.modImg_poolW (s : State) (f : ImgSt → ImgSt) : (s.modImg f).poolW = s.poolW := rfl
@[simp] theorem State.modImg_poolE (s : State) (f : ImgSt → ImgSt) : (s.modImg f).poolE = s.poolE := rfl
@[simp] theorem State.modImg_tab (s : State) (f : ImgSt → ImgSt) : (s.modImg f).tab = s.tab := rfl
@[simp] theorem State.modImg_zon (s : State) (f : ImgSt → ImgSt) : (s.modImg f).zon = s.zon := rfl
@[simp] theorem State.modImg_egr (s : State) (f : ImgSt → ImgSt) : (s.modImg f).egr = s.egr := rfl
@[simp] theorem State.modImg_ports (s : State) (f : ImgSt → ImgSt) : (s.modImg f).ports = s.ports := rfl
@[simp] theorem State.modImg_stk (s : State) (f : ImgSt → ImgSt) : (s.modImg f).stk = s.stk := rfl
@[simp] theorem State.modImg_gw (s : State) (f : ImgSt → ImgSt) : (s.modImg f).gw = s.gw := rfl
@[simp] theorem State.modImg_img (s : State) (f : ImgSt → ImgSt) : (s.modImg f).img = f s.img := rfl
@[simp] theorem State.modImg_pow (s : State) (f : ImgSt → ImgSt) : (s.modImg f).pow = s.pow := rfl
@[simp] theorem State.modImg_key (s : State) (f : ImgSt → ImgSt) : (s.modImg f).key = s.key := rfl
@[simp] theorem State.modImg_edge (s : State) (f : ImgSt → ImgSt) : (s.modImg f).edge = s.edge := rfl
@[simp] theorem State.modImg_fabW (s : State) (f : ImgSt → ImgSt) : (s.modImg f).fabW = s.fabW := rfl
@[simp] theorem State.modImg_fabE (s : State) (f : ImgSt → ImgSt) : (s.modImg f).fabE = s.fabE := rfl
@[simp] theorem State.modImg_out (s : State) (f : ImgSt → ImgSt) : (s.modImg f).out = s.out := rfl
@[simp] theorem State.modImg_free (s : State) (f : ImgSt → ImgSt) : (s.modImg f).free = s.free := rfl

/-! ### modPow -/

@[simp] theorem State.modPow_pending (s : State) (f : PowerSt → PowerSt) : (s.modPow f).pending = s.pending := rfl
@[simp] theorem State.modPow_host (s : State) (f : PowerSt → PowerSt) : (s.modPow f).host = s.host := rfl
@[simp] theorem State.modPow_locks (s : State) (f : PowerSt → PowerSt) : (s.modPow f).locks = s.locks := rfl
@[simp] theorem State.modPow_sealSt (s : State) (f : PowerSt → PowerSt) : (s.modPow f).sealSt = s.sealSt := rfl
@[simp] theorem State.modPow_pair (s : State) (f : PowerSt → PowerSt) : (s.modPow f).pair = s.pair := rfl
@[simp] theorem State.modPow_sys (s : State) (f : PowerSt → PowerSt) : (s.modPow f).sys = s.sys := rfl
@[simp] theorem State.modPow_tim (s : State) (f : PowerSt → PowerSt) : (s.modPow f).tim = s.tim := rfl
@[simp] theorem State.modPow_poolW (s : State) (f : PowerSt → PowerSt) : (s.modPow f).poolW = s.poolW := rfl
@[simp] theorem State.modPow_poolE (s : State) (f : PowerSt → PowerSt) : (s.modPow f).poolE = s.poolE := rfl
@[simp] theorem State.modPow_tab (s : State) (f : PowerSt → PowerSt) : (s.modPow f).tab = s.tab := rfl
@[simp] theorem State.modPow_zon (s : State) (f : PowerSt → PowerSt) : (s.modPow f).zon = s.zon := rfl
@[simp] theorem State.modPow_egr (s : State) (f : PowerSt → PowerSt) : (s.modPow f).egr = s.egr := rfl
@[simp] theorem State.modPow_ports (s : State) (f : PowerSt → PowerSt) : (s.modPow f).ports = s.ports := rfl
@[simp] theorem State.modPow_stk (s : State) (f : PowerSt → PowerSt) : (s.modPow f).stk = s.stk := rfl
@[simp] theorem State.modPow_gw (s : State) (f : PowerSt → PowerSt) : (s.modPow f).gw = s.gw := rfl
@[simp] theorem State.modPow_img (s : State) (f : PowerSt → PowerSt) : (s.modPow f).img = s.img := rfl
@[simp] theorem State.modPow_pow (s : State) (f : PowerSt → PowerSt) : (s.modPow f).pow = f s.pow := rfl
@[simp] theorem State.modPow_key (s : State) (f : PowerSt → PowerSt) : (s.modPow f).key = s.key := rfl
@[simp] theorem State.modPow_edge (s : State) (f : PowerSt → PowerSt) : (s.modPow f).edge = s.edge := rfl
@[simp] theorem State.modPow_fabW (s : State) (f : PowerSt → PowerSt) : (s.modPow f).fabW = s.fabW := rfl
@[simp] theorem State.modPow_fabE (s : State) (f : PowerSt → PowerSt) : (s.modPow f).fabE = s.fabE := rfl
@[simp] theorem State.modPow_out (s : State) (f : PowerSt → PowerSt) : (s.modPow f).out = s.out := rfl
@[simp] theorem State.modPow_free (s : State) (f : PowerSt → PowerSt) : (s.modPow f).free = s.free := rfl

/-! ### modKey -/

@[simp] theorem State.modKey_pending (s : State) (f : KeySt → KeySt) : (s.modKey f).pending = s.pending := rfl
@[simp] theorem State.modKey_host (s : State) (f : KeySt → KeySt) : (s.modKey f).host = s.host := rfl
@[simp] theorem State.modKey_locks (s : State) (f : KeySt → KeySt) : (s.modKey f).locks = s.locks := rfl
@[simp] theorem State.modKey_sealSt (s : State) (f : KeySt → KeySt) : (s.modKey f).sealSt = s.sealSt := rfl
@[simp] theorem State.modKey_pair (s : State) (f : KeySt → KeySt) : (s.modKey f).pair = s.pair := rfl
@[simp] theorem State.modKey_sys (s : State) (f : KeySt → KeySt) : (s.modKey f).sys = s.sys := rfl
@[simp] theorem State.modKey_tim (s : State) (f : KeySt → KeySt) : (s.modKey f).tim = s.tim := rfl
@[simp] theorem State.modKey_poolW (s : State) (f : KeySt → KeySt) : (s.modKey f).poolW = s.poolW := rfl
@[simp] theorem State.modKey_poolE (s : State) (f : KeySt → KeySt) : (s.modKey f).poolE = s.poolE := rfl
@[simp] theorem State.modKey_tab (s : State) (f : KeySt → KeySt) : (s.modKey f).tab = s.tab := rfl
@[simp] theorem State.modKey_zon (s : State) (f : KeySt → KeySt) : (s.modKey f).zon = s.zon := rfl
@[simp] theorem State.modKey_egr (s : State) (f : KeySt → KeySt) : (s.modKey f).egr = s.egr := rfl
@[simp] theorem State.modKey_ports (s : State) (f : KeySt → KeySt) : (s.modKey f).ports = s.ports := rfl
@[simp] theorem State.modKey_stk (s : State) (f : KeySt → KeySt) : (s.modKey f).stk = s.stk := rfl
@[simp] theorem State.modKey_gw (s : State) (f : KeySt → KeySt) : (s.modKey f).gw = s.gw := rfl
@[simp] theorem State.modKey_img (s : State) (f : KeySt → KeySt) : (s.modKey f).img = s.img := rfl
@[simp] theorem State.modKey_pow (s : State) (f : KeySt → KeySt) : (s.modKey f).pow = s.pow := rfl
@[simp] theorem State.modKey_key (s : State) (f : KeySt → KeySt) : (s.modKey f).key = f s.key := rfl
@[simp] theorem State.modKey_edge (s : State) (f : KeySt → KeySt) : (s.modKey f).edge = s.edge := rfl
@[simp] theorem State.modKey_fabW (s : State) (f : KeySt → KeySt) : (s.modKey f).fabW = s.fabW := rfl
@[simp] theorem State.modKey_fabE (s : State) (f : KeySt → KeySt) : (s.modKey f).fabE = s.fabE := rfl
@[simp] theorem State.modKey_out (s : State) (f : KeySt → KeySt) : (s.modKey f).out = s.out := rfl
@[simp] theorem State.modKey_free (s : State) (f : KeySt → KeySt) : (s.modKey f).free = s.free := rfl

/-! ### modEdge -/

@[simp] theorem State.modEdge_pending (s : State) (f : EdgeSt → EdgeSt) : (s.modEdge f).pending = s.pending := rfl
@[simp] theorem State.modEdge_host (s : State) (f : EdgeSt → EdgeSt) : (s.modEdge f).host = s.host := rfl
@[simp] theorem State.modEdge_locks (s : State) (f : EdgeSt → EdgeSt) : (s.modEdge f).locks = s.locks := rfl
@[simp] theorem State.modEdge_sealSt (s : State) (f : EdgeSt → EdgeSt) : (s.modEdge f).sealSt = s.sealSt := rfl
@[simp] theorem State.modEdge_pair (s : State) (f : EdgeSt → EdgeSt) : (s.modEdge f).pair = s.pair := rfl
@[simp] theorem State.modEdge_sys (s : State) (f : EdgeSt → EdgeSt) : (s.modEdge f).sys = s.sys := rfl
@[simp] theorem State.modEdge_tim (s : State) (f : EdgeSt → EdgeSt) : (s.modEdge f).tim = s.tim := rfl
@[simp] theorem State.modEdge_poolW (s : State) (f : EdgeSt → EdgeSt) : (s.modEdge f).poolW = s.poolW := rfl
@[simp] theorem State.modEdge_poolE (s : State) (f : EdgeSt → EdgeSt) : (s.modEdge f).poolE = s.poolE := rfl
@[simp] theorem State.modEdge_tab (s : State) (f : EdgeSt → EdgeSt) : (s.modEdge f).tab = s.tab := rfl
@[simp] theorem State.modEdge_zon (s : State) (f : EdgeSt → EdgeSt) : (s.modEdge f).zon = s.zon := rfl
@[simp] theorem State.modEdge_egr (s : State) (f : EdgeSt → EdgeSt) : (s.modEdge f).egr = s.egr := rfl
@[simp] theorem State.modEdge_ports (s : State) (f : EdgeSt → EdgeSt) : (s.modEdge f).ports = s.ports := rfl
@[simp] theorem State.modEdge_stk (s : State) (f : EdgeSt → EdgeSt) : (s.modEdge f).stk = s.stk := rfl
@[simp] theorem State.modEdge_gw (s : State) (f : EdgeSt → EdgeSt) : (s.modEdge f).gw = s.gw := rfl
@[simp] theorem State.modEdge_img (s : State) (f : EdgeSt → EdgeSt) : (s.modEdge f).img = s.img := rfl
@[simp] theorem State.modEdge_pow (s : State) (f : EdgeSt → EdgeSt) : (s.modEdge f).pow = s.pow := rfl
@[simp] theorem State.modEdge_key (s : State) (f : EdgeSt → EdgeSt) : (s.modEdge f).key = s.key := rfl
@[simp] theorem State.modEdge_edge (s : State) (f : EdgeSt → EdgeSt) : (s.modEdge f).edge = f s.edge := rfl
@[simp] theorem State.modEdge_fabW (s : State) (f : EdgeSt → EdgeSt) : (s.modEdge f).fabW = s.fabW := rfl
@[simp] theorem State.modEdge_fabE (s : State) (f : EdgeSt → EdgeSt) : (s.modEdge f).fabE = s.fabE := rfl
@[simp] theorem State.modEdge_out (s : State) (f : EdgeSt → EdgeSt) : (s.modEdge f).out = s.out := rfl
@[simp] theorem State.modEdge_free (s : State) (f : EdgeSt → EdgeSt) : (s.modEdge f).free = s.free := rfl

/-! ### modPort, modPath, modCore, emit, useFree, adv -/

@[simp] theorem State.modPort_pending (s : State) (p : Nat) (f : PortSt → PortSt) : (s.modPort p f).pending = s.pending := rfl
@[simp] theorem State.modPort_host (s : State) (p : Nat) (f : PortSt → PortSt) : (s.modPort p f).host = s.host := rfl
@[simp] theorem State.modPort_locks (s : State) (p : Nat) (f : PortSt → PortSt) : (s.modPort p f).locks = s.locks := rfl
@[simp] theorem State.modPort_sealSt (s : State) (p : Nat) (f : PortSt → PortSt) : (s.modPort p f).sealSt = s.sealSt := rfl
@[simp] theorem State.modPort_pair (s : State) (p : Nat) (f : PortSt → PortSt) : (s.modPort p f).pair = s.pair := rfl
@[simp] theorem State.modPort_sys (s : State) (p : Nat) (f : PortSt → PortSt) : (s.modPort p f).sys = s.sys := rfl
@[simp] theorem State.modPort_tim (s : State) (p : Nat) (f : PortSt → PortSt) : (s.modPort p f).tim = s.tim := rfl
@[simp] theorem State.modPort_poolW (s : State) (p : Nat) (f : PortSt → PortSt) : (s.modPort p f).poolW = s.poolW := rfl
@[simp] theorem State.modPort_poolE (s : State) (p : Nat) (f : PortSt → PortSt) : (s.modPort p f).poolE = s.poolE := rfl
@[simp] theorem State.modPort_tab (s : State) (p : Nat) (f : PortSt → PortSt) : (s.modPort p f).tab = s.tab := rfl
@[simp] theorem State.modPort_zon (s : State) (p : Nat) (f : PortSt → PortSt) : (s.modPort p f).zon = s.zon := rfl
@[simp] theorem State.modPort_egr (s : State) (p : Nat) (f : PortSt → PortSt) : (s.modPort p f).egr = s.egr := rfl
@[simp] theorem State.modPort_stk (s : State) (p : Nat) (f : PortSt → PortSt) : (s.modPort p f).stk = s.stk := rfl
@[simp] theorem State.modPort_gw (s : State) (p : Nat) (f : PortSt → PortSt) : (s.modPort p f).gw = s.gw := rfl
@[simp] theorem State.modPort_img (s : State) (p : Nat) (f : PortSt → PortSt) : (s.modPort p f).img = s.img := rfl
@[simp] theorem State.modPort_pow (s : State) (p : Nat) (f : PortSt → PortSt) : (s.modPort p f).pow = s.pow := rfl
@[simp] theorem State.modPort_key (s : State) (p : Nat) (f : PortSt → PortSt) : (s.modPort p f).key = s.key := rfl
@[simp] theorem State.modPort_edge (s : State) (p : Nat) (f : PortSt → PortSt) : (s.modPort p f).edge = s.edge := rfl
@[simp] theorem State.modPort_fabW (s : State) (p : Nat) (f : PortSt → PortSt) : (s.modPort p f).fabW = s.fabW := rfl
@[simp] theorem State.modPort_fabE (s : State) (p : Nat) (f : PortSt → PortSt) : (s.modPort p f).fabE = s.fabE := rfl
@[simp] theorem State.modPort_out (s : State) (p : Nat) (f : PortSt → PortSt) : (s.modPort p f).out = s.out := rfl
@[simp] theorem State.modPort_free (s : State) (p : Nat) (f : PortSt → PortSt) : (s.modPort p f).free = s.free := rfl

@[simp] theorem State.modPath_pending (s : State) (p : Path) (f : PathSt → PathSt) : (s.modPath p f).pending = s.pending := rfl
@[simp] theorem State.modPath_locks (s : State) (p : Path) (f : PathSt → PathSt) : (s.modPath p f).locks = s.locks := rfl
@[simp] theorem State.modPath_sealSt (s : State) (p : Path) (f : PathSt → PathSt) : (s.modPath p f).sealSt = s.sealSt := rfl
@[simp] theorem State.modPath_pair (s : State) (p : Path) (f : PathSt → PathSt) : (s.modPath p f).pair = s.pair := rfl
@[simp] theorem State.modPath_sys (s : State) (p : Path) (f : PathSt → PathSt) : (s.modPath p f).sys = s.sys := rfl
@[simp] theorem State.modPath_tim (s : State) (p : Path) (f : PathSt → PathSt) : (s.modPath p f).tim = s.tim := rfl
@[simp] theorem State.modPath_poolW (s : State) (p : Path) (f : PathSt → PathSt) : (s.modPath p f).poolW = s.poolW := rfl
@[simp] theorem State.modPath_poolE (s : State) (p : Path) (f : PathSt → PathSt) : (s.modPath p f).poolE = s.poolE := rfl
@[simp] theorem State.modPath_tab (s : State) (p : Path) (f : PathSt → PathSt) : (s.modPath p f).tab = s.tab := rfl
@[simp] theorem State.modPath_zon (s : State) (p : Path) (f : PathSt → PathSt) : (s.modPath p f).zon = s.zon := rfl
@[simp] theorem State.modPath_egr (s : State) (p : Path) (f : PathSt → PathSt) : (s.modPath p f).egr = s.egr := rfl
@[simp] theorem State.modPath_ports (s : State) (p : Path) (f : PathSt → PathSt) : (s.modPath p f).ports = s.ports := rfl
@[simp] theorem State.modPath_stk (s : State) (p : Path) (f : PathSt → PathSt) : (s.modPath p f).stk = s.stk := rfl
@[simp] theorem State.modPath_gw (s : State) (p : Path) (f : PathSt → PathSt) : (s.modPath p f).gw = s.gw := rfl
@[simp] theorem State.modPath_img (s : State) (p : Path) (f : PathSt → PathSt) : (s.modPath p f).img = s.img := rfl
@[simp] theorem State.modPath_pow (s : State) (p : Path) (f : PathSt → PathSt) : (s.modPath p f).pow = s.pow := rfl
@[simp] theorem State.modPath_key (s : State) (p : Path) (f : PathSt → PathSt) : (s.modPath p f).key = s.key := rfl
@[simp] theorem State.modPath_edge (s : State) (p : Path) (f : PathSt → PathSt) : (s.modPath p f).edge = s.edge := rfl
@[simp] theorem State.modPath_fabW (s : State) (p : Path) (f : PathSt → PathSt) : (s.modPath p f).fabW = s.fabW := rfl
@[simp] theorem State.modPath_fabE (s : State) (p : Path) (f : PathSt → PathSt) : (s.modPath p f).fabE = s.fabE := rfl
@[simp] theorem State.modPath_out (s : State) (p : Path) (f : PathSt → PathSt) : (s.modPath p f).out = s.out := rfl
@[simp] theorem State.modPath_free (s : State) (p : Path) (f : PathSt → PathSt) : (s.modPath p f).free = s.free := rfl

@[simp] theorem State.modCore_pending (s : State) (c : Fab) (f : CoreSt → CoreSt) : (s.modCore c f).pending = s.pending := rfl
@[simp] theorem State.modCore_host (s : State) (c : Fab) (f : CoreSt → CoreSt) : (s.modCore c f).host = s.host := rfl
@[simp] theorem State.modCore_locks (s : State) (c : Fab) (f : CoreSt → CoreSt) : (s.modCore c f).locks = s.locks := rfl
@[simp] theorem State.modCore_sealSt (s : State) (c : Fab) (f : CoreSt → CoreSt) : (s.modCore c f).sealSt = s.sealSt := rfl
@[simp] theorem State.modCore_sys (s : State) (c : Fab) (f : CoreSt → CoreSt) : (s.modCore c f).sys = s.sys := rfl
@[simp] theorem State.modCore_tim (s : State) (c : Fab) (f : CoreSt → CoreSt) : (s.modCore c f).tim = s.tim := rfl
@[simp] theorem State.modCore_poolW (s : State) (c : Fab) (f : CoreSt → CoreSt) : (s.modCore c f).poolW = s.poolW := rfl
@[simp] theorem State.modCore_poolE (s : State) (c : Fab) (f : CoreSt → CoreSt) : (s.modCore c f).poolE = s.poolE := rfl
@[simp] theorem State.modCore_tab (s : State) (c : Fab) (f : CoreSt → CoreSt) : (s.modCore c f).tab = s.tab := rfl
@[simp] theorem State.modCore_zon (s : State) (c : Fab) (f : CoreSt → CoreSt) : (s.modCore c f).zon = s.zon := rfl
@[simp] theorem State.modCore_egr (s : State) (c : Fab) (f : CoreSt → CoreSt) : (s.modCore c f).egr = s.egr := rfl
@[simp] theorem State.modCore_ports (s : State) (c : Fab) (f : CoreSt → CoreSt) : (s.modCore c f).ports = s.ports := rfl
@[simp] theorem State.modCore_stk (s : State) (c : Fab) (f : CoreSt → CoreSt) : (s.modCore c f).stk = s.stk := rfl
@[simp] theorem State.modCore_gw (s : State) (c : Fab) (f : CoreSt → CoreSt) : (s.modCore c f).gw = s.gw := rfl
@[simp] theorem State.modCore_img (s : State) (c : Fab) (f : CoreSt → CoreSt) : (s.modCore c f).img = s.img := rfl
@[simp] theorem State.modCore_pow (s : State) (c : Fab) (f : CoreSt → CoreSt) : (s.modCore c f).pow = s.pow := rfl
@[simp] theorem State.modCore_key (s : State) (c : Fab) (f : CoreSt → CoreSt) : (s.modCore c f).key = s.key := rfl
@[simp] theorem State.modCore_edge (s : State) (c : Fab) (f : CoreSt → CoreSt) : (s.modCore c f).edge = s.edge := rfl
@[simp] theorem State.modCore_fabW (s : State) (c : Fab) (f : CoreSt → CoreSt) : (s.modCore c f).fabW = s.fabW := rfl
@[simp] theorem State.modCore_fabE (s : State) (c : Fab) (f : CoreSt → CoreSt) : (s.modCore c f).fabE = s.fabE := rfl
@[simp] theorem State.modCore_out (s : State) (c : Fab) (f : CoreSt → CoreSt) : (s.modCore c f).out = s.out := rfl
@[simp] theorem State.modCore_free (s : State) (c : Fab) (f : CoreSt → CoreSt) : (s.modCore c f).free = s.free := rfl

@[simp] theorem State.emit_pending (s : State) (o : Output) : (s.emit o).pending = s.pending := rfl
@[simp] theorem State.emit_host (s : State) (o : Output) : (s.emit o).host = s.host := rfl
@[simp] theorem State.emit_locks (s : State) (o : Output) : (s.emit o).locks = s.locks := rfl
@[simp] theorem State.emit_sealSt (s : State) (o : Output) : (s.emit o).sealSt = s.sealSt := rfl
@[simp] theorem State.emit_pair (s : State) (o : Output) : (s.emit o).pair = s.pair := rfl
@[simp] theorem State.emit_sys (s : State) (o : Output) : (s.emit o).sys = s.sys := rfl
@[simp] theorem State.emit_tim (s : State) (o : Output) : (s.emit o).tim = s.tim := rfl
@[simp] theorem State.emit_poolW (s : State) (o : Output) : (s.emit o).poolW = s.poolW := rfl
@[simp] theorem State.emit_poolE (s : State) (o : Output) : (s.emit o).poolE = s.poolE := rfl
@[simp] theorem State.emit_tab (s : State) (o : Output) : (s.emit o).tab = s.tab := rfl
@[simp] theorem State.emit_zon (s : State) (o : Output) : (s.emit o).zon = s.zon := rfl
@[simp] theorem State.emit_egr (s : State) (o : Output) : (s.emit o).egr = s.egr := rfl
@[simp] theorem State.emit_ports (s : State) (o : Output) : (s.emit o).ports = s.ports := rfl
@[simp] theorem State.emit_stk (s : State) (o : Output) : (s.emit o).stk = s.stk := rfl
@[simp] theorem State.emit_gw (s : State) (o : Output) : (s.emit o).gw = s.gw := rfl
@[simp] theorem State.emit_img (s : State) (o : Output) : (s.emit o).img = s.img := rfl
@[simp] theorem State.emit_pow (s : State) (o : Output) : (s.emit o).pow = s.pow := rfl
@[simp] theorem State.emit_key (s : State) (o : Output) : (s.emit o).key = s.key := rfl
@[simp] theorem State.emit_edge (s : State) (o : Output) : (s.emit o).edge = s.edge := rfl
@[simp] theorem State.emit_fabW (s : State) (o : Output) : (s.emit o).fabW = s.fabW := rfl
@[simp] theorem State.emit_fabE (s : State) (o : Output) : (s.emit o).fabE = s.fabE := rfl
@[simp] theorem State.emit_free (s : State) (o : Output) : (s.emit o).free = s.free := rfl

@[simp] theorem State.useFree_pending (s : State) : (s.useFree).pending = s.pending := rfl
@[simp] theorem State.useFree_host (s : State) : (s.useFree).host = s.host := rfl
@[simp] theorem State.useFree_locks (s : State) : (s.useFree).locks = s.locks := rfl
@[simp] theorem State.useFree_sealSt (s : State) : (s.useFree).sealSt = s.sealSt := rfl
@[simp] theorem State.useFree_pair (s : State) : (s.useFree).pair = s.pair := rfl
@[simp] theorem State.useFree_sys (s : State) : (s.useFree).sys = s.sys := rfl
@[simp] theorem State.useFree_tim (s : State) : (s.useFree).tim = s.tim := rfl
@[simp] theorem State.useFree_poolW (s : State) : (s.useFree).poolW = s.poolW := rfl
@[simp] theorem State.useFree_poolE (s : State) : (s.useFree).poolE = s.poolE := rfl
@[simp] theorem State.useFree_tab (s : State) : (s.useFree).tab = s.tab := rfl
@[simp] theorem State.useFree_zon (s : State) : (s.useFree).zon = s.zon := rfl
@[simp] theorem State.useFree_egr (s : State) : (s.useFree).egr = s.egr := rfl
@[simp] theorem State.useFree_ports (s : State) : (s.useFree).ports = s.ports := rfl
@[simp] theorem State.useFree_stk (s : State) : (s.useFree).stk = s.stk := rfl
@[simp] theorem State.useFree_gw (s : State) : (s.useFree).gw = s.gw := rfl
@[simp] theorem State.useFree_img (s : State) : (s.useFree).img = s.img := rfl
@[simp] theorem State.useFree_pow (s : State) : (s.useFree).pow = s.pow := rfl
@[simp] theorem State.useFree_key (s : State) : (s.useFree).key = s.key := rfl
@[simp] theorem State.useFree_edge (s : State) : (s.useFree).edge = s.edge := rfl
@[simp] theorem State.useFree_fabW (s : State) : (s.useFree).fabW = s.fabW := rfl
@[simp] theorem State.useFree_fabE (s : State) : (s.useFree).fabE = s.fabE := rfl
@[simp] theorem State.useFree_out (s : State) : (s.useFree).out = s.out := rfl

@[simp] theorem State.adv_pending (s : State) (n : Nat) : (s.adv n).pending = s.pending := rfl
@[simp] theorem State.adv_host (s : State) (n : Nat) : (s.adv n).host = s.host := rfl
@[simp] theorem State.adv_locks (s : State) (n : Nat) : (s.adv n).locks = s.locks := rfl
@[simp] theorem State.adv_sealSt (s : State) (n : Nat) : (s.adv n).sealSt = s.sealSt := rfl
@[simp] theorem State.adv_pair (s : State) (n : Nat) : (s.adv n).pair = s.pair := rfl
@[simp] theorem State.adv_sys (s : State) (n : Nat) : (s.adv n).sys = s.sys := rfl
@[simp] theorem State.adv_poolW (s : State) (n : Nat) : (s.adv n).poolW = s.poolW := rfl
@[simp] theorem State.adv_poolE (s : State) (n : Nat) : (s.adv n).poolE = s.poolE := rfl
@[simp] theorem State.adv_tab (s : State) (n : Nat) : (s.adv n).tab = s.tab := rfl
@[simp] theorem State.adv_zon (s : State) (n : Nat) : (s.adv n).zon = s.zon := rfl
@[simp] theorem State.adv_egr (s : State) (n : Nat) : (s.adv n).egr = s.egr := rfl
@[simp] theorem State.adv_ports (s : State) (n : Nat) : (s.adv n).ports = s.ports := rfl
@[simp] theorem State.adv_stk (s : State) (n : Nat) : (s.adv n).stk = s.stk := rfl
@[simp] theorem State.adv_gw (s : State) (n : Nat) : (s.adv n).gw = s.gw := rfl
@[simp] theorem State.adv_img (s : State) (n : Nat) : (s.adv n).img = s.img := rfl
@[simp] theorem State.adv_pow (s : State) (n : Nat) : (s.adv n).pow = s.pow := rfl
@[simp] theorem State.adv_key (s : State) (n : Nat) : (s.adv n).key = s.key := rfl
@[simp] theorem State.adv_edge (s : State) (n : Nat) : (s.adv n).edge = s.edge := rfl
@[simp] theorem State.adv_fabW (s : State) (n : Nat) : (s.adv n).fabW = s.fabW := rfl
@[simp] theorem State.adv_fabE (s : State) (n : Nat) : (s.adv n).fabE = s.fabE := rfl
@[simp] theorem State.adv_out (s : State) (n : Nat) : (s.adv n).out = s.out := rfl
@[simp] theorem State.adv_free (s : State) (n : Nat) : (s.adv n).free = s.free := rfl

@[simp] theorem State.emit_out (s : State) (o : Output) : (s.emit o).out = s.out ++ [o] := rfl
@[simp] theorem State.useFree_free (s : State) : s.useFree.free = s.free + 1 := rfl
@[simp] theorem State.adv_tim (s : State) (n : Nat) : (s.adv n).tim = s.tim.adv n := rfl
@[simp] theorem TimeSt.adv_ticks (t : TimeSt) (n : Nat) : (t.adv n).ticks = t.ticks + n := rfl

/-! ### modPool and modFab, by die -/

@[simp] theorem State.modPool_pending (s : State) (d : Fab) (f : PoolSt → PoolSt) : (s.modPool d f).pending = s.pending := by cases d <;> rfl
@[simp] theorem State.modPool_host (s : State) (d : Fab) (f : PoolSt → PoolSt) : (s.modPool d f).host = s.host := by cases d <;> rfl
@[simp] theorem State.modPool_locks (s : State) (d : Fab) (f : PoolSt → PoolSt) : (s.modPool d f).locks = s.locks := by cases d <;> rfl
@[simp] theorem State.modPool_sealSt (s : State) (d : Fab) (f : PoolSt → PoolSt) : (s.modPool d f).sealSt = s.sealSt := by cases d <;> rfl
@[simp] theorem State.modPool_pair (s : State) (d : Fab) (f : PoolSt → PoolSt) : (s.modPool d f).pair = s.pair := by cases d <;> rfl
@[simp] theorem State.modPool_sys (s : State) (d : Fab) (f : PoolSt → PoolSt) : (s.modPool d f).sys = s.sys := by cases d <;> rfl
@[simp] theorem State.modPool_tim (s : State) (d : Fab) (f : PoolSt → PoolSt) : (s.modPool d f).tim = s.tim := by cases d <;> rfl
@[simp] theorem State.modPool_tab (s : State) (d : Fab) (f : PoolSt → PoolSt) : (s.modPool d f).tab = s.tab := by cases d <;> rfl
@[simp] theorem State.modPool_zon (s : State) (d : Fab) (f : PoolSt → PoolSt) : (s.modPool d f).zon = s.zon := by cases d <;> rfl
@[simp] theorem State.modPool_egr (s : State) (d : Fab) (f : PoolSt → PoolSt) : (s.modPool d f).egr = s.egr := by cases d <;> rfl
@[simp] theorem State.modPool_ports (s : State) (d : Fab) (f : PoolSt → PoolSt) : (s.modPool d f).ports = s.ports := by cases d <;> rfl
@[simp] theorem State.modPool_stk (s : State) (d : Fab) (f : PoolSt → PoolSt) : (s.modPool d f).stk = s.stk := by cases d <;> rfl
@[simp] theorem State.modPool_gw (s : State) (d : Fab) (f : PoolSt → PoolSt) : (s.modPool d f).gw = s.gw := by cases d <;> rfl
@[simp] theorem State.modPool_img (s : State) (d : Fab) (f : PoolSt → PoolSt) : (s.modPool d f).img = s.img := by cases d <;> rfl
@[simp] theorem State.modPool_pow (s : State) (d : Fab) (f : PoolSt → PoolSt) : (s.modPool d f).pow = s.pow := by cases d <;> rfl
@[simp] theorem State.modPool_key (s : State) (d : Fab) (f : PoolSt → PoolSt) : (s.modPool d f).key = s.key := by cases d <;> rfl
@[simp] theorem State.modPool_edge (s : State) (d : Fab) (f : PoolSt → PoolSt) : (s.modPool d f).edge = s.edge := by cases d <;> rfl
@[simp] theorem State.modPool_fabW (s : State) (d : Fab) (f : PoolSt → PoolSt) : (s.modPool d f).fabW = s.fabW := by cases d <;> rfl
@[simp] theorem State.modPool_fabE (s : State) (d : Fab) (f : PoolSt → PoolSt) : (s.modPool d f).fabE = s.fabE := by cases d <;> rfl
@[simp] theorem State.modPool_out (s : State) (d : Fab) (f : PoolSt → PoolSt) : (s.modPool d f).out = s.out := by cases d <;> rfl
@[simp] theorem State.modPool_free (s : State) (d : Fab) (f : PoolSt → PoolSt) : (s.modPool d f).free = s.free := by cases d <;> rfl
@[simp] theorem State.modFab_pending (s : State) (d : Fab) (f : FabSt → FabSt) : (s.modFab d f).pending = s.pending := by cases d <;> rfl
@[simp] theorem State.modFab_host (s : State) (d : Fab) (f : FabSt → FabSt) : (s.modFab d f).host = s.host := by cases d <;> rfl
@[simp] theorem State.modFab_locks (s : State) (d : Fab) (f : FabSt → FabSt) : (s.modFab d f).locks = s.locks := by cases d <;> rfl
@[simp] theorem State.modFab_sealSt (s : State) (d : Fab) (f : FabSt → FabSt) : (s.modFab d f).sealSt = s.sealSt := by cases d <;> rfl
@[simp] theorem State.modFab_pair (s : State) (d : Fab) (f : FabSt → FabSt) : (s.modFab d f).pair = s.pair := by cases d <;> rfl
@[simp] theorem State.modFab_sys (s : State) (d : Fab) (f : FabSt → FabSt) : (s.modFab d f).sys = s.sys := by cases d <;> rfl
@[simp] theorem State.modFab_tim (s : State) (d : Fab) (f : FabSt → FabSt) : (s.modFab d f).tim = s.tim := by cases d <;> rfl
@[simp] theorem State.modFab_poolW (s : State) (d : Fab) (f : FabSt → FabSt) : (s.modFab d f).poolW = s.poolW := by cases d <;> rfl
@[simp] theorem State.modFab_poolE (s : State) (d : Fab) (f : FabSt → FabSt) : (s.modFab d f).poolE = s.poolE := by cases d <;> rfl
@[simp] theorem State.modFab_tab (s : State) (d : Fab) (f : FabSt → FabSt) : (s.modFab d f).tab = s.tab := by cases d <;> rfl
@[simp] theorem State.modFab_zon (s : State) (d : Fab) (f : FabSt → FabSt) : (s.modFab d f).zon = s.zon := by cases d <;> rfl
@[simp] theorem State.modFab_egr (s : State) (d : Fab) (f : FabSt → FabSt) : (s.modFab d f).egr = s.egr := by cases d <;> rfl
@[simp] theorem State.modFab_ports (s : State) (d : Fab) (f : FabSt → FabSt) : (s.modFab d f).ports = s.ports := by cases d <;> rfl
@[simp] theorem State.modFab_stk (s : State) (d : Fab) (f : FabSt → FabSt) : (s.modFab d f).stk = s.stk := by cases d <;> rfl
@[simp] theorem State.modFab_gw (s : State) (d : Fab) (f : FabSt → FabSt) : (s.modFab d f).gw = s.gw := by cases d <;> rfl
@[simp] theorem State.modFab_img (s : State) (d : Fab) (f : FabSt → FabSt) : (s.modFab d f).img = s.img := by cases d <;> rfl
@[simp] theorem State.modFab_pow (s : State) (d : Fab) (f : FabSt → FabSt) : (s.modFab d f).pow = s.pow := by cases d <;> rfl
@[simp] theorem State.modFab_key (s : State) (d : Fab) (f : FabSt → FabSt) : (s.modFab d f).key = s.key := by cases d <;> rfl
@[simp] theorem State.modFab_edge (s : State) (d : Fab) (f : FabSt → FabSt) : (s.modFab d f).edge = s.edge := by cases d <;> rfl
@[simp] theorem State.modFab_out (s : State) (d : Fab) (f : FabSt → FabSt) : (s.modFab d f).out = s.out := by cases d <;> rfl
@[simp] theorem State.modFab_free (s : State) (d : Fab) (f : FabSt → FabSt) : (s.modFab d f).free = s.free := by cases d <;> rfl

/-- The pool that a change names is the one that changes. -/
theorem State.pool_modPool (s : State) (d : Fab) (f : PoolSt → PoolSt) : (s.modPool d f).pool d = f (s.pool d) := by cases d <;> rfl

/-- The pools of the other die stay. -/
theorem State.pool_modPool_other (s : State) (d : Fab) (f : PoolSt → PoolSt) : (s.modPool d f).pool d.other = s.pool d.other := by
  cases d <;> rfl

/-- The frame path that a change names is the one that changes. -/
theorem State.fab_modFab (s : State) (d : Fab) (f : FabSt → FabSt) : (s.modFab d f).fab d = f (s.fab d) := by cases d <;> rfl

/-- The frame path of the other die stays. -/
theorem State.fab_modFab_other (s : State) (d : Fab) (f : FabSt → FabSt) : (s.modFab d f).fab d.other = s.fab d.other := by cases d <;> rfl

/-- The core that a change names is the one that changes. -/
theorem State.core_modCore (s : State) (d : Fab) (f : CoreSt → CoreSt) : (s.modCore d f).core d = f (s.core d) := by cases d <;> rfl

/-- The other core stays. -/
theorem State.core_modCore_other (s : State) (d : Fab) (f : CoreSt → CoreSt) : (s.modCore d f).core d.other = s.core d.other := by
  cases d <;> rfl

/-- The path that a change names is the one that changes. -/
theorem State.path_modPath (s : State) (p : Path) (f : PathSt → PathSt) : (s.modPath p f).path p = f (s.path p) := by cases p <;> rfl

/-- Every other path stays. -/
theorem State.path_modPath_other (s : State) (p q : Path) (f : PathSt → PathSt) (h : q ≠ p) : (s.modPath p f).path q = s.path q := by
  cases p <;> cases q <;> first | rfl | exact absurd rfl h

end Sys2Proof.Machine
end

