-- ==== Sys2Proof/Laws/Wide.lean ====
section
/-! SUPPORT. What the mailbox protocol leaves: every slice of the state but paths, cores, seal, start-up, pools and the record of outputs. -/

namespace Sys2Proof
namespace Machine

set_option linter.unusedSimpArgs false

@[simp ↓] theorem State.modHost_wide (s : State) (f : HostSt → HostSt) : (s.modHost f).wide = s.wide := (rfl)

@[simp ↓] theorem State.modPath_wide (s : State) (p : Path) (f : PathSt → PathSt) : (s.modPath p f).wide = s.wide := (rfl)

@[simp ↓] theorem foldl_wide {α : Type} (f : State → α → State) (h : ∀ s a, (f s a).wide = s.wide) (l : List α) (s : State) :
    (l.foldl f s).wide = s.wide := by
  induction l generalizing s with
  | nil => rfl
  | cons a l ih => rw [List.foldl_cons, ih, h]

@[simp ↓] theorem State.modPair_wide (s : State) (f : PairSt → PairSt) : (State.modPair s f).wide = s.wide := (rfl)

@[simp ↓] theorem State.modSys_wide (s : State) (f : SysSt → SysSt) : (State.modSys s f).wide = s.wide := (rfl)

@[simp ↓] theorem State.modSeal_wide (s : State) (f : SealSt → SealSt) : (State.modSeal s f).wide = s.wide := (rfl)

@[simp ↓] theorem State.modPool_wide (s : State) (d : Fab) (f : PoolSt → PoolSt) : (State.modPool s d f).wide = s.wide := by cases d <;> rfl

@[simp ↓] theorem State.emit_wide (s : State) (o : Output) : (State.emit s o).wide = s.wide := (rfl)

@[simp ↓] theorem State.raiseAt_wide (s : State) (p : Path) (n f : Nat) : (State.raiseAt s p n f).wide = s.wide := by
  unfold State.raiseAt
  repeat' (first | (with_reducible rfl) | (simp [↓apply_ite State.wide]; done) | split | (simp [↓apply_ite State.wide, *]; done) | (grind [= State.emit_wide]) | (simp [↓apply_ite State.wide]))

@[simp ↓] theorem State.raiseHost_wide (s : State) (p : Path) (f : HostFlag) : (State.raiseHost s p f).wide = s.wide := by simp [State.raiseHost]

@[simp ↓] theorem State.raiseDie_wide (s : State) (d : Fab) (f : DieFlag) : (State.raiseDie s d f).wide = s.wide := by simp [State.raiseDie]

@[simp ↓] theorem State.raiseDev_wide (s : State) (f : DevFlag) : (State.raiseDev s f).wide = s.wide := by simp [State.raiseDev]

@[simp ↓] theorem State.satRaise_wide (s : State) (old k : Nat) (ev : State → State) (h : (ev s).wide = s.wide) : (State.satRaise s old k ev).wide = s.wide := by
  unfold State.satRaise; split <;> simp [*]

@[simp ↓] theorem State.logFault_wide (s : State) (code die detail : Nat) : (State.logFault s code die detail).wide = s.wide := by simp [State.logFault]

@[simp ↓] theorem State.logLate_wide (s : State) (p : Path) (reason address : Nat) : (State.logLate s p reason address).wide = s.wide := by simp [State.logLate, ↓apply_ite State.wide]

@[simp ↓] theorem State.addrError_wide (s : State) (d addr : Nat) : (State.addrError s d addr).wide = s.wide := by unfold State.addrError; split <;> simp

@[simp ↓] theorem State.modCtr_wide (s : State) (d : Fab) (p : Nat) (f : PoolCtr → PoolCtr) : (State.modCtr s d p f).wide = s.wide := by simp [State.modCtr]

@[simp ↓] theorem State.useUp_wide (s : State) (d : Fab) (p n : Nat) : (State.useUp s d p n).wide = s.wide := by simp [State.useUp, ↓apply_ite State.wide]

@[simp ↓] theorem State.useDown_wide (s : State) (d : Fab) (p n : Nat) : (State.useDown s d p n).wide = s.wide := by simp [State.useDown]

@[simp ↓] theorem State.poolTick_wide (s : State) (d : Fab) (p : Nat) (get : PoolCtr → Nat) (set : PoolCtr → Nat → PoolCtr) : (State.poolTick s d p get set).wide = s.wide := by simp [State.poolTick]

@[simp ↓] theorem State.emptyFail_wide (s : State) (d : Fab) (p : Nat) : (State.emptyFail s d p).wide = s.wide := by simp [State.emptyFail]

@[simp ↓] theorem State.fallback_wide (s : State) (d : Fab) (p : Nat) : (State.fallback s d p).wide = s.wide := by simp [State.fallback]

@[simp ↓] theorem State.contend_wide (s : State) (d : Fab) (p : Nat) (b : Bool) : (State.contend s d p b).wide = s.wide := by simp [State.contend, ↓apply_ite State.wide]

@[simp ↓] theorem State.errTick_wide (s : State) (d : Fab) (p kind : Nat) : (State.errTick s d p kind).wide = s.wide := by simp [State.errTick, ↓apply_ite State.wide]

@[simp ↓] theorem State.poolError_wide (s : State) (d : Fab) (kind pool index requester owner share : Nat) : (State.poolError s d kind pool index requester owner share).wide = s.wide := by simp [State.poolError, ↓apply_ite State.wide]

@[simp ↓] theorem State.putBuf_wide (s : State) (d : Fab) (p i : Nat) (r : BufRec) : (State.putBuf s d p i r).wide = s.wide := by simp [State.putBuf]

@[simp ↓] theorem State.allocFrom_wide (s : State) (d : Fab) (p x : Nat) : (State.allocFrom s d p x).1.wide = s.wide := by
  unfold State.allocFrom
  repeat' (first | (with_reducible rfl) | (simp [↓apply_ite State.wide]; done) | split | (simp [↓apply_ite State.wide, *]; done) | (grind [= State.emptyFail_wide, = State.putBuf_wide, = State.useUp_wide]) | (simp [↓apply_ite State.wide]))

theorem State.allocFrom_wide' (s : State) (d : Fab) (p x : Nat) (t) (y) (h : State.allocFrom s d p x = (t, y)) : t.wide = s.wide := by
  have := State.allocFrom_wide s d p x
  rw [h] at this; exact this

@[simp ↓] theorem State.allocFall_wide (s : State) (d : Fab) (x : Nat) (x0 : List Nat) : (State.allocFall s d x x0).1.wide = s.wide := by
  fun_induction State.allocFall s d x x0
  all_goals repeat' (first | (with_reducible rfl) | (simp [↓apply_ite State.wide]; done) | split | (simp [↓apply_ite State.wide, *]; done) | (grind [→ State.allocFrom_wide', = State.fallback_wide]) | (simp [↓apply_ite State.wide]))

theorem State.allocFall_wide' (s : State) (d : Fab) (x : Nat) (x0 : List Nat) (t) (y) (h : State.allocFall s d x x0 = (t, y)) : t.wide = s.wide := by
  have := State.allocFall_wide s d x x0
  rw [h] at this; exact this

@[simp ↓] theorem State.allocMsg_wide (s : State) (d : Fab) (x n : Nat) (fall : Bool) : (State.allocMsg s d x n fall).1.wide = s.wide := by unfold State.allocMsg; split <;> simp

theorem State.allocMsg_wide' (s : State) (d : Fab) (x n : Nat) (fall : Bool) (t) (y) (h : State.allocMsg s d x n fall = (t, y)) : t.wide = s.wide := by
  have := State.allocMsg_wide s d x n fall
  rw [h] at this; exact this

@[simp ↓] theorem State.shareMsg_wide (s : State) (d : Fab) (p i x k : Nat) : (State.shareMsg s d p i x k).1.wide = s.wide := by
  unfold State.shareMsg
  repeat' (first | (with_reducible rfl) | (simp [↓apply_ite State.wide]; done) | split | (simp [↓apply_ite State.wide, *]; done) | (grind [= State.poolError_wide, = State.putBuf_wide]) | (simp [↓apply_ite State.wide]))

theorem State.shareMsg_wide' (s : State) (d : Fab) (p i x k : Nat) (t) (y) (h : State.shareMsg s d p i x k = (t, y)) : t.wide = s.wide := by
  have := State.shareMsg_wide s d p i x k
  rw [h] at this; exact this

@[simp ↓] theorem State.releaseMsg_wide (s : State) (d : Fab) (p i x : Nat) : (State.releaseMsg s d p i x).1.wide = s.wide := by
  unfold State.releaseMsg
  repeat' (first | (with_reducible rfl) | (simp [↓apply_ite State.wide]; done) | split | (simp [↓apply_ite State.wide, *]; done) | (grind [= State.poolError_wide, = State.putBuf_wide]) | (simp [↓apply_ite State.wide]))

theorem State.releaseMsg_wide' (s : State) (d : Fab) (p i x : Nat) (t) (y) (h : State.releaseMsg s d p i x = (t, y)) : t.wide = s.wide := by
  have := State.releaseMsg_wide s d p i x
  rw [h] at this; exact this

@[simp ↓] theorem State.freeMsg_wide (s : State) (d : Fab) (p i x : Nat) : (State.freeMsg s d p i x).1.wide = s.wide := by
  unfold State.freeMsg
  repeat' (first | (with_reducible rfl) | (simp [↓apply_ite State.wide]; done) | split | (simp [↓apply_ite State.wide, *]; done) | (grind [= State.poolError_wide, = State.putBuf_wide, = State.useDown_wide]) | (simp [↓apply_ite State.wide]))

theorem State.freeMsg_wide' (s : State) (d : Fab) (p i x : Nat) (t) (y) (h : State.freeMsg s d p i x = (t, y)) : t.wide = s.wide := by
  have := State.freeMsg_wide s d p i x
  rw [h] at this; exact this

@[simp ↓] theorem State.handOver_wide (s : State) (d : Fab) (p i x y : Nat) : (State.handOver s d p i x y).wide = s.wide := by simp [State.handOver]

@[simp ↓] theorem State.grantCell_wide (s : State) (d : Fab) (x : Nat) : (State.grantCell s d x).1.wide = s.wide := by unfold State.grantCell; split <;> simp

theorem State.grantCell_wide' (s : State) (d : Fab) (x : Nat) (t) (y) (h : State.grantCell s d x = (t, y)) : t.wide = s.wide := by
  have := State.grantCell_wide s d x
  rw [h] at this; exact this

@[simp ↓] theorem State.freeCell_wide (s : State) (d : Fab) (c : Nat) : (State.freeCell s d c).wide = s.wide := by simp [State.freeCell]

@[simp ↓] theorem State.freeWalk_wide (s : State) (d : Fab) (x : Nat) (x0 : Nat) (x1 : Nat) : (State.freeWalk s d x x0 x1).wide = s.wide := by
  fun_induction State.freeWalk s d x x0 x1
  all_goals repeat' (first | (with_reducible rfl) | (simp [↓apply_ite State.wide]; done) | split | (simp [↓apply_ite State.wide, *]; done) | (grind [= State.freeCell_wide, = State.poolError_wide]) | (simp [↓apply_ite State.wide]))

@[simp ↓] theorem State.shareCell_wide (s : State) (d : Fab) (c x k : Nat) : (State.shareCell s d c x k).1.wide = s.wide := by
  unfold State.shareCell
  repeat' (first | (with_reducible rfl) | (simp [↓apply_ite State.wide]; done) | split | (simp [↓apply_ite State.wide, *]; done) | (grind [= State.modPool_wide, = State.poolError_wide]) | (simp [↓apply_ite State.wide]))

theorem State.shareCell_wide' (s : State) (d : Fab) (c x k : Nat) (t) (y) (h : State.shareCell s d c x k = (t, y)) : t.wide = s.wide := by
  have := State.shareCell_wide s d c x k
  rw [h] at this; exact this

@[simp ↓] theorem State.releaseCell_wide (s : State) (d : Fab) (c x : Nat) : (State.releaseCell s d c x).1.wide = s.wide := by
  unfold State.releaseCell
  repeat' (first | (with_reducible rfl) | (simp [↓apply_ite State.wide]; done) | split | (simp [↓apply_ite State.wide, *]; done) | (grind [= State.modPool_wide, = State.poolError_wide]) | (simp [↓apply_ite State.wide]))

theorem State.releaseCell_wide' (s : State) (d : Fab) (c x : Nat) (t) (y) (h : State.releaseCell s d c x = (t, y)) : t.wide = s.wide := by
  have := State.releaseCell_wide s d c x
  rw [h] at this; exact this

@[simp ↓] theorem State.freeCellChain_wide (s : State) (d : Fab) (c x : Nat) : (State.freeCellChain s d c x).1.wide = s.wide := by
  unfold State.freeCellChain
  repeat' (first | (with_reducible rfl) | (simp [↓apply_ite State.wide]; done) | split | (simp [↓apply_ite State.wide, *]; done) | (grind [= State.freeWalk_wide, = State.poolError_wide]) | (simp [↓apply_ite State.wide]))

theorem State.freeCellChain_wide' (s : State) (d : Fab) (c x : Nat) (t) (y) (h : State.freeCellChain s d c x = (t, y)) : t.wide = s.wide := by
  have := State.freeCellChain_wide s d c x
  rw [h] at this; exact this

@[simp ↓] theorem State.grantUnits_wide (s : State) (d : Fab) (c : Nat) (us : List Nat) : (State.grantUnits s d c us).wide = s.wide := by simp [State.grantUnits]

@[simp ↓] theorem State.freeUnit_wide (s : State) (d : Fab) (c u x : Nat) : (State.freeUnit s d c u x).1.wide = s.wide := by
  unfold State.freeUnit
  repeat' (first | (with_reducible rfl) | (simp [↓apply_ite State.wide]; done) | split | (simp [↓apply_ite State.wide, *]; done) | (grind [= State.modPool_wide, = State.poolError_wide, = State.useDown_wide]) | (simp [↓apply_ite State.wide]))

theorem State.freeUnit_wide' (s : State) (d : Fab) (c u x : Nat) (t) (y) (h : State.freeUnit s d c u x = (t, y)) : t.wide = s.wide := by
  have := State.freeUnit_wide s d c u x
  rw [h] at this; exact this

@[simp ↓] theorem State.freeUnits_wide (s : State) (d : Fab) (c x : Nat) (us : List Nat) : (State.freeUnits s d c x us).wide = s.wide := by simp [State.freeUnits]

@[simp ↓] theorem State.modCore_wide (s : State) (c : Fab) (f : CoreSt → CoreSt) : (State.modCore s c f).wide = s.wide := (rfl)

@[simp ↓] theorem State.coreTick_wide (s : State) (c : Fab) (get : CoreSt → Nat) (set : CoreSt → Nat → CoreSt) : (State.coreTick s c get set).wide = s.wide := by simp [State.coreTick]

@[simp ↓] theorem State.becomeStale_wide (s : State) : (State.becomeStale s).wide = s.wide := by simp [State.becomeStale, ↓apply_ite State.wide]

@[simp ↓] theorem State.journal_wide (s : State) (kind : Nat) (payload : List Word) : (State.journal s kind payload).wide = s.wide := by
  unfold State.journal
  repeat' (first | (with_reducible rfl) | (simp [↓apply_ite State.wide]; done) | split | (simp [↓apply_ite State.wide, *]; done) | (grind [→ State.allocMsg_wide', = State.becomeStale_wide, = State.modCore_wide, = State.modPair_wide]) | (simp [↓apply_ite State.wide]))

@[simp ↓] theorem State.mirrorOut_wide (s : State) (ks : List Nat) : (State.mirrorOut s ks).wide = s.wide := by simp [State.mirrorOut]

@[simp ↓] theorem State.sendSnapshot_wide (s0 : State) : (State.sendSnapshot s0).wide = s0.wide := by simp [State.sendSnapshot]

@[simp ↓] theorem State.startCatchUp_wide (s : State) : (State.startCatchUp s).wide = s.wide := by simp [State.startCatchUp]

@[simp ↓] theorem Reply.fail_wide (s : State) (c : Code) : (Reply.fail s c).st.wide = s.wide := (rfl)

@[simp ↓] theorem State.freeBufs_wide (s : State) (bufs : List (Fab × Nat × Nat)) : (State.freeBufs s bufs).wide = s.wide := by simp [State.freeBufs]

@[simp ↓] theorem State.fifoPut_wide (s : State) (p : Path) (ws : List Word) : (State.fifoPut s p ws).wide = s.wide := by simp [State.fifoPut, ↓apply_ite State.wide]

@[simp ↓] theorem State.place_wide (s : State) (pd : Pend) (intent : Bool) (ws : List Word) : (State.place s pd intent ws).wide = s.wide := by
  unfold State.place
  repeat' (first | (with_reducible rfl) | (simp [↓apply_ite State.wide]; done) | split | (simp [↓apply_ite State.wide, *]; done) | (grind [= State.emit_wide, = State.fifoPut_wide, = State.freeBufs_wide]) | (simp [↓apply_ite State.wide]))

@[simp ↓] theorem State.respond_wide (s : State) (pd : Pend) (c : Code) (payload : List Word) (cs : List Clamp) (intent : Bool) : (State.respond s pd c payload cs intent).wide = s.wide := by simp [State.respond, ↓apply_ite State.wide]

@[simp ↓] theorem State.requestBufs_wide (s : State) (r : Req) : (State.requestBufs s r).1.wide = s.wide := by
  unfold State.requestBufs
  repeat' (first | (with_reducible rfl) | (simp [↓apply_ite State.wide]; done) | split | (simp [↓apply_ite State.wide, *]; done) | (grind [→ State.allocMsg_wide', = State.freeBufs_wide]) | (simp [↓apply_ite State.wide]))

theorem State.requestBufs_wide' (s : State) (r : Req) (t) (y) (h : State.requestBufs s r = (t, y)) : t.wide = s.wide := by
  have := State.requestBufs_wide s r
  rw [h] at this; exact this

@[simp ↓] theorem State.unseal_wide (s : State) (op : Nat) (r : Req) : (State.unseal s op r).wide = s.wide := by simp [State.unseal, ↓apply_ite State.wide]

@[simp ↓] theorem State.written_wide (s : State) (op : Nat) (r : Req) : (State.written s op r).wide = s.wide := by simp [State.written]

@[simp ↓] theorem CmdSpec.judge_wide (sp : CmdSpec) (r : Req) (s : State) (h : ∀ r s, (sp.run r s).st.wide = s.wide) : (sp.judge r s).1.st.wide = s.wide := by
  unfold CmdSpec.judge
  repeat' (first | (with_reducible rfl) | (simp [Reply.fail, ↓apply_ite Reply.st, ↓apply_ite State.wide]; done) | split | (simp [Reply.fail, ↓apply_ite Reply.st, ↓apply_ite State.wide, *]; done) | (grind []) | (simp [Reply.fail, ↓apply_ite Reply.st, ↓apply_ite State.wide]))

@[simp ↓] theorem CmdSpec.take_wide (sp : CmdSpec) (pd : Pend) (s : State) (h : ∀ r s, (sp.run r s).st.wide = s.wide) : (CmdSpec.take sp pd s).wide = s.wide := by
  unfold CmdSpec.take
  repeat' (first | (with_reducible rfl) | (simp [↓apply_ite State.wide]; done) | split | (simp [↓apply_ite State.wide, *]; done) | (grind [= State.journal_wide, = State.mirrorOut_wide, = State.respond_wide, = State.written_wide]) | (simp [↓apply_ite State.wide]))

@[simp ↓] theorem CmdSpec.serve_wide (sp : CmdSpec) (r : Req) (s : State) (h : ∀ r s, (sp.run r s).st.wide = s.wide) : (CmdSpec.serve sp r s).wide = s.wide := by
  unfold CmdSpec.serve
  repeat' (first | (with_reducible rfl) | (simp [↓apply_ite State.wide]; done) | split | (simp [↓apply_ite State.wide, *]; done) | (grind [= State.respond_wide, = CmdSpec.take_wide]) | (simp [↓apply_ite State.wide]))

@[simp ↓] theorem State.answerBad_wide (s : State) (p : Path) (x0 : Nat) : (State.answerBad s p x0).wide = s.wide := by
  induction x0 generalizing s with
  | zero => rfl
  | succ n ih =>
    unfold State.answerBad
    repeat' split
    all_goals simp [ih]

@[simp ↓] theorem State.finish_wide (s : State) (p : Path) (c : Code) (payload : List Word) (kinds : List Nat) : (State.finish s p c payload kinds).wide = s.wide := by
  unfold State.finish
  repeat' (first | (with_reducible rfl) | (simp [↓apply_ite State.wide]; done) | split | (simp [↓apply_ite State.wide, *]; done) | (grind [= State.journal_wide, = State.mirrorOut_wide, = State.respond_wide, = State.written_wide]) | (simp [↓apply_ite State.wide]))

end Machine
end Sys2Proof
end

