-- ==== Sys2Proof/Laws/Lines.lean ====
section
/-! SUPPORT. What leaves the queues of every path: the requests waiting, the responses in the FIFO, those held and the request that runs. -/

namespace Sys2Proof
namespace Machine

set_option linter.unusedSimpArgs false

/-- The queues of every path. -/
def State.lines (s : State) : Path → List Pend × List Word × List HeldRsp × Option Running :=
  fun p => ((s.path p).waiting, (s.path p).fifo, (s.path p).held, (s.path p).running)

@[simp ↓] theorem State.modPath_lines (s : State) (p : Path) (f : PathSt → PathSt) (h1 : ∀ q, (f q).waiting = q.waiting)
    (h2 : ∀ q, (f q).fifo = q.fifo) (h3 : ∀ q, (f q).held = q.held)
    (h4 : ∀ q, (f q).running = q.running) : (s.modPath p f).lines = s.lines := by
  funext p'
  cases p <;> cases p' <;> simp [State.lines, State.modPath, State.modHost, State.path, HostSt.modPath, HostSt.path, h1, h2, h3, h4]

@[simp] theorem PathSt.setEv_waiting (q : PathSt) (n : Nat) (r : EvReg) : (q.setEv n r).waiting = q.waiting := by
  unfold PathSt.setEv; split <;> rfl

@[simp] theorem PathSt.setEv_fifo (q : PathSt) (n : Nat) (r : EvReg) : (q.setEv n r).fifo = q.fifo := by
  unfold PathSt.setEv; split <;> rfl

@[simp] theorem PathSt.setEv_held (q : PathSt) (n : Nat) (r : EvReg) : (q.setEv n r).held = q.held := by
  unfold PathSt.setEv; split <;> rfl

@[simp] theorem PathSt.setEv_running (q : PathSt) (n : Nat) (r : EvReg) : (q.setEv n r).running = q.running := by
  unfold PathSt.setEv; split <;> rfl

@[simp] theorem PathSt.noticed_running (q : PathSt) : q.noticed.running = q.running := (rfl)
@[simp] theorem PathSt.noticed_waiting (q : PathSt) : q.noticed.waiting = q.waiting := (rfl)
@[simp] theorem PathSt.noticed_fifo (q : PathSt) : q.noticed.fifo = q.fifo := (rfl)
@[simp] theorem PathSt.noticed_held (q : PathSt) : q.noticed.held = q.held := (rfl)

@[simp ↓] theorem foldl_lines {α : Type} (f : State → α → State) (h : ∀ s a, (f s a).lines = s.lines) (l : List α) (s : State) :
    (l.foldl f s).lines = s.lines := by
  induction l generalizing s with
  | nil => rfl
  | cons a l ih => rw [List.foldl_cons, ih, h]

@[simp ↓] theorem State.modKey_lines (s : State) (f : KeySt → KeySt) : (s.modKey f).lines = s.lines := (rfl)

@[simp ↓] theorem State.modLocks_lines (s : State) (f : LockSt → LockSt) : (s.modLocks f).lines = s.lines := (rfl)

@[simp ↓] theorem State.modPair_lines (s : State) (f : PairSt → PairSt) : (State.modPair s f).lines = s.lines := (rfl)

@[simp ↓] theorem State.modSys_lines (s : State) (f : SysSt → SysSt) : (State.modSys s f).lines = s.lines := (rfl)

@[simp ↓] theorem State.modTim_lines (s : State) (f : TimeSt → TimeSt) : (State.modTim s f).lines = s.lines := (rfl)

@[simp ↓] theorem State.modSeal_lines (s : State) (f : SealSt → SealSt) : (State.modSeal s f).lines = s.lines := (rfl)

@[simp ↓] theorem State.modPool_lines (s : State) (d : Fab) (f : PoolSt → PoolSt) : (State.modPool s d f).lines = s.lines := by cases d <;> rfl

@[simp ↓] theorem State.modTab_lines (s : State) (f : TabSt → TabSt) : (State.modTab s f).lines = s.lines := (rfl)

@[simp ↓] theorem State.modZon_lines (s : State) (f : ZoneSt → ZoneSt) : (State.modZon s f).lines = s.lines := (rfl)

@[simp ↓] theorem State.modEgr_lines (s : State) (f : EgressSt → EgressSt) : (State.modEgr s f).lines = s.lines := (rfl)

@[simp ↓] theorem State.modStk_lines (s : State) (f : StackSt → StackSt) : (State.modStk s f).lines = s.lines := (rfl)

@[simp ↓] theorem State.modGw_lines (s : State) (f : GwSt → GwSt) : (State.modGw s f).lines = s.lines := (rfl)

@[simp ↓] theorem State.modImg_lines (s : State) (f : ImgSt → ImgSt) : (State.modImg s f).lines = s.lines := (rfl)

@[simp ↓] theorem State.modPow_lines (s : State) (f : PowerSt → PowerSt) : (State.modPow s f).lines = s.lines := (rfl)

@[simp ↓] theorem State.modEdge_lines (s : State) (f : EdgeSt → EdgeSt) : (State.modEdge s f).lines = s.lines := (rfl)

@[simp ↓] theorem State.modPort_lines (s : State) (p : Nat) (f : PortSt → PortSt) : (State.modPort s p f).lines = s.lines := (rfl)

@[simp ↓] theorem State.modFab_lines (s : State) (d : Fab) (f : FabSt → FabSt) : (State.modFab s d f).lines = s.lines := by cases d <;> rfl

@[simp ↓] theorem State.emit_lines (s : State) (o : Output) : (State.emit s o).lines = s.lines := (rfl)

@[simp ↓] theorem State.useFree_lines (s : State) : (State.useFree s).lines = s.lines := (rfl)

@[simp ↓] theorem State.raiseAt_lines (s : State) (p : Path) (n f : Nat) : (State.raiseAt s p n f).lines = s.lines := by
  unfold State.raiseAt
  repeat' (first | (with_reducible rfl) | (simp [↓apply_ite State.lines]; done) | split | (simp [↓apply_ite State.lines, *]; done) | (grind [= State.emit_lines]) | (simp [↓apply_ite State.lines]))

@[simp ↓] theorem State.raiseHost_lines (s : State) (p : Path) (f : HostFlag) : (State.raiseHost s p f).lines = s.lines := by simp [State.raiseHost]

@[simp ↓] theorem State.raiseDie_lines (s : State) (d : Fab) (f : DieFlag) : (State.raiseDie s d f).lines = s.lines := by simp [State.raiseDie]

@[simp ↓] theorem State.raiseDev_lines (s : State) (f : DevFlag) : (State.raiseDev s f).lines = s.lines := by simp [State.raiseDev]

@[simp ↓] theorem State.satRaise_lines (s : State) (old k : Nat) (ev : State → State) (h : (ev s).lines = s.lines) : (State.satRaise s old k ev).lines = s.lines := by
  unfold State.satRaise; split <;> simp [*]

@[simp ↓] theorem State.logFault_lines (s : State) (code die detail : Nat) : (State.logFault s code die detail).lines = s.lines := by simp [State.logFault]

@[simp ↓] theorem State.modSpi_lines (s : State) (f : SpiSt → SpiSt) : (s.modHost fun h => { h with spiT := f h.spiT }).lines = s.lines := (rfl)

@[simp ↓] theorem State.logLate_lines (s : State) (p : Path) (reason address : Nat) : (s.logLate p reason address).lines = s.lines := by
  unfold State.logLate; dsimp only; repeat' split
  all_goals first
    | (simp; done)
    | (show (State.modHost _ _).lines = _; rw [State.modSpi_lines _ fun q => { q with lastErr := true }]; simp)

@[simp ↓] theorem State.addrError_lines (s : State) (d addr : Nat) : (State.addrError s d addr).lines = s.lines := by unfold State.addrError; split <;> simp

@[simp ↓] theorem State.modCtr_lines (s : State) (d : Fab) (p : Nat) (f : PoolCtr → PoolCtr) : (State.modCtr s d p f).lines = s.lines := by simp [State.modCtr]

@[simp ↓] theorem State.useUp_lines (s : State) (d : Fab) (p n : Nat) : (State.useUp s d p n).lines = s.lines := by simp [State.useUp, ↓apply_ite State.lines]

@[simp ↓] theorem State.useDown_lines (s : State) (d : Fab) (p n : Nat) : (State.useDown s d p n).lines = s.lines := by simp [State.useDown]

@[simp ↓] theorem State.poolTick_lines (s : State) (d : Fab) (p : Nat) (get : PoolCtr → Nat) (set : PoolCtr → Nat → PoolCtr) : (State.poolTick s d p get set).lines = s.lines := by simp [State.poolTick]

@[simp ↓] theorem State.emptyFail_lines (s : State) (d : Fab) (p : Nat) : (State.emptyFail s d p).lines = s.lines := by simp [State.emptyFail]

@[simp ↓] theorem State.fallback_lines (s : State) (d : Fab) (p : Nat) : (State.fallback s d p).lines = s.lines := by simp [State.fallback]

@[simp ↓] theorem State.contend_lines (s : State) (d : Fab) (p : Nat) (b : Bool) : (State.contend s d p b).lines = s.lines := by simp [State.contend, ↓apply_ite State.lines]

@[simp ↓] theorem State.errTick_lines (s : State) (d : Fab) (p kind : Nat) : (State.errTick s d p kind).lines = s.lines := by simp [State.errTick, ↓apply_ite State.lines]

@[simp ↓] theorem State.poolError_lines (s : State) (d : Fab) (kind pool index requester owner share : Nat) : (State.poolError s d kind pool index requester owner share).lines = s.lines := by simp [State.poolError, ↓apply_ite State.lines]

@[simp ↓] theorem State.putBuf_lines (s : State) (d : Fab) (p i : Nat) (r : BufRec) : (State.putBuf s d p i r).lines = s.lines := by simp [State.putBuf]

@[simp ↓] theorem State.allocFrom_lines (s : State) (d : Fab) (p x : Nat) : (State.allocFrom s d p x).1.lines = s.lines := by
  unfold State.allocFrom
  repeat' (first | (with_reducible rfl) | (simp [↓apply_ite State.lines]; done) | split | (simp [↓apply_ite State.lines, *]; done) | (grind [= State.emptyFail_lines, = State.putBuf_lines, = State.useUp_lines]) | (simp [↓apply_ite State.lines]))

theorem State.allocFrom_lines' (s : State) (d : Fab) (p x : Nat) (t) (y) (h : State.allocFrom s d p x = (t, y)) : t.lines = s.lines := by
  have := State.allocFrom_lines s d p x
  rw [h] at this; exact this

@[simp ↓] theorem State.allocFall_lines (s : State) (d : Fab) (x : Nat) (x0 : List Nat) : (State.allocFall s d x x0).1.lines = s.lines := by
  fun_induction State.allocFall s d x x0
  all_goals repeat' (first | (with_reducible rfl) | (simp [↓apply_ite State.lines]; done) | split | (simp [↓apply_ite State.lines, *]; done) | (grind [→ State.allocFrom_lines', = State.fallback_lines]) | (simp [↓apply_ite State.lines]))

theorem State.allocFall_lines' (s : State) (d : Fab) (x : Nat) (x0 : List Nat) (t) (y) (h : State.allocFall s d x x0 = (t, y)) : t.lines = s.lines := by
  have := State.allocFall_lines s d x x0
  rw [h] at this; exact this

@[simp ↓] theorem State.allocMsg_lines (s : State) (d : Fab) (x n : Nat) (fall : Bool) : (State.allocMsg s d x n fall).1.lines = s.lines := by unfold State.allocMsg; split <;> simp

theorem State.allocMsg_lines' (s : State) (d : Fab) (x n : Nat) (fall : Bool) (t) (y) (h : State.allocMsg s d x n fall = (t, y)) : t.lines = s.lines := by
  have := State.allocMsg_lines s d x n fall
  rw [h] at this; exact this

@[simp ↓] theorem State.shareMsg_lines (s : State) (d : Fab) (p i x k : Nat) : (State.shareMsg s d p i x k).1.lines = s.lines := by
  unfold State.shareMsg
  repeat' (first | (with_reducible rfl) | (simp [↓apply_ite State.lines]; done) | split | (simp [↓apply_ite State.lines, *]; done) | (grind [= State.poolError_lines, = State.putBuf_lines]) | (simp [↓apply_ite State.lines]))

theorem State.shareMsg_lines' (s : State) (d : Fab) (p i x k : Nat) (t) (y) (h : State.shareMsg s d p i x k = (t, y)) : t.lines = s.lines := by
  have := State.shareMsg_lines s d p i x k
  rw [h] at this; exact this

@[simp ↓] theorem State.releaseMsg_lines (s : State) (d : Fab) (p i x : Nat) : (State.releaseMsg s d p i x).1.lines = s.lines := by
  unfold State.releaseMsg
  repeat' (first | (with_reducible rfl) | (simp [↓apply_ite State.lines]; done) | split | (simp [↓apply_ite State.lines, *]; done) | (grind [= State.poolError_lines, = State.putBuf_lines]) | (simp [↓apply_ite State.lines]))

theorem State.releaseMsg_lines' (s : State) (d : Fab) (p i x : Nat) (t) (y) (h : State.releaseMsg s d p i x = (t, y)) : t.lines = s.lines := by
  have := State.releaseMsg_lines s d p i x
  rw [h] at this; exact this

@[simp ↓] theorem State.freeMsg_lines (s : State) (d : Fab) (p i x : Nat) : (State.freeMsg s d p i x).1.lines = s.lines := by
  unfold State.freeMsg
  repeat' (first | (with_reducible rfl) | (simp [↓apply_ite State.lines]; done) | split | (simp [↓apply_ite State.lines, *]; done) | (grind [= State.poolError_lines, = State.putBuf_lines, = State.useDown_lines]) | (simp [↓apply_ite State.lines]))

theorem State.freeMsg_lines' (s : State) (d : Fab) (p i x : Nat) (t) (y) (h : State.freeMsg s d p i x = (t, y)) : t.lines = s.lines := by
  have := State.freeMsg_lines s d p i x
  rw [h] at this; exact this

@[simp ↓] theorem State.handOver_lines (s : State) (d : Fab) (p i x y : Nat) : (State.handOver s d p i x y).lines = s.lines := by simp [State.handOver]

@[simp ↓] theorem State.grantCell_lines (s : State) (d : Fab) (x : Nat) : (State.grantCell s d x).1.lines = s.lines := by unfold State.grantCell; split <;> simp

theorem State.grantCell_lines' (s : State) (d : Fab) (x : Nat) (t) (y) (h : State.grantCell s d x = (t, y)) : t.lines = s.lines := by
  have := State.grantCell_lines s d x
  rw [h] at this; exact this

@[simp ↓] theorem State.freeCell_lines (s : State) (d : Fab) (c : Nat) : (State.freeCell s d c).lines = s.lines := by simp [State.freeCell]

@[simp ↓] theorem State.freeWalk_lines (s : State) (d : Fab) (x : Nat) (x0 : Nat) (x1 : Nat) : (State.freeWalk s d x x0 x1).lines = s.lines := by
  fun_induction State.freeWalk s d x x0 x1
  all_goals repeat' (first | (with_reducible rfl) | (simp [↓apply_ite State.lines]; done) | split | (simp [↓apply_ite State.lines, *]; done) | (grind [= State.freeCell_lines, = State.poolError_lines]) | (simp [↓apply_ite State.lines]))

@[simp ↓] theorem State.shareCell_lines (s : State) (d : Fab) (c x k : Nat) : (State.shareCell s d c x k).1.lines = s.lines := by
  unfold State.shareCell
  repeat' (first | (with_reducible rfl) | (simp [↓apply_ite State.lines]; done) | split | (simp [↓apply_ite State.lines, *]; done) | (grind [= State.modPool_lines, = State.poolError_lines]) | (simp [↓apply_ite State.lines]))

theorem State.shareCell_lines' (s : State) (d : Fab) (c x k : Nat) (t) (y) (h : State.shareCell s d c x k = (t, y)) : t.lines = s.lines := by
  have := State.shareCell_lines s d c x k
  rw [h] at this; exact this

@[simp ↓] theorem State.releaseCell_lines (s : State) (d : Fab) (c x : Nat) : (State.releaseCell s d c x).1.lines = s.lines := by
  unfold State.releaseCell
  repeat' (first | (with_reducible rfl) | (simp [↓apply_ite State.lines]; done) | split | (simp [↓apply_ite State.lines, *]; done) | (grind [= State.modPool_lines, = State.poolError_lines]) | (simp [↓apply_ite State.lines]))

theorem State.releaseCell_lines' (s : State) (d : Fab) (c x : Nat) (t) (y) (h : State.releaseCell s d c x = (t, y)) : t.lines = s.lines := by
  have := State.releaseCell_lines s d c x
  rw [h] at this; exact this

@[simp ↓] theorem State.freeCellChain_lines (s : State) (d : Fab) (c x : Nat) : (State.freeCellChain s d c x).1.lines = s.lines := by
  unfold State.freeCellChain
  repeat' (first | (with_reducible rfl) | (simp [↓apply_ite State.lines]; done) | split | (simp [↓apply_ite State.lines, *]; done) | (grind [= State.freeWalk_lines, = State.poolError_lines]) | (simp [↓apply_ite State.lines]))

theorem State.freeCellChain_lines' (s : State) (d : Fab) (c x : Nat) (t) (y) (h : State.freeCellChain s d c x = (t, y)) : t.lines = s.lines := by
  have := State.freeCellChain_lines s d c x
  rw [h] at this; exact this

@[simp ↓] theorem State.grantUnits_lines (s : State) (d : Fab) (c : Nat) (us : List Nat) : (State.grantUnits s d c us).lines = s.lines := by simp [State.grantUnits]

@[simp ↓] theorem State.freeUnit_lines (s : State) (d : Fab) (c u x : Nat) : (State.freeUnit s d c u x).1.lines = s.lines := by
  unfold State.freeUnit
  repeat' (first | (with_reducible rfl) | (simp [↓apply_ite State.lines]; done) | split | (simp [↓apply_ite State.lines, *]; done) | (grind [= State.modPool_lines, = State.poolError_lines, = State.useDown_lines]) | (simp [↓apply_ite State.lines]))

theorem State.freeUnit_lines' (s : State) (d : Fab) (c u x : Nat) (t) (y) (h : State.freeUnit s d c u x = (t, y)) : t.lines = s.lines := by
  have := State.freeUnit_lines s d c u x
  rw [h] at this; exact this

@[simp ↓] theorem State.freeUnits_lines (s : State) (d : Fab) (c x : Nat) (us : List Nat) : (State.freeUnits s d c x us).lines = s.lines := by simp [State.freeUnits]

@[simp ↓] theorem State.modCore_lines (s : State) (c : Fab) (f : CoreSt → CoreSt) : (State.modCore s c f).lines = s.lines := (rfl)

@[simp ↓] theorem State.coreTick_lines (s : State) (c : Fab) (get : CoreSt → Nat) (set : CoreSt → Nat → CoreSt) : (State.coreTick s c get set).lines = s.lines := by simp [State.coreTick]

@[simp ↓] theorem State.becomeStale_lines (s : State) : (State.becomeStale s).lines = s.lines := by simp [State.becomeStale, ↓apply_ite State.lines]

@[simp ↓] theorem State.journal_lines (s : State) (kind : Nat) (payload : List Word) : (State.journal s kind payload).lines = s.lines := by
  unfold State.journal
  repeat' (first | (with_reducible rfl) | (simp [↓apply_ite State.lines]; done) | split | (simp [↓apply_ite State.lines, *]; done) | (grind [→ State.allocMsg_lines', = State.becomeStale_lines, = State.modCore_lines, = State.modPair_lines]) | (simp [↓apply_ite State.lines]))

@[simp ↓] theorem State.mirrorOut_lines (s : State) (ks : List Nat) : (State.mirrorOut s ks).lines = s.lines := by simp [State.mirrorOut]

@[simp ↓] theorem State.sendSnapshot_lines (s0 : State) : (State.sendSnapshot s0).lines = s0.lines := by simp [State.sendSnapshot]

@[simp ↓] theorem State.startCatchUp_lines (s : State) : (State.startCatchUp s).lines = s.lines := by simp [State.startCatchUp]

@[simp ↓] theorem State.freeBufs_lines (s : State) (bufs : List (Fab × Nat × Nat)) : (State.freeBufs s bufs).lines = s.lines := by simp [State.freeBufs]

@[simp ↓] theorem State.unseal_lines (s : State) (op : Nat) (r : Req) : (State.unseal s op r).lines = s.lines := by simp [State.unseal, ↓apply_ite State.lines]

@[simp ↓] theorem State.written_lines (s : State) (op : Nat) (r : Req) : (State.written s op r).lines = s.lines := by simp [State.written]

end Machine
end Sys2Proof
end

