-- ==== Sys2Proof/Laws/Deep.lean ====
section
/-! SUPPORT. What the mailbox protocol leaves inside the slices that it touches: cores but their journal, start-up but its log and save
area, seal but VALID, and pools but the message buffers. -/

namespace Sys2Proof
namespace Machine

set_option linter.unusedSimpArgs false

/-- Start-up without its log, its save area and the note of Cuff changes. -/
def SysSt.rest (y : SysSt) : SysSt := { y with log := [], logTotal := 0, save := [], cuffChanged := false }

/-- The seal without VALID. -/
def SealSt.rest (l : SealSt) : SealSt := { l with valid := 0 }

/-- A die's pools without its message buffers, counters and error log. -/
def PoolSt.rest (q : PoolSt) : PoolSt := { q with mp64 := [], mp256 := [], mp2k := [], ctr := [], errLog := [], errTotal := 0 }

/-- What the protocol leaves of the slices that it touches. -/
def State.deep (s : State) : PairSt × SysSt × SealSt × PoolSt × PoolSt :=
  (s.pair.rest, s.sys.rest, s.sealSt.rest, s.poolW.rest, s.poolE.rest)

@[simp] theorem PoolSt.rest_setMsg (q : PoolSt) (p : Nat) (t : Tbl BufRec) : (q.setMsg p t).rest = q.rest := by
  unfold PoolSt.setMsg; split <;> rfl

@[simp ↓] theorem State.modHost_deep (s : State) (f : HostSt → HostSt) : (s.modHost f).deep = s.deep := (rfl)

@[simp ↓] theorem State.modPath_deep (s : State) (p : Path) (f : PathSt → PathSt) : (s.modPath p f).deep = s.deep := (rfl)

@[simp ↓] theorem State.modKey_deep (s : State) (f : KeySt → KeySt) : (s.modKey f).deep = s.deep := (rfl)

@[simp ↓] theorem State.modPair_deep (s : State) (f : PairSt → PairSt) (h : ∀ p, (f p).rest = p.rest) : (s.modPair f).deep = s.deep := by
  simp [State.deep, h]

@[simp ↓] theorem State.modSys_deep (s : State) (f : SysSt → SysSt) (h : ∀ p, (f p).rest = p.rest) : (s.modSys f).deep = s.deep := by
  simp [State.deep, h]

@[simp ↓] theorem State.modSeal_deep (s : State) (f : SealSt → SealSt) (h : ∀ p, (f p).rest = p.rest) : (s.modSeal f).deep = s.deep := by
  simp [State.deep, h]

@[simp ↓] theorem State.modPool_deep (s : State) (d : Fab) (f : PoolSt → PoolSt) (h : ∀ p, (f p).rest = p.rest) :
    (s.modPool d f).deep = s.deep := by
  cases d <;> simp [State.modPool, State.deep, h]

@[simp ↓] theorem State.modCtr_deep (s : State) (d : Fab) (p : Nat) (f : PoolCtr → PoolCtr) : (s.modCtr d p f).deep = s.deep := by
  cases d <;> rfl

theorem PairSt.modCore_rest (p : PairSt) (c : Fab) (f : CoreSt → CoreSt) (h : ∀ k, (f k).rest = k.rest) : (p.modCore c f).rest = p.rest := by
  cases c <;> simp [PairSt.modCore, PairSt.rest, h]

@[simp ↓] theorem State.modCore_deep (s : State) (c : Fab) (f : CoreSt → CoreSt) (h : ∀ k, (f k).rest = k.rest) :
    (s.modCore c f).deep = s.deep := State.modPair_deep _ _ fun p => PairSt.modCore_rest p c f h

@[simp ↓] theorem foldl_deep {α : Type} (f : State → α → State) (h : ∀ s a, (f s a).deep = s.deep) (l : List α) (s : State) :
    (l.foldl f s).deep = s.deep := by
  induction l generalizing s with
  | nil => rfl
  | cons a l ih => rw [List.foldl_cons, ih, h]

@[simp ↓] theorem State.emit_deep (s : State) (o : Output) : (State.emit s o).deep = s.deep := (rfl)

@[simp ↓] theorem State.raiseAt_deep (s : State) (p : Path) (n f : Nat) : (State.raiseAt s p n f).deep = s.deep := by
  unfold State.raiseAt
  repeat' (first | (with_reducible rfl) | (simp [↓apply_ite State.deep]; done) | split | (simp [↓apply_ite State.deep, *]; done) | (grind [= State.emit_deep]) | (simp [↓apply_ite State.deep]))

@[simp ↓] theorem State.raiseHost_deep (s : State) (p : Path) (f : HostFlag) : (State.raiseHost s p f).deep = s.deep := by simp [State.raiseHost]

@[simp ↓] theorem State.raiseDie_deep (s : State) (d : Fab) (f : DieFlag) : (State.raiseDie s d f).deep = s.deep := by simp [State.raiseDie]

@[simp ↓] theorem State.raiseDev_deep (s : State) (f : DevFlag) : (State.raiseDev s f).deep = s.deep := by simp [State.raiseDev]

@[simp ↓] theorem State.satRaise_deep (s : State) (old k : Nat) (ev : State → State) (h : (ev s).deep = s.deep) : (State.satRaise s old k ev).deep = s.deep := by
  unfold State.satRaise; split <;> simp [*]

@[simp ↓] theorem State.logFault_deep (s : State) (code die detail : Nat) : (State.logFault s code die detail).deep = s.deep := by
  unfold State.logFault; dsimp only; rw [State.raiseDev_deep, State.modSys_deep]; intro _; rfl

@[simp ↓] theorem State.logLate_deep (s : State) (p : Path) (reason address : Nat) : (State.logLate s p reason address).deep = s.deep := by simp [State.logLate, ↓apply_ite State.deep]

@[simp ↓] theorem State.useUp_deep (s : State) (d : Fab) (p n : Nat) : (State.useUp s d p n).deep = s.deep := by simp [State.useUp, ↓apply_ite State.deep]

@[simp ↓] theorem State.useDown_deep (s : State) (d : Fab) (p n : Nat) : (State.useDown s d p n).deep = s.deep := by simp [State.useDown]

@[simp ↓] theorem State.poolTick_deep (s : State) (d : Fab) (p : Nat) (get : PoolCtr → Nat) (set : PoolCtr → Nat → PoolCtr) : (State.poolTick s d p get set).deep = s.deep := by simp [State.poolTick]

@[simp ↓] theorem State.emptyFail_deep (s : State) (d : Fab) (p : Nat) : (State.emptyFail s d p).deep = s.deep := by simp [State.emptyFail]

@[simp ↓] theorem State.fallback_deep (s : State) (d : Fab) (p : Nat) : (State.fallback s d p).deep = s.deep := by simp [State.fallback]

@[simp ↓] theorem State.errTick_deep (s : State) (d : Fab) (p kind : Nat) : (State.errTick s d p kind).deep = s.deep := by simp [State.errTick, ↓apply_ite State.deep]

@[simp ↓] theorem State.poolError_deep (s : State) (d : Fab) (kind pool index requester owner share : Nat) : (State.poolError s d kind pool index requester owner share).deep = s.deep := by
  unfold State.poolError; dsimp only
  split <;> simp only [State.logFault_deep, State.raiseDie_deep] <;> rw [State.modPool_deep, State.errTick_deep] <;> intro _ <;> rfl

@[simp ↓] theorem State.putBuf_deep (s : State) (d : Fab) (p i : Nat) (r : BufRec) : (State.putBuf s d p i r).deep = s.deep := by
  unfold State.putBuf; rw [State.modPool_deep]; intro q; exact PoolSt.rest_setMsg _ _ _

@[simp ↓] theorem State.allocFrom_deep (s : State) (d : Fab) (p x : Nat) : (State.allocFrom s d p x).1.deep = s.deep := by
  unfold State.allocFrom
  repeat' (first | (with_reducible rfl) | (simp [↓apply_ite State.deep]; done) | split | (simp [↓apply_ite State.deep, *]; done) | (grind [= State.emptyFail_deep, = State.putBuf_deep, = State.useUp_deep]) | (simp [↓apply_ite State.deep]))

theorem State.allocFrom_deep' (s : State) (d : Fab) (p x : Nat) (t) (y) (h : State.allocFrom s d p x = (t, y)) : t.deep = s.deep := by
  have := State.allocFrom_deep s d p x
  rw [h] at this; exact this

@[simp ↓] theorem State.allocFall_deep (s : State) (d : Fab) (x : Nat) (x0 : List Nat) : (State.allocFall s d x x0).1.deep = s.deep := by
  fun_induction State.allocFall s d x x0
  all_goals repeat' (first | (with_reducible rfl) | (simp [↓apply_ite State.deep]; done) | split | (simp [↓apply_ite State.deep, *]; done) | (grind [→ State.allocFrom_deep', = State.fallback_deep]) | (simp [↓apply_ite State.deep]))

theorem State.allocFall_deep' (s : State) (d : Fab) (x : Nat) (x0 : List Nat) (t) (y) (h : State.allocFall s d x x0 = (t, y)) : t.deep = s.deep := by
  have := State.allocFall_deep s d x x0
  rw [h] at this; exact this

@[simp ↓] theorem State.allocMsg_deep (s : State) (d : Fab) (x n : Nat) (fall : Bool) : (State.allocMsg s d x n fall).1.deep = s.deep := by unfold State.allocMsg; split <;> simp

theorem State.allocMsg_deep' (s : State) (d : Fab) (x n : Nat) (fall : Bool) (t) (y) (h : State.allocMsg s d x n fall = (t, y)) : t.deep = s.deep := by
  have := State.allocMsg_deep s d x n fall
  rw [h] at this; exact this

@[simp ↓] theorem State.shareMsg_deep (s : State) (d : Fab) (p i x k : Nat) : (State.shareMsg s d p i x k).1.deep = s.deep := by
  unfold State.shareMsg
  repeat' (first | (with_reducible rfl) | (simp [↓apply_ite State.deep]; done) | split | (simp [↓apply_ite State.deep, *]; done) | (grind [= State.poolError_deep, = State.putBuf_deep]) | (simp [↓apply_ite State.deep]))

theorem State.shareMsg_deep' (s : State) (d : Fab) (p i x k : Nat) (t) (y) (h : State.shareMsg s d p i x k = (t, y)) : t.deep = s.deep := by
  have := State.shareMsg_deep s d p i x k
  rw [h] at this; exact this

@[simp ↓] theorem State.releaseMsg_deep (s : State) (d : Fab) (p i x : Nat) : (State.releaseMsg s d p i x).1.deep = s.deep := by
  unfold State.releaseMsg
  repeat' (first | (with_reducible rfl) | (simp [↓apply_ite State.deep]; done) | split | (simp [↓apply_ite State.deep, *]; done) | (grind [= State.poolError_deep, = State.putBuf_deep]) | (simp [↓apply_ite State.deep]))

theorem State.releaseMsg_deep' (s : State) (d : Fab) (p i x : Nat) (t) (y) (h : State.releaseMsg s d p i x = (t, y)) : t.deep = s.deep := by
  have := State.releaseMsg_deep s d p i x
  rw [h] at this; exact this

@[simp ↓] theorem State.freeMsg_deep (s : State) (d : Fab) (p i x : Nat) : (State.freeMsg s d p i x).1.deep = s.deep := by
  unfold State.freeMsg
  repeat' (first | (with_reducible rfl) | (simp [↓apply_ite State.deep]; done) | split | (simp [↓apply_ite State.deep, *]; done) | (grind [= State.poolError_deep, = State.putBuf_deep, = State.useDown_deep]) | (simp [↓apply_ite State.deep]))

theorem State.freeMsg_deep' (s : State) (d : Fab) (p i x : Nat) (t) (y) (h : State.freeMsg s d p i x = (t, y)) : t.deep = s.deep := by
  have := State.freeMsg_deep s d p i x
  rw [h] at this; exact this

@[simp ↓] theorem State.handOver_deep (s : State) (d : Fab) (p i x y : Nat) : (State.handOver s d p i x y).deep = s.deep := by simp [State.handOver]

@[simp ↓] theorem State.coreTick_deep (s : State) (c : Fab) (get : CoreSt → Nat) (set : CoreSt → Nat → CoreSt)
    (h : ∀ k n, (set k n).rest = k.rest) : (s.coreTick c get set).deep = s.deep := by
  unfold State.coreTick; dsimp only; rw [State.satRaise_deep]
  · rw [State.modCore_deep]; intro k; exact h _ _
  · simp

@[simp ↓] theorem State.becomeStale_deep (s : State) : (State.becomeStale s).deep = s.deep := by
  unfold State.becomeStale; dsimp only
  split
  · rw [State.logFault_deep, State.raiseDev_deep, State.modPair_deep, State.modCore_deep, State.coreTick_deep] <;> intros <;> rfl
  · rw [State.modPair_deep]; intro _; rfl

@[simp ↓] theorem State.journal_deep (s : State) (kind : Nat) (payload : List Word) : (State.journal s kind payload).deep = s.deep := by
  unfold State.journal; dsimp only
  split
  · split
    · rename_i s1 h he
      have h1 := State.allocMsg_deep' _ _ _ _ _ _ _ he
      split
      · rw [State.becomeStale_deep, State.modCore_deep, State.modPair_deep, h1] <;> intros <;> rfl
      · rw [State.modCore_deep, State.modPair_deep, h1] <;> intros <;> rfl
    · rename_i s1 he
      rw [State.becomeStale_deep, State.allocMsg_deep' _ _ _ _ _ _ _ he]
  · rfl

@[simp ↓] theorem State.mirrorOut_deep (s : State) (ks : List Nat) : (State.mirrorOut s ks).deep = s.deep := by
  unfold State.mirrorOut; rw [foldl_deep]; intro s k; rw [State.journal_deep, State.modSys_deep]; intro _; rfl

@[simp ↓] theorem State.freeBufs_deep (s : State) (bufs : List (Fab × Nat × Nat)) : (State.freeBufs s bufs).deep = s.deep := by simp [State.freeBufs]

@[simp ↓] theorem State.fifoPut_deep (s : State) (p : Path) (ws : List Word) : (State.fifoPut s p ws).deep = s.deep := by simp [State.fifoPut, ↓apply_ite State.deep]

@[simp ↓] theorem State.place_deep (s : State) (pd : Pend) (intent : Bool) (ws : List Word) : (State.place s pd intent ws).deep = s.deep := by
  unfold State.place
  repeat' (first | (with_reducible rfl) | (simp [↓apply_ite State.deep]; done) | split | (simp [↓apply_ite State.deep, *]; done) | (grind [= State.emit_deep, = State.fifoPut_deep, = State.freeBufs_deep]) | (simp [↓apply_ite State.deep]))

@[simp ↓] theorem State.respond_deep (s : State) (pd : Pend) (c : Code) (payload : List Word) (cs : List Clamp) (intent : Bool) : (State.respond s pd c payload cs intent).deep = s.deep := by simp [State.respond, ↓apply_ite State.deep]

@[simp ↓] theorem State.unseal_deep (s : State) (op : Nat) (r : Req) : (State.unseal s op r).deep = s.deep := by
  unfold State.unseal; split
  · rfl
  · rw [State.modSeal_deep]; intro _; rfl

@[simp ↓] theorem State.written_deep (s : State) (op : Nat) (r : Req) : (State.written s op r).deep = s.deep := by
  unfold State.written; rw [State.modSys_deep, State.unseal_deep]; intro _; rfl

@[simp ↓] theorem State.answerBad_deep (s : State) (p : Path) (x0 : Nat) : (State.answerBad s p x0).deep = s.deep := by
  induction x0 generalizing s with
  | zero => rfl
  | succ n ih =>
    unfold State.answerBad
    repeat' split
    all_goals simp [ih]

end Machine
end Sys2Proof
end

