-- ==== Sys2Proof/Laws/Events.lean ====
section
/-! SUPPORT. What raising a flag and entering a fault give. -/

namespace Sys2Proof.Machine

theorem insFlag_lookup (f l : Nat) (r : List (Nat × Nat)) : (insFlag f l r).lookup f = some l := by
  induction r with
  | nil => simp [insFlag]
  | cons e r ih =>
    rw [insFlag]
    split
    · simp
    split
    · simp
    · rename_i h
      obtain ⟨k, v⟩ := e
      have hk : (f == k) = false := by simpa using h
      simp only [List.lookup, hk]
      exact ih

/-- An event leaves its flag raised (13 R373). -/
theorem EvReg.event_lf (r : EvReg) (f : Nat) : ((r.event f).1.lf f).isSome = true := by
  unfold EvReg.event
  split
  · simp [EvReg.lf, insFlag_lookup]
  · rename_i h
    simp only [not_or] at h
    exact Option.isSome_iff_ne_none.mpr h.1

theorem lookup_map_isSome (n f : Nat) (r : List (Nat × Nat)) : ((r.map fun e => (e.1, n)).lookup f).isSome = (r.lookup f).isSome := by
  induction r with
  | nil => rfl
  | cons e r ih =>
    obtain ⟨a, b⟩ := e
    simp only [List.map_cons, List.lookup_cons]
    split
    · rfl
    · exact ih

theorem EvReg.read_lf (r : EvReg) (f : Nat) : (r.read.lf f).isSome = (r.lf f).isSome := lookup_map_isSome _ _ _

theorem PathSt.ev_setEv (q : PathSt) (n : Nat) (r : EvReg) : (q.setEv n r).ev n = r := by
  match n with
  | 0 => rfl
  | 1 => rfl
  | 2 => rfl
  | _ + 3 => rfl

theorem PathSt.noticed_lf (q : PathSt) (n f : Nat) : ((q.noticed.ev n).lf f).isSome = ((q.ev n).lf f).isSome := by
  match n with
  | 0 => exact EvReg.read_lf _ _
  | 1 => exact EvReg.read_lf _ _
  | 2 => exact EvReg.read_lf _ _
  | _ + 3 => exact EvReg.read_lf _ _

@[simp] theorem State.emit_path (s : State) (o : Output) (p : Path) : (s.emit o).path p = s.path p := (rfl)

/-- A flag raised on a path is raised there, whatever the register. -/
theorem State.raiseAt_lf (s : State) (p : Path) (n f : Nat) (h1 : p ≠ .image) (h2 : p ≠ .relay) :
    ((((s.raiseAt p n f).path p).ev n).lf f).isSome = true := by
  have h := EvReg.event_lf ((s.path p).ev n) f
  unfold State.raiseAt
  dsimp only
  repeat' split
  all_goals first
    | exact absurd rfl h1
    | exact absurd rfl h2
    | simpa only [State.emit_path, State.path_modPath, PathSt.noticed_lf, PathSt.ev_setEv] using h

/-- Raising a flag on one path leaves every other path. -/
theorem State.raiseAt_other (s : State) (p q : Path) (n f : Nat) (h : q ≠ p) : (s.raiseAt p n f).path q = s.path q := by
  unfold State.raiseAt
  dsimp only
  repeat' split
  all_goals first
    | rfl
    | simp only [State.emit_path, State.path_modPath_other _ _ _ _ h]

/-- A flag of EVT_DEVICE is raised on every path of the hosts (13 R356, R375). -/
theorem State.raiseDev_lf (s : State) (f : DevFlag) (p : Path) (hp : p ∈ hostPaths) :
    (((s.raiseDev f).path p).evDev.lf f.bit).isSome = true := by
  have key : ∀ (l : List Path) (u : State), l.Nodup → p ∈ l →
      ((((l.foldl (fun s p => s.raiseAt p 3 f.bit) u).path p).ev 3).lf f.bit).isSome = true := by
    intro l
    induction l with
    | nil => intro u _ h; cases h
    | cons q l ih =>
      intro u hn hm
      rw [List.nodup_cons] at hn
      rw [List.foldl_cons]
      by_cases e : p ∈ l
      · exact ih _ hn.2 e
      · have hq : p = q := by simpa [e] using hm
        subst hq
        have keep : ∀ (l : List Path) (v : State), p ∉ l → (l.foldl (fun s p => s.raiseAt p 3 f.bit) v).path p = v.path p := by
          intro l
          induction l with
          | nil => intro v _; rfl
          | cons a l ih2 =>
            intro v hv
            rw [List.mem_cons, not_or] at hv
            rw [List.foldl_cons, ih2 _ hv.2, State.raiseAt_other _ _ _ _ _ hv.1]
        rw [keep l _ e]
        exact State.raiseAt_lf _ _ _ _ (by rintro rfl; revert hp; decide) (by rintro rfl; revert hp; decide)
  exact key hostPaths s (by decide) hp

/-- The newest entry of the log after a fault has the fault's code, die and detail (18 R525). -/
theorem faultAppend_last (log : List FaultEntry) (e : FaultEntry) : ∃ l, (faultAppend log e).getLast? = some l ∧
    l.code = e.code ∧ l.die = e.die ∧ l.detail = e.detail := by
  unfold faultAppend
  split
  · rename_i l h
    split
    · rename_i hr
      refine ⟨_, by simp; rfl, ?_⟩
      simp only [FaultEntry.repeats] at hr
      simp_all
    · refine ⟨e, ?_, rfl, rfl, rfl⟩
      rw [List.getLast?_drop]
      simp <;> omega
  · exact ⟨e, rfl, rfl, rfl, rfl⟩

end Sys2Proof.Machine
end

