-- ==== Sys2Proof/Laws/Fixed.lean ====
section
/-! SUPPORT. What almost every operation leaves: the queue, the one-time-programmable words and the lock fields. -/

namespace Sys2Proof.Machine

/-- The one-time-programmable words of the verifier slots (15 R424). -/
def KeySt.otp (k : KeySt) : Nat × Nat × Nat × Tbl Nat := (k.vValid, k.vRevoked, k.vRole, k.vHash)

/-- What few commands change: the queue, the one-time-programmable words and the lock fields. -/
def State.fixed (s : State) : List Instr × (Nat × Nat × Nat × Tbl Nat) × LockSt := (s.pending, s.key.otp, s.locks)

theorem State.fixed_of (s t : State) (h1 : t.pending = s.pending) (h2 : t.key = s.key) (h3 : t.locks = s.locks) : t.fixed = s.fixed := by
  simp [State.fixed, h1, h2, h3]

@[simp ↓] theorem State.modKey_fixed (s : State) (f : KeySt → KeySt) (h1 : ∀ k, (f k).vValid = k.vValid)
    (h2 : ∀ k, (f k).vRevoked = k.vRevoked) (h3 : ∀ k, (f k).vRole = k.vRole) (h4 : ∀ k, (f k).vHash = k.vHash) :
    (s.modKey f).fixed = s.fixed := by
  simp [State.fixed, KeySt.otp, *]

@[simp ↓] theorem State.modHost_fixed (s : State) (f : HostSt → HostSt) : (s.modHost f).fixed = s.fixed := (rfl)

@[simp ↓] theorem State.modPath_fixed (s : State) (p : Path) (f : PathSt → PathSt) : (s.modPath p f).fixed = s.fixed := (rfl)

@[simp ↓] theorem foldl_fixed {α : Type} (f : State → α → State) (h : ∀ s a, (f s a).fixed = s.fixed) (l : List α) (s : State) :
    (l.foldl f s).fixed = s.fixed := by
  induction l generalizing s with
  | nil => rfl
  | cons a l ih => rw [List.foldl_cons, ih, h]

/-- The part of `fixed` that the writes of the lock registers and the resets leave too. -/
def State.grip (s : State) : List Instr × (Nat × Nat × Nat × Tbl Nat) := (s.pending, s.key.otp)

theorem State.grip_of_fixed {s t : State} (h : t.fixed = s.fixed) : t.grip = s.grip := by
  simp only [State.fixed, Prod.mk.injEq] at h
  simp [State.grip, h]

theorem State.locks_of_fixed {s t : State} (h : t.fixed = s.fixed) : t.locks = s.locks := by
  simp only [State.fixed, Prod.mk.injEq] at h
  exact h.2.2

theorem State.fixed_of_parts {s t : State} (h : t.grip = s.grip) (l : t.locks = s.locks) : t.fixed = s.fixed := by
  simp only [State.grip, Prod.mk.injEq] at h
  simp [State.fixed, h, l]

@[simp ↓] theorem State.modLocks_grip (s : State) (f : LockSt → LockSt) : (s.modLocks f).grip = s.grip := (rfl)

end Sys2Proof.Machine
end

