-- ==== Sys2Proof/Laws/Far.lean ====
section
/-! SUPPORT. What the events of the frame path, of the links and of the clock leave: images, power, keys and legacy channels. -/

namespace Sys2Proof
namespace Machine

set_option linter.unusedSimpArgs false

/-- The slices that these events leave. -/
def State.far (s : State) : ImgSt × PowerSt × KeySt × EdgeSt := (s.img, s.pow, s.key, s.edge)

@[simp ↓] theorem State.modHost_far (s : State) (f : HostSt → HostSt) : (s.modHost f).far = s.far := (rfl)

@[simp ↓] theorem State.modPath_far (s : State) (p : Path) (f : PathSt → PathSt) : (s.modPath p f).far = s.far := (rfl)

@[simp ↓] theorem foldl_far {α : Type} (f : State → α → State) (h : ∀ s a, (f s a).far = s.far) (l : List α) (s : State) :
    (l.foldl f s).far = s.far := by
  induction l generalizing s with
  | nil => rfl
  | cons a l ih => rw [List.foldl_cons, ih, h]

/-! ### Ops -/

@[simp ↓] theorem State.modPair_far (s : State) (f : PairSt → PairSt) : (State.modPair s f).far = s.far := (rfl)

@[simp ↓] theorem State.modSys_far (s : State) (f : SysSt → SysSt) : (State.modSys s f).far = s.far := (rfl)

@[simp ↓] theorem State.modTim_far (s : State) (f : TimeSt → TimeSt) : (State.modTim s f).far = s.far := (rfl)

@[simp ↓] theorem State.modSeal_far (s : State) (f : SealSt → SealSt) : (State.modSeal s f).far = s.far := (rfl)

@[simp ↓] theorem State.modPool_far (s : State) (d : Fab) (f : PoolSt → PoolSt) : (State.modPool s d f).far = s.far := by cases d <;> rfl

@[simp ↓] theorem State.modTab_far (s : State) (f : TabSt → TabSt) : (State.modTab s f).far = s.far := (rfl)

@[simp ↓] theorem State.modZon_far (s : State) (f : ZoneSt → ZoneSt) : (State.modZon s f).far = s.far := (rfl)

@[simp ↓] theorem State.modEgr_far (s : State) (f : EgressSt → EgressSt) : (State.modEgr s f).far = s.far := (rfl)

@[simp ↓] theorem State.modStk_far (s : State) (f : StackSt → StackSt) : (State.modStk s f).far = s.far := (rfl)

@[simp ↓] theorem State.modGw_far (s : State) (f : GwSt → GwSt) : (State.modGw s f).far = s.far := (rfl)

@[simp ↓] theorem State.modPort_far (s : State) (p : Nat) (f : PortSt → PortSt) : (State.modPort s p f).far = s.far := (rfl)

@[simp ↓] theorem State.modFab_far (s : State) (d : Fab) (f : FabSt → FabSt) : (State.modFab s d f).far = s.far := by cases d <;> rfl

@[simp ↓] theorem State.emit_far (s : State) (o : Output) : (State.emit s o).far = s.far := (rfl)

@[simp ↓] theorem State.useFree_far (s : State) : (State.useFree s).far = s.far := (rfl)

@[simp ↓] theorem State.raiseAt_far (s : State) (p : Path) (n f : Nat) : (State.raiseAt s p n f).far = s.far := by
  unfold State.raiseAt
  repeat' (first | (with_reducible rfl) | (simp [↓apply_ite State.far]; done) | split | (simp [↓apply_ite State.far, *]; done) | (grind [= State.emit_far]) | (simp [↓apply_ite State.far]))

@[simp ↓] theorem State.raiseHost_far (s : State) (p : Path) (f : HostFlag) : (State.raiseHost s p f).far = s.far := by simp [State.raiseHost]

@[simp ↓] theorem State.raiseDie_far (s : State) (d : Fab) (f : DieFlag) : (State.raiseDie s d f).far = s.far := by simp [State.raiseDie]

@[simp ↓] theorem State.raiseDev_far (s : State) (f : DevFlag) : (State.raiseDev s f).far = s.far := by simp [State.raiseDev]

@[simp ↓] theorem State.satRaise_far (s : State) (old k : Nat) (ev : State → State) (h : (ev s).far = s.far) : (State.satRaise s old k ev).far = s.far := by
  unfold State.satRaise; split <;> simp [*]

@[simp ↓] theorem State.dieTick_far (s : State) (d : Fab) (old k : Nat) (f : FabSt → FabSt) : (State.dieTick s d old k f).far = s.far := by simp [State.dieTick]

@[simp ↓] theorem State.logFault_far (s : State) (code die detail : Nat) : (State.logFault s code die detail).far = s.far := by simp [State.logFault]

/-! ### Pools -/

@[simp ↓] theorem State.modCtr_far (s : State) (d : Fab) (p : Nat) (f : PoolCtr → PoolCtr) : (State.modCtr s d p f).far = s.far := by simp [State.modCtr]

@[simp ↓] theorem State.useUp_far (s : State) (d : Fab) (p n : Nat) : (State.useUp s d p n).far = s.far := by simp [State.useUp, ↓apply_ite State.far]

@[simp ↓] theorem State.useDown_far (s : State) (d : Fab) (p n : Nat) : (State.useDown s d p n).far = s.far := by simp [State.useDown]

@[simp ↓] theorem State.poolTick_far (s : State) (d : Fab) (p : Nat) (get : PoolCtr → Nat) (set : PoolCtr → Nat → PoolCtr) : (State.poolTick s d p get set).far = s.far := by simp [State.poolTick]

@[simp ↓] theorem State.emptyFail_far (s : State) (d : Fab) (p : Nat) : (State.emptyFail s d p).far = s.far := by simp [State.emptyFail]

@[simp ↓] theorem State.fallback_far (s : State) (d : Fab) (p : Nat) : (State.fallback s d p).far = s.far := by simp [State.fallback]

@[simp ↓] theorem State.contend_far (s : State) (d : Fab) (p : Nat) (b : Bool) : (State.contend s d p b).far = s.far := by simp [State.contend, ↓apply_ite State.far]

@[simp ↓] theorem State.errTick_far (s : State) (d : Fab) (p kind : Nat) : (State.errTick s d p kind).far = s.far := by simp [State.errTick, ↓apply_ite State.far]

@[simp ↓] theorem State.poolError_far (s : State) (d : Fab) (kind pool index requester owner share : Nat) : (State.poolError s d kind pool index requester owner share).far = s.far := by simp [State.poolError, ↓apply_ite State.far]

@[simp ↓] theorem State.putBuf_far (s : State) (d : Fab) (p i : Nat) (r : BufRec) : (State.putBuf s d p i r).far = s.far := by simp [State.putBuf]

@[simp ↓] theorem State.allocFrom_far (s : State) (d : Fab) (p x : Nat) : (State.allocFrom s d p x).1.far = s.far := by
  unfold State.allocFrom
  repeat' (first | (with_reducible rfl) | (simp [↓apply_ite State.far]; done) | split | (simp [↓apply_ite State.far, *]; done) | (grind [= State.emptyFail_far, = State.putBuf_far, = State.useUp_far]) | (simp [↓apply_ite State.far]))

theorem State.allocFrom_far' (s : State) (d : Fab) (p x : Nat) (t) (y) (h : State.allocFrom s d p x = (t, y)) : t.far = s.far := by
  have := State.allocFrom_far s d p x
  rw [h] at this; exact this

@[simp ↓] theorem State.allocFall_far (s : State) (d : Fab) (x : Nat) (x0 : List Nat) : (State.allocFall s d x x0).1.far = s.far := by
  fun_induction State.allocFall s d x x0
  all_goals repeat' (first | (with_reducible rfl) | (simp [↓apply_ite State.far]; done) | split | (simp [↓apply_ite State.far, *]; done) | (grind [→ State.allocFrom_far', = State.fallback_far]) | (simp [↓apply_ite State.far]))

theorem State.allocFall_far' (s : State) (d : Fab) (x : Nat) (x0 : List Nat) (t) (y) (h : State.allocFall s d x x0 = (t, y)) : t.far = s.far := by
  have := State.allocFall_far s d x x0
  rw [h] at this; exact this

@[simp ↓] theorem State.allocMsg_far (s : State) (d : Fab) (x n : Nat) (fall : Bool) : (State.allocMsg s d x n fall).1.far = s.far := by unfold State.allocMsg; split <;> simp

theorem State.allocMsg_far' (s : State) (d : Fab) (x n : Nat) (fall : Bool) (t) (y) (h : State.allocMsg s d x n fall = (t, y)) : t.far = s.far := by
  have := State.allocMsg_far s d x n fall
  rw [h] at this; exact this

@[simp ↓] theorem State.shareMsg_far (s : State) (d : Fab) (p i x k : Nat) : (State.shareMsg s d p i x k).1.far = s.far := by
  unfold State.shareMsg
  repeat' (first | (with_reducible rfl) | (simp [↓apply_ite State.far]; done) | split | (simp [↓apply_ite State.far, *]; done) | (grind [= State.poolError_far, = State.putBuf_far]) | (simp [↓apply_ite State.far]))

theorem State.shareMsg_far' (s : State) (d : Fab) (p i x k : Nat) (t) (y) (h : State.shareMsg s d p i x k = (t, y)) : t.far = s.far := by
  have := State.shareMsg_far s d p i x k
  rw [h] at this; exact this

@[simp ↓] theorem State.releaseMsg_far (s : State) (d : Fab) (p i x : Nat) : (State.releaseMsg s d p i x).1.far = s.far := by
  unfold State.releaseMsg
  repeat' (first | (with_reducible rfl) | (simp [↓apply_ite State.far]; done) | split | (simp [↓apply_ite State.far, *]; done) | (grind [= State.poolError_far, = State.putBuf_far]) | (simp [↓apply_ite State.far]))

theorem State.releaseMsg_far' (s : State) (d : Fab) (p i x : Nat) (t) (y) (h : State.releaseMsg s d p i x = (t, y)) : t.far = s.far := by
  have := State.releaseMsg_far s d p i x
  rw [h] at this; exact this

@[simp ↓] theorem State.freeMsg_far (s : State) (d : Fab) (p i x : Nat) : (State.freeMsg s d p i x).1.far = s.far := by
  unfold State.freeMsg
  repeat' (first | (with_reducible rfl) | (simp [↓apply_ite State.far]; done) | split | (simp [↓apply_ite State.far, *]; done) | (grind [= State.poolError_far, = State.putBuf_far, = State.useDown_far]) | (simp [↓apply_ite State.far]))

theorem State.freeMsg_far' (s : State) (d : Fab) (p i x : Nat) (t) (y) (h : State.freeMsg s d p i x = (t, y)) : t.far = s.far := by
  have := State.freeMsg_far s d p i x
  rw [h] at this; exact this

@[simp ↓] theorem State.handOver_far (s : State) (d : Fab) (p i x y : Nat) : (State.handOver s d p i x y).far = s.far := by simp [State.handOver]

@[simp ↓] theorem State.grantCell_far (s : State) (d : Fab) (x : Nat) : (State.grantCell s d x).1.far = s.far := by unfold State.grantCell; split <;> simp

theorem State.grantCell_far' (s : State) (d : Fab) (x : Nat) (t) (y) (h : State.grantCell s d x = (t, y)) : t.far = s.far := by
  have := State.grantCell_far s d x
  rw [h] at this; exact this

@[simp ↓] theorem State.freeCell_far (s : State) (d : Fab) (c : Nat) : (State.freeCell s d c).far = s.far := by simp [State.freeCell]

@[simp ↓] theorem State.freeWalk_far (s : State) (d : Fab) (x : Nat) (x0 : Nat) (x1 : Nat) : (State.freeWalk s d x x0 x1).far = s.far := by
  fun_induction State.freeWalk s d x x0 x1
  all_goals repeat' (first | (with_reducible rfl) | (simp [↓apply_ite State.far]; done) | split | (simp [↓apply_ite State.far, *]; done) | (grind [= State.freeCell_far, = State.poolError_far]) | (simp [↓apply_ite State.far]))

@[simp ↓] theorem State.shareCell_far (s : State) (d : Fab) (c x k : Nat) : (State.shareCell s d c x k).1.far = s.far := by
  unfold State.shareCell
  repeat' (first | (with_reducible rfl) | (simp [↓apply_ite State.far]; done) | split | (simp [↓apply_ite State.far, *]; done) | (grind [= State.modPool_far, = State.poolError_far]) | (simp [↓apply_ite State.far]))

theorem State.shareCell_far' (s : State) (d : Fab) (c x k : Nat) (t) (y) (h : State.shareCell s d c x k = (t, y)) : t.far = s.far := by
  have := State.shareCell_far s d c x k
  rw [h] at this; exact this

@[simp ↓] theorem State.releaseCell_far (s : State) (d : Fab) (c x : Nat) : (State.releaseCell s d c x).1.far = s.far := by
  unfold State.releaseCell
  repeat' (first | (with_reducible rfl) | (simp [↓apply_ite State.far]; done) | split | (simp [↓apply_ite State.far, *]; done) | (grind [= State.modPool_far, = State.poolError_far]) | (simp [↓apply_ite State.far]))

theorem State.releaseCell_far' (s : State) (d : Fab) (c x : Nat) (t) (y) (h : State.releaseCell s d c x = (t, y)) : t.far = s.far := by
  have := State.releaseCell_far s d c x
  rw [h] at this; exact this

@[simp ↓] theorem State.freeCellChain_far (s : State) (d : Fab) (c x : Nat) : (State.freeCellChain s d c x).1.far = s.far := by
  unfold State.freeCellChain
  repeat' (first | (with_reducible rfl) | (simp [↓apply_ite State.far]; done) | split | (simp [↓apply_ite State.far, *]; done) | (grind [= State.freeWalk_far, = State.poolError_far]) | (simp [↓apply_ite State.far]))

theorem State.freeCellChain_far' (s : State) (d : Fab) (c x : Nat) (t) (y) (h : State.freeCellChain s d c x = (t, y)) : t.far = s.far := by
  have := State.freeCellChain_far s d c x
  rw [h] at this; exact this

@[simp ↓] theorem State.grantUnits_far (s : State) (d : Fab) (c : Nat) (us : List Nat) : (State.grantUnits s d c us).far = s.far := by simp [State.grantUnits]

@[simp ↓] theorem State.freeUnit_far (s : State) (d : Fab) (c u x : Nat) : (State.freeUnit s d c u x).1.far = s.far := by
  unfold State.freeUnit
  repeat' (first | (with_reducible rfl) | (simp [↓apply_ite State.far]; done) | split | (simp [↓apply_ite State.far, *]; done) | (grind [= State.modPool_far, = State.poolError_far, = State.useDown_far]) | (simp [↓apply_ite State.far]))

theorem State.freeUnit_far' (s : State) (d : Fab) (c u x : Nat) (t) (y) (h : State.freeUnit s d c u x = (t, y)) : t.far = s.far := by
  have := State.freeUnit_far s d c u x
  rw [h] at this; exact this

@[simp ↓] theorem State.freeUnits_far (s : State) (d : Fab) (c x : Nat) (us : List Nat) : (State.freeUnits s d c x us).far = s.far := by simp [State.freeUnits]

/-! ### Mirror -/

@[simp ↓] theorem State.modCore_far (s : State) (c : Fab) (f : CoreSt → CoreSt) : (State.modCore s c f).far = s.far := (rfl)

@[simp ↓] theorem State.coreTick_far (s : State) (c : Fab) (get : CoreSt → Nat) (set : CoreSt → Nat → CoreSt) : (State.coreTick s c get set).far = s.far := by simp [State.coreTick]

@[simp ↓] theorem State.becomeStale_far (s : State) : (State.becomeStale s).far = s.far := by simp [State.becomeStale, ↓apply_ite State.far]

@[simp ↓] theorem State.journal_far (s : State) (kind : Nat) (payload : List Word) : (State.journal s kind payload).far = s.far := by
  unfold State.journal
  repeat' (first | (with_reducible rfl) | (simp [↓apply_ite State.far]; done) | split | (simp [↓apply_ite State.far, *]; done) | (grind [→ State.allocMsg_far', = State.becomeStale_far, = State.modCore_far, = State.modPair_far]) | (simp [↓apply_ite State.far]))

@[simp ↓] theorem State.mirrorOut_far (s : State) (ks : List Nat) : (State.mirrorOut s ks).far = s.far := by simp [State.mirrorOut]

/-! ### Mailbox -/

@[simp ↓] theorem State.freeBufs_far (s : State) (bufs : List (Fab × Nat × Nat)) : (State.freeBufs s bufs).far = s.far := by simp [State.freeBufs]

@[simp ↓] theorem State.fifoPut_far (s : State) (p : Path) (ws : List Word) : (State.fifoPut s p ws).far = s.far := by simp [State.fifoPut, ↓apply_ite State.far]

@[simp ↓] theorem State.place_far (s : State) (pd : Pend) (intent : Bool) (ws : List Word) : (State.place s pd intent ws).far = s.far := by
  unfold State.place
  repeat' (first | (with_reducible rfl) | (simp [↓apply_ite State.far]; done) | split | (simp [↓apply_ite State.far, *]; done) | (grind [= State.emit_far, = State.fifoPut_far, = State.freeBufs_far]) | (simp [↓apply_ite State.far]))

@[simp ↓] theorem State.respond_far (s : State) (pd : Pend) (c : Code) (payload : List Word) (cs : List Clamp) (intent : Bool) : (State.respond s pd c payload cs intent).far = s.far := by simp [State.respond, ↓apply_ite State.far]

@[simp ↓] theorem State.unseal_far (s : State) (op : Nat) (r : Req) : (State.unseal s op r).far = s.far := by simp [State.unseal, ↓apply_ite State.far]

@[simp ↓] theorem State.written_far (s : State) (op : Nat) (r : Req) : (State.written s op r).far = s.far := by simp [State.written]

@[simp ↓] theorem State.finish_far (s : State) (p : Path) (c : Code) (payload : List Word) (kinds : List Nat) : (State.finish s p c payload kinds).far = s.far := by
  unfold State.finish
  repeat' (first | (with_reducible rfl) | (simp [↓apply_ite State.far]; done) | split | (simp [↓apply_ite State.far, *]; done) | (grind [= State.journal_far, = State.mirrorOut_far, = State.respond_far, = State.written_far]) | (simp [↓apply_ite State.far]))

/-! ### Clock -/

@[simp ↓] theorem State.adv_far (s : State) (n : Nat) : (State.adv s n).far = s.far := (rfl)

@[simp ↓] theorem State.advTick_far (s : State) (k : Nat) : (State.advTick s k).far = s.far := (rfl)

@[simp ↓] theorem State.advQ_far (s : State) (q : Nat) : (State.advQ s q).far = s.far := (rfl)

@[simp ↓] theorem State.advNs_far (s : State) (ns : Nat) : (State.advNs s ns).far = s.far := (rfl)

/-! ### Zones -/

@[simp ↓] theorem State.modZd_far (s : State) (d : Fab) (f : ZoneDyn → ZoneDyn) : (State.modZd s d f).far = s.far := by simp [State.modZd]

/-! ### Gates -/

@[simp ↓] theorem State.modGate_far (s : State) (p : Nat) (f : GateSt → GateSt) : (State.modGate s p f).far = s.far := (rfl)

@[simp ↓] theorem State.modMm_far (s : State) (p : Nat) (f : MmSt → MmSt) : (State.modMm s p f).far = s.far := (rfl)

@[simp ↓] theorem State.holdCount_far (s : State) (p : Nat) : (State.holdCount s p).far = s.far := by simp [State.holdCount, ↓apply_ite State.far]

@[simp ↓] theorem State.gateChange_far (s : State) (p : Nat) : (State.gateChange s p).far = s.far := by simp [State.gateChange]

@[simp ↓] theorem State.gateStep_far (s : State) (p : Nat) : (State.gateStep s p).far = s.far := by simp [State.gateStep, ↓apply_ite State.far]

/-! ### GateCmds -/

@[simp ↓] theorem State.modQueue_far (s : State) (p q : Nat) (f : QueueCfg → QueueCfg) : (State.modQueue s p q f).far = s.far := (rfl)

@[simp ↓] theorem State.modEd_far (s : State) (d : Fab) (f : EgressDyn → EgressDyn) : (State.modEd s d f).far = s.far := by simp [State.modEd]

@[simp ↓] theorem State.modQctr_far (s : State) (d : Fab) (o q : Nat) (f : QueueCtr → QueueCtr) : (State.modQctr s d o q f).far = s.far := by simp [State.modQctr]

@[simp ↓] theorem State.modSampler_far (s : State) (d : Fab) (i : Nat) (f : Sampler → Sampler) : (State.modSampler s d i f).far = s.far := by simp [State.modSampler]

@[simp ↓] theorem State.gateEntry_far (s : State) (p : Nat) : (State.gateEntry s p).far = s.far := by simp [State.gateEntry, ↓apply_ite State.far]

theorem execGclEntryStart_far (port : Nat) (s : State) : ∀ t, execGclEntryStart port s = .next t → t.far = s.far := by rintro _ ⟨⟩; simp

theorem execGclChangeTime_far (port : Nat) (s : State) : ∀ t, execGclChangeTime port s = .next t → t.far = s.far := by rintro _ ⟨⟩; split <;> simp

theorem execGclCopyComplete_far (port : Nat) (s : State) : ∀ t, execGclCopyComplete port s = .next t → t.far = s.far := by rintro _ ⟨⟩; split <;> simp

theorem execMmVerifyTimer_far (port : Nat) (s : State) : ∀ t, execMmVerifyTimer port s = .next t → t.far = s.far := by
  intro t h
  unfold execMmVerifyTimer at h
  first
  | (simp only [Host.Outcome.next.injEq] at h; subst h; repeat' (first | (with_reducible rfl) | (simp [↓apply_ite State.far]; done) | split | (simp [↓apply_ite State.far, *]; done) | (grind [= State.emit_far, = State.modMm_far, = State.raiseDie_far]) | (simp [↓apply_ite State.far])))
  | (split at h <;> (simp only [Host.Outcome.next.injEq] at h; subst h; repeat' (first | (with_reducible rfl) | (simp [↓apply_ite State.far]; done) | split | (simp [↓apply_ite State.far, *]; done) | (grind [= State.emit_far, = State.modMm_far, = State.raiseDie_far]) | (simp [↓apply_ite State.far]))))
  | (repeat' split at h
     all_goals (simp only [Host.Outcome.next.injEq] at h; subst h; repeat' (first | (with_reducible rfl) | (simp [↓apply_ite State.far]; done) | split | (simp [↓apply_ite State.far, *]; done) | (grind [= State.emit_far, = State.modMm_far, = State.raiseDie_far]) | (simp [↓apply_ite State.far]))))

theorem execMmVerifyRx_far (port : Nat) (respond : Bool) (s : State) : ∀ t, execMmVerifyRx port respond s = .next t → t.far = s.far := by
  intro t h
  unfold execMmVerifyRx at h
  first
  | (simp only [Host.Outcome.next.injEq] at h; subst h; repeat' (first | (with_reducible rfl) | (simp [↓apply_ite State.far]; done) | split | (simp [↓apply_ite State.far, *]; done) | (grind [= State.emit_far, = State.modMm_far, = State.respond_far]) | (simp [↓apply_ite State.far])))
  | (split at h <;> (simp only [Host.Outcome.next.injEq] at h; subst h; repeat' (first | (with_reducible rfl) | (simp [↓apply_ite State.far]; done) | split | (simp [↓apply_ite State.far, *]; done) | (grind [= State.emit_far, = State.modMm_far, = State.respond_far]) | (simp [↓apply_ite State.far]))))
  | (repeat' split at h
     all_goals (simp only [Host.Outcome.next.injEq] at h; subst h; repeat' (first | (with_reducible rfl) | (simp [↓apply_ite State.far]; done) | split | (simp [↓apply_ite State.far, *]; done) | (grind [= State.emit_far, = State.modMm_far, = State.respond_far]) | (simp [↓apply_ite State.far]))))

theorem execSamplerPeriod_far (die : Fab) (i : Nat) (s : State) : ∀ t, execSamplerPeriod die i s = .next t → t.far = s.far := by rintro _ ⟨⟩; split <;> simp

/-! ### Frames -/

@[simp ↓] theorem State.modFrame_far (s : State) (d : Fab) (fid : Nat) (f : FrameSt → FrameSt) : (State.modFrame s d fid f).far = s.far := by simp [State.modFrame]

@[simp ↓] theorem State.forget_far (s : State) (d : Fab) (fid : Nat) : (State.forget s d fid).far = s.far := by simp [State.forget]

@[simp ↓] theorem State.addFrame_far (s : State) (d : Fab) (f : FrameSt) : (State.addFrame s d f).1.far = s.far := by simp [State.addFrame]

theorem State.addFrame_far' (s : State) (d : Fab) (f : FrameSt) (t) (y) (h : State.addFrame s d f = (t, y)) : t.far = s.far := by
  have := State.addFrame_far s d f
  rw [h] at this; exact this

@[simp ↓] theorem State.portTick_far (s : State) (p : Nat) (get : PortSt → Nat) (set : PortSt → Nat → PortSt) : (State.portTick s p get set).far = s.far := by simp [State.portTick]

@[simp ↓] theorem State.hdrError_far (s : State) (p : Nat) : (State.hdrError s p).far = s.far := by simp [State.hdrError]

@[simp ↓] theorem State.macsecRx_far (s : State) (p : Nat) (sec : SecRx) (bytes : List Byte) : (State.macsecRx s p sec bytes).1.far = s.far := by
  unfold State.macsecRx
  repeat' (first | (with_reducible rfl) | (simp [↓apply_ite State.far]; done) | split | (simp [↓apply_ite State.far, *]; done) | (grind [= State.modPort_far]) | (simp [↓apply_ite State.far]))

theorem State.macsecRx_far' (s : State) (p : Nat) (sec : SecRx) (bytes : List Byte) (t) (y) (h : State.macsecRx s p sec bytes = (t, y)) : t.far = s.far := by
  have := State.macsecRx_far s p sec bytes
  rw [h] at this; exact this

@[simp ↓] theorem State.toBridge_far (s : State) (p ty src : Nat) (bytes : List Byte) : (State.toBridge s p ty src bytes).far = s.far := (rfl)

@[simp ↓] theorem State.hemCheck_far (s : State) (p : Nat) (hdr bytes : List Byte) (phy : Bool) (sec : SecRx) : (State.hemCheck s p hdr bytes phy sec).1.far = s.far := by
  unfold State.hemCheck
  repeat' (first | (with_reducible rfl) | (simp [↓apply_ite State.far]; done) | split | (simp [↓apply_ite State.far, *]; done) | (grind [= State.hdrError_far, → State.macsecRx_far', = State.portTick_far, = State.toBridge_far]) | (simp [↓apply_ite State.far]))

theorem State.hemCheck_far' (s : State) (p : Nat) (hdr bytes : List Byte) (phy : Bool) (sec : SecRx) (t) (y) (h : State.hemCheck s p hdr bytes phy sec = (t, y)) : t.far = s.far := by
  have := State.hemCheck_far s p hdr bytes phy sec
  rw [h] at this; exact this

@[simp ↓] theorem State.gptpRx_far (s : State) (p : Nat) (phy : Bool) (bytes : List Byte) : (State.gptpRx s p phy bytes).1.far = s.far := by
  unfold State.gptpRx
  repeat' (first | (with_reducible rfl) | (simp [↓apply_ite State.far]; done) | split | (simp [↓apply_ite State.far, *]; done) | (grind [= State.modTim_far, = State.portTick_far, = State.raiseDie_far]) | (simp [↓apply_ite State.far]))

theorem State.gptpRx_far' (s : State) (p : Nat) (phy : Bool) (bytes : List Byte) (t) (y) (h : State.gptpRx s p phy bytes = (t, y)) : t.far = s.far := by
  have := State.gptpRx_far s p phy bytes
  rw [h] at this; exact this

@[simp ↓] theorem State.stage_far (s : State) (p : Nat) (bytes : List Byte) (phy : Bool) (f0 : FrameSt) : (State.stage s p bytes phy f0).far = s.far := by simp [State.stage, ↓apply_ite State.far]

@[simp ↓] theorem State.ingress_far (s : State) (p : Nat) (bytes hdr : List Byte) (phy : Bool) (sec : SecRx) : (State.ingress s p bytes hdr phy sec).far = s.far := by
  unfold State.ingress
  repeat' (first | (with_reducible rfl) | (simp [↓apply_ite State.far]; done) | split | (simp [↓apply_ite State.far, *]; done) | (grind [→ State.gptpRx_far', → State.hemCheck_far', → State.macsecRx_far', = State.stage_far]) | (simp [↓apply_ite State.far]))

@[simp ↓] theorem State.reassemble_far (s : State) (p : Nat) (m : MmRx) : (s.reassemble p m).1.far = s.far := by
  cases m <;> simp only [State.reassemble] <;> first | rfl | (split <;> rfl)

theorem execFrameRxStart_far (port : Nat) (bytes hdr : List Byte) (phy : Bool) (sec : SecRx) (mm : MmRx) (dt : Nat) (s : State) : ∀ t, execFrameRxStart port bytes hdr phy sec mm dt s = .next t → t.far = s.far := by
  rintro _ ⟨⟩; simp [↓apply_ite State.far]

/-! ### Parse -/

@[simp ↓] theorem State.modEngine_far (s : State) (d : Fab) (e : Nat) (f : Engine → Engine) : (State.modEngine s d e f).far = s.far := by simp [State.modEngine]

@[simp ↓] theorem State.modParse_far (s : State) (p : Nat) (f : PortParse → PortParse) : (State.modParse s p f).far = s.far := (rfl)

@[simp ↓] theorem State.countParsed_far (s : State) (d : Fab) (e : Nat) : (State.countParsed s d e).far = s.far := by
  unfold State.countParsed
  repeat' (first | (with_reducible rfl) | (simp [↓apply_ite State.far]; done) | split | (simp [↓apply_ite State.far, *]; done) | (grind [= State.modParse_far]) | (simp [↓apply_ite State.far]))

@[simp ↓] theorem State.parseStep_far (s : State) (d : Fab) (e op : Nat) : (State.parseStep s d e op).far = s.far := by simp [State.parseStep, ↓apply_ite State.far]

theorem State.shortDrop_far (s : State) (f : FrameSt) : ∀ t, State.shortDrop s f = some t → t.far = s.far := by
  intro t h
  unfold State.shortDrop at h
  grind [= State.portTick_far]

theorem execParseEnd_far (die : Fab) (eng : Nat) (s : State) : ∀ t, execParseEnd die eng s = .next t → t.far = s.far := by rintro _ ⟨⟩; simp

theorem execParseClass_far (die : Fab) (eng : Nat) (s : State) : ∀ t, execParseClass die eng s = .next t → t.far = s.far := by rintro _ ⟨⟩; simp

theorem execParseExtract_far (die : Fab) (eng : Nat) (s : State) : ∀ t, execParseExtract die eng s = .next t → t.far = s.far := by rintro _ ⟨⟩; simp

theorem execParseLoad_far (die : Fab) (eng : Nat) (s : State) : ∀ t, execParseLoad die eng s = .next t → t.far = s.far := by rintro _ ⟨⟩; simp

theorem execParseAnd_far (die : Fab) (eng : Nat) (s : State) : ∀ t, execParseAnd die eng s = .next t → t.far = s.far := by rintro _ ⟨⟩; simp

theorem execParseTest_far (die : Fab) (eng : Nat) (s : State) : ∀ t, execParseTest die eng s = .next t → t.far = s.far := by rintro _ ⟨⟩; simp

theorem execParseTestne_far (die : Fab) (eng : Nat) (s : State) : ∀ t, execParseTestne die eng s = .next t → t.far = s.far := by rintro _ ⟨⟩; simp

theorem execParseJump_far (die : Fab) (eng : Nat) (s : State) : ∀ t, execParseJump die eng s = .next t → t.far = s.far := by rintro _ ⟨⟩; simp

theorem execParseAdvance_far (die : Fab) (eng : Nat) (s : State) : ∀ t, execParseAdvance die eng s = .next t → t.far = s.far := by rintro _ ⟨⟩; simp

theorem execParseLenset_far (die : Fab) (eng : Nat) (s : State) : ∀ t, execParseLenset die eng s = .next t → t.far = s.far := by rintro _ ⟨⟩; simp

theorem execParseFail_far (die : Fab) (eng : Nat) (s : State) : ∀ t, execParseFail die eng s = .next t → t.far = s.far := by rintro _ ⟨⟩; simp

theorem execParseBudgetExhausted_far (die : Fab) (eng : Nat) (s : State) : ∀ t, execParseBudgetExhausted die eng s = .next t → t.far = s.far := by rintro _ ⟨⟩; split <;> simp

theorem execParseEngineTake_far (die : Fab) (eng port : Nat) (s : State) : ∀ t, execParseEngineTake die eng port s = .next t → t.far = s.far := by
  intro t h
  unfold execParseEngineTake at h
  first
  | (simp only [Host.Outcome.next.injEq] at h; subst h; repeat' (first | (with_reducible rfl) | (simp [↓apply_ite State.far]; done) | split | (simp [↓apply_ite State.far, *]; done) | (grind [= State.advQ_far, = State.forget_far, = State.modEngine_far, = State.modFrame_far, = State.modParse_far, → State.shortDrop_far]) | (simp [↓apply_ite State.far])))
  | (split at h <;> (simp only [Host.Outcome.next.injEq] at h; subst h; repeat' (first | (with_reducible rfl) | (simp [↓apply_ite State.far]; done) | split | (simp [↓apply_ite State.far, *]; done) | (grind [= State.advQ_far, = State.forget_far, = State.modEngine_far, = State.modFrame_far, = State.modParse_far, → State.shortDrop_far]) | (simp [↓apply_ite State.far]))))
  | (repeat' split at h
     all_goals (simp only [Host.Outcome.next.injEq] at h; subst h; repeat' (first | (with_reducible rfl) | (simp [↓apply_ite State.far]; done) | split | (simp [↓apply_ite State.far, *]; done) | (grind [= State.advQ_far, = State.forget_far, = State.modEngine_far, = State.modFrame_far, = State.modParse_far, → State.shortDrop_far]) | (simp [↓apply_ite State.far]))))

theorem execRecircPassStart_far (die : Fab) (eng : Nat) (s : State) : ∀ t, execRecircPassStart die eng s = .next t → t.far = s.far := by
  intro t h
  unfold execRecircPassStart at h
  first
  | (simp only [Host.Outcome.next.injEq] at h; subst h; repeat' (first | (with_reducible rfl) | (simp [↓apply_ite State.far]; done) | split | (simp [↓apply_ite State.far, *]; done) | (grind [= State.advQ_far, = State.modEngine_far, = State.modFab_far, = State.modFrame_far]) | (simp [↓apply_ite State.far])))
  | (split at h <;> (simp only [Host.Outcome.next.injEq] at h; subst h; repeat' (first | (with_reducible rfl) | (simp [↓apply_ite State.far]; done) | split | (simp [↓apply_ite State.far, *]; done) | (grind [= State.advQ_far, = State.modEngine_far, = State.modFab_far, = State.modFrame_far]) | (simp [↓apply_ite State.far]))))
  | (repeat' split at h
     all_goals (simp only [Host.Outcome.next.injEq] at h; subst h; repeat' (first | (with_reducible rfl) | (simp [↓apply_ite State.far]; done) | split | (simp [↓apply_ite State.far, *]; done) | (grind [= State.advQ_far, = State.modEngine_far, = State.modFab_far, = State.modFrame_far]) | (simp [↓apply_ite State.far]))))

/-! ### Lookup -/

@[simp ↓] theorem State.modVlan_far (s : State) (p : Nat) (f : VlanPort → VlanPort) : (State.modVlan s p f).far = s.far := (rfl)

@[simp ↓] theorem State.vlanTick_far (s : State) (p : Nat) (get : VlanPort → Nat) (set : VlanPort → Nat → VlanPort) : (State.vlanTick s p get set).far = s.far := by simp [State.vlanTick]

@[simp ↓] theorem State.pairTick_far (s : State) (d : Fab) (k : Nat) (get : PairCtr → Nat) (set : PairCtr → Nat → PairCtr) : (State.pairTick s d k get set).far = s.far := by simp [State.pairTick]

@[simp ↓] theorem State.countBy_far (s : State) (d : Fab) (k : Nat) (b : By) (rule : Nat) : (State.countBy s d k b rule).far = s.far := by unfold State.countBy; split <;> simp

@[simp ↓] theorem State.permitZone_far (s : State) (d : Fab) (inZone : Nat) (v : Verdict) : (State.permitZone s d inZone v).1.far = s.far := by unfold State.permitZone; split <;> simp

theorem State.permitZone_far' (s : State) (d : Fab) (inZone : Nat) (v : Verdict) (t) (y) (h : State.permitZone s d inZone v = (t, y)) : t.far = s.far := by
  have := State.permitZone_far s d inZone v
  rw [h] at this; exact this

@[simp ↓] theorem State.fragMake_far (s : State) (d : Fab) (r : ParseRes) (inZone : Nat) (vs : List Verdict) : (State.fragMake s d r inZone vs).far = s.far := by
  unfold State.fragMake
  repeat' (first | (with_reducible rfl) | (simp [↓apply_ite State.far]; done) | split | (simp [↓apply_ite State.far, *]; done) | (grind [= State.dieTick_far, = State.modFab_far]) | (simp [↓apply_ite State.far]))

@[simp ↓] theorem State.fragUse_far (s : State) (d : Fab) (r : ParseRes) (inZone : Nat) : (State.fragUse s d r inZone).1.far = s.far := by unfold State.fragUse; split <;> simp

theorem State.fragUse_far' (s : State) (d : Fab) (r : ParseRes) (inZone : Nat) (t) (y) (h : State.fragUse s d r inZone = (t, y)) : t.far = s.far := by
  have := State.fragUse_far s d r inZone
  rw [h] at this; exact this

@[simp ↓] theorem State.filterTick_far (s : State) (d : Fab) (i : Nat) (get : FilterDyn → Nat) (set : FilterDyn → Nat → FilterDyn) : (State.filterTick s d i get set).far = s.far := by simp [State.filterTick]

@[simp ↓] theorem State.filterBlock_far (s : State) (d : Fab) (i : Nat) (b : Bool) : (State.filterBlock s d i b).far = s.far := by simp [State.filterBlock, ↓apply_ite State.far]

@[simp ↓] theorem State.filterCheck_far (s : State) (d : Fab) (i : Nat) (c : FilterCfg) (len : Option Nat) : (State.filterCheck s d i c len).1.far = s.far := by
  unfold State.filterCheck
  repeat' (first | (with_reducible rfl) | (simp [↓apply_ite State.far]; done) | split | (simp [↓apply_ite State.far, *]; done) | (grind [= State.filterBlock_far, = State.filterTick_far, = State.modZd_far]) | (simp [↓apply_ite State.far]))

theorem State.filterCheck_far' (s : State) (d : Fab) (i : Nat) (c : FilterCfg) (len : Option Nat) (t) (y) (h : State.filterCheck s d i c len = (t, y)) : t.far = s.far := by
  have := State.filterCheck_far s d i c len
  rw [h] at this; exact this

@[simp ↓] theorem State.meterJudge_far (s : State) (d : Fab) (i : Nat) (len : Option Nat) (c : Colour) : (State.meterJudge s d i len c).1.far = s.far := by simp [State.meterJudge]

theorem State.meterJudge_far' (s : State) (d : Fab) (i : Nat) (len : Option Nat) (c : Colour) (t) (y) (h : State.meterJudge s d i len c = (t, y)) : t.far = s.far := by
  have := State.meterJudge_far s d i len c
  rw [h] at this; exact this

@[simp ↓] theorem State.meterBoth_far (s : State) (d : Fab) (fm rm : Option Nat) (len : Option Nat) (c : Colour) : (State.meterBoth s d fm rm len c).1.far = s.far := by
  unfold State.meterBoth
  repeat' (first | (with_reducible rfl) | (simp [↓apply_ite State.far]; done) | split | (simp [↓apply_ite State.far, *]; done) | (grind [→ State.meterJudge_far']) | (simp [↓apply_ite State.far]))

theorem State.meterBoth_far' (s : State) (d : Fab) (fm rm : Option Nat) (len : Option Nat) (c : Colour) (t) (y) (h : State.meterBoth s d fm rm len c = (t, y)) : t.far = s.far := by
  have := State.meterBoth_far s d fm rm len c
  rw [h] at this; exact this

/-! ### Classify -/

@[simp ↓] theorem State.describe_far (s : State) (d : Fab) (fid : Nat) (ds : Desc) (cs : List (Nat × Copy)) : (State.describe s d fid ds cs).far = s.far := by simp [State.describe, ↓apply_ite State.far]

@[simp ↓] theorem State.dropFrame_far (s : State) (d : Fab) (fid : Nat) (f : FrameSt) (ds : Desc) (flow : Nat) : (State.dropFrame s d fid f ds flow).far = s.far := by simp [State.dropFrame]

@[simp ↓] theorem State.malDrop_far (s : State) (d : Fab) (fid : Nat) (f : FrameSt) (r : ParseRes) (cause : Nat) : (State.malDrop s d fid f r cause).far = s.far := by simp [State.malDrop]

@[simp ↓] theorem State.countGroup_far (s : State) (d : Fab) (i n : Nat) : (State.countGroup s d i n).far = s.far := by simp [State.countGroup]

@[simp ↓] theorem State.hemLoop_far (s : State) (p : Nat) : (State.hemLoop s p).far = s.far := by simp [State.hemLoop]

@[simp ↓] theorem State.zonedOutputs_far (s : State) (d : Fab) (f : FrameSt) (stream : Nat) (x0 : List Nat) : (State.zonedOutputs s d f stream x0).1.far = s.far := by
  fun_induction State.zonedOutputs s d f stream x0
  all_goals repeat' (first | (with_reducible rfl) | (simp [↓apply_ite State.far]; done) | split | (simp [↓apply_ite State.far, *]; done) | (grind [= State.dieTick_far, = State.hemLoop_far, = State.modGw_far, = State.raiseDie_far]) | (simp [↓apply_ite State.far]))

theorem State.zonedOutputs_far' (s : State) (d : Fab) (f : FrameSt) (stream : Nat) (x0 : List Nat) (t) (y) (h : State.zonedOutputs s d f stream x0 = (t, y)) : t.far = s.far := by
  have := State.zonedOutputs_far s d f stream x0
  rw [h] at this; exact this

@[simp ↓] theorem State.judgeZones_far (s : State) (d : Fab) (r : ParseRes) (inPort inZone : Nat) (frag : Option (List Verdict)) (x0 : List Nat) : (State.judgeZones s d r inPort inZone frag x0).1.far = s.far := by
  fun_induction State.judgeZones s d r inPort inZone frag x0
  all_goals repeat' (first | (with_reducible rfl) | (simp [↓apply_ite State.far]; done) | split | (simp [↓apply_ite State.far, *]; done) | (grind [= State.countBy_far, → State.permitZone_far']) | (simp [↓apply_ite State.far]))

theorem State.judgeZones_far' (s : State) (d : Fab) (r : ParseRes) (inPort inZone : Nat) (frag : Option (List Verdict)) (x0 : List Nat) (t) (y) (h : State.judgeZones s d r inPort inZone frag x0 = (t, y)) : t.far = s.far := by
  have := State.judgeZones_far s d r inPort inZone frag x0
  rw [h] at this; exact this

@[simp ↓] theorem State.judgeSecond_far (s : State) (d : Fab) (r : ParseRes) (inPort inZone gen : Nat) (x0 : List Verdict) : (State.judgeSecond s d r inPort inZone gen x0).1.far = s.far := by
  fun_induction State.judgeSecond s d r inPort inZone gen x0
  all_goals repeat' (first | (with_reducible rfl) | (simp [↓apply_ite State.far]; done) | split | (simp [↓apply_ite State.far, *]; done) | (grind [= State.countBy_far, = State.dieTick_far]) | (simp [↓apply_ite State.far]))

theorem State.judgeSecond_far' (s : State) (d : Fab) (r : ParseRes) (inPort inZone gen : Nat) (x0 : List Verdict) (t) (y) (h : State.judgeSecond s d r inPort inZone gen x0 = (t, y)) : t.far = s.far := by
  have := State.judgeSecond_far s d r inPort inZone gen x0
  rw [h] at this; exact this

@[simp ↓] theorem State.learnRequest_far (s : State) (f : FrameSt) (r : ParseRes) (vid : Nat) (vs : List Verdict) : (State.learnRequest s f r vid vs).far = s.far := by simp [State.learnRequest, ↓apply_ite State.far]

@[simp ↓] theorem State.misconfig_far (s : State) (d : Fab) : (State.misconfig s d).far = s.far := by simp [State.misconfig]

@[simp ↓] theorem State.modFrer_far (s : State) (d : Fab) (n : Nat) (f : FrerDyn → FrerDyn) : (State.modFrer s d n f).far = s.far := by simp [State.modFrer]

@[simp ↓] theorem State.generate_far (s : State) (d : Fab) (ds : Desc) : (State.generate s d ds).1.far = s.far := by
  unfold State.generate
  repeat' (first | (with_reducible rfl) | (simp [↓apply_ite State.far]; done) | split | (simp [↓apply_ite State.far, *]; done) | (grind [= State.misconfig_far, = State.modFrer_far]) | (simp [↓apply_ite State.far]))

theorem State.generate_far' (s : State) (d : Fab) (ds : Desc) (t) (y) (h : State.generate s d ds = (t, y)) : t.far = s.far := by
  have := State.generate_far s d ds
  rw [h] at this; exact this

@[simp ↓] theorem State.conclude_far (s : State) (d : Fab) (fid : Nat) (f : FrameSt) (r : ParseRes) (ds0 : Desc) (outs : List (Nat × Nat)) (vs : List Verdict) (fm : Option Nat) (vid : Nat) : (State.conclude s d fid f r ds0 outs vs fm vid).far = s.far := by simp [State.conclude, ↓apply_ite State.far]

@[simp ↓] theorem State.toCpuOnly_far (s : State) (d : Fab) (fid : Nat) (f : FrameSt) (r : ParseRes) (q : Nat) : (State.toCpuOnly s d fid f r q).far = s.far := by simp [State.toCpuOnly]

@[simp ↓] theorem State.recirculate_far (s : State) (d : Fab) (fid : Nat) (f : FrameSt) (r : ParseRes) (ds : Desc) (vs : List Verdict) : (State.recirculate s d fid f r ds vs).far = s.far := by simp [State.recirculate, ↓apply_ite State.far]

@[simp ↓] theorem State.judge_far (s : State) (d : Fab) (fid : Nat) (f : FrameSt) (r : ParseRes) (ds : Desc) (ports : List Nat) (fm : Option Nat) (vid : Nat) : (State.judge s d fid f r ds ports fm vid).far = s.far := by
  unfold State.judge
  repeat' (first | (with_reducible rfl) | (simp [↓apply_ite State.far]; done) | split | (simp [↓apply_ite State.far, *]; done) | (grind [= State.conclude_far, = State.dieTick_far, = State.fragMake_far, → State.fragUse_far', → State.judgeZones_far', = State.modFrame_far, = State.recirculate_far, → State.zonedOutputs_far']) | (simp [↓apply_ite State.far]))

@[simp ↓] theorem State.classify_far (s : State) (d : Fab) (fid : Nat) (f0 : FrameSt) (r : ParseRes) : (State.classify s d fid f0 r).far = s.far := by
  unfold State.classify
  repeat' (first | (with_reducible rfl) | (simp [↓apply_ite State.far]; done) | split | (simp [↓apply_ite State.far, *]; done) | (grind [= State.countGroup_far, = State.dropFrame_far, → State.filterCheck_far', = State.malDrop_far, = State.modFab_far, = State.modFrame_far, = State.modParse_far, = State.modVlan_far, = State.raiseDie_far, = State.toCpuOnly_far, = State.vlanTick_far]) | (simp [↓apply_ite State.far]))

@[simp ↓] theorem State.classifySecond_far (s : State) (d : Fab) (fid : Nat) (f : FrameSt) (r : ParseRes) : (State.classifySecond s d fid f r).far = s.far := by
  unfold State.classifySecond
  repeat' (first | (with_reducible rfl) | (simp [↓apply_ite State.far]; done) | split | (simp [↓apply_ite State.far, *]; done) | (grind [= State.conclude_far, = State.forget_far, = State.fragMake_far, → State.judgeSecond_far', = State.malDrop_far, = State.modParse_far, = State.raiseDie_far]) | (simp [↓apply_ite State.far]))

theorem execCollectorTake_far (die : Fab) (eng : Nat) (s : State) : ∀ t, execCollectorTake die eng s = .next t → t.far = s.far := by
  intro t h
  unfold execCollectorTake at h
  first
  | (simp only [Host.Outcome.next.injEq] at h; subst h; repeat' (first | (with_reducible rfl) | (simp [↓apply_ite State.far]; done) | split | (simp [↓apply_ite State.far, *]; done) | (grind [= State.classify_far, = State.classifySecond_far, = State.modEngine_far, = State.modParse_far]) | (simp [↓apply_ite State.far])))
  | (split at h <;> (simp only [Host.Outcome.next.injEq] at h; subst h; repeat' (first | (with_reducible rfl) | (simp [↓apply_ite State.far]; done) | split | (simp [↓apply_ite State.far, *]; done) | (grind [= State.classify_far, = State.classifySecond_far, = State.modEngine_far, = State.modParse_far]) | (simp [↓apply_ite State.far]))))
  | (repeat' split at h
     all_goals (simp only [Host.Outcome.next.injEq] at h; subst h; repeat' (first | (with_reducible rfl) | (simp [↓apply_ite State.far]; done) | split | (simp [↓apply_ite State.far, *]; done) | (grind [= State.classify_far, = State.classifySecond_far, = State.modEngine_far, = State.modParse_far]) | (simp [↓apply_ite State.far]))))

/-! ### PoolCmds -/

@[simp ↓] theorem State.addSpare_far (s : State) (d : Fab) (x c : Nat) : (State.addSpare s d x c).far = s.far := by simp [State.addSpare, ↓apply_ite State.far]

@[simp ↓] theorem State.dropSpare_far (s : State) (d : Fab) (c : Nat) : (State.dropSpare s d c).far = s.far := by simp [State.dropSpare]

@[simp ↓] theorem State.grantSpares_far (s : State) (d : Fab) (i : Nat) (x0 : Nat) : (State.grantSpares s d i x0).far = s.far := by
  fun_induction State.grantSpares s d i x0
  all_goals repeat' (first | (with_reducible rfl) | (simp [↓apply_ite State.far]; done) | split | (simp [↓apply_ite State.far, *]; done) | (grind [= State.addSpare_far, → State.grantCell_far']) | (simp [↓apply_ite State.far]))

theorem execPoolAlloc_far (die : Fab) (owner : Nat) (req : AllocReq) (contended : Bool) (s : State) : ∀ t, execPoolAlloc die owner req contended s = .next t → t.far = s.far := by
  intro t h
  unfold execPoolAlloc at h
  first
  | (simp only [Host.Outcome.next.injEq] at h; subst h; repeat' (first | (with_reducible rfl) | (simp [↓apply_ite State.far]; done) | split | (simp [↓apply_ite State.far, *]; done) | (grind [= State.addSpare_far, → State.allocMsg_far', = State.contend_far, = State.emit_far, → State.grantCell_far']) | (simp [↓apply_ite State.far])))
  | (split at h <;> (simp only [Host.Outcome.next.injEq] at h; subst h; repeat' (first | (with_reducible rfl) | (simp [↓apply_ite State.far]; done) | split | (simp [↓apply_ite State.far, *]; done) | (grind [= State.addSpare_far, → State.allocMsg_far', = State.contend_far, = State.emit_far, → State.grantCell_far']) | (simp [↓apply_ite State.far]))))
  | (repeat' split at h
     all_goals (simp only [Host.Outcome.next.injEq] at h; subst h; repeat' (first | (with_reducible rfl) | (simp [↓apply_ite State.far]; done) | split | (simp [↓apply_ite State.far, *]; done) | (grind [= State.addSpare_far, → State.allocMsg_far', = State.contend_far, = State.emit_far, → State.grantCell_far']) | (simp [↓apply_ite State.far]))))

theorem execPoolFree_far (die : Fab) (owner pool index : Nat) (contended : Bool) (s : State) : ∀ t, execPoolFree die owner pool index contended s = .next t → t.far = s.far := by
  intro t h
  unfold execPoolFree at h
  first
  | (simp only [Host.Outcome.next.injEq] at h; subst h; repeat' (first | (with_reducible rfl) | (simp [↓apply_ite State.far]; done) | split | (simp [↓apply_ite State.far, *]; done) | (grind [= State.contend_far, = State.dropSpare_far, = State.emit_far, → State.freeCellChain_far', → State.freeMsg_far', → State.freeUnit_far']) | (simp [↓apply_ite State.far])))
  | (split at h <;> (simp only [Host.Outcome.next.injEq] at h; subst h; repeat' (first | (with_reducible rfl) | (simp [↓apply_ite State.far]; done) | split | (simp [↓apply_ite State.far, *]; done) | (grind [= State.contend_far, = State.dropSpare_far, = State.emit_far, → State.freeCellChain_far', → State.freeMsg_far', → State.freeUnit_far']) | (simp [↓apply_ite State.far]))))
  | (repeat' split at h
     all_goals (simp only [Host.Outcome.next.injEq] at h; subst h; repeat' (first | (with_reducible rfl) | (simp [↓apply_ite State.far]; done) | split | (simp [↓apply_ite State.far, *]; done) | (grind [= State.contend_far, = State.dropSpare_far, = State.emit_far, → State.freeCellChain_far', → State.freeMsg_far', → State.freeUnit_far']) | (simp [↓apply_ite State.far]))))

theorem execPoolShare_far (die : Fab) (owner pool index k : Nat) (contended : Bool) (s : State) : ∀ t, execPoolShare die owner pool index k contended s = .next t → t.far = s.far := by rintro _ ⟨⟩; split <;> simp

theorem execPoolRelease_far (die : Fab) (owner pool index : Nat) (contended : Bool) (s : State) : ∀ t, execPoolRelease die owner pool index contended s = .next t → t.far = s.far := by rintro _ ⟨⟩; split <;> simp

theorem execFreeListBuilt_far (die : Fab) (s : State) : ∀ t, execFreeListBuilt die s = .next t → t.far = s.far := by rintro _ ⟨⟩; simp

/-! ### Store -/

@[simp ↓] theorem State.modOut_far (s : State) (d : Fab) (o : Nat) (f : OutCfg → OutCfg) : (State.modOut s d o f).far = s.far := by simp [State.modOut]

@[simp ↓] theorem State.outTick_far (s : State) (d : Fab) (o : Nat) (get : OutCfg → Nat) (set : OutCfg → Nat → OutCfg) : (State.outTick s d o get set).far = s.far := by simp [State.outTick]

@[simp ↓] theorem State.modOutPool_far (s : State) (d : Fab) (o : Nat) (f : OutPool → OutPool) : (State.modOutPool s d o f).far = s.far := by simp [State.modOutPool]

@[simp ↓] theorem State.heldUp_far (s : State) (d : Fab) (o n : Nat) : (State.heldUp s d o n).far = s.far := by simp [State.heldUp]

@[simp ↓] theorem State.mirrorLost_far (s : State) (c : Copy) : (State.mirrorLost s c).far = s.far := by unfold State.mirrorLost; split <;> simp

@[simp ↓] theorem State.flushDrop_far (s : State) (d : Fab) (o : Nat) : (State.flushDrop s d o).far = s.far := by simp [State.flushDrop]

@[simp ↓] theorem State.ctBad_far (s : State) (d : Fab) (o cause : Nat) : (State.ctBad s d o cause).far = s.far := by simp [State.ctBad]

@[simp ↓] theorem State.tidy_far (s : State) (d : Fab) (fid : Nat) : (State.tidy s d fid).far = s.far := by
  unfold State.tidy
  repeat' (first | (with_reducible rfl) | (simp [↓apply_ite State.far]; done) | split | (simp [↓apply_ite State.far, *]; done) | (grind [= State.forget_far]) | (simp [↓apply_ite State.far]))

@[simp ↓] theorem State.chainLast_far (s : State) (d : Fab) (fid h x : Nat) : (State.chainLast s d fid h x).far = s.far := by simp [State.chainLast]

@[simp ↓] theorem State.releaseCopy_far (s : State) (d : Fab) (fid : Nat) (c : Copy) : (State.releaseCopy s d fid c).far = s.far := by
  unfold State.releaseCopy
  repeat' (first | (with_reducible rfl) | (simp [↓apply_ite State.far]; done) | split | (simp [↓apply_ite State.far, *]; done) | (grind [= State.chainLast_far, → State.freeCellChain_far', = State.freeUnits_far, = State.modFrame_far, = State.modOutPool_far, → State.releaseCell_far', = State.tidy_far]) | (simp [↓apply_ite State.far]))

@[simp ↓] theorem State.unchain_far (s : State) (d : Fab) (fid : Nat) : (State.unchain s d fid).far = s.far := by simp [State.unchain]

@[simp ↓] theorem State.settleWriter_far (s : State) (d : Fab) (fid : Nat) : (State.settleWriter s d fid).far = s.far := by
  unfold State.settleWriter
  repeat' (first | (with_reducible rfl) | (simp [↓apply_ite State.far]; done) | split | (simp [↓apply_ite State.far, *]; done) | (grind [→ State.freeCellChain_far', = State.modFrame_far, → State.releaseCell_far', = State.tidy_far, = State.unchain_far]) | (simp [↓apply_ite State.far]))

@[simp ↓] theorem State.frerJudge_far (s : State) (d : Fab) (n : Nat) (ds : Desc) : (State.frerJudge s d n ds).1.far = s.far := by
  unfold State.frerJudge
  repeat' (first | (with_reducible rfl) | (simp [↓apply_ite State.far]; done) | split | (simp [↓apply_ite State.far, *]; done) | (grind [= State.misconfig_far, = State.modFrer_far, = State.raiseDie_far]) | (simp [↓apply_ite State.far]))

theorem State.frerJudge_far' (s : State) (d : Fab) (n : Nat) (ds : Desc) (t) (y) (h : State.frerJudge s d n ds = (t, y)) : t.far = s.far := by
  have := State.frerJudge_far s d n ds
  rw [h] at this; exact this

@[simp ↓] theorem State.residence_far (s : State) (d : Fab) (o : Nat) (f : FrameSt) (ct : Bool) : (State.residence s d o f ct).far = s.far := by simp [State.residence, ↓apply_ite State.far]

@[simp ↓] theorem State.countRefuse_far (s : State) (d : Fab) (c : Copy) (w : Refuse) : (State.countRefuse s d c w).far = s.far := by unfold State.countRefuse; split <;> simp

@[simp ↓] theorem State.markHwm_far (s : State) (d : Fab) (o k : Nat) : (State.markHwm s d o k).far = s.far := by simp [State.markHwm]

@[simp ↓] theorem State.admitOne_far (s : State) (d : Fab) (fid : Nat) (f : FrameSt) (c : Copy) : (State.admitOne s d fid f c).1.far = s.far := by
  unfold State.admitOne
  repeat' (first | (with_reducible rfl) | (simp [↓apply_ite State.far]; done) | split | (simp [↓apply_ite State.far, *]; done) | (grind [= State.countRefuse_far, = State.heldUp_far, = State.modFab_far, = State.modFrame_far, = State.modPort_far, = State.markHwm_far, = State.releaseCopy_far, = State.residence_far]) | (simp [↓apply_ite State.far]))

theorem State.admitOne_far' (s : State) (d : Fab) (fid : Nat) (f : FrameSt) (c : Copy) (t) (y) (h : State.admitOne s d fid f c = (t, y)) : t.far = s.far := by
  have := State.admitOne_far s d fid f c
  rw [h] at this; exact this

@[simp ↓] theorem State.admitAll_far (s : State) (d : Fab) (fid : Nat) (ready : Copy → Bool) (x0 : Nat) (x1 : List Copy) : (State.admitAll s d fid ready x0 x1).1.far = s.far := by
  fun_induction State.admitAll s d fid ready x0 x1
  all_goals simp_all +zetaDelta [↓apply_ite State.far]

theorem State.admitAll_far' (s : State) (d : Fab) (fid : Nat) (ready : Copy → Bool) (x0 : Nat) (x1 : List Copy) (t) (y) (h : State.admitAll s d fid ready x0 x1 = (t, y)) : t.far = s.far := by
  have := State.admitAll_far s d fid ready x0 x1
  rw [h] at this; exact this

@[simp ↓] theorem State.recover_far (s : State) (d : Fab) (fid : Nat) : (State.recover s d fid).far = s.far := by
  unfold State.recover
  repeat' (first | (with_reducible rfl) | (simp [↓apply_ite State.far]; done) | split | (simp [↓apply_ite State.far, *]; done) | (grind [→ State.frerJudge_far', = State.modFrame_far, = State.releaseCopy_far]) | (simp [↓apply_ite State.far]))

@[simp ↓] theorem State.enqueue_far (s : State) (d : Fab) (fid : Nat) (atEnd : Bool) : (State.enqueue s d fid atEnd).far = s.far := by
  unfold State.enqueue
  repeat' (first | (with_reducible rfl) | (simp [↓apply_ite State.far]; done) | split | (simp [↓apply_ite State.far, *]; done) | (grind [→ State.admitAll_far', = State.modFrame_far, = State.recover_far, = State.settleWriter_far, → State.shareCell_far']) | (simp [↓apply_ite State.far]))

@[simp ↓] theorem State.writerCell_far (s : State) (d : Fab) (i : Nat) : (State.writerCell s d i).1.far = s.far := by
  unfold State.writerCell
  repeat' (first | (with_reducible rfl) | (simp [↓apply_ite State.far]; done) | split | (simp [↓apply_ite State.far, *]; done) | (grind [= State.addSpare_far, → State.grantCell_far', = State.modPool_far]) | (simp [↓apply_ite State.far]))

theorem State.writerCell_far' (s : State) (d : Fab) (i : Nat) (t) (y) (h : State.writerCell s d i = (t, y)) : t.far = s.far := by
  have := State.writerCell_far s d i
  rw [h] at this; exact this

@[simp ↓] theorem State.noCell_far (s : State) (d : Fab) (fid : Nat) (c : Copy) : (State.noCell s d fid c).far = s.far := by simp [State.noCell, ↓apply_ite State.far]

@[simp ↓] theorem State.storeCommon_far (s : State) (d : Fab) (fid : Nat) (k : Nat) (ws : List Word) : (State.storeCommon s d fid k ws).far = s.far := by
  unfold State.storeCommon
  repeat' (first | (with_reducible rfl) | (simp [↓apply_ite State.far]; done) | split | (simp [↓apply_ite State.far, *]; done) | (grind [= State.heldUp_far, = State.modFrame_far, = State.modPool_far, = State.noCell_far, → State.writerCell_far']) | (simp [↓apply_ite State.far]))

@[simp ↓] theorem State.storeSpill_far (s : State) (d : Fab) (fid : Nat) (c : Copy) (ws : List Word) : (State.storeSpill s d fid c ws).far = s.far := by
  unfold State.storeSpill
  repeat' (first | (with_reducible rfl) | (simp [↓apply_ite State.far]; done) | split | (simp [↓apply_ite State.far, *]; done) | (grind [→ State.grantCell_far', = State.heldUp_far, = State.modFrame_far, = State.modPool_far, = State.noCell_far]) | (simp [↓apply_ite State.far]))

@[simp ↓] theorem State.storePocket_far (s : State) (d : Fab) (fid k : Nat) (ws : List Word) (c : Copy) : (State.storePocket s d fid k ws c).far = s.far := by
  unfold State.storePocket
  repeat' (first | (with_reducible rfl) | (simp [↓apply_ite State.far]; done) | split | (simp [↓apply_ite State.far, *]; done) | (grind [= State.freeUnits_far, = State.grantUnits_far, = State.modFrame_far, = State.modOutPool_far, = State.modPool_far, = State.storeSpill_far]) | (simp [↓apply_ite State.far]))

@[simp ↓] theorem State.prepare_far (s : State) (d : Fab) (fid : Nat) (f : FrameSt) : (State.prepare s d fid f).far = s.far := by simp [State.prepare]

@[simp ↓] theorem State.markGrowth_far (s : State) (d : Fab) (fid : Nat) : (State.markGrowth s d fid).far = s.far := by
  unfold State.markGrowth
  split
  · rfl
  · simp

@[simp ↓] theorem State.storeWord_far (s : State) (d : Fab) (fid : Nat) (data : List Byte) (last early : Bool) : (State.storeWord s d fid data last early).far = s.far := by
  unfold State.storeWord
  repeat' (first | (with_reducible rfl) | (simp [↓apply_ite State.far]; done) | split | (simp [↓apply_ite State.far, *]; done) | (grind [= State.enqueue_far, = State.markGrowth_far, = State.modFrame_far, = State.prepare_far, = State.storeCommon_far, = State.storePocket_far]) | (simp [↓apply_ite State.far]))

@[simp ↓] theorem State.giveBackAll_far (s : State) (d : Fab) (f : FrameSt) (whole : Bool) : (State.giveBackAll s d f whole).far = s.far := by simp [State.giveBackAll]

@[simp ↓] theorem State.endBad_far (s : State) (d : Fab) (fid : Nat) (cause : Nat) : (State.endBad s d fid cause).far = s.far := by simp [State.endBad, ↓apply_ite State.far]

@[simp ↓] theorem State.dropNamed_far (s : State) (d : Fab) (fid : Nat) : (State.dropNamed s d fid).far = s.far := by simp [State.dropNamed]

@[simp ↓] theorem State.sduLate_far (s : State) (d : Fab) (fid : Nat) (f : FrameSt) : (State.sduLate s d fid f).far = s.far := by
  unfold State.sduLate
  repeat' (first | (with_reducible rfl) | (simp [↓apply_ite State.far]; done) | split | (simp [↓apply_ite State.far, *]; done) | (grind [= State.dropNamed_far, = State.filterBlock_far, = State.filterTick_far]) | (simp [↓apply_ite State.far]))

@[simp ↓] theorem State.countMac_far (s : State) (f : FrameSt) (cause : Nat) : (State.countMac s f cause).far = s.far := by simp [State.countMac, ↓apply_ite State.far]

@[simp ↓] theorem State.endFrame_far (s : State) (d : Fab) (fid : Nat) (f : FrameSt) : (State.endFrame s d fid f).far = s.far := by
  unfold State.endFrame
  repeat' (first | (with_reducible rfl) | (simp [↓apply_ite State.far]; done) | split | (simp [↓apply_ite State.far, *]; done) | (grind [= State.countMac_far, = State.dropNamed_far, = State.endBad_far, = State.enqueue_far, = State.giveBackAll_far, = State.modFrame_far, = State.modParse_far, = State.raiseDie_far, = State.sduLate_far, = State.settleWriter_far]) | (simp [↓apply_ite State.far]))

theorem execFabricWordStore_far (die : Fab) (fid : Nat) (s : State) : ∀ t, execFabricWordStore die fid s = .next t → t.far = s.far := by
  intro t h
  unfold execFabricWordStore at h
  first
  | (simp only [Host.Outcome.next.injEq] at h; subst h; repeat' (first | (with_reducible rfl) | (simp [↓apply_ite State.far]; done) | split | (simp [↓apply_ite State.far, *]; done) | (grind [= State.advQ_far, = State.storeWord_far]) | (simp [↓apply_ite State.far])))
  | (split at h <;> (simp only [Host.Outcome.next.injEq] at h; subst h; repeat' (first | (with_reducible rfl) | (simp [↓apply_ite State.far]; done) | split | (simp [↓apply_ite State.far, *]; done) | (grind [= State.advQ_far, = State.storeWord_far]) | (simp [↓apply_ite State.far]))))
  | (repeat' split at h
     all_goals (simp only [Host.Outcome.next.injEq] at h; subst h; repeat' (first | (with_reducible rfl) | (simp [↓apply_ite State.far]; done) | split | (simp [↓apply_ite State.far, *]; done) | (grind [= State.advQ_far, = State.storeWord_far]) | (simp [↓apply_ite State.far]))))

theorem execFrameEndStored_far (die : Fab) (fid dt : Nat) (s : State) : ∀ t, execFrameEndStored die fid dt s = .next t → t.far = s.far := by
  intro t h
  unfold execFrameEndStored at h
  first
  | (simp only [Host.Outcome.next.injEq] at h; subst h; repeat' (first | (with_reducible rfl) | (simp [↓apply_ite State.far]; done) | split | (simp [↓apply_ite State.far, *]; done) | (grind [= State.adv_far, = State.advQ_far, = State.endFrame_far]) | (simp [↓apply_ite State.far])))
  | (split at h <;> (simp only [Host.Outcome.next.injEq] at h; subst h; repeat' (first | (with_reducible rfl) | (simp [↓apply_ite State.far]; done) | split | (simp [↓apply_ite State.far, *]; done) | (grind [= State.adv_far, = State.advQ_far, = State.endFrame_far]) | (simp [↓apply_ite State.far]))))
  | (repeat' split at h
     all_goals (simp only [Host.Outcome.next.injEq] at h; subst h; repeat' (first | (with_reducible rfl) | (simp [↓apply_ite State.far]; done) | split | (simp [↓apply_ite State.far, *]; done) | (grind [= State.adv_far, = State.advQ_far, = State.endFrame_far]) | (simp [↓apply_ite State.far]))))

/-! ### Seam -/

@[simp ↓] theorem State.countTx_far (s : State) (d : Fab) (o q n : Nat) : (State.countTx s d o q n).far = s.far := by simp [State.countTx]

@[simp ↓] theorem State.seamEnd_far (s : State) (d : Fab) (fid : Nat) (bad : Option Nat) : (State.seamEnd s d fid bad).far = s.far := by unfold State.seamEnd; split <;> simp

@[simp ↓] theorem State.seamError_far (s : State) (d : Fab) : (State.seamError s d).far = s.far := by simp [State.seamError]

@[simp ↓] theorem State.seamCut_far (s : State) (d : Fab) (link : Nat) : (State.seamCut s d link).far = s.far := by simp [State.seamCut]

@[simp ↓] theorem State.flushOutput_far (s : State) (d : Fab) (o : Nat) : (State.flushOutput s d o).far = s.far := by simp [State.flushOutput]

theorem execSeamFrameStart_far (die : Fab) (link : Nat) (s : State) : ∀ t, execSeamFrameStart die link s = .next t → t.far = s.far := by
  intro t h
  unfold execSeamFrameStart at h
  first
  | (simp only [Host.Outcome.next.injEq] at h; subst h; repeat' (first | (with_reducible rfl) | (simp [↓apply_ite State.far]; done) | split | (simp [↓apply_ite State.far, *]; done) | (grind [= State.modFrame_far]) | (simp [↓apply_ite State.far])))
  | (split at h <;> (simp only [Host.Outcome.next.injEq] at h; subst h; repeat' (first | (with_reducible rfl) | (simp [↓apply_ite State.far]; done) | split | (simp [↓apply_ite State.far, *]; done) | (grind [= State.modFrame_far]) | (simp [↓apply_ite State.far]))))
  | (repeat' split at h
     all_goals (simp only [Host.Outcome.next.injEq] at h; subst h; repeat' (first | (with_reducible rfl) | (simp [↓apply_ite State.far]; done) | split | (simp [↓apply_ite State.far, *]; done) | (grind [= State.modFrame_far]) | (simp [↓apply_ite State.far]))))

theorem execSeamWordSend_far (die : Fab) (link : Nat) (s : State) : ∀ t, execSeamWordSend die link s = .next t → t.far = s.far := by
  intro t h
  unfold execSeamWordSend at h
  first
  | (simp only [Host.Outcome.next.injEq] at h; subst h; repeat' (first | (with_reducible rfl) | (simp [↓apply_ite State.far]; done) | split | (simp [↓apply_ite State.far, *]; done) | (grind [= State.countTx_far, = State.modFab_far, = State.modFrame_far, = State.releaseCopy_far]) | (simp [↓apply_ite State.far])))
  | (split at h <;> (simp only [Host.Outcome.next.injEq] at h; subst h; repeat' (first | (with_reducible rfl) | (simp [↓apply_ite State.far]; done) | split | (simp [↓apply_ite State.far, *]; done) | (grind [= State.countTx_far, = State.modFab_far, = State.modFrame_far, = State.releaseCopy_far]) | (simp [↓apply_ite State.far]))))
  | (repeat' split at h
     all_goals (simp only [Host.Outcome.next.injEq] at h; subst h; repeat' (first | (with_reducible rfl) | (simp [↓apply_ite State.far]; done) | split | (simp [↓apply_ite State.far, *]; done) | (grind [= State.countTx_far, = State.modFab_far, = State.modFrame_far, = State.releaseCopy_far]) | (simp [↓apply_ite State.far]))))

theorem execSeamWordRx_far (die : Fab) (link : Nat) (s : State) : ∀ t, execSeamWordRx die link s = .next t → t.far = s.far := by
  intro t h
  unfold execSeamWordRx at h
  first
  | (simp only [Host.Outcome.next.injEq] at h; subst h; repeat' (first | (with_reducible rfl) | (simp [↓apply_ite State.far]; done) | split | (simp [↓apply_ite State.far, *]; done) | (grind [→ State.addFrame_far', = State.modFab_far, = State.seamEnd_far, = State.seamError_far, = State.storeWord_far]) | (simp [↓apply_ite State.far])))
  | (split at h <;> (simp only [Host.Outcome.next.injEq] at h; subst h; repeat' (first | (with_reducible rfl) | (simp [↓apply_ite State.far]; done) | split | (simp [↓apply_ite State.far, *]; done) | (grind [→ State.addFrame_far', = State.modFab_far, = State.seamEnd_far, = State.seamError_far, = State.storeWord_far]) | (simp [↓apply_ite State.far]))))
  | (repeat' split at h
     all_goals (simp only [Host.Outcome.next.injEq] at h; subst h; repeat' (first | (with_reducible rfl) | (simp [↓apply_ite State.far]; done) | split | (simp [↓apply_ite State.far, *]; done) | (grind [→ State.addFrame_far', = State.modFab_far, = State.seamEnd_far, = State.seamError_far, = State.storeWord_far]) | (simp [↓apply_ite State.far]))))

theorem execSeamLinkLost_far (link : Nat) (west east : Bool) (s : State) : ∀ t, execSeamLinkLost link west east s = .next t → t.far = s.far := by
  intro t h
  unfold execSeamLinkLost at h
  first
  | (simp only [Host.Outcome.next.injEq] at h; subst h; repeat' (first | (with_reducible rfl) | (simp [↓apply_ite State.far]; done) | split | (simp [↓apply_ite State.far, *]; done) | (grind [= State.flushOutput_far, = State.logFault_far, = State.modSys_far, = State.seamCut_far]) | (simp [↓apply_ite State.far])))
  | (split at h <;> (simp only [Host.Outcome.next.injEq] at h; subst h; repeat' (first | (with_reducible rfl) | (simp [↓apply_ite State.far]; done) | split | (simp [↓apply_ite State.far, *]; done) | (grind [= State.flushOutput_far, = State.logFault_far, = State.modSys_far, = State.seamCut_far]) | (simp [↓apply_ite State.far]))))
  | (repeat' split at h
     all_goals (simp only [Host.Outcome.next.injEq] at h; subst h; repeat' (first | (with_reducible rfl) | (simp [↓apply_ite State.far]; done) | split | (simp [↓apply_ite State.far, *]; done) | (grind [= State.flushOutput_far, = State.logFault_far, = State.modSys_far, = State.seamCut_far]) | (simp [↓apply_ite State.far]))))

/-! ### Own -/

@[simp ↓] theorem State.inject_far (s : State) (p q : Nat) (m : OwnMsg) (bytes : List Byte) : (State.inject s p q m bytes).far = s.far := by simp [State.inject, ↓apply_ite State.far]

@[simp ↓] theorem State.modGptp_far (s : State) (p : Nat) (f : PtpPort → PtpPort) : (State.modGptp s p f).far = s.far := (rfl)

@[simp ↓] theorem State.sendPtp_far (s : State) (p : Nat) (m : OwnMsg) (bytes : List Byte) : (State.sendPtp s p m bytes).far = s.far := by simp [State.sendPtp]

@[simp ↓] theorem State.ownSent_far (s : State) (p : Nat) (f : FrameSt) (c : Copy) : (State.ownSent s p f c).far = s.far := by
  unfold State.ownSent
  repeat' (first | (with_reducible rfl) | (simp [↓apply_ite State.far]; done) | split | (simp [↓apply_ite State.far, *]; done) | (grind [= State.modGptp_far, = State.raiseDie_far, = State.sendPtp_far]) | (simp [↓apply_ite State.far]))

/-! ### Egress -/

@[simp ↓] theorem State.modTx_far (s : State) (d : Fab) (o : Nat) (f : TxSt → TxSt) : (State.modTx s d o f).far = s.far := by simp [State.modTx]

@[simp ↓] theorem State.settle_far (s : State) (d : Fab) (o : Nat) (whole : Bool) : (State.settle s d o whole).far = s.far := by simp [State.settle, ↓apply_ite State.far]

@[simp ↓] theorem State.startTx_far (s : State) (d : Fab) (o : Nat) (k : Nat × Nat) (f : FrameSt) (c : Copy) (b : Nat) (wait : Bool) : (State.startTx s d o k f c b wait).far = s.far := by simp [State.startTx]

@[simp ↓] theorem State.beforeTx_far (s : State) (d : Fab) (o : Nat) (fid : Nat) (f : FrameSt) (c : Copy) : (State.beforeTx s d o fid f c).1.far = s.far := by
  unfold State.beforeTx
  repeat' (first | (with_reducible rfl) | (simp [↓apply_ite State.far]; done) | split | (simp [↓apply_ite State.far, *]; done) | (grind [= State.ctBad_far, = State.modFrame_far, = State.modPort_far, = State.raiseDie_far, = State.releaseCopy_far, = State.vlanTick_far]) | (simp [↓apply_ite State.far]))

theorem State.beforeTx_far' (s : State) (d : Fab) (o : Nat) (fid : Nat) (f : FrameSt) (c : Copy) (t) (y) (h : State.beforeTx s d o fid f c = (t, y)) : t.far = s.far := by
  have := State.beforeTx_far s d o fid f c
  rw [h] at this; exact this

@[simp ↓] theorem State.select_far (s0 : State) (d : Fab) (o lat : Nat) : (State.select s0 d o lat).far = s0.far := by
  unfold State.select
  repeat' (first | (with_reducible rfl) | (simp [↓apply_ite State.far]; done) | split | (simp [↓apply_ite State.far, *]; done) | (grind [→ State.beforeTx_far', = State.modFrame_far, = State.modTx_far, = State.settle_far, = State.startTx_far]) | (simp [↓apply_ite State.far]))

@[simp ↓] theorem State.sampleFrame_far (s : State) (d : Fab) (i delay : Nat) : (State.sampleFrame s d i delay).far = s.far := by simp [State.sampleFrame, ↓apply_ite State.far]

@[simp ↓] theorem State.countDelay_far (s : State) (d : Fab) (o : Nat) (f : FrameSt) (c : Copy) : (State.countDelay s d o f c).far = s.far := by simp [State.countDelay, ↓apply_ite State.far]

@[simp ↓] theorem State.handOut_far (s : State) (d : Fab) (o : Nat) (f : FrameSt) (c : Copy) : (State.handOut s d o f c).far = s.far := by
  unfold State.handOut
  repeat' (first | (with_reducible rfl) | (simp [↓apply_ite State.far]; done) | split | (simp [↓apply_ite State.far, *]; done) | (grind [= State.emit_far, = State.modGw_far, = State.ownSent_far]) | (simp [↓apply_ite State.far]))

@[simp ↓] theorem State.finishTx_far (s : State) (d : Fab) (o : Nat) (k : Nat × Nat) (f : FrameSt) (c : Copy) : (State.finishTx s d o k f c).far = s.far := by
  unfold State.finishTx
  repeat' (first | (with_reducible rfl) | (simp [↓apply_ite State.far]; done) | split | (simp [↓apply_ite State.far, *]; done) | (grind [= State.countDelay_far, = State.countTx_far, = State.handOut_far, = State.modMm_far, = State.modQctr_far, = State.modTx_far, = State.modVlan_far, = State.raiseDie_far, = State.releaseCopy_far, = State.startTx_far]) | (simp [↓apply_ite State.far]))

@[simp ↓] theorem State.refillPort_far (s : State) (p : Nat) : (State.refillPort s p).far = s.far := by simp [State.refillPort, ↓apply_ite State.far]

theorem execEgressSelect_far (die : Fab) (out lat dt : Nat) (s : State) : ∀ t, execEgressSelect die out lat dt s = .next t → t.far = s.far := by rintro _ ⟨⟩; simp

@[simp ↓] theorem State.trimTx_far (s : State) (d : Fab) (o : Nat) (f : FrameSt) (c : Copy) : (State.trimTx s d o f c).far = s.far := by
  simp [State.trimTx, ↓apply_ite State.far]

theorem execEgressFrameEnd_far (die : Fab) (out : Nat) (s : State) : ∀ t, execEgressFrameEnd die out s = .next t → t.far = s.far := by
  intro t h
  unfold execEgressFrameEnd at h
  first
  | (simp only [Host.Outcome.next.injEq] at h; subst h; repeat' (first | (with_reducible rfl) | (simp [↓apply_ite State.far]; done) | split | (simp [↓apply_ite State.far, *]; done) | (grind [= State.advQ_far, = State.finishTx_far, = State.modTx_far, = State.settle_far]) | (simp [↓apply_ite State.far])))
  | (split at h <;> (simp only [Host.Outcome.next.injEq] at h; subst h; repeat' (first | (with_reducible rfl) | (simp [↓apply_ite State.far]; done) | split | (simp [↓apply_ite State.far, *]; done) | (grind [= State.advQ_far, = State.finishTx_far, = State.modTx_far, = State.settle_far]) | (simp [↓apply_ite State.far]))))
  | (repeat' split at h
     all_goals (simp only [Host.Outcome.next.injEq] at h; subst h; repeat' (first | (with_reducible rfl) | (simp [↓apply_ite State.far]; done) | split | (simp [↓apply_ite State.far, *]; done) | (grind [= State.advQ_far, = State.finishTx_far, = State.modTx_far, = State.settle_far]) | (simp [↓apply_ite State.far]))))

theorem execStagingUnderrun_far (die : Fab) (out : Nat) (s : State) : ∀ t, execStagingUnderrun die out s = .next t → t.far = s.far := by
  intro t h
  unfold execStagingUnderrun at h
  first
  | (simp only [Host.Outcome.next.injEq] at h; subst h; repeat' (first | (with_reducible rfl) | (simp [↓apply_ite State.far]; done) | split | (simp [↓apply_ite State.far, *]; done) | (grind [= State.advQ_far, = State.ctBad_far, = State.mirrorLost_far, = State.modFrame_far, = State.outTick_far, = State.releaseCopy_far]) | (simp [↓apply_ite State.far])))
  | (split at h <;> (simp only [Host.Outcome.next.injEq] at h; subst h; repeat' (first | (with_reducible rfl) | (simp [↓apply_ite State.far]; done) | split | (simp [↓apply_ite State.far, *]; done) | (grind [= State.advQ_far, = State.ctBad_far, = State.mirrorLost_far, = State.modFrame_far, = State.outTick_far, = State.releaseCopy_far]) | (simp [↓apply_ite State.far]))))
  | (repeat' split at h
     all_goals (simp only [Host.Outcome.next.injEq] at h; subst h; repeat' (first | (with_reducible rfl) | (simp [↓apply_ite State.far]; done) | split | (simp [↓apply_ite State.far, *]; done) | (grind [= State.advQ_far, = State.ctBad_far, = State.mirrorLost_far, = State.modFrame_far, = State.outTick_far, = State.releaseCopy_far]) | (simp [↓apply_ite State.far]))))

theorem execExpressPreempt_far (die : Fab) (out dt : Nat) (s0 : State) : ∀ t, execExpressPreempt die out dt s0 = .next t → t.far = s0.far := by
  intro t h
  unfold execExpressPreempt at h
  first
  | (simp only [Host.Outcome.next.injEq] at h; subst h; repeat' (first | (with_reducible rfl) | (simp [↓apply_ite State.far]; done) | split | (simp [↓apply_ite State.far, *]; done) | (grind [= State.adv_far, = State.advQ_far, = State.modFrame_far, = State.modMm_far, = State.modTx_far, = State.settle_far]) | (simp [↓apply_ite State.far])))
  | (split at h <;> (simp only [Host.Outcome.next.injEq] at h; subst h; repeat' (first | (with_reducible rfl) | (simp [↓apply_ite State.far]; done) | split | (simp [↓apply_ite State.far, *]; done) | (grind [= State.adv_far, = State.advQ_far, = State.modFrame_far, = State.modMm_far, = State.modTx_far, = State.settle_far]) | (simp [↓apply_ite State.far]))))
  | (repeat' split at h
     all_goals (simp only [Host.Outcome.next.injEq] at h; subst h; repeat' (first | (with_reducible rfl) | (simp [↓apply_ite State.far]; done) | split | (simp [↓apply_ite State.far, *]; done) | (grind [= State.adv_far, = State.advQ_far, = State.modFrame_far, = State.modMm_far, = State.modTx_far, = State.settle_far]) | (simp [↓apply_ite State.far]))))

theorem execCbsRefill_far (port : Nat) (s : State) : ∀ t, execCbsRefill port s = .next t → t.far = s.far := by rintro _ ⟨⟩; split <;> simp

/-! ### Activate -/

@[simp ↓] theorem State.learn_far (s : State) (d : Fab) (q : LearnReq) : (State.learn s d q).far = s.far := by
  unfold State.learn
  repeat' (first | (with_reducible rfl) | (simp [↓apply_ite State.far]; done) | split | (simp [↓apply_ite State.far, *]; done) | (grind [= State.dieTick_far, = State.modTab_far]) | (simp [↓apply_ite State.far]))

theorem execActivationArmDeadline_far (armed : Bool) (s : State) : ∀ t, execActivationArmDeadline armed s = .next t → t.far = s.far := by
  intro t h
  unfold execActivationArmDeadline at h
  first
  | (simp only [Host.Outcome.next.injEq] at h; subst h; repeat' (first | (with_reducible rfl) | (simp [↓apply_ite State.far]; done) | split | (simp [↓apply_ite State.far, *]; done) | (grind [= State.advQ_far, = State.finish_far, = State.modTab_far]) | (simp [↓apply_ite State.far])))
  | (split at h <;> (simp only [Host.Outcome.next.injEq] at h; subst h; repeat' (first | (with_reducible rfl) | (simp [↓apply_ite State.far]; done) | split | (simp [↓apply_ite State.far, *]; done) | (grind [= State.advQ_far, = State.finish_far, = State.modTab_far]) | (simp [↓apply_ite State.far]))))
  | (repeat' split at h
     all_goals (simp only [Host.Outcome.next.injEq] at h; subst h; repeat' (first | (with_reducible rfl) | (simp [↓apply_ite State.far]; done) | split | (simp [↓apply_ite State.far, *]; done) | (grind [= State.advQ_far, = State.finish_far, = State.modTab_far]) | (simp [↓apply_ite State.far]))))

theorem execActivationTimeReached_far (s : State) : ∀ t, execActivationTimeReached s = .next t → t.far = s.far := by
  intro t h
  unfold execActivationTimeReached at h
  first
  | (simp only [Host.Outcome.next.injEq] at h; subst h; repeat' (first | (with_reducible rfl) | (simp [↓apply_ite State.far]; done) | split | (simp [↓apply_ite State.far, *]; done) | (grind [= State.advQ_far, = State.finish_far, = State.modTab_far, = State.modZon_far]) | (simp [↓apply_ite State.far])))
  | (split at h <;> (simp only [Host.Outcome.next.injEq] at h; subst h; repeat' (first | (with_reducible rfl) | (simp [↓apply_ite State.far]; done) | split | (simp [↓apply_ite State.far, *]; done) | (grind [= State.advQ_far, = State.finish_far, = State.modTab_far, = State.modZon_far]) | (simp [↓apply_ite State.far]))))
  | (repeat' split at h
     all_goals (simp only [Host.Outcome.next.injEq] at h; subst h; repeat' (first | (with_reducible rfl) | (simp [↓apply_ite State.far]; done) | split | (simp [↓apply_ite State.far, *]; done) | (grind [= State.advQ_far, = State.finish_far, = State.modTab_far, = State.modZon_far]) | (simp [↓apply_ite State.far]))))

theorem execRuleBankRetired_far (s : State) : ∀ t, execRuleBankRetired s = .next t → t.far = s.far := by
  intro t h
  unfold execRuleBankRetired at h
  first
  | (simp only [Host.Outcome.next.injEq] at h; subst h; repeat' (first | (with_reducible rfl) | (simp [↓apply_ite State.far]; done) | split | (simp [↓apply_ite State.far, *]; done) | (grind [= State.finish_far, = State.modTab_far]) | (simp [↓apply_ite State.far])))
  | (split at h <;> (simp only [Host.Outcome.next.injEq] at h; subst h; repeat' (first | (with_reducible rfl) | (simp [↓apply_ite State.far]; done) | split | (simp [↓apply_ite State.far, *]; done) | (grind [= State.finish_far, = State.modTab_far]) | (simp [↓apply_ite State.far]))))
  | (repeat' split at h
     all_goals (simp only [Host.Outcome.next.injEq] at h; subst h; repeat' (first | (with_reducible rfl) | (simp [↓apply_ite State.far]; done) | split | (simp [↓apply_ite State.far, *]; done) | (grind [= State.finish_far, = State.modTab_far]) | (simp [↓apply_ite State.far]))))

theorem execFwdSweepEnd_far (s : State) : ∀ t, execFwdSweepEnd s = .next t → t.far = s.far := by
  intro t h
  unfold execFwdSweepEnd at h
  first
  | (simp only [Host.Outcome.next.injEq] at h; subst h; repeat' (first | (with_reducible rfl) | (simp [↓apply_ite State.far]; done) | split | (simp [↓apply_ite State.far, *]; done) | (grind [= State.finish_far, = State.modTab_far]) | (simp [↓apply_ite State.far])))
  | (split at h <;> (simp only [Host.Outcome.next.injEq] at h; subst h; repeat' (first | (with_reducible rfl) | (simp [↓apply_ite State.far]; done) | split | (simp [↓apply_ite State.far, *]; done) | (grind [= State.finish_far, = State.modTab_far]) | (simp [↓apply_ite State.far]))))
  | (repeat' split at h
     all_goals (simp only [Host.Outcome.next.injEq] at h; subst h; repeat' (first | (with_reducible rfl) | (simp [↓apply_ite State.far]; done) | split | (simp [↓apply_ite State.far, *]; done) | (grind [= State.finish_far, = State.modTab_far]) | (simp [↓apply_ite State.far]))))

theorem execLearnEntryWrite_far (s : State) : ∀ t, execLearnEntryWrite s = .next t → t.far = s.far := by
  intro t h
  unfold execLearnEntryWrite at h
  first
  | (simp only [Host.Outcome.next.injEq] at h; subst h; repeat' (first | (with_reducible rfl) | (simp [↓apply_ite State.far]; done) | split | (simp [↓apply_ite State.far, *]; done) | (grind [= State.learn_far, = State.modFab_far]) | (simp [↓apply_ite State.far])))
  | (split at h <;> (simp only [Host.Outcome.next.injEq] at h; subst h; repeat' (first | (with_reducible rfl) | (simp [↓apply_ite State.far]; done) | split | (simp [↓apply_ite State.far, *]; done) | (grind [= State.learn_far, = State.modFab_far]) | (simp [↓apply_ite State.far]))))
  | (repeat' split at h
     all_goals (simp only [Host.Outcome.next.injEq] at h; subst h; repeat' (first | (with_reducible rfl) | (simp [↓apply_ite State.far]; done) | split | (simp [↓apply_ite State.far, *]; done) | (grind [= State.learn_far, = State.modFab_far]) | (simp [↓apply_ite State.far]))))

theorem execFragTimeout_far (die : Fab) (index : Nat) (s : State) : ∀ t, execFragTimeout die index s = .next t → t.far = s.far := by rintro _ ⟨⟩; split <;> simp

theorem execFrerResetTimeout_far (die : Fab) (fn : Nat) (s : State) : ∀ t, execFrerResetTimeout die fn s = .next t → t.far = s.far := by rintro _ ⟨⟩; split <;> simp

theorem execRestoreHoldEnd_far (port : Nat) (s : State) : ∀ t, execRestoreHoldEnd port s = .next t → t.far = s.far := by rintro _ ⟨⟩; split <;> simp

theorem execCpuPortDelivery_far (die : Fab) (s : State) : ∀ t, execCpuPortDelivery die s = .next t → t.far = s.far := by
  intro t h
  unfold execCpuPortDelivery at h
  first
  | (simp only [Host.Outcome.next.injEq] at h; subst h; repeat' (first | (with_reducible rfl) | (simp [↓apply_ite State.far]; done) | split | (simp [↓apply_ite State.far, *]; done) | (grind [→ State.allocMsg_far', = State.countDelay_far, = State.countTx_far, = State.emit_far, = State.modPool_far, = State.modVlan_far, = State.releaseCopy_far, → State.shareMsg_far']) | (simp [↓apply_ite State.far])))
  | (split at h <;> (simp only [Host.Outcome.next.injEq] at h; subst h; repeat' (first | (with_reducible rfl) | (simp [↓apply_ite State.far]; done) | split | (simp [↓apply_ite State.far, *]; done) | (grind [→ State.allocMsg_far', = State.countDelay_far, = State.countTx_far, = State.emit_far, = State.modPool_far, = State.modVlan_far, = State.releaseCopy_far, → State.shareMsg_far']) | (simp [↓apply_ite State.far]))))
  | (repeat' split at h
     all_goals (simp only [Host.Outcome.next.injEq] at h; subst h; repeat' (first | (with_reducible rfl) | (simp [↓apply_ite State.far]; done) | split | (simp [↓apply_ite State.far, *]; done) | (grind [→ State.allocMsg_far', = State.countDelay_far, = State.countTx_far, = State.emit_far, = State.modPool_far, = State.modVlan_far, = State.releaseCopy_far, → State.shareMsg_far']) | (simp [↓apply_ite State.far]))))

/-! ### Time -/

@[simp ↓] theorem State.correct_far (s : State) (corr : Int) (force : Bool) : (State.correct s corr force).1.far = s.far := by
  unfold State.correct
  repeat' (first | (with_reducible rfl) | (simp [↓apply_ite State.far]; done) | split | (simp [↓apply_ite State.far, *]; done) | (grind [= State.modTim_far, = State.raiseDev_far]) | (simp [↓apply_ite State.far]))

theorem State.correct_far' (s : State) (corr : Int) (force : Bool) (t) (y) (h : State.correct s corr force = (t, y)) : t.far = s.far := by
  have := State.correct_far s corr force
  rw [h] at this; exact this

@[simp ↓] theorem State.timeMode_far (s : State) (m : TimeMode) : (State.timeMode s m).far = s.far := by simp [State.timeMode, ↓apply_ite State.far]

@[simp ↓] theorem State.stepTime_far (s : State) (amt : Int) : (State.stepTime s amt).far = s.far := by simp [State.stepTime]

@[simp ↓] theorem State.answerTimeSet_far (s : State) (step : Bool) : (State.answerTimeSet s step).far = s.far := by simp [State.answerTimeSet]

@[simp ↓] theorem State.applyFreq_far (s : State) : (State.applyFreq s).far = s.far := by unfold State.applyFreq; split <;> simp

@[simp ↓] theorem State.applyStep_far (s : State) : (State.applyStep s).far = s.far := by unfold State.applyStep; split <;> simp

@[simp ↓] theorem State.servoUpdate_far (s : State) : (State.servoUpdate s).far = s.far := (rfl)

@[simp ↓] theorem State.sample_far (s : State) (e : Int) : (State.sample s e).far = s.far := by
  unfold State.sample
  repeat' (first | (with_reducible rfl) | (simp [↓apply_ite State.far]; done) | split | (simp [↓apply_ite State.far, *]; done) | (grind [→ State.correct_far', = State.modTim_far, = State.servoUpdate_far, = State.timeMode_far]) | (simp [↓apply_ite State.far]))

@[simp ↓] theorem State.sourceLost_far (s : State) : (State.sourceLost s).far = s.far := by unfold State.sourceLost; split <;> simp

@[simp ↓] theorem State.ppsAccept_far (s : State) (cap whole : Int) : (State.ppsAccept s cap whole).far = s.far := by unfold State.ppsAccept; split <;> simp

@[simp ↓] theorem State.ppsReject_far (s : State) (off : Int) (run : List Int) : (State.ppsReject s off run).far = s.far := by simp [State.ppsReject]

@[simp ↓] theorem State.ppsEdge_far (s : State) : (State.ppsEdge s).far = s.far := by simp [State.ppsEdge, ↓apply_ite State.far]

/-! ### TimeCmds -/

theorem execFreqAdjApply_far (s : State) : ∀ t, execFreqAdjApply s = .next t → t.far = s.far := by rintro _ ⟨⟩; simp

theorem execTimeStepApply_far (s : State) : ∀ t, execTimeStepApply s = .next t → t.far = s.far := by rintro _ ⟨⟩; simp

theorem execSlewEnd_far (s : State) : ∀ t, execSlewEnd s = .next t → t.far = s.far := by
  intro t h
  unfold execSlewEnd at h
  first
  | (simp only [Host.Outcome.next.injEq] at h; subst h; repeat' (first | (with_reducible rfl) | (simp [↓apply_ite State.far]; done) | split | (simp [↓apply_ite State.far, *]; done) | (grind [= State.advTick_far, = State.modTim_far]) | (simp [↓apply_ite State.far])))
  | (split at h <;> (simp only [Host.Outcome.next.injEq] at h; subst h; repeat' (first | (with_reducible rfl) | (simp [↓apply_ite State.far]; done) | split | (simp [↓apply_ite State.far, *]; done) | (grind [= State.advTick_far, = State.modTim_far]) | (simp [↓apply_ite State.far]))))
  | (repeat' split at h
     all_goals (simp only [Host.Outcome.next.injEq] at h; subst h; repeat' (first | (with_reducible rfl) | (simp [↓apply_ite State.far]; done) | split | (simp [↓apply_ite State.far, *]; done) | (grind [= State.advTick_far, = State.modTim_far]) | (simp [↓apply_ite State.far]))))

theorem execPpsEdge_far (dt : Nat) (s : State) : ∀ t, execPpsEdge dt s = .next t → t.far = s.far := by rintro _ ⟨⟩; simp

theorem execPpsMissing_far (s : State) : ∀ t, execPpsMissing s = .next t → t.far = s.far := by
  intro t h
  unfold execPpsMissing at h
  first
  | (simp only [Host.Outcome.next.injEq] at h; subst h; repeat' (first | (with_reducible rfl) | (simp [↓apply_ite State.far]; done) | split | (simp [↓apply_ite State.far, *]; done) | (grind [= State.advTick_far, = State.modTim_far, = State.raiseDev_far, = State.sourceLost_far]) | (simp [↓apply_ite State.far])))
  | (split at h <;> (simp only [Host.Outcome.next.injEq] at h; subst h; repeat' (first | (with_reducible rfl) | (simp [↓apply_ite State.far]; done) | split | (simp [↓apply_ite State.far, *]; done) | (grind [= State.advTick_far, = State.modTim_far, = State.raiseDev_far, = State.sourceLost_far]) | (simp [↓apply_ite State.far]))))
  | (repeat' split at h
     all_goals (simp only [Host.Outcome.next.injEq] at h; subst h; repeat' (first | (with_reducible rfl) | (simp [↓apply_ite State.far]; done) | split | (simp [↓apply_ite State.far, *]; done) | (grind [= State.advTick_far, = State.modTim_far, = State.raiseDev_far, = State.sourceLost_far]) | (simp [↓apply_ite State.far]))))

theorem execHoldoverMaxExpiry_far (s : State) : ∀ t, execHoldoverMaxExpiry s = .next t → t.far = s.far := by rintro _ ⟨⟩; split <;> simp

theorem execPpsOutPulse_far (s : State) : ∀ t, execPpsOutPulse s = .next t → t.far = s.far := by
  intro t h
  unfold execPpsOutPulse at h
  simp only [Host.Outcome.next.injEq] at h; subst h
  simp only [↓apply_ite State.far, State.emit_far, State.modTim_far, State.advQ_far, ite_self]

/-! ### Ptp -/

@[simp ↓] theorem State.syncSample_far (s : State) (port : Nat) (arrival origin : Int) : (State.syncSample s port arrival origin).far = s.far := by simp [State.syncSample]

@[simp ↓] theorem State.slaveLost_far (s : State) : (State.slaveLost s).far = s.far := by
  unfold State.slaveLost
  repeat' (first | (with_reducible rfl) | (simp [↓apply_ite State.far]; done) | split | (simp [↓apply_ite State.far, *]; done) | (grind [= State.modTim_far, = State.sourceLost_far]) | (simp [↓apply_ite State.far]))

theorem execSyncTx_far (port dt : Nat) (s : State) : ∀ t, execSyncTx port dt s = .next t → t.far = s.far := by
  intro t h
  unfold execSyncTx at h
  first
  | (simp only [Host.Outcome.next.injEq] at h; subst h; repeat' (first | (with_reducible rfl) | (simp [↓apply_ite State.far]; done) | split | (simp [↓apply_ite State.far, *]; done) | (grind [= State.adv_far, = State.advQ_far, = State.modGptp_far, = State.sendPtp_far]) | (simp [↓apply_ite State.far])))
  | (split at h <;> (simp only [Host.Outcome.next.injEq] at h; subst h; repeat' (first | (with_reducible rfl) | (simp [↓apply_ite State.far]; done) | split | (simp [↓apply_ite State.far, *]; done) | (grind [= State.adv_far, = State.advQ_far, = State.modGptp_far, = State.sendPtp_far]) | (simp [↓apply_ite State.far]))))
  | (repeat' split at h
     all_goals (simp only [Host.Outcome.next.injEq] at h; subst h; repeat' (first | (with_reducible rfl) | (simp [↓apply_ite State.far]; done) | split | (simp [↓apply_ite State.far, *]; done) | (grind [= State.adv_far, = State.advQ_far, = State.modGptp_far, = State.sendPtp_far]) | (simp [↓apply_ite State.far]))))

theorem execFollowUpTx_far (port dt : Nat) (s : State) : ∀ t, execFollowUpTx port dt s = .next t → t.far = s.far := by
  intro t h
  unfold execFollowUpTx at h
  first
  | (simp only [Host.Outcome.next.injEq] at h; subst h; repeat' (first | (with_reducible rfl) | (simp [↓apply_ite State.far]; done) | split | (simp [↓apply_ite State.far, *]; done) | (grind [= State.adv_far, = State.modGptp_far, = State.sendPtp_far]) | (simp [↓apply_ite State.far])))
  | (split at h <;> (simp only [Host.Outcome.next.injEq] at h; subst h; repeat' (first | (with_reducible rfl) | (simp [↓apply_ite State.far]; done) | split | (simp [↓apply_ite State.far, *]; done) | (grind [= State.adv_far, = State.modGptp_far, = State.sendPtp_far]) | (simp [↓apply_ite State.far]))))
  | (repeat' split at h
     all_goals (simp only [Host.Outcome.next.injEq] at h; subst h; repeat' (first | (with_reducible rfl) | (simp [↓apply_ite State.far]; done) | split | (simp [↓apply_ite State.far, *]; done) | (grind [= State.adv_far, = State.modGptp_far, = State.sendPtp_far]) | (simp [↓apply_ite State.far]))))

theorem execPdelayReqTx_far (port dt : Nat) (s : State) : ∀ t, execPdelayReqTx port dt s = .next t → t.far = s.far := by
  intro t h
  unfold execPdelayReqTx at h
  first
  | (simp only [Host.Outcome.next.injEq] at h; subst h; repeat' (first | (with_reducible rfl) | (simp [↓apply_ite State.far]; done) | split | (simp [↓apply_ite State.far, *]; done) | (grind [= State.adv_far, = State.modGptp_far, = State.raiseDie_far, = State.sendPtp_far]) | (simp [↓apply_ite State.far])))
  | (split at h <;> (simp only [Host.Outcome.next.injEq] at h; subst h; repeat' (first | (with_reducible rfl) | (simp [↓apply_ite State.far]; done) | split | (simp [↓apply_ite State.far, *]; done) | (grind [= State.adv_far, = State.modGptp_far, = State.raiseDie_far, = State.sendPtp_far]) | (simp [↓apply_ite State.far]))))
  | (repeat' split at h
     all_goals (simp only [Host.Outcome.next.injEq] at h; subst h; repeat' (first | (with_reducible rfl) | (simp [↓apply_ite State.far]; done) | split | (simp [↓apply_ite State.far, *]; done) | (grind [= State.adv_far, = State.modGptp_far, = State.raiseDie_far, = State.sendPtp_far]) | (simp [↓apply_ite State.far]))))

theorem execPdelayRx_far (port : Nat) (s : State) : ∀ t, execPdelayRx port s = .next t → t.far = s.far := by
  intro t h
  unfold execPdelayRx at h
  first
  | (simp only [Host.Outcome.next.injEq] at h; subst h; repeat' (first | (with_reducible rfl) | (simp [↓apply_ite State.far]; done) | split | (simp [↓apply_ite State.far, *]; done) | (grind [= State.modGptp_far, = State.sendPtp_far]) | (simp [↓apply_ite State.far])))
  | (split at h <;> (simp only [Host.Outcome.next.injEq] at h; subst h; repeat' (first | (with_reducible rfl) | (simp [↓apply_ite State.far]; done) | split | (simp [↓apply_ite State.far, *]; done) | (grind [= State.modGptp_far, = State.sendPtp_far]) | (simp [↓apply_ite State.far]))))
  | (repeat' split at h
     all_goals (simp only [Host.Outcome.next.injEq] at h; subst h; repeat' (first | (with_reducible rfl) | (simp [↓apply_ite State.far]; done) | split | (simp [↓apply_ite State.far, *]; done) | (grind [= State.modGptp_far, = State.sendPtp_far]) | (simp [↓apply_ite State.far]))))

theorem execSyncRx_far (port : Nat) (s : State) : ∀ t, execSyncRx port s = .next t → t.far = s.far := by
  intro t h
  unfold execSyncRx at h
  first
  | (simp only [Host.Outcome.next.injEq] at h; subst h; repeat' (first | (with_reducible rfl) | (simp [↓apply_ite State.far]; done) | split | (simp [↓apply_ite State.far, *]; done) | (grind [= State.modGptp_far, = State.raiseDie_far, = State.syncSample_far]) | (simp [↓apply_ite State.far])))
  | (split at h <;> (simp only [Host.Outcome.next.injEq] at h; subst h; repeat' (first | (with_reducible rfl) | (simp [↓apply_ite State.far]; done) | split | (simp [↓apply_ite State.far, *]; done) | (grind [= State.modGptp_far, = State.raiseDie_far, = State.syncSample_far]) | (simp [↓apply_ite State.far]))))
  | (repeat' split at h
     all_goals (simp only [Host.Outcome.next.injEq] at h; subst h; repeat' (first | (with_reducible rfl) | (simp [↓apply_ite State.far]; done) | split | (simp [↓apply_ite State.far, *]; done) | (grind [= State.modGptp_far, = State.raiseDie_far, = State.syncSample_far]) | (simp [↓apply_ite State.far]))))

theorem execSyncTimeout_far (s : State) : ∀ t, execSyncTimeout s = .next t → t.far = s.far := by rintro _ ⟨⟩; split <;> simp

theorem execAnnounceTx_far (port dt : Nat) (s : State) : ∀ t, execAnnounceTx port dt s = .next t → t.far = s.far := by rintro _ ⟨⟩; split <;> simp

/-! ### Maint -/

@[simp ↓] theorem State.dropToken_far (s : State) (a obj : Nat) : (State.dropToken s a obj).far = s.far := by simp [State.dropToken, ↓apply_ite State.far]

/-! ### Links -/

@[simp ↓] theorem State.setDownBit_far (s : State) (p : Nat) (b : Bool) : (State.setDownBit s p b).far = s.far := by simp [State.setDownBit, ↓apply_ite State.far]

@[simp ↓] theorem State.leaveUp_far (s : State) (p : Nat) : (State.leaveUp s p).far = s.far := by simp [State.leaveUp, ↓apply_ite State.far]

@[simp ↓] theorem State.portTo_far (s : State) (p : Nat) (m : LinkMode) (count : Bool) : (State.portTo s p m count).far = s.far := by simp [State.portTo, ↓apply_ite State.far]

@[simp ↓] theorem State.portUp_far (s : State) (p : Nat) : (State.portUp s p).far = s.far := by simp [State.portUp]

@[simp ↓] theorem State.train_far (s : State) (p : Nat) (count : Bool) : (State.train s p count).far = s.far := by simp [State.train, ↓apply_ite State.far]

@[simp ↓] theorem State.linkLost_far (s : State) (p : Nat) : (State.linkLost s p).far = s.far := by simp [State.linkLost, ↓apply_ite State.far]

@[simp ↓] theorem State.plcaStart_far (s : State) (d : Fab) (o : Nat) : (State.plcaStart s d o).far = s.far := by
  unfold State.plcaStart
  repeat' (first | (with_reducible rfl) | (simp [↓apply_ite State.far]; done) | split | (simp [↓apply_ite State.far, *]; done) | (grind [= State.modFrame_far, = State.modTx_far]) | (simp [↓apply_ite State.far]))

theorem execLinkDownDeclared_far (port : Nat) (s : State) : ∀ t, execLinkDownDeclared port s = .next t → t.far = s.far := by rintro _ ⟨⟩; split <;> simp

theorem execPcsLock_far (port dt : Nat) (s : State) : ∀ t, execPcsLock port dt s = .next t → t.far = s.far := by
  intro t h
  unfold execPcsLock at h
  first
  | (simp only [Host.Outcome.next.injEq] at h; subst h; repeat' (first | (with_reducible rfl) | (simp [↓apply_ite State.far]; done) | split | (simp [↓apply_ite State.far, *]; done) | (grind [= State.adv_far, = State.portTick_far, = State.portUp_far]) | (simp [↓apply_ite State.far])))
  | (split at h <;> (simp only [Host.Outcome.next.injEq] at h; subst h; repeat' (first | (with_reducible rfl) | (simp [↓apply_ite State.far]; done) | split | (simp [↓apply_ite State.far, *]; done) | (grind [= State.adv_far, = State.portTick_far, = State.portUp_far]) | (simp [↓apply_ite State.far]))))
  | (repeat' split at h
     all_goals (simp only [Host.Outcome.next.injEq] at h; subst h; repeat' (first | (with_reducible rfl) | (simp [↓apply_ite State.far]; done) | split | (simp [↓apply_ite State.far, *]; done) | (grind [= State.adv_far, = State.portTick_far, = State.portUp_far]) | (simp [↓apply_ite State.far]))))

theorem execTrainTimeout_far (port : Nat) (s : State) : ∀ t, execTrainTimeout port s = .next t → t.far = s.far := by rintro _ ⟨⟩; split <;> simp

theorem execUsxgmiiAnWord_far (port : Nat) (up : Bool) (rate : Nat) (s : State) : ∀ t, execUsxgmiiAnWord port up rate s = .next t → t.far = s.far := by
  intro t h
  unfold execUsxgmiiAnWord at h
  first
  | (simp only [Host.Outcome.next.injEq] at h; subst h; repeat' (first | (with_reducible rfl) | (simp [↓apply_ite State.far]; done) | split | (simp [↓apply_ite State.far, *]; done) | (grind [= State.linkLost_far, = State.modPort_far, = State.portUp_far]) | (simp [↓apply_ite State.far])))
  | (split at h <;> (simp only [Host.Outcome.next.injEq] at h; subst h; repeat' (first | (with_reducible rfl) | (simp [↓apply_ite State.far]; done) | split | (simp [↓apply_ite State.far, *]; done) | (grind [= State.linkLost_far, = State.modPort_far, = State.portUp_far]) | (simp [↓apply_ite State.far]))))
  | (repeat' split at h
     all_goals (simp only [Host.Outcome.next.injEq] at h; subst h; repeat' (first | (with_reducible rfl) | (simp [↓apply_ite State.far]; done) | split | (simp [↓apply_ite State.far, *]; done) | (grind [= State.linkLost_far, = State.modPort_far, = State.portUp_far]) | (simp [↓apply_ite State.far]))))

theorem execResumeDeadline_far (port : Nat) (s : State) : ∀ t, execResumeDeadline port s = .next t → t.far = s.far := by rintro _ ⟨⟩; split <;> simp

theorem execWakePulseEnd_far (port : Nat) (s : State) : ∀ t, execWakePulseEnd port s = .next t → t.far = s.far := by rintro _ ⟨⟩; split <;> simp

theorem execTc10SleepAckRx_far (port : Nat) (s : State) : ∀ t, execTc10SleepAckRx port s = .next t → t.far = s.far := by rintro _ ⟨⟩; split <;> simp

theorem execSleepWaitTimeout_far (port : Nat) (s : State) : ∀ t, execSleepWaitTimeout port s = .next t → t.far = s.far := by rintro _ ⟨⟩; split <;> simp

theorem execLpiIdleTimer_far (port : Nat) (s : State) : ∀ t, execLpiIdleTimer port s = .next t → t.far = s.far := by rintro _ ⟨⟩; split <;> simp

theorem execLpiWakeComplete_far (port dt : Nat) (s : State) : ∀ t, execLpiWakeComplete port dt s = .next t → t.far = s.far := by rintro _ ⟨⟩; split <;> simp

theorem execBeaconLossTimeout_far (port : Nat) (s : State) : ∀ t, execBeaconLossTimeout port s = .next t → t.far = s.far := by rintro _ ⟨⟩; split <;> simp

theorem execBeaconRx_far (port : Nat) (s : State) : ∀ t, execBeaconRx port s = .next t → t.far = s.far := by
  intro t h
  unfold execBeaconRx at h
  first
  | (simp only [Host.Outcome.next.injEq] at h; subst h; repeat' (first | (with_reducible rfl) | (simp [↓apply_ite State.far]; done) | split | (simp [↓apply_ite State.far, *]; done) | (grind [= State.modPort_far, = State.portUp_far, = State.raiseDie_far]) | (simp [↓apply_ite State.far])))
  | (split at h <;> (simp only [Host.Outcome.next.injEq] at h; subst h; repeat' (first | (with_reducible rfl) | (simp [↓apply_ite State.far]; done) | split | (simp [↓apply_ite State.far, *]; done) | (grind [= State.modPort_far, = State.portUp_far, = State.raiseDie_far]) | (simp [↓apply_ite State.far]))))
  | (repeat' split at h
     all_goals (simp only [Host.Outcome.next.injEq] at h; subst h; repeat' (first | (with_reducible rfl) | (simp [↓apply_ite State.far]; done) | split | (simp [↓apply_ite State.far, *]; done) | (grind [= State.modPort_far, = State.portUp_far, = State.raiseDie_far]) | (simp [↓apply_ite State.far]))))

theorem execPlcaBeaconTx_far (port : Nat) (s : State) : ∀ t, execPlcaBeaconTx port s = .next t → t.far = s.far := by rintro _ ⟨⟩; split <;> simp

theorem execPlcaTxOpportunity_far (port : Nat) (burst collision : Bool) (dt : Nat) (s : State) : ∀ t, execPlcaTxOpportunity port burst collision dt s = .next t → t.far = s.far := by
  intro t h
  unfold execPlcaTxOpportunity at h
  first
  | (simp only [Host.Outcome.next.injEq] at h; subst h; repeat' (first | (with_reducible rfl) | (simp [↓apply_ite State.far]; done) | split | (simp [↓apply_ite State.far, *]; done) | (grind [= State.adv_far, = State.modPort_far, = State.plcaStart_far]) | (simp [↓apply_ite State.far])))
  | (split at h <;> (simp only [Host.Outcome.next.injEq] at h; subst h; repeat' (first | (with_reducible rfl) | (simp [↓apply_ite State.far]; done) | split | (simp [↓apply_ite State.far, *]; done) | (grind [= State.adv_far, = State.modPort_far, = State.plcaStart_far]) | (simp [↓apply_ite State.far]))))
  | (repeat' split at h
     all_goals (simp only [Host.Outcome.next.injEq] at h; subst h; repeat' (first | (with_reducible rfl) | (simp [↓apply_ite State.far]; done) | split | (simp [↓apply_ite State.far, *]; done) | (grind [= State.adv_far, = State.modPort_far, = State.plcaStart_far]) | (simp [↓apply_ite State.far]))))

theorem execSqiUpdate_far (port sqi fixed lost temp : Nat) (s : State) : ∀ t, execSqiUpdate port sqi fixed lost temp s = .next t → t.far = s.far := by rintro _ ⟨⟩; split <;> simp

/-! ### PortCmds -/

@[simp ↓] theorem State.modSecy_far (s : State) (p : Nat) (f : SecySt → SecySt) : (State.modSecy s p f).far = s.far := (rfl)

theorem execCableTestDone_far (port result distance : Nat) (s : State) : ∀ t, execCableTestDone port result distance s = .next t → t.far = s.far := by
  intro t h
  unfold execCableTestDone at h
  first
  | (simp only [Host.Outcome.next.injEq] at h; subst h; repeat' (first | (with_reducible rfl) | (simp [↓apply_ite State.far]; done) | split | (simp [↓apply_ite State.far, *]; done) | (grind [= State.dropToken_far, = State.finish_far, = State.modPort_far, = State.train_far]) | (simp [↓apply_ite State.far])))
  | (split at h <;> (simp only [Host.Outcome.next.injEq] at h; subst h; repeat' (first | (with_reducible rfl) | (simp [↓apply_ite State.far]; done) | split | (simp [↓apply_ite State.far, *]; done) | (grind [= State.dropToken_far, = State.finish_far, = State.modPort_far, = State.train_far]) | (simp [↓apply_ite State.far]))))
  | (repeat' split at h
     all_goals (simp only [Host.Outcome.next.injEq] at h; subst h; repeat' (first | (with_reducible rfl) | (simp [↓apply_ite State.far]; done) | split | (simp [↓apply_ite State.far, *]; done) | (grind [= State.dropToken_far, = State.finish_far, = State.modPort_far, = State.train_far]) | (simp [↓apply_ite State.far]))))

theorem execMkaSakInstall_far (port an : Nat) (s : State) : ∀ t, execMkaSakInstall port an s = .next t → t.far = s.far := by rintro _ ⟨⟩; split <;> simp

theorem execMkaHelloTime_far (port : Nat) (heard : List (Nat × Nat)) (s : State) : ∀ t, execMkaHelloTime port heard s = .next t → t.far = s.far := by
  intro t h
  unfold execMkaHelloTime at h
  first
  | (simp only [Host.Outcome.next.injEq] at h; subst h; repeat' (first | (with_reducible rfl) | (simp [↓apply_ite State.far]; done) | split | (simp [↓apply_ite State.far, *]; done) | (grind [= State.emit_far, = State.mirrorOut_far, = State.modSecy_far]) | (simp [↓apply_ite State.far])))
  | (split at h <;> (simp only [Host.Outcome.next.injEq] at h; subst h; repeat' (first | (with_reducible rfl) | (simp [↓apply_ite State.far]; done) | split | (simp [↓apply_ite State.far, *]; done) | (grind [= State.emit_far, = State.mirrorOut_far, = State.modSecy_far]) | (simp [↓apply_ite State.far]))))
  | (repeat' split at h
     all_goals (simp only [Host.Outcome.next.injEq] at h; subst h; repeat' (first | (with_reducible rfl) | (simp [↓apply_ite State.far]; done) | split | (simp [↓apply_ite State.far, *]; done) | (grind [= State.emit_far, = State.mirrorOut_far, = State.modSecy_far]) | (simp [↓apply_ite State.far]))))

end Machine
end Sys2Proof
end

