-- ==== Sys2Proof/Laws/FixedOps.lean ====
section
/-! SUPPORT. What leaves the queue, the one-time-programmable words and the lock fields: the operations that every family uses, the mailbox protocol and the clock. -/

namespace Sys2Proof
namespace Machine

set_option linter.unusedSimpArgs false

/-! ### Ops -/

@[simp ↓] theorem State.modPair_fixed (s : State) (f : PairSt → PairSt) : (State.modPair s f).fixed = s.fixed := (rfl)

@[simp ↓] theorem State.modSys_fixed (s : State) (f : SysSt → SysSt) : (State.modSys s f).fixed = s.fixed := (rfl)

@[simp ↓] theorem State.modTim_fixed (s : State) (f : TimeSt → TimeSt) : (State.modTim s f).fixed = s.fixed := (rfl)

@[simp ↓] theorem State.modSeal_fixed (s : State) (f : SealSt → SealSt) : (State.modSeal s f).fixed = s.fixed := (rfl)

@[simp ↓] theorem State.modPool_fixed (s : State) (d : Fab) (f : PoolSt → PoolSt) : (State.modPool s d f).fixed = s.fixed := by cases d <;> rfl

@[simp ↓] theorem State.modTab_fixed (s : State) (f : TabSt → TabSt) : (State.modTab s f).fixed = s.fixed := (rfl)

@[simp ↓] theorem State.modZon_fixed (s : State) (f : ZoneSt → ZoneSt) : (State.modZon s f).fixed = s.fixed := (rfl)

@[simp ↓] theorem State.modEgr_fixed (s : State) (f : EgressSt → EgressSt) : (State.modEgr s f).fixed = s.fixed := (rfl)

@[simp ↓] theorem State.modStk_fixed (s : State) (f : StackSt → StackSt) : (State.modStk s f).fixed = s.fixed := (rfl)

@[simp ↓] theorem State.modGw_fixed (s : State) (f : GwSt → GwSt) : (State.modGw s f).fixed = s.fixed := (rfl)

@[simp ↓] theorem State.modImg_fixed (s : State) (f : ImgSt → ImgSt) : (State.modImg s f).fixed = s.fixed := (rfl)

@[simp ↓] theorem State.modPow_fixed (s : State) (f : PowerSt → PowerSt) : (State.modPow s f).fixed = s.fixed := (rfl)

@[simp ↓] theorem State.modEdge_fixed (s : State) (f : EdgeSt → EdgeSt) : (State.modEdge s f).fixed = s.fixed := (rfl)

@[simp ↓] theorem State.modPort_fixed (s : State) (p : Nat) (f : PortSt → PortSt) : (State.modPort s p f).fixed = s.fixed := (rfl)

@[simp ↓] theorem State.modFab_fixed (s : State) (d : Fab) (f : FabSt → FabSt) : (State.modFab s d f).fixed = s.fixed := by cases d <;> rfl

@[simp ↓] theorem State.emit_fixed (s : State) (o : Output) : (State.emit s o).fixed = s.fixed := (rfl)

@[simp ↓] theorem State.useFree_fixed (s : State) : (State.useFree s).fixed = s.fixed := (rfl)

@[simp ↓] theorem State.raiseAt_fixed (s : State) (p : Path) (n f : Nat) : (State.raiseAt s p n f).fixed = s.fixed := by
  unfold State.raiseAt
  repeat' (first | (with_reducible rfl) | (simp [↓apply_ite State.fixed]; done) | split | (simp [↓apply_ite State.fixed, *]; done) | (grind [= State.emit_fixed]) | (simp [↓apply_ite State.fixed]))

@[simp ↓] theorem State.raiseHost_fixed (s : State) (p : Path) (f : HostFlag) : (State.raiseHost s p f).fixed = s.fixed := by simp [State.raiseHost]

@[simp ↓] theorem State.raiseDie_fixed (s : State) (d : Fab) (f : DieFlag) : (State.raiseDie s d f).fixed = s.fixed := by simp [State.raiseDie]

@[simp ↓] theorem State.raiseDev_fixed (s : State) (f : DevFlag) : (State.raiseDev s f).fixed = s.fixed := by simp [State.raiseDev]

@[simp ↓] theorem State.satRaise_fixed (s : State) (old k : Nat) (ev : State → State) (h : (ev s).fixed = s.fixed) : (State.satRaise s old k ev).fixed = s.fixed := by
  unfold State.satRaise; split <;> simp [*]

@[simp ↓] theorem State.dieTick_fixed (s : State) (d : Fab) (old k : Nat) (f : FabSt → FabSt) : (State.dieTick s d old k f).fixed = s.fixed := by simp [State.dieTick]

@[simp ↓] theorem State.logFault_fixed (s : State) (code die detail : Nat) : (State.logFault s code die detail).fixed = s.fixed := by simp [State.logFault]

@[simp ↓] theorem State.logLate_fixed (s : State) (p : Path) (reason address : Nat) : (State.logLate s p reason address).fixed = s.fixed := by simp [State.logLate, ↓apply_ite State.fixed]

@[simp ↓] theorem State.addrError_fixed (s : State) (d addr : Nat) : (State.addrError s d addr).fixed = s.fixed := by unfold State.addrError; split <;> simp

/-! ### Pools -/

@[simp ↓] theorem State.modCtr_fixed (s : State) (d : Fab) (p : Nat) (f : PoolCtr → PoolCtr) : (State.modCtr s d p f).fixed = s.fixed := by simp [State.modCtr]

@[simp ↓] theorem State.useUp_fixed (s : State) (d : Fab) (p n : Nat) : (State.useUp s d p n).fixed = s.fixed := by simp [State.useUp, ↓apply_ite State.fixed]

@[simp ↓] theorem State.useDown_fixed (s : State) (d : Fab) (p n : Nat) : (State.useDown s d p n).fixed = s.fixed := by simp [State.useDown]

@[simp ↓] theorem State.poolTick_fixed (s : State) (d : Fab) (p : Nat) (get : PoolCtr → Nat) (set : PoolCtr → Nat → PoolCtr) : (State.poolTick s d p get set).fixed = s.fixed := by simp [State.poolTick]

@[simp ↓] theorem State.emptyFail_fixed (s : State) (d : Fab) (p : Nat) : (State.emptyFail s d p).fixed = s.fixed := by simp [State.emptyFail]

@[simp ↓] theorem State.fallback_fixed (s : State) (d : Fab) (p : Nat) : (State.fallback s d p).fixed = s.fixed := by simp [State.fallback]

@[simp ↓] theorem State.contend_fixed (s : State) (d : Fab) (p : Nat) (b : Bool) : (State.contend s d p b).fixed = s.fixed := by simp [State.contend, ↓apply_ite State.fixed]

@[simp ↓] theorem State.errTick_fixed (s : State) (d : Fab) (p kind : Nat) : (State.errTick s d p kind).fixed = s.fixed := by simp [State.errTick, ↓apply_ite State.fixed]

@[simp ↓] theorem State.poolError_fixed (s : State) (d : Fab) (kind pool index requester owner share : Nat) : (State.poolError s d kind pool index requester owner share).fixed = s.fixed := by simp [State.poolError, ↓apply_ite State.fixed]

@[simp ↓] theorem State.putBuf_fixed (s : State) (d : Fab) (p i : Nat) (r : BufRec) : (State.putBuf s d p i r).fixed = s.fixed := by simp [State.putBuf]

@[simp ↓] theorem State.allocFrom_fixed (s : State) (d : Fab) (p x : Nat) : (State.allocFrom s d p x).1.fixed = s.fixed := by
  unfold State.allocFrom
  repeat' (first | (with_reducible rfl) | (simp [↓apply_ite State.fixed]; done) | split | (simp [↓apply_ite State.fixed, *]; done) | (grind [= State.emptyFail_fixed, = State.putBuf_fixed, = State.useUp_fixed]) | (simp [↓apply_ite State.fixed]))

theorem State.allocFrom_fixed' (s : State) (d : Fab) (p x : Nat) (t) (y) (h : State.allocFrom s d p x = (t, y)) : t.fixed = s.fixed := by
  have := State.allocFrom_fixed s d p x
  rw [h] at this; exact this

@[simp ↓] theorem State.allocFall_fixed (s : State) (d : Fab) (x : Nat) (x0 : List Nat) : (State.allocFall s d x x0).1.fixed = s.fixed := by
  fun_induction State.allocFall s d x x0
  all_goals repeat' (first | (with_reducible rfl) | (simp [↓apply_ite State.fixed]; done) | split | (simp [↓apply_ite State.fixed, *]; done) | (grind [→ State.allocFrom_fixed', = State.fallback_fixed]) | (simp [↓apply_ite State.fixed]))

theorem State.allocFall_fixed' (s : State) (d : Fab) (x : Nat) (x0 : List Nat) (t) (y) (h : State.allocFall s d x x0 = (t, y)) : t.fixed = s.fixed := by
  have := State.allocFall_fixed s d x x0
  rw [h] at this; exact this

@[simp ↓] theorem State.allocMsg_fixed (s : State) (d : Fab) (x n : Nat) (fall : Bool) : (State.allocMsg s d x n fall).1.fixed = s.fixed := by unfold State.allocMsg; split <;> simp

theorem State.allocMsg_fixed' (s : State) (d : Fab) (x n : Nat) (fall : Bool) (t) (y) (h : State.allocMsg s d x n fall = (t, y)) : t.fixed = s.fixed := by
  have := State.allocMsg_fixed s d x n fall
  rw [h] at this; exact this

@[simp ↓] theorem State.shareMsg_fixed (s : State) (d : Fab) (p i x k : Nat) : (State.shareMsg s d p i x k).1.fixed = s.fixed := by
  unfold State.shareMsg
  repeat' (first | (with_reducible rfl) | (simp [↓apply_ite State.fixed]; done) | split | (simp [↓apply_ite State.fixed, *]; done) | (grind [= State.poolError_fixed, = State.putBuf_fixed]) | (simp [↓apply_ite State.fixed]))

theorem State.shareMsg_fixed' (s : State) (d : Fab) (p i x k : Nat) (t) (y) (h : State.shareMsg s d p i x k = (t, y)) : t.fixed = s.fixed := by
  have := State.shareMsg_fixed s d p i x k
  rw [h] at this; exact this

@[simp ↓] theorem State.releaseMsg_fixed (s : State) (d : Fab) (p i x : Nat) : (State.releaseMsg s d p i x).1.fixed = s.fixed := by
  unfold State.releaseMsg
  repeat' (first | (with_reducible rfl) | (simp [↓apply_ite State.fixed]; done) | split | (simp [↓apply_ite State.fixed, *]; done) | (grind [= State.poolError_fixed, = State.putBuf_fixed]) | (simp [↓apply_ite State.fixed]))

theorem State.releaseMsg_fixed' (s : State) (d : Fab) (p i x : Nat) (t) (y) (h : State.releaseMsg s d p i x = (t, y)) : t.fixed = s.fixed := by
  have := State.releaseMsg_fixed s d p i x
  rw [h] at this; exact this

@[simp ↓] theorem State.freeMsg_fixed (s : State) (d : Fab) (p i x : Nat) : (State.freeMsg s d p i x).1.fixed = s.fixed := by
  unfold State.freeMsg
  repeat' (first | (with_reducible rfl) | (simp [↓apply_ite State.fixed]; done) | split | (simp [↓apply_ite State.fixed, *]; done) | (grind [= State.poolError_fixed, = State.putBuf_fixed, = State.useDown_fixed]) | (simp [↓apply_ite State.fixed]))

theorem State.freeMsg_fixed' (s : State) (d : Fab) (p i x : Nat) (t) (y) (h : State.freeMsg s d p i x = (t, y)) : t.fixed = s.fixed := by
  have := State.freeMsg_fixed s d p i x
  rw [h] at this; exact this

@[simp ↓] theorem State.handOver_fixed (s : State) (d : Fab) (p i x y : Nat) : (State.handOver s d p i x y).fixed = s.fixed := by simp [State.handOver]

@[simp ↓] theorem State.grantCell_fixed (s : State) (d : Fab) (x : Nat) : (State.grantCell s d x).1.fixed = s.fixed := by unfold State.grantCell; split <;> simp

theorem State.grantCell_fixed' (s : State) (d : Fab) (x : Nat) (t) (y) (h : State.grantCell s d x = (t, y)) : t.fixed = s.fixed := by
  have := State.grantCell_fixed s d x
  rw [h] at this; exact this

@[simp ↓] theorem State.freeCell_fixed (s : State) (d : Fab) (c : Nat) : (State.freeCell s d c).fixed = s.fixed := by simp [State.freeCell]

@[simp ↓] theorem State.freeWalk_fixed (s : State) (d : Fab) (x : Nat) (x0 : Nat) (x1 : Nat) : (State.freeWalk s d x x0 x1).fixed = s.fixed := by
  fun_induction State.freeWalk s d x x0 x1
  all_goals repeat' (first | (with_reducible rfl) | (simp [↓apply_ite State.fixed]; done) | split | (simp [↓apply_ite State.fixed, *]; done) | (grind [= State.freeCell_fixed, = State.poolError_fixed]) | (simp [↓apply_ite State.fixed]))

@[simp ↓] theorem State.shareCell_fixed (s : State) (d : Fab) (c x k : Nat) : (State.shareCell s d c x k).1.fixed = s.fixed := by
  unfold State.shareCell
  repeat' (first | (with_reducible rfl) | (simp [↓apply_ite State.fixed]; done) | split | (simp [↓apply_ite State.fixed, *]; done) | (grind [= State.modPool_fixed, = State.poolError_fixed]) | (simp [↓apply_ite State.fixed]))

theorem State.shareCell_fixed' (s : State) (d : Fab) (c x k : Nat) (t) (y) (h : State.shareCell s d c x k = (t, y)) : t.fixed = s.fixed := by
  have := State.shareCell_fixed s d c x k
  rw [h] at this; exact this

@[simp ↓] theorem State.releaseCell_fixed (s : State) (d : Fab) (c x : Nat) : (State.releaseCell s d c x).1.fixed = s.fixed := by
  unfold State.releaseCell
  repeat' (first | (with_reducible rfl) | (simp [↓apply_ite State.fixed]; done) | split | (simp [↓apply_ite State.fixed, *]; done) | (grind [= State.modPool_fixed, = State.poolError_fixed]) | (simp [↓apply_ite State.fixed]))

theorem State.releaseCell_fixed' (s : State) (d : Fab) (c x : Nat) (t) (y) (h : State.releaseCell s d c x = (t, y)) : t.fixed = s.fixed := by
  have := State.releaseCell_fixed s d c x
  rw [h] at this; exact this

@[simp ↓] theorem State.freeCellChain_fixed (s : State) (d : Fab) (c x : Nat) : (State.freeCellChain s d c x).1.fixed = s.fixed := by
  unfold State.freeCellChain
  repeat' (first | (with_reducible rfl) | (simp [↓apply_ite State.fixed]; done) | split | (simp [↓apply_ite State.fixed, *]; done) | (grind [= State.freeWalk_fixed, = State.poolError_fixed]) | (simp [↓apply_ite State.fixed]))

theorem State.freeCellChain_fixed' (s : State) (d : Fab) (c x : Nat) (t) (y) (h : State.freeCellChain s d c x = (t, y)) : t.fixed = s.fixed := by
  have := State.freeCellChain_fixed s d c x
  rw [h] at this; exact this

@[simp ↓] theorem State.grantUnits_fixed (s : State) (d : Fab) (c : Nat) (us : List Nat) : (State.grantUnits s d c us).fixed = s.fixed := by simp [State.grantUnits]

@[simp ↓] theorem State.freeUnit_fixed (s : State) (d : Fab) (c u x : Nat) : (State.freeUnit s d c u x).1.fixed = s.fixed := by
  unfold State.freeUnit
  repeat' (first | (with_reducible rfl) | (simp [↓apply_ite State.fixed]; done) | split | (simp [↓apply_ite State.fixed, *]; done) | (grind [= State.modPool_fixed, = State.poolError_fixed, = State.useDown_fixed]) | (simp [↓apply_ite State.fixed]))

theorem State.freeUnit_fixed' (s : State) (d : Fab) (c u x : Nat) (t) (y) (h : State.freeUnit s d c u x = (t, y)) : t.fixed = s.fixed := by
  have := State.freeUnit_fixed s d c u x
  rw [h] at this; exact this

@[simp ↓] theorem State.freeUnits_fixed (s : State) (d : Fab) (c x : Nat) (us : List Nat) : (State.freeUnits s d c x us).fixed = s.fixed := by simp [State.freeUnits]

/-! ### Mirror -/

@[simp ↓] theorem State.modCore_fixed (s : State) (c : Fab) (f : CoreSt → CoreSt) : (State.modCore s c f).fixed = s.fixed := (rfl)

@[simp ↓] theorem State.coreTick_fixed (s : State) (c : Fab) (get : CoreSt → Nat) (set : CoreSt → Nat → CoreSt) : (State.coreTick s c get set).fixed = s.fixed := by simp [State.coreTick]

@[simp ↓] theorem State.becomeStale_fixed (s : State) : (State.becomeStale s).fixed = s.fixed := by simp [State.becomeStale, ↓apply_ite State.fixed]

@[simp ↓] theorem State.journal_fixed (s : State) (kind : Nat) (payload : List Word) : (State.journal s kind payload).fixed = s.fixed := by
  unfold State.journal
  repeat' (first | (with_reducible rfl) | (simp [↓apply_ite State.fixed]; done) | split | (simp [↓apply_ite State.fixed, *]; done) | (grind [→ State.allocMsg_fixed', = State.becomeStale_fixed, = State.modCore_fixed, = State.modPair_fixed]) | (simp [↓apply_ite State.fixed]))

@[simp ↓] theorem State.mirrorOut_fixed (s : State) (ks : List Nat) : (State.mirrorOut s ks).fixed = s.fixed := by simp [State.mirrorOut]

@[simp ↓] theorem State.sendSnapshot_fixed (s0 : State) : (State.sendSnapshot s0).fixed = s0.fixed := by simp [State.sendSnapshot]

@[simp ↓] theorem State.startCatchUp_fixed (s : State) : (State.startCatchUp s).fixed = s.fixed := by simp [State.startCatchUp]

/-! ### Mailbox -/

@[simp ↓] theorem Reply.fail_fixed (s : State) (c : Code) : (Reply.fail s c).st.fixed = s.fixed := (rfl)

@[simp ↓] theorem State.freeBufs_fixed (s : State) (bufs : List (Fab × Nat × Nat)) : (State.freeBufs s bufs).fixed = s.fixed := by simp [State.freeBufs]

@[simp ↓] theorem State.fifoPut_fixed (s : State) (p : Path) (ws : List Word) : (State.fifoPut s p ws).fixed = s.fixed := by simp [State.fifoPut, ↓apply_ite State.fixed]

@[simp ↓] theorem State.place_fixed (s : State) (pd : Pend) (intent : Bool) (ws : List Word) : (State.place s pd intent ws).fixed = s.fixed := by
  unfold State.place
  repeat' (first | (with_reducible rfl) | (simp [↓apply_ite State.fixed]; done) | split | (simp [↓apply_ite State.fixed, *]; done) | (grind [= State.emit_fixed, = State.fifoPut_fixed, = State.freeBufs_fixed]) | (simp [↓apply_ite State.fixed]))

@[simp ↓] theorem State.respond_fixed (s : State) (pd : Pend) (c : Code) (payload : List Word) (cs : List Clamp) (intent : Bool) : (State.respond s pd c payload cs intent).fixed = s.fixed := by simp [State.respond, ↓apply_ite State.fixed]

@[simp ↓] theorem State.requestBufs_fixed (s : State) (r : Req) : (State.requestBufs s r).1.fixed = s.fixed := by
  unfold State.requestBufs
  repeat' (first | (with_reducible rfl) | (simp [↓apply_ite State.fixed]; done) | split | (simp [↓apply_ite State.fixed, *]; done) | (grind [→ State.allocMsg_fixed', = State.freeBufs_fixed]) | (simp [↓apply_ite State.fixed]))

theorem State.requestBufs_fixed' (s : State) (r : Req) (t) (y) (h : State.requestBufs s r = (t, y)) : t.fixed = s.fixed := by
  have := State.requestBufs_fixed s r
  rw [h] at this; exact this

@[simp ↓] theorem State.submit_fixed (s : State) (op : Nat) (r : Req) : (State.submit s op r).fixed = s.fixed := by
  have h0 : (if r.path = Path.service then s.modKey fun k => { k with sessionAt := s.tim.ticks } else s).fixed = s.fixed := by
    simp [↓apply_ite State.fixed]
  unfold State.submit
  dsimp only at h0 ⊢
  revert h0
  generalize (if r.path = Path.service then s.modKey _ else s) = s0
  intro h0
  repeat' split
  all_goals grind [= State.modPath_fixed, = State.logLate_fixed, = State.respond_fixed, = State.raiseHost_fixed, → State.requestBufs_fixed']

@[simp ↓] theorem State.unseal_fixed (s : State) (op : Nat) (r : Req) : (State.unseal s op r).fixed = s.fixed := by simp [State.unseal, ↓apply_ite State.fixed]

@[simp ↓] theorem State.written_fixed (s : State) (op : Nat) (r : Req) : (State.written s op r).fixed = s.fixed := by simp [State.written]

@[simp ↓] theorem CmdSpec.judge_fixed (sp : CmdSpec) (r : Req) (s : State) (h : ∀ r s, (sp.run r s).st.fixed = s.fixed) : (sp.judge r s).1.st.fixed = s.fixed := by
  unfold CmdSpec.judge
  repeat' (first | (with_reducible rfl) | (simp [Reply.fail, ↓apply_ite Reply.st, ↓apply_ite State.fixed]; done) | split | (simp [Reply.fail, ↓apply_ite Reply.st, ↓apply_ite State.fixed, *]; done) | (grind []) | (simp [Reply.fail, ↓apply_ite Reply.st, ↓apply_ite State.fixed]))

@[simp ↓] theorem CmdSpec.take_fixed (sp : CmdSpec) (pd : Pend) (s : State) (h : ∀ r s, (sp.run r s).st.fixed = s.fixed) : (CmdSpec.take sp pd s).fixed = s.fixed := by
  unfold CmdSpec.take
  repeat' (first | (with_reducible rfl) | (simp [↓apply_ite State.fixed]; done) | split | (simp [↓apply_ite State.fixed, *]; done) | (grind [= State.journal_fixed, = State.mirrorOut_fixed, = State.respond_fixed, = State.written_fixed]) | (simp [↓apply_ite State.fixed]))

@[simp ↓] theorem CmdSpec.serve_fixed (sp : CmdSpec) (r : Req) (s : State) (h : ∀ r s, (sp.run r s).st.fixed = s.fixed) : (CmdSpec.serve sp r s).fixed = s.fixed := by
  unfold CmdSpec.serve
  repeat' (first | (with_reducible rfl) | (simp [↓apply_ite State.fixed]; done) | split | (simp [↓apply_ite State.fixed, *]; done) | (grind [= State.respond_fixed, = CmdSpec.take_fixed]) | (simp [↓apply_ite State.fixed]))

@[simp ↓] theorem State.answerBad_fixed (s : State) (p : Path) (x0 : Nat) : (State.answerBad s p x0).fixed = s.fixed := by
  induction x0 generalizing s with
  | zero => rfl
  | succ n ih =>
    unfold State.answerBad
    repeat' split
    all_goals simp [ih]

@[simp ↓] theorem mailbox_fixed (sp : CmdSpec) (r : Req) (s : State) (h : ∀ r s, (sp.run r s).st.fixed = s.fixed) : (mailbox sp r s).fixed = s.fixed := by
  unfold mailbox
  repeat' (first | (with_reducible rfl) | (simp [↓apply_ite State.fixed]; done) | split | (simp [↓apply_ite State.fixed, *]; done) | (grind [= State.answerBad_fixed, = CmdSpec.serve_fixed, = State.submit_fixed]) | (simp [↓apply_ite State.fixed]))

@[simp ↓] theorem State.finish_fixed (s : State) (p : Path) (c : Code) (payload : List Word) (kinds : List Nat) : (State.finish s p c payload kinds).fixed = s.fixed := by
  unfold State.finish
  repeat' (first | (with_reducible rfl) | (simp [↓apply_ite State.fixed]; done) | split | (simp [↓apply_ite State.fixed, *]; done) | (grind [= State.journal_fixed, = State.mirrorOut_fixed, = State.respond_fixed, = State.written_fixed]) | (simp [↓apply_ite State.fixed]))

@[simp ↓] theorem badSpec_fixed (r : Req) (s : State) : (badSpec.run r s).st.fixed = s.fixed := (rfl)

/-! ### Clock -/

@[simp ↓] theorem State.adv_fixed (s : State) (n : Nat) : (State.adv s n).fixed = s.fixed := (rfl)

@[simp ↓] theorem State.advTick_fixed (s : State) (k : Nat) : (State.advTick s k).fixed = s.fixed := (rfl)

@[simp ↓] theorem State.advQ_fixed (s : State) (q : Nat) : (State.advQ s q).fixed = s.fixed := (rfl)

@[simp ↓] theorem State.advNs_fixed (s : State) (ns : Nat) : (State.advNs s ns).fixed = s.fixed := (rfl)

end Machine
end Sys2Proof
end

