-- ==== Sys2Proof/Laws/FixedTables.lean ====
section
/-! SUPPORT. What leaves the queue, the one-time-programmable words and the lock fields: tables, meters and gate lists. -/

namespace Sys2Proof
namespace Machine

set_option linter.unusedSimpArgs false

/-! ### RuleCmds -/

@[simp ↓] theorem State.startAct_fixed (s : State) (k : ActKind) (p : Path) (rows : List Nat) : (State.startAct s k p rows).fixed = s.fixed := (rfl)

@[simp ↓] theorem State.ruleStatsClear_fixed (s : State) (d : Fab) (kind i : Nat) : (State.ruleStatsClear s d kind i).fixed = s.fixed := by unfold State.ruleStatsClear; split <;> simp

@[simp ↓] theorem rulePortWrite_fixed (r : Req) (s : State) : (rulePortWrite.run r s).st.fixed = s.fixed := (rfl)

@[simp ↓] theorem ruleProgramLoad_fixed (r : Req) (s : State) : (ruleProgramLoad.run r s).st.fixed = s.fixed := by simp [ruleProgramLoad]; split <;> simp

@[simp ↓] theorem ruleRangeWrite_fixed (r : Req) (s : State) : (ruleRangeWrite.run r s).st.fixed = s.fixed := (rfl)

@[simp ↓] theorem ruleEntryWrite_fixed (r : Req) (s : State) : (ruleEntryWrite.run r s).st.fixed = s.fixed := by simp [ruleEntryWrite]; split <;> simp

@[simp ↓] theorem ruleEntryRead_fixed (r : Req) (s : State) : (ruleEntryRead.run r s).st.fixed = s.fixed := (rfl)

@[simp ↓] theorem ruleGroupWrite_fixed (r : Req) (s : State) : (ruleGroupWrite.run r s).st.fixed = s.fixed := by simp [ruleGroupWrite]; split <;> simp

@[simp ↓] theorem ruleCommit_fixed (r : Req) (s : State) : (ruleCommit.run r s).st.fixed = s.fixed := by simp [ruleCommit]; split <;> simp

@[simp ↓] theorem ruleStatusRead_fixed (r : Req) (s : State) : (ruleStatusRead.run r s).st.fixed = s.fixed := (rfl)

@[simp ↓] theorem ruleFragWrite_fixed (r : Req) (s : State) : (ruleFragWrite.run r s).st.fixed = s.fixed := (rfl)

@[simp ↓] theorem ruleStatsRead_fixed (r : Req) (s : State) : (ruleStatsRead.run r s).st.fixed = s.fixed := by simp [ruleStatsRead]; split <;> simp

@[simp ↓] theorem rulePortRead_fixed (r : Req) (s : State) : (rulePortRead.run r s).st.fixed = s.fixed := (rfl)

@[simp ↓] theorem ruleRangeRead_fixed (r : Req) (s : State) : (ruleRangeRead.run r s).st.fixed = s.fixed := (rfl)

@[simp ↓] theorem ruleGroupRead_fixed (r : Req) (s : State) : (ruleGroupRead.run r s).st.fixed = s.fixed := (rfl)

theorem execRulePortWrite_fixed (r : Req) (s : State) : ∀ t, execRulePortWrite r s = .next t → t.fixed = s.fixed := by rintro _ ⟨⟩; exact mailbox_fixed _ _ _ rulePortWrite_fixed

theorem execRuleProgramLoad_fixed (r : Req) (s : State) : ∀ t, execRuleProgramLoad r s = .next t → t.fixed = s.fixed := by rintro _ ⟨⟩; exact mailbox_fixed _ _ _ ruleProgramLoad_fixed

theorem execRuleRangeWrite_fixed (r : Req) (s : State) : ∀ t, execRuleRangeWrite r s = .next t → t.fixed = s.fixed := by rintro _ ⟨⟩; exact mailbox_fixed _ _ _ ruleRangeWrite_fixed

theorem execRuleEntryWrite_fixed (r : Req) (s : State) : ∀ t, execRuleEntryWrite r s = .next t → t.fixed = s.fixed := by rintro _ ⟨⟩; exact mailbox_fixed _ _ _ ruleEntryWrite_fixed

theorem execRuleEntryRead_fixed (r : Req) (s : State) : ∀ t, execRuleEntryRead r s = .next t → t.fixed = s.fixed := by rintro _ ⟨⟩; exact mailbox_fixed _ _ _ ruleEntryRead_fixed

theorem execRuleGroupWrite_fixed (r : Req) (s : State) : ∀ t, execRuleGroupWrite r s = .next t → t.fixed = s.fixed := by rintro _ ⟨⟩; exact mailbox_fixed _ _ _ ruleGroupWrite_fixed

theorem execRuleCommit_fixed (r : Req) (s : State) : ∀ t, execRuleCommit r s = .next t → t.fixed = s.fixed := by rintro _ ⟨⟩; exact mailbox_fixed _ _ _ ruleCommit_fixed

theorem execRuleStatusRead_fixed (r : Req) (s : State) : ∀ t, execRuleStatusRead r s = .next t → t.fixed = s.fixed := by rintro _ ⟨⟩; exact mailbox_fixed _ _ _ ruleStatusRead_fixed

theorem execRuleFragWrite_fixed (r : Req) (s : State) : ∀ t, execRuleFragWrite r s = .next t → t.fixed = s.fixed := by rintro _ ⟨⟩; exact mailbox_fixed _ _ _ ruleFragWrite_fixed

theorem execRuleStatsRead_fixed (r : Req) (s : State) : ∀ t, execRuleStatsRead r s = .next t → t.fixed = s.fixed := by rintro _ ⟨⟩; exact mailbox_fixed _ _ _ ruleStatsRead_fixed

theorem execRulePortRead_fixed (r : Req) (s : State) : ∀ t, execRulePortRead r s = .next t → t.fixed = s.fixed := by rintro _ ⟨⟩; exact mailbox_fixed _ _ _ rulePortRead_fixed

theorem execRuleRangeRead_fixed (r : Req) (s : State) : ∀ t, execRuleRangeRead r s = .next t → t.fixed = s.fixed := by rintro _ ⟨⟩; exact mailbox_fixed _ _ _ ruleRangeRead_fixed

theorem execRuleGroupRead_fixed (r : Req) (s : State) : ∀ t, execRuleGroupRead r s = .next t → t.fixed = s.fixed := by rintro _ ⟨⟩; exact mailbox_fixed _ _ _ ruleGroupRead_fixed

/-! ### Zones -/

@[simp ↓] theorem State.modZd_fixed (s : State) (d : Fab) (f : ZoneDyn → ZoneDyn) : (State.modZd s d f).fixed = s.fixed := by simp [State.modZd]

/-! ### ZoneCmds -/

@[simp ↓] theorem zoneMapWrite_fixed (r : Req) (s : State) : (zoneMapWrite.run r s).st.fixed = s.fixed := (rfl)

@[simp ↓] theorem zoneMapRead_fixed (r : Req) (s : State) : (zoneMapRead.run r s).st.fixed = s.fixed := (rfl)

@[simp ↓] theorem zonePolicyWrite_fixed (r : Req) (s : State) : (zonePolicyWrite.run r s).st.fixed = s.fixed := (rfl)

@[simp ↓] theorem zonePolicyRead_fixed (r : Req) (s : State) : (zonePolicyRead.run r s).st.fixed = s.fixed := (rfl)

@[simp ↓] theorem zoneGwRead_fixed (r : Req) (s : State) : (zoneGwRead.run r s).st.fixed = s.fixed := (rfl)

@[simp ↓] theorem zoneStatsRead_fixed (r : Req) (s : State) : (zoneStatsRead.run r s).st.fixed = s.fixed := by
  simp only [zoneStatsRead]
  repeat' (first | (with_reducible rfl) | (simp [Reply.fail, ↓apply_ite Reply.st, ↓apply_ite State.fixed]; done) | split | (simp [Reply.fail, ↓apply_ite Reply.st, ↓apply_ite State.fixed, *]; done) | (grind [= State.modFab_fixed, = State.modZd_fixed]) | (simp [Reply.fail, ↓apply_ite Reply.st, ↓apply_ite State.fixed]))

@[simp ↓] theorem meterWrite_fixed (r : Req) (s : State) : (meterWrite.run r s).st.fixed = s.fixed := (rfl)

@[simp ↓] theorem meterRead_fixed (r : Req) (s : State) : (meterRead.run r s).st.fixed = s.fixed := (rfl)

@[simp ↓] theorem meterFilterWrite_fixed (r : Req) (s : State) : (meterFilterWrite.run r s).st.fixed = s.fixed := (rfl)

@[simp ↓] theorem meterFilterRead_fixed (r : Req) (s : State) : (meterFilterRead.run r s).st.fixed = s.fixed := (rfl)

@[simp ↓] theorem meterStatsRead_fixed (r : Req) (s : State) : (meterStatsRead.run r s).st.fixed = s.fixed := by
  simp only [meterStatsRead]
  repeat' (first | (with_reducible rfl) | (simp [Reply.fail, ↓apply_ite Reply.st, ↓apply_ite State.fixed]; done) | split | (simp [Reply.fail, ↓apply_ite Reply.st, ↓apply_ite State.fixed, *]; done) | (grind [= State.modZd_fixed]) | (simp [Reply.fail, ↓apply_ite Reply.st, ↓apply_ite State.fixed]))

@[simp ↓] theorem meterUnblock_fixed (r : Req) (s : State) : (meterUnblock.run r s).st.fixed = s.fixed := (rfl)

theorem execZoneMapWrite_fixed (r : Req) (s : State) : ∀ t, execZoneMapWrite r s = .next t → t.fixed = s.fixed := by rintro _ ⟨⟩; exact mailbox_fixed _ _ _ zoneMapWrite_fixed

theorem execZoneMapRead_fixed (r : Req) (s : State) : ∀ t, execZoneMapRead r s = .next t → t.fixed = s.fixed := by rintro _ ⟨⟩; exact mailbox_fixed _ _ _ zoneMapRead_fixed

theorem execZonePolicyWrite_fixed (r : Req) (s : State) : ∀ t, execZonePolicyWrite r s = .next t → t.fixed = s.fixed := by rintro _ ⟨⟩; exact mailbox_fixed _ _ _ zonePolicyWrite_fixed

theorem execZonePolicyRead_fixed (r : Req) (s : State) : ∀ t, execZonePolicyRead r s = .next t → t.fixed = s.fixed := by rintro _ ⟨⟩; exact mailbox_fixed _ _ _ zonePolicyRead_fixed

theorem execZoneGwRead_fixed (r : Req) (s : State) : ∀ t, execZoneGwRead r s = .next t → t.fixed = s.fixed := by rintro _ ⟨⟩; exact mailbox_fixed _ _ _ zoneGwRead_fixed

theorem execZoneStatsRead_fixed (r : Req) (s : State) : ∀ t, execZoneStatsRead r s = .next t → t.fixed = s.fixed := by rintro _ ⟨⟩; exact mailbox_fixed _ _ _ zoneStatsRead_fixed

theorem execMeterWrite_fixed (r : Req) (s : State) : ∀ t, execMeterWrite r s = .next t → t.fixed = s.fixed := by rintro _ ⟨⟩; exact mailbox_fixed _ _ _ meterWrite_fixed

theorem execMeterRead_fixed (r : Req) (s : State) : ∀ t, execMeterRead r s = .next t → t.fixed = s.fixed := by rintro _ ⟨⟩; exact mailbox_fixed _ _ _ meterRead_fixed

theorem execMeterFilterWrite_fixed (r : Req) (s : State) : ∀ t, execMeterFilterWrite r s = .next t → t.fixed = s.fixed := by rintro _ ⟨⟩; exact mailbox_fixed _ _ _ meterFilterWrite_fixed

theorem execMeterFilterRead_fixed (r : Req) (s : State) : ∀ t, execMeterFilterRead r s = .next t → t.fixed = s.fixed := by rintro _ ⟨⟩; exact mailbox_fixed _ _ _ meterFilterRead_fixed

theorem execMeterStatsRead_fixed (r : Req) (s : State) : ∀ t, execMeterStatsRead r s = .next t → t.fixed = s.fixed := by rintro _ ⟨⟩; exact mailbox_fixed _ _ _ meterStatsRead_fixed

theorem execMeterUnblock_fixed (r : Req) (s : State) : ∀ t, execMeterUnblock r s = .next t → t.fixed = s.fixed := by rintro _ ⟨⟩; exact mailbox_fixed _ _ _ meterUnblock_fixed

/-! ### FwdCmds -/

@[simp ↓] theorem State.fwdStatsClear_fixed (s : State) (d : Fab) (kind i : Nat) : (State.fwdStatsClear s d kind i).fixed = s.fixed := by unfold State.fwdStatsClear; split <;> simp

@[simp ↓] theorem State.frerReset_fixed (s : State) (fn : Nat) : (State.frerReset s fn).fixed = s.fixed := (rfl)

@[simp ↓] theorem fwdEntryWrite_fixed (r : Req) (s : State) : (fwdEntryWrite.run r s).st.fixed = s.fixed := by
  simp only [fwdEntryWrite]
  repeat' (first | (with_reducible rfl) | (simp [Reply.fail, ↓apply_ite Reply.st, ↓apply_ite State.fixed]; done) | split | (simp [Reply.fail, ↓apply_ite Reply.st, ↓apply_ite State.fixed, *]; done) | (grind [= State.modTab_fixed]) | (simp [Reply.fail, ↓apply_ite Reply.st, ↓apply_ite State.fixed]))

@[simp ↓] theorem fwdEntryRead_fixed (r : Req) (s : State) : (fwdEntryRead.run r s).st.fixed = s.fixed := (rfl)

@[simp ↓] theorem fwdCommit_fixed (r : Req) (s : State) : (fwdCommit.run r s).st.fixed = s.fixed := by simp [fwdCommit]; split <;> simp

@[simp ↓] theorem fwdStatusRead_fixed (r : Req) (s : State) : (fwdStatusRead.run r s).st.fixed = s.fixed := (rfl)

@[simp ↓] theorem fwdPortWrite_fixed (r : Req) (s : State) : (fwdPortWrite.run r s).st.fixed = s.fixed := (rfl)

@[simp ↓] theorem fwdPortRead_fixed (r : Req) (s : State) : (fwdPortRead.run r s).st.fixed = s.fixed := (rfl)

@[simp ↓] theorem fwdLearnWrite_fixed (r : Req) (s : State) : (fwdLearnWrite.run r s).st.fixed = s.fixed := by simp [fwdLearnWrite]; split <;> simp

@[simp ↓] theorem fwdLearnFlush_fixed (r : Req) (s : State) : (fwdLearnFlush.run r s).st.fixed = s.fixed := (rfl)

@[simp ↓] theorem fwdStatsRead_fixed (r : Req) (s : State) : (fwdStatsRead.run r s).st.fixed = s.fixed := by simp [fwdStatsRead]; split <;> simp

@[simp ↓] theorem frerFuncWrite_fixed (r : Req) (s : State) : (frerFuncWrite.run r s).st.fixed = s.fixed := (rfl)

@[simp ↓] theorem frerFuncRead_fixed (r : Req) (s : State) : (frerFuncRead.run r s).st.fixed = s.fixed := (rfl)

@[simp ↓] theorem frerResetCmd_fixed (r : Req) (s : State) : (frerResetCmd.run r s).st.fixed = s.fixed := (rfl)

theorem execFwdEntryWrite_fixed (r : Req) (s : State) : ∀ t, execFwdEntryWrite r s = .next t → t.fixed = s.fixed := by rintro _ ⟨⟩; exact mailbox_fixed _ _ _ fwdEntryWrite_fixed

theorem execFwdEntryRead_fixed (r : Req) (s : State) : ∀ t, execFwdEntryRead r s = .next t → t.fixed = s.fixed := by rintro _ ⟨⟩; exact mailbox_fixed _ _ _ fwdEntryRead_fixed

theorem execFwdCommit_fixed (r : Req) (s : State) : ∀ t, execFwdCommit r s = .next t → t.fixed = s.fixed := by rintro _ ⟨⟩; exact mailbox_fixed _ _ _ fwdCommit_fixed

theorem execFwdStatusRead_fixed (r : Req) (s : State) : ∀ t, execFwdStatusRead r s = .next t → t.fixed = s.fixed := by rintro _ ⟨⟩; exact mailbox_fixed _ _ _ fwdStatusRead_fixed

theorem execFwdPortWrite_fixed (r : Req) (s : State) : ∀ t, execFwdPortWrite r s = .next t → t.fixed = s.fixed := by rintro _ ⟨⟩; exact mailbox_fixed _ _ _ fwdPortWrite_fixed

theorem execFwdPortRead_fixed (r : Req) (s : State) : ∀ t, execFwdPortRead r s = .next t → t.fixed = s.fixed := by rintro _ ⟨⟩; exact mailbox_fixed _ _ _ fwdPortRead_fixed

theorem execFwdLearnWrite_fixed (r : Req) (s : State) : ∀ t, execFwdLearnWrite r s = .next t → t.fixed = s.fixed := by rintro _ ⟨⟩; exact mailbox_fixed _ _ _ fwdLearnWrite_fixed

theorem execFwdLearnFlush_fixed (r : Req) (s : State) : ∀ t, execFwdLearnFlush r s = .next t → t.fixed = s.fixed := by rintro _ ⟨⟩; exact mailbox_fixed _ _ _ fwdLearnFlush_fixed

theorem execFwdStatsRead_fixed (r : Req) (s : State) : ∀ t, execFwdStatsRead r s = .next t → t.fixed = s.fixed := by rintro _ ⟨⟩; exact mailbox_fixed _ _ _ fwdStatsRead_fixed

theorem execFrerFuncWrite_fixed (r : Req) (s : State) : ∀ t, execFrerFuncWrite r s = .next t → t.fixed = s.fixed := by rintro _ ⟨⟩; exact mailbox_fixed _ _ _ frerFuncWrite_fixed

theorem execFrerFuncRead_fixed (r : Req) (s : State) : ∀ t, execFrerFuncRead r s = .next t → t.fixed = s.fixed := by rintro _ ⟨⟩; exact mailbox_fixed _ _ _ frerFuncRead_fixed

theorem execFrerReset_fixed (r : Req) (s : State) : ∀ t, execFrerReset r s = .next t → t.fixed = s.fixed := by rintro _ ⟨⟩; exact mailbox_fixed _ _ _ frerResetCmd_fixed

/-! ### Gates -/

@[simp ↓] theorem State.modGate_fixed (s : State) (p : Nat) (f : GateSt → GateSt) : (State.modGate s p f).fixed = s.fixed := (rfl)

@[simp ↓] theorem State.modMm_fixed (s : State) (p : Nat) (f : MmSt → MmSt) : (State.modMm s p f).fixed = s.fixed := (rfl)

@[simp ↓] theorem State.holdCount_fixed (s : State) (p : Nat) : (State.holdCount s p).fixed = s.fixed := by simp [State.holdCount, ↓apply_ite State.fixed]

@[simp ↓] theorem State.gateChange_fixed (s : State) (p : Nat) : (State.gateChange s p).fixed = s.fixed := by simp [State.gateChange]

@[simp ↓] theorem State.gateStep_fixed (s : State) (p : Nat) : (State.gateStep s p).fixed = s.fixed := by simp [State.gateStep, ↓apply_ite State.fixed]

@[simp ↓] theorem State.gateResume_fixed (s : State) (p : Nat) : (State.gateResume s p).fixed = s.fixed := by
  unfold State.gateResume
  repeat' (first | (with_reducible rfl) | (simp [↓apply_ite State.fixed]; done) | split | (simp [↓apply_ite State.fixed, *]; done) | (grind [= State.gateChange_fixed, = State.gateStep_fixed, = State.modGate_fixed]) | (simp [↓apply_ite State.fixed]))

/-! ### GateCmds -/

@[simp ↓] theorem State.modQueue_fixed (s : State) (p q : Nat) (f : QueueCfg → QueueCfg) : (State.modQueue s p q f).fixed = s.fixed := (rfl)

@[simp ↓] theorem State.modEd_fixed (s : State) (d : Fab) (f : EgressDyn → EgressDyn) : (State.modEd s d f).fixed = s.fixed := by simp [State.modEd]

@[simp ↓] theorem State.modQctr_fixed (s : State) (d : Fab) (o q : Nat) (f : QueueCtr → QueueCtr) : (State.modQctr s d o q f).fixed = s.fixed := by simp [State.modQctr]

@[simp ↓] theorem State.modSampler_fixed (s : State) (d : Fab) (i : Nat) (f : Sampler → Sampler) : (State.modSampler s d i f).fixed = s.fixed := by simp [State.modSampler]

@[simp ↓] theorem State.gateEntry_fixed (s : State) (p : Nat) : (State.gateEntry s p).fixed = s.fixed := by simp [State.gateEntry, ↓apply_ite State.fixed]

@[simp ↓] theorem gclConfigWrite_fixed (r : Req) (s : State) : (gclConfigWrite.run r s).st.fixed = s.fixed := (rfl)

@[simp ↓] theorem gclListWrite_fixed (r : Req) (s : State) : (gclListWrite.run r s).st.fixed = s.fixed := by simp [gclListWrite]; split <;> simp

@[simp ↓] theorem gclPatternWrite_fixed (r : Req) (s : State) : (gclPatternWrite.run r s).st.fixed = s.fixed := by simp [gclPatternWrite]; split <;> simp

@[simp ↓] theorem gclCommit_fixed (r : Req) (s : State) : (gclCommit.run r s).st.fixed = s.fixed := by simp [gclCommit]; split <;> simp

@[simp ↓] theorem gclCancel_fixed (r : Req) (s : State) : (gclCancel.run r s).st.fixed = s.fixed := by simp [gclCancel]

@[simp ↓] theorem gclRead_fixed (r : Req) (s : State) : (gclRead.run r s).st.fixed = s.fixed := by
  simp only [gclRead]
  repeat' (first | (with_reducible rfl) | (simp [Reply.fail, ↓apply_ite Reply.st, ↓apply_ite State.fixed]; done) | split | (simp [Reply.fail, ↓apply_ite Reply.st, ↓apply_ite State.fixed, *]; done) | (grind []) | (simp [Reply.fail, ↓apply_ite Reply.st, ↓apply_ite State.fixed]))

@[simp ↓] theorem gclStatusRead_fixed (r : Req) (s : State) : (gclStatusRead.run r s).st.fixed = s.fixed := (rfl)

@[simp ↓] theorem gclCheck_fixed (r : Req) (s : State) : (gclCheck.run r s).st.fixed = s.fixed := (rfl)

@[simp ↓] theorem shaperQueueWrite_fixed (r : Req) (s : State) : (shaperQueueWrite.run r s).st.fixed = s.fixed := (rfl)

@[simp ↓] theorem shaperQueueRead_fixed (r : Req) (s : State) : (shaperQueueRead.run r s).st.fixed = s.fixed := (rfl)

@[simp ↓] theorem shaperPreemptWrite_fixed (r : Req) (s : State) : (shaperPreemptWrite.run r s).st.fixed = s.fixed := (rfl)

@[simp ↓] theorem shaperMmWrite_fixed (r : Req) (s : State) : (shaperMmWrite.run r s).st.fixed = s.fixed := (rfl)

@[simp ↓] theorem shaperMmRead_fixed (r : Req) (s : State) : (shaperMmRead.run r s).st.fixed = s.fixed := by simp [shaperMmRead]; split <;> simp

@[simp ↓] theorem qstatQueueRead_fixed (r : Req) (s : State) : (qstatQueueRead.run r s).st.fixed = s.fixed := by simp [qstatQueueRead]; split <;> simp

@[simp ↓] theorem qstatSamplerWrite_fixed (r : Req) (s : State) : (qstatSamplerWrite.run r s).st.fixed = s.fixed := by simp [qstatSamplerWrite]

@[simp ↓] theorem qstatSamplerRead_fixed (r : Req) (s : State) : (qstatSamplerRead.run r s).st.fixed = s.fixed := by simp [qstatSamplerRead]; split <;> simp

theorem execGclConfigWrite_fixed (r : Req) (s : State) : ∀ t, execGclConfigWrite r s = .next t → t.fixed = s.fixed := by rintro _ ⟨⟩; exact mailbox_fixed _ _ _ gclConfigWrite_fixed

theorem execGclListWrite_fixed (r : Req) (s : State) : ∀ t, execGclListWrite r s = .next t → t.fixed = s.fixed := by rintro _ ⟨⟩; exact mailbox_fixed _ _ _ gclListWrite_fixed

theorem execGclPatternWrite_fixed (r : Req) (s : State) : ∀ t, execGclPatternWrite r s = .next t → t.fixed = s.fixed := by rintro _ ⟨⟩; exact mailbox_fixed _ _ _ gclPatternWrite_fixed

theorem execGclCommit_fixed (r : Req) (s : State) : ∀ t, execGclCommit r s = .next t → t.fixed = s.fixed := by rintro _ ⟨⟩; exact mailbox_fixed _ _ _ gclCommit_fixed

theorem execGclCancel_fixed (r : Req) (s : State) : ∀ t, execGclCancel r s = .next t → t.fixed = s.fixed := by rintro _ ⟨⟩; exact mailbox_fixed _ _ _ gclCancel_fixed

theorem execGclRead_fixed (r : Req) (s : State) : ∀ t, execGclRead r s = .next t → t.fixed = s.fixed := by rintro _ ⟨⟩; exact mailbox_fixed _ _ _ gclRead_fixed

theorem execGclStatusRead_fixed (r : Req) (s : State) : ∀ t, execGclStatusRead r s = .next t → t.fixed = s.fixed := by rintro _ ⟨⟩; exact mailbox_fixed _ _ _ gclStatusRead_fixed

theorem execGclCheck_fixed (r : Req) (s : State) : ∀ t, execGclCheck r s = .next t → t.fixed = s.fixed := by rintro _ ⟨⟩; exact mailbox_fixed _ _ _ gclCheck_fixed

theorem execShaperQueueWrite_fixed (r : Req) (s : State) : ∀ t, execShaperQueueWrite r s = .next t → t.fixed = s.fixed := by rintro _ ⟨⟩; exact mailbox_fixed _ _ _ shaperQueueWrite_fixed

theorem execShaperQueueRead_fixed (r : Req) (s : State) : ∀ t, execShaperQueueRead r s = .next t → t.fixed = s.fixed := by rintro _ ⟨⟩; exact mailbox_fixed _ _ _ shaperQueueRead_fixed

theorem execShaperPreemptWrite_fixed (r : Req) (s : State) : ∀ t, execShaperPreemptWrite r s = .next t → t.fixed = s.fixed := by rintro _ ⟨⟩; exact mailbox_fixed _ _ _ shaperPreemptWrite_fixed

theorem execShaperMmWrite_fixed (r : Req) (s : State) : ∀ t, execShaperMmWrite r s = .next t → t.fixed = s.fixed := by rintro _ ⟨⟩; exact mailbox_fixed _ _ _ shaperMmWrite_fixed

theorem execShaperMmRead_fixed (r : Req) (s : State) : ∀ t, execShaperMmRead r s = .next t → t.fixed = s.fixed := by rintro _ ⟨⟩; exact mailbox_fixed _ _ _ shaperMmRead_fixed

theorem execQstatQueueRead_fixed (r : Req) (s : State) : ∀ t, execQstatQueueRead r s = .next t → t.fixed = s.fixed := by rintro _ ⟨⟩; exact mailbox_fixed _ _ _ qstatQueueRead_fixed

theorem execQstatSamplerWrite_fixed (r : Req) (s : State) : ∀ t, execQstatSamplerWrite r s = .next t → t.fixed = s.fixed := by rintro _ ⟨⟩; exact mailbox_fixed _ _ _ qstatSamplerWrite_fixed

theorem execQstatSamplerRead_fixed (r : Req) (s : State) : ∀ t, execQstatSamplerRead r s = .next t → t.fixed = s.fixed := by rintro _ ⟨⟩; exact mailbox_fixed _ _ _ qstatSamplerRead_fixed

theorem execGclEntryStart_fixed (port : Nat) (s : State) : ∀ t, execGclEntryStart port s = .next t → t.fixed = s.fixed := by rintro _ ⟨⟩; simp

theorem execGclChangeTime_fixed (port : Nat) (s : State) : ∀ t, execGclChangeTime port s = .next t → t.fixed = s.fixed := by rintro _ ⟨⟩; split <;> simp

theorem execGclCopyComplete_fixed (port : Nat) (s : State) : ∀ t, execGclCopyComplete port s = .next t → t.fixed = s.fixed := by rintro _ ⟨⟩; split <;> simp

theorem execMmVerifyTimer_fixed (port : Nat) (s : State) : ∀ t, execMmVerifyTimer port s = .next t → t.fixed = s.fixed := by
  intro t h
  unfold execMmVerifyTimer at h
  first
  | (simp only [Host.Outcome.next.injEq] at h; subst h; repeat' (first | (with_reducible rfl) | (simp [↓apply_ite State.fixed]; done) | split | (simp [↓apply_ite State.fixed, *]; done) | (grind [= State.emit_fixed, = State.modMm_fixed, = State.raiseDie_fixed]) | (simp [↓apply_ite State.fixed])))
  | (split at h <;> (simp only [Host.Outcome.next.injEq] at h; subst h; repeat' (first | (with_reducible rfl) | (simp [↓apply_ite State.fixed]; done) | split | (simp [↓apply_ite State.fixed, *]; done) | (grind [= State.emit_fixed, = State.modMm_fixed, = State.raiseDie_fixed]) | (simp [↓apply_ite State.fixed]))))
  | (repeat' split at h
     all_goals (simp only [Host.Outcome.next.injEq] at h; subst h; repeat' (first | (with_reducible rfl) | (simp [↓apply_ite State.fixed]; done) | split | (simp [↓apply_ite State.fixed, *]; done) | (grind [= State.emit_fixed, = State.modMm_fixed, = State.raiseDie_fixed]) | (simp [↓apply_ite State.fixed]))))

theorem execMmVerifyRx_fixed (port : Nat) (respond : Bool) (s : State) : ∀ t, execMmVerifyRx port respond s = .next t → t.fixed = s.fixed := by
  intro t h
  unfold execMmVerifyRx at h
  first
  | (simp only [Host.Outcome.next.injEq] at h; subst h; repeat' (first | (with_reducible rfl) | (simp [↓apply_ite State.fixed]; done) | split | (simp [↓apply_ite State.fixed, *]; done) | (grind [= State.emit_fixed, = State.modMm_fixed, = State.respond_fixed]) | (simp [↓apply_ite State.fixed])))
  | (split at h <;> (simp only [Host.Outcome.next.injEq] at h; subst h; repeat' (first | (with_reducible rfl) | (simp [↓apply_ite State.fixed]; done) | split | (simp [↓apply_ite State.fixed, *]; done) | (grind [= State.emit_fixed, = State.modMm_fixed, = State.respond_fixed]) | (simp [↓apply_ite State.fixed]))))
  | (repeat' split at h
     all_goals (simp only [Host.Outcome.next.injEq] at h; subst h; repeat' (first | (with_reducible rfl) | (simp [↓apply_ite State.fixed]; done) | split | (simp [↓apply_ite State.fixed, *]; done) | (grind [= State.emit_fixed, = State.modMm_fixed, = State.respond_fixed]) | (simp [↓apply_ite State.fixed]))))

theorem execSamplerPeriod_fixed (die : Fab) (i : Nat) (s : State) : ∀ t, execSamplerPeriod die i s = .next t → t.fixed = s.fixed := by rintro _ ⟨⟩; split <;> simp

end Machine
end Sys2Proof
end

