-- ==== Sys2Proof/Laws/FixedFrames.lean ====
section
/-! SUPPORT. What leaves the queue, the one-time-programmable words and the lock fields: the way of a frame. -/

namespace Sys2Proof
namespace Machine

set_option linter.unusedSimpArgs false

/-! ### Frames -/

@[simp ↓] theorem State.modFrame_fixed (s : State) (d : Fab) (fid : Nat) (f : FrameSt → FrameSt) : (State.modFrame s d fid f).fixed = s.fixed := by simp [State.modFrame]

@[simp ↓] theorem State.forget_fixed (s : State) (d : Fab) (fid : Nat) : (State.forget s d fid).fixed = s.fixed := by simp [State.forget]

@[simp ↓] theorem State.addFrame_fixed (s : State) (d : Fab) (f : FrameSt) : (State.addFrame s d f).1.fixed = s.fixed := by simp [State.addFrame]

theorem State.addFrame_fixed' (s : State) (d : Fab) (f : FrameSt) (t) (y) (h : State.addFrame s d f = (t, y)) : t.fixed = s.fixed := by
  have := State.addFrame_fixed s d f
  rw [h] at this; exact this

@[simp ↓] theorem State.portTick_fixed (s : State) (p : Nat) (get : PortSt → Nat) (set : PortSt → Nat → PortSt) : (State.portTick s p get set).fixed = s.fixed := by simp [State.portTick]

@[simp ↓] theorem State.hdrError_fixed (s : State) (p : Nat) : (State.hdrError s p).fixed = s.fixed := by simp [State.hdrError]

@[simp ↓] theorem State.macsecRx_fixed (s : State) (p : Nat) (sec : SecRx) (bytes : List Byte) : (State.macsecRx s p sec bytes).1.fixed = s.fixed := by
  unfold State.macsecRx
  repeat' (first | (with_reducible rfl) | (simp [↓apply_ite State.fixed]; done) | split | (simp [↓apply_ite State.fixed, *]; done) | (grind [= State.modPort_fixed]) | (simp [↓apply_ite State.fixed]))

theorem State.macsecRx_fixed' (s : State) (p : Nat) (sec : SecRx) (bytes : List Byte) (t) (y) (h : State.macsecRx s p sec bytes = (t, y)) : t.fixed = s.fixed := by
  have := State.macsecRx_fixed s p sec bytes
  rw [h] at this; exact this

@[simp ↓] theorem State.toBridge_fixed (s : State) (p ty src : Nat) (bytes : List Byte) : (State.toBridge s p ty src bytes).fixed = s.fixed := (rfl)

@[simp ↓] theorem State.hemCheck_fixed (s : State) (p : Nat) (hdr bytes : List Byte) (phy : Bool) (sec : SecRx) : (State.hemCheck s p hdr bytes phy sec).1.fixed = s.fixed := by
  unfold State.hemCheck
  repeat' (first | (with_reducible rfl) | (simp [↓apply_ite State.fixed]; done) | split | (simp [↓apply_ite State.fixed, *]; done) | (grind [= State.hdrError_fixed, → State.macsecRx_fixed', = State.portTick_fixed, = CmdSpec.take_fixed, = State.toBridge_fixed]) | (simp [↓apply_ite State.fixed]))

theorem State.hemCheck_fixed' (s : State) (p : Nat) (hdr bytes : List Byte) (phy : Bool) (sec : SecRx) (t) (y) (h : State.hemCheck s p hdr bytes phy sec = (t, y)) : t.fixed = s.fixed := by
  have := State.hemCheck_fixed s p hdr bytes phy sec
  rw [h] at this; exact this

@[simp ↓] theorem State.gptpRx_fixed (s : State) (p : Nat) (phy : Bool) (bytes : List Byte) : (State.gptpRx s p phy bytes).1.fixed = s.fixed := by
  unfold State.gptpRx
  repeat' (first | (with_reducible rfl) | (simp [↓apply_ite State.fixed]; done) | split | (simp [↓apply_ite State.fixed, *]; done) | (grind [= State.modTim_fixed, = State.portTick_fixed, = State.raiseDie_fixed]) | (simp [↓apply_ite State.fixed]))

theorem State.gptpRx_fixed' (s : State) (p : Nat) (phy : Bool) (bytes : List Byte) (t) (y) (h : State.gptpRx s p phy bytes = (t, y)) : t.fixed = s.fixed := by
  have := State.gptpRx_fixed s p phy bytes
  rw [h] at this; exact this

@[simp ↓] theorem State.stage_fixed (s : State) (p : Nat) (bytes : List Byte) (phy : Bool) (f0 : FrameSt) : (State.stage s p bytes phy f0).fixed = s.fixed := by simp [State.stage, ↓apply_ite State.fixed]

@[simp ↓] theorem State.ingress_fixed (s : State) (p : Nat) (bytes hdr : List Byte) (phy : Bool) (sec : SecRx) : (State.ingress s p bytes hdr phy sec).fixed = s.fixed := by
  unfold State.ingress
  repeat' (first | (with_reducible rfl) | (simp [↓apply_ite State.fixed]; done) | split | (simp [↓apply_ite State.fixed, *]; done) | (grind [→ State.gptpRx_fixed', → State.hemCheck_fixed', → State.macsecRx_fixed', = State.stage_fixed]) | (simp [↓apply_ite State.fixed]))

@[simp ↓] theorem State.reassemble_fixed (s : State) (p : Nat) (m : MmRx) : (s.reassemble p m).1.fixed = s.fixed := by
  cases m <;> simp only [State.reassemble] <;> first | rfl | (split <;> rfl)

theorem execFrameRxStart_fixed (port : Nat) (bytes hdr : List Byte) (phy : Bool) (sec : SecRx) (mm : MmRx) (dt : Nat) (s : State) : ∀ t, execFrameRxStart port bytes hdr phy sec mm dt s = .next t → t.fixed = s.fixed := by
  rintro _ ⟨⟩; simp [↓apply_ite State.fixed]

/-! ### Parse -/

@[simp ↓] theorem State.modEngine_fixed (s : State) (d : Fab) (e : Nat) (f : Engine → Engine) : (State.modEngine s d e f).fixed = s.fixed := by simp [State.modEngine]

@[simp ↓] theorem State.modParse_fixed (s : State) (p : Nat) (f : PortParse → PortParse) : (State.modParse s p f).fixed = s.fixed := (rfl)

@[simp ↓] theorem State.countParsed_fixed (s : State) (d : Fab) (e : Nat) : (State.countParsed s d e).fixed = s.fixed := by
  unfold State.countParsed
  repeat' (first | (with_reducible rfl) | (simp [↓apply_ite State.fixed]; done) | split | (simp [↓apply_ite State.fixed, *]; done) | (grind [= State.modParse_fixed]) | (simp [↓apply_ite State.fixed]))

@[simp ↓] theorem State.parseStep_fixed (s : State) (d : Fab) (e op : Nat) : (State.parseStep s d e op).fixed = s.fixed := by simp [State.parseStep, ↓apply_ite State.fixed]

theorem State.shortDrop_fixed (s : State) (f : FrameSt) : ∀ t, State.shortDrop s f = some t → t.fixed = s.fixed := by
  intro t h
  unfold State.shortDrop at h
  grind [= State.portTick_fixed]

theorem execParseEnd_fixed (die : Fab) (eng : Nat) (s : State) : ∀ t, execParseEnd die eng s = .next t → t.fixed = s.fixed := by rintro _ ⟨⟩; simp

theorem execParseClass_fixed (die : Fab) (eng : Nat) (s : State) : ∀ t, execParseClass die eng s = .next t → t.fixed = s.fixed := by rintro _ ⟨⟩; simp

theorem execParseExtract_fixed (die : Fab) (eng : Nat) (s : State) : ∀ t, execParseExtract die eng s = .next t → t.fixed = s.fixed := by rintro _ ⟨⟩; simp

theorem execParseLoad_fixed (die : Fab) (eng : Nat) (s : State) : ∀ t, execParseLoad die eng s = .next t → t.fixed = s.fixed := by rintro _ ⟨⟩; simp

theorem execParseAnd_fixed (die : Fab) (eng : Nat) (s : State) : ∀ t, execParseAnd die eng s = .next t → t.fixed = s.fixed := by rintro _ ⟨⟩; simp

theorem execParseTest_fixed (die : Fab) (eng : Nat) (s : State) : ∀ t, execParseTest die eng s = .next t → t.fixed = s.fixed := by rintro _ ⟨⟩; simp

theorem execParseTestne_fixed (die : Fab) (eng : Nat) (s : State) : ∀ t, execParseTestne die eng s = .next t → t.fixed = s.fixed := by rintro _ ⟨⟩; simp

theorem execParseJump_fixed (die : Fab) (eng : Nat) (s : State) : ∀ t, execParseJump die eng s = .next t → t.fixed = s.fixed := by rintro _ ⟨⟩; simp

theorem execParseAdvance_fixed (die : Fab) (eng : Nat) (s : State) : ∀ t, execParseAdvance die eng s = .next t → t.fixed = s.fixed := by rintro _ ⟨⟩; simp

theorem execParseLenset_fixed (die : Fab) (eng : Nat) (s : State) : ∀ t, execParseLenset die eng s = .next t → t.fixed = s.fixed := by rintro _ ⟨⟩; simp

theorem execParseFail_fixed (die : Fab) (eng : Nat) (s : State) : ∀ t, execParseFail die eng s = .next t → t.fixed = s.fixed := by rintro _ ⟨⟩; simp

theorem execParseBudgetExhausted_fixed (die : Fab) (eng : Nat) (s : State) : ∀ t, execParseBudgetExhausted die eng s = .next t → t.fixed = s.fixed := by rintro _ ⟨⟩; split <;> simp

theorem execParseEngineTake_fixed (die : Fab) (eng port : Nat) (s : State) : ∀ t, execParseEngineTake die eng port s = .next t → t.fixed = s.fixed := by
  intro t h
  unfold execParseEngineTake at h
  first
  | (simp only [Host.Outcome.next.injEq] at h; subst h; repeat' (first | (with_reducible rfl) | (simp [↓apply_ite State.fixed]; done) | split | (simp [↓apply_ite State.fixed, *]; done) | (grind [= State.advQ_fixed, = State.forget_fixed, = State.modEngine_fixed, = State.modFrame_fixed, = State.modParse_fixed, → State.shortDrop_fixed, = CmdSpec.take_fixed]) | (simp [↓apply_ite State.fixed])))
  | (split at h <;> (simp only [Host.Outcome.next.injEq] at h; subst h; repeat' (first | (with_reducible rfl) | (simp [↓apply_ite State.fixed]; done) | split | (simp [↓apply_ite State.fixed, *]; done) | (grind [= State.advQ_fixed, = State.forget_fixed, = State.modEngine_fixed, = State.modFrame_fixed, = State.modParse_fixed, → State.shortDrop_fixed, = CmdSpec.take_fixed]) | (simp [↓apply_ite State.fixed]))))
  | (repeat' split at h
     all_goals (simp only [Host.Outcome.next.injEq] at h; subst h; repeat' (first | (with_reducible rfl) | (simp [↓apply_ite State.fixed]; done) | split | (simp [↓apply_ite State.fixed, *]; done) | (grind [= State.advQ_fixed, = State.forget_fixed, = State.modEngine_fixed, = State.modFrame_fixed, = State.modParse_fixed, → State.shortDrop_fixed, = CmdSpec.take_fixed]) | (simp [↓apply_ite State.fixed]))))

theorem execRecircPassStart_fixed (die : Fab) (eng : Nat) (s : State) : ∀ t, execRecircPassStart die eng s = .next t → t.fixed = s.fixed := by
  intro t h
  unfold execRecircPassStart at h
  first
  | (simp only [Host.Outcome.next.injEq] at h; subst h; repeat' (first | (with_reducible rfl) | (simp [↓apply_ite State.fixed]; done) | split | (simp [↓apply_ite State.fixed, *]; done) | (grind [= State.advQ_fixed, = State.modEngine_fixed, = State.modFab_fixed, = State.modFrame_fixed, = CmdSpec.take_fixed]) | (simp [↓apply_ite State.fixed])))
  | (split at h <;> (simp only [Host.Outcome.next.injEq] at h; subst h; repeat' (first | (with_reducible rfl) | (simp [↓apply_ite State.fixed]; done) | split | (simp [↓apply_ite State.fixed, *]; done) | (grind [= State.advQ_fixed, = State.modEngine_fixed, = State.modFab_fixed, = State.modFrame_fixed, = CmdSpec.take_fixed]) | (simp [↓apply_ite State.fixed]))))
  | (repeat' split at h
     all_goals (simp only [Host.Outcome.next.injEq] at h; subst h; repeat' (first | (with_reducible rfl) | (simp [↓apply_ite State.fixed]; done) | split | (simp [↓apply_ite State.fixed, *]; done) | (grind [= State.advQ_fixed, = State.modEngine_fixed, = State.modFab_fixed, = State.modFrame_fixed, = CmdSpec.take_fixed]) | (simp [↓apply_ite State.fixed]))))

/-! ### Lookup -/

@[simp ↓] theorem State.modVlan_fixed (s : State) (p : Nat) (f : VlanPort → VlanPort) : (State.modVlan s p f).fixed = s.fixed := (rfl)

@[simp ↓] theorem State.vlanTick_fixed (s : State) (p : Nat) (get : VlanPort → Nat) (set : VlanPort → Nat → VlanPort) : (State.vlanTick s p get set).fixed = s.fixed := by simp [State.vlanTick]

@[simp ↓] theorem State.pairTick_fixed (s : State) (d : Fab) (k : Nat) (get : PairCtr → Nat) (set : PairCtr → Nat → PairCtr) : (State.pairTick s d k get set).fixed = s.fixed := by simp [State.pairTick]

@[simp ↓] theorem State.countBy_fixed (s : State) (d : Fab) (k : Nat) (b : By) (rule : Nat) : (State.countBy s d k b rule).fixed = s.fixed := by unfold State.countBy; split <;> simp

@[simp ↓] theorem State.permitZone_fixed (s : State) (d : Fab) (inZone : Nat) (v : Verdict) : (State.permitZone s d inZone v).1.fixed = s.fixed := by unfold State.permitZone; split <;> simp

theorem State.permitZone_fixed' (s : State) (d : Fab) (inZone : Nat) (v : Verdict) (t) (y) (h : State.permitZone s d inZone v = (t, y)) : t.fixed = s.fixed := by
  have := State.permitZone_fixed s d inZone v
  rw [h] at this; exact this

@[simp ↓] theorem State.fragMake_fixed (s : State) (d : Fab) (r : ParseRes) (inZone : Nat) (vs : List Verdict) : (State.fragMake s d r inZone vs).fixed = s.fixed := by
  unfold State.fragMake
  repeat' (first | (with_reducible rfl) | (simp [↓apply_ite State.fixed]; done) | split | (simp [↓apply_ite State.fixed, *]; done) | (grind [= State.dieTick_fixed, = State.modFab_fixed]) | (simp [↓apply_ite State.fixed]))

@[simp ↓] theorem State.fragUse_fixed (s : State) (d : Fab) (r : ParseRes) (inZone : Nat) : (State.fragUse s d r inZone).1.fixed = s.fixed := by unfold State.fragUse; split <;> simp

theorem State.fragUse_fixed' (s : State) (d : Fab) (r : ParseRes) (inZone : Nat) (t) (y) (h : State.fragUse s d r inZone = (t, y)) : t.fixed = s.fixed := by
  have := State.fragUse_fixed s d r inZone
  rw [h] at this; exact this

@[simp ↓] theorem State.filterTick_fixed (s : State) (d : Fab) (i : Nat) (get : FilterDyn → Nat) (set : FilterDyn → Nat → FilterDyn) : (State.filterTick s d i get set).fixed = s.fixed := by simp [State.filterTick]

@[simp ↓] theorem State.filterBlock_fixed (s : State) (d : Fab) (i : Nat) (b : Bool) : (State.filterBlock s d i b).fixed = s.fixed := by simp [State.filterBlock, ↓apply_ite State.fixed]

@[simp ↓] theorem State.filterCheck_fixed (s : State) (d : Fab) (i : Nat) (c : FilterCfg) (len : Option Nat) : (State.filterCheck s d i c len).1.fixed = s.fixed := by
  unfold State.filterCheck
  repeat' (first | (with_reducible rfl) | (simp [↓apply_ite State.fixed]; done) | split | (simp [↓apply_ite State.fixed, *]; done) | (grind [= State.filterBlock_fixed, = State.filterTick_fixed, = State.modZd_fixed]) | (simp [↓apply_ite State.fixed]))

theorem State.filterCheck_fixed' (s : State) (d : Fab) (i : Nat) (c : FilterCfg) (len : Option Nat) (t) (y) (h : State.filterCheck s d i c len = (t, y)) : t.fixed = s.fixed := by
  have := State.filterCheck_fixed s d i c len
  rw [h] at this; exact this

@[simp ↓] theorem State.meterJudge_fixed (s : State) (d : Fab) (i : Nat) (len : Option Nat) (c : Colour) : (State.meterJudge s d i len c).1.fixed = s.fixed := by simp [State.meterJudge]

theorem State.meterJudge_fixed' (s : State) (d : Fab) (i : Nat) (len : Option Nat) (c : Colour) (t) (y) (h : State.meterJudge s d i len c = (t, y)) : t.fixed = s.fixed := by
  have := State.meterJudge_fixed s d i len c
  rw [h] at this; exact this

@[simp ↓] theorem State.meterBoth_fixed (s : State) (d : Fab) (fm rm : Option Nat) (len : Option Nat) (c : Colour) : (State.meterBoth s d fm rm len c).1.fixed = s.fixed := by
  unfold State.meterBoth
  repeat' (first | (with_reducible rfl) | (simp [↓apply_ite State.fixed]; done) | split | (simp [↓apply_ite State.fixed, *]; done) | (grind [→ State.meterJudge_fixed']) | (simp [↓apply_ite State.fixed]))

theorem State.meterBoth_fixed' (s : State) (d : Fab) (fm rm : Option Nat) (len : Option Nat) (c : Colour) (t) (y) (h : State.meterBoth s d fm rm len c = (t, y)) : t.fixed = s.fixed := by
  have := State.meterBoth_fixed s d fm rm len c
  rw [h] at this; exact this

/-! ### Classify -/

@[simp ↓] theorem State.describe_fixed (s : State) (d : Fab) (fid : Nat) (ds : Desc) (cs : List (Nat × Copy)) : (State.describe s d fid ds cs).fixed = s.fixed := by simp [State.describe, ↓apply_ite State.fixed]

@[simp ↓] theorem State.dropFrame_fixed (s : State) (d : Fab) (fid : Nat) (f : FrameSt) (ds : Desc) (flow : Nat) : (State.dropFrame s d fid f ds flow).fixed = s.fixed := by simp [State.dropFrame]

@[simp ↓] theorem State.malDrop_fixed (s : State) (d : Fab) (fid : Nat) (f : FrameSt) (r : ParseRes) (cause : Nat) : (State.malDrop s d fid f r cause).fixed = s.fixed := by simp [State.malDrop]

@[simp ↓] theorem State.countGroup_fixed (s : State) (d : Fab) (i n : Nat) : (State.countGroup s d i n).fixed = s.fixed := by simp [State.countGroup]

@[simp ↓] theorem State.hemLoop_fixed (s : State) (p : Nat) : (State.hemLoop s p).fixed = s.fixed := by simp [State.hemLoop]

@[simp ↓] theorem State.zonedOutputs_fixed (s : State) (d : Fab) (f : FrameSt) (stream : Nat) (x0 : List Nat) : (State.zonedOutputs s d f stream x0).1.fixed = s.fixed := by
  fun_induction State.zonedOutputs s d f stream x0
  all_goals repeat' (first | (with_reducible rfl) | (simp [↓apply_ite State.fixed]; done) | split | (simp [↓apply_ite State.fixed, *]; done) | (grind [= State.dieTick_fixed, = State.hemLoop_fixed, = State.modGw_fixed, = State.raiseDie_fixed]) | (simp [↓apply_ite State.fixed]))

theorem State.zonedOutputs_fixed' (s : State) (d : Fab) (f : FrameSt) (stream : Nat) (x0 : List Nat) (t) (y) (h : State.zonedOutputs s d f stream x0 = (t, y)) : t.fixed = s.fixed := by
  have := State.zonedOutputs_fixed s d f stream x0
  rw [h] at this; exact this

@[simp ↓] theorem State.judgeZones_fixed (s : State) (d : Fab) (r : ParseRes) (inPort inZone : Nat) (frag : Option (List Verdict)) (x0 : List Nat) : (State.judgeZones s d r inPort inZone frag x0).1.fixed = s.fixed := by
  fun_induction State.judgeZones s d r inPort inZone frag x0
  all_goals repeat' (first | (with_reducible rfl) | (simp [↓apply_ite State.fixed]; done) | split | (simp [↓apply_ite State.fixed, *]; done) | (grind [= State.countBy_fixed, → State.permitZone_fixed']) | (simp [↓apply_ite State.fixed]))

theorem State.judgeZones_fixed' (s : State) (d : Fab) (r : ParseRes) (inPort inZone : Nat) (frag : Option (List Verdict)) (x0 : List Nat) (t) (y) (h : State.judgeZones s d r inPort inZone frag x0 = (t, y)) : t.fixed = s.fixed := by
  have := State.judgeZones_fixed s d r inPort inZone frag x0
  rw [h] at this; exact this

@[simp ↓] theorem State.judgeSecond_fixed (s : State) (d : Fab) (r : ParseRes) (inPort inZone gen : Nat) (x0 : List Verdict) : (State.judgeSecond s d r inPort inZone gen x0).1.fixed = s.fixed := by
  fun_induction State.judgeSecond s d r inPort inZone gen x0
  all_goals repeat' (first | (with_reducible rfl) | (simp [↓apply_ite State.fixed]; done) | split | (simp [↓apply_ite State.fixed, *]; done) | (grind [= State.countBy_fixed, = State.dieTick_fixed]) | (simp [↓apply_ite State.fixed]))

theorem State.judgeSecond_fixed' (s : State) (d : Fab) (r : ParseRes) (inPort inZone gen : Nat) (x0 : List Verdict) (t) (y) (h : State.judgeSecond s d r inPort inZone gen x0 = (t, y)) : t.fixed = s.fixed := by
  have := State.judgeSecond_fixed s d r inPort inZone gen x0
  rw [h] at this; exact this

@[simp ↓] theorem State.learnRequest_fixed (s : State) (f : FrameSt) (r : ParseRes) (vid : Nat) (vs : List Verdict) : (State.learnRequest s f r vid vs).fixed = s.fixed := by simp [State.learnRequest, ↓apply_ite State.fixed]

@[simp ↓] theorem State.misconfig_fixed (s : State) (d : Fab) : (State.misconfig s d).fixed = s.fixed := by simp [State.misconfig]

@[simp ↓] theorem State.modFrer_fixed (s : State) (d : Fab) (n : Nat) (f : FrerDyn → FrerDyn) : (State.modFrer s d n f).fixed = s.fixed := by simp [State.modFrer]

@[simp ↓] theorem State.generate_fixed (s : State) (d : Fab) (ds : Desc) : (State.generate s d ds).1.fixed = s.fixed := by
  unfold State.generate
  repeat' (first | (with_reducible rfl) | (simp [↓apply_ite State.fixed]; done) | split | (simp [↓apply_ite State.fixed, *]; done) | (grind [= State.misconfig_fixed, = State.modFrer_fixed]) | (simp [↓apply_ite State.fixed]))

theorem State.generate_fixed' (s : State) (d : Fab) (ds : Desc) (t) (y) (h : State.generate s d ds = (t, y)) : t.fixed = s.fixed := by
  have := State.generate_fixed s d ds
  rw [h] at this; exact this

@[simp ↓] theorem State.conclude_fixed (s : State) (d : Fab) (fid : Nat) (f : FrameSt) (r : ParseRes) (ds0 : Desc) (outs : List (Nat × Nat)) (vs : List Verdict) (fm : Option Nat) (vid : Nat) : (State.conclude s d fid f r ds0 outs vs fm vid).fixed = s.fixed := by simp [State.conclude, ↓apply_ite State.fixed]

@[simp ↓] theorem State.toCpuOnly_fixed (s : State) (d : Fab) (fid : Nat) (f : FrameSt) (r : ParseRes) (q : Nat) : (State.toCpuOnly s d fid f r q).fixed = s.fixed := by simp [State.toCpuOnly]

@[simp ↓] theorem State.recirculate_fixed (s : State) (d : Fab) (fid : Nat) (f : FrameSt) (r : ParseRes) (ds : Desc) (vs : List Verdict) : (State.recirculate s d fid f r ds vs).fixed = s.fixed := by simp [State.recirculate, ↓apply_ite State.fixed]

@[simp ↓] theorem State.judge_fixed (s : State) (d : Fab) (fid : Nat) (f : FrameSt) (r : ParseRes) (ds : Desc) (ports : List Nat) (fm : Option Nat) (vid : Nat) : (State.judge s d fid f r ds ports fm vid).fixed = s.fixed := by
  unfold State.judge
  repeat' (first | (with_reducible rfl) | (simp [↓apply_ite State.fixed]; done) | split | (simp [↓apply_ite State.fixed, *]; done) | (grind [= State.conclude_fixed, = State.dieTick_fixed, = State.fragMake_fixed, → State.fragUse_fixed', → State.judgeZones_fixed', = State.modFrame_fixed, = State.recirculate_fixed, → State.zonedOutputs_fixed']) | (simp [↓apply_ite State.fixed]))

@[simp ↓] theorem State.classify_fixed (s : State) (d : Fab) (fid : Nat) (f0 : FrameSt) (r : ParseRes) : (State.classify s d fid f0 r).fixed = s.fixed := by
  unfold State.classify
  repeat' (first | (with_reducible rfl) | (simp [↓apply_ite State.fixed]; done) | split | (simp [↓apply_ite State.fixed, *]; done) | (grind [= State.countGroup_fixed, = State.dropFrame_fixed, → State.filterCheck_fixed', = State.malDrop_fixed, = State.modFab_fixed, = State.modFrame_fixed, = State.modParse_fixed, = State.modVlan_fixed, = State.raiseDie_fixed, = State.toCpuOnly_fixed, = State.vlanTick_fixed]) | (simp [↓apply_ite State.fixed]))

@[simp ↓] theorem State.classifySecond_fixed (s : State) (d : Fab) (fid : Nat) (f : FrameSt) (r : ParseRes) : (State.classifySecond s d fid f r).fixed = s.fixed := by
  unfold State.classifySecond
  repeat' (first | (with_reducible rfl) | (simp [↓apply_ite State.fixed]; done) | split | (simp [↓apply_ite State.fixed, *]; done) | (grind [= State.conclude_fixed, = State.forget_fixed, = State.fragMake_fixed, → State.judgeSecond_fixed', = State.malDrop_fixed, = State.modParse_fixed, = State.raiseDie_fixed]) | (simp [↓apply_ite State.fixed]))

theorem execCollectorTake_fixed (die : Fab) (eng : Nat) (s : State) : ∀ t, execCollectorTake die eng s = .next t → t.fixed = s.fixed := by
  intro t h
  unfold execCollectorTake at h
  first
  | (simp only [Host.Outcome.next.injEq] at h; subst h; repeat' (first | (with_reducible rfl) | (simp [↓apply_ite State.fixed]; done) | split | (simp [↓apply_ite State.fixed, *]; done) | (grind [= State.classify_fixed, = State.classifySecond_fixed, = State.modEngine_fixed, = State.modParse_fixed]) | (simp [↓apply_ite State.fixed])))
  | (split at h <;> (simp only [Host.Outcome.next.injEq] at h; subst h; repeat' (first | (with_reducible rfl) | (simp [↓apply_ite State.fixed]; done) | split | (simp [↓apply_ite State.fixed, *]; done) | (grind [= State.classify_fixed, = State.classifySecond_fixed, = State.modEngine_fixed, = State.modParse_fixed]) | (simp [↓apply_ite State.fixed]))))
  | (repeat' split at h
     all_goals (simp only [Host.Outcome.next.injEq] at h; subst h; repeat' (first | (with_reducible rfl) | (simp [↓apply_ite State.fixed]; done) | split | (simp [↓apply_ite State.fixed, *]; done) | (grind [= State.classify_fixed, = State.classifySecond_fixed, = State.modEngine_fixed, = State.modParse_fixed]) | (simp [↓apply_ite State.fixed]))))

/-! ### PoolCmds -/

@[simp ↓] theorem State.addSpare_fixed (s : State) (d : Fab) (x c : Nat) : (State.addSpare s d x c).fixed = s.fixed := by simp [State.addSpare, ↓apply_ite State.fixed]

@[simp ↓] theorem State.dropSpare_fixed (s : State) (d : Fab) (c : Nat) : (State.dropSpare s d c).fixed = s.fixed := by simp [State.dropSpare]

@[simp ↓] theorem State.grantSpares_fixed (s : State) (d : Fab) (i : Nat) (x0 : Nat) : (State.grantSpares s d i x0).fixed = s.fixed := by
  fun_induction State.grantSpares s d i x0
  all_goals repeat' (first | (with_reducible rfl) | (simp [↓apply_ite State.fixed]; done) | split | (simp [↓apply_ite State.fixed, *]; done) | (grind [= State.addSpare_fixed, → State.grantCell_fixed']) | (simp [↓apply_ite State.fixed]))

@[simp ↓] theorem State.poolStatsClear_fixed (s : State) (d : Fab) (kind i : Nat) : (State.poolStatsClear s d kind i).fixed = s.fixed := by simp [State.poolStatsClear, ↓apply_ite State.fixed]

@[simp ↓] theorem poolLimitWrite_fixed (r : Req) (s : State) : (poolLimitWrite.run r s).st.fixed = s.fixed := by simp [poolLimitWrite]

@[simp ↓] theorem poolLevelWrite_fixed (r : Req) (s : State) : (poolLevelWrite.run r s).st.fixed = s.fixed := by simp [poolLevelWrite]

@[simp ↓] theorem poolConfigRead_fixed (r : Req) (s : State) : (poolConfigRead.run r s).st.fixed = s.fixed := (rfl)

@[simp ↓] theorem poolStatsRead_fixed (r : Req) (s : State) : (poolStatsRead.run r s).st.fixed = s.fixed := by simp [poolStatsRead]; split <;> simp

@[simp ↓] theorem poolErrlogRead_fixed (r : Req) (s : State) : (poolErrlogRead.run r s).st.fixed = s.fixed := by simp [poolErrlogRead]; split <;> simp

@[simp ↓] theorem poolCellRead_fixed (r : Req) (s : State) : (poolCellRead.run r s).st.fixed = s.fixed := (rfl)

theorem execPoolAlloc_fixed (die : Fab) (owner : Nat) (req : AllocReq) (contended : Bool) (s : State) : ∀ t, execPoolAlloc die owner req contended s = .next t → t.fixed = s.fixed := by
  intro t h
  unfold execPoolAlloc at h
  first
  | (simp only [Host.Outcome.next.injEq] at h; subst h; repeat' (first | (with_reducible rfl) | (simp [↓apply_ite State.fixed]; done) | split | (simp [↓apply_ite State.fixed, *]; done) | (grind [= State.addSpare_fixed, → State.allocMsg_fixed', = State.contend_fixed, = State.emit_fixed, → State.grantCell_fixed']) | (simp [↓apply_ite State.fixed])))
  | (split at h <;> (simp only [Host.Outcome.next.injEq] at h; subst h; repeat' (first | (with_reducible rfl) | (simp [↓apply_ite State.fixed]; done) | split | (simp [↓apply_ite State.fixed, *]; done) | (grind [= State.addSpare_fixed, → State.allocMsg_fixed', = State.contend_fixed, = State.emit_fixed, → State.grantCell_fixed']) | (simp [↓apply_ite State.fixed]))))
  | (repeat' split at h
     all_goals (simp only [Host.Outcome.next.injEq] at h; subst h; repeat' (first | (with_reducible rfl) | (simp [↓apply_ite State.fixed]; done) | split | (simp [↓apply_ite State.fixed, *]; done) | (grind [= State.addSpare_fixed, → State.allocMsg_fixed', = State.contend_fixed, = State.emit_fixed, → State.grantCell_fixed']) | (simp [↓apply_ite State.fixed]))))

theorem execPoolFree_fixed (die : Fab) (owner pool index : Nat) (contended : Bool) (s : State) : ∀ t, execPoolFree die owner pool index contended s = .next t → t.fixed = s.fixed := by
  intro t h
  unfold execPoolFree at h
  first
  | (simp only [Host.Outcome.next.injEq] at h; subst h; repeat' (first | (with_reducible rfl) | (simp [↓apply_ite State.fixed]; done) | split | (simp [↓apply_ite State.fixed, *]; done) | (grind [= State.contend_fixed, = State.dropSpare_fixed, = State.emit_fixed, → State.freeCellChain_fixed', → State.freeMsg_fixed', → State.freeUnit_fixed']) | (simp [↓apply_ite State.fixed])))
  | (split at h <;> (simp only [Host.Outcome.next.injEq] at h; subst h; repeat' (first | (with_reducible rfl) | (simp [↓apply_ite State.fixed]; done) | split | (simp [↓apply_ite State.fixed, *]; done) | (grind [= State.contend_fixed, = State.dropSpare_fixed, = State.emit_fixed, → State.freeCellChain_fixed', → State.freeMsg_fixed', → State.freeUnit_fixed']) | (simp [↓apply_ite State.fixed]))))
  | (repeat' split at h
     all_goals (simp only [Host.Outcome.next.injEq] at h; subst h; repeat' (first | (with_reducible rfl) | (simp [↓apply_ite State.fixed]; done) | split | (simp [↓apply_ite State.fixed, *]; done) | (grind [= State.contend_fixed, = State.dropSpare_fixed, = State.emit_fixed, → State.freeCellChain_fixed', → State.freeMsg_fixed', → State.freeUnit_fixed']) | (simp [↓apply_ite State.fixed]))))

theorem execPoolShare_fixed (die : Fab) (owner pool index k : Nat) (contended : Bool) (s : State) : ∀ t, execPoolShare die owner pool index k contended s = .next t → t.fixed = s.fixed := by rintro _ ⟨⟩; split <;> simp

theorem execPoolRelease_fixed (die : Fab) (owner pool index : Nat) (contended : Bool) (s : State) : ∀ t, execPoolRelease die owner pool index contended s = .next t → t.fixed = s.fixed := by rintro _ ⟨⟩; split <;> simp

theorem execFreeListBuilt_fixed (die : Fab) (s : State) : ∀ t, execFreeListBuilt die s = .next t → t.fixed = s.fixed := by rintro _ ⟨⟩; simp

theorem execPoolLimitWrite_fixed (r : Req) (s : State) : ∀ t, execPoolLimitWrite r s = .next t → t.fixed = s.fixed := by rintro _ ⟨⟩; exact mailbox_fixed _ _ _ poolLimitWrite_fixed

theorem execPoolLevelWrite_fixed (r : Req) (s : State) : ∀ t, execPoolLevelWrite r s = .next t → t.fixed = s.fixed := by rintro _ ⟨⟩; exact mailbox_fixed _ _ _ poolLevelWrite_fixed

theorem execPoolConfigRead_fixed (r : Req) (s : State) : ∀ t, execPoolConfigRead r s = .next t → t.fixed = s.fixed := by rintro _ ⟨⟩; exact mailbox_fixed _ _ _ poolConfigRead_fixed

theorem execPoolStatsRead_fixed (r : Req) (s : State) : ∀ t, execPoolStatsRead r s = .next t → t.fixed = s.fixed := by rintro _ ⟨⟩; exact mailbox_fixed _ _ _ poolStatsRead_fixed

theorem execPoolErrlogRead_fixed (r : Req) (s : State) : ∀ t, execPoolErrlogRead r s = .next t → t.fixed = s.fixed := by rintro _ ⟨⟩; exact mailbox_fixed _ _ _ poolErrlogRead_fixed

theorem execPoolCellRead_fixed (r : Req) (s : State) : ∀ t, execPoolCellRead r s = .next t → t.fixed = s.fixed := by rintro _ ⟨⟩; exact mailbox_fixed _ _ _ poolCellRead_fixed

/-! ### PathCmds -/

@[simp ↓] theorem pathOutputWrite_fixed (r : Req) (s : State) : (pathOutputWrite.run r s).st.fixed = s.fixed := by simp [pathOutputWrite]

@[simp ↓] theorem pathOutputRead_fixed (r : Req) (s : State) : (pathOutputRead.run r s).st.fixed = s.fixed := (rfl)

@[simp ↓] theorem pathMirrorWrite_fixed (r : Req) (s : State) : (pathMirrorWrite.run r s).st.fixed = s.fixed := by simp [pathMirrorWrite]; split <;> simp

@[simp ↓] theorem pathMirrorRead_fixed (r : Req) (s : State) : (pathMirrorRead.run r s).st.fixed = s.fixed := (rfl)

theorem execPathOutputWrite_fixed (r : Req) (s : State) : ∀ t, execPathOutputWrite r s = .next t → t.fixed = s.fixed := by rintro _ ⟨⟩; exact mailbox_fixed _ _ _ pathOutputWrite_fixed

theorem execPathOutputRead_fixed (r : Req) (s : State) : ∀ t, execPathOutputRead r s = .next t → t.fixed = s.fixed := by rintro _ ⟨⟩; exact mailbox_fixed _ _ _ pathOutputRead_fixed

theorem execPathMirrorWrite_fixed (r : Req) (s : State) : ∀ t, execPathMirrorWrite r s = .next t → t.fixed = s.fixed := by rintro _ ⟨⟩; exact mailbox_fixed _ _ _ pathMirrorWrite_fixed

theorem execPathMirrorRead_fixed (r : Req) (s : State) : ∀ t, execPathMirrorRead r s = .next t → t.fixed = s.fixed := by rintro _ ⟨⟩; exact mailbox_fixed _ _ _ pathMirrorRead_fixed

/-! ### Store -/

@[simp ↓] theorem State.modOut_fixed (s : State) (d : Fab) (o : Nat) (f : OutCfg → OutCfg) : (State.modOut s d o f).fixed = s.fixed := by simp [State.modOut]

@[simp ↓] theorem State.outTick_fixed (s : State) (d : Fab) (o : Nat) (get : OutCfg → Nat) (set : OutCfg → Nat → OutCfg) : (State.outTick s d o get set).fixed = s.fixed := by simp [State.outTick]

@[simp ↓] theorem State.modOutPool_fixed (s : State) (d : Fab) (o : Nat) (f : OutPool → OutPool) : (State.modOutPool s d o f).fixed = s.fixed := by simp [State.modOutPool]

@[simp ↓] theorem State.heldUp_fixed (s : State) (d : Fab) (o n : Nat) : (State.heldUp s d o n).fixed = s.fixed := by simp [State.heldUp]

@[simp ↓] theorem State.mirrorLost_fixed (s : State) (c : Copy) : (State.mirrorLost s c).fixed = s.fixed := by unfold State.mirrorLost; split <;> simp

@[simp ↓] theorem State.flushDrop_fixed (s : State) (d : Fab) (o : Nat) : (State.flushDrop s d o).fixed = s.fixed := by simp [State.flushDrop]

@[simp ↓] theorem State.ctBad_fixed (s : State) (d : Fab) (o cause : Nat) : (State.ctBad s d o cause).fixed = s.fixed := by simp [State.ctBad]

@[simp ↓] theorem State.tidy_fixed (s : State) (d : Fab) (fid : Nat) : (State.tidy s d fid).fixed = s.fixed := by
  unfold State.tidy
  repeat' (first | (with_reducible rfl) | (simp [↓apply_ite State.fixed]; done) | split | (simp [↓apply_ite State.fixed, *]; done) | (grind [= State.forget_fixed]) | (simp [↓apply_ite State.fixed]))

@[simp ↓] theorem State.chainLast_fixed (s : State) (d : Fab) (fid h x : Nat) : (State.chainLast s d fid h x).fixed = s.fixed := by simp [State.chainLast]

@[simp ↓] theorem State.releaseCopy_fixed (s : State) (d : Fab) (fid : Nat) (c : Copy) : (State.releaseCopy s d fid c).fixed = s.fixed := by
  unfold State.releaseCopy
  repeat' (first | (with_reducible rfl) | (simp [↓apply_ite State.fixed]; done) | split | (simp [↓apply_ite State.fixed, *]; done) | (grind [= State.chainLast_fixed, → State.freeCellChain_fixed', = State.freeUnits_fixed, = State.modFrame_fixed, = State.modOutPool_fixed, → State.releaseCell_fixed', = State.tidy_fixed]) | (simp [↓apply_ite State.fixed]))

@[simp ↓] theorem State.unchain_fixed (s : State) (d : Fab) (fid : Nat) : (State.unchain s d fid).fixed = s.fixed := by simp [State.unchain]

@[simp ↓] theorem State.settleWriter_fixed (s : State) (d : Fab) (fid : Nat) : (State.settleWriter s d fid).fixed = s.fixed := by
  unfold State.settleWriter
  repeat' (first | (with_reducible rfl) | (simp [↓apply_ite State.fixed]; done) | split | (simp [↓apply_ite State.fixed, *]; done) | (grind [→ State.freeCellChain_fixed', = State.modFrame_fixed, → State.releaseCell_fixed', = State.tidy_fixed, = State.unchain_fixed]) | (simp [↓apply_ite State.fixed]))

@[simp ↓] theorem State.frerJudge_fixed (s : State) (d : Fab) (n : Nat) (ds : Desc) : (State.frerJudge s d n ds).1.fixed = s.fixed := by
  unfold State.frerJudge
  repeat' (first | (with_reducible rfl) | (simp [↓apply_ite State.fixed]; done) | split | (simp [↓apply_ite State.fixed, *]; done) | (grind [= State.misconfig_fixed, = State.modFrer_fixed, = State.raiseDie_fixed]) | (simp [↓apply_ite State.fixed]))

theorem State.frerJudge_fixed' (s : State) (d : Fab) (n : Nat) (ds : Desc) (t) (y) (h : State.frerJudge s d n ds = (t, y)) : t.fixed = s.fixed := by
  have := State.frerJudge_fixed s d n ds
  rw [h] at this; exact this

@[simp ↓] theorem State.residence_fixed (s : State) (d : Fab) (o : Nat) (f : FrameSt) (ct : Bool) : (State.residence s d o f ct).fixed = s.fixed := by simp [State.residence, ↓apply_ite State.fixed]

@[simp ↓] theorem State.countRefuse_fixed (s : State) (d : Fab) (c : Copy) (w : Refuse) : (State.countRefuse s d c w).fixed = s.fixed := by unfold State.countRefuse; split <;> simp

@[simp ↓] theorem State.markHwm_fixed (s : State) (d : Fab) (o k : Nat) : (State.markHwm s d o k).fixed = s.fixed := by simp [State.markHwm]

@[simp ↓] theorem State.admitOne_fixed (s : State) (d : Fab) (fid : Nat) (f : FrameSt) (c : Copy) : (State.admitOne s d fid f c).1.fixed = s.fixed := by
  unfold State.admitOne
  repeat' (first | (with_reducible rfl) | (simp [↓apply_ite State.fixed]; done) | split | (simp [↓apply_ite State.fixed, *]; done) | (grind [= State.countRefuse_fixed, = State.heldUp_fixed, = State.modFab_fixed, = State.modFrame_fixed, = State.modPort_fixed, = State.markHwm_fixed, = State.releaseCopy_fixed, = State.residence_fixed]) | (simp [↓apply_ite State.fixed]))

theorem State.admitOne_fixed' (s : State) (d : Fab) (fid : Nat) (f : FrameSt) (c : Copy) (t) (y) (h : State.admitOne s d fid f c = (t, y)) : t.fixed = s.fixed := by
  have := State.admitOne_fixed s d fid f c
  rw [h] at this; exact this

@[simp ↓] theorem State.admitAll_fixed (s : State) (d : Fab) (fid : Nat) (ready : Copy → Bool) (x0 : Nat) (x1 : List Copy) : (State.admitAll s d fid ready x0 x1).1.fixed = s.fixed := by
  fun_induction State.admitAll s d fid ready x0 x1
  all_goals simp_all +zetaDelta [↓apply_ite State.fixed]

theorem State.admitAll_fixed' (s : State) (d : Fab) (fid : Nat) (ready : Copy → Bool) (x0 : Nat) (x1 : List Copy) (t) (y) (h : State.admitAll s d fid ready x0 x1 = (t, y)) : t.fixed = s.fixed := by
  have := State.admitAll_fixed s d fid ready x0 x1
  rw [h] at this; exact this

@[simp ↓] theorem State.recover_fixed (s : State) (d : Fab) (fid : Nat) : (State.recover s d fid).fixed = s.fixed := by
  unfold State.recover
  repeat' (first | (with_reducible rfl) | (simp [↓apply_ite State.fixed]; done) | split | (simp [↓apply_ite State.fixed, *]; done) | (grind [→ State.frerJudge_fixed', = State.modFrame_fixed, = State.releaseCopy_fixed]) | (simp [↓apply_ite State.fixed]))

@[simp ↓] theorem State.enqueue_fixed (s : State) (d : Fab) (fid : Nat) (atEnd : Bool) : (State.enqueue s d fid atEnd).fixed = s.fixed := by
  unfold State.enqueue
  repeat' (first | (with_reducible rfl) | (simp [↓apply_ite State.fixed]; done) | split | (simp [↓apply_ite State.fixed, *]; done) | (grind [→ State.admitAll_fixed', = State.modFrame_fixed, = State.recover_fixed, = State.settleWriter_fixed, → State.shareCell_fixed']) | (simp [↓apply_ite State.fixed]))

@[simp ↓] theorem State.writerCell_fixed (s : State) (d : Fab) (i : Nat) : (State.writerCell s d i).1.fixed = s.fixed := by
  unfold State.writerCell
  repeat' (first | (with_reducible rfl) | (simp [↓apply_ite State.fixed]; done) | split | (simp [↓apply_ite State.fixed, *]; done) | (grind [= State.addSpare_fixed, → State.grantCell_fixed', = State.modPool_fixed]) | (simp [↓apply_ite State.fixed]))

theorem State.writerCell_fixed' (s : State) (d : Fab) (i : Nat) (t) (y) (h : State.writerCell s d i = (t, y)) : t.fixed = s.fixed := by
  have := State.writerCell_fixed s d i
  rw [h] at this; exact this

@[simp ↓] theorem State.noCell_fixed (s : State) (d : Fab) (fid : Nat) (c : Copy) : (State.noCell s d fid c).fixed = s.fixed := by simp [State.noCell, ↓apply_ite State.fixed]

@[simp ↓] theorem State.storeCommon_fixed (s : State) (d : Fab) (fid : Nat) (k : Nat) (ws : List Word) : (State.storeCommon s d fid k ws).fixed = s.fixed := by
  unfold State.storeCommon
  repeat' (first | (with_reducible rfl) | (simp [↓apply_ite State.fixed]; done) | split | (simp [↓apply_ite State.fixed, *]; done) | (grind [= State.heldUp_fixed, = State.modFrame_fixed, = State.modPool_fixed, = State.noCell_fixed, → State.writerCell_fixed']) | (simp [↓apply_ite State.fixed]))

@[simp ↓] theorem State.storeSpill_fixed (s : State) (d : Fab) (fid : Nat) (c : Copy) (ws : List Word) : (State.storeSpill s d fid c ws).fixed = s.fixed := by
  unfold State.storeSpill
  repeat' (first | (with_reducible rfl) | (simp [↓apply_ite State.fixed]; done) | split | (simp [↓apply_ite State.fixed, *]; done) | (grind [→ State.grantCell_fixed', = State.heldUp_fixed, = State.modFrame_fixed, = State.modPool_fixed, = State.noCell_fixed]) | (simp [↓apply_ite State.fixed]))

@[simp ↓] theorem State.storePocket_fixed (s : State) (d : Fab) (fid k : Nat) (ws : List Word) (c : Copy) : (State.storePocket s d fid k ws c).fixed = s.fixed := by
  unfold State.storePocket
  repeat' (first | (with_reducible rfl) | (simp [↓apply_ite State.fixed]; done) | split | (simp [↓apply_ite State.fixed, *]; done) | (grind [= State.freeUnits_fixed, = State.grantUnits_fixed, = State.modFrame_fixed, = State.modOutPool_fixed, = State.modPool_fixed, = State.storeSpill_fixed]) | (simp [↓apply_ite State.fixed]))

@[simp ↓] theorem State.prepare_fixed (s : State) (d : Fab) (fid : Nat) (f : FrameSt) : (State.prepare s d fid f).fixed = s.fixed := by simp [State.prepare]

@[simp ↓] theorem State.markGrowth_fixed (s : State) (d : Fab) (fid : Nat) : (State.markGrowth s d fid).fixed = s.fixed := by
  unfold State.markGrowth
  split
  · rfl
  · simp

@[simp ↓] theorem State.storeWord_fixed (s : State) (d : Fab) (fid : Nat) (data : List Byte) (last early : Bool) : (State.storeWord s d fid data last early).fixed = s.fixed := by
  unfold State.storeWord
  repeat' (first | (with_reducible rfl) | (simp [↓apply_ite State.fixed]; done) | split | (simp [↓apply_ite State.fixed, *]; done) | (grind [= State.enqueue_fixed, = State.markGrowth_fixed, = State.modFrame_fixed, = State.prepare_fixed, = State.storeCommon_fixed, = State.storePocket_fixed]) | (simp [↓apply_ite State.fixed]))

@[simp ↓] theorem State.giveBackAll_fixed (s : State) (d : Fab) (f : FrameSt) (whole : Bool) : (State.giveBackAll s d f whole).fixed = s.fixed := by simp [State.giveBackAll]

@[simp ↓] theorem State.endBad_fixed (s : State) (d : Fab) (fid : Nat) (cause : Nat) : (State.endBad s d fid cause).fixed = s.fixed := by simp [State.endBad, ↓apply_ite State.fixed]

@[simp ↓] theorem State.dropNamed_fixed (s : State) (d : Fab) (fid : Nat) : (State.dropNamed s d fid).fixed = s.fixed := by simp [State.dropNamed]

@[simp ↓] theorem State.sduLate_fixed (s : State) (d : Fab) (fid : Nat) (f : FrameSt) : (State.sduLate s d fid f).fixed = s.fixed := by
  unfold State.sduLate
  repeat' (first | (with_reducible rfl) | (simp [↓apply_ite State.fixed]; done) | split | (simp [↓apply_ite State.fixed, *]; done) | (grind [= State.dropNamed_fixed, = State.filterBlock_fixed, = State.filterTick_fixed]) | (simp [↓apply_ite State.fixed]))

@[simp ↓] theorem State.countMac_fixed (s : State) (f : FrameSt) (cause : Nat) : (State.countMac s f cause).fixed = s.fixed := by simp [State.countMac, ↓apply_ite State.fixed]

@[simp ↓] theorem State.endFrame_fixed (s : State) (d : Fab) (fid : Nat) (f : FrameSt) : (State.endFrame s d fid f).fixed = s.fixed := by
  unfold State.endFrame
  repeat' (first | (with_reducible rfl) | (simp [↓apply_ite State.fixed]; done) | split | (simp [↓apply_ite State.fixed, *]; done) | (grind [= State.countMac_fixed, = State.dropNamed_fixed, = State.endBad_fixed, = State.enqueue_fixed, = State.giveBackAll_fixed, = State.modFrame_fixed, = State.modParse_fixed, = State.raiseDie_fixed, = State.sduLate_fixed, = State.settleWriter_fixed]) | (simp [↓apply_ite State.fixed]))

theorem execFabricWordStore_fixed (die : Fab) (fid : Nat) (s : State) : ∀ t, execFabricWordStore die fid s = .next t → t.fixed = s.fixed := by
  intro t h
  unfold execFabricWordStore at h
  first
  | (simp only [Host.Outcome.next.injEq] at h; subst h; repeat' (first | (with_reducible rfl) | (simp [↓apply_ite State.fixed]; done) | split | (simp [↓apply_ite State.fixed, *]; done) | (grind [= State.advQ_fixed, = State.storeWord_fixed]) | (simp [↓apply_ite State.fixed])))
  | (split at h <;> (simp only [Host.Outcome.next.injEq] at h; subst h; repeat' (first | (with_reducible rfl) | (simp [↓apply_ite State.fixed]; done) | split | (simp [↓apply_ite State.fixed, *]; done) | (grind [= State.advQ_fixed, = State.storeWord_fixed]) | (simp [↓apply_ite State.fixed]))))
  | (repeat' split at h
     all_goals (simp only [Host.Outcome.next.injEq] at h; subst h; repeat' (first | (with_reducible rfl) | (simp [↓apply_ite State.fixed]; done) | split | (simp [↓apply_ite State.fixed, *]; done) | (grind [= State.advQ_fixed, = State.storeWord_fixed]) | (simp [↓apply_ite State.fixed]))))

theorem execFrameEndStored_fixed (die : Fab) (fid dt : Nat) (s : State) : ∀ t, execFrameEndStored die fid dt s = .next t → t.fixed = s.fixed := by
  intro t h
  unfold execFrameEndStored at h
  first
  | (simp only [Host.Outcome.next.injEq] at h; subst h; repeat' (first | (with_reducible rfl) | (simp [↓apply_ite State.fixed]; done) | split | (simp [↓apply_ite State.fixed, *]; done) | (grind [= State.adv_fixed, = State.advQ_fixed, = State.endFrame_fixed]) | (simp [↓apply_ite State.fixed])))
  | (split at h <;> (simp only [Host.Outcome.next.injEq] at h; subst h; repeat' (first | (with_reducible rfl) | (simp [↓apply_ite State.fixed]; done) | split | (simp [↓apply_ite State.fixed, *]; done) | (grind [= State.adv_fixed, = State.advQ_fixed, = State.endFrame_fixed]) | (simp [↓apply_ite State.fixed]))))
  | (repeat' split at h
     all_goals (simp only [Host.Outcome.next.injEq] at h; subst h; repeat' (first | (with_reducible rfl) | (simp [↓apply_ite State.fixed]; done) | split | (simp [↓apply_ite State.fixed, *]; done) | (grind [= State.adv_fixed, = State.advQ_fixed, = State.endFrame_fixed]) | (simp [↓apply_ite State.fixed]))))

/-! ### Seam -/

@[simp ↓] theorem State.countTx_fixed (s : State) (d : Fab) (o q n : Nat) : (State.countTx s d o q n).fixed = s.fixed := by simp [State.countTx]

@[simp ↓] theorem State.seamEnd_fixed (s : State) (d : Fab) (fid : Nat) (bad : Option Nat) : (State.seamEnd s d fid bad).fixed = s.fixed := by unfold State.seamEnd; split <;> simp

@[simp ↓] theorem State.seamError_fixed (s : State) (d : Fab) : (State.seamError s d).fixed = s.fixed := by simp [State.seamError]

@[simp ↓] theorem State.seamCut_fixed (s : State) (d : Fab) (link : Nat) : (State.seamCut s d link).fixed = s.fixed := by simp [State.seamCut]

@[simp ↓] theorem State.flushOutput_fixed (s : State) (d : Fab) (o : Nat) : (State.flushOutput s d o).fixed = s.fixed := by simp [State.flushOutput]

theorem execSeamFrameStart_fixed (die : Fab) (link : Nat) (s : State) : ∀ t, execSeamFrameStart die link s = .next t → t.fixed = s.fixed := by
  intro t h
  unfold execSeamFrameStart at h
  first
  | (simp only [Host.Outcome.next.injEq] at h; subst h; repeat' (first | (with_reducible rfl) | (simp [↓apply_ite State.fixed]; done) | split | (simp [↓apply_ite State.fixed, *]; done) | (grind [= State.modFrame_fixed]) | (simp [↓apply_ite State.fixed])))
  | (split at h <;> (simp only [Host.Outcome.next.injEq] at h; subst h; repeat' (first | (with_reducible rfl) | (simp [↓apply_ite State.fixed]; done) | split | (simp [↓apply_ite State.fixed, *]; done) | (grind [= State.modFrame_fixed]) | (simp [↓apply_ite State.fixed]))))
  | (repeat' split at h
     all_goals (simp only [Host.Outcome.next.injEq] at h; subst h; repeat' (first | (with_reducible rfl) | (simp [↓apply_ite State.fixed]; done) | split | (simp [↓apply_ite State.fixed, *]; done) | (grind [= State.modFrame_fixed]) | (simp [↓apply_ite State.fixed]))))

theorem execSeamWordSend_fixed (die : Fab) (link : Nat) (s : State) : ∀ t, execSeamWordSend die link s = .next t → t.fixed = s.fixed := by
  intro t h
  unfold execSeamWordSend at h
  first
  | (simp only [Host.Outcome.next.injEq] at h; subst h; repeat' (first | (with_reducible rfl) | (simp [↓apply_ite State.fixed]; done) | split | (simp [↓apply_ite State.fixed, *]; done) | (grind [= State.countTx_fixed, = State.modFab_fixed, = State.modFrame_fixed, = State.releaseCopy_fixed, = CmdSpec.take_fixed]) | (simp [↓apply_ite State.fixed])))
  | (split at h <;> (simp only [Host.Outcome.next.injEq] at h; subst h; repeat' (first | (with_reducible rfl) | (simp [↓apply_ite State.fixed]; done) | split | (simp [↓apply_ite State.fixed, *]; done) | (grind [= State.countTx_fixed, = State.modFab_fixed, = State.modFrame_fixed, = State.releaseCopy_fixed, = CmdSpec.take_fixed]) | (simp [↓apply_ite State.fixed]))))
  | (repeat' split at h
     all_goals (simp only [Host.Outcome.next.injEq] at h; subst h; repeat' (first | (with_reducible rfl) | (simp [↓apply_ite State.fixed]; done) | split | (simp [↓apply_ite State.fixed, *]; done) | (grind [= State.countTx_fixed, = State.modFab_fixed, = State.modFrame_fixed, = State.releaseCopy_fixed, = CmdSpec.take_fixed]) | (simp [↓apply_ite State.fixed]))))

theorem execSeamWordRx_fixed (die : Fab) (link : Nat) (s : State) : ∀ t, execSeamWordRx die link s = .next t → t.fixed = s.fixed := by
  intro t h
  unfold execSeamWordRx at h
  first
  | (simp only [Host.Outcome.next.injEq] at h; subst h; repeat' (first | (with_reducible rfl) | (simp [↓apply_ite State.fixed]; done) | split | (simp [↓apply_ite State.fixed, *]; done) | (grind [→ State.addFrame_fixed', = State.modFab_fixed, = State.seamEnd_fixed, = State.seamError_fixed, = State.storeWord_fixed]) | (simp [↓apply_ite State.fixed])))
  | (split at h <;> (simp only [Host.Outcome.next.injEq] at h; subst h; repeat' (first | (with_reducible rfl) | (simp [↓apply_ite State.fixed]; done) | split | (simp [↓apply_ite State.fixed, *]; done) | (grind [→ State.addFrame_fixed', = State.modFab_fixed, = State.seamEnd_fixed, = State.seamError_fixed, = State.storeWord_fixed]) | (simp [↓apply_ite State.fixed]))))
  | (repeat' split at h
     all_goals (simp only [Host.Outcome.next.injEq] at h; subst h; repeat' (first | (with_reducible rfl) | (simp [↓apply_ite State.fixed]; done) | split | (simp [↓apply_ite State.fixed, *]; done) | (grind [→ State.addFrame_fixed', = State.modFab_fixed, = State.seamEnd_fixed, = State.seamError_fixed, = State.storeWord_fixed]) | (simp [↓apply_ite State.fixed]))))

theorem execSeamLinkLost_fixed (link : Nat) (west east : Bool) (s : State) : ∀ t, execSeamLinkLost link west east s = .next t → t.fixed = s.fixed := by
  intro t h
  unfold execSeamLinkLost at h
  first
  | (simp only [Host.Outcome.next.injEq] at h; subst h; repeat' (first | (with_reducible rfl) | (simp [↓apply_ite State.fixed]; done) | split | (simp [↓apply_ite State.fixed, *]; done) | (grind [= State.flushOutput_fixed, = State.logFault_fixed, = State.modSys_fixed, = State.seamCut_fixed]) | (simp [↓apply_ite State.fixed])))
  | (split at h <;> (simp only [Host.Outcome.next.injEq] at h; subst h; repeat' (first | (with_reducible rfl) | (simp [↓apply_ite State.fixed]; done) | split | (simp [↓apply_ite State.fixed, *]; done) | (grind [= State.flushOutput_fixed, = State.logFault_fixed, = State.modSys_fixed, = State.seamCut_fixed]) | (simp [↓apply_ite State.fixed]))))
  | (repeat' split at h
     all_goals (simp only [Host.Outcome.next.injEq] at h; subst h; repeat' (first | (with_reducible rfl) | (simp [↓apply_ite State.fixed]; done) | split | (simp [↓apply_ite State.fixed, *]; done) | (grind [= State.flushOutput_fixed, = State.logFault_fixed, = State.modSys_fixed, = State.seamCut_fixed]) | (simp [↓apply_ite State.fixed]))))

/-! ### Own -/

@[simp ↓] theorem State.inject_fixed (s : State) (p q : Nat) (m : OwnMsg) (bytes : List Byte) : (State.inject s p q m bytes).fixed = s.fixed := by simp [State.inject, ↓apply_ite State.fixed]

@[simp ↓] theorem State.modGptp_fixed (s : State) (p : Nat) (f : PtpPort → PtpPort) : (State.modGptp s p f).fixed = s.fixed := (rfl)

@[simp ↓] theorem State.sendPtp_fixed (s : State) (p : Nat) (m : OwnMsg) (bytes : List Byte) : (State.sendPtp s p m bytes).fixed = s.fixed := by simp [State.sendPtp]

@[simp ↓] theorem State.ownSent_fixed (s : State) (p : Nat) (f : FrameSt) (c : Copy) : (State.ownSent s p f c).fixed = s.fixed := by
  unfold State.ownSent
  repeat' (first | (with_reducible rfl) | (simp [↓apply_ite State.fixed]; done) | split | (simp [↓apply_ite State.fixed, *]; done) | (grind [= State.modGptp_fixed, = State.raiseDie_fixed, = State.sendPtp_fixed]) | (simp [↓apply_ite State.fixed]))

/-! ### Egress -/

@[simp ↓] theorem State.modTx_fixed (s : State) (d : Fab) (o : Nat) (f : TxSt → TxSt) : (State.modTx s d o f).fixed = s.fixed := by simp [State.modTx]

@[simp ↓] theorem State.settle_fixed (s : State) (d : Fab) (o : Nat) (whole : Bool) : (State.settle s d o whole).fixed = s.fixed := by simp [State.settle, ↓apply_ite State.fixed]

@[simp ↓] theorem State.startTx_fixed (s : State) (d : Fab) (o : Nat) (k : Nat × Nat) (f : FrameSt) (c : Copy) (b : Nat) (wait : Bool) : (State.startTx s d o k f c b wait).fixed = s.fixed := by simp [State.startTx]

@[simp ↓] theorem State.beforeTx_fixed (s : State) (d : Fab) (o : Nat) (fid : Nat) (f : FrameSt) (c : Copy) : (State.beforeTx s d o fid f c).1.fixed = s.fixed := by
  unfold State.beforeTx
  repeat' (first | (with_reducible rfl) | (simp [↓apply_ite State.fixed]; done) | split | (simp [↓apply_ite State.fixed, *]; done) | (grind [= State.ctBad_fixed, = State.modFrame_fixed, = State.modPort_fixed, = State.raiseDie_fixed, = State.releaseCopy_fixed, = State.vlanTick_fixed]) | (simp [↓apply_ite State.fixed]))

theorem State.beforeTx_fixed' (s : State) (d : Fab) (o : Nat) (fid : Nat) (f : FrameSt) (c : Copy) (t) (y) (h : State.beforeTx s d o fid f c = (t, y)) : t.fixed = s.fixed := by
  have := State.beforeTx_fixed s d o fid f c
  rw [h] at this; exact this

@[simp ↓] theorem State.select_fixed (s0 : State) (d : Fab) (o lat : Nat) : (State.select s0 d o lat).fixed = s0.fixed := by
  unfold State.select
  repeat' (first | (with_reducible rfl) | (simp [↓apply_ite State.fixed]; done) | split | (simp [↓apply_ite State.fixed, *]; done) | (grind [→ State.beforeTx_fixed', = State.modFrame_fixed, = State.modTx_fixed, = State.settle_fixed, = State.startTx_fixed]) | (simp [↓apply_ite State.fixed]))

@[simp ↓] theorem State.sampleFrame_fixed (s : State) (d : Fab) (i delay : Nat) : (State.sampleFrame s d i delay).fixed = s.fixed := by simp [State.sampleFrame, ↓apply_ite State.fixed]

@[simp ↓] theorem State.countDelay_fixed (s : State) (d : Fab) (o : Nat) (f : FrameSt) (c : Copy) : (State.countDelay s d o f c).fixed = s.fixed := by simp [State.countDelay, ↓apply_ite State.fixed]

@[simp ↓] theorem State.handOut_fixed (s : State) (d : Fab) (o : Nat) (f : FrameSt) (c : Copy) : (State.handOut s d o f c).fixed = s.fixed := by
  unfold State.handOut
  repeat' (first | (with_reducible rfl) | (simp [↓apply_ite State.fixed]; done) | split | (simp [↓apply_ite State.fixed, *]; done) | (grind [= State.emit_fixed, = State.modGw_fixed, = State.ownSent_fixed]) | (simp [↓apply_ite State.fixed]))

@[simp ↓] theorem State.finishTx_fixed (s : State) (d : Fab) (o : Nat) (k : Nat × Nat) (f : FrameSt) (c : Copy) : (State.finishTx s d o k f c).fixed = s.fixed := by
  unfold State.finishTx
  repeat' (first | (with_reducible rfl) | (simp [↓apply_ite State.fixed]; done) | split | (simp [↓apply_ite State.fixed, *]; done) | (grind [= State.countDelay_fixed, = State.countTx_fixed, = State.handOut_fixed, = State.modMm_fixed, = State.modQctr_fixed, = State.modTx_fixed, = State.modVlan_fixed, = State.raiseDie_fixed, = State.releaseCopy_fixed, = State.startTx_fixed]) | (simp [↓apply_ite State.fixed]))

@[simp ↓] theorem State.refillPort_fixed (s : State) (p : Nat) : (State.refillPort s p).fixed = s.fixed := by simp [State.refillPort, ↓apply_ite State.fixed]

theorem execEgressSelect_fixed (die : Fab) (out lat dt : Nat) (s : State) : ∀ t, execEgressSelect die out lat dt s = .next t → t.fixed = s.fixed := by rintro _ ⟨⟩; simp

@[simp ↓] theorem State.trimTx_fixed (s : State) (d : Fab) (o : Nat) (f : FrameSt) (c : Copy) : (State.trimTx s d o f c).fixed = s.fixed := by
  simp [State.trimTx, ↓apply_ite State.fixed]

theorem execEgressFrameEnd_fixed (die : Fab) (out : Nat) (s : State) : ∀ t, execEgressFrameEnd die out s = .next t → t.fixed = s.fixed := by
  intro t h
  unfold execEgressFrameEnd at h
  first
  | (simp only [Host.Outcome.next.injEq] at h; subst h; repeat' (first | (with_reducible rfl) | (simp [↓apply_ite State.fixed]; done) | split | (simp [↓apply_ite State.fixed, *]; done) | (grind [= State.advQ_fixed, = State.finishTx_fixed, = State.modTx_fixed, = State.settle_fixed]) | (simp [↓apply_ite State.fixed])))
  | (split at h <;> (simp only [Host.Outcome.next.injEq] at h; subst h; repeat' (first | (with_reducible rfl) | (simp [↓apply_ite State.fixed]; done) | split | (simp [↓apply_ite State.fixed, *]; done) | (grind [= State.advQ_fixed, = State.finishTx_fixed, = State.modTx_fixed, = State.settle_fixed]) | (simp [↓apply_ite State.fixed]))))
  | (repeat' split at h
     all_goals (simp only [Host.Outcome.next.injEq] at h; subst h; repeat' (first | (with_reducible rfl) | (simp [↓apply_ite State.fixed]; done) | split | (simp [↓apply_ite State.fixed, *]; done) | (grind [= State.advQ_fixed, = State.finishTx_fixed, = State.modTx_fixed, = State.settle_fixed]) | (simp [↓apply_ite State.fixed]))))

theorem execStagingUnderrun_fixed (die : Fab) (out : Nat) (s : State) : ∀ t, execStagingUnderrun die out s = .next t → t.fixed = s.fixed := by
  intro t h
  unfold execStagingUnderrun at h
  first
  | (simp only [Host.Outcome.next.injEq] at h; subst h; repeat' (first | (with_reducible rfl) | (simp [↓apply_ite State.fixed]; done) | split | (simp [↓apply_ite State.fixed, *]; done) | (grind [= State.advQ_fixed, = State.ctBad_fixed, = State.mirrorLost_fixed, = State.modFrame_fixed, = State.outTick_fixed, = State.releaseCopy_fixed]) | (simp [↓apply_ite State.fixed])))
  | (split at h <;> (simp only [Host.Outcome.next.injEq] at h; subst h; repeat' (first | (with_reducible rfl) | (simp [↓apply_ite State.fixed]; done) | split | (simp [↓apply_ite State.fixed, *]; done) | (grind [= State.advQ_fixed, = State.ctBad_fixed, = State.mirrorLost_fixed, = State.modFrame_fixed, = State.outTick_fixed, = State.releaseCopy_fixed]) | (simp [↓apply_ite State.fixed]))))
  | (repeat' split at h
     all_goals (simp only [Host.Outcome.next.injEq] at h; subst h; repeat' (first | (with_reducible rfl) | (simp [↓apply_ite State.fixed]; done) | split | (simp [↓apply_ite State.fixed, *]; done) | (grind [= State.advQ_fixed, = State.ctBad_fixed, = State.mirrorLost_fixed, = State.modFrame_fixed, = State.outTick_fixed, = State.releaseCopy_fixed]) | (simp [↓apply_ite State.fixed]))))

theorem execExpressPreempt_fixed (die : Fab) (out dt : Nat) (s0 : State) : ∀ t, execExpressPreempt die out dt s0 = .next t → t.fixed = s0.fixed := by
  intro t h
  unfold execExpressPreempt at h
  first
  | (simp only [Host.Outcome.next.injEq] at h; subst h; repeat' (first | (with_reducible rfl) | (simp [↓apply_ite State.fixed]; done) | split | (simp [↓apply_ite State.fixed, *]; done) | (grind [= State.adv_fixed, = State.advQ_fixed, = State.modFrame_fixed, = State.modMm_fixed, = State.modTx_fixed, = State.settle_fixed]) | (simp [↓apply_ite State.fixed])))
  | (split at h <;> (simp only [Host.Outcome.next.injEq] at h; subst h; repeat' (first | (with_reducible rfl) | (simp [↓apply_ite State.fixed]; done) | split | (simp [↓apply_ite State.fixed, *]; done) | (grind [= State.adv_fixed, = State.advQ_fixed, = State.modFrame_fixed, = State.modMm_fixed, = State.modTx_fixed, = State.settle_fixed]) | (simp [↓apply_ite State.fixed]))))
  | (repeat' split at h
     all_goals (simp only [Host.Outcome.next.injEq] at h; subst h; repeat' (first | (with_reducible rfl) | (simp [↓apply_ite State.fixed]; done) | split | (simp [↓apply_ite State.fixed, *]; done) | (grind [= State.adv_fixed, = State.advQ_fixed, = State.modFrame_fixed, = State.modMm_fixed, = State.modTx_fixed, = State.settle_fixed]) | (simp [↓apply_ite State.fixed]))))

theorem execCbsRefill_fixed (port : Nat) (s : State) : ∀ t, execCbsRefill port s = .next t → t.fixed = s.fixed := by rintro _ ⟨⟩; split <;> simp

/-! ### Activate -/

@[simp ↓] theorem State.learn_fixed (s : State) (d : Fab) (q : LearnReq) : (State.learn s d q).fixed = s.fixed := by
  unfold State.learn
  repeat' (first | (with_reducible rfl) | (simp [↓apply_ite State.fixed]; done) | split | (simp [↓apply_ite State.fixed, *]; done) | (grind [= State.dieTick_fixed, = State.modTab_fixed]) | (simp [↓apply_ite State.fixed]))

theorem execActivationArmDeadline_fixed (armed : Bool) (s : State) : ∀ t, execActivationArmDeadline armed s = .next t → t.fixed = s.fixed := by
  intro t h
  unfold execActivationArmDeadline at h
  first
  | (simp only [Host.Outcome.next.injEq] at h; subst h; repeat' (first | (with_reducible rfl) | (simp [↓apply_ite State.fixed]; done) | split | (simp [↓apply_ite State.fixed, *]; done) | (grind [= State.advQ_fixed, = State.finish_fixed, = State.modTab_fixed]) | (simp [↓apply_ite State.fixed])))
  | (split at h <;> (simp only [Host.Outcome.next.injEq] at h; subst h; repeat' (first | (with_reducible rfl) | (simp [↓apply_ite State.fixed]; done) | split | (simp [↓apply_ite State.fixed, *]; done) | (grind [= State.advQ_fixed, = State.finish_fixed, = State.modTab_fixed]) | (simp [↓apply_ite State.fixed]))))
  | (repeat' split at h
     all_goals (simp only [Host.Outcome.next.injEq] at h; subst h; repeat' (first | (with_reducible rfl) | (simp [↓apply_ite State.fixed]; done) | split | (simp [↓apply_ite State.fixed, *]; done) | (grind [= State.advQ_fixed, = State.finish_fixed, = State.modTab_fixed]) | (simp [↓apply_ite State.fixed]))))

theorem execActivationTimeReached_fixed (s : State) : ∀ t, execActivationTimeReached s = .next t → t.fixed = s.fixed := by
  intro t h
  unfold execActivationTimeReached at h
  first
  | (simp only [Host.Outcome.next.injEq] at h; subst h; repeat' (first | (with_reducible rfl) | (simp [↓apply_ite State.fixed]; done) | split | (simp [↓apply_ite State.fixed, *]; done) | (grind [= State.advQ_fixed, = State.finish_fixed, = State.modTab_fixed, = State.modZon_fixed]) | (simp [↓apply_ite State.fixed])))
  | (split at h <;> (simp only [Host.Outcome.next.injEq] at h; subst h; repeat' (first | (with_reducible rfl) | (simp [↓apply_ite State.fixed]; done) | split | (simp [↓apply_ite State.fixed, *]; done) | (grind [= State.advQ_fixed, = State.finish_fixed, = State.modTab_fixed, = State.modZon_fixed]) | (simp [↓apply_ite State.fixed]))))
  | (repeat' split at h
     all_goals (simp only [Host.Outcome.next.injEq] at h; subst h; repeat' (first | (with_reducible rfl) | (simp [↓apply_ite State.fixed]; done) | split | (simp [↓apply_ite State.fixed, *]; done) | (grind [= State.advQ_fixed, = State.finish_fixed, = State.modTab_fixed, = State.modZon_fixed]) | (simp [↓apply_ite State.fixed]))))

theorem execRuleBankRetired_fixed (s : State) : ∀ t, execRuleBankRetired s = .next t → t.fixed = s.fixed := by
  intro t h
  unfold execRuleBankRetired at h
  first
  | (simp only [Host.Outcome.next.injEq] at h; subst h; repeat' (first | (with_reducible rfl) | (simp [↓apply_ite State.fixed]; done) | split | (simp [↓apply_ite State.fixed, *]; done) | (grind [= State.finish_fixed, = State.modTab_fixed]) | (simp [↓apply_ite State.fixed])))
  | (split at h <;> (simp only [Host.Outcome.next.injEq] at h; subst h; repeat' (first | (with_reducible rfl) | (simp [↓apply_ite State.fixed]; done) | split | (simp [↓apply_ite State.fixed, *]; done) | (grind [= State.finish_fixed, = State.modTab_fixed]) | (simp [↓apply_ite State.fixed]))))
  | (repeat' split at h
     all_goals (simp only [Host.Outcome.next.injEq] at h; subst h; repeat' (first | (with_reducible rfl) | (simp [↓apply_ite State.fixed]; done) | split | (simp [↓apply_ite State.fixed, *]; done) | (grind [= State.finish_fixed, = State.modTab_fixed]) | (simp [↓apply_ite State.fixed]))))

theorem execFwdSweepEnd_fixed (s : State) : ∀ t, execFwdSweepEnd s = .next t → t.fixed = s.fixed := by
  intro t h
  unfold execFwdSweepEnd at h
  first
  | (simp only [Host.Outcome.next.injEq] at h; subst h; repeat' (first | (with_reducible rfl) | (simp [↓apply_ite State.fixed]; done) | split | (simp [↓apply_ite State.fixed, *]; done) | (grind [= State.finish_fixed, = State.modTab_fixed]) | (simp [↓apply_ite State.fixed])))
  | (split at h <;> (simp only [Host.Outcome.next.injEq] at h; subst h; repeat' (first | (with_reducible rfl) | (simp [↓apply_ite State.fixed]; done) | split | (simp [↓apply_ite State.fixed, *]; done) | (grind [= State.finish_fixed, = State.modTab_fixed]) | (simp [↓apply_ite State.fixed]))))
  | (repeat' split at h
     all_goals (simp only [Host.Outcome.next.injEq] at h; subst h; repeat' (first | (with_reducible rfl) | (simp [↓apply_ite State.fixed]; done) | split | (simp [↓apply_ite State.fixed, *]; done) | (grind [= State.finish_fixed, = State.modTab_fixed]) | (simp [↓apply_ite State.fixed]))))

theorem execLearnEntryWrite_fixed (s : State) : ∀ t, execLearnEntryWrite s = .next t → t.fixed = s.fixed := by
  intro t h
  unfold execLearnEntryWrite at h
  first
  | (simp only [Host.Outcome.next.injEq] at h; subst h; repeat' (first | (with_reducible rfl) | (simp [↓apply_ite State.fixed]; done) | split | (simp [↓apply_ite State.fixed, *]; done) | (grind [= State.learn_fixed, = State.modFab_fixed]) | (simp [↓apply_ite State.fixed])))
  | (split at h <;> (simp only [Host.Outcome.next.injEq] at h; subst h; repeat' (first | (with_reducible rfl) | (simp [↓apply_ite State.fixed]; done) | split | (simp [↓apply_ite State.fixed, *]; done) | (grind [= State.learn_fixed, = State.modFab_fixed]) | (simp [↓apply_ite State.fixed]))))
  | (repeat' split at h
     all_goals (simp only [Host.Outcome.next.injEq] at h; subst h; repeat' (first | (with_reducible rfl) | (simp [↓apply_ite State.fixed]; done) | split | (simp [↓apply_ite State.fixed, *]; done) | (grind [= State.learn_fixed, = State.modFab_fixed]) | (simp [↓apply_ite State.fixed]))))

theorem execFragTimeout_fixed (die : Fab) (index : Nat) (s : State) : ∀ t, execFragTimeout die index s = .next t → t.fixed = s.fixed := by rintro _ ⟨⟩; split <;> simp

theorem execFrerResetTimeout_fixed (die : Fab) (fn : Nat) (s : State) : ∀ t, execFrerResetTimeout die fn s = .next t → t.fixed = s.fixed := by rintro _ ⟨⟩; split <;> simp

theorem execRestoreHoldEnd_fixed (port : Nat) (s : State) : ∀ t, execRestoreHoldEnd port s = .next t → t.fixed = s.fixed := by rintro _ ⟨⟩; split <;> simp

theorem execCpuPortDelivery_fixed (die : Fab) (s : State) : ∀ t, execCpuPortDelivery die s = .next t → t.fixed = s.fixed := by
  intro t h
  unfold execCpuPortDelivery at h
  first
  | (simp only [Host.Outcome.next.injEq] at h; subst h; repeat' (first | (with_reducible rfl) | (simp [↓apply_ite State.fixed]; done) | split | (simp [↓apply_ite State.fixed, *]; done) | (grind [→ State.allocMsg_fixed', = State.countDelay_fixed, = State.countTx_fixed, = State.emit_fixed, = State.modPool_fixed, = State.modVlan_fixed, = State.releaseCopy_fixed, → State.shareMsg_fixed']) | (simp [↓apply_ite State.fixed])))
  | (split at h <;> (simp only [Host.Outcome.next.injEq] at h; subst h; repeat' (first | (with_reducible rfl) | (simp [↓apply_ite State.fixed]; done) | split | (simp [↓apply_ite State.fixed, *]; done) | (grind [→ State.allocMsg_fixed', = State.countDelay_fixed, = State.countTx_fixed, = State.emit_fixed, = State.modPool_fixed, = State.modVlan_fixed, = State.releaseCopy_fixed, → State.shareMsg_fixed']) | (simp [↓apply_ite State.fixed]))))
  | (repeat' split at h
     all_goals (simp only [Host.Outcome.next.injEq] at h; subst h; repeat' (first | (with_reducible rfl) | (simp [↓apply_ite State.fixed]; done) | split | (simp [↓apply_ite State.fixed, *]; done) | (grind [→ State.allocMsg_fixed', = State.countDelay_fixed, = State.countTx_fixed, = State.emit_fixed, = State.modPool_fixed, = State.modVlan_fixed, = State.releaseCopy_fixed, → State.shareMsg_fixed']) | (simp [↓apply_ite State.fixed]))))

end Machine
end Sys2Proof
end

