-- ==== Sys2Proof/Laws/FixedPorts.lean ====
section
/-! SUPPORT. What leaves the queue, the one-time-programmable words and the lock fields: time, ports and legacy channels. -/

namespace Sys2Proof
namespace Machine

set_option linter.unusedSimpArgs false

/-! ### Time -/

@[simp ↓] theorem State.correct_fixed (s : State) (corr : Int) (force : Bool) : (State.correct s corr force).1.fixed = s.fixed := by
  unfold State.correct
  repeat' (first | (with_reducible rfl) | (simp [↓apply_ite State.fixed]; done) | split | (simp [↓apply_ite State.fixed, *]; done) | (grind [= State.modTim_fixed, = State.raiseDev_fixed]) | (simp [↓apply_ite State.fixed]))

theorem State.correct_fixed' (s : State) (corr : Int) (force : Bool) (t) (y) (h : State.correct s corr force = (t, y)) : t.fixed = s.fixed := by
  have := State.correct_fixed s corr force
  rw [h] at this; exact this

@[simp ↓] theorem State.timeMode_fixed (s : State) (m : TimeMode) : (State.timeMode s m).fixed = s.fixed := by simp [State.timeMode, ↓apply_ite State.fixed]

@[simp ↓] theorem State.stepTime_fixed (s : State) (amt : Int) : (State.stepTime s amt).fixed = s.fixed := by simp [State.stepTime]

@[simp ↓] theorem State.answerTimeSet_fixed (s : State) (step : Bool) : (State.answerTimeSet s step).fixed = s.fixed := by simp [State.answerTimeSet]

@[simp ↓] theorem State.applyFreq_fixed (s : State) : (State.applyFreq s).fixed = s.fixed := by unfold State.applyFreq; split <;> simp

@[simp ↓] theorem State.applyStep_fixed (s : State) : (State.applyStep s).fixed = s.fixed := by unfold State.applyStep; split <;> simp

@[simp ↓] theorem State.servoUpdate_fixed (s : State) : (State.servoUpdate s).fixed = s.fixed := (rfl)

@[simp ↓] theorem State.sample_fixed (s : State) (e : Int) : (State.sample s e).fixed = s.fixed := by
  unfold State.sample
  repeat' (first | (with_reducible rfl) | (simp [↓apply_ite State.fixed]; done) | split | (simp [↓apply_ite State.fixed, *]; done) | (grind [→ State.correct_fixed', = State.modTim_fixed, = State.servoUpdate_fixed, = State.timeMode_fixed]) | (simp [↓apply_ite State.fixed]))

@[simp ↓] theorem State.sourceLost_fixed (s : State) : (State.sourceLost s).fixed = s.fixed := by unfold State.sourceLost; split <;> simp

@[simp ↓] theorem State.ppsAccept_fixed (s : State) (cap whole : Int) : (State.ppsAccept s cap whole).fixed = s.fixed := by unfold State.ppsAccept; split <;> simp

@[simp ↓] theorem State.ppsReject_fixed (s : State) (off : Int) (run : List Int) : (State.ppsReject s off run).fixed = s.fixed := by simp [State.ppsReject]

@[simp ↓] theorem State.ppsEdge_fixed (s : State) : (State.ppsEdge s).fixed = s.fixed := by simp [State.ppsEdge, ↓apply_ite State.fixed]

@[simp ↓] theorem State.timingOff_fixed (s : State) : (State.timingOff s).fixed = s.fixed := (rfl)

@[simp ↓] theorem State.timingOn_fixed (s : State) (ppm : Int) : (State.timingOn s ppm).fixed = s.fixed := by simp [State.timingOn]

/-! ### TimeCmds -/

@[simp ↓] theorem State.modPtp_fixed (s : State) (p : Nat) (f : PtpPort → PtpPort) : (State.modPtp s p f).fixed = s.fixed := (rfl)

@[simp ↓] theorem timeRead_fixed (r : Req) (s : State) : (timeRead.run r s).st.fixed = s.fixed := (rfl)

@[simp ↓] theorem timeSet_fixed (r : Req) (s : State) : (timeSet.run r s).st.fixed = s.fixed := by
  simp only [timeSet]
  repeat' (first | (with_reducible rfl) | (simp [Reply.fail, ↓apply_ite Reply.st, ↓apply_ite State.fixed]; done) | split | (simp [Reply.fail, ↓apply_ite Reply.st, ↓apply_ite State.fixed, *]; done) | (grind [→ State.correct_fixed', = State.modTim_fixed, = State.timeMode_fixed]) | (simp [Reply.fail, ↓apply_ite Reply.st, ↓apply_ite State.fixed]))

@[simp ↓] theorem timeAdjust_fixed (r : Req) (s : State) : (timeAdjust.run r s).st.fixed = s.fixed := by
  simp only [timeAdjust]
  repeat' (first | (with_reducible rfl) | (simp [Reply.fail, ↓apply_ite Reply.st, ↓apply_ite State.fixed]; done) | split | (simp [Reply.fail, ↓apply_ite Reply.st, ↓apply_ite State.fixed, *]; done) | (grind [→ State.correct_fixed', = State.modTim_fixed, = State.timeMode_fixed]) | (simp [Reply.fail, ↓apply_ite Reply.st, ↓apply_ite State.fixed]))

@[simp ↓] theorem timeConfigWrite_fixed (r : Req) (s : State) : (timeConfigWrite.run r s).st.fixed = s.fixed := by
  simp only [timeConfigWrite]
  repeat' (first | (with_reducible rfl) | (simp [Reply.fail, ↓apply_ite Reply.st, ↓apply_ite State.fixed]; done) | split | (simp [Reply.fail, ↓apply_ite Reply.st, ↓apply_ite State.fixed, *]; done) | (grind [= State.modTim_fixed, = State.sourceLost_fixed]) | (simp [Reply.fail, ↓apply_ite Reply.st, ↓apply_ite State.fixed]))

@[simp ↓] theorem timeConfigRead_fixed (r : Req) (s : State) : (timeConfigRead.run r s).st.fixed = s.fixed := (rfl)

@[simp ↓] theorem timePortWrite_fixed (r : Req) (s : State) : (timePortWrite.run r s).st.fixed = s.fixed := by simp [timePortWrite]; split <;> simp

@[simp ↓] theorem timePortRead_fixed (r : Req) (s : State) : (timePortRead.run r s).st.fixed = s.fixed := by simp [timePortRead]; split <;> simp

@[simp ↓] theorem timePpsRead_fixed (r : Req) (s : State) : (timePpsRead.run r s).st.fixed = s.fixed := by simp [timePpsRead]; split <;> simp

theorem execTimeRead_fixed (r : Req) (s : State) : ∀ t, execTimeRead r s = .next t → t.fixed = s.fixed := by rintro _ ⟨⟩; exact mailbox_fixed _ _ _ timeRead_fixed

theorem execTimeSet_fixed (r : Req) (s : State) : ∀ t, execTimeSet r s = .next t → t.fixed = s.fixed := by rintro _ ⟨⟩; exact mailbox_fixed _ _ _ timeSet_fixed

theorem execTimeAdjust_fixed (r : Req) (s : State) : ∀ t, execTimeAdjust r s = .next t → t.fixed = s.fixed := by rintro _ ⟨⟩; exact mailbox_fixed _ _ _ timeAdjust_fixed

theorem execTimeConfigWrite_fixed (r : Req) (s : State) : ∀ t, execTimeConfigWrite r s = .next t → t.fixed = s.fixed := by rintro _ ⟨⟩; exact mailbox_fixed _ _ _ timeConfigWrite_fixed

theorem execTimeConfigRead_fixed (r : Req) (s : State) : ∀ t, execTimeConfigRead r s = .next t → t.fixed = s.fixed := by rintro _ ⟨⟩; exact mailbox_fixed _ _ _ timeConfigRead_fixed

theorem execTimePortWrite_fixed (r : Req) (s : State) : ∀ t, execTimePortWrite r s = .next t → t.fixed = s.fixed := by rintro _ ⟨⟩; exact mailbox_fixed _ _ _ timePortWrite_fixed

theorem execTimePortRead_fixed (r : Req) (s : State) : ∀ t, execTimePortRead r s = .next t → t.fixed = s.fixed := by rintro _ ⟨⟩; exact mailbox_fixed _ _ _ timePortRead_fixed

theorem execTimePpsRead_fixed (r : Req) (s : State) : ∀ t, execTimePpsRead r s = .next t → t.fixed = s.fixed := by rintro _ ⟨⟩; exact mailbox_fixed _ _ _ timePpsRead_fixed

theorem execFreqAdjApply_fixed (s : State) : ∀ t, execFreqAdjApply s = .next t → t.fixed = s.fixed := by rintro _ ⟨⟩; simp

theorem execTimeStepApply_fixed (s : State) : ∀ t, execTimeStepApply s = .next t → t.fixed = s.fixed := by rintro _ ⟨⟩; simp

theorem execSlewEnd_fixed (s : State) : ∀ t, execSlewEnd s = .next t → t.fixed = s.fixed := by
  intro t h
  unfold execSlewEnd at h
  first
  | (simp only [Host.Outcome.next.injEq] at h; subst h; repeat' (first | (with_reducible rfl) | (simp [↓apply_ite State.fixed]; done) | split | (simp [↓apply_ite State.fixed, *]; done) | (grind [= State.advTick_fixed, = State.modTim_fixed]) | (simp [↓apply_ite State.fixed])))
  | (split at h <;> (simp only [Host.Outcome.next.injEq] at h; subst h; repeat' (first | (with_reducible rfl) | (simp [↓apply_ite State.fixed]; done) | split | (simp [↓apply_ite State.fixed, *]; done) | (grind [= State.advTick_fixed, = State.modTim_fixed]) | (simp [↓apply_ite State.fixed]))))
  | (repeat' split at h
     all_goals (simp only [Host.Outcome.next.injEq] at h; subst h; repeat' (first | (with_reducible rfl) | (simp [↓apply_ite State.fixed]; done) | split | (simp [↓apply_ite State.fixed, *]; done) | (grind [= State.advTick_fixed, = State.modTim_fixed]) | (simp [↓apply_ite State.fixed]))))

theorem execPpsEdge_fixed (dt : Nat) (s : State) : ∀ t, execPpsEdge dt s = .next t → t.fixed = s.fixed := by rintro _ ⟨⟩; simp

theorem execPpsMissing_fixed (s : State) : ∀ t, execPpsMissing s = .next t → t.fixed = s.fixed := by
  intro t h
  unfold execPpsMissing at h
  first
  | (simp only [Host.Outcome.next.injEq] at h; subst h; repeat' (first | (with_reducible rfl) | (simp [↓apply_ite State.fixed]; done) | split | (simp [↓apply_ite State.fixed, *]; done) | (grind [= State.advTick_fixed, = State.modTim_fixed, = State.raiseDev_fixed, = State.sourceLost_fixed]) | (simp [↓apply_ite State.fixed])))
  | (split at h <;> (simp only [Host.Outcome.next.injEq] at h; subst h; repeat' (first | (with_reducible rfl) | (simp [↓apply_ite State.fixed]; done) | split | (simp [↓apply_ite State.fixed, *]; done) | (grind [= State.advTick_fixed, = State.modTim_fixed, = State.raiseDev_fixed, = State.sourceLost_fixed]) | (simp [↓apply_ite State.fixed]))))
  | (repeat' split at h
     all_goals (simp only [Host.Outcome.next.injEq] at h; subst h; repeat' (first | (with_reducible rfl) | (simp [↓apply_ite State.fixed]; done) | split | (simp [↓apply_ite State.fixed, *]; done) | (grind [= State.advTick_fixed, = State.modTim_fixed, = State.raiseDev_fixed, = State.sourceLost_fixed]) | (simp [↓apply_ite State.fixed]))))

theorem execHoldoverMaxExpiry_fixed (s : State) : ∀ t, execHoldoverMaxExpiry s = .next t → t.fixed = s.fixed := by rintro _ ⟨⟩; split <;> simp

theorem execPpsOutPulse_fixed (s : State) : ∀ t, execPpsOutPulse s = .next t → t.fixed = s.fixed := by
  intro t h
  unfold execPpsOutPulse at h
  simp only [Host.Outcome.next.injEq] at h; subst h
  simp only [↓apply_ite State.fixed, State.emit_fixed, State.modTim_fixed, State.advQ_fixed, ite_self]

/-! ### Ptp -/

@[simp ↓] theorem State.syncSample_fixed (s : State) (port : Nat) (arrival origin : Int) : (State.syncSample s port arrival origin).fixed = s.fixed := by simp [State.syncSample]

@[simp ↓] theorem State.slaveLost_fixed (s : State) : (State.slaveLost s).fixed = s.fixed := by
  unfold State.slaveLost
  repeat' (first | (with_reducible rfl) | (simp [↓apply_ite State.fixed]; done) | split | (simp [↓apply_ite State.fixed, *]; done) | (grind [= State.modTim_fixed, = State.sourceLost_fixed]) | (simp [↓apply_ite State.fixed]))

theorem execSyncTx_fixed (port dt : Nat) (s : State) : ∀ t, execSyncTx port dt s = .next t → t.fixed = s.fixed := by
  intro t h
  unfold execSyncTx at h
  first
  | (simp only [Host.Outcome.next.injEq] at h; subst h; repeat' (first | (with_reducible rfl) | (simp [↓apply_ite State.fixed]; done) | split | (simp [↓apply_ite State.fixed, *]; done) | (grind [= State.adv_fixed, = State.advQ_fixed, = State.modGptp_fixed, = State.sendPtp_fixed]) | (simp [↓apply_ite State.fixed])))
  | (split at h <;> (simp only [Host.Outcome.next.injEq] at h; subst h; repeat' (first | (with_reducible rfl) | (simp [↓apply_ite State.fixed]; done) | split | (simp [↓apply_ite State.fixed, *]; done) | (grind [= State.adv_fixed, = State.advQ_fixed, = State.modGptp_fixed, = State.sendPtp_fixed]) | (simp [↓apply_ite State.fixed]))))
  | (repeat' split at h
     all_goals (simp only [Host.Outcome.next.injEq] at h; subst h; repeat' (first | (with_reducible rfl) | (simp [↓apply_ite State.fixed]; done) | split | (simp [↓apply_ite State.fixed, *]; done) | (grind [= State.adv_fixed, = State.advQ_fixed, = State.modGptp_fixed, = State.sendPtp_fixed]) | (simp [↓apply_ite State.fixed]))))

theorem execFollowUpTx_fixed (port dt : Nat) (s : State) : ∀ t, execFollowUpTx port dt s = .next t → t.fixed = s.fixed := by
  intro t h
  unfold execFollowUpTx at h
  first
  | (simp only [Host.Outcome.next.injEq] at h; subst h; repeat' (first | (with_reducible rfl) | (simp [↓apply_ite State.fixed]; done) | split | (simp [↓apply_ite State.fixed, *]; done) | (grind [= State.adv_fixed, = State.modGptp_fixed, = State.sendPtp_fixed]) | (simp [↓apply_ite State.fixed])))
  | (split at h <;> (simp only [Host.Outcome.next.injEq] at h; subst h; repeat' (first | (with_reducible rfl) | (simp [↓apply_ite State.fixed]; done) | split | (simp [↓apply_ite State.fixed, *]; done) | (grind [= State.adv_fixed, = State.modGptp_fixed, = State.sendPtp_fixed]) | (simp [↓apply_ite State.fixed]))))
  | (repeat' split at h
     all_goals (simp only [Host.Outcome.next.injEq] at h; subst h; repeat' (first | (with_reducible rfl) | (simp [↓apply_ite State.fixed]; done) | split | (simp [↓apply_ite State.fixed, *]; done) | (grind [= State.adv_fixed, = State.modGptp_fixed, = State.sendPtp_fixed]) | (simp [↓apply_ite State.fixed]))))

theorem execPdelayReqTx_fixed (port dt : Nat) (s : State) : ∀ t, execPdelayReqTx port dt s = .next t → t.fixed = s.fixed := by
  intro t h
  unfold execPdelayReqTx at h
  first
  | (simp only [Host.Outcome.next.injEq] at h; subst h; repeat' (first | (with_reducible rfl) | (simp [↓apply_ite State.fixed]; done) | split | (simp [↓apply_ite State.fixed, *]; done) | (grind [= State.adv_fixed, = State.modGptp_fixed, = State.raiseDie_fixed, = State.sendPtp_fixed]) | (simp [↓apply_ite State.fixed])))
  | (split at h <;> (simp only [Host.Outcome.next.injEq] at h; subst h; repeat' (first | (with_reducible rfl) | (simp [↓apply_ite State.fixed]; done) | split | (simp [↓apply_ite State.fixed, *]; done) | (grind [= State.adv_fixed, = State.modGptp_fixed, = State.raiseDie_fixed, = State.sendPtp_fixed]) | (simp [↓apply_ite State.fixed]))))
  | (repeat' split at h
     all_goals (simp only [Host.Outcome.next.injEq] at h; subst h; repeat' (first | (with_reducible rfl) | (simp [↓apply_ite State.fixed]; done) | split | (simp [↓apply_ite State.fixed, *]; done) | (grind [= State.adv_fixed, = State.modGptp_fixed, = State.raiseDie_fixed, = State.sendPtp_fixed]) | (simp [↓apply_ite State.fixed]))))

theorem execPdelayRx_fixed (port : Nat) (s : State) : ∀ t, execPdelayRx port s = .next t → t.fixed = s.fixed := by
  intro t h
  unfold execPdelayRx at h
  first
  | (simp only [Host.Outcome.next.injEq] at h; subst h; repeat' (first | (with_reducible rfl) | (simp [↓apply_ite State.fixed]; done) | split | (simp [↓apply_ite State.fixed, *]; done) | (grind [= State.modGptp_fixed, = State.sendPtp_fixed]) | (simp [↓apply_ite State.fixed])))
  | (split at h <;> (simp only [Host.Outcome.next.injEq] at h; subst h; repeat' (first | (with_reducible rfl) | (simp [↓apply_ite State.fixed]; done) | split | (simp [↓apply_ite State.fixed, *]; done) | (grind [= State.modGptp_fixed, = State.sendPtp_fixed]) | (simp [↓apply_ite State.fixed]))))
  | (repeat' split at h
     all_goals (simp only [Host.Outcome.next.injEq] at h; subst h; repeat' (first | (with_reducible rfl) | (simp [↓apply_ite State.fixed]; done) | split | (simp [↓apply_ite State.fixed, *]; done) | (grind [= State.modGptp_fixed, = State.sendPtp_fixed]) | (simp [↓apply_ite State.fixed]))))

theorem execSyncRx_fixed (port : Nat) (s : State) : ∀ t, execSyncRx port s = .next t → t.fixed = s.fixed := by
  intro t h
  unfold execSyncRx at h
  first
  | (simp only [Host.Outcome.next.injEq] at h; subst h; repeat' (first | (with_reducible rfl) | (simp [↓apply_ite State.fixed]; done) | split | (simp [↓apply_ite State.fixed, *]; done) | (grind [= State.modGptp_fixed, = State.raiseDie_fixed, = State.syncSample_fixed]) | (simp [↓apply_ite State.fixed])))
  | (split at h <;> (simp only [Host.Outcome.next.injEq] at h; subst h; repeat' (first | (with_reducible rfl) | (simp [↓apply_ite State.fixed]; done) | split | (simp [↓apply_ite State.fixed, *]; done) | (grind [= State.modGptp_fixed, = State.raiseDie_fixed, = State.syncSample_fixed]) | (simp [↓apply_ite State.fixed]))))
  | (repeat' split at h
     all_goals (simp only [Host.Outcome.next.injEq] at h; subst h; repeat' (first | (with_reducible rfl) | (simp [↓apply_ite State.fixed]; done) | split | (simp [↓apply_ite State.fixed, *]; done) | (grind [= State.modGptp_fixed, = State.raiseDie_fixed, = State.syncSample_fixed]) | (simp [↓apply_ite State.fixed]))))

theorem execSyncTimeout_fixed (s : State) : ∀ t, execSyncTimeout s = .next t → t.fixed = s.fixed := by rintro _ ⟨⟩; split <;> simp

theorem execAnnounceTx_fixed (port dt : Nat) (s : State) : ∀ t, execAnnounceTx port dt s = .next t → t.fixed = s.fixed := by rintro _ ⟨⟩; split <;> simp

/-! ### Maint -/

@[simp ↓] theorem State.takeToken_fixed (s : State) (a obj : Nat) : (State.takeToken s a obj).fixed = s.fixed := by simp [State.takeToken]

@[simp ↓] theorem State.dropToken_fixed (s : State) (a obj : Nat) : (State.dropToken s a obj).fixed = s.fixed := by simp [State.dropToken, ↓apply_ite State.fixed]

@[simp ↓] theorem maintStatusRead_fixed (r : Req) (s : State) : (maintStatusRead.run r s).st.fixed = s.fixed := (rfl)

@[simp ↓] theorem maintExclWrite_fixed (r : Req) (s : State) : (maintExclWrite.run r s).st.fixed = s.fixed := (rfl)

theorem execMaintStatusRead_fixed (r : Req) (s : State) : ∀ t, execMaintStatusRead r s = .next t → t.fixed = s.fixed := by rintro _ ⟨⟩; exact mailbox_fixed _ _ _ maintStatusRead_fixed

theorem execMaintExclWrite_fixed (r : Req) (s : State) : ∀ t, execMaintExclWrite r s = .next t → t.fixed = s.fixed := by rintro _ ⟨⟩; exact mailbox_fixed _ _ _ maintExclWrite_fixed

/-! ### Links -/

@[simp ↓] theorem State.setDownBit_fixed (s : State) (p : Nat) (b : Bool) : (State.setDownBit s p b).fixed = s.fixed := by simp [State.setDownBit, ↓apply_ite State.fixed]

@[simp ↓] theorem State.leaveUp_fixed (s : State) (p : Nat) : (State.leaveUp s p).fixed = s.fixed := by simp [State.leaveUp, ↓apply_ite State.fixed]

@[simp ↓] theorem State.portTo_fixed (s : State) (p : Nat) (m : LinkMode) (count : Bool) : (State.portTo s p m count).fixed = s.fixed := by simp [State.portTo, ↓apply_ite State.fixed]

@[simp ↓] theorem State.portUp_fixed (s : State) (p : Nat) : (State.portUp s p).fixed = s.fixed := by simp [State.portUp]

@[simp ↓] theorem State.train_fixed (s : State) (p : Nat) (count : Bool) : (State.train s p count).fixed = s.fixed := by simp [State.train, ↓apply_ite State.fixed]

@[simp ↓] theorem State.enablePort_fixed (s : State) (p : Nat) : (State.enablePort s p).fixed = s.fixed := by simp [State.enablePort, ↓apply_ite State.fixed]

@[simp ↓] theorem State.disablePort_fixed (s : State) (p : Nat) : (State.disablePort s p).fixed = s.fixed := by simp [State.disablePort, ↓apply_ite State.fixed]

@[simp ↓] theorem State.linkLost_fixed (s : State) (p : Nat) : (State.linkLost s p).fixed = s.fixed := by simp [State.linkLost, ↓apply_ite State.fixed]

@[simp ↓] theorem State.portSleep_fixed (s : State) (p : Nat) : (State.portSleep s p).fixed = s.fixed := by simp [State.portSleep, ↓apply_ite State.fixed]

@[simp ↓] theorem State.portWake_fixed (s : State) (p : Nat) (temp : Nat) : (State.portWake s p temp).fixed = s.fixed := by
  unfold State.portWake
  repeat' (first | (with_reducible rfl) | (simp [↓apply_ite State.fixed]; done) | split | (simp [↓apply_ite State.fixed, *]; done) | (grind [= State.modPort_fixed, = State.portTo_fixed, = State.portUp_fixed, = State.train_fixed]) | (simp [↓apply_ite State.fixed]))

@[simp ↓] theorem State.plcaStart_fixed (s : State) (d : Fab) (o : Nat) : (State.plcaStart s d o).fixed = s.fixed := by
  unfold State.plcaStart
  repeat' (first | (with_reducible rfl) | (simp [↓apply_ite State.fixed]; done) | split | (simp [↓apply_ite State.fixed, *]; done) | (grind [= State.modFrame_fixed, = State.modTx_fixed]) | (simp [↓apply_ite State.fixed]))

theorem execLinkDownDeclared_fixed (port : Nat) (s : State) : ∀ t, execLinkDownDeclared port s = .next t → t.fixed = s.fixed := by rintro _ ⟨⟩; split <;> simp

theorem execPcsLock_fixed (port dt : Nat) (s : State) : ∀ t, execPcsLock port dt s = .next t → t.fixed = s.fixed := by
  intro t h
  unfold execPcsLock at h
  first
  | (simp only [Host.Outcome.next.injEq] at h; subst h; repeat' (first | (with_reducible rfl) | (simp [↓apply_ite State.fixed]; done) | split | (simp [↓apply_ite State.fixed, *]; done) | (grind [= State.adv_fixed, = State.portTick_fixed, = State.portUp_fixed]) | (simp [↓apply_ite State.fixed])))
  | (split at h <;> (simp only [Host.Outcome.next.injEq] at h; subst h; repeat' (first | (with_reducible rfl) | (simp [↓apply_ite State.fixed]; done) | split | (simp [↓apply_ite State.fixed, *]; done) | (grind [= State.adv_fixed, = State.portTick_fixed, = State.portUp_fixed]) | (simp [↓apply_ite State.fixed]))))
  | (repeat' split at h
     all_goals (simp only [Host.Outcome.next.injEq] at h; subst h; repeat' (first | (with_reducible rfl) | (simp [↓apply_ite State.fixed]; done) | split | (simp [↓apply_ite State.fixed, *]; done) | (grind [= State.adv_fixed, = State.portTick_fixed, = State.portUp_fixed]) | (simp [↓apply_ite State.fixed]))))

theorem execTrainTimeout_fixed (port : Nat) (s : State) : ∀ t, execTrainTimeout port s = .next t → t.fixed = s.fixed := by rintro _ ⟨⟩; split <;> simp

theorem execUsxgmiiAnWord_fixed (port : Nat) (up : Bool) (rate : Nat) (s : State) : ∀ t, execUsxgmiiAnWord port up rate s = .next t → t.fixed = s.fixed := by
  intro t h
  unfold execUsxgmiiAnWord at h
  first
  | (simp only [Host.Outcome.next.injEq] at h; subst h; repeat' (first | (with_reducible rfl) | (simp [↓apply_ite State.fixed]; done) | split | (simp [↓apply_ite State.fixed, *]; done) | (grind [= State.linkLost_fixed, = State.modPort_fixed, = State.portUp_fixed]) | (simp [↓apply_ite State.fixed])))
  | (split at h <;> (simp only [Host.Outcome.next.injEq] at h; subst h; repeat' (first | (with_reducible rfl) | (simp [↓apply_ite State.fixed]; done) | split | (simp [↓apply_ite State.fixed, *]; done) | (grind [= State.linkLost_fixed, = State.modPort_fixed, = State.portUp_fixed]) | (simp [↓apply_ite State.fixed]))))
  | (repeat' split at h
     all_goals (simp only [Host.Outcome.next.injEq] at h; subst h; repeat' (first | (with_reducible rfl) | (simp [↓apply_ite State.fixed]; done) | split | (simp [↓apply_ite State.fixed, *]; done) | (grind [= State.linkLost_fixed, = State.modPort_fixed, = State.portUp_fixed]) | (simp [↓apply_ite State.fixed]))))

theorem execResumeDeadline_fixed (port : Nat) (s : State) : ∀ t, execResumeDeadline port s = .next t → t.fixed = s.fixed := by rintro _ ⟨⟩; split <;> simp

theorem execWakePulseEnd_fixed (port : Nat) (s : State) : ∀ t, execWakePulseEnd port s = .next t → t.fixed = s.fixed := by rintro _ ⟨⟩; split <;> simp

theorem execTc10SleepAckRx_fixed (port : Nat) (s : State) : ∀ t, execTc10SleepAckRx port s = .next t → t.fixed = s.fixed := by rintro _ ⟨⟩; split <;> simp

theorem execSleepWaitTimeout_fixed (port : Nat) (s : State) : ∀ t, execSleepWaitTimeout port s = .next t → t.fixed = s.fixed := by rintro _ ⟨⟩; split <;> simp

theorem execLpiIdleTimer_fixed (port : Nat) (s : State) : ∀ t, execLpiIdleTimer port s = .next t → t.fixed = s.fixed := by rintro _ ⟨⟩; split <;> simp

theorem execLpiWakeComplete_fixed (port dt : Nat) (s : State) : ∀ t, execLpiWakeComplete port dt s = .next t → t.fixed = s.fixed := by rintro _ ⟨⟩; split <;> simp

theorem execBeaconLossTimeout_fixed (port : Nat) (s : State) : ∀ t, execBeaconLossTimeout port s = .next t → t.fixed = s.fixed := by rintro _ ⟨⟩; split <;> simp

theorem execBeaconRx_fixed (port : Nat) (s : State) : ∀ t, execBeaconRx port s = .next t → t.fixed = s.fixed := by
  intro t h
  unfold execBeaconRx at h
  first
  | (simp only [Host.Outcome.next.injEq] at h; subst h; repeat' (first | (with_reducible rfl) | (simp [↓apply_ite State.fixed]; done) | split | (simp [↓apply_ite State.fixed, *]; done) | (grind [= State.modPort_fixed, = State.portUp_fixed, = State.raiseDie_fixed]) | (simp [↓apply_ite State.fixed])))
  | (split at h <;> (simp only [Host.Outcome.next.injEq] at h; subst h; repeat' (first | (with_reducible rfl) | (simp [↓apply_ite State.fixed]; done) | split | (simp [↓apply_ite State.fixed, *]; done) | (grind [= State.modPort_fixed, = State.portUp_fixed, = State.raiseDie_fixed]) | (simp [↓apply_ite State.fixed]))))
  | (repeat' split at h
     all_goals (simp only [Host.Outcome.next.injEq] at h; subst h; repeat' (first | (with_reducible rfl) | (simp [↓apply_ite State.fixed]; done) | split | (simp [↓apply_ite State.fixed, *]; done) | (grind [= State.modPort_fixed, = State.portUp_fixed, = State.raiseDie_fixed]) | (simp [↓apply_ite State.fixed]))))

theorem execPlcaBeaconTx_fixed (port : Nat) (s : State) : ∀ t, execPlcaBeaconTx port s = .next t → t.fixed = s.fixed := by rintro _ ⟨⟩; split <;> simp

theorem execPlcaTxOpportunity_fixed (port : Nat) (burst collision : Bool) (dt : Nat) (s : State) : ∀ t, execPlcaTxOpportunity port burst collision dt s = .next t → t.fixed = s.fixed := by
  intro t h
  unfold execPlcaTxOpportunity at h
  first
  | (simp only [Host.Outcome.next.injEq] at h; subst h; repeat' (first | (with_reducible rfl) | (simp [↓apply_ite State.fixed]; done) | split | (simp [↓apply_ite State.fixed, *]; done) | (grind [= State.adv_fixed, = State.modPort_fixed, = State.plcaStart_fixed]) | (simp [↓apply_ite State.fixed])))
  | (split at h <;> (simp only [Host.Outcome.next.injEq] at h; subst h; repeat' (first | (with_reducible rfl) | (simp [↓apply_ite State.fixed]; done) | split | (simp [↓apply_ite State.fixed, *]; done) | (grind [= State.adv_fixed, = State.modPort_fixed, = State.plcaStart_fixed]) | (simp [↓apply_ite State.fixed]))))
  | (repeat' split at h
     all_goals (simp only [Host.Outcome.next.injEq] at h; subst h; repeat' (first | (with_reducible rfl) | (simp [↓apply_ite State.fixed]; done) | split | (simp [↓apply_ite State.fixed, *]; done) | (grind [= State.adv_fixed, = State.modPort_fixed, = State.plcaStart_fixed]) | (simp [↓apply_ite State.fixed]))))

theorem execSqiUpdate_fixed (port sqi fixed lost temp : Nat) (s : State) : ∀ t, execSqiUpdate port sqi fixed lost temp s = .next t → t.fixed = s.fixed := by rintro _ ⟨⟩; split <;> simp

/-! ### Domains -/

@[simp ↓] theorem State.coreLost_fixed (s : State) (d : Fab) : (State.coreLost s d).fixed = s.fixed := by unfold State.coreLost; split <;> simp

@[simp ↓] theorem State.portsOff_fixed (s : State) (ps : List Nat) : (State.portsOff s ps).fixed = s.fixed := by simp [State.portsOff, ↓apply_ite State.fixed]

@[simp ↓] theorem State.setPresent_fixed (s : State) (die : Nat) (b : Bool) : (State.setPresent s die b).fixed = s.fixed := (rfl)

@[simp ↓] theorem State.arrives_fixed (s : State) (die : Nat) : (State.arrives s die).fixed = s.fixed := by simp [State.arrives, ↓apply_ite State.fixed]

@[simp ↓] theorem State.memTo_fixed (s : State) (d : Fab) (was m : DomMode) : (State.memTo s d was m).fixed = s.fixed := by
  unfold State.memTo
  dsimp only
  have hx : (((s.modFab d fun q => { nextFid := q.nextFid, nextOrder := q.nextOrder }).modPool d fun _ => {}) : State).fixed = s.fixed := by simp
  repeat' split
  all_goals first
    | rfl
    | (simp; done)
    | exact hx
    | (repeat' split
       all_goals first | exact hx | (split <;> exact hx))

@[simp ↓] theorem State.domTo_fixed (s : State) (d : Nat) (m : DomMode) : (State.domTo s d m).fixed = s.fixed := by
  unfold State.domTo
  repeat' (first | (with_reducible rfl) | (simp [↓apply_ite State.fixed]; done) | split | (simp [↓apply_ite State.fixed, *]; done) | (grind [= State.arrives_fixed, = State.coreLost_fixed, = State.memTo_fixed, = State.modEdge_fixed, = State.modGw_fixed, = State.modPow_fixed, = State.modTim_fixed, = State.portsOff_fixed, = State.setPresent_fixed, = State.timingOff_fixed, = State.timingOn_fixed, = State.useFree_fixed]) | (simp [↓apply_ite State.fixed]))

@[simp ↓] theorem State.seqDone_fixed (s : State) (k : Nat) : (State.seqDone s k).fixed = s.fixed := by simp [State.seqDone, ↓apply_ite State.fixed]

@[simp ↓] theorem State.seqFrom_fixed (s : State) (only : Option Nat) (k i : Nat) (x0 : Nat) : (State.seqFrom s only k i x0).fixed = s.fixed := by
  fun_induction State.seqFrom s only k i x0
  all_goals repeat' (first | (with_reducible rfl) | (simp [↓apply_ite State.fixed]; done) | split | (simp [↓apply_ite State.fixed, *]; done) | (grind [= State.modPow_fixed, = State.seqDone_fixed]) | (simp [↓apply_ite State.fixed]))

@[simp ↓] theorem State.runSeq_fixed (s : State) (k : Nat) : (State.runSeq s k).fixed = s.fixed := by simp [State.runSeq]

@[simp ↓] theorem State.runOff_fixed (s : State) : (State.runOff s).fixed = s.fixed := by simp [State.runOff, ↓apply_ite State.fixed]

theorem execSeqStepPowerGood_fixed (dt : Nat) (s : State) : ∀ t, execSeqStepPowerGood dt s = .next t → t.fixed = s.fixed := by
  intro t h
  unfold execSeqStepPowerGood at h
  first
  | (simp only [Host.Outcome.next.injEq] at h; subst h; repeat' (first | (with_reducible rfl) | (simp [↓apply_ite State.fixed]; done) | split | (simp [↓apply_ite State.fixed, *]; done) | (grind [= State.adv_fixed, = State.domTo_fixed, = State.modPow_fixed, = State.seqDone_fixed, = State.seqFrom_fixed]) | (simp [↓apply_ite State.fixed])))
  | (split at h <;> (simp only [Host.Outcome.next.injEq] at h; subst h; repeat' (first | (with_reducible rfl) | (simp [↓apply_ite State.fixed]; done) | split | (simp [↓apply_ite State.fixed, *]; done) | (grind [= State.adv_fixed, = State.domTo_fixed, = State.modPow_fixed, = State.seqDone_fixed, = State.seqFrom_fixed]) | (simp [↓apply_ite State.fixed]))))
  | (repeat' split at h
     all_goals (simp only [Host.Outcome.next.injEq] at h; subst h; repeat' (first | (with_reducible rfl) | (simp [↓apply_ite State.fixed]; done) | split | (simp [↓apply_ite State.fixed, *]; done) | (grind [= State.adv_fixed, = State.domTo_fixed, = State.modPow_fixed, = State.seqDone_fixed, = State.seqFrom_fixed]) | (simp [↓apply_ite State.fixed]))))

theorem execSeqWaitExpiry_fixed (s : State) : ∀ t, execSeqWaitExpiry s = .next t → t.fixed = s.fixed := by
  intro t h
  unfold execSeqWaitExpiry at h
  first
  | (simp only [Host.Outcome.next.injEq] at h; subst h; repeat' (first | (with_reducible rfl) | (simp [↓apply_ite State.fixed]; done) | split | (simp [↓apply_ite State.fixed, *]; done) | (grind [= State.advTick_fixed, = State.seqDone_fixed, = State.seqFrom_fixed]) | (simp [↓apply_ite State.fixed])))
  | (split at h <;> (simp only [Host.Outcome.next.injEq] at h; subst h; repeat' (first | (with_reducible rfl) | (simp [↓apply_ite State.fixed]; done) | split | (simp [↓apply_ite State.fixed, *]; done) | (grind [= State.advTick_fixed, = State.seqDone_fixed, = State.seqFrom_fixed]) | (simp [↓apply_ite State.fixed]))))
  | (repeat' split at h
     all_goals (simp only [Host.Outcome.next.injEq] at h; subst h; repeat' (first | (with_reducible rfl) | (simp [↓apply_ite State.fixed]; done) | split | (simp [↓apply_ite State.fixed, *]; done) | (grind [= State.advTick_fixed, = State.seqDone_fixed, = State.seqFrom_fixed]) | (simp [↓apply_ite State.fixed]))))

/-! ### Wake -/

@[simp ↓] theorem State.stackSend1_fixed (s : State) (p msg : Nat) (primary : Bool) : (State.stackSend1 s p msg primary).fixed = s.fixed := by simp [State.stackSend1, ↓apply_ite State.fixed]

@[simp ↓] theorem State.stackSend_fixed (s : State) (msg : Nat) (primary : Bool) : (State.stackSend s msg primary).fixed = s.fixed := by simp [State.stackSend]

@[simp ↓] theorem State.pullStkWake_fixed (s : State) : (State.pullStkWake s).fixed = s.fixed := by simp [State.pullStkWake, ↓apply_ite State.fixed]

@[simp ↓] theorem State.wakeRecord_fixed (s : State) (r : WakeRec) : (State.wakeRecord s r).fixed = s.fixed := by simp [State.wakeRecord]

@[simp ↓] theorem State.noteFirst_fixed (s : State) (w : WakeIn) : (State.noteFirst s w).fixed = s.fixed := by
  unfold State.noteFirst
  repeat' (first | (with_reducible rfl) | (simp [↓apply_ite State.fixed]; done) | split | (simp [↓apply_ite State.fixed, *]; done) | (grind [= State.modPow_fixed, = CmdSpec.take_fixed]) | (simp [↓apply_ite State.fixed]))

@[simp ↓] theorem State.restartTimer_fixed (s : State) : (State.restartTimer s).fixed = s.fixed := (rfl)

@[simp ↓] theorem State.restartAwake_fixed (s : State) : (State.restartAwake s).fixed = s.fixed := (rfl)

@[simp ↓] theorem State.keepAwake_fixed (s : State) (k : KeepRec) : (State.keepAwake s k).fixed = s.fixed := by simp [State.keepAwake, ↓apply_ite State.fixed]

@[simp ↓] theorem State.linCommanders_fixed (s : State) (f : LinCh → LinCh) : (State.linCommanders s f).fixed = s.fixed := (rfl)

@[simp ↓] theorem State.enterPrepare_fixed (s : State) : (State.enterPrepare s).fixed = s.fixed := by simp [State.enterPrepare, ↓apply_ite State.fixed]

@[simp ↓] theorem State.cancelPrepare_fixed (s : State) : (State.cancelPrepare s).fixed = s.fixed := by simp [State.cancelPrepare, ↓apply_ite State.fixed]

@[simp ↓] theorem State.startWake_fixed (s : State) (r : WakeRec) : (State.startWake s r).fixed = s.fixed := by simp [State.startWake, ↓apply_ite State.fixed]

@[simp ↓] theorem State.commitSleep_fixed (s : State) : (State.commitSleep s).fixed = s.fixed := by simp [State.commitSleep, ↓apply_ite State.fixed]

@[simp ↓] theorem State.wakeSource_fixed (s : State) (r : WakeRec) : (State.wakeSource s r).fixed = s.fixed := by
  unfold State.wakeSource
  repeat' (first | (with_reducible rfl) | (simp [↓apply_ite State.fixed]; done) | split | (simp [↓apply_ite State.fixed, *]; done) | (grind [= State.cancelPrepare_fixed, = State.modPow_fixed, = State.prepare_fixed, = State.pullStkWake_fixed, = State.restartAwake_fixed, = State.startWake_fixed, = State.wakeRecord_fixed]) | (simp [↓apply_ite State.fixed]))

@[simp ↓] theorem State.policyHit_fixed (s : State) (i : Nat) (w : WakeIn) : (State.policyHit s i w).fixed = s.fixed := by
  unfold State.policyHit
  repeat' (first | (with_reducible rfl) | (simp [↓apply_ite State.fixed]; done) | split | (simp [↓apply_ite State.fixed, *]; done) | (grind [= State.keepAwake_fixed, = State.restartAwake_fixed, = State.restartTimer_fixed, = State.stackSend_fixed, = State.wakeSource_fixed]) | (simp [↓apply_ite State.fixed]))

theorem execWakePolicyMatch_fixed (w : WakeIn) (s : State) : ∀ t, execWakePolicyMatch w s = .next t → t.fixed = s.fixed := by rintro _ ⟨⟩; simp

theorem execSleepTimerExpiry_fixed (s : State) : ∀ t, execSleepTimerExpiry s = .next t → t.fixed = s.fixed := by rintro _ ⟨⟩; split <;> simp

theorem execPrepareCancel_fixed (kind src : Nat) (s : State) : ∀ t, execPrepareCancel kind src s = .next t → t.fixed = s.fixed := by rintro _ ⟨⟩; split <;> simp

theorem execCommitPoint_fixed (s : State) : ∀ t, execCommitPoint s = .next t → t.fixed = s.fixed := by rintro _ ⟨⟩; split <;> simp

theorem execSleepSeqComplete_fixed (s : State) : ∀ t, execSleepSeqComplete s = .next t → t.fixed = s.fixed := by
  intro t h
  unfold execSleepSeqComplete at h
  first
  | (simp only [Host.Outcome.next.injEq] at h; subst h; repeat' (first | (with_reducible rfl) | (simp [↓apply_ite State.fixed]; done) | split | (simp [↓apply_ite State.fixed, *]; done) | (grind [= State.modPow_fixed, = State.startWake_fixed]) | (simp [↓apply_ite State.fixed])))
  | (split at h <;> (simp only [Host.Outcome.next.injEq] at h; subst h; repeat' (first | (with_reducible rfl) | (simp [↓apply_ite State.fixed]; done) | split | (simp [↓apply_ite State.fixed, *]; done) | (grind [= State.modPow_fixed, = State.startWake_fixed]) | (simp [↓apply_ite State.fixed]))))
  | (repeat' split at h
     all_goals (simp only [Host.Outcome.next.injEq] at h; subst h; repeat' (first | (with_reducible rfl) | (simp [↓apply_ite State.fixed]; done) | split | (simp [↓apply_ite State.fixed, *]; done) | (grind [= State.modPow_fixed, = State.startWake_fixed]) | (simp [↓apply_ite State.fixed]))))

theorem execWakeSource_fixed (kind src dt : Nat) (s : State) : ∀ t, execWakeSource kind src dt s = .next t → t.fixed = s.fixed := by rintro _ ⟨⟩; simp

theorem execWakeSeqComplete_fixed (s : State) : ∀ t, execWakeSeqComplete s = .next t → t.fixed = s.fixed := by rintro _ ⟨⟩; split <;> simp

theorem execWakeLocInput_fixed (input dt : Nat) (s : State) : ∀ t, execWakeLocInput input dt s = .next t → t.fixed = s.fixed := by rintro _ ⟨⟩; split <;> simp

theorem execSleepWakeTimer_fixed (s : State) : ∀ t, execSleepWakeTimer s = .next t → t.fixed = s.fixed := by rintro _ ⟨⟩; split <;> simp

theorem execStkWakeInput_fixed (s : State) : ∀ t, execStkWakeInput s = .next t → t.fixed = s.fixed := by rintro _ ⟨⟩; split <;> simp

theorem execWakeHoldExpiry_fixed (path : Path) (s : State) : ∀ t, execWakeHoldExpiry path s = .next t → t.fixed = s.fixed := by rintro _ ⟨⟩; split <;> simp

theorem execPortSleepCmd_fixed (port : Nat) (s : State) : ∀ t, execPortSleepCmd port s = .next t → t.fixed = s.fixed := by rintro _ ⟨⟩; split <;> simp

theorem execPortWakeCmd_fixed (port temp : Nat) (s : State) : ∀ t, execPortWakeCmd port temp s = .next t → t.fixed = s.fixed := by rintro _ ⟨⟩; split <;> simp

theorem execTc10SleepReqRx_fixed (port : Nat) (s : State) : ∀ t, execTc10SleepReqRx port s = .next t → t.fixed = s.fixed := by rintro _ ⟨⟩; split <;> simp

theorem execTc10WakeReqRx_fixed (port : Nat) (s : State) : ∀ t, execTc10WakeReqRx port s = .next t → t.fixed = s.fixed := by
  intro t h
  unfold execTc10WakeReqRx at h
  first
  | (simp only [Host.Outcome.next.injEq] at h; subst h; repeat' (first | (with_reducible rfl) | (simp [↓apply_ite State.fixed]; done) | split | (simp [↓apply_ite State.fixed, *]; done) | (grind [= State.portUp_fixed, = State.wakeSource_fixed]) | (simp [↓apply_ite State.fixed])))
  | (split at h <;> (simp only [Host.Outcome.next.injEq] at h; subst h; repeat' (first | (with_reducible rfl) | (simp [↓apply_ite State.fixed]; done) | split | (simp [↓apply_ite State.fixed, *]; done) | (grind [= State.portUp_fixed, = State.wakeSource_fixed]) | (simp [↓apply_ite State.fixed]))))
  | (repeat' split at h
     all_goals (simp only [Host.Outcome.next.injEq] at h; subst h; repeat' (first | (with_reducible rfl) | (simp [↓apply_ite State.fixed]; done) | split | (simp [↓apply_ite State.fixed, *]; done) | (grind [= State.portUp_fixed, = State.wakeSource_fixed]) | (simp [↓apply_ite State.fixed]))))

theorem execWakePulseDetected_fixed (port dt : Nat) (s : State) : ∀ t, execWakePulseDetected port dt s = .next t → t.fixed = s.fixed := by
  intro t h
  unfold execWakePulseDetected at h
  first
  | (simp only [Host.Outcome.next.injEq] at h; subst h; repeat' (first | (with_reducible rfl) | (simp [↓apply_ite State.fixed]; done) | split | (simp [↓apply_ite State.fixed, *]; done) | (grind [= State.adv_fixed, = State.portUp_fixed, = State.wakeSource_fixed]) | (simp [↓apply_ite State.fixed])))
  | (split at h <;> (simp only [Host.Outcome.next.injEq] at h; subst h; repeat' (first | (with_reducible rfl) | (simp [↓apply_ite State.fixed]; done) | split | (simp [↓apply_ite State.fixed, *]; done) | (grind [= State.adv_fixed, = State.portUp_fixed, = State.wakeSource_fixed]) | (simp [↓apply_ite State.fixed]))))
  | (repeat' split at h
     all_goals (simp only [Host.Outcome.next.injEq] at h; subst h; repeat' (first | (with_reducible rfl) | (simp [↓apply_ite State.fixed]; done) | split | (simp [↓apply_ite State.fixed, *]; done) | (grind [= State.adv_fixed, = State.portUp_fixed, = State.wakeSource_fixed]) | (simp [↓apply_ite State.fixed]))))

/-! ### Edge -/

@[simp ↓] theorem State.modCan_fixed (s : State) (c : Nat) (f : CanCh → CanCh) : (State.modCan s c f).fixed = s.fixed := (rfl)

@[simp ↓] theorem State.modLin_fixed (s : State) (c : Nat) (f : LinCh → LinCh) : (State.modLin s c f).fixed = s.fixed := (rfl)

@[simp ↓] theorem State.modSer_fixed (s : State) (c : Nat) (f : SerCh → SerCh) : (State.modSer s c f).fixed = s.fixed := (rfl)

@[simp ↓] theorem State.modCtrE_fixed (s : State) (n : Nat) (f : EdgeCtr → EdgeCtr) : (State.modCtrE s n f).fixed = s.fixed := (rfl)

@[simp ↓] theorem State.edgeCount_fixed (s : State) (n i : Nat) : (State.edgeCount s n i).fixed = s.fixed := by simp [State.edgeCount]

@[simp ↓] theorem State.rxCount_fixed (s : State) (n : Nat) : (State.rxCount s n).fixed = s.fixed := (rfl)

@[simp ↓] theorem State.txCount_fixed (s : State) (n : Nat) : (State.txCount s n).fixed = s.fixed := (rfl)

@[simp ↓] theorem State.modSlot_fixed (s : State) (n : Nat) (f : PerSlot → PerSlot) : (State.modSlot s n f).fixed = s.fixed := (rfl)

@[simp ↓] theorem State.pruneCan_fixed (s : State) (c : Nat) : (State.pruneCan s c).fixed = s.fixed := by simp [State.pruneCan, ↓apply_ite State.fixed]

@[simp ↓] theorem State.dropCan_fixed (s : State) (c : Nat) : (State.dropCan s c).fixed = s.fixed := by simp [State.dropCan]

@[simp ↓] theorem State.slotSent_fixed (s : State) (o : TxOrigin) : (State.slotSent s o).fixed = s.fixed := by unfold State.slotSent; split <;> simp

@[simp ↓] theorem State.canQueue_fixed (s : State) (c : Nat) (f : CanFrame) (o : TxOrigin) : (State.canQueue s c f o).1.fixed = s.fixed := by
  unfold State.canQueue
  repeat' (first | (with_reducible rfl) | (simp [↓apply_ite State.fixed]; done) | split | (simp [↓apply_ite State.fixed, *]; done) | (grind [= State.edgeCount_fixed, = State.modCan_fixed]) | (simp [↓apply_ite State.fixed]))

theorem State.canQueue_fixed' (s : State) (c : Nat) (f : CanFrame) (o : TxOrigin) (t) (y) (h : State.canQueue s c f o = (t, y)) : t.fixed = s.fixed := by
  have := State.canQueue_fixed s c f o
  rw [h] at this; exact this

@[simp ↓] theorem State.linAnswer_fixed (s : State) (c id : Nat) (header : Bool) : (State.linAnswer s c id header).fixed = s.fixed := by
  unfold State.linAnswer
  repeat' (first | (with_reducible rfl) | (simp [↓apply_ite State.fixed]; done) | split | (simp [↓apply_ite State.fixed, *]; done) | (grind [= State.edgeCount_fixed, = State.emit_fixed, = State.modLin_fixed, = State.txCount_fixed]) | (simp [↓apply_ite State.fixed]))

@[simp ↓] theorem State.linSleep_fixed (s : State) (c : Nat) : (State.linSleep s c).fixed = s.fixed := (rfl)

@[simp ↓] theorem State.serDiscard_fixed (s : State) (c i err : Nat) : (State.serDiscard s c i err).fixed = s.fixed := by simp [State.serDiscard]

@[simp ↓] theorem State.serDeliver_fixed (s : State) (c addr : Nat) (payload : List Nat) : (State.serDeliver s c addr payload).fixed = s.fixed := by simp [State.serDeliver, ↓apply_ite State.fixed]

@[simp ↓] theorem State.serStep_fixed (s : State) (c : Nat) (gap : Bool) : (State.serStep s c gap).fixed = s.fixed := by
  unfold State.serStep
  repeat' (first | (with_reducible rfl) | (simp [↓apply_ite State.fixed]; done) | split | (simp [↓apply_ite State.fixed, *]; done) | (grind [= State.serDeliver_fixed, = State.serDiscard_fixed]) | (simp [↓apply_ite State.fixed]))

@[simp ↓] theorem State.serQueue_fixed (s : State) (c : Nat) (m : SerTx) : (State.serQueue s c m).1.fixed = s.fixed := by
  unfold State.serQueue
  repeat' (first | (with_reducible rfl) | (simp [↓apply_ite State.fixed]; done) | split | (simp [↓apply_ite State.fixed, *]; done) | (grind [= State.edgeCount_fixed, = State.modSer_fixed]) | (simp [↓apply_ite State.fixed]))

theorem State.serQueue_fixed' (s : State) (c : Nat) (m : SerTx) (t) (y) (h : State.serQueue s c m = (t, y)) : t.fixed = s.fixed := by
  have := State.serQueue_fixed s c m
  rw [h] at this; exact this

theorem execCanFrameRx_fixed (chan : Nat) (frame : CanFrame) (sof : Nat) (lost : Bool) (dt : Nat) (s : State) : ∀ t, execCanFrameRx chan frame sof lost dt s = .next t → t.fixed = s.fixed := by
  intro t h
  unfold execCanFrameRx at h
  first
  | (simp only [Host.Outcome.next.injEq] at h; subst h; repeat' (first | (with_reducible rfl) | (simp [↓apply_ite State.fixed]; done) | split | (simp [↓apply_ite State.fixed, *]; done) | (grind [= State.adv_fixed, = State.edgeCount_fixed, = State.modCan_fixed, = State.noteFirst_fixed, = State.rxCount_fixed, = CmdSpec.take_fixed, = State.useFree_fixed]) | (simp [↓apply_ite State.fixed])))
  | (split at h <;> (simp only [Host.Outcome.next.injEq] at h; subst h; repeat' (first | (with_reducible rfl) | (simp [↓apply_ite State.fixed]; done) | split | (simp [↓apply_ite State.fixed, *]; done) | (grind [= State.adv_fixed, = State.edgeCount_fixed, = State.modCan_fixed, = State.noteFirst_fixed, = State.rxCount_fixed, = CmdSpec.take_fixed, = State.useFree_fixed]) | (simp [↓apply_ite State.fixed]))))
  | (repeat' split at h
     all_goals (simp only [Host.Outcome.next.injEq] at h; subst h; repeat' (first | (with_reducible rfl) | (simp [↓apply_ite State.fixed]; done) | split | (simp [↓apply_ite State.fixed, *]; done) | (grind [= State.adv_fixed, = State.edgeCount_fixed, = State.modCan_fixed, = State.noteFirst_fixed, = State.rxCount_fixed, = CmdSpec.take_fixed, = State.useFree_fixed]) | (simp [↓apply_ite State.fixed]))))

theorem execCanArbWin_fixed (chan dt : Nat) (s : State) : ∀ t, execCanArbWin chan dt s = .next t → t.fixed = s.fixed := by
  intro t h
  unfold execCanArbWin at h
  first
  | (simp only [Host.Outcome.next.injEq] at h; subst h; repeat' (first | (with_reducible rfl) | (simp [↓apply_ite State.fixed]; done) | split | (simp [↓apply_ite State.fixed, *]; done) | (grind [= State.adv_fixed, = State.modCan_fixed, = State.pruneCan_fixed]) | (simp [↓apply_ite State.fixed])))
  | (split at h <;> (simp only [Host.Outcome.next.injEq] at h; subst h; repeat' (first | (with_reducible rfl) | (simp [↓apply_ite State.fixed]; done) | split | (simp [↓apply_ite State.fixed, *]; done) | (grind [= State.adv_fixed, = State.modCan_fixed, = State.pruneCan_fixed]) | (simp [↓apply_ite State.fixed]))))
  | (repeat' split at h
     all_goals (simp only [Host.Outcome.next.injEq] at h; subst h; repeat' (first | (with_reducible rfl) | (simp [↓apply_ite State.fixed]; done) | split | (simp [↓apply_ite State.fixed, *]; done) | (grind [= State.adv_fixed, = State.modCan_fixed, = State.pruneCan_fixed]) | (simp [↓apply_ite State.fixed]))))

theorem execCanTxDone_fixed (chan : Nat) (ok : Bool) (dt : Nat) (s : State) : ∀ t, execCanTxDone chan ok dt s = .next t → t.fixed = s.fixed := by
  intro t h
  unfold execCanTxDone at h
  first
  | (simp only [Host.Outcome.next.injEq] at h; subst h; repeat' (first | (with_reducible rfl) | (simp [↓apply_ite State.fixed]; done) | split | (simp [↓apply_ite State.fixed, *]; done) | (grind [= State.adv_fixed, = State.dropCan_fixed, = State.edgeCount_fixed, = State.emit_fixed, = State.modCan_fixed, = State.slotSent_fixed, = State.txCount_fixed]) | (simp [↓apply_ite State.fixed])))
  | (split at h <;> (simp only [Host.Outcome.next.injEq] at h; subst h; repeat' (first | (with_reducible rfl) | (simp [↓apply_ite State.fixed]; done) | split | (simp [↓apply_ite State.fixed, *]; done) | (grind [= State.adv_fixed, = State.dropCan_fixed, = State.edgeCount_fixed, = State.emit_fixed, = State.modCan_fixed, = State.slotSent_fixed, = State.txCount_fixed]) | (simp [↓apply_ite State.fixed]))))
  | (repeat' split at h
     all_goals (simp only [Host.Outcome.next.injEq] at h; subst h; repeat' (first | (with_reducible rfl) | (simp [↓apply_ite State.fixed]; done) | split | (simp [↓apply_ite State.fixed, *]; done) | (grind [= State.adv_fixed, = State.dropCan_fixed, = State.edgeCount_fixed, = State.emit_fixed, = State.modCan_fixed, = State.slotSent_fixed, = State.txCount_fixed]) | (simp [↓apply_ite State.fixed]))))

theorem execCanTxExpired_fixed (chan : Nat) (s : State) : ∀ t, execCanTxExpired chan s = .next t → t.fixed = s.fixed := by
  intro t h
  unfold execCanTxExpired at h
  first
  | (simp only [Host.Outcome.next.injEq] at h; subst h; repeat' (first | (with_reducible rfl) | (simp [↓apply_ite State.fixed]; done) | split | (simp [↓apply_ite State.fixed, *]; done) | (grind [= State.advTick_fixed, = State.edgeCount_fixed, = State.modCan_fixed]) | (simp [↓apply_ite State.fixed])))
  | (split at h <;> (simp only [Host.Outcome.next.injEq] at h; subst h; repeat' (first | (with_reducible rfl) | (simp [↓apply_ite State.fixed]; done) | split | (simp [↓apply_ite State.fixed, *]; done) | (grind [= State.advTick_fixed, = State.edgeCount_fixed, = State.modCan_fixed]) | (simp [↓apply_ite State.fixed]))))
  | (repeat' split at h
     all_goals (simp only [Host.Outcome.next.injEq] at h; subst h; repeat' (first | (with_reducible rfl) | (simp [↓apply_ite State.fixed]; done) | split | (simp [↓apply_ite State.fixed, *]; done) | (grind [= State.advTick_fixed, = State.edgeCount_fixed, = State.modCan_fixed]) | (simp [↓apply_ite State.fixed]))))

theorem execCanBusError_fixed (chan code : Nat) (tx : Bool) (add : Nat) (s : State) : ∀ t, execCanBusError chan code tx add s = .next t → t.fixed = s.fixed := by
  intro t h
  unfold execCanBusError at h
  first
  | (simp only [Host.Outcome.next.injEq] at h; subst h; repeat' (first | (with_reducible rfl) | (simp [↓apply_ite State.fixed]; done) | split | (simp [↓apply_ite State.fixed, *]; done) | (grind [= State.edgeCount_fixed, = State.modCan_fixed, = State.raiseDev_fixed]) | (simp [↓apply_ite State.fixed])))
  | (split at h <;> (simp only [Host.Outcome.next.injEq] at h; subst h; repeat' (first | (with_reducible rfl) | (simp [↓apply_ite State.fixed]; done) | split | (simp [↓apply_ite State.fixed, *]; done) | (grind [= State.edgeCount_fixed, = State.modCan_fixed, = State.raiseDev_fixed]) | (simp [↓apply_ite State.fixed]))))
  | (repeat' split at h
     all_goals (simp only [Host.Outcome.next.injEq] at h; subst h; repeat' (first | (with_reducible rfl) | (simp [↓apply_ite State.fixed]; done) | split | (simp [↓apply_ite State.fixed, *]; done) | (grind [= State.edgeCount_fixed, = State.modCan_fixed, = State.raiseDev_fixed]) | (simp [↓apply_ite State.fixed]))))

theorem execCanBusOffRecovered_fixed (chan dt : Nat) (s : State) : ∀ t, execCanBusOffRecovered chan dt s = .next t → t.fixed = s.fixed := by rintro _ ⟨⟩; split <;> simp

theorem execLinSlotStart_fixed (chan : Nat) (s : State) : ∀ t, execLinSlotStart chan s = .next t → t.fixed = s.fixed := by
  intro t h
  unfold execLinSlotStart at h
  first
  | (simp only [Host.Outcome.next.injEq] at h; subst h; repeat' (first | (with_reducible rfl) | (simp [↓apply_ite State.fixed]; done) | split | (simp [↓apply_ite State.fixed, *]; done) | (grind [= State.advTick_fixed, = State.linAnswer_fixed, = State.linSleep_fixed, = State.modLin_fixed, = State.written_fixed]) | (simp [↓apply_ite State.fixed])))
  | (split at h <;> (simp only [Host.Outcome.next.injEq] at h; subst h; repeat' (first | (with_reducible rfl) | (simp [↓apply_ite State.fixed]; done) | split | (simp [↓apply_ite State.fixed, *]; done) | (grind [= State.advTick_fixed, = State.linAnswer_fixed, = State.linSleep_fixed, = State.modLin_fixed, = State.written_fixed]) | (simp [↓apply_ite State.fixed]))))
  | (repeat' split at h
     all_goals (simp only [Host.Outcome.next.injEq] at h; subst h; repeat' (first | (with_reducible rfl) | (simp [↓apply_ite State.fixed]; done) | split | (simp [↓apply_ite State.fixed, *]; done) | (grind [= State.advTick_fixed, = State.linAnswer_fixed, = State.linSleep_fixed, = State.modLin_fixed, = State.written_fixed]) | (simp [↓apply_ite State.fixed]))))

theorem execLinHeaderRx_fixed (chan id : Nat) (sync : Bool) (dt : Nat) (s : State) : ∀ t, execLinHeaderRx chan id sync dt s = .next t → t.fixed = s.fixed := by
  intro t h
  unfold execLinHeaderRx at h
  first
  | (simp only [Host.Outcome.next.injEq] at h; subst h; repeat' (first | (with_reducible rfl) | (simp [↓apply_ite State.fixed]; done) | split | (simp [↓apply_ite State.fixed, *]; done) | (grind [= State.adv_fixed, = State.edgeCount_fixed, = State.linAnswer_fixed, = State.modLin_fixed]) | (simp [↓apply_ite State.fixed])))
  | (split at h <;> (simp only [Host.Outcome.next.injEq] at h; subst h; repeat' (first | (with_reducible rfl) | (simp [↓apply_ite State.fixed]; done) | split | (simp [↓apply_ite State.fixed, *]; done) | (grind [= State.adv_fixed, = State.edgeCount_fixed, = State.linAnswer_fixed, = State.modLin_fixed]) | (simp [↓apply_ite State.fixed]))))
  | (repeat' split at h
     all_goals (simp only [Host.Outcome.next.injEq] at h; subst h; repeat' (first | (with_reducible rfl) | (simp [↓apply_ite State.fixed]; done) | split | (simp [↓apply_ite State.fixed, *]; done) | (grind [= State.adv_fixed, = State.edgeCount_fixed, = State.linAnswer_fixed, = State.modLin_fixed]) | (simp [↓apply_ite State.fixed]))))

theorem execLinResponseRx_fixed (chan : Nat) (data : List Byte) (check err dt : Nat) (s : State) : ∀ t, execLinResponseRx chan data check err dt s = .next t → t.fixed = s.fixed := by
  intro t h
  unfold execLinResponseRx at h
  first
  | (simp only [Host.Outcome.next.injEq] at h; subst h; repeat' (first | (with_reducible rfl) | (simp [↓apply_ite State.fixed]; done) | split | (simp [↓apply_ite State.fixed, *]; done) | (grind [= State.adv_fixed, = State.edgeCount_fixed, = State.modLin_fixed, = State.noteFirst_fixed, = State.rxCount_fixed]) | (simp [↓apply_ite State.fixed])))
  | (split at h <;> (simp only [Host.Outcome.next.injEq] at h; subst h; repeat' (first | (with_reducible rfl) | (simp [↓apply_ite State.fixed]; done) | split | (simp [↓apply_ite State.fixed, *]; done) | (grind [= State.adv_fixed, = State.edgeCount_fixed, = State.modLin_fixed, = State.noteFirst_fixed, = State.rxCount_fixed]) | (simp [↓apply_ite State.fixed]))))
  | (repeat' split at h
     all_goals (simp only [Host.Outcome.next.injEq] at h; subst h; repeat' (first | (with_reducible rfl) | (simp [↓apply_ite State.fixed]; done) | split | (simp [↓apply_ite State.fixed, *]; done) | (grind [= State.adv_fixed, = State.edgeCount_fixed, = State.modLin_fixed, = State.noteFirst_fixed, = State.rxCount_fixed]) | (simp [↓apply_ite State.fixed]))))

theorem execLinSlotEnd_fixed (chan : Nat) (s : State) : ∀ t, execLinSlotEnd chan s = .next t → t.fixed = s.fixed := by
  intro t h
  unfold execLinSlotEnd at h
  first
  | (simp only [Host.Outcome.next.injEq] at h; subst h; repeat' (first | (with_reducible rfl) | (simp [↓apply_ite State.fixed]; done) | split | (simp [↓apply_ite State.fixed, *]; done) | (grind [= State.advTick_fixed, = State.edgeCount_fixed, = State.modLin_fixed]) | (simp [↓apply_ite State.fixed])))
  | (split at h <;> (simp only [Host.Outcome.next.injEq] at h; subst h; repeat' (first | (with_reducible rfl) | (simp [↓apply_ite State.fixed]; done) | split | (simp [↓apply_ite State.fixed, *]; done) | (grind [= State.advTick_fixed, = State.edgeCount_fixed, = State.modLin_fixed]) | (simp [↓apply_ite State.fixed]))))
  | (repeat' split at h
     all_goals (simp only [Host.Outcome.next.injEq] at h; subst h; repeat' (first | (with_reducible rfl) | (simp [↓apply_ite State.fixed]; done) | split | (simp [↓apply_ite State.fixed, *]; done) | (grind [= State.advTick_fixed, = State.edgeCount_fixed, = State.modLin_fixed]) | (simp [↓apply_ite State.fixed]))))

theorem execLinGoToSleep_fixed (chan : Nat) (s : State) : ∀ t, execLinGoToSleep chan s = .next t → t.fixed = s.fixed := by
  intro t h
  unfold execLinGoToSleep at h
  first
  | (simp only [Host.Outcome.next.injEq] at h; subst h; repeat' (first | (with_reducible rfl) | (simp [↓apply_ite State.fixed]; done) | split | (simp [↓apply_ite State.fixed, *]; done) | (grind [= State.advTick_fixed, = State.linSleep_fixed]) | (simp [↓apply_ite State.fixed])))
  | (split at h <;> (simp only [Host.Outcome.next.injEq] at h; subst h; repeat' (first | (with_reducible rfl) | (simp [↓apply_ite State.fixed]; done) | split | (simp [↓apply_ite State.fixed, *]; done) | (grind [= State.advTick_fixed, = State.linSleep_fixed]) | (simp [↓apply_ite State.fixed]))))
  | (repeat' split at h
     all_goals (simp only [Host.Outcome.next.injEq] at h; subst h; repeat' (first | (with_reducible rfl) | (simp [↓apply_ite State.fixed]; done) | split | (simp [↓apply_ite State.fixed, *]; done) | (grind [= State.advTick_fixed, = State.linSleep_fixed]) | (simp [↓apply_ite State.fixed]))))

theorem execLinWakePulse_fixed (chan : Nat) (s : State) : ∀ t, execLinWakePulse chan s = .next t → t.fixed = s.fixed := by rintro _ ⟨⟩; split <;> simp

theorem execLinScheduleRestart_fixed (chan : Nat) (s : State) : ∀ t, execLinScheduleRestart chan s = .next t → t.fixed = s.fixed := by
  intro t h
  unfold execLinScheduleRestart at h
  first
  | (simp only [Host.Outcome.next.injEq] at h; subst h; repeat' (first | (with_reducible rfl) | (simp [↓apply_ite State.fixed]; done) | split | (simp [↓apply_ite State.fixed, *]; done) | (grind [= State.advTick_fixed, = State.modLin_fixed]) | (simp [↓apply_ite State.fixed])))
  | (split at h <;> (simp only [Host.Outcome.next.injEq] at h; subst h; repeat' (first | (with_reducible rfl) | (simp [↓apply_ite State.fixed]; done) | split | (simp [↓apply_ite State.fixed, *]; done) | (grind [= State.advTick_fixed, = State.modLin_fixed]) | (simp [↓apply_ite State.fixed]))))
  | (repeat' split at h
     all_goals (simp only [Host.Outcome.next.injEq] at h; subst h; repeat' (first | (with_reducible rfl) | (simp [↓apply_ite State.fixed]; done) | split | (simp [↓apply_ite State.fixed, *]; done) | (grind [= State.advTick_fixed, = State.modLin_fixed]) | (simp [↓apply_ite State.fixed]))))

theorem execSerCharRx_fixed (chan value : Nat) (parity stop : Bool) (gap dt : Nat) (s : State) : ∀ t, execSerCharRx chan value parity stop gap dt s = .next t → t.fixed = s.fixed := by
  intro t h
  unfold execSerCharRx at h
  first
  | (simp only [Host.Outcome.next.injEq] at h; subst h; repeat' (first | (with_reducible rfl) | (simp [↓apply_ite State.fixed]; done) | split | (simp [↓apply_ite State.fixed, *]; done) | (grind [= State.adv_fixed, = State.edgeCount_fixed, = State.modSer_fixed, = State.serDiscard_fixed, = State.serStep_fixed]) | (simp [↓apply_ite State.fixed])))
  | (split at h <;> (simp only [Host.Outcome.next.injEq] at h; subst h; repeat' (first | (with_reducible rfl) | (simp [↓apply_ite State.fixed]; done) | split | (simp [↓apply_ite State.fixed, *]; done) | (grind [= State.adv_fixed, = State.edgeCount_fixed, = State.modSer_fixed, = State.serDiscard_fixed, = State.serStep_fixed]) | (simp [↓apply_ite State.fixed]))))
  | (repeat' split at h
     all_goals (simp only [Host.Outcome.next.injEq] at h; subst h; repeat' (first | (with_reducible rfl) | (simp [↓apply_ite State.fixed]; done) | split | (simp [↓apply_ite State.fixed, *]; done) | (grind [= State.adv_fixed, = State.edgeCount_fixed, = State.modSer_fixed, = State.serDiscard_fixed, = State.serStep_fixed]) | (simp [↓apply_ite State.fixed]))))

theorem execSerGapTimeout_fixed (chan : Nat) (reach : Bool) (dt : Nat) (s : State) : ∀ t, execSerGapTimeout chan reach dt s = .next t → t.fixed = s.fixed := by
  intro t h
  unfold execSerGapTimeout at h
  first
  | (simp only [Host.Outcome.next.injEq] at h; subst h; repeat' (first | (with_reducible rfl) | (simp [↓apply_ite State.fixed]; done) | split | (simp [↓apply_ite State.fixed, *]; done) | (grind [= State.adv_fixed, = State.serDiscard_fixed, = State.serStep_fixed]) | (simp [↓apply_ite State.fixed])))
  | (split at h <;> (simp only [Host.Outcome.next.injEq] at h; subst h; repeat' (first | (with_reducible rfl) | (simp [↓apply_ite State.fixed]; done) | split | (simp [↓apply_ite State.fixed, *]; done) | (grind [= State.adv_fixed, = State.serDiscard_fixed, = State.serStep_fixed]) | (simp [↓apply_ite State.fixed]))))
  | (repeat' split at h
     all_goals (simp only [Host.Outcome.next.injEq] at h; subst h; repeat' (first | (with_reducible rfl) | (simp [↓apply_ite State.fixed]; done) | split | (simp [↓apply_ite State.fixed, *]; done) | (grind [= State.adv_fixed, = State.serDiscard_fixed, = State.serStep_fixed]) | (simp [↓apply_ite State.fixed]))))

theorem execSerTxQueue_fixed (chan addr : Nat) (payload : List Nat) (prio : Nat) (s : State) : ∀ t, execSerTxQueue chan addr payload prio s = .next t → t.fixed = s.fixed := by
  intro t h
  unfold execSerTxQueue at h
  first
  | (simp only [Host.Outcome.next.injEq] at h; subst h; repeat' (first | (with_reducible rfl) | (simp [↓apply_ite State.fixed]; done) | split | (simp [↓apply_ite State.fixed, *]; done) | (grind [= State.edgeCount_fixed, → State.serQueue_fixed']) | (simp [↓apply_ite State.fixed])))
  | (split at h <;> (simp only [Host.Outcome.next.injEq] at h; subst h; repeat' (first | (with_reducible rfl) | (simp [↓apply_ite State.fixed]; done) | split | (simp [↓apply_ite State.fixed, *]; done) | (grind [= State.edgeCount_fixed, → State.serQueue_fixed']) | (simp [↓apply_ite State.fixed]))))
  | (repeat' split at h
     all_goals (simp only [Host.Outcome.next.injEq] at h; subst h; repeat' (first | (with_reducible rfl) | (simp [↓apply_ite State.fixed]; done) | split | (simp [↓apply_ite State.fixed, *]; done) | (grind [= State.edgeCount_fixed, → State.serQueue_fixed']) | (simp [↓apply_ite State.fixed]))))

theorem execSerLineIdle_fixed (chan dt : Nat) (s : State) : ∀ t, execSerLineIdle chan dt s = .next t → t.fixed = s.fixed := by rintro _ ⟨⟩; split <;> simp

theorem execSerDeLeadEnd_fixed (chan dt : Nat) (s : State) : ∀ t, execSerDeLeadEnd chan dt s = .next t → t.fixed = s.fixed := by
  intro t h
  unfold execSerDeLeadEnd at h
  first
  | (simp only [Host.Outcome.next.injEq] at h; subst h; repeat' (first | (with_reducible rfl) | (simp [↓apply_ite State.fixed]; done) | split | (simp [↓apply_ite State.fixed, *]; done) | (grind [= State.adv_fixed, = State.edgeCount_fixed, = State.modSer_fixed]) | (simp [↓apply_ite State.fixed])))
  | (split at h <;> (simp only [Host.Outcome.next.injEq] at h; subst h; repeat' (first | (with_reducible rfl) | (simp [↓apply_ite State.fixed]; done) | split | (simp [↓apply_ite State.fixed, *]; done) | (grind [= State.adv_fixed, = State.edgeCount_fixed, = State.modSer_fixed]) | (simp [↓apply_ite State.fixed]))))
  | (repeat' split at h
     all_goals (simp only [Host.Outcome.next.injEq] at h; subst h; repeat' (first | (with_reducible rfl) | (simp [↓apply_ite State.fixed]; done) | split | (simp [↓apply_ite State.fixed, *]; done) | (grind [= State.adv_fixed, = State.edgeCount_fixed, = State.modSer_fixed]) | (simp [↓apply_ite State.fixed]))))

theorem execSerCharSent_fixed (chan echo dt : Nat) (s : State) : ∀ t, execSerCharSent chan echo dt s = .next t → t.fixed = s.fixed := by
  intro t h
  unfold execSerCharSent at h
  first
  | (simp only [Host.Outcome.next.injEq] at h; subst h; repeat' (first | (with_reducible rfl) | (simp [↓apply_ite State.fixed]; done) | split | (simp [↓apply_ite State.fixed, *]; done) | (grind [= State.adv_fixed, = State.edgeCount_fixed, = State.emit_fixed, = State.modSer_fixed]) | (simp [↓apply_ite State.fixed])))
  | (split at h <;> (simp only [Host.Outcome.next.injEq] at h; subst h; repeat' (first | (with_reducible rfl) | (simp [↓apply_ite State.fixed]; done) | split | (simp [↓apply_ite State.fixed, *]; done) | (grind [= State.adv_fixed, = State.edgeCount_fixed, = State.emit_fixed, = State.modSer_fixed]) | (simp [↓apply_ite State.fixed]))))
  | (repeat' split at h
     all_goals (simp only [Host.Outcome.next.injEq] at h; subst h; repeat' (first | (with_reducible rfl) | (simp [↓apply_ite State.fixed]; done) | split | (simp [↓apply_ite State.fixed, *]; done) | (grind [= State.adv_fixed, = State.edgeCount_fixed, = State.emit_fixed, = State.modSer_fixed]) | (simp [↓apply_ite State.fixed]))))

theorem execSerDeLagEnd_fixed (chan dt : Nat) (s : State) : ∀ t, execSerDeLagEnd chan dt s = .next t → t.fixed = s.fixed := by
  intro t h
  unfold execSerDeLagEnd at h
  first
  | (simp only [Host.Outcome.next.injEq] at h; subst h; repeat' (first | (with_reducible rfl) | (simp [↓apply_ite State.fixed]; done) | split | (simp [↓apply_ite State.fixed, *]; done) | (grind [= State.adv_fixed, = State.modSer_fixed, = State.slotSent_fixed, = State.txCount_fixed]) | (simp [↓apply_ite State.fixed])))
  | (split at h <;> (simp only [Host.Outcome.next.injEq] at h; subst h; repeat' (first | (with_reducible rfl) | (simp [↓apply_ite State.fixed]; done) | split | (simp [↓apply_ite State.fixed, *]; done) | (grind [= State.adv_fixed, = State.modSer_fixed, = State.slotSent_fixed, = State.txCount_fixed]) | (simp [↓apply_ite State.fixed]))))
  | (repeat' split at h
     all_goals (simp only [Host.Outcome.next.injEq] at h; subst h; repeat' (first | (with_reducible rfl) | (simp [↓apply_ite State.fixed]; done) | split | (simp [↓apply_ite State.fixed, *]; done) | (grind [= State.adv_fixed, = State.modSer_fixed, = State.slotSent_fixed, = State.txCount_fixed]) | (simp [↓apply_ite State.fixed]))))

theorem execSerTxExpired_fixed (chan : Nat) (s : State) : ∀ t, execSerTxExpired chan s = .next t → t.fixed = s.fixed := by
  intro t h
  unfold execSerTxExpired at h
  first
  | (simp only [Host.Outcome.next.injEq] at h; subst h; repeat' (first | (with_reducible rfl) | (simp [↓apply_ite State.fixed]; done) | split | (simp [↓apply_ite State.fixed, *]; done) | (grind [= State.advTick_fixed, = State.edgeCount_fixed, = State.modSer_fixed]) | (simp [↓apply_ite State.fixed])))
  | (split at h <;> (simp only [Host.Outcome.next.injEq] at h; subst h; repeat' (first | (with_reducible rfl) | (simp [↓apply_ite State.fixed]; done) | split | (simp [↓apply_ite State.fixed, *]; done) | (grind [= State.advTick_fixed, = State.edgeCount_fixed, = State.modSer_fixed]) | (simp [↓apply_ite State.fixed]))))
  | (repeat' split at h
     all_goals (simp only [Host.Outcome.next.injEq] at h; subst h; repeat' (first | (with_reducible rfl) | (simp [↓apply_ite State.fixed]; done) | split | (simp [↓apply_ite State.fixed, *]; done) | (grind [= State.advTick_fixed, = State.edgeCount_fixed, = State.modSer_fixed]) | (simp [↓apply_ite State.fixed]))))

theorem execTransceiverWake_fixed (chan dt : Nat) (s : State) : ∀ t, execTransceiverWake chan dt s = .next t → t.fixed = s.fixed := by rintro _ ⟨⟩; split <;> simp

theorem execTimeMsgInstant_fixed (chan : Nat) (s : State) : ∀ t, execTimeMsgInstant chan s = .next t → t.fixed = s.fixed := by
  intro t h
  unfold execTimeMsgInstant at h
  first
  | (simp only [Host.Outcome.next.injEq] at h; subst h; repeat' (first | (with_reducible rfl) | (simp [↓apply_ite State.fixed]; done) | split | (simp [↓apply_ite State.fixed, *]; done) | (grind [= State.advQ_fixed, → State.canQueue_fixed', = State.edgeCount_fixed, = State.modGw_fixed, → State.serQueue_fixed']) | (simp [↓apply_ite State.fixed])))
  | (split at h <;> (simp only [Host.Outcome.next.injEq] at h; subst h; repeat' (first | (with_reducible rfl) | (simp [↓apply_ite State.fixed]; done) | split | (simp [↓apply_ite State.fixed, *]; done) | (grind [= State.advQ_fixed, → State.canQueue_fixed', = State.edgeCount_fixed, = State.modGw_fixed, → State.serQueue_fixed']) | (simp [↓apply_ite State.fixed]))))
  | (repeat' split at h
     all_goals (simp only [Host.Outcome.next.injEq] at h; subst h; repeat' (first | (with_reducible rfl) | (simp [↓apply_ite State.fixed]; done) | split | (simp [↓apply_ite State.fixed, *]; done) | (grind [= State.advQ_fixed, → State.canQueue_fixed', = State.edgeCount_fixed, = State.modGw_fixed, → State.serQueue_fixed']) | (simp [↓apply_ite State.fixed]))))

/-! ### EdgeCmds -/

@[simp ↓] theorem edgeCanWrite_fixed (r : Req) (s : State) : (edgeCanWrite.run r s).st.fixed = s.fixed := by simp [edgeCanWrite]; split <;> simp

@[simp ↓] theorem edgeCanRecover_fixed (r : Req) (s : State) : (edgeCanRecover.run r s).st.fixed = s.fixed := (rfl)

@[simp ↓] theorem edgeLinWrite_fixed (r : Req) (s : State) : (edgeLinWrite.run r s).st.fixed = s.fixed := (rfl)

@[simp ↓] theorem edgeLinTableWrite_fixed (r : Req) (s : State) : (edgeLinTableWrite.run r s).st.fixed = s.fixed := (rfl)

@[simp ↓] theorem edgeSerWrite_fixed (r : Req) (s : State) : (edgeSerWrite.run r s).st.fixed = s.fixed := (rfl)

@[simp ↓] theorem edgeTableLoad_fixed (r : Req) (s : State) : (edgeTableLoad.run r s).st.fixed = s.fixed := by
  simp only [edgeTableLoad]
  repeat' (first | (with_reducible rfl) | (simp [Reply.fail, ↓apply_ite Reply.st, ↓apply_ite State.fixed]; done) | split | (simp [Reply.fail, ↓apply_ite Reply.st, ↓apply_ite State.fixed, *]; done) | (grind [= State.modEdge_fixed]) | (simp [Reply.fail, ↓apply_ite Reply.st, ↓apply_ite State.fixed]))

@[simp ↓] theorem edgeWakeWrite_fixed (r : Req) (s : State) : (edgeWakeWrite.run r s).st.fixed = s.fixed := (rfl)

@[simp ↓] theorem edgeConfigRead_fixed (r : Req) (s : State) : (edgeConfigRead.run r s).st.fixed = s.fixed := (rfl)

@[simp ↓] theorem edgeStatusRead_fixed (r : Req) (s : State) : (edgeStatusRead.run r s).st.fixed = s.fixed := by simp [edgeStatusRead]; split <;> simp

theorem execEdgeCanWrite_fixed (r : Req) (s : State) : ∀ t, execEdgeCanWrite r s = .next t → t.fixed = s.fixed := by rintro _ ⟨⟩; exact mailbox_fixed _ _ _ edgeCanWrite_fixed

theorem execEdgeCanRecover_fixed (r : Req) (s : State) : ∀ t, execEdgeCanRecover r s = .next t → t.fixed = s.fixed := by rintro _ ⟨⟩; exact mailbox_fixed _ _ _ edgeCanRecover_fixed

theorem execEdgeLinWrite_fixed (r : Req) (s : State) : ∀ t, execEdgeLinWrite r s = .next t → t.fixed = s.fixed := by rintro _ ⟨⟩; exact mailbox_fixed _ _ _ edgeLinWrite_fixed

theorem execEdgeLinTableWrite_fixed (r : Req) (s : State) : ∀ t, execEdgeLinTableWrite r s = .next t → t.fixed = s.fixed := by rintro _ ⟨⟩; exact mailbox_fixed _ _ _ edgeLinTableWrite_fixed

theorem execEdgeSerWrite_fixed (r : Req) (s : State) : ∀ t, execEdgeSerWrite r s = .next t → t.fixed = s.fixed := by rintro _ ⟨⟩; exact mailbox_fixed _ _ _ edgeSerWrite_fixed

theorem execEdgeTableLoad_fixed (r : Req) (s : State) : ∀ t, execEdgeTableLoad r s = .next t → t.fixed = s.fixed := by rintro _ ⟨⟩; exact mailbox_fixed _ _ _ edgeTableLoad_fixed

theorem execEdgeWakeWrite_fixed (r : Req) (s : State) : ∀ t, execEdgeWakeWrite r s = .next t → t.fixed = s.fixed := by rintro _ ⟨⟩; exact mailbox_fixed _ _ _ edgeWakeWrite_fixed

theorem execEdgeConfigRead_fixed (r : Req) (s : State) : ∀ t, execEdgeConfigRead r s = .next t → t.fixed = s.fixed := by rintro _ ⟨⟩; exact mailbox_fixed _ _ _ edgeConfigRead_fixed

theorem execEdgeStatusRead_fixed (r : Req) (s : State) : ∀ t, execEdgeStatusRead r s = .next t → t.fixed = s.fixed := by rintro _ ⟨⟩; exact mailbox_fixed _ _ _ edgeStatusRead_fixed

/-! ### Images -/

@[simp ↓] theorem State.slotTo_fixed (s : State) (n : Nat) (m : SlotMode) : (State.slotTo s n m).fixed = s.fixed := by simp [State.slotTo, ↓apply_ite State.fixed]

@[simp ↓] theorem State.loadFirmware_fixed (s : State) (d : Fab) (n : Nat) : (State.loadFirmware s d n).fixed = s.fixed := (rfl)

@[simp ↓] theorem State.measure_fixed (s : State) (d : Fab) (n : Nat) : (State.measure s d n).fixed = s.fixed := by unfold State.measure; split <;> simp

@[simp ↓] theorem State.loadCore_fixed (s : State) (d : Fab) (n : Nat) : (State.loadCore s d n).fixed = s.fixed := by simp [State.loadCore]

/-! ### PortCmds -/

@[simp ↓] theorem State.modSecy_fixed (s : State) (p : Nat) (f : SecySt → SecySt) : (State.modSecy s p f).fixed = s.fixed := (rfl)

@[simp ↓] theorem portConfigWrite_fixed (r : Req) (s : State) : (portConfigWrite.run r s).st.fixed = s.fixed := by
  simp only [portConfigWrite]
  repeat' (first | (with_reducible rfl) | (simp [Reply.fail, ↓apply_ite Reply.st, ↓apply_ite State.fixed]; done) | split | (simp [Reply.fail, ↓apply_ite Reply.st, ↓apply_ite State.fixed, *]; done) | (grind [= State.disablePort_fixed, = State.enablePort_fixed, = State.modPort_fixed, = State.train_fixed]) | (simp [Reply.fail, ↓apply_ite Reply.st, ↓apply_ite State.fixed]))

@[simp ↓] theorem portPlcaWrite_fixed (r : Req) (s : State) : (portPlcaWrite.run r s).st.fixed = s.fixed := by simp [portPlcaWrite]; split <;> simp

@[simp ↓] theorem portConfigRead_fixed (r : Req) (s : State) : (portConfigRead.run r s).st.fixed = s.fixed := (rfl)

@[simp ↓] theorem portPlcaRead_fixed (r : Req) (s : State) : (portPlcaRead.run r s).st.fixed = s.fixed := (rfl)

@[simp ↓] theorem portStatusRead_fixed (r : Req) (s : State) : (portStatusRead.run r s).st.fixed = s.fixed := by simp [portStatusRead]; split <;> simp

@[simp ↓] theorem portCableTest_fixed (r : Req) (s : State) : (portCableTest.run r s).st.fixed = s.fixed := by simp [portCableTest]; split <;> simp

@[simp ↓] theorem macsecPortWrite_fixed (r : Req) (s : State) : (macsecPortWrite.run r s).st.fixed = s.fixed := (rfl)

@[simp ↓] theorem macsecMkaWrite_fixed (r : Req) (s : State) : (macsecMkaWrite.run r s).st.fixed = s.fixed := (rfl)

@[simp ↓] theorem macsecStatusRead_fixed (r : Req) (s : State) : (macsecStatusRead.run r s).st.fixed = s.fixed := by simp [macsecStatusRead]; split <;> simp

theorem execPortConfigWrite_fixed (r : Req) (s : State) : ∀ t, execPortConfigWrite r s = .next t → t.fixed = s.fixed := by rintro _ ⟨⟩; exact mailbox_fixed _ _ _ portConfigWrite_fixed

theorem execPortPlcaWrite_fixed (r : Req) (s : State) : ∀ t, execPortPlcaWrite r s = .next t → t.fixed = s.fixed := by rintro _ ⟨⟩; exact mailbox_fixed _ _ _ portPlcaWrite_fixed

theorem execPortConfigRead_fixed (r : Req) (s : State) : ∀ t, execPortConfigRead r s = .next t → t.fixed = s.fixed := by rintro _ ⟨⟩; exact mailbox_fixed _ _ _ portConfigRead_fixed

theorem execPortPlcaRead_fixed (r : Req) (s : State) : ∀ t, execPortPlcaRead r s = .next t → t.fixed = s.fixed := by rintro _ ⟨⟩; exact mailbox_fixed _ _ _ portPlcaRead_fixed

theorem execPortStatusRead_fixed (r : Req) (s : State) : ∀ t, execPortStatusRead r s = .next t → t.fixed = s.fixed := by rintro _ ⟨⟩; exact mailbox_fixed _ _ _ portStatusRead_fixed

theorem execPortCableTest_fixed (r : Req) (s : State) : ∀ t, execPortCableTest r s = .next t → t.fixed = s.fixed := by rintro _ ⟨⟩; exact mailbox_fixed _ _ _ portCableTest_fixed

theorem execCableTestDone_fixed (port result distance : Nat) (s : State) : ∀ t, execCableTestDone port result distance s = .next t → t.fixed = s.fixed := by
  intro t h
  unfold execCableTestDone at h
  first
  | (simp only [Host.Outcome.next.injEq] at h; subst h; repeat' (first | (with_reducible rfl) | (simp [↓apply_ite State.fixed]; done) | split | (simp [↓apply_ite State.fixed, *]; done) | (grind [= State.dropToken_fixed, = State.finish_fixed, = State.modPort_fixed, = State.train_fixed]) | (simp [↓apply_ite State.fixed])))
  | (split at h <;> (simp only [Host.Outcome.next.injEq] at h; subst h; repeat' (first | (with_reducible rfl) | (simp [↓apply_ite State.fixed]; done) | split | (simp [↓apply_ite State.fixed, *]; done) | (grind [= State.dropToken_fixed, = State.finish_fixed, = State.modPort_fixed, = State.train_fixed]) | (simp [↓apply_ite State.fixed]))))
  | (repeat' split at h
     all_goals (simp only [Host.Outcome.next.injEq] at h; subst h; repeat' (first | (with_reducible rfl) | (simp [↓apply_ite State.fixed]; done) | split | (simp [↓apply_ite State.fixed, *]; done) | (grind [= State.dropToken_fixed, = State.finish_fixed, = State.modPort_fixed, = State.train_fixed]) | (simp [↓apply_ite State.fixed]))))

theorem execMacsecPortWrite_fixed (r : Req) (s : State) : ∀ t, execMacsecPortWrite r s = .next t → t.fixed = s.fixed := by rintro _ ⟨⟩; exact mailbox_fixed _ _ _ macsecPortWrite_fixed

theorem execMacsecMkaWrite_fixed (r : Req) (s : State) : ∀ t, execMacsecMkaWrite r s = .next t → t.fixed = s.fixed := by rintro _ ⟨⟩; exact mailbox_fixed _ _ _ macsecMkaWrite_fixed

theorem execMacsecStatusRead_fixed (r : Req) (s : State) : ∀ t, execMacsecStatusRead r s = .next t → t.fixed = s.fixed := by rintro _ ⟨⟩; exact mailbox_fixed _ _ _ macsecStatusRead_fixed

theorem execMkaSakInstall_fixed (port an : Nat) (s : State) : ∀ t, execMkaSakInstall port an s = .next t → t.fixed = s.fixed := by rintro _ ⟨⟩; split <;> simp

theorem execMkaHelloTime_fixed (port : Nat) (heard : List (Nat × Nat)) (s : State) : ∀ t, execMkaHelloTime port heard s = .next t → t.fixed = s.fixed := by
  intro t h
  unfold execMkaHelloTime at h
  first
  | (simp only [Host.Outcome.next.injEq] at h; subst h; repeat' (first | (with_reducible rfl) | (simp [↓apply_ite State.fixed]; done) | split | (simp [↓apply_ite State.fixed, *]; done) | (grind [= State.emit_fixed, = State.mirrorOut_fixed, = State.modSecy_fixed]) | (simp [↓apply_ite State.fixed])))
  | (split at h <;> (simp only [Host.Outcome.next.injEq] at h; subst h; repeat' (first | (with_reducible rfl) | (simp [↓apply_ite State.fixed]; done) | split | (simp [↓apply_ite State.fixed, *]; done) | (grind [= State.emit_fixed, = State.mirrorOut_fixed, = State.modSecy_fixed]) | (simp [↓apply_ite State.fixed]))))
  | (repeat' split at h
     all_goals (simp only [Host.Outcome.next.injEq] at h; subst h; repeat' (first | (with_reducible rfl) | (simp [↓apply_ite State.fixed]; done) | split | (simp [↓apply_ite State.fixed, *]; done) | (grind [= State.emit_fixed, = State.mirrorOut_fixed, = State.modSecy_fixed]) | (simp [↓apply_ite State.fixed]))))

end Machine
end Sys2Proof
end

