-- ==== Sys2Proof/Laws/FixedPair.lean ====
section
/-! SUPPORT. What leaves the queue, the one-time-programmable words and the lock fields: keys, gateway, core pair and host interface. -/

namespace Sys2Proof
namespace Machine

set_option linter.unusedSimpArgs false

/-! ### Keys -/

@[simp ↓] theorem State.setSlot_fixed (s : State) (h : Nat) (k : KeySlot) : (State.setSlot s h k).fixed = s.fixed := (rfl)

theorem State.appendBlobs_fixed (s : State) (img : Nat) (ws : List Word) : ∀ t, State.appendBlobs s img ws = some t → t.fixed = s.fixed := by
  intro t h
  unfold State.appendBlobs at h
  grind [= State.modImg_fixed]

@[simp ↓] theorem State.clearBlobs_fixed (s : State) (img : Nat) (f : Nat → Bool) : (State.clearBlobs s img f).fixed = s.fixed := by simp [State.clearBlobs, ↓apply_ite State.fixed]

@[simp ↓] theorem State.zeroize_fixed (s : State) : (State.zeroize s).fixed = s.fixed := (rfl)

@[simp ↓] theorem State.dropSas_fixed (s : State) : (State.dropSas s).fixed = s.fixed := by simp [State.dropSas]

@[simp ↓] theorem State.abortOn_fixed (s : State) (p : Path) : (State.abortOn s p).1.fixed = s.fixed := by
  unfold State.abortOn
  repeat' (first | (with_reducible rfl) | (simp [↓apply_ite State.fixed]; done) | split | (simp [↓apply_ite State.fixed, *]; done) | (grind [= State.raiseDev_fixed, = State.respond_fixed, = State.zeroize_fixed]) | (simp [↓apply_ite State.fixed]))

theorem State.abortOn_fixed' (s : State) (p : Path) (t) (y) (h : State.abortOn s p = (t, y)) : t.fixed = s.fixed := by
  have := State.abortOn_fixed s p
  rw [h] at this; exact this

@[simp ↓] theorem State.tamper_fixed (s : State) (src : Nat) (during : Option Path) : (State.tamper s src during).fixed = s.fixed := by
  unfold State.tamper
  repeat' (first | (with_reducible rfl) | (simp [↓apply_ite State.fixed]; done) | split | (simp [↓apply_ite State.fixed, *]; done) | (grind [→ State.abortOn_fixed', = State.dropSas_fixed, = State.logFault_fixed, = State.raiseDev_fixed, = State.wakeSource_fixed, = State.zeroize_fixed]) | (simp [↓apply_ite State.fixed]))

theorem execTamperAlarm_fixed (source : Nat) (during : Option Path) (dt : Nat) (s : State) : ∀ t, execTamperAlarm source during dt s = .next t → t.fixed = s.fixed := by rintro _ ⟨⟩; split <;> simp

theorem execCipherLockIdle_fixed (s : State) : ∀ t, execCipherLockIdle s = .next t → t.fixed = s.fixed := by rintro _ ⟨⟩; split <;> simp

theorem execNonceExpiry_fixed (s : State) : ∀ t, execNonceExpiry s = .next t → t.fixed = s.fixed := by rintro _ ⟨⟩; split <;> simp

theorem execOpenLockoutEnd_fixed (s : State) : ∀ t, execOpenLockoutEnd s = .next t → t.fixed = s.fixed := by rintro _ ⟨⟩; split <;> simp

/-! ### Gw -/

@[simp ↓] theorem State.modBundle_fixed (s : State) (i : Nat) (f : Bundle → Bundle) : (State.modBundle s i f).fixed = s.fixed := (rfl)

@[simp ↓] theorem State.modEnt_fixed (s : State) (down : Bool) (i : Nat) (f : GwEnt → GwEnt) : (State.modEnt s down i f).fixed = s.fixed := (rfl)

@[simp ↓] theorem State.entDrop_fixed (s : State) (down : Bool) (i : Nat) (d : GwDrop) : (State.entDrop s down i d).fixed = s.fixed := by simp [State.entDrop]

@[simp ↓] theorem State.gwCount_fixed (s : State) (old : Nat) (f : GwSt → GwSt) : (State.gwCount s old f).fixed = s.fixed := by simp [State.gwCount]

@[simp ↓] theorem State.closeBundle_fixed (s : State) (i : Nat) : (State.closeBundle s i).fixed = s.fixed := by
  unfold State.closeBundle
  repeat' (first | (with_reducible rfl) | (simp [↓apply_ite State.fixed]; done) | split | (simp [↓apply_ite State.fixed, *]; done) | (grind [= State.modBundle_fixed, = State.stage_fixed]) | (simp [↓apply_ite State.fixed]))

@[simp ↓] theorem State.joinBundle_fixed (s : State) (i zone : Nat) (acf : List Byte) : (State.joinBundle s i zone acf).fixed = s.fixed := by simp [State.joinBundle, ↓apply_ite State.fixed]

@[simp ↓] theorem State.gwQueue_fixed (s : State) (d : Nat) (m : GwMsg) (ide : Bool) (id prio : Nat) : (State.gwQueue s d m ide id prio).1.fixed = s.fixed := by
  unfold State.gwQueue
  repeat' (first | (with_reducible rfl) | (simp [↓apply_ite State.fixed]; done) | split | (simp [↓apply_ite State.fixed, *]; done) | (grind [→ State.canQueue_fixed', = State.modLin_fixed, → State.serQueue_fixed']) | (simp [↓apply_ite State.fixed]))

theorem State.gwQueue_fixed' (s : State) (d : Nat) (m : GwMsg) (ide : Bool) (id prio : Nat) (t) (y) (h : State.gwQueue s d m ide id prio = (t, y)) : t.fixed = s.fixed := by
  have := State.gwQueue_fixed s d m ide id prio
  rw [h] at this; exact this

@[simp ↓] theorem State.gwOffer_fixed (s : State) (down : Bool) (i d zone : Nat) (m : GwMsg) : (State.gwOffer s down i d zone m).fixed = s.fixed := by
  unfold State.gwOffer
  repeat' (first | (with_reducible rfl) | (simp [↓apply_ite State.fixed]; done) | split | (simp [↓apply_ite State.fixed, *]; done) | (grind [= State.entDrop_fixed, → State.gwQueue_fixed']) | (simp [↓apply_ite State.fixed]))

theorem State.rxTake_fixed (s : State) (c : Nat) : ∀ m t, State.rxTake s c = some (m, t) → t.fixed = s.fixed := by
  intro m t h
  unfold State.rxTake at h
  grind [= State.modCan_fixed, = State.modLin_fixed, = State.modSer_fixed]

@[simp ↓] theorem State.entMatch_fixed (s : State) (down : Bool) (i : Nat) : (State.entMatch s down i).1.fixed = s.fixed := by
  unfold State.entMatch
  repeat' (first | (with_reducible rfl) | (simp [↓apply_ite State.fixed]; done) | split | (simp [↓apply_ite State.fixed, *]; done) | (grind [= State.entDrop_fixed, = State.modEnt_fixed, = CmdSpec.take_fixed]) | (simp [↓apply_ite State.fixed]))

theorem State.entMatch_fixed' (s : State) (down : Bool) (i : Nat) (t) (y) (h : State.entMatch s down i = (t, y)) : t.fixed = s.fixed := by
  have := State.entMatch_fixed s down i
  rw [h] at this; exact this

@[simp ↓] theorem State.slotWrite_fixed (s : State) (n : Nat) (data : List Byte) : (State.slotWrite s n data).fixed = s.fixed := (rfl)

@[simp ↓] theorem State.gwDown_fixed (s : State) (x : GwIn) (bs : List Byte) : (State.gwDown s x bs).fixed = s.fixed := by
  unfold State.gwDown
  repeat' (first | (with_reducible rfl) | (simp [↓apply_ite State.fixed]; done) | split | (simp [↓apply_ite State.fixed, *]; done) | (grind [= State.entDrop_fixed, → State.entMatch_fixed', = State.gwCount_fixed, = State.gwOffer_fixed, = State.slotWrite_fixed]) | (simp [↓apply_ite State.fixed]))

@[simp ↓] theorem State.gapFresh_fixed (s : State) : (State.gapFresh s).fixed = s.fixed := (rfl)

theorem execGwUplinkMatch_fixed (chan : Nat) (s : State) : ∀ t, execGwUplinkMatch chan s = .next t → t.fixed = s.fixed := by
  intro t h
  unfold execGwUplinkMatch at h
  simp only [Host.Outcome.next.injEq] at h; subst h
  split
  · rfl
  · split
    · rfl
    · rename_i m s1 hr
      have h1 := State.rxTake_fixed _ _ _ _ hr
      split
      · simpa using h1
      · rename_i i hi
        split
        · rename_i s2 he
          have h2 := State.entMatch_fixed' _ _ _ _ _ he
          simpa [h1] using h2
        · rename_i s2 he
          have h2 := State.entMatch_fixed' _ _ _ _ _ he
          simp only [h1] at h2
          split
          · rw [foldl_fixed]
            · split <;> simpa using h2
            · intros; simp
          · split <;> simpa using h2

theorem execBundleMaxWait_fixed (bundle : Nat) (s : State) : ∀ t, execBundleMaxWait bundle s = .next t → t.fixed = s.fixed := by rintro _ ⟨⟩; split <;> simp

theorem execGwFrameDecode_fixed (s : State) : ∀ t, execGwFrameDecode s = .next t → t.fixed = s.fixed := by
  intro t h
  unfold execGwFrameDecode at h
  first
  | (simp only [Host.Outcome.next.injEq] at h; subst h; repeat' (first | (with_reducible rfl) | (simp [↓apply_ite State.fixed]; done) | split | (simp [↓apply_ite State.fixed, *]; done) | (grind [= State.gwCount_fixed, = State.gwDown_fixed, = State.modGw_fixed]) | (simp [↓apply_ite State.fixed])))
  | (split at h <;> (simp only [Host.Outcome.next.injEq] at h; subst h; repeat' (first | (with_reducible rfl) | (simp [↓apply_ite State.fixed]; done) | split | (simp [↓apply_ite State.fixed, *]; done) | (grind [= State.gwCount_fixed, = State.gwDown_fixed, = State.modGw_fixed]) | (simp [↓apply_ite State.fixed]))))
  | (repeat' split at h
     all_goals (simp only [Host.Outcome.next.injEq] at h; subst h; repeat' (first | (with_reducible rfl) | (simp [↓apply_ite State.fixed]; done) | split | (simp [↓apply_ite State.fixed, *]; done) | (grind [= State.gwCount_fixed, = State.gwDown_fixed, = State.modGw_fixed]) | (simp [↓apply_ite State.fixed]))))

theorem execPeriodicSlotInstant_fixed (slot : Nat) (s : State) : ∀ t, execPeriodicSlotInstant slot s = .next t → t.fixed = s.fixed := by
  intro t h
  unfold execPeriodicSlotInstant at h
  first
  | (simp only [Host.Outcome.next.injEq] at h; subst h; repeat' (first | (with_reducible rfl) | (simp [↓apply_ite State.fixed]; done) | split | (simp [↓apply_ite State.fixed, *]; done) | (grind [= State.advQ_fixed, → State.canQueue_fixed', = State.modSlot_fixed, = State.raiseDev_fixed, → State.serQueue_fixed']) | (simp [↓apply_ite State.fixed])))
  | (split at h <;> (simp only [Host.Outcome.next.injEq] at h; subst h; repeat' (first | (with_reducible rfl) | (simp [↓apply_ite State.fixed]; done) | split | (simp [↓apply_ite State.fixed, *]; done) | (grind [= State.advQ_fixed, → State.canQueue_fixed', = State.modSlot_fixed, = State.raiseDev_fixed, → State.serQueue_fixed']) | (simp [↓apply_ite State.fixed]))))
  | (repeat' split at h
     all_goals (simp only [Host.Outcome.next.injEq] at h; subst h; repeat' (first | (with_reducible rfl) | (simp [↓apply_ite State.fixed]; done) | split | (simp [↓apply_ite State.fixed, *]; done) | (grind [= State.advQ_fixed, → State.canQueue_fixed', = State.modSlot_fixed, = State.raiseDev_fixed, → State.serQueue_fixed']) | (simp [↓apply_ite State.fixed]))))

theorem execPeriodicStale_fixed (slot : Nat) (s : State) : ∀ t, execPeriodicStale slot s = .next t → t.fixed = s.fixed := by rintro _ ⟨⟩; split <;> simp

/-! ### Pair -/

@[simp ↓] theorem State.updTo_fixed (s : State) (m : UpdMode) : (State.updTo s m).fixed = s.fixed := by simp [State.updTo, ↓apply_ite State.fixed]

@[simp ↓] theorem State.rejectTarget_fixed (s : State) (why : Nat) : (State.rejectTarget s why).fixed = s.fixed := by simp [State.rejectTarget]

@[simp ↓] theorem State.detach_fixed (s : State) (d : Fab) : (State.detach s d).fixed = s.fixed := by simp [State.detach, ↓apply_ite State.fixed]

@[simp ↓] theorem State.endSession_fixed (s : State) : (State.endSession s).fixed = s.fixed := by simp [State.endSession]

@[simp ↓] theorem State.startCore_fixed (s : State) (d : Fab) (n : Nat) : (State.startCore s d n).fixed = s.fixed := by simp [State.startCore, ↓apply_ite State.fixed]

@[simp ↓] theorem State.dropLining_fixed (s : State) : (State.dropLining s).fixed = s.fixed := by simp [State.dropLining]

@[simp ↓] theorem State.restartStandby_fixed (s : State) (n : Nat) : (State.restartStandby s n).fixed = s.fixed := by simp [State.restartStandby]

@[simp ↓] theorem State.updateFault_fixed (s : State) : (State.updateFault s).fixed = s.fixed := by unfold State.updateFault; split <;> simp

@[simp ↓] theorem State.configAgain_fixed (s : State) (c : Fab) : (State.configAgain s c).fixed = s.fixed := by
  unfold State.configAgain
  simp
  have hx : ((s.modCore c fun k => { k with mode := .failed }).modCore c.other fun k => { k with mode := .active }).fixed = s.fixed := by simp
  exact hx

@[simp ↓] theorem State.coreFails_fixed (s : State) (c : Fab) (cls : Nat) : (State.coreFails s c cls).fixed = s.fixed := by simp [State.coreFails, ↓apply_ite State.fixed]

@[simp ↓] theorem State.forgetPath_fixed (s : State) (p : Path) : (State.forgetPath s p).fixed = s.fixed := by simp [State.forgetPath]

@[simp ↓] theorem State.fence_fixed (s : State) : (State.fence s).fixed = s.fixed := by simp [State.fence, ↓apply_ite State.fixed]

@[simp ↓] theorem State.timeoutOrphans_fixed (s : State) : (State.timeoutOrphans s).fixed = s.fixed := by
  unfold State.timeoutOrphans
  apply foldl_fixed
  intro s p
  repeat' split
  all_goals simp

@[simp ↓] theorem State.trialHold_fixed (s : State) (stop : Bool) : (State.trialHold s stop).fixed = s.fixed := (rfl)

@[simp ↓] theorem State.openGap_fixed (s : State) (m : PairMode) (cause : Nat) : (State.openGap s m cause).fixed = s.fixed := (rfl)

@[simp ↓] theorem State.applyLining_fixed (s : State) (r : List Word) : (State.applyLining s r).fixed = s.fixed := by simp [State.applyLining, ↓apply_ite State.fixed]

@[simp ↓] theorem State.ackLining_fixed (s : State) (e : List Word × Fab × Nat × Nat) : (State.ackLining s e).fixed = s.fixed := by simp [State.ackLining]

@[simp ↓] theorem State.gapAnswers_fixed (s : State) : (State.gapAnswers s).fixed = s.fixed := by
  unfold State.gapAnswers
  repeat' (first | (with_reducible rfl) | (simp [↓apply_ite State.fixed]; done) | split | (simp [↓apply_ite State.fixed, *]; done) | (grind [= State.finish_fixed, = State.modImg_fixed, = State.modPair_fixed, = State.timeoutOrphans_fixed]) | (simp [↓apply_ite State.fixed]))

@[simp ↓] theorem State.warmUpdate_fixed (s : State) : (State.warmUpdate s).fixed = s.fixed := by unfold State.warmUpdate; split <;> simp

@[simp ↓] theorem State.handoverFails_fixed (s : State) : (State.handoverFails s).fixed = s.fixed := by
  unfold State.handoverFails
  repeat' (first | (with_reducible rfl) | (simp [↓apply_ite State.fixed]; done) | split | (simp [↓apply_ite State.fixed, *]; done) | (grind [= State.finish_fixed, = State.modImg_fixed, = State.rejectTarget_fixed, = State.restartStandby_fixed, = State.updTo_fixed]) | (simp [↓apply_ite State.fixed]))

@[simp ↓] theorem State.fallBack_fixed (s : State) (why : Nat) : (State.fallBack s why).fixed = s.fixed := by simp [State.fallBack]

theorem execGapStart_fixed (dt : Nat) (s : State) : ∀ t, execGapStart dt s = .next t → t.fixed = s.fixed := by
  intro t h
  unfold execGapStart at h
  first
  | (simp only [Host.Outcome.next.injEq] at h; subst h; repeat' (first | (with_reducible rfl) | (simp [↓apply_ite State.fixed]; done) | split | (simp [↓apply_ite State.fixed, *]; done) | (grind [= State.adv_fixed, = State.fallback_fixed, = State.fence_fixed, = State.finish_fixed, = State.flushOutput_fixed, = State.modCore_fixed, = State.modImg_fixed, = State.modPair_fixed, = State.openGap_fixed, = State.raiseDev_fixed]) | (simp [↓apply_ite State.fixed])))
  | (split at h <;> (simp only [Host.Outcome.next.injEq] at h; subst h; repeat' (first | (with_reducible rfl) | (simp [↓apply_ite State.fixed]; done) | split | (simp [↓apply_ite State.fixed, *]; done) | (grind [= State.adv_fixed, = State.fallback_fixed, = State.fence_fixed, = State.finish_fixed, = State.flushOutput_fixed, = State.modCore_fixed, = State.modImg_fixed, = State.modPair_fixed, = State.openGap_fixed, = State.raiseDev_fixed]) | (simp [↓apply_ite State.fixed]))))
  | (repeat' split at h
     all_goals (simp only [Host.Outcome.next.injEq] at h; subst h; repeat' (first | (with_reducible rfl) | (simp [↓apply_ite State.fixed]; done) | split | (simp [↓apply_ite State.fixed, *]; done) | (grind [= State.adv_fixed, = State.fallback_fixed, = State.fence_fixed, = State.finish_fixed, = State.flushOutput_fixed, = State.modCore_fixed, = State.modImg_fixed, = State.modPair_fixed, = State.openGap_fixed, = State.raiseDev_fixed]) | (simp [↓apply_ite State.fixed]))))

theorem execLiningRecordRx_fixed (rec : List Word) (s : State) : ∀ t, execLiningRecordRx rec s = .next t → t.fixed = s.fixed := by rintro _ ⟨⟩; split <;> simp

theorem execLiningAuditTimer_fixed (s : State) : ∀ t, execLiningAuditTimer s = .next t → t.fixed = s.fixed := by rintro _ ⟨⟩; split <;> simp

theorem execStandbyLiningApplied_fixed (dt : Nat) (s : State) : ∀ t, execStandbyLiningApplied dt s = .next t → t.fixed = s.fixed := by rintro _ ⟨⟩; split <;> simp

theorem execGapEnd_fixed (dt : Nat) (s : State) : ∀ t, execGapEnd dt s = .next t → t.fixed = s.fixed := by
  intro t h
  unfold execGapEnd at h
  first
  | (simp only [Host.Outcome.next.injEq] at h; subst h; repeat' (first | (with_reducible rfl) | (simp [↓apply_ite State.fixed]; done) | split | (simp [↓apply_ite State.fixed, *]; done) | (grind [= State.adv_fixed, = State.fallback_fixed, = State.gapAnswers_fixed, = State.gapFresh_fixed, = State.modCore_fixed, = State.modPair_fixed, = State.restartStandby_fixed, = State.startCatchUp_fixed, = State.trialHold_fixed]) | (simp [↓apply_ite State.fixed])))
  | (split at h <;> (simp only [Host.Outcome.next.injEq] at h; subst h; repeat' (first | (with_reducible rfl) | (simp [↓apply_ite State.fixed]; done) | split | (simp [↓apply_ite State.fixed, *]; done) | (grind [= State.adv_fixed, = State.fallback_fixed, = State.gapAnswers_fixed, = State.gapFresh_fixed, = State.modCore_fixed, = State.modPair_fixed, = State.restartStandby_fixed, = State.startCatchUp_fixed, = State.trialHold_fixed]) | (simp [↓apply_ite State.fixed]))))
  | (repeat' split at h
     all_goals (simp only [Host.Outcome.next.injEq] at h; subst h; repeat' (first | (with_reducible rfl) | (simp [↓apply_ite State.fixed]; done) | split | (simp [↓apply_ite State.fixed, *]; done) | (grind [= State.adv_fixed, = State.fallback_fixed, = State.gapAnswers_fixed, = State.gapFresh_fixed, = State.modCore_fixed, = State.modPair_fixed, = State.restartStandby_fixed, = State.startCatchUp_fixed, = State.trialHold_fixed]) | (simp [↓apply_ite State.fixed]))))

theorem execRestartCaughtUp_fixed (dt : Nat) (s : State) : ∀ t, execRestartCaughtUp dt s = .next t → t.fixed = s.fixed := by
  intro t h
  unfold execRestartCaughtUp at h
  first
  | (simp only [Host.Outcome.next.injEq] at h; subst h; repeat' (first | (with_reducible rfl) | (simp [↓apply_ite State.fixed]; done) | split | (simp [↓apply_ite State.fixed, *]; done) | (grind [= State.adv_fixed, = State.dropLining_fixed, = State.fallback_fixed, = State.finish_fixed, = State.gapFresh_fixed, = State.modCore_fixed, = State.modImg_fixed, = State.modPair_fixed, = State.restartStandby_fixed, = State.startCore_fixed, = State.timeoutOrphans_fixed, = State.trialHold_fixed]) | (simp [↓apply_ite State.fixed])))
  | (split at h <;> (simp only [Host.Outcome.next.injEq] at h; subst h; repeat' (first | (with_reducible rfl) | (simp [↓apply_ite State.fixed]; done) | split | (simp [↓apply_ite State.fixed, *]; done) | (grind [= State.adv_fixed, = State.dropLining_fixed, = State.fallback_fixed, = State.finish_fixed, = State.gapFresh_fixed, = State.modCore_fixed, = State.modImg_fixed, = State.modPair_fixed, = State.restartStandby_fixed, = State.startCore_fixed, = State.timeoutOrphans_fixed, = State.trialHold_fixed]) | (simp [↓apply_ite State.fixed]))))
  | (repeat' split at h
     all_goals (simp only [Host.Outcome.next.injEq] at h; subst h; repeat' (first | (with_reducible rfl) | (simp [↓apply_ite State.fixed]; done) | split | (simp [↓apply_ite State.fixed, *]; done) | (grind [= State.adv_fixed, = State.dropLining_fixed, = State.fallback_fixed, = State.finish_fixed, = State.gapFresh_fixed, = State.modCore_fixed, = State.modImg_fixed, = State.modPair_fixed, = State.restartStandby_fixed, = State.startCore_fixed, = State.timeoutOrphans_fixed, = State.trialHold_fixed]) | (simp [↓apply_ite State.fixed]))))

theorem execCatchupComplete_fixed (s : State) : ∀ t, execCatchupComplete s = .next t → t.fixed = s.fixed := by
  intro t h
  unfold execCatchupComplete at h
  first
  | (simp only [Host.Outcome.next.injEq] at h; subst h; repeat' (first | (with_reducible rfl) | (simp [↓apply_ite State.fixed]; done) | split | (simp [↓apply_ite State.fixed, *]; done) | (grind [= State.modCore_fixed, = State.modPair_fixed, = State.warmUpdate_fixed]) | (simp [↓apply_ite State.fixed])))
  | (split at h <;> (simp only [Host.Outcome.next.injEq] at h; subst h; repeat' (first | (with_reducible rfl) | (simp [↓apply_ite State.fixed]; done) | split | (simp [↓apply_ite State.fixed, *]; done) | (grind [= State.modCore_fixed, = State.modPair_fixed, = State.warmUpdate_fixed]) | (simp [↓apply_ite State.fixed]))))
  | (repeat' split at h
     all_goals (simp only [Host.Outcome.next.injEq] at h; subst h; repeat' (first | (with_reducible rfl) | (simp [↓apply_ite State.fixed]; done) | split | (simp [↓apply_ite State.fixed, *]; done) | (grind [= State.modCore_fixed, = State.modPair_fixed, = State.warmUpdate_fixed]) | (simp [↓apply_ite State.fixed]))))

theorem execHandoverTimeout_fixed (s : State) : ∀ t, execHandoverTimeout s = .next t → t.fixed = s.fixed := by rintro _ ⟨⟩; split <;> simp

theorem execTrialTimeout_fixed (s : State) : ∀ t, execTrialTimeout s = .next t → t.fixed = s.fixed := by rintro _ ⟨⟩; split <;> simp

theorem execCoreRestartFailed_fixed (core : Fab) (verify : Bool) (s : State) : ∀ t, execCoreRestartFailed core verify s = .next t → t.fixed = s.fixed := by
  intro t h
  unfold execCoreRestartFailed at h
  first
  | (simp only [Host.Outcome.next.injEq] at h; subst h; repeat' (first | (with_reducible rfl) | (simp [↓apply_ite State.fixed]; done) | split | (simp [↓apply_ite State.fixed, *]; done) | (grind [= State.handoverFails_fixed, = State.logFault_fixed, = State.modCore_fixed]) | (simp [↓apply_ite State.fixed])))
  | (split at h <;> (simp only [Host.Outcome.next.injEq] at h; subst h; repeat' (first | (with_reducible rfl) | (simp [↓apply_ite State.fixed]; done) | split | (simp [↓apply_ite State.fixed, *]; done) | (grind [= State.handoverFails_fixed, = State.logFault_fixed, = State.modCore_fixed]) | (simp [↓apply_ite State.fixed]))))
  | (repeat' split at h
     all_goals (simp only [Host.Outcome.next.injEq] at h; subst h; repeat' (first | (with_reducible rfl) | (simp [↓apply_ite State.fixed]; done) | split | (simp [↓apply_ite State.fixed, *]; done) | (grind [= State.handoverFails_fixed, = State.logFault_fixed, = State.modCore_fixed]) | (simp [↓apply_ite State.fixed]))))

theorem execDepotSessionTimeout_fixed (s : State) : ∀ t, execDepotSessionTimeout s = .next t → t.fixed = s.fixed := by rintro _ ⟨⟩; split <;> simp

/-! ### Guard -/

@[simp ↓] theorem State.owes_fixed (s : State) (c : Fab) (checker : Bool) : (State.owes s c checker).fixed = s.fixed := (rfl)

@[simp ↓] theorem State.oddPass_fixed (s : State) (c : Fab) (pass : Nat) : (State.oddPass s c pass).fixed = s.fixed := by
  unfold State.oddPass
  repeat' (first | (with_reducible rfl) | (simp [↓apply_ite State.fixed]; done) | split | (simp [↓apply_ite State.fixed, *]; done) | (grind [= State.coreTick_fixed, = State.modCore_fixed, = State.owes_fixed]) | (simp [↓apply_ite State.fixed]))

@[simp ↓] theorem State.holdParity_fixed (s : State) (c : Fab) : (State.holdParity s c).fixed = s.fixed := by simp [State.holdParity, ↓apply_ite State.fixed]

@[simp ↓] theorem State.tripwire_fixed (s : State) (c : Fab) (passed : Bool) : (State.tripwire s c passed).fixed = s.fixed := by simp [State.tripwire, ↓apply_ite State.fixed]

theorem execGuardSegmentEnd_fixed (core : Fab) (first : Bool) (a b c : List RegWrite) (parity : Bool) (s : State) : ∀ t, execGuardSegmentEnd core first a b c parity s = .next t → t.fixed = s.fixed := by
  intro t h
  unfold execGuardSegmentEnd at h
  first
  | (simp only [Host.Outcome.next.injEq] at h; subst h; repeat' (first | (with_reducible rfl) | (simp [↓apply_ite State.fixed]; done) | split | (simp [↓apply_ite State.fixed, *]; done) | (grind [= State.coreTick_fixed, = State.holdParity_fixed, = State.modCore_fixed, = State.oddPass_fixed, = State.owes_fixed]) | (simp [↓apply_ite State.fixed])))
  | (split at h <;> (simp only [Host.Outcome.next.injEq] at h; subst h; repeat' (first | (with_reducible rfl) | (simp [↓apply_ite State.fixed]; done) | split | (simp [↓apply_ite State.fixed, *]; done) | (grind [= State.coreTick_fixed, = State.holdParity_fixed, = State.modCore_fixed, = State.oddPass_fixed, = State.owes_fixed]) | (simp [↓apply_ite State.fixed]))))
  | (repeat' split at h
     all_goals (simp only [Host.Outcome.next.injEq] at h; subst h; repeat' (first | (with_reducible rfl) | (simp [↓apply_ite State.fixed]; done) | split | (simp [↓apply_ite State.fixed, *]; done) | (grind [= State.coreTick_fixed, = State.holdParity_fixed, = State.modCore_fixed, = State.oddPass_fixed, = State.owes_fixed]) | (simp [↓apply_ite State.fixed]))))

theorem execTripwireTimer_fixed (core : Fab) (first again : Nat × Nat × Nat) (s : State) : ∀ t, execTripwireTimer core first again s = .next t → t.fixed = s.fixed := by
  intro t h
  unfold execTripwireTimer at h
  first
  | (simp only [Host.Outcome.next.injEq] at h; subst h; repeat' (first | (with_reducible rfl) | (simp [↓apply_ite State.fixed]; done) | split | (simp [↓apply_ite State.fixed, *]; done) | (grind [= State.owes_fixed, = State.tripwire_fixed]) | (simp [↓apply_ite State.fixed])))
  | (split at h <;> (simp only [Host.Outcome.next.injEq] at h; subst h; repeat' (first | (with_reducible rfl) | (simp [↓apply_ite State.fixed]; done) | split | (simp [↓apply_ite State.fixed, *]; done) | (grind [= State.owes_fixed, = State.tripwire_fixed]) | (simp [↓apply_ite State.fixed]))))
  | (repeat' split at h
     all_goals (simp only [Host.Outcome.next.injEq] at h; subst h; repeat' (first | (with_reducible rfl) | (simp [↓apply_ite State.fixed]; done) | split | (simp [↓apply_ite State.fixed, *]; done) | (grind [= State.owes_fixed, = State.tripwire_fixed]) | (simp [↓apply_ite State.fixed]))))

theorem execSramEccError_fixed (core : Fab) (err : EccErr) (s : State) : ∀ t, execSramEccError core err s = .next t → t.fixed = s.fixed := by
  intro t h
  unfold execSramEccError at h
  first
  | (simp only [Host.Outcome.next.injEq] at h; subst h; repeat' (first | (with_reducible rfl) | (simp [↓apply_ite State.fixed]; done) | split | (simp [↓apply_ite State.fixed, *]; done) | (grind [= State.coreTick_fixed, = State.modCore_fixed, = State.oddPass_fixed, = State.owes_fixed]) | (simp [↓apply_ite State.fixed])))
  | (split at h <;> (simp only [Host.Outcome.next.injEq] at h; subst h; repeat' (first | (with_reducible rfl) | (simp [↓apply_ite State.fixed]; done) | split | (simp [↓apply_ite State.fixed, *]; done) | (grind [= State.coreTick_fixed, = State.modCore_fixed, = State.oddPass_fixed, = State.owes_fixed]) | (simp [↓apply_ite State.fixed]))))
  | (repeat' split at h
     all_goals (simp only [Host.Outcome.next.injEq] at h; subst h; repeat' (first | (with_reducible rfl) | (simp [↓apply_ite State.fixed]; done) | split | (simp [↓apply_ite State.fixed, *]; done) | (grind [= State.coreTick_fixed, = State.modCore_fixed, = State.oddPass_fixed, = State.owes_fixed]) | (simp [↓apply_ite State.fixed]))))

theorem execHeartbeatTx_fixed (core : Fab) (s : State) : ∀ t, execHeartbeatTx core s = .next t → t.fixed = s.fixed := by
  intro t h
  unfold execHeartbeatTx at h
  first
  | (simp only [Host.Outcome.next.injEq] at h; subst h; repeat' (first | (with_reducible rfl) | (simp [↓apply_ite State.fixed]; done) | split | (simp [↓apply_ite State.fixed, *]; done) | (grind [= State.modCore_fixed, = State.sendSnapshot_fixed]) | (simp [↓apply_ite State.fixed])))
  | (split at h <;> (simp only [Host.Outcome.next.injEq] at h; subst h; repeat' (first | (with_reducible rfl) | (simp [↓apply_ite State.fixed]; done) | split | (simp [↓apply_ite State.fixed, *]; done) | (grind [= State.modCore_fixed, = State.sendSnapshot_fixed]) | (simp [↓apply_ite State.fixed]))))
  | (repeat' split at h
     all_goals (simp only [Host.Outcome.next.injEq] at h; subst h; repeat' (first | (with_reducible rfl) | (simp [↓apply_ite State.fixed]; done) | split | (simp [↓apply_ite State.fixed, *]; done) | (grind [= State.modCore_fixed, = State.sendSnapshot_fixed]) | (simp [↓apply_ite State.fixed]))))

theorem execHeartbeatLoss_fixed (core : Fab) (s : State) : ∀ t, execHeartbeatLoss core s = .next t → t.fixed = s.fixed := by
  intro t h
  unfold execHeartbeatLoss at h
  first
  | (simp only [Host.Outcome.next.injEq] at h; subst h; repeat' (first | (with_reducible rfl) | (simp [↓apply_ite State.fixed]; done) | split | (simp [↓apply_ite State.fixed, *]; done) | (grind [= State.advNs_fixed, = State.coreFails_fixed, = State.modCore_fixed]) | (simp [↓apply_ite State.fixed])))
  | (split at h <;> (simp only [Host.Outcome.next.injEq] at h; subst h; repeat' (first | (with_reducible rfl) | (simp [↓apply_ite State.fixed]; done) | split | (simp [↓apply_ite State.fixed, *]; done) | (grind [= State.advNs_fixed, = State.coreFails_fixed, = State.modCore_fixed]) | (simp [↓apply_ite State.fixed]))))
  | (repeat' split at h
     all_goals (simp only [Host.Outcome.next.injEq] at h; subst h; repeat' (first | (with_reducible rfl) | (simp [↓apply_ite State.fixed]; done) | split | (simp [↓apply_ite State.fixed, *]; done) | (grind [= State.advNs_fixed, = State.coreFails_fixed, = State.modCore_fixed]) | (simp [↓apply_ite State.fixed]))))

theorem execCoreDomainLost_fixed (core : Fab) (dt : Nat) (s : State) : ∀ t, execCoreDomainLost core dt s = .next t → t.fixed = s.fixed := by
  intro t h
  unfold execCoreDomainLost at h
  first
  | (simp only [Host.Outcome.next.injEq] at h; subst h; repeat' (first | (with_reducible rfl) | (simp [↓apply_ite State.fixed]; done) | split | (simp [↓apply_ite State.fixed, *]; done) | (grind [= State.adv_fixed, = State.coreFails_fixed, = State.detach_fixed, = State.domTo_fixed]) | (simp [↓apply_ite State.fixed])))
  | (split at h <;> (simp only [Host.Outcome.next.injEq] at h; subst h; repeat' (first | (with_reducible rfl) | (simp [↓apply_ite State.fixed]; done) | split | (simp [↓apply_ite State.fixed, *]; done) | (grind [= State.adv_fixed, = State.coreFails_fixed, = State.detach_fixed, = State.domTo_fixed]) | (simp [↓apply_ite State.fixed]))))
  | (repeat' split at h
     all_goals (simp only [Host.Outcome.next.injEq] at h; subst h; repeat' (first | (with_reducible rfl) | (simp [↓apply_ite State.fixed]; done) | split | (simp [↓apply_ite State.fixed, *]; done) | (grind [= State.adv_fixed, = State.coreFails_fixed, = State.detach_fixed, = State.domTo_fixed]) | (simp [↓apply_ite State.fixed]))))

theorem execCoreFaultReport_fixed (core : Fab) (s : State) : ∀ t, execCoreFaultReport core s = .next t → t.fixed = s.fixed := by
  intro t h
  unfold execCoreFaultReport at h
  first
  | (simp only [Host.Outcome.next.injEq] at h; subst h; repeat' (first | (with_reducible rfl) | (simp [↓apply_ite State.fixed]; done) | split | (simp [↓apply_ite State.fixed, *]; done) | (grind [= State.coreFails_fixed]) | (simp [↓apply_ite State.fixed])))
  | (split at h <;> (simp only [Host.Outcome.next.injEq] at h; subst h; repeat' (first | (with_reducible rfl) | (simp [↓apply_ite State.fixed]; done) | split | (simp [↓apply_ite State.fixed, *]; done) | (grind [= State.coreFails_fixed]) | (simp [↓apply_ite State.fixed]))))
  | (repeat' split at h
     all_goals (simp only [Host.Outcome.next.injEq] at h; subst h; repeat' (first | (with_reducible rfl) | (simp [↓apply_ite State.fixed]; done) | split | (simp [↓apply_ite State.fixed, *]; done) | (grind [= State.coreFails_fixed]) | (simp [↓apply_ite State.fixed]))))

/-! ### GwCmds -/

@[simp ↓] theorem State.gwZoneOf_fixed (s : State) (stream : Nat) (zone : Option Nat) : (State.gwZoneOf s stream zone).fixed = s.fixed := by
  unfold State.gwZoneOf
  repeat' (first | (with_reducible rfl) | (simp [↓apply_ite State.fixed]; done) | split | (simp [↓apply_ite State.fixed, *]; done) | (grind [= State.modZon_fixed]) | (simp [↓apply_ite State.fixed]))

@[simp ↓] theorem State.gwClear_fixed (s : State) (kind i : Nat) : (State.gwClear s kind i).fixed = s.fixed := by unfold State.gwClear; split <;> simp

@[simp ↓] theorem gwBundleWrite_fixed (r : Req) (s : State) : (gwBundleWrite.run r s).st.fixed = s.fixed := by simp [gwBundleWrite]

@[simp ↓] theorem gwUpWrite_fixed (r : Req) (s : State) : (gwUpWrite.run r s).st.fixed = s.fixed := (rfl)

@[simp ↓] theorem gwDownWrite_fixed (r : Req) (s : State) : (gwDownWrite.run r s).st.fixed = s.fixed := by
  simp only [gwDownWrite]
  repeat' (first | (with_reducible rfl) | (simp [Reply.fail, ↓apply_ite Reply.st, ↓apply_ite State.fixed]; done) | split | (simp [Reply.fail, ↓apply_ite Reply.st, ↓apply_ite State.fixed, *]; done) | (grind [= State.gwZoneOf_fixed, = State.modEnt_fixed]) | (simp [Reply.fail, ↓apply_ite Reply.st, ↓apply_ite State.fixed]))

@[simp ↓] theorem gwPeriodicWrite_fixed (r : Req) (s : State) : (gwPeriodicWrite.run r s).st.fixed = s.fixed := (rfl)

@[simp ↓] theorem gwPeriodicData_fixed (r : Req) (s : State) : (gwPeriodicData.run r s).st.fixed = s.fixed := by simp [gwPeriodicData]; split <;> simp

@[simp ↓] theorem gwRead_fixed (r : Req) (s : State) : (gwRead.run r s).st.fixed = s.fixed := (rfl)

@[simp ↓] theorem gwStatsRead_fixed (r : Req) (s : State) : (gwStatsRead.run r s).st.fixed = s.fixed := by simp [gwStatsRead]; split <;> simp

theorem execGwBundleWrite_fixed (r : Req) (s : State) : ∀ t, execGwBundleWrite r s = .next t → t.fixed = s.fixed := by rintro _ ⟨⟩; exact mailbox_fixed _ _ _ gwBundleWrite_fixed

theorem execGwUpWrite_fixed (r : Req) (s : State) : ∀ t, execGwUpWrite r s = .next t → t.fixed = s.fixed := by rintro _ ⟨⟩; exact mailbox_fixed _ _ _ gwUpWrite_fixed

theorem execGwDownWrite_fixed (r : Req) (s : State) : ∀ t, execGwDownWrite r s = .next t → t.fixed = s.fixed := by rintro _ ⟨⟩; exact mailbox_fixed _ _ _ gwDownWrite_fixed

theorem execGwPeriodicWrite_fixed (r : Req) (s : State) : ∀ t, execGwPeriodicWrite r s = .next t → t.fixed = s.fixed := by rintro _ ⟨⟩; exact mailbox_fixed _ _ _ gwPeriodicWrite_fixed

theorem execGwPeriodicData_fixed (r : Req) (s : State) : ∀ t, execGwPeriodicData r s = .next t → t.fixed = s.fixed := by rintro _ ⟨⟩; exact mailbox_fixed _ _ _ gwPeriodicData_fixed

theorem execGwRead_fixed (r : Req) (s : State) : ∀ t, execGwRead r s = .next t → t.fixed = s.fixed := by rintro _ ⟨⟩; exact mailbox_fixed _ _ _ gwRead_fixed

theorem execGwStatsRead_fixed (r : Req) (s : State) : ∀ t, execGwStatsRead r s = .next t → t.fixed = s.fixed := by rintro _ ⟨⟩; exact mailbox_fixed _ _ _ gwStatsRead_fixed

/-! ### PairCmds -/

@[simp ↓] theorem State.selfTrip_fixed (s : State) (c : Fab) (a b d : Bool) : (State.selfTrip s c a b d).fixed = s.fixed := by simp [State.selfTrip, ↓apply_ite State.fixed]

@[simp ↓] theorem State.debugRead_fixed (s : State) (c : Fab) (mem : Bool) (i : Nat) : (State.debugRead s c mem i).1.fixed = s.fixed := by
  unfold State.debugRead
  repeat' (first | (with_reducible rfl) | (simp [↓apply_ite State.fixed]; done) | split | (simp [↓apply_ite State.fixed, *]; done) | (grind [= State.modCore_fixed, = State.useFree_fixed]) | (simp [↓apply_ite State.fixed]))

theorem State.debugRead_fixed' (s : State) (c : Fab) (mem : Bool) (i : Nat) (t) (y) (h : State.debugRead s c mem i = (t, y)) : t.fixed = s.fixed := by
  have := State.debugRead_fixed s c mem i
  rw [h] at this; exact this

@[simp ↓] theorem State.moved_fixed (s : State) (c : Fab) : (State.moved s c).fixed = s.fixed := (rfl)

@[simp ↓] theorem State.attach_fixed (s : State) (c : Fab) : (State.attach s c).fixed = s.fixed := by simp [State.attach, ↓apply_ite State.fixed]

@[simp ↓] theorem State.letGo_fixed (s : State) (c : Fab) : (State.letGo s c).fixed = s.fixed := by simp [State.letGo, ↓apply_ite State.fixed]

@[simp ↓] theorem State.debugAct_fixed (s : State) (c : Fab) (act i a : Nat) (v : Word) : (State.debugAct s c act i a v).1.fixed = s.fixed := by unfold State.debugAct; split <;> simp

theorem State.debugAct_fixed' (s : State) (c : Fab) (act i a : Nat) (v : Word) (t) (y) (h : State.debugAct s c act i a v = (t, y)) : t.fixed = s.fixed := by
  have := State.debugAct_fixed s c act i a v
  rw [h] at this; exact this

@[simp ↓] theorem coreStatusRead_fixed (r : Req) (s : State) : (coreStatusRead.run r s).st.fixed = s.fixed := (rfl)

@[simp ↓] theorem coreSwitch_fixed (r : Req) (s : State) : (coreSwitch.run r s).st.fixed = s.fixed := (rfl)

@[simp ↓] theorem coreGuardWrite_fixed (r : Req) (s : State) : (coreGuardWrite.run r s).st.fixed = s.fixed := (rfl)

@[simp ↓] theorem coreGuardRead_fixed (r : Req) (s : State) : (coreGuardRead.run r s).st.fixed = s.fixed := (rfl)

@[simp ↓] theorem coreStatsRead_fixed (r : Req) (s : State) : (coreStatsRead.run r s).st.fixed = s.fixed := by simp [coreStatsRead]; split <;> simp

@[simp ↓] theorem coreRestart_fixed (r : Req) (s : State) : (coreRestart.run r s).st.fixed = s.fixed := by simp [coreRestart]; split <;> simp

@[simp ↓] theorem coreSelftest_fixed (r : Req) (s : State) : (coreSelftest.run r s).st.fixed = s.fixed := by simp [coreSelftest]; split <;> simp

@[simp ↓] theorem coreDebug_fixed (r : Req) (s : State) : (coreDebug.run r s).st.fixed = s.fixed := by simp [coreDebug]; split <;> simp

theorem execCoreStatusRead_fixed (r : Req) (s : State) : ∀ t, execCoreStatusRead r s = .next t → t.fixed = s.fixed := by rintro _ ⟨⟩; exact mailbox_fixed _ _ _ coreStatusRead_fixed

theorem execCoreSwitch_fixed (r : Req) (s : State) : ∀ t, execCoreSwitch r s = .next t → t.fixed = s.fixed := by rintro _ ⟨⟩; exact mailbox_fixed _ _ _ coreSwitch_fixed

theorem execCoreGuardWrite_fixed (r : Req) (s : State) : ∀ t, execCoreGuardWrite r s = .next t → t.fixed = s.fixed := by rintro _ ⟨⟩; exact mailbox_fixed _ _ _ coreGuardWrite_fixed

theorem execCoreGuardRead_fixed (r : Req) (s : State) : ∀ t, execCoreGuardRead r s = .next t → t.fixed = s.fixed := by rintro _ ⟨⟩; exact mailbox_fixed _ _ _ coreGuardRead_fixed

theorem execCoreStatsRead_fixed (r : Req) (s : State) : ∀ t, execCoreStatsRead r s = .next t → t.fixed = s.fixed := by rintro _ ⟨⟩; exact mailbox_fixed _ _ _ coreStatsRead_fixed

theorem execCoreRestart_fixed (r : Req) (s : State) : ∀ t, execCoreRestart r s = .next t → t.fixed = s.fixed := by rintro _ ⟨⟩; exact mailbox_fixed _ _ _ coreRestart_fixed

theorem execCoreSelftest_fixed (r : Req) (s : State) : ∀ t, execCoreSelftest r s = .next t → t.fixed = s.fixed := by rintro _ ⟨⟩; exact mailbox_fixed _ _ _ coreSelftest_fixed

theorem execCoreDebug_fixed (r : Req) (s : State) : ∀ t, execCoreDebug r s = .next t → t.fixed = s.fixed := by rintro _ ⟨⟩; exact mailbox_fixed _ _ _ coreDebug_fixed

/-! ### Host -/

@[simp ↓] theorem State.modRing_fixed (s : State) (p : Path) (rx : Bool) (n : Nat) (f : Ring → Ring) : (State.modRing s p rx n f).fixed = s.fixed := (rfl)

@[simp ↓] theorem State.readWord_fixed (s : State) (p : Path) (idx : Nat) : (State.readWord s p idx).1.fixed = s.fixed := by
  unfold State.readWord
  repeat' (first | (with_reducible rfl) | (simp [↓apply_ite State.fixed]; done) | split | (simp [↓apply_ite State.fixed, *]; done) | (grind []) | (simp [↓apply_ite State.fixed]))

theorem State.readWord_fixed' (s : State) (p : Path) (idx : Nat) (t) (y) (h : State.readWord s p idx = (t, y)) : t.fixed = s.fixed := by
  have := State.readWord_fixed s p idx
  rw [h] at this; exact this

@[simp ↓] theorem State.post_fixed (s : State) (p : Path) (k : Nat) (w : Word) : (State.post s p k w).fixed = s.fixed := by simp [State.post, ↓apply_ite State.fixed]

@[simp ↓] theorem State.writeRing_fixed (s : State) (p : Path) (rx : Bool) (n k : Nat) (w : Word) : (State.writeRing s p rx n k w).fixed = s.fixed := by
  unfold State.writeRing
  repeat' (first | (with_reducible rfl) | (simp [↓apply_ite State.fixed]; done) | split | (simp [↓apply_ite State.fixed, *]; done) | (grind [= State.logLate_fixed, = State.modRing_fixed]) | (simp [↓apply_ite State.fixed]))

@[simp ↓] theorem State.doorbell_fixed (s : State) (p : Path) : (State.doorbell s p).fixed = s.fixed := by simp [State.doorbell, ↓apply_ite State.fixed]

@[simp ↓] theorem State.writeWord_fixed (s : State) (p : Path) (idx : Nat) (w : Word) : (State.writeWord s p idx w).fixed = s.fixed := by simp [State.writeWord, ↓apply_ite State.fixed]

@[simp ↓] theorem State.hostWrite_fixed (s : State) (p : Path) (idx : Nat) (w : Word) (half : Bool) : (State.hostWrite s p idx w half).fixed = s.fixed := by simp [State.hostWrite, ↓apply_ite State.fixed]

@[simp ↓] theorem State.spiErr_fixed (s : State) (b : Bool) : (State.spiErr s b).fixed = s.fixed := (rfl)

@[simp ↓] theorem State.spiWrite_fixed (s : State) (i : Nat) (x0 : List Byte) : (State.spiWrite s i x0).fixed = s.fixed := by
  fun_induction State.spiWrite s i x0
  all_goals repeat' (first | (with_reducible rfl) | (simp [↓apply_ite State.fixed]; done) | split | (simp [↓apply_ite State.fixed, *]; done) | (grind [= State.hostWrite_fixed]) | (simp [↓apply_ite State.fixed]))

@[simp ↓] theorem State.spiRead_fixed (s : State) (i : Nat) (x0 : Nat) : (State.spiRead s i x0).1.fixed = s.fixed := by
  fun_induction State.spiRead s i x0
  all_goals repeat' (first | (with_reducible rfl) | (simp [↓apply_ite State.fixed]; done) | split | (simp [↓apply_ite State.fixed, *]; done) | (grind [→ State.readWord_fixed']) | (simp [↓apply_ite State.fixed]))

theorem State.spiRead_fixed' (s : State) (i : Nat) (x0 : Nat) (t) (y) (h : State.spiRead s i x0 = (t, y)) : t.fixed = s.fixed := by
  have := State.spiRead_fixed s i x0
  rw [h] at this; exact this

@[simp ↓] theorem State.serviceRequest_fixed (s : State) (mac sq : Nat) (ws : List Word) : (State.serviceRequest s mac sq ws).fixed = s.fixed := by simp [State.serviceRequest, ↓apply_ite State.fixed]

@[simp ↓] theorem State.ringVector_fixed (s : State) (p : Path) (rx : Bool) (n : Nat) : (State.ringVector s p rx n).fixed = s.fixed := by simp [State.ringVector, ↓apply_ite State.fixed]

@[simp ↓] theorem State.sealReact_fixed (s : State) (d : Nat) : (State.sealReact s d).fixed = s.fixed := by simp [State.sealReact, ↓apply_ite State.fixed]

theorem execResponseFifoPlace_fixed (p : Path) (s : State) : ∀ t, execResponseFifoPlace p s = .next t → t.fixed = s.fixed := by
  intro t h
  unfold execResponseFifoPlace at h
  first
  | (simp only [Host.Outcome.next.injEq] at h; subst h; repeat' (first | (with_reducible rfl) | (simp [↓apply_ite State.fixed]; done) | split | (simp [↓apply_ite State.fixed, *]; done) | (grind [= State.fifoPut_fixed, = State.freeBufs_fixed]) | (simp [↓apply_ite State.fixed])))
  | (split at h <;> (simp only [Host.Outcome.next.injEq] at h; subst h; repeat' (first | (with_reducible rfl) | (simp [↓apply_ite State.fixed]; done) | split | (simp [↓apply_ite State.fixed, *]; done) | (grind [= State.fifoPut_fixed, = State.freeBufs_fixed]) | (simp [↓apply_ite State.fixed]))))
  | (repeat' split at h
     all_goals (simp only [Host.Outcome.next.injEq] at h; subst h; repeat' (first | (with_reducible rfl) | (simp [↓apply_ite State.fixed]; done) | split | (simp [↓apply_ite State.fixed, *]; done) | (grind [= State.fifoPut_fixed, = State.freeBufs_fixed]) | (simp [↓apply_ite State.fixed]))))

theorem execMbxRspPop_fixed (p : Path) (s : State) : ∀ t, execMbxRspPop p s = .next t → t.fixed = s.fixed := by rintro _ ⟨⟩; split <;> simp

theorem execEvtRead_fixed (p : Path) (reg : Nat) (size : RdSize) (s : State) : ∀ t, execEvtRead p reg size s = .next t → t.fixed = s.fixed := by
  intro t h
  unfold execEvtRead at h
  first
  | (simp only [Host.Outcome.next.injEq] at h; subst h; repeat' (first | (with_reducible rfl) | (simp [↓apply_ite State.fixed]; done) | split | (simp [↓apply_ite State.fixed, *]; done) | (grind [= State.emit_fixed, → State.readWord_fixed']) | (simp [↓apply_ite State.fixed])))
  | (split at h <;> (simp only [Host.Outcome.next.injEq] at h; subst h; repeat' (first | (with_reducible rfl) | (simp [↓apply_ite State.fixed]; done) | split | (simp [↓apply_ite State.fixed, *]; done) | (grind [= State.emit_fixed, → State.readWord_fixed']) | (simp [↓apply_ite State.fixed]))))
  | (repeat' split at h
     all_goals (simp only [Host.Outcome.next.injEq] at h; subst h; repeat' (first | (with_reducible rfl) | (simp [↓apply_ite State.fixed]; done) | split | (simp [↓apply_ite State.fixed, *]; done) | (grind [= State.emit_fixed, → State.readWord_fixed']) | (simp [↓apply_ite State.fixed]))))

theorem execUpperBitsWrite_fixed (p : Path) (v : Nat) (s : State) : ∀ t, execUpperBitsWrite p v s = .next t → t.fixed = s.fixed := by rintro _ ⟨⟩; split <;> simp

theorem execRegisterWrite_fixed (p : Path) (idx : Nat) (w : Word) (half : Bool) (s : State) : ∀ t, execRegisterWrite p idx w half s = .next t → t.fixed = s.fixed := by rintro _ ⟨⟩; simp

theorem execMbxDoorbell_fixed (p : Path) (s : State) : ∀ t, execMbxDoorbell p s = .next t → t.fixed = s.fixed := by rintro _ ⟨⟩; simp

theorem execMbxRspDrop_fixed (p : Path) (s : State) : ∀ t, execMbxRspDrop p s = .next t → t.fixed = s.fixed := by rintro _ ⟨⟩; simp

theorem execEvtWrite_fixed (p : Path) (reg : Nat) (w : Word) (s : State) : ∀ t, execEvtWrite p reg w s = .next t → t.fixed = s.fixed := by rintro _ ⟨⟩; split <;> simp

theorem execRingCtrlWrite_fixed (p : Path) (rx : Bool) (n : Nat) (w : Word) (s : State) : ∀ t, execRingCtrlWrite p rx n w s = .next t → t.fixed = s.fixed := by rintro _ ⟨⟩; split <;> simp

theorem execRingTailWrite_fixed (p : Path) (rx : Bool) (n : Nat) (w : Word) (s : State) : ∀ t, execRingTailWrite p rx n w s = .next t → t.fixed = s.fixed := by rintro _ ⟨⟩; split <;> simp

theorem execSpiTransaction_fixed (bytes : List Byte) (s : State) : ∀ t, execSpiTransaction bytes s = .next t → t.fixed = s.fixed := by
  intro t h
  unfold execSpiTransaction at h
  first
  | (simp only [Host.Outcome.next.injEq] at h; subst h; repeat' (first | (with_reducible rfl) | (simp [↓apply_ite State.fixed]; done) | split | (simp [↓apply_ite State.fixed, *]; done) | (grind [= State.emit_fixed, = State.spiErr_fixed, → State.spiRead_fixed', = State.spiWrite_fixed, = CmdSpec.take_fixed]) | (simp [↓apply_ite State.fixed])))
  | (split at h <;> (simp only [Host.Outcome.next.injEq] at h; subst h; repeat' (first | (with_reducible rfl) | (simp [↓apply_ite State.fixed]; done) | split | (simp [↓apply_ite State.fixed, *]; done) | (grind [= State.emit_fixed, = State.spiErr_fixed, → State.spiRead_fixed', = State.spiWrite_fixed, = CmdSpec.take_fixed]) | (simp [↓apply_ite State.fixed]))))
  | (repeat' split at h
     all_goals (simp only [Host.Outcome.next.injEq] at h; subst h; repeat' (first | (with_reducible rfl) | (simp [↓apply_ite State.fixed]; done) | split | (simp [↓apply_ite State.fixed, *]; done) | (grind [= State.emit_fixed, = State.spiErr_fixed, → State.spiRead_fixed', = State.spiWrite_fixed, = CmdSpec.take_fixed]) | (simp [↓apply_ite State.fixed]))))

theorem execServiceFrameRx_fixed (bytes : List Byte) (s : State) : ∀ t, execServiceFrameRx bytes s = .next t → t.fixed = s.fixed := by
  intro t h
  unfold execServiceFrameRx at h
  first
  | (simp only [Host.Outcome.next.injEq] at h; subst h; repeat' (first | (with_reducible rfl) | (simp [↓apply_ite State.fixed]; done) | split | (simp [↓apply_ite State.fixed, *]; done) | (grind [= State.serviceRequest_fixed]) | (simp [↓apply_ite State.fixed])))
  | (split at h <;> (simp only [Host.Outcome.next.injEq] at h; subst h; repeat' (first | (with_reducible rfl) | (simp [↓apply_ite State.fixed]; done) | split | (simp [↓apply_ite State.fixed, *]; done) | (grind [= State.serviceRequest_fixed]) | (simp [↓apply_ite State.fixed]))))
  | (repeat' split at h
     all_goals (simp only [Host.Outcome.next.injEq] at h; subst h; repeat' (first | (with_reducible rfl) | (simp [↓apply_ite State.fixed]; done) | split | (simp [↓apply_ite State.fixed, *]; done) | (grind [= State.serviceRequest_fixed]) | (simp [↓apply_ite State.fixed]))))

theorem execServicePortLinkDown_fixed (s : State) : ∀ t, execServicePortLinkDown s = .next t → t.fixed = s.fixed := by rintro _ ⟨⟩; simp

theorem execFunctionLevelReset_fixed (p : Path) (s : State) : ∀ t, execFunctionLevelReset p s = .next t → t.fixed = s.fixed := by rintro _ ⟨⟩; split <;> simp

theorem execPerstNRelease_fixed (die : Fab) (s : State) : ∀ t, execPerstNRelease die s = .next t → t.fixed = s.fixed := by
  intro t h
  unfold execPerstNRelease at h
  first
  | (simp only [Host.Outcome.next.injEq] at h; subst h; repeat' (first | (with_reducible rfl) | (simp [↓apply_ite State.fixed]; done) | split | (simp [↓apply_ite State.fixed, *]; done) | (grind []) | (simp [↓apply_ite State.fixed])))
  | (split at h <;> (simp only [Host.Outcome.next.injEq] at h; subst h; repeat' (first | (with_reducible rfl) | (simp [↓apply_ite State.fixed]; done) | split | (simp [↓apply_ite State.fixed, *]; done) | (grind []) | (simp [↓apply_ite State.fixed]))))
  | (repeat' split at h
     all_goals (simp only [Host.Outcome.next.injEq] at h; subst h; repeat' (first | (with_reducible rfl) | (simp [↓apply_ite State.fixed]; done) | split | (simp [↓apply_ite State.fixed, *]; done) | (grind []) | (simp [↓apply_ite State.fixed]))))

theorem execPcieLinkChange_fixed (die : Fab) (up : Bool) (s : State) : ∀ t, execPcieLinkChange die up s = .next t → t.fixed = s.fixed := by rintro _ ⟨⟩; split <;> simp

theorem execLateWriteFail_fixed (p : Path) (reason addr : Nat) (s : State) : ∀ t, execLateWriteFail p reason addr s = .next t → t.fixed = s.fixed := by rintro _ ⟨⟩; split <;> simp

theorem execFifoPointerFault_fixed (f : FifoRef) (s : State) : ∀ t, execFifoPointerFault f s = .next t → t.fixed = s.fixed := by
  intro t h
  unfold execFifoPointerFault at h
  first
  | (simp only [Host.Outcome.next.injEq] at h; subst h; repeat' (first | (with_reducible rfl) | (simp [↓apply_ite State.fixed]; done) | split | (simp [↓apply_ite State.fixed, *]; done) | (grind [= State.logFault_fixed, = State.raiseDie_fixed, = State.raiseHost_fixed]) | (simp [↓apply_ite State.fixed])))
  | (split at h <;> (simp only [Host.Outcome.next.injEq] at h; subst h; repeat' (first | (with_reducible rfl) | (simp [↓apply_ite State.fixed]; done) | split | (simp [↓apply_ite State.fixed, *]; done) | (grind [= State.logFault_fixed, = State.raiseDie_fixed, = State.raiseHost_fixed]) | (simp [↓apply_ite State.fixed]))))
  | (repeat' split at h
     all_goals (simp only [Host.Outcome.next.injEq] at h; subst h; repeat' (first | (with_reducible rfl) | (simp [↓apply_ite State.fixed]; done) | split | (simp [↓apply_ite State.fixed, *]; done) | (grind [= State.logFault_fixed, = State.raiseDie_fixed, = State.raiseHost_fixed]) | (simp [↓apply_ite State.fixed]))))

theorem execRingCoalesceExpiry_fixed (p : Path) (rx : Bool) (n : Nat) (s : State) : ∀ t, execRingCoalesceExpiry p rx n s = .next t → t.fixed = s.fixed := by rintro _ ⟨⟩; split <;> simp

theorem execTxRingFrame_fixed (die : Fab) (length : Nat) (bytes : List Byte) (err : Bool) (dt : Nat) (s : State) : ∀ t, execTxRingFrame die length bytes err dt s = .next t → t.fixed = s.fixed := by
  intro t h
  unfold execTxRingFrame at h
  first
  | (simp only [Host.Outcome.next.injEq] at h; subst h; repeat' (first | (with_reducible rfl) | (simp [↓apply_ite State.fixed]; done) | split | (simp [↓apply_ite State.fixed, *]; done) | (grind [= State.adv_fixed, = State.emit_fixed, = State.modRing_fixed, = State.raiseDie_fixed, = State.raiseHost_fixed, = State.ringVector_fixed, = State.stage_fixed, = CmdSpec.take_fixed]) | (simp [↓apply_ite State.fixed])))
  | (split at h <;> (simp only [Host.Outcome.next.injEq] at h; subst h; repeat' (first | (with_reducible rfl) | (simp [↓apply_ite State.fixed]; done) | split | (simp [↓apply_ite State.fixed, *]; done) | (grind [= State.adv_fixed, = State.emit_fixed, = State.modRing_fixed, = State.raiseDie_fixed, = State.raiseHost_fixed, = State.ringVector_fixed, = State.stage_fixed, = CmdSpec.take_fixed]) | (simp [↓apply_ite State.fixed]))))
  | (repeat' split at h
     all_goals (simp only [Host.Outcome.next.injEq] at h; subst h; repeat' (first | (with_reducible rfl) | (simp [↓apply_ite State.fixed]; done) | split | (simp [↓apply_ite State.fixed, *]; done) | (grind [= State.adv_fixed, = State.emit_fixed, = State.modRing_fixed, = State.raiseDie_fixed, = State.raiseHost_fixed, = State.ringVector_fixed, = State.stage_fixed, = CmdSpec.take_fixed]) | (simp [↓apply_ite State.fixed]))))

theorem execRxRingDelivery_fixed (die : Fab) (dt : Nat) (s : State) : ∀ t, execRxRingDelivery die dt s = .next t → t.fixed = s.fixed := by
  intro t h
  unfold execRxRingDelivery at h
  first
  | (simp only [Host.Outcome.next.injEq] at h; subst h; repeat' (first | (with_reducible rfl) | (simp [↓apply_ite State.fixed]; done) | split | (simp [↓apply_ite State.fixed, *]; done) | (grind [= State.adv_fixed, = State.emit_fixed, = State.modRing_fixed, = State.raiseDie_fixed, = State.raiseHost_fixed, = State.ringVector_fixed, = CmdSpec.take_fixed]) | (simp [↓apply_ite State.fixed])))
  | (split at h <;> (simp only [Host.Outcome.next.injEq] at h; subst h; repeat' (first | (with_reducible rfl) | (simp [↓apply_ite State.fixed]; done) | split | (simp [↓apply_ite State.fixed, *]; done) | (grind [= State.adv_fixed, = State.emit_fixed, = State.modRing_fixed, = State.raiseDie_fixed, = State.raiseHost_fixed, = State.ringVector_fixed, = CmdSpec.take_fixed]) | (simp [↓apply_ite State.fixed]))))
  | (repeat' split at h
     all_goals (simp only [Host.Outcome.next.injEq] at h; subst h; repeat' (first | (with_reducible rfl) | (simp [↓apply_ite State.fixed]; done) | split | (simp [↓apply_ite State.fixed, *]; done) | (grind [= State.adv_fixed, = State.emit_fixed, = State.modRing_fixed, = State.raiseDie_fixed, = State.raiseHost_fixed, = State.ringVector_fixed, = CmdSpec.take_fixed]) | (simp [↓apply_ite State.fixed]))))

theorem execSealPassEnd_fixed (die crc : Nat) (s : State) : ∀ t, execSealPassEnd die crc s = .next t → t.fixed = s.fixed := by
  intro t h
  unfold execSealPassEnd at h
  first
  | (simp only [Host.Outcome.next.injEq] at h; subst h; repeat' (first | (with_reducible rfl) | (simp [↓apply_ite State.fixed]; done) | split | (simp [↓apply_ite State.fixed, *]; done) | (grind [= State.finish_fixed, = State.modSeal_fixed, = State.sealReact_fixed]) | (simp [↓apply_ite State.fixed])))
  | (split at h <;> (simp only [Host.Outcome.next.injEq] at h; subst h; repeat' (first | (with_reducible rfl) | (simp [↓apply_ite State.fixed]; done) | split | (simp [↓apply_ite State.fixed, *]; done) | (grind [= State.finish_fixed, = State.modSeal_fixed, = State.sealReact_fixed]) | (simp [↓apply_ite State.fixed]))))
  | (repeat' split at h
     all_goals (simp only [Host.Outcome.next.injEq] at h; subst h; repeat' (first | (with_reducible rfl) | (simp [↓apply_ite State.fixed]; done) | split | (simp [↓apply_ite State.fixed, *]; done) | (grind [= State.finish_fixed, = State.modSeal_fixed, = State.sealReact_fixed]) | (simp [↓apply_ite State.fixed]))))

/-! ### KeyCmds -/

@[simp ↓] theorem State.newRoot_fixed (s : State) : (State.newRoot s).fixed = s.fixed := (rfl)

@[simp ↓] theorem State.makeKey_fixed (s : State) (r : Req) (k : KeySlot) : (State.makeKey s r k).st.fixed = s.fixed := by
  unfold State.makeKey
  repeat' (first | (with_reducible rfl) | (simp [Reply.fail, ↓apply_ite Reply.st, ↓apply_ite State.fixed]; done) | split | (simp [Reply.fail, ↓apply_ite Reply.st, ↓apply_ite State.fixed, *]; done) | (grind [→ State.appendBlobs_fixed, = State.setSlot_fixed]) | (simp [Reply.fail, ↓apply_ite Reply.st, ↓apply_ite State.fixed]))

@[simp ↓] theorem State.openFails_fixed (s : State) : (State.openFails s).fixed = s.fixed := (rfl)

@[simp ↓] theorem keyStatusRead_fixed (r : Req) (s : State) : (keyStatusRead.run r s).st.fixed = s.fixed := (rfl)

@[simp ↓] theorem keyProvision_fixed (r : Req) (s : State) : (keyProvision.run r s).st.fixed = s.fixed := by simp [keyProvision]; split <;> simp

@[simp ↓] theorem keyGenerate_fixed (r : Req) (s : State) : (keyGenerate.run r s).st.fixed = s.fixed := by simp [keyGenerate]

@[simp ↓] theorem keyImport_fixed (r : Req) (s : State) : (keyImport.run r s).st.fixed = s.fixed := by
  simp only [keyImport]
  repeat' (first | (with_reducible rfl) | (simp [Reply.fail, ↓apply_ite Reply.st, ↓apply_ite State.fixed]; done) | split | (simp [Reply.fail, ↓apply_ite Reply.st, ↓apply_ite State.fixed, *]; done) | (grind []) | (simp [Reply.fail, ↓apply_ite Reply.st, ↓apply_ite State.fixed]))

@[simp ↓] theorem keyDerive_fixed (r : Req) (s : State) : (keyDerive.run r s).st.fixed = s.fixed := by simp [keyDerive]; split <;> simp

@[simp ↓] theorem keyDelete_fixed (r : Req) (s : State) : (keyDelete.run r s).st.fixed = s.fixed := by simp [keyDelete]

@[simp ↓] theorem keyInfoRead_fixed (r : Req) (s : State) : (keyInfoRead.run r s).st.fixed = s.fixed := (rfl)

@[simp ↓] theorem keyTamperWrite_fixed (r : Req) (s : State) : (keyTamperWrite.run r s).st.fixed = s.fixed := (rfl)

@[simp ↓] theorem keyTamperRead_fixed (r : Req) (s : State) : (keyTamperRead.run r s).st.fixed = s.fixed := by
  simp only [keyTamperRead]
  repeat' (first | (with_reducible rfl) | (simp [Reply.fail, ↓apply_ite Reply.st, ↓apply_ite State.fixed]; done) | split | (simp [Reply.fail, ↓apply_ite Reply.st, ↓apply_ite State.fixed, *]; done) | (grind []) | (simp [Reply.fail, ↓apply_ite Reply.st, ↓apply_ite State.fixed]))

@[simp ↓] theorem keySession_fixed (r : Req) (s : State) : (keySession.run r s).st.fixed = s.fixed := by
  simp only [keySession]
  repeat' (first | (with_reducible rfl) | (simp [Reply.fail, ↓apply_ite Reply.st, ↓apply_ite State.fixed]; done) | split | (simp [Reply.fail, ↓apply_ite Reply.st, ↓apply_ite State.fixed, *]; done) | (grind [= State.endSession_fixed, = State.openFails_fixed, = CmdSpec.take_fixed, = State.useFree_fixed]) | (simp [Reply.fail, ↓apply_ite Reply.st, ↓apply_ite State.fixed]))

@[simp ↓] theorem cipherLock_fixed (r : Req) (s : State) : (cipherLock.run r s).st.fixed = s.fixed := (rfl)

@[simp ↓] theorem cipherBlock_fixed (r : Req) (s : State) : (cipherBlock.run r s).st.fixed = s.fixed := by
  simp only [cipherBlock]
  repeat' (first | (with_reducible rfl) | (simp [Reply.fail, ↓apply_ite Reply.st, ↓apply_ite State.fixed]; done) | split | (simp [Reply.fail, ↓apply_ite Reply.st, ↓apply_ite State.fixed, *]; done) | (grind []) | (simp [Reply.fail, ↓apply_ite Reply.st, ↓apply_ite State.fixed]))

@[simp ↓] theorem cipherUnlock_fixed (r : Req) (s : State) : (cipherUnlock.run r s).st.fixed = s.fixed := by
  simp only [cipherUnlock]
  repeat' (first | (with_reducible rfl) | (simp [Reply.fail, ↓apply_ite Reply.st, ↓apply_ite State.fixed]; done) | split | (simp [Reply.fail, ↓apply_ite Reply.st, ↓apply_ite State.fixed, *]; done) | (grind []) | (simp [Reply.fail, ↓apply_ite Reply.st, ↓apply_ite State.fixed]))

@[simp ↓] theorem cipherStatusRead_fixed (r : Req) (s : State) : (cipherStatusRead.run r s).st.fixed = s.fixed := (rfl)

theorem execKeyStatusRead_fixed (r : Req) (s : State) : ∀ t, execKeyStatusRead r s = .next t → t.fixed = s.fixed := by rintro _ ⟨⟩; exact mailbox_fixed _ _ _ keyStatusRead_fixed

theorem execKeyProvision_fixed (r : Req) (s : State) : ∀ t, execKeyProvision r s = .next t → t.fixed = s.fixed := by rintro _ ⟨⟩; exact mailbox_fixed _ _ _ keyProvision_fixed

theorem execKeyGenerate_fixed (r : Req) (s : State) : ∀ t, execKeyGenerate r s = .next t → t.fixed = s.fixed := by rintro _ ⟨⟩; exact mailbox_fixed _ _ _ keyGenerate_fixed

theorem execKeyImport_fixed (r : Req) (s : State) : ∀ t, execKeyImport r s = .next t → t.fixed = s.fixed := by rintro _ ⟨⟩; exact mailbox_fixed _ _ _ keyImport_fixed

theorem execKeyDerive_fixed (r : Req) (s : State) : ∀ t, execKeyDerive r s = .next t → t.fixed = s.fixed := by rintro _ ⟨⟩; exact mailbox_fixed _ _ _ keyDerive_fixed

theorem execKeyDelete_fixed (r : Req) (s : State) : ∀ t, execKeyDelete r s = .next t → t.fixed = s.fixed := by rintro _ ⟨⟩; exact mailbox_fixed _ _ _ keyDelete_fixed

theorem execKeyInfoRead_fixed (r : Req) (s : State) : ∀ t, execKeyInfoRead r s = .next t → t.fixed = s.fixed := by rintro _ ⟨⟩; exact mailbox_fixed _ _ _ keyInfoRead_fixed

theorem execKeyTamperWrite_fixed (r : Req) (s : State) : ∀ t, execKeyTamperWrite r s = .next t → t.fixed = s.fixed := by rintro _ ⟨⟩; exact mailbox_fixed _ _ _ keyTamperWrite_fixed

theorem execKeyTamperRead_fixed (r : Req) (s : State) : ∀ t, execKeyTamperRead r s = .next t → t.fixed = s.fixed := by rintro _ ⟨⟩; exact mailbox_fixed _ _ _ keyTamperRead_fixed

theorem execKeySession_fixed (r : Req) (s : State) : ∀ t, execKeySession r s = .next t → t.fixed = s.fixed := by rintro _ ⟨⟩; exact mailbox_fixed _ _ _ keySession_fixed

theorem execCipherLock_fixed (r : Req) (s : State) : ∀ t, execCipherLock r s = .next t → t.fixed = s.fixed := by rintro _ ⟨⟩; exact mailbox_fixed _ _ _ cipherLock_fixed

theorem execCipherBlock_fixed (r : Req) (s : State) : ∀ t, execCipherBlock r s = .next t → t.fixed = s.fixed := by rintro _ ⟨⟩; exact mailbox_fixed _ _ _ cipherBlock_fixed

theorem execCipherUnlock_fixed (r : Req) (s : State) : ∀ t, execCipherUnlock r s = .next t → t.fixed = s.fixed := by rintro _ ⟨⟩; exact mailbox_fixed _ _ _ cipherUnlock_fixed

theorem execCipherStatusRead_fixed (r : Req) (s : State) : ∀ t, execCipherStatusRead r s = .next t → t.fixed = s.fixed := by rintro _ ⟨⟩; exact mailbox_fixed _ _ _ cipherStatusRead_fixed

/-! ### HostCmds -/

@[simp ↓] theorem State.clearRing_fixed (s : State) (p : Path) (rx : Bool) (n : Nat) : (State.clearRing s p rx n).fixed = s.fixed := by simp [State.clearRing, ↓apply_ite State.fixed]

@[simp ↓] theorem State.startCommit_fixed (s : State) (p : Path) (mask : Nat) : (State.startCommit s p mask).fixed = s.fixed := (rfl)

@[simp ↓] theorem hostEcho_fixed (r : Req) (s : State) : (hostEcho.run r s).st.fixed = s.fixed := (rfl)

@[simp ↓] theorem hostVersionRead_fixed (r : Req) (s : State) : (hostVersionRead.run r s).st.fixed = s.fixed := (rfl)

@[simp ↓] theorem hostLateLogRead_fixed (r : Req) (s : State) : (hostLateLogRead.run r s).st.fixed = s.fixed := by simp [hostLateLogRead]; split <;> simp

@[simp ↓] theorem hostRingStatsRead_fixed (r : Req) (s : State) : (hostRingStatsRead.run r s).st.fixed = s.fixed := by simp [hostRingStatsRead]; split <;> simp

@[simp ↓] theorem sealCommit_fixed (r : Req) (s : State) : (sealCommit.run r s).st.fixed = s.fixed := (rfl)

@[simp ↓] theorem sealStatusRead_fixed (r : Req) (s : State) : (sealStatusRead.run r s).st.fixed = s.fixed := (rfl)

theorem execHostEcho_fixed (r : Req) (s : State) : ∀ t, execHostEcho r s = .next t → t.fixed = s.fixed := by rintro _ ⟨⟩; exact mailbox_fixed _ _ _ hostEcho_fixed

theorem execHostVersionRead_fixed (r : Req) (s : State) : ∀ t, execHostVersionRead r s = .next t → t.fixed = s.fixed := by rintro _ ⟨⟩; exact mailbox_fixed _ _ _ hostVersionRead_fixed

theorem execHostLateLogRead_fixed (r : Req) (s : State) : ∀ t, execHostLateLogRead r s = .next t → t.fixed = s.fixed := by rintro _ ⟨⟩; exact mailbox_fixed _ _ _ hostLateLogRead_fixed

theorem execHostRingStatsRead_fixed (r : Req) (s : State) : ∀ t, execHostRingStatsRead r s = .next t → t.fixed = s.fixed := by rintro _ ⟨⟩; exact mailbox_fixed _ _ _ hostRingStatsRead_fixed

theorem execSealCommit_fixed (r : Req) (s : State) : ∀ t, execSealCommit r s = .next t → t.fixed = s.fixed := by rintro _ ⟨⟩; exact mailbox_fixed _ _ _ sealCommit_fixed

theorem execSealStatusRead_fixed (r : Req) (s : State) : ∀ t, execSealStatusRead r s = .next t → t.fixed = s.fixed := by rintro _ ⟨⟩; exact mailbox_fixed _ _ _ sealStatusRead_fixed

end Machine
end Sys2Proof
end

