-- ==== Sys2Proof/Laws/FixedSys.lean ====
section
/-! SUPPORT. What leaves the queue, the one-time-programmable words and the lock fields: power, images, stack and start-up. -/

namespace Sys2Proof
namespace Machine

set_option linter.unusedSimpArgs false

/-! ### Power -/

@[simp ↓] theorem State.modPace_fixed (s : State) (d : Fab) (f : PaceSt → PaceSt) : (State.modPace s d f).fixed = s.fixed := (rfl)

@[simp ↓] theorem State.paceShortage_fixed (s : State) (d : Fab) : (State.paceShortage s d).fixed = s.fixed := by simp [State.paceShortage, ↓apply_ite State.fixed]

@[simp ↓] theorem State.modFeed_fixed (s : State) (f : Nat) (g : Feed → Feed) : (State.modFeed s f g).fixed = s.fixed := (rfl)

@[simp ↓] theorem State.supplyTo_fixed (s : State) (m : SupplyMode) (volts : Nat) : (State.supplyTo s m volts).fixed = s.fixed := (rfl)

theorem execPaceSample_fixed (die : Fab) (monitors : List Nat) (tj : Int) (dt : Nat) (s : State) : ∀ t, execPaceSample die monitors tj dt s = .next t → t.fixed = s.fixed := by
  intro t h
  unfold execPaceSample at h
  first
  | (simp only [Host.Outcome.next.injEq] at h; subst h; repeat' (first | (with_reducible rfl) | (simp [↓apply_ite State.fixed]; done) | split | (simp [↓apply_ite State.fixed, *]; done) | (grind [= State.adv_fixed, = State.modPace_fixed, = State.paceShortage_fixed]) | (simp [↓apply_ite State.fixed])))
  | (split at h <;> (simp only [Host.Outcome.next.injEq] at h; subst h; repeat' (first | (with_reducible rfl) | (simp [↓apply_ite State.fixed]; done) | split | (simp [↓apply_ite State.fixed, *]; done) | (grind [= State.adv_fixed, = State.modPace_fixed, = State.paceShortage_fixed]) | (simp [↓apply_ite State.fixed]))))
  | (repeat' split at h
     all_goals (simp only [Host.Outcome.next.injEq] at h; subst h; repeat' (first | (with_reducible rfl) | (simp [↓apply_ite State.fixed]; done) | split | (simp [↓apply_ite State.fixed, *]; done) | (grind [= State.adv_fixed, = State.modPace_fixed, = State.paceShortage_fixed]) | (simp [↓apply_ite State.fixed]))))

theorem execPaceRiseTimer_fixed (die : Fab) (s : State) : ∀ t, execPaceRiseTimer die s = .next t → t.fixed = s.fixed := by rintro _ ⟨⟩; split <;> simp

theorem execPaceFallTimer_fixed (die : Fab) (s : State) : ∀ t, execPaceFallTimer die s = .next t → t.fixed = s.fixed := by rintro _ ⟨⟩; split <;> simp

theorem execPaceShortTimer_fixed (die : Fab) (s : State) : ∀ t, execPaceShortTimer die s = .next t → t.fixed = s.fixed := by rintro _ ⟨⟩; split <;> simp

theorem execAgeingHour_fixed (die : Fab) (s : State) : ∀ t, execAgeingHour die s = .next t → t.fixed = s.fixed := by
  intro t h
  unfold execAgeingHour at h
  first
  | (simp only [Host.Outcome.next.injEq] at h; subst h; repeat' (first | (with_reducible rfl) | (simp [↓apply_ite State.fixed]; done) | split | (simp [↓apply_ite State.fixed, *]; done) | (grind [= State.logFault_fixed, = State.modPace_fixed, = State.raiseDev_fixed, = State.useFree_fixed]) | (simp [↓apply_ite State.fixed])))
  | (split at h <;> (simp only [Host.Outcome.next.injEq] at h; subst h; repeat' (first | (with_reducible rfl) | (simp [↓apply_ite State.fixed]; done) | split | (simp [↓apply_ite State.fixed, *]; done) | (grind [= State.logFault_fixed, = State.modPace_fixed, = State.raiseDev_fixed, = State.useFree_fixed]) | (simp [↓apply_ite State.fixed]))))
  | (repeat' split at h
     all_goals (simp only [Host.Outcome.next.injEq] at h; subst h; repeat' (first | (with_reducible rfl) | (simp [↓apply_ite State.fixed]; done) | split | (simp [↓apply_ite State.fixed, *]; done) | (grind [= State.logFault_fixed, = State.modPace_fixed, = State.raiseDev_fixed, = State.useFree_fixed]) | (simp [↓apply_ite State.fixed]))))

theorem execPowerEstimate_fixed (pout : List Nat) (ampW ampE : Nat) (feeds : List Nat) (dt : Nat) (s : State) : ∀ t, execPowerEstimate pout ampW ampE feeds dt s = .next t → t.fixed = s.fixed := by
  intro t h
  unfold execPowerEstimate at h
  first
  | (simp only [Host.Outcome.next.injEq] at h; subst h; repeat' (first | (with_reducible rfl) | (simp [↓apply_ite State.fixed]; done) | split | (simp [↓apply_ite State.fixed, *]; done) | (grind [= State.adv_fixed, = State.modFeed_fixed, = State.modPow_fixed]) | (simp [↓apply_ite State.fixed])))
  | (split at h <;> (simp only [Host.Outcome.next.injEq] at h; subst h; repeat' (first | (with_reducible rfl) | (simp [↓apply_ite State.fixed]; done) | split | (simp [↓apply_ite State.fixed, *]; done) | (grind [= State.adv_fixed, = State.modFeed_fixed, = State.modPow_fixed]) | (simp [↓apply_ite State.fixed]))))
  | (repeat' split at h
     all_goals (simp only [Host.Outcome.next.injEq] at h; subst h; repeat' (first | (with_reducible rfl) | (simp [↓apply_ite State.fixed]; done) | split | (simp [↓apply_ite State.fixed, *]; done) | (grind [= State.adv_fixed, = State.modFeed_fixed, = State.modPow_fixed]) | (simp [↓apply_ite State.fixed]))))

theorem execPowerShedTimer_fixed (s : State) : ∀ t, execPowerShedTimer s = .next t → t.fixed = s.fixed := by
  intro t h
  unfold execPowerShedTimer at h
  first
  | (simp only [Host.Outcome.next.injEq] at h; subst h; repeat' (first | (with_reducible rfl) | (simp [↓apply_ite State.fixed]; done) | split | (simp [↓apply_ite State.fixed, *]; done) | (grind [= State.advTick_fixed, = State.disablePort_fixed, = State.logFault_fixed, = State.modPow_fixed]) | (simp [↓apply_ite State.fixed])))
  | (split at h <;> (simp only [Host.Outcome.next.injEq] at h; subst h; repeat' (first | (with_reducible rfl) | (simp [↓apply_ite State.fixed]; done) | split | (simp [↓apply_ite State.fixed, *]; done) | (grind [= State.advTick_fixed, = State.disablePort_fixed, = State.logFault_fixed, = State.modPow_fixed]) | (simp [↓apply_ite State.fixed]))))
  | (repeat' split at h
     all_goals (simp only [Host.Outcome.next.injEq] at h; subst h; repeat' (first | (with_reducible rfl) | (simp [↓apply_ite State.fixed]; done) | split | (simp [↓apply_ite State.fixed, *]; done) | (grind [= State.advTick_fixed, = State.disablePort_fixed, = State.logFault_fixed, = State.modPow_fixed]) | (simp [↓apply_ite State.fixed]))))

theorem execPowerRestoreTimer_fixed (s : State) : ∀ t, execPowerRestoreTimer s = .next t → t.fixed = s.fixed := by
  intro t h
  unfold execPowerRestoreTimer at h
  first
  | (simp only [Host.Outcome.next.injEq] at h; subst h; repeat' (first | (with_reducible rfl) | (simp [↓apply_ite State.fixed]; done) | split | (simp [↓apply_ite State.fixed, *]; done) | (grind [= State.advTick_fixed, = State.enablePort_fixed, = State.modPow_fixed]) | (simp [↓apply_ite State.fixed])))
  | (split at h <;> (simp only [Host.Outcome.next.injEq] at h; subst h; repeat' (first | (with_reducible rfl) | (simp [↓apply_ite State.fixed]; done) | split | (simp [↓apply_ite State.fixed, *]; done) | (grind [= State.advTick_fixed, = State.enablePort_fixed, = State.modPow_fixed]) | (simp [↓apply_ite State.fixed]))))
  | (repeat' split at h
     all_goals (simp only [Host.Outcome.next.injEq] at h; subst h; repeat' (first | (with_reducible rfl) | (simp [↓apply_ite State.fixed]; done) | split | (simp [↓apply_ite State.fixed, *]; done) | (grind [= State.advTick_fixed, = State.enablePort_fixed, = State.modPow_fixed]) | (simp [↓apply_ite State.fixed]))))

theorem execFeedOvercurrentTrip_fixed (feed current dt : Nat) (s : State) : ∀ t, execFeedOvercurrentTrip feed current dt s = .next t → t.fixed = s.fixed := by rintro _ ⟨⟩; split <;> simp

theorem execFeedInrushEnd_fixed (feed current : Nat) (s : State) : ∀ t, execFeedInrushEnd feed current s = .next t → t.fixed = s.fixed := by rintro _ ⟨⟩; split <;> simp

theorem execFeedRetryExpiry_fixed (feed : Nat) (s : State) : ∀ t, execFeedRetryExpiry feed s = .next t → t.fixed = s.fixed := by rintro _ ⟨⟩; split <;> simp

theorem execFeedRetryRestore_fixed (feed : Nat) (s : State) : ∀ t, execFeedRetryRestore feed s = .next t → t.fixed = s.fixed := by rintro _ ⟨⟩; split <;> simp

theorem execFeedShedRestore_fixed (feed volts dt : Nat) (s : State) : ∀ t, execFeedShedRestore feed volts dt s = .next t → t.fixed = s.fixed := by rintro _ ⟨⟩; split <;> simp

theorem execFeedAutoOn_fixed (s : State) : ∀ t, execFeedAutoOn s = .next t → t.fixed = s.fixed := by
  intro t h
  unfold execFeedAutoOn at h
  first
  | (simp only [Host.Outcome.next.injEq] at h; subst h; repeat' (first | (with_reducible rfl) | (simp [↓apply_ite State.fixed]; done) | split | (simp [↓apply_ite State.fixed, *]; done) | (grind [= State.advTick_fixed, = State.modFeed_fixed, = State.modPow_fixed]) | (simp [↓apply_ite State.fixed])))
  | (split at h <;> (simp only [Host.Outcome.next.injEq] at h; subst h; repeat' (first | (with_reducible rfl) | (simp [↓apply_ite State.fixed]; done) | split | (simp [↓apply_ite State.fixed, *]; done) | (grind [= State.advTick_fixed, = State.modFeed_fixed, = State.modPow_fixed]) | (simp [↓apply_ite State.fixed]))))
  | (repeat' split at h
     all_goals (simp only [Host.Outcome.next.injEq] at h; subst h; repeat' (first | (with_reducible rfl) | (simp [↓apply_ite State.fixed]; done) | split | (simp [↓apply_ite State.fixed, *]; done) | (grind [= State.advTick_fixed, = State.modFeed_fixed, = State.modPow_fixed]) | (simp [↓apply_ite State.fixed]))))

theorem execSupplyOv_fixed (volts dt : Nat) (s : State) : ∀ t, execSupplyOv volts dt s = .next t → t.fixed = s.fixed := by rintro _ ⟨⟩; split <;> simp

theorem execSupplyUv_fixed (volts dt : Nat) (s : State) : ∀ t, execSupplyUv volts dt s = .next t → t.fixed = s.fixed := by rintro _ ⟨⟩; split <;> simp

theorem execSupplyCrank_fixed (volts dt : Nat) (s : State) : ∀ t, execSupplyCrank volts dt s = .next t → t.fixed = s.fixed := by
  intro t h
  unfold execSupplyCrank at h
  first
  | (simp only [Host.Outcome.next.injEq] at h; subst h; repeat' (first | (with_reducible rfl) | (simp [↓apply_ite State.fixed]; done) | split | (simp [↓apply_ite State.fixed, *]; done) | (grind [= State.adv_fixed, = State.logFault_fixed, = State.modFeed_fixed, = State.raiseDev_fixed, = State.supplyTo_fixed]) | (simp [↓apply_ite State.fixed])))
  | (split at h <;> (simp only [Host.Outcome.next.injEq] at h; subst h; repeat' (first | (with_reducible rfl) | (simp [↓apply_ite State.fixed]; done) | split | (simp [↓apply_ite State.fixed, *]; done) | (grind [= State.adv_fixed, = State.logFault_fixed, = State.modFeed_fixed, = State.raiseDev_fixed, = State.supplyTo_fixed]) | (simp [↓apply_ite State.fixed]))))
  | (repeat' split at h
     all_goals (simp only [Host.Outcome.next.injEq] at h; subst h; repeat' (first | (with_reducible rfl) | (simp [↓apply_ite State.fixed]; done) | split | (simp [↓apply_ite State.fixed, *]; done) | (grind [= State.adv_fixed, = State.logFault_fixed, = State.modFeed_fixed, = State.raiseDev_fixed, = State.supplyTo_fixed]) | (simp [↓apply_ite State.fixed]))))

theorem execSupplyNormal_fixed (volts dt : Nat) (s : State) : ∀ t, execSupplyNormal volts dt s = .next t → t.fixed = s.fixed := by rintro _ ⟨⟩; split <;> simp

theorem execControlledPowerDown_fixed (volts dt : Nat) (s : State) : ∀ t, execControlledPowerDown volts dt s = .next t → t.fixed = s.fixed := by rintro _ ⟨⟩; split <;> simp

/-! ### PowerCmds -/

@[simp ↓] theorem State.setHold_fixed (s : State) (i : Nat) (h : Option Hold) : (State.setHold s i h).fixed = s.fixed := (rfl)

@[simp ↓] theorem State.hold_fixed (s : State) (path : Path) (primary : Bool) (secs : Nat) : (State.hold s path primary secs).fixed = s.fixed := by
  unfold State.hold
  repeat' (first | (with_reducible rfl) | (simp [↓apply_ite State.fixed]; done) | split | (simp [↓apply_ite State.fixed, *]; done) | (grind [= State.keepAwake_fixed, = State.prepare_fixed, = State.restartAwake_fixed, = State.restartTimer_fixed, = State.setHold_fixed, = State.wakeSource_fixed]) | (simp [↓apply_ite State.fixed]))

@[simp ↓] theorem powerStatusRead_fixed (r : Req) (s : State) : (powerStatusRead.run r s).st.fixed = s.fixed := by simp [powerStatusRead]; split <;> simp

@[simp ↓] theorem powerSeqLoad_fixed (r : Req) (s : State) : (powerSeqLoad.run r s).st.fixed = s.fixed := by simp [powerSeqLoad]; split <;> simp

@[simp ↓] theorem powerConfigWrite_fixed (r : Req) (s : State) : (powerConfigWrite.run r s).st.fixed = s.fixed := (rfl)

@[simp ↓] theorem powerLoadConfig_fixed (r : Req) (s : State) : (powerLoadConfig.run r s).st.fixed = s.fixed := (rfl)

@[simp ↓] theorem powerLoadSet_fixed (r : Req) (s : State) : (powerLoadSet.run r s).st.fixed = s.fixed := by simp [powerLoadSet]

@[simp ↓] theorem powerRead_fixed (r : Req) (s : State) : (powerRead.run r s).st.fixed = s.fixed := (rfl)

@[simp ↓] theorem paceCurveLoad_fixed (r : Req) (s : State) : (paceCurveLoad.run r s).st.fixed = s.fixed := by simp [paceCurveLoad]; split <;> simp

@[simp ↓] theorem paceConfigWrite_fixed (r : Req) (s : State) : (paceConfigWrite.run r s).st.fixed = s.fixed := (rfl)

@[simp ↓] theorem paceStatusRead_fixed (r : Req) (s : State) : (paceStatusRead.run r s).st.fixed = s.fixed := by simp [paceStatusRead]; split <;> simp

@[simp ↓] theorem paceRead_fixed (r : Req) (s : State) : (paceRead.run r s).st.fixed = s.fixed := (rfl)

@[simp ↓] theorem wakePolicyWrite_fixed (r : Req) (s : State) : (wakePolicyWrite.run r s).st.fixed = s.fixed := (rfl)

@[simp ↓] theorem wakeConfigWrite_fixed (r : Req) (s : State) : (wakeConfigWrite.run r s).st.fixed = s.fixed := (rfl)

@[simp ↓] theorem wakeHold_fixed (r : Req) (s : State) : (wakeHold.run r s).st.fixed = s.fixed := by
  simp only [wakeHold]
  repeat' (first | (with_reducible rfl) | (simp [Reply.fail, ↓apply_ite Reply.st, ↓apply_ite State.fixed]; done) | split | (simp [Reply.fail, ↓apply_ite Reply.st, ↓apply_ite State.fixed, *]; done) | (grind [= State.enterPrepare_fixed, = State.hold_fixed, = State.restartTimer_fixed, = State.setHold_fixed]) | (simp [Reply.fail, ↓apply_ite Reply.st, ↓apply_ite State.fixed]))

@[simp ↓] theorem wakeStatusRead_fixed (r : Req) (s : State) : (wakeStatusRead.run r s).st.fixed = s.fixed := by simp [wakeStatusRead]; split <;> simp

@[simp ↓] theorem wakeLogRead_fixed (r : Req) (s : State) : (wakeLogRead.run r s).st.fixed = s.fixed := by simp [wakeLogRead]; split <;> simp

@[simp ↓] theorem wakeRead_fixed (r : Req) (s : State) : (wakeRead.run r s).st.fixed = s.fixed := (rfl)

theorem execPowerStatusRead_fixed (r : Req) (s : State) : ∀ t, execPowerStatusRead r s = .next t → t.fixed = s.fixed := by rintro _ ⟨⟩; exact mailbox_fixed _ _ _ powerStatusRead_fixed

theorem execPowerSeqLoad_fixed (r : Req) (s : State) : ∀ t, execPowerSeqLoad r s = .next t → t.fixed = s.fixed := by rintro _ ⟨⟩; exact mailbox_fixed _ _ _ powerSeqLoad_fixed

theorem execPowerConfigWrite_fixed (r : Req) (s : State) : ∀ t, execPowerConfigWrite r s = .next t → t.fixed = s.fixed := by rintro _ ⟨⟩; exact mailbox_fixed _ _ _ powerConfigWrite_fixed

theorem execPowerLoadConfig_fixed (r : Req) (s : State) : ∀ t, execPowerLoadConfig r s = .next t → t.fixed = s.fixed := by rintro _ ⟨⟩; exact mailbox_fixed _ _ _ powerLoadConfig_fixed

theorem execPowerLoadSet_fixed (r : Req) (s : State) : ∀ t, execPowerLoadSet r s = .next t → t.fixed = s.fixed := by rintro _ ⟨⟩; exact mailbox_fixed _ _ _ powerLoadSet_fixed

theorem execPowerRead_fixed (r : Req) (s : State) : ∀ t, execPowerRead r s = .next t → t.fixed = s.fixed := by rintro _ ⟨⟩; exact mailbox_fixed _ _ _ powerRead_fixed

theorem execPaceCurveLoad_fixed (r : Req) (s : State) : ∀ t, execPaceCurveLoad r s = .next t → t.fixed = s.fixed := by rintro _ ⟨⟩; exact mailbox_fixed _ _ _ paceCurveLoad_fixed

theorem execPaceConfigWrite_fixed (r : Req) (s : State) : ∀ t, execPaceConfigWrite r s = .next t → t.fixed = s.fixed := by rintro _ ⟨⟩; exact mailbox_fixed _ _ _ paceConfigWrite_fixed

theorem execPaceStatusRead_fixed (r : Req) (s : State) : ∀ t, execPaceStatusRead r s = .next t → t.fixed = s.fixed := by rintro _ ⟨⟩; exact mailbox_fixed _ _ _ paceStatusRead_fixed

theorem execPaceRead_fixed (r : Req) (s : State) : ∀ t, execPaceRead r s = .next t → t.fixed = s.fixed := by rintro _ ⟨⟩; exact mailbox_fixed _ _ _ paceRead_fixed

theorem execWakePolicyWrite_fixed (r : Req) (s : State) : ∀ t, execWakePolicyWrite r s = .next t → t.fixed = s.fixed := by rintro _ ⟨⟩; exact mailbox_fixed _ _ _ wakePolicyWrite_fixed

theorem execWakeConfigWrite_fixed (r : Req) (s : State) : ∀ t, execWakeConfigWrite r s = .next t → t.fixed = s.fixed := by rintro _ ⟨⟩; exact mailbox_fixed _ _ _ wakeConfigWrite_fixed

theorem execWakeHold_fixed (r : Req) (s : State) : ∀ t, execWakeHold r s = .next t → t.fixed = s.fixed := by rintro _ ⟨⟩; exact mailbox_fixed _ _ _ wakeHold_fixed

theorem execWakeStatusRead_fixed (r : Req) (s : State) : ∀ t, execWakeStatusRead r s = .next t → t.fixed = s.fixed := by rintro _ ⟨⟩; exact mailbox_fixed _ _ _ wakeStatusRead_fixed

theorem execWakeLogRead_fixed (r : Req) (s : State) : ∀ t, execWakeLogRead r s = .next t → t.fixed = s.fixed := by rintro _ ⟨⟩; exact mailbox_fixed _ _ _ wakeLogRead_fixed

theorem execWakeRead_fixed (r : Req) (s : State) : ∀ t, execWakeRead r s = .next t → t.fixed = s.fixed := by rintro _ ⟨⟩; exact mailbox_fixed _ _ _ wakeRead_fixed

/-! ### Records -/

@[simp ↓] theorem State.addReport_fixed (s : State) (start : Bool) (es : List (List Word)) : (State.addReport s start es).fixed = s.fixed := (rfl)

@[simp ↓] theorem State.verifyReport_fixed (s : State) (n : Nat) : (State.verifyReport s n).fixed = s.fixed := (rfl)

@[simp ↓] theorem State.commitNow_fixed (s : State) : (State.commitNow s).fixed = s.fixed := by
  unfold State.commitNow
  repeat' (first | (with_reducible rfl) | (simp [↓apply_ite State.fixed]; done) | split | (simp [↓apply_ite State.fixed, *]; done) | (grind [= State.modTab_fixed, = State.modZon_fixed]) | (simp [↓apply_ite State.fixed]))

@[simp ↓] theorem State.runCommand_fixed (s : State) (n : Nat) (r : ImgRec) : (State.runCommand s n r).1.fixed = s.fixed := by
  have hs : ∀ sp ∈ recordSpecs, ∀ r s, (sp.run r s).st.fixed = s.fixed := by simp [recordSpecs]
  unfold State.runCommand
  dsimp only
  split
  · rfl
  · rename_i sp he
    have hj := fun r s => CmdSpec.judge_fixed sp r s (hs sp (List.mem_of_find?_eq_some he))
    repeat' split
    all_goals simp [hj]

theorem State.runCommand_fixed' (s : State) (n : Nat) (r : ImgRec) (t) (y) (h : State.runCommand s n r = (t, y)) : t.fixed = s.fixed := by
  have := State.runCommand_fixed s n r
  rw [h] at this; exact this

/-! ### ImgCmds -/

@[simp ↓] theorem imgStatusRead_fixed (r : Req) (s : State) : (imgStatusRead.run r s).st.fixed = s.fixed := (rfl)

@[simp ↓] theorem imgBegin_fixed (r : Req) (s : State) : (imgBegin.run r s).st.fixed = s.fixed := by
  simp only [imgBegin]
  repeat' (first | (with_reducible rfl) | (simp [Reply.fail, ↓apply_ite Reply.st, ↓apply_ite State.fixed]; done) | split | (simp [Reply.fail, ↓apply_ite Reply.st, ↓apply_ite State.fixed, *]; done) | (grind [= State.modImg_fixed, = State.takeToken_fixed, = State.updTo_fixed, = State.written_fixed]) | (simp [Reply.fail, ↓apply_ite Reply.st, ↓apply_ite State.fixed]))

@[simp ↓] theorem imgWrite_fixed (r : Req) (s : State) : (imgWrite.run r s).st.fixed = s.fixed := by simp [imgWrite]; split <;> simp

@[simp ↓] theorem imgVerify_fixed (r : Req) (s : State) : (imgVerify.run r s).st.fixed = s.fixed := by
  simp only [imgVerify]
  repeat' (first | (with_reducible rfl) | (simp [Reply.fail, ↓apply_ite Reply.st, ↓apply_ite State.fixed]; done) | split | (simp [Reply.fail, ↓apply_ite Reply.st, ↓apply_ite State.fixed, *]; done) | (grind [= State.modImg_fixed, = State.slotTo_fixed, = State.updTo_fixed, = State.verifyReport_fixed, = State.written_fixed]) | (simp [Reply.fail, ↓apply_ite Reply.st, ↓apply_ite State.fixed]))

@[simp ↓] theorem imgPrepare_fixed (r : Req) (s : State) : (imgPrepare.run r s).st.fixed = s.fixed := by
  simp only [imgPrepare]
  repeat' (first | (with_reducible rfl) | (simp [Reply.fail, ↓apply_ite Reply.st, ↓apply_ite State.fixed]; done) | split | (simp [Reply.fail, ↓apply_ite Reply.st, ↓apply_ite State.fixed, *]; done) | (grind [→ State.appendBlobs_fixed, = State.modImg_fixed, = State.updTo_fixed]) | (simp [Reply.fail, ↓apply_ite Reply.st, ↓apply_ite State.fixed]))

@[simp ↓] theorem imgHandover_fixed (r : Req) (s : State) : (imgHandover.run r s).st.fixed = s.fixed := by simp [imgHandover]; split <;> simp

@[simp ↓] theorem imgConfirm_fixed (r : Req) (s : State) : (imgConfirm.run r s).st.fixed = s.fixed := by
  simp only [imgConfirm]
  repeat' (first | (with_reducible rfl) | (simp [Reply.fail, ↓apply_ite Reply.st, ↓apply_ite State.fixed]; done) | split | (simp [Reply.fail, ↓apply_ite Reply.st, ↓apply_ite State.fixed, *]; done) | (grind [= State.modImg_fixed, = State.restartStandby_fixed, = State.slotTo_fixed, = State.updTo_fixed]) | (simp [Reply.fail, ↓apply_ite Reply.st, ↓apply_ite State.fixed]))

@[simp ↓] theorem imgRollback_fixed (r : Req) (s : State) : (imgRollback.run r s).st.fixed = s.fixed := by
  simp only [imgRollback]
  repeat' (first | (with_reducible rfl) | (simp [Reply.fail, ↓apply_ite Reply.st, ↓apply_ite State.fixed]; done) | split | (simp [Reply.fail, ↓apply_ite Reply.st, ↓apply_ite State.fixed, *]; done) | (grind [= State.fallBack_fixed, = State.modImg_fixed, = State.slotTo_fixed, = State.updTo_fixed]) | (simp [Reply.fail, ↓apply_ite Reply.st, ↓apply_ite State.fixed]))

@[simp ↓] theorem imgReportRead_fixed (r : Req) (s : State) : (imgReportRead.run r s).st.fixed = s.fixed := (rfl)

theorem execImgStatusRead_fixed (r : Req) (s : State) : ∀ t, execImgStatusRead r s = .next t → t.fixed = s.fixed := by rintro _ ⟨⟩; exact mailbox_fixed _ _ _ imgStatusRead_fixed

theorem execImgBegin_fixed (r : Req) (s : State) : ∀ t, execImgBegin r s = .next t → t.fixed = s.fixed := by rintro _ ⟨⟩; exact mailbox_fixed _ _ _ imgBegin_fixed

theorem execImgEraseComplete_fixed (dt : Nat) (s : State) : ∀ t, execImgEraseComplete dt s = .next t → t.fixed = s.fixed := by rintro _ ⟨⟩; split <;> simp

theorem execImgWrite_fixed (r : Req) (s : State) : ∀ t, execImgWrite r s = .next t → t.fixed = s.fixed := by rintro _ ⟨⟩; exact mailbox_fixed _ _ _ imgWrite_fixed

theorem execImgVerify_fixed (r : Req) (s : State) : ∀ t, execImgVerify r s = .next t → t.fixed = s.fixed := by rintro _ ⟨⟩; exact mailbox_fixed _ _ _ imgVerify_fixed

theorem execImgPrepare_fixed (r : Req) (s : State) : ∀ t, execImgPrepare r s = .next t → t.fixed = s.fixed := by rintro _ ⟨⟩; exact mailbox_fixed _ _ _ imgPrepare_fixed

theorem execImgHandover_fixed (r : Req) (s : State) : ∀ t, execImgHandover r s = .next t → t.fixed = s.fixed := by rintro _ ⟨⟩; exact mailbox_fixed _ _ _ imgHandover_fixed

theorem execImgConfirm_fixed (r : Req) (s : State) : ∀ t, execImgConfirm r s = .next t → t.fixed = s.fixed := by rintro _ ⟨⟩; exact mailbox_fixed _ _ _ imgConfirm_fixed

theorem execImgRollback_fixed (r : Req) (s : State) : ∀ t, execImgRollback r s = .next t → t.fixed = s.fixed := by rintro _ ⟨⟩; exact mailbox_fixed _ _ _ imgRollback_fixed

theorem execImgReportRead_fixed (r : Req) (s : State) : ∀ t, execImgReportRead r s = .next t → t.fixed = s.fixed := by rintro _ ⟨⟩; exact mailbox_fixed _ _ _ imgReportRead_fixed

/-! ### Internal -/

@[simp ↓] theorem State.badAccess_fixed (s : State) (a : Nat) : (State.badAccess s a).fixed = s.fixed := by simp [State.badAccess, ↓apply_ite State.fixed]

@[simp ↓] theorem State.intRead_fixed (s : State) (a : Nat) : (State.intRead s a).1.fixed = s.fixed := by
  unfold State.intRead
  repeat' (first | (with_reducible rfl) | (simp [↓apply_ite State.fixed]; done) | split | (simp [↓apply_ite State.fixed, *]; done) | (grind [= State.badAccess_fixed, = State.useFree_fixed]) | (simp [↓apply_ite State.fixed]))

theorem State.intRead_fixed' (s : State) (a : Nat) (t) (y) (h : State.intRead s a = (t, y)) : t.fixed = s.fixed := by
  have := State.intRead_fixed s a
  rw [h] at this; exact this

@[simp ↓] theorem State.intReads_fixed (s : State) (a : Nat) (x0 : Nat) : (State.intReads s a x0).1.fixed = s.fixed := by
  fun_induction State.intReads s a x0
  all_goals repeat' (first | (with_reducible rfl) | (simp [↓apply_ite State.fixed]; done) | split | (simp [↓apply_ite State.fixed, *]; done) | (grind [→ State.intRead_fixed']) | (simp [↓apply_ite State.fixed]))

theorem State.intReads_fixed' (s : State) (a : Nat) (x0 : Nat) (t) (y) (h : State.intReads s a x0 = (t, y)) : t.fixed = s.fixed := by
  have := State.intReads_fixed s a x0
  rw [h] at this; exact this

@[simp ↓] theorem State.intWrite_fixed (s : State) (a : Nat) (w : Word) : (State.intWrite s a w).fixed = s.fixed := by
  unfold State.intWrite
  repeat' (first | (with_reducible rfl) | (simp [↓apply_ite State.fixed]; done) | split | (simp [↓apply_ite State.fixed, *]; done) | (grind [= State.badAccess_fixed, = State.modCore_fixed, = State.modStk_fixed]) | (simp [↓apply_ite State.fixed]))

@[simp ↓] theorem State.intWrites_fixed (s : State) (a : Nat) (x0 : List Word) : (State.intWrites s a x0).fixed = s.fixed := by
  fun_induction State.intWrites s a x0
  all_goals repeat' (first | (with_reducible rfl) | (simp [↓apply_ite State.fixed]; done) | split | (simp [↓apply_ite State.fixed, *]; done) | (grind [= State.intWrite_fixed]) | (simp [↓apply_ite State.fixed]))

/-! ### Stack -/

theorem State.takeMsg_fixed (s : State) (p ty code : Nat) : ∀ t, State.takeMsg s p ty code = some t → t.1.fixed = s.fixed := by
  intro t h
  unfold State.takeMsg at h
  grind [= State.modStk_fixed]

@[simp ↓] theorem State.stackTo_fixed (s : State) (m : StackMode) : (State.stackTo s m).fixed = s.fixed := by simp [State.stackTo, ↓apply_ite State.fixed]

@[simp ↓] theorem State.takeSlave_fixed (s : State) (p : Nat) : (State.takeSlave s p).fixed = s.fixed := (rfl)

@[simp ↓] theorem State.join_fixed (s : State) (m : Nat) : (State.join s m).fixed = s.fixed := by simp [State.join]

@[simp ↓] theorem State.heardMaster_fixed (s : State) (p : Nat) : (State.heardMaster s p).fixed = s.fixed := by
  unfold State.heardMaster
  repeat' (first | (with_reducible rfl) | (simp [↓apply_ite State.fixed]; done) | split | (simp [↓apply_ite State.fixed, *]; done) | (grind [= State.modStk_fixed, = State.takeSlave_fixed]) | (simp [↓apply_ite State.fixed]))

@[simp ↓] theorem State.orphaned_fixed (s : State) : (State.orphaned s).fixed = s.fixed := by simp [State.orphaned]

@[simp ↓] theorem State.sendBridge_fixed (s : State) (p : Nat) (ws : List Word) : (State.sendBridge s p ws).fixed = s.fixed := by simp [State.sendBridge]

@[simp ↓] theorem State.keepJob_fixed (s : State) (j : Job) : (State.keepJob s j).fixed = s.fixed := (rfl)

@[simp ↓] theorem State.dropJob_fixed (s : State) (p : Path) : (State.dropJob s p).fixed = s.fixed := (rfl)

@[simp ↓] theorem State.issue_fixed (s : State) (p : Nat) (path : Path) (b : Burst) : (State.issue s p path b).fixed = s.fixed := by simp [State.issue]

@[simp ↓] theorem State.issueFirst_fixed (s : State) (j : Job) (bs : List Burst) : (State.issueFirst s j bs).fixed = s.fixed := by
  unfold State.issueFirst
  repeat' (first | (with_reducible rfl) | (simp [↓apply_ite State.fixed]; done) | split | (simp [↓apply_ite State.fixed, *]; done) | (grind [= State.issue_fixed, = State.keepJob_fixed]) | (simp [↓apply_ite State.fixed]))

@[simp ↓] theorem State.relayDone_fixed (s : State) (j : Job) : (State.relayDone s j).fixed = s.fixed := by simp [State.relayDone, ↓apply_ite State.fixed]

@[simp ↓] theorem State.jobEnd_fixed (s : State) (j : Job) : (State.jobEnd s j).fixed = s.fixed := by
  unfold State.jobEnd
  dsimp only
  repeat' split
  all_goals simp only [State.finish_fixed, State.dropJob_fixed, State.issueFirst_fixed, State.relayDone_fixed]

@[simp ↓] theorem State.diagRun_fixed (s : State) (j : Job) (x0 : List Burst) : (State.diagRun s j x0).fixed = s.fixed := by
  induction x0 generalizing s j with
  | nil => simp [State.diagRun]
  | cons b rest ih =>
    unfold State.diagRun
    split
    · simp
    · simp [ih]

@[simp ↓] theorem State.reqDone_fixed (s : State) (q : BridgeReq) (ok : Bool) (ws : List Word) : (State.reqDone s q ok ws).fixed = s.fixed := by
  unfold State.reqDone
  repeat' (first | (with_reducible rfl) | (simp [↓apply_ite State.fixed]; done) | split | (simp [↓apply_ite State.fixed, *]; done) | (grind [= State.diagRun_fixed, = State.issueFirst_fixed, = State.jobEnd_fixed, = State.modStk_fixed]) | (simp [↓apply_ite State.fixed]))

@[simp ↓] theorem State.backOff_fixed (s : State) (q : BridgeReq) : (State.backOff s q).fixed = s.fixed := by simp [State.backOff]

@[simp ↓] theorem State.bridgeAnswer_fixed (s : State) (port : Nat) (bytes : List Byte) (ofOps : List Nat) : (State.bridgeAnswer s port bytes ofOps).fixed = s.fixed := by
  unfold State.bridgeAnswer
  repeat' (first | (with_reducible rfl) | (simp [↓apply_ite State.fixed]; done) | split | (simp [↓apply_ite State.fixed, *]; done) | (grind [= State.backOff_fixed, = State.reqDone_fixed]) | (simp [↓apply_ite State.fixed]))

@[simp ↓] theorem State.answer_fixed (s : State) (b : BridgeIn) (op status : Nat) (ws : List Word) : (State.answer s b op status ws).fixed = s.fixed := by simp [State.answer]

@[simp ↓] theorem State.relayWrite_fixed (s : State) (k : Nat) (ws : List Word) : (State.relayWrite s k ws).fixed = s.fixed := by simp [State.relayWrite, ↓apply_ite State.fixed]

@[simp ↓] theorem State.doWrite_fixed (s : State) (b : BridgeIn) : (State.doWrite s b).1.fixed = s.fixed := by
  unfold State.doWrite
  repeat' (first | (with_reducible rfl) | (simp [↓apply_ite State.fixed]; done) | split | (simp [↓apply_ite State.fixed, *]; done) | (grind [= State.badAccess_fixed, = State.intWrites_fixed, = State.relayWrite_fixed]) | (simp [↓apply_ite State.fixed]))

theorem State.doWrite_fixed' (s : State) (b : BridgeIn) (t) (y) (h : State.doWrite s b = (t, y)) : t.fixed = s.fixed := by
  have := State.doWrite_fixed s b
  rw [h] at this; exact this

@[simp ↓] theorem State.doRead_fixed (s : State) (b : BridgeIn) : (State.doRead s b).1.fixed = s.fixed := by
  unfold State.doRead
  repeat' (first | (with_reducible rfl) | (simp [↓apply_ite State.fixed]; done) | split | (simp [↓apply_ite State.fixed, *]; done) | (grind [= State.badAccess_fixed, → State.intReads_fixed']) | (simp [↓apply_ite State.fixed]))

theorem State.doRead_fixed' (s : State) (b : BridgeIn) (t) (y) (h : State.doRead s b = (t, y)) : t.fixed = s.fixed := by
  have := State.doRead_fixed s b
  rw [h] at this; exact this

@[simp ↓] theorem State.serveBridge_fixed (s : State) (b : BridgeIn) (op : Nat) (f : State → State) (h : ∀ s, (f s).fixed = s.fixed) : (State.serveBridge s b op f).fixed = s.fixed := by
  unfold State.serveBridge
  repeat' (first | (with_reducible rfl) | (simp [↓apply_ite State.fixed]; done) | split | (simp [↓apply_ite State.fixed, *]; done) | (grind [= State.answer_fixed, = State.backOff_fixed]) | (simp [↓apply_ite State.fixed]))

theorem State.takeRequest_fixed (s : State) (port op : Nat) : ∀ t, State.takeRequest s port op = some t → t.1.fixed = s.fixed := by
  intro t h
  unfold State.takeRequest at h
  grind [→ State.takeMsg_fixed]

theorem State.takeUnlock_fixed (s : State) (port : Nat) : ∀ t, State.takeUnlock s port = some t → t.1.fixed = s.fixed := by
  intro t h
  unfold State.takeUnlock at h
  grind [= State.modStk_fixed]

theorem execStackHelloRx_fixed (port : Nat) (s : State) : ∀ t, execStackHelloRx port s = .next t → t.fixed = s.fixed := by
  intro t h
  unfold execStackHelloRx at h
  first
  | (simp only [Host.Outcome.next.injEq] at h; subst h; repeat' (first | (with_reducible rfl) | (simp [↓apply_ite State.fixed]; done) | split | (simp [↓apply_ite State.fixed, *]; done) | (grind [= State.heardMaster_fixed, = State.join_fixed, = State.modStk_fixed, = State.stackTo_fixed, → State.takeMsg_fixed]) | (simp [↓apply_ite State.fixed])))
  | (split at h <;> (simp only [Host.Outcome.next.injEq] at h; subst h; repeat' (first | (with_reducible rfl) | (simp [↓apply_ite State.fixed]; done) | split | (simp [↓apply_ite State.fixed, *]; done) | (grind [= State.heardMaster_fixed, = State.join_fixed, = State.modStk_fixed, = State.stackTo_fixed, → State.takeMsg_fixed]) | (simp [↓apply_ite State.fixed]))))
  | (repeat' split at h
     all_goals (simp only [Host.Outcome.next.injEq] at h; subst h; repeat' (first | (with_reducible rfl) | (simp [↓apply_ite State.fixed]; done) | split | (simp [↓apply_ite State.fixed, *]; done) | (grind [= State.heardMaster_fixed, = State.join_fixed, = State.modStk_fixed, = State.stackTo_fixed, → State.takeMsg_fixed]) | (simp [↓apply_ite State.fixed]))))

theorem execHelloTx_fixed (s : State) : ∀ t, execHelloTx s = .next t → t.fixed = s.fixed := by rintro _ ⟨⟩; split <;> simp

theorem execMasterLost_fixed (s : State) : ∀ t, execMasterLost s = .next t → t.fixed = s.fixed := by rintro _ ⟨⟩; split <;> simp

theorem execStackMatchRx_fixed (port : Nat) (s : State) : ∀ t, execStackMatchRx port s = .next t → t.fixed = s.fixed := by
  intro t h
  unfold execStackMatchRx at h
  first
  | (simp only [Host.Outcome.next.injEq] at h; subst h; repeat' (first | (with_reducible rfl) | (simp [↓apply_ite State.fixed]; done) | split | (simp [↓apply_ite State.fixed, *]; done) | (grind [= State.restartAwake_fixed, = State.restartTimer_fixed, → State.takeMsg_fixed, = State.wakeSource_fixed]) | (simp [↓apply_ite State.fixed])))
  | (split at h <;> (simp only [Host.Outcome.next.injEq] at h; subst h; repeat' (first | (with_reducible rfl) | (simp [↓apply_ite State.fixed]; done) | split | (simp [↓apply_ite State.fixed, *]; done) | (grind [= State.restartAwake_fixed, = State.restartTimer_fixed, → State.takeMsg_fixed, = State.wakeSource_fixed]) | (simp [↓apply_ite State.fixed]))))
  | (repeat' split at h
     all_goals (simp only [Host.Outcome.next.injEq] at h; subst h; repeat' (first | (with_reducible rfl) | (simp [↓apply_ite State.fixed]; done) | split | (simp [↓apply_ite State.fixed, *]; done) | (grind [= State.restartAwake_fixed, = State.restartTimer_fixed, → State.takeMsg_fixed, = State.wakeSource_fixed]) | (simp [↓apply_ite State.fixed]))))

theorem execStackPrepareRx_fixed (port : Nat) (s : State) : ∀ t, execStackPrepareRx port s = .next t → t.fixed = s.fixed := by
  intro t h
  unfold execStackPrepareRx at h
  first
  | (simp only [Host.Outcome.next.injEq] at h; subst h; repeat' (first | (with_reducible rfl) | (simp [↓apply_ite State.fixed]; done) | split | (simp [↓apply_ite State.fixed, *]; done) | (grind [= State.enterPrepare_fixed, → State.takeMsg_fixed]) | (simp [↓apply_ite State.fixed])))
  | (split at h <;> (simp only [Host.Outcome.next.injEq] at h; subst h; repeat' (first | (with_reducible rfl) | (simp [↓apply_ite State.fixed]; done) | split | (simp [↓apply_ite State.fixed, *]; done) | (grind [= State.enterPrepare_fixed, → State.takeMsg_fixed]) | (simp [↓apply_ite State.fixed]))))
  | (repeat' split at h
     all_goals (simp only [Host.Outcome.next.injEq] at h; subst h; repeat' (first | (with_reducible rfl) | (simp [↓apply_ite State.fixed]; done) | split | (simp [↓apply_ite State.fixed, *]; done) | (grind [= State.enterPrepare_fixed, → State.takeMsg_fixed]) | (simp [↓apply_ite State.fixed]))))

theorem execStackCancelRx_fixed (port : Nat) (s : State) : ∀ t, execStackCancelRx port s = .next t → t.fixed = s.fixed := by
  intro t h
  unfold execStackCancelRx at h
  first
  | (simp only [Host.Outcome.next.injEq] at h; subst h; repeat' (first | (with_reducible rfl) | (simp [↓apply_ite State.fixed]; done) | split | (simp [↓apply_ite State.fixed, *]; done) | (grind [= State.cancelPrepare_fixed, = State.prepare_fixed, = State.restartAwake_fixed, → State.takeMsg_fixed, = State.wakeRecord_fixed]) | (simp [↓apply_ite State.fixed])))
  | (split at h <;> (simp only [Host.Outcome.next.injEq] at h; subst h; repeat' (first | (with_reducible rfl) | (simp [↓apply_ite State.fixed]; done) | split | (simp [↓apply_ite State.fixed, *]; done) | (grind [= State.cancelPrepare_fixed, = State.prepare_fixed, = State.restartAwake_fixed, → State.takeMsg_fixed, = State.wakeRecord_fixed]) | (simp [↓apply_ite State.fixed]))))
  | (repeat' split at h
     all_goals (simp only [Host.Outcome.next.injEq] at h; subst h; repeat' (first | (with_reducible rfl) | (simp [↓apply_ite State.fixed]; done) | split | (simp [↓apply_ite State.fixed, *]; done) | (grind [= State.cancelPrepare_fixed, = State.prepare_fixed, = State.restartAwake_fixed, → State.takeMsg_fixed, = State.wakeRecord_fixed]) | (simp [↓apply_ite State.fixed]))))

theorem execStackCommitRx_fixed (port : Nat) (s : State) : ∀ t, execStackCommitRx port s = .next t → t.fixed = s.fixed := by
  intro t h
  unfold execStackCommitRx at h
  first
  | (simp only [Host.Outcome.next.injEq] at h; subst h; repeat' (first | (with_reducible rfl) | (simp [↓apply_ite State.fixed]; done) | split | (simp [↓apply_ite State.fixed, *]; done) | (grind [= State.commitSleep_fixed, = State.prepare_fixed, → State.takeMsg_fixed]) | (simp [↓apply_ite State.fixed])))
  | (split at h <;> (simp only [Host.Outcome.next.injEq] at h; subst h; repeat' (first | (with_reducible rfl) | (simp [↓apply_ite State.fixed]; done) | split | (simp [↓apply_ite State.fixed, *]; done) | (grind [= State.commitSleep_fixed, = State.prepare_fixed, → State.takeMsg_fixed]) | (simp [↓apply_ite State.fixed]))))
  | (repeat' split at h
     all_goals (simp only [Host.Outcome.next.injEq] at h; subst h; repeat' (first | (with_reducible rfl) | (simp [↓apply_ite State.fixed]; done) | split | (simp [↓apply_ite State.fixed, *]; done) | (grind [= State.commitSleep_fixed, = State.prepare_fixed, → State.takeMsg_fixed]) | (simp [↓apply_ite State.fixed]))))

theorem execBridgeWackRx_fixed (port : Nat) (s : State) : ∀ t, execBridgeWackRx port s = .next t → t.fixed = s.fixed := by
  intro t h
  unfold execBridgeWackRx at h
  first
  | (simp only [Host.Outcome.next.injEq] at h; subst h; repeat' (first | (with_reducible rfl) | (simp [↓apply_ite State.fixed]; done) | split | (simp [↓apply_ite State.fixed, *]; done) | (grind [= State.bridgeAnswer_fixed, → State.takeMsg_fixed]) | (simp [↓apply_ite State.fixed])))
  | (split at h <;> (simp only [Host.Outcome.next.injEq] at h; subst h; repeat' (first | (with_reducible rfl) | (simp [↓apply_ite State.fixed]; done) | split | (simp [↓apply_ite State.fixed, *]; done) | (grind [= State.bridgeAnswer_fixed, → State.takeMsg_fixed]) | (simp [↓apply_ite State.fixed]))))
  | (repeat' split at h
     all_goals (simp only [Host.Outcome.next.injEq] at h; subst h; repeat' (first | (with_reducible rfl) | (simp [↓apply_ite State.fixed]; done) | split | (simp [↓apply_ite State.fixed, *]; done) | (grind [= State.bridgeAnswer_fixed, → State.takeMsg_fixed]) | (simp [↓apply_ite State.fixed]))))

theorem execBridgeRdataRx_fixed (port : Nat) (s : State) : ∀ t, execBridgeRdataRx port s = .next t → t.fixed = s.fixed := by
  intro t h
  unfold execBridgeRdataRx at h
  first
  | (simp only [Host.Outcome.next.injEq] at h; subst h; repeat' (first | (with_reducible rfl) | (simp [↓apply_ite State.fixed]; done) | split | (simp [↓apply_ite State.fixed, *]; done) | (grind [= State.bridgeAnswer_fixed, → State.takeMsg_fixed]) | (simp [↓apply_ite State.fixed])))
  | (split at h <;> (simp only [Host.Outcome.next.injEq] at h; subst h; repeat' (first | (with_reducible rfl) | (simp [↓apply_ite State.fixed]; done) | split | (simp [↓apply_ite State.fixed, *]; done) | (grind [= State.bridgeAnswer_fixed, → State.takeMsg_fixed]) | (simp [↓apply_ite State.fixed]))))
  | (repeat' split at h
     all_goals (simp only [Host.Outcome.next.injEq] at h; subst h; repeat' (first | (with_reducible rfl) | (simp [↓apply_ite State.fixed]; done) | split | (simp [↓apply_ite State.fixed, *]; done) | (grind [= State.bridgeAnswer_fixed, → State.takeMsg_fixed]) | (simp [↓apply_ite State.fixed]))))

theorem execBridgeBackoffExpiry_fixed (s : State) : ∀ t, execBridgeBackoffExpiry s = .next t → t.fixed = s.fixed := by rintro _ ⟨⟩; split <;> simp

theorem execBridgeTimeout_fixed (s : State) : ∀ t, execBridgeTimeout s = .next t → t.fixed = s.fixed := by rintro _ ⟨⟩; split <;> simp

theorem execRelayTimeout_fixed (path : Path) (s : State) : ∀ t, execRelayTimeout path s = .next t → t.fixed = s.fixed := by rintro _ ⟨⟩; split <;> simp

theorem execBridgeWriteRx_fixed (port : Nat) (s : State) : ∀ t, execBridgeWriteRx port s = .next t → t.fixed = s.fixed := by
  intro t h
  unfold execBridgeWriteRx at h
  first
  | (simp only [Host.Outcome.next.injEq] at h; subst h; repeat' (first | (with_reducible rfl) | (simp [↓apply_ite State.fixed]; done) | split | (simp [↓apply_ite State.fixed, *]; done) | (grind [= State.answer_fixed, → State.doWrite_fixed', = State.serveBridge_fixed, → State.takeRequest_fixed]) | (simp [↓apply_ite State.fixed])))
  | (split at h <;> (simp only [Host.Outcome.next.injEq] at h; subst h; repeat' (first | (with_reducible rfl) | (simp [↓apply_ite State.fixed]; done) | split | (simp [↓apply_ite State.fixed, *]; done) | (grind [= State.answer_fixed, → State.doWrite_fixed', = State.serveBridge_fixed, → State.takeRequest_fixed]) | (simp [↓apply_ite State.fixed]))))
  | (repeat' split at h
     all_goals (simp only [Host.Outcome.next.injEq] at h; subst h; repeat' (first | (with_reducible rfl) | (simp [↓apply_ite State.fixed]; done) | split | (simp [↓apply_ite State.fixed, *]; done) | (grind [= State.answer_fixed, → State.doWrite_fixed', = State.serveBridge_fixed, → State.takeRequest_fixed]) | (simp [↓apply_ite State.fixed]))))

theorem execBridgeReadRx_fixed (port : Nat) (s : State) : ∀ t, execBridgeReadRx port s = .next t → t.fixed = s.fixed := by
  intro t h
  unfold execBridgeReadRx at h
  first
  | (simp only [Host.Outcome.next.injEq] at h; subst h; repeat' (first | (with_reducible rfl) | (simp [↓apply_ite State.fixed]; done) | split | (simp [↓apply_ite State.fixed, *]; done) | (grind [= State.answer_fixed, → State.doRead_fixed', = State.serveBridge_fixed, → State.takeRequest_fixed]) | (simp [↓apply_ite State.fixed])))
  | (split at h <;> (simp only [Host.Outcome.next.injEq] at h; subst h; repeat' (first | (with_reducible rfl) | (simp [↓apply_ite State.fixed]; done) | split | (simp [↓apply_ite State.fixed, *]; done) | (grind [= State.answer_fixed, → State.doRead_fixed', = State.serveBridge_fixed, → State.takeRequest_fixed]) | (simp [↓apply_ite State.fixed]))))
  | (repeat' split at h
     all_goals (simp only [Host.Outcome.next.injEq] at h; subst h; repeat' (first | (with_reducible rfl) | (simp [↓apply_ite State.fixed]; done) | split | (simp [↓apply_ite State.fixed, *]; done) | (grind [= State.answer_fixed, → State.doRead_fixed', = State.serveBridge_fixed, → State.takeRequest_fixed]) | (simp [↓apply_ite State.fixed]))))

theorem execBridgeLockReadRx_fixed (port : Nat) (s : State) : ∀ t, execBridgeLockReadRx port s = .next t → t.fixed = s.fixed := by
  intro t h
  unfold execBridgeLockReadRx at h
  first
  | (simp only [Host.Outcome.next.injEq] at h; subst h; repeat' (first | (with_reducible rfl) | (simp [↓apply_ite State.fixed]; done) | split | (simp [↓apply_ite State.fixed, *]; done) | (grind [= State.answer_fixed, → State.doRead_fixed', = State.modStk_fixed, = State.serveBridge_fixed, → State.takeRequest_fixed]) | (simp [↓apply_ite State.fixed])))
  | (split at h <;> (simp only [Host.Outcome.next.injEq] at h; subst h; repeat' (first | (with_reducible rfl) | (simp [↓apply_ite State.fixed]; done) | split | (simp [↓apply_ite State.fixed, *]; done) | (grind [= State.answer_fixed, → State.doRead_fixed', = State.modStk_fixed, = State.serveBridge_fixed, → State.takeRequest_fixed]) | (simp [↓apply_ite State.fixed]))))
  | (repeat' split at h
     all_goals (simp only [Host.Outcome.next.injEq] at h; subst h; repeat' (first | (with_reducible rfl) | (simp [↓apply_ite State.fixed]; done) | split | (simp [↓apply_ite State.fixed, *]; done) | (grind [= State.answer_fixed, → State.doRead_fixed', = State.modStk_fixed, = State.serveBridge_fixed, → State.takeRequest_fixed]) | (simp [↓apply_ite State.fixed]))))

theorem execBridgeUnlockWriteRx_fixed (port : Nat) (s : State) : ∀ t, execBridgeUnlockWriteRx port s = .next t → t.fixed = s.fixed := by
  intro t h
  unfold execBridgeUnlockWriteRx at h
  first
  | (simp only [Host.Outcome.next.injEq] at h; subst h; repeat' (first | (with_reducible rfl) | (simp [↓apply_ite State.fixed]; done) | split | (simp [↓apply_ite State.fixed, *]; done) | (grind [= State.answer_fixed, → State.doWrite_fixed', = State.modStk_fixed, = State.serveBridge_fixed, → State.takeUnlock_fixed]) | (simp [↓apply_ite State.fixed])))
  | (split at h <;> (simp only [Host.Outcome.next.injEq] at h; subst h; repeat' (first | (with_reducible rfl) | (simp [↓apply_ite State.fixed]; done) | split | (simp [↓apply_ite State.fixed, *]; done) | (grind [= State.answer_fixed, → State.doWrite_fixed', = State.modStk_fixed, = State.serveBridge_fixed, → State.takeUnlock_fixed]) | (simp [↓apply_ite State.fixed]))))
  | (repeat' split at h
     all_goals (simp only [Host.Outcome.next.injEq] at h; subst h; repeat' (first | (with_reducible rfl) | (simp [↓apply_ite State.fixed]; done) | split | (simp [↓apply_ite State.fixed, *]; done) | (grind [= State.answer_fixed, → State.doWrite_fixed', = State.modStk_fixed, = State.serveBridge_fixed, → State.takeUnlock_fixed]) | (simp [↓apply_ite State.fixed]))))

theorem execBridgeLockExpiry_fixed (die : Nat) (s : State) : ∀ t, execBridgeLockExpiry die s = .next t → t.fixed = s.fixed := by rintro _ ⟨⟩; split <;> simp

/-! ### StackCmds -/

@[simp ↓] theorem diagRead_fixed (r : Req) (s : State) : (diagRead.run r s).st.fixed = s.fixed := by
  simp only [diagRead]
  repeat' (first | (with_reducible rfl) | (simp [Reply.fail, ↓apply_ite Reply.st, ↓apply_ite State.fixed]; done) | split | (simp [Reply.fail, ↓apply_ite Reply.st, ↓apply_ite State.fixed, *]; done) | (grind [= State.addrError_fixed, = State.diagRun_fixed, → State.intReads_fixed', = State.tamper_fixed]) | (simp [Reply.fail, ↓apply_ite Reply.st, ↓apply_ite State.fixed]))

@[simp ↓] theorem stackStatusRead_fixed (r : Req) (s : State) : (stackStatusRead.run r s).st.fixed = s.fixed := by simp [stackStatusRead]; split <;> simp

@[simp ↓] theorem stackRelay_fixed (r : Req) (s : State) : (stackRelay.run r s).st.fixed = s.fixed := by simp [stackRelay]

@[simp ↓] theorem stackDesignate_fixed (r : Req) (s : State) : (stackDesignate.run r s).st.fixed = s.fixed := by simp [stackDesignate]; split <;> simp

theorem execDiagRead_fixed (r : Req) (s : State) : ∀ t, execDiagRead r s = .next t → t.fixed = s.fixed := by rintro _ ⟨⟩; exact mailbox_fixed _ _ _ diagRead_fixed

theorem execStackStatusRead_fixed (r : Req) (s : State) : ∀ t, execStackStatusRead r s = .next t → t.fixed = s.fixed := by rintro _ ⟨⟩; exact mailbox_fixed _ _ _ stackStatusRead_fixed

theorem execStackRelay_fixed (r : Req) (s : State) : ∀ t, execStackRelay r s = .next t → t.fixed = s.fixed := by rintro _ ⟨⟩; exact mailbox_fixed _ _ _ stackRelay_fixed

theorem execStackDesignate_fixed (r : Req) (s : State) : ∀ t, execStackDesignate r s = .next t → t.fixed = s.fixed := by rintro _ ⟨⟩; exact mailbox_fixed _ _ _ stackDesignate_fixed

/-! ### Start -/

@[simp ↓] theorem State.startTo_fixed (s : State) (m : StartMode) : (State.startTo s m).fixed = s.fixed := (rfl)

@[simp ↓] theorem State.halt_fixed (s : State) (m : StartMode) : (State.halt s m).fixed = s.fixed := by simp [State.halt]

@[simp ↓] theorem State.gwPortFit_fixed (s : State) : (State.gwPortFit s).fixed = s.fixed := by simp [State.gwPortFit, ↓apply_ite State.fixed]

@[simp ↓] theorem State.cuffLinkLost_fixed (s : State) (d : Fab) : (State.cuffLinkLost s d).fixed = s.fixed := by simp [State.cuffLinkLost, ↓apply_ite State.fixed]

@[simp ↓] theorem State.testLost_fixed (s : State) (p : Nat) : (State.testLost s p).fixed = s.fixed := by unfold State.testLost; split <;> simp

@[simp ↓] theorem State.portLost_fixed (s : State) (die p : Nat) : (State.portLost s die p).fixed = s.fixed := by simp [State.portLost]

@[simp ↓] theorem State.commitLost_fixed (s : State) (die : Nat) : (State.commitLost s die).fixed = s.fixed := by
  unfold State.commitLost
  repeat' (first | (with_reducible rfl) | (simp [↓apply_ite State.fixed]; done) | split | (simp [↓apply_ite State.fixed, *]; done) | (grind [= State.finish_fixed, = State.modSeal_fixed]) | (simp [↓apply_ite State.fixed]))

@[simp ↓] theorem State.dieTo_fixed (s : State) (die : Nat) (m : DomMode) : (State.dieTo s die m).fixed = s.fixed := by simp [State.dieTo]

@[simp ↓] theorem State.coreGone_fixed (s : State) (die : Nat) : (State.coreGone s die).fixed = s.fixed := by
  unfold State.coreGone
  repeat' (first | (with_reducible rfl) | (simp [↓apply_ite State.fixed]; done) | split | (simp [↓apply_ite State.fixed, *]; done) | (grind [= State.coreFails_fixed]) | (simp [↓apply_ite State.fixed]))

@[simp ↓] theorem State.dieDown_fixed (s : State) (die : Nat) : (State.dieDown s die).fixed = s.fixed := by
  unfold State.dieDown
  repeat' (first | (with_reducible rfl) | (simp [↓apply_ite State.fixed]; done) | split | (simp [↓apply_ite State.fixed, *]; done) | (grind [= State.commitLost_fixed, = State.coreFails_fixed, = State.detach_fixed, = State.dieTo_fixed, = State.gwPortFit_fixed, = State.portLost_fixed, = State.setPresent_fixed]) | (simp [↓apply_ite State.fixed]))

@[simp ↓] theorem State.startReload_fixed (s : State) (die : Nat) (p : Option Path) : (State.startReload s die p).fixed = s.fixed := by simp [State.startReload]

@[simp ↓] theorem State.autoReloads_fixed (s : State) (die : Nat) : (State.autoReloads s die).fixed = s.fixed := by simp [State.autoReloads, ↓apply_ite State.fixed]

@[simp ↓] theorem State.nextReload_fixed (s : State) : (State.nextReload s).fixed = s.fixed := by unfold State.nextReload; split <;> simp

@[simp ↓] theorem State.reloadFails_fixed (s : State) (die : Nat) (p : Option Path) : (State.reloadFails s die p).fixed = s.fixed := by unfold State.reloadFails; split <;> simp

@[simp ↓] theorem State.loseDie_fixed (s : State) (die code detail : Nat) : (State.loseDie s die code detail).fixed = s.fixed := by simp [State.loseDie, ↓apply_ite State.fixed]

@[simp ↓] theorem State.testFails_fixed (s : State) (f : Nat × Nat × Nat) : (State.testFails s f).fixed = s.fixed := by
  unfold State.testFails
  repeat' (first | (with_reducible rfl) | (simp [↓apply_ite State.fixed]; done) | split | (simp [↓apply_ite State.fixed, *]; done) | (grind [= State.cuffLinkLost_fixed, = State.logFault_fixed, = State.modPort_fixed, = State.modSys_fixed, = State.setPresent_fixed]) | (simp [↓apply_ite State.fixed]))

@[simp ↓] theorem State.dropTrial_fixed (s : State) (n : Nat) : (State.dropTrial s n).fixed = s.fixed := by simp [State.dropTrial, ↓apply_ite State.fixed]

@[simp ↓] theorem State.candidateFails_fixed (s : State) : (State.candidateFails s).fixed = s.fixed := by simp [State.candidateFails]

@[simp ↓] theorem State.chooseSlot_fixed (s : State) : (State.chooseSlot s).1.fixed = s.fixed := by
  unfold State.chooseSlot
  repeat' (first | (with_reducible rfl) | (simp [↓apply_ite State.fixed]; done) | split | (simp [↓apply_ite State.fixed, *]; done) | (grind [= State.candidateFails_fixed, = State.dropTrial_fixed, = State.slotTo_fixed]) | (simp [↓apply_ite State.fixed]))

theorem State.chooseSlot_fixed' (s : State) (t) (y) (h : State.chooseSlot s = (t, y)) : t.fixed = s.fixed := by
  have := State.chooseSlot_fixed s
  rw [h] at this; exact this

@[simp ↓] theorem State.boot_fixed (s : State) (n : Nat) : (State.boot s n).fixed = s.fixed := by simp [State.boot, ↓apply_ite State.fixed]

@[simp ↓] theorem State.release_fixed (s : State) (d : Fab) (m : CoreMode) : (State.release s d m).fixed = s.fixed := by simp [State.release]

@[simp ↓] theorem State.unwrapBlob_fixed (s : State) (n : Nat) (r : ImgRec) (idx : Nat) : (State.unwrapBlob s n r idx).fixed = s.fixed := by
  unfold State.unwrapBlob
  repeat' (first | (with_reducible rfl) | (simp [↓apply_ite State.fixed]; done) | split | (simp [↓apply_ite State.fixed, *]; done) | (grind [= State.addReport_fixed, = State.setSlot_fixed]) | (simp [↓apply_ite State.fixed]))

@[simp ↓] theorem State.runRecord_fixed (s : State) (n : Nat) (r : ImgRec) (idx : Nat) : (State.runRecord s n r idx).fixed = s.fixed := by simp [State.runRecord, ↓apply_ite State.fixed]

@[simp ↓] theorem State.commitLists_fixed (s : State) : (State.commitLists s).fixed = s.fixed := by simp [State.commitLists, ↓apply_ite State.fixed]

@[simp ↓] theorem State.openMailboxes_fixed (s : State) : (State.openMailboxes s).fixed = s.fixed := by simp [State.openMailboxes]

@[simp ↓] theorem State.fillFabric_fixed (s : State) (d : Fab) : (State.fillFabric s d).fixed = s.fixed := by simp [State.fillFabric, ↓apply_ite State.fixed]

@[simp ↓] theorem State.cuffRecords_fixed (s : State) (n : Nat) : (State.cuffRecords s n).fixed = s.fixed := by simp [State.cuffRecords, ↓apply_ite State.fixed]

@[simp ↓] theorem State.restoreSlots_fixed (s : State) (x0 : Nat) (x1 : List Word) : (State.restoreSlots s x0 x1).fixed = s.fixed := by
  fun_induction State.restoreSlots s x0 x1
  all_goals repeat' (first | (with_reducible rfl) | (simp [↓apply_ite State.fixed]; done) | split | (simp [↓apply_ite State.fixed, *]; done) | (grind [= State.slotWrite_fixed, = CmdSpec.take_fixed]) | (simp [↓apply_ite State.fixed]))

@[simp ↓] theorem State.fillCuff_fixed (s : State) : (State.fillCuff s).fixed = s.fixed := by
  unfold State.fillCuff
  dsimp only
  have hg : ∀ u v : State, u.fixed = ((v.modZon fun z => { z with chan := [] }).modLocks fun _ => {}).fixed →
      (u.modLocks fun _ => v.locks).fixed = v.fixed := fun u v h =>
    State.fixed_of_parts ((State.modLocks_grip _ _).trans ((State.grip_of_fixed h).trans rfl)) rfl
  simp [↓apply_ite State.fixed]
  apply hg
  split <;> simp

@[simp ↓] theorem State.dieUp_fixed (s : State) (die : Nat) : (State.dieUp s die).fixed = s.fixed := by simp [State.dieUp]

@[simp ↓] theorem State.reloadCore_fixed (s : State) (d : Fab) : (State.reloadCore s d).fixed = s.fixed := by simp [State.reloadCore, ↓apply_ite State.fixed]

@[simp ↓] theorem State.fillDie_fixed (s : State) (die : Nat) : (State.fillDie s die).fixed = s.fixed := by
  unfold State.fillDie
  repeat' (first | (with_reducible rfl) | (simp [↓apply_ite State.fixed]; done) | split | (simp [↓apply_ite State.fixed, *]; done) | (grind [= State.fillCuff_fixed, = State.fillFabric_fixed]) | (simp [↓apply_ite State.fixed]))

@[simp ↓] theorem State.wakeFails_fixed (s : State) (d : Fab) : (State.wakeFails s d).fixed = s.fixed := by simp [State.wakeFails]

theorem execAoPowerUp_fixed (bk : Bool) (s : State) : ∀ t, execAoPowerUp bk s = .next t → t.fixed = s.fixed := by
  intro t h
  unfold execAoPowerUp at h
  simp only [Host.Outcome.next.injEq] at h; subst h
  cases bk <;> split <;> simp [KeySt.bkLost]

theorem execSlowOscRunning_fixed (hem : Bool) (mbr dt : Nat) (s : State) : ∀ t, execSlowOscRunning hem mbr dt s = .next t → t.fixed = s.fixed := by
  intro t h
  unfold execSlowOscRunning at h
  first
  | (simp only [Host.Outcome.next.injEq] at h; subst h; repeat' (first | (with_reducible rfl) | (simp [↓apply_ite State.fixed]; done) | split | (simp [↓apply_ite State.fixed, *]; done) | (grind [= State.adv_fixed, = State.logFault_fixed, = State.modStk_fixed, = State.modSys_fixed, = State.raiseDev_fixed, = State.startTo_fixed, = State.tamper_fixed]) | (simp [↓apply_ite State.fixed])))
  | (split at h <;> (simp only [Host.Outcome.next.injEq] at h; subst h; repeat' (first | (with_reducible rfl) | (simp [↓apply_ite State.fixed]; done) | split | (simp [↓apply_ite State.fixed, *]; done) | (grind [= State.adv_fixed, = State.logFault_fixed, = State.modStk_fixed, = State.modSys_fixed, = State.raiseDev_fixed, = State.startTo_fixed, = State.tamper_fixed]) | (simp [↓apply_ite State.fixed]))))
  | (repeat' split at h
     all_goals (simp only [Host.Outcome.next.injEq] at h; subst h; repeat' (first | (with_reducible rfl) | (simp [↓apply_ite State.fixed]; done) | split | (simp [↓apply_ite State.fixed, *]; done) | (grind [= State.adv_fixed, = State.logFault_fixed, = State.modStk_fixed, = State.modSys_fixed, = State.raiseDev_fixed, = State.startTo_fixed, = State.tamper_fixed]) | (simp [↓apply_ite State.fixed]))))

theorem execTcxoLock_fixed (dt : Nat) (s : State) : ∀ t, execTcxoLock dt s = .next t → t.fixed = s.fixed := by rintro _ ⟨⟩; split <;> simp

theorem execClockWaitTimeout_fixed (s : State) : ∀ t, execClockWaitTimeout s = .next t → t.fixed = s.fixed := by rintro _ ⟨⟩; split <;> simp

theorem execSupplyOnStable_fixed (volts dt : Nat) (s : State) : ∀ t, execSupplyOnStable volts dt s = .next t → t.fixed = s.fixed := by rintro _ ⟨⟩; split <;> simp

theorem execHaltPowerRetry_fixed (s : State) : ∀ t, execHaltPowerRetry s = .next t → t.fixed = s.fixed := by rintro _ ⟨⟩; split <;> simp

theorem execCuffLinkLost_fixed (die : Fab) (s : State) : ∀ t, execCuffLinkLost die s = .next t → t.fixed = s.fixed := by rintro _ ⟨⟩; split <;> simp

theorem execDieLost_fixed (die dt : Nat) (s : State) : ∀ t, execDieLost die dt s = .next t → t.fixed = s.fixed := by rintro _ ⟨⟩; split <;> simp

theorem execSeqPgTimeout_fixed (s : State) : ∀ t, execSeqPgTimeout s = .next t → t.fixed = s.fixed := by
  intro t h
  unfold execSeqPgTimeout at h
  first
  | (simp only [Host.Outcome.next.injEq] at h; subst h; repeat' (first | (with_reducible rfl) | (simp [↓apply_ite State.fixed]; done) | split | (simp [↓apply_ite State.fixed, *]; done) | (grind [= State.advTick_fixed, = State.domTo_fixed, = State.halt_fixed, = State.logFault_fixed, = State.loseDie_fixed, = State.modPow_fixed, = State.modSys_fixed, = State.reloadFails_fixed, = State.seqFrom_fixed, = State.setPresent_fixed]) | (simp [↓apply_ite State.fixed])))
  | (split at h <;> (simp only [Host.Outcome.next.injEq] at h; subst h; repeat' (first | (with_reducible rfl) | (simp [↓apply_ite State.fixed]; done) | split | (simp [↓apply_ite State.fixed, *]; done) | (grind [= State.advTick_fixed, = State.domTo_fixed, = State.halt_fixed, = State.logFault_fixed, = State.loseDie_fixed, = State.modPow_fixed, = State.modSys_fixed, = State.reloadFails_fixed, = State.seqFrom_fixed, = State.setPresent_fixed]) | (simp [↓apply_ite State.fixed]))))
  | (repeat' split at h
     all_goals (simp only [Host.Outcome.next.injEq] at h; subst h; repeat' (first | (with_reducible rfl) | (simp [↓apply_ite State.fixed]; done) | split | (simp [↓apply_ite State.fixed, *]; done) | (grind [= State.advTick_fixed, = State.domTo_fixed, = State.halt_fixed, = State.logFault_fixed, = State.loseDie_fixed, = State.modPow_fixed, = State.modSys_fixed, = State.reloadFails_fixed, = State.seqFrom_fixed, = State.setPresent_fixed]) | (simp [↓apply_ite State.fixed]))))

theorem execSelftestComplete_fixed (fails : List (Nat × Nat × Nat)) (dt : Nat) (s : State) : ∀ t, execSelftestComplete fails dt s = .next t → t.fixed = s.fixed := by
  intro t h
  unfold execSelftestComplete at h
  first
  | (simp only [Host.Outcome.next.injEq] at h; subst h; repeat' (first | (with_reducible rfl) | (simp [↓apply_ite State.fixed]; done) | split | (simp [↓apply_ite State.fixed, *]; done) | (grind [= State.adv_fixed, = State.halt_fixed, = State.startTo_fixed, = State.testFails_fixed]) | (simp [↓apply_ite State.fixed])))
  | (split at h <;> (simp only [Host.Outcome.next.injEq] at h; subst h; repeat' (first | (with_reducible rfl) | (simp [↓apply_ite State.fixed]; done) | split | (simp [↓apply_ite State.fixed, *]; done) | (grind [= State.adv_fixed, = State.halt_fixed, = State.startTo_fixed, = State.testFails_fixed]) | (simp [↓apply_ite State.fixed]))))
  | (repeat' split at h
     all_goals (simp only [Host.Outcome.next.injEq] at h; subst h; repeat' (first | (with_reducible rfl) | (simp [↓apply_ite State.fixed]; done) | split | (simp [↓apply_ite State.fixed, *]; done) | (grind [= State.adv_fixed, = State.halt_fixed, = State.startTo_fixed, = State.testFails_fixed]) | (simp [↓apply_ite State.fixed]))))

theorem execImageVerified_fixed (dt : Nat) (s : State) : ∀ t, execImageVerified dt s = .next t → t.fixed = s.fixed := by
  intro t h
  unfold execImageVerified at h
  first
  | (simp only [Host.Outcome.next.injEq] at h; subst h; repeat' (first | (with_reducible rfl) | (simp [↓apply_ite State.fixed]; done) | split | (simp [↓apply_ite State.fixed, *]; done) | (grind [= State.adv_fixed, = State.boot_fixed, → State.chooseSlot_fixed', = State.halt_fixed]) | (simp [↓apply_ite State.fixed])))
  | (split at h <;> (simp only [Host.Outcome.next.injEq] at h; subst h; repeat' (first | (with_reducible rfl) | (simp [↓apply_ite State.fixed]; done) | split | (simp [↓apply_ite State.fixed, *]; done) | (grind [= State.adv_fixed, = State.boot_fixed, → State.chooseSlot_fixed', = State.halt_fixed]) | (simp [↓apply_ite State.fixed]))))
  | (repeat' split at h
     all_goals (simp only [Host.Outcome.next.injEq] at h; subst h; repeat' (first | (with_reducible rfl) | (simp [↓apply_ite State.fixed]; done) | split | (simp [↓apply_ite State.fixed, *]; done) | (grind [= State.adv_fixed, = State.boot_fixed, → State.chooseSlot_fixed', = State.halt_fixed]) | (simp [↓apply_ite State.fixed]))))

theorem execMeasurementReleased_fixed (west east : Bool) (dt : Nat) (s : State) : ∀ t, execMeasurementReleased west east dt s = .next t → t.fixed = s.fixed := by
  intro t h
  unfold execMeasurementReleased at h
  first
  | (simp only [Host.Outcome.next.injEq] at h; subst h; repeat' (first | (with_reducible rfl) | (simp [↓apply_ite State.fixed]; done) | split | (simp [↓apply_ite State.fixed, *]; done) | (grind [= State.adv_fixed, = State.modPair_fixed, = State.release_fixed, = State.startTo_fixed]) | (simp [↓apply_ite State.fixed])))
  | (split at h <;> (simp only [Host.Outcome.next.injEq] at h; subst h; repeat' (first | (with_reducible rfl) | (simp [↓apply_ite State.fixed]; done) | split | (simp [↓apply_ite State.fixed, *]; done) | (grind [= State.adv_fixed, = State.modPair_fixed, = State.release_fixed, = State.startTo_fixed]) | (simp [↓apply_ite State.fixed]))))
  | (repeat' split at h
     all_goals (simp only [Host.Outcome.next.injEq] at h; subst h; repeat' (first | (with_reducible rfl) | (simp [↓apply_ite State.fixed]; done) | split | (simp [↓apply_ite State.fixed, *]; done) | (grind [= State.adv_fixed, = State.modPair_fixed, = State.release_fixed, = State.startTo_fixed]) | (simp [↓apply_ite State.fixed]))))

theorem execCoreBootTimeout_fixed (s : State) : ∀ t, execCoreBootTimeout s = .next t → t.fixed = s.fixed := by rintro _ ⟨⟩; split <;> simp

theorem execImageRecordExec_fixed (dt : Nat) (s : State) : ∀ t, execImageRecordExec dt s = .next t → t.fixed = s.fixed := by
  intro t h
  unfold execImageRecordExec at h
  first
  | (simp only [Host.Outcome.next.injEq] at h; subst h; repeat' (first | (with_reducible rfl) | (simp [↓apply_ite State.fixed]; done) | split | (simp [↓apply_ite State.fixed, *]; done) | (grind [= State.adv_fixed, = State.modImg_fixed, = State.runRecord_fixed, = State.startTo_fixed]) | (simp [↓apply_ite State.fixed])))
  | (split at h <;> (simp only [Host.Outcome.next.injEq] at h; subst h; repeat' (first | (with_reducible rfl) | (simp [↓apply_ite State.fixed]; done) | split | (simp [↓apply_ite State.fixed, *]; done) | (grind [= State.adv_fixed, = State.modImg_fixed, = State.runRecord_fixed, = State.startTo_fixed]) | (simp [↓apply_ite State.fixed]))))
  | (repeat' split at h
     all_goals (simp only [Host.Outcome.next.injEq] at h; subst h; repeat' (first | (with_reducible rfl) | (simp [↓apply_ite State.fixed]; done) | split | (simp [↓apply_ite State.fixed, *]; done) | (grind [= State.adv_fixed, = State.modImg_fixed, = State.runRecord_fixed, = State.startTo_fixed]) | (simp [↓apply_ite State.fixed]))))

theorem execDieReloadForwarding_fixed (test dt : Nat) (s : State) : ∀ t, execDieReloadForwarding test dt s = .next t → t.fixed = s.fixed := by
  intro t h
  unfold execDieReloadForwarding at h
  first
  | (simp only [Host.Outcome.next.injEq] at h; subst h; repeat' (first | (with_reducible rfl) | (simp [↓apply_ite State.fixed]; done) | split | (simp [↓apply_ite State.fixed, *]; done) | (grind [= State.adv_fixed, = State.dieUp_fixed, = State.fillDie_fixed, = State.finish_fixed, = State.gwPortFit_fixed, = State.logFault_fixed, = State.modSys_fixed, = State.nextReload_fixed, = State.reloadCore_fixed, = State.reloadFails_fixed]) | (simp [↓apply_ite State.fixed])))
  | (split at h <;> (simp only [Host.Outcome.next.injEq] at h; subst h; repeat' (first | (with_reducible rfl) | (simp [↓apply_ite State.fixed]; done) | split | (simp [↓apply_ite State.fixed, *]; done) | (grind [= State.adv_fixed, = State.dieUp_fixed, = State.fillDie_fixed, = State.finish_fixed, = State.gwPortFit_fixed, = State.logFault_fixed, = State.modSys_fixed, = State.nextReload_fixed, = State.reloadCore_fixed, = State.reloadFails_fixed]) | (simp [↓apply_ite State.fixed]))))
  | (repeat' split at h
     all_goals (simp only [Host.Outcome.next.injEq] at h; subst h; repeat' (first | (with_reducible rfl) | (simp [↓apply_ite State.fixed]; done) | split | (simp [↓apply_ite State.fixed, *]; done) | (grind [= State.adv_fixed, = State.dieUp_fixed, = State.fillDie_fixed, = State.finish_fixed, = State.gwPortFit_fixed, = State.logFault_fixed, = State.modSys_fixed, = State.nextReload_fixed, = State.reloadCore_fixed, = State.reloadFails_fixed]) | (simp [↓apply_ite State.fixed]))))

theorem execCoreWakeRebuild_fixed (west east : Bool) (dt : Nat) (s : State) : ∀ t, execCoreWakeRebuild west east dt s = .next t → t.fixed = s.fixed := by
  intro t h
  unfold execCoreWakeRebuild at h
  first
  | (simp only [Host.Outcome.next.injEq] at h; subst h; repeat' (first | (with_reducible rfl) | (simp [↓apply_ite State.fixed]; done) | split | (simp [↓apply_ite State.fixed, *]; done) | (grind [= State.adv_fixed, = State.dropLining_fixed, = State.modCore_fixed, = State.modPair_fixed, = State.modPow_fixed, = State.openMailboxes_fixed, = State.startCatchUp_fixed, = State.startCore_fixed, = State.wakeFails_fixed]) | (simp [↓apply_ite State.fixed])))
  | (split at h <;> (simp only [Host.Outcome.next.injEq] at h; subst h; repeat' (first | (with_reducible rfl) | (simp [↓apply_ite State.fixed]; done) | split | (simp [↓apply_ite State.fixed, *]; done) | (grind [= State.adv_fixed, = State.dropLining_fixed, = State.modCore_fixed, = State.modPair_fixed, = State.modPow_fixed, = State.openMailboxes_fixed, = State.startCatchUp_fixed, = State.startCore_fixed, = State.wakeFails_fixed]) | (simp [↓apply_ite State.fixed]))))
  | (repeat' split at h
     all_goals (simp only [Host.Outcome.next.injEq] at h; subst h; repeat' (first | (with_reducible rfl) | (simp [↓apply_ite State.fixed]; done) | split | (simp [↓apply_ite State.fixed, *]; done) | (grind [= State.adv_fixed, = State.dropLining_fixed, = State.modCore_fixed, = State.modPair_fixed, = State.modPow_fixed, = State.openMailboxes_fixed, = State.startCatchUp_fixed, = State.startCore_fixed, = State.wakeFails_fixed]) | (simp [↓apply_ite State.fixed]))))

/-! ### StartCmds -/

@[simp ↓] theorem faultStatusRead_fixed (r : Req) (s : State) : (faultStatusRead.run r s).st.fixed = s.fixed := (rfl)

@[simp ↓] theorem faultLogRead_fixed (r : Req) (s : State) : (faultLogRead.run r s).st.fixed = s.fixed := by simp [faultLogRead]; split <;> simp

@[simp ↓] theorem faultLinkEnable_fixed (r : Req) (s : State) : (faultLinkEnable.run r s).st.fixed = s.fixed := by simp [faultLinkEnable]; split <;> simp

@[simp ↓] theorem faultDieReload_fixed (r : Req) (s : State) : (faultDieReload.run r s).st.fixed = s.fixed := by simp [faultDieReload]

@[simp ↓] theorem faultReset_fixed (r : Req) (s : State) : (faultReset.run r s).st.fixed = s.fixed := (rfl)

theorem execFaultStatusRead_fixed (r : Req) (s : State) : ∀ t, execFaultStatusRead r s = .next t → t.fixed = s.fixed := by rintro _ ⟨⟩; exact mailbox_fixed _ _ _ faultStatusRead_fixed

theorem execFaultLogRead_fixed (r : Req) (s : State) : ∀ t, execFaultLogRead r s = .next t → t.fixed = s.fixed := by rintro _ ⟨⟩; exact mailbox_fixed _ _ _ faultLogRead_fixed

theorem execFaultLinkEnable_fixed (r : Req) (s : State) : ∀ t, execFaultLinkEnable r s = .next t → t.fixed = s.fixed := by rintro _ ⟨⟩; exact mailbox_fixed _ _ _ faultLinkEnable_fixed

theorem execFaultDieReload_fixed (r : Req) (s : State) : ∀ t, execFaultDieReload r s = .next t → t.fixed = s.fixed := by rintro _ ⟨⟩; exact mailbox_fixed _ _ _ faultDieReload_fixed

/-! ### Step -/

@[simp ↓] theorem State.idle_fixed (s : State) : (State.idle s).fixed = s.fixed := (rfl)

end Machine
end Sys2Proof
end

