-- ==== Sys2Proof/Laws/Locks.lean ====
section
/-! SUPPORT. The few commands that write a lock register, reset the device or program a verifier slot, and what they leave. -/

namespace Sys2Proof

theorem inMask_eq_testBit (m i : Nat) : inMask m i = m.testBit i := by
  rw [inMask, Nat.testBit_eq_decide_div_mod_eq]
  by_cases h : m / 2 ^ i % 2 = 1 <;> simp [h]

theorem setMask_true (m i : Nat) : setMask m i true = m ||| 2 ^ i := by
  unfold setMask
  apply Nat.eq_of_testBit_eq
  intro j
  split
  · rename_i h
    rw [inMask_eq_testBit] at h
    simp only [if_true, Nat.testBit_or, Nat.testBit_two_pow]
    by_cases hj : i = j
    · subst hj; simp [h]
    · simp [hj]
  · rename_i h
    rw [inMask_eq_testBit] at h
    simp only [if_true]
    have hr : m % 2 ^ (i + 1) < 2 ^ i := by
      rw [Nat.testBit_eq_decide_div_mod_eq] at h
      have h2 : m % 2 ^ (i + 1) / 2 ^ i = m / 2 ^ i % 2 := by
        rw [Nat.pow_succ, Nat.mod_mul_right_div_self]
      have h3 : m / 2 ^ i % 2 = 0 := by simpa using h
      rw [h3] at h2
      have := Nat.div_eq_zero_iff.mp h2
      have : 0 < 2 ^ i := Nat.two_pow_pos i
      omega
    have hm : m + 2 ^ i = 2 ^ (i + 1) * (m / 2 ^ (i + 1)) + (2 ^ i * 1 + m % 2 ^ (i + 1)) := by
      have := Nat.div_add_mod m (2 ^ (i + 1)); omega
    have hlt : 2 ^ i * 1 + m % 2 ^ (i + 1) < 2 ^ (i + 1) := by
      have e : 2 ^ (i + 1) = 2 * 2 ^ i := by rw [Nat.pow_succ, Nat.mul_comm]
      omega
    rw [hm, Nat.testBit_two_pow_mul_add _ hlt, Nat.two_pow_add_eq_or_of_lt hr]
    have hm2 : m.testBit j = if j < i + 1 then (m % 2 ^ (i + 1)).testBit j else (m / 2 ^ (i + 1)).testBit (j - (i + 1)) := by
      have h0 := Nat.testBit_two_pow_mul_add (m / 2 ^ (i + 1)) (Nat.mod_lt m (Nat.two_pow_pos (i + 1))) j
      rwa [Nat.div_add_mod] at h0
    simp only [Nat.testBit_or, hm2]
    split <;> rename_i hj
    · simp [Bool.or_comm, Nat.testBit_two_pow]
    · have : ¬ i = j := by omega
      simp [this]

/-- Setting a bit of a mask keeps every bit that is set. -/
theorem inMask_setMask_true {m i j : Nat} (h : inMask m j = true) : inMask (setMask m i true) j = true := by
  rw [setMask_true, inMask_eq_testBit, Nat.testBit_or, ← inMask_eq_testBit, h, Bool.true_or]

end Sys2Proof

namespace Sys2Proof.Machine

theorem LockSt.holds_refl (l : LockSt) : l.holds l := ⟨id, id, id, id⟩

theorem LockSt.holds_trans {l m n : LockSt} (h : l.holds m) (k : m.holds n) : l.holds n :=
  ⟨fun x => k.1 (h.1 x), fun x => k.2.1 (h.2.1 x), fun x => k.2.2.1 (h.2.2.1 x), fun x => k.2.2.2 (h.2.2.2 x)⟩

/-- `t` has the queue and the one-time-programmable words of `s`, and every lock bit that `s` has set. -/
def State.keeps (s t : State) : Prop := t.grip = s.grip ∧ s.locks.holds t.locks

theorem State.keeps_of_fixed {s t : State} (h : t.fixed = s.fixed) : s.keeps t :=
  ⟨State.grip_of_fixed h, by rw [State.locks_of_fixed h]; exact LockSt.holds_refl _⟩

theorem State.keeps_trans {s t u : State} (h : s.keeps t) (k : t.keeps u) : s.keeps u :=
  ⟨k.1.trans h.1, LockSt.holds_trans h.2 k.2⟩

/-! ### Writes of the lock registers -/

theorem State.applyD0_keeps (s : State) (p : Path) (k : Nat) (w : Word) : s.keeps (s.applyD0 p k w) := by
  unfold State.applyD0
  dsimp only
  repeat' split
  all_goals first
    | exact State.keeps_of_fixed (by simp)
    | (refine ⟨rfl, ?_⟩; simp_all [LockSt.holds])

theorem State.applyPath_keeps (s : State) (p : Path) : s.keeps (s.applyPath p) := by
  unfold State.applyPath
  split
  · exact State.keeps_of_fixed rfl
  · exact State.keeps_trans (State.keeps_of_fixed (by simp)) (State.applyD0_keeps _ _ _ _)

theorem State.slowApply_keeps (s : State) : s.keeps s.slowApply := by
  have h : ∀ (l : List Path) (u : State), u.keeps (l.foldl State.applyPath u) := by
    intro l
    induction l with
    | nil => intro u; exact State.keeps_of_fixed rfl
    | cons p l ih => intro u; exact State.keeps_trans (State.applyPath_keeps u p) (ih _)
  exact State.keeps_trans (State.keeps_of_fixed (by simp)) (h _ _)

theorem State.applyLocks_keeps (s : State) (w : Word) : s.keeps (s.applyLocks w) := by
  have h : s.keeps (if bit1 w 31 then s.startCommit .image s.sys.present else s) :=
    State.keeps_of_fixed (by split <;> simp)
  refine State.keeps_trans h ⟨rfl, ?_⟩
  simp only [LockSt.holds, State.applyLocks, State.modLocks, LockSt.apply, Bool.or_eq_true]
  exact ⟨Or.inl, Or.inl, Or.inl, Or.inl⟩

theorem execD0PostedWriteApply_keeps (s : State) : ∀ t, execD0PostedWriteApply s = .next t → s.keeps t := by
  rintro _ ⟨⟩; exact s.slowApply_keeps

theorem execPolicyLockSet_keeps (p : Path) (w : Word) (s : State) : ∀ t, execPolicyLockSet p w s = .next t → s.keeps t := by
  rintro _ ⟨⟩; exact State.keeps_trans (State.keeps_of_fixed (by simp)) (State.slowApply_keeps _)

theorem execSealLockSet_keeps (p : Path) (w : Word) (s : State) : ∀ t, execSealLockSet p w s = .next t → s.keeps t := by
  rintro _ ⟨⟩; exact State.keeps_trans (State.keeps_of_fixed (by simp)) (State.slowApply_keeps _)

theorem execKeyLockSet_keeps (p : Path) (w : Word) (s : State) : ∀ t, execKeyLockSet p w s = .next t → s.keeps t := by
  rintro _ ⟨⟩; exact State.keeps_trans (State.keeps_of_fixed (by simp)) (State.slowApply_keeps _)

theorem execPowerLimitLockSet_keeps (p : Path) (w : Word) (s : State) :
    ∀ t, execPowerLimitLockSet p w s = .next t → s.keeps t := by
  rintro _ ⟨⟩; exact State.keeps_trans (State.keeps_of_fixed (by simp)) (State.slowApply_keeps _)

theorem execLocksApply_keeps (dt : Nat) (s : State) : ∀ t, execLocksApply dt s = .next t → s.keeps t := by
  rintro _ ⟨⟩
  split
  · have h : ∀ o : Option Word, s.keeps (match o with | some w => (s.adv dt).applyLocks w | none => s.adv dt) := by
      intro o
      cases o with
      | none => exact State.keeps_of_fixed (by simp)
      | some w => exact State.keeps_trans (State.keeps_of_fixed (by simp)) (State.applyLocks_keeps _ w)
    refine State.keeps_trans (h (s.adv dt).img.locksWord) (State.keeps_of_fixed ?_)
    simp [↓apply_ite State.fixed] <;> cases s.img.locksWord <;> rfl
  · exact State.keeps_of_fixed rfl

theorem execBlobsHandled_keeps (dt : Nat) (s : State) : ∀ t, execBlobsHandled dt s = .next t → s.keeps t := by
  rintro _ ⟨⟩
  split
  · dsimp only
    generalize (s.img.blobs s.img.runSlot).1.zip (List.range (s.img.blobs s.img.runSlot).1.length) = l
    have h (n k : Nat) : s.keeps (l.foldl (fun s e => s.unwrapBlob n e.1 (k + e.2)) (s.adv dt)) :=
      State.keeps_of_fixed (by rw [foldl_fixed _ (fun _ _ => by simp)]; simp)
    refine State.keeps_trans (h s.img.runSlot (s.img.records s.img.runSlot).length) ?_
    generalize l.foldl _ _ = u
    refine State.keeps_trans (t := u.modLocks fun l => { l with reaction := 0, limit := 0 }) ⟨rfl, id, id, id, id⟩ ?_
    exact State.keeps_of_fixed (by simp)
  · exact State.keeps_of_fixed rfl

/-! ### Resets -/

theorem State.deviceReset_grip (s : State) (code : Nat) : (s.deviceReset code).grip = s.grip := by
  unfold State.deviceReset
  dsimp only
  rw [State.grip_of_fixed (State.logFault_fixed _ _ _ _)]
  have := State.grip_of_fixed (State.runOff_fixed s)
  exact this

theorem State.aoLost_grip (s : State) : s.aoLost.grip = s.grip := rfl

theorem execResetNInput_grip (dt : Nat) (s : State) : ∀ t, execResetNInput dt s = .next t → t.grip = s.grip := by
  rintro _ ⟨⟩
  split
  · rw [State.deviceReset_grip]; exact State.grip_of_fixed (by simp)
  · rfl

theorem execSupplyRestored_grip (volts dt : Nat) (s : State) :
    ∀ t, execSupplyRestored volts dt s = .next t → t.grip = s.grip := by
  rintro _ ⟨⟩
  split
  · rw [State.grip_of_fixed (State.wakeRecord_fixed _ _), State.deviceReset_grip]; exact State.grip_of_fixed (by simp)
  · rfl

theorem execFaultReset_grip (r : Req) (s : State) : ∀ t, execFaultReset r s = .next t → t.grip = s.grip := by
  rintro _ ⟨⟩
  have h := mailbox_fixed faultReset r s faultReset_fixed
  split
  · rw [State.deviceReset_grip]; exact State.grip_of_fixed (by simp)
  · exact State.grip_of_fixed h

theorem execAoSupplyLoss_grip (dt : Nat) (s : State) : ∀ t, execAoSupplyLoss dt s = .next t → t.grip = s.grip := by
  rintro _ ⟨⟩
  split
  · rw [State.aoLost_grip]; exact State.grip_of_fixed (by split <;> simp)
  · rfl

/-! ### Verifier slots -/

/-- What one mailbox command does to the queue, the one-time-programmable words and the lock fields is what its
execution does. -/
theorem mailbox_rel (R : List Instr × (Nat × Nat × Nat × Tbl Nat) × LockSt → List Instr × (Nat × Nat × Nat × Tbl Nat) × LockSt → Prop)
    (refl : ∀ x, R x x) (sp : CmdSpec) (h : ∀ r s, R s.fixed (sp.run r s).st.fixed) (r : Req) (s : State) :
    R s.fixed (mailbox sp r s).fixed := by
  have hj (r : Req) (s : State) : R s.fixed (sp.judge r s).1.st.fixed := by
    unfold CmdSpec.judge
    dsimp only
    repeat' split
    all_goals first | exact refl _ | exact h _ _
  have ht (pd : Pend) (s : State) : R s.fixed (sp.take pd s).fixed := by
    have := hj pd.req (s.modPath pd.req.path fun q => { q with waiting := q.waiting.drop 1 })
    unfold CmdSpec.take
    dsimp only
    repeat' split
    all_goals simpa using this
  have hs (s : State) : R s.fixed (sp.serve r s).fixed := by
    unfold CmdSpec.serve
    repeat' split
    all_goals first | exact refl _ | exact ht _ _ | simpa using refl _
  unfold mailbox
  split
  · simpa using hs s
  · simpa using hs (s.submit sp.opcode r)

/-- KEY.VERIFIER_WRITE leaves the queue and the lock fields, and clears no VALID or REVOKED bit (15 R424). -/
theorem execKeyVerifierWrite_keeps (r : Req) (s : State) : ∀ t, execKeyVerifierWrite r s = .next t →
    t.pending = s.pending ∧ t.locks = s.locks ∧ (∀ v, inMask s.key.vValid v = true → inMask t.key.vValid v = true) ∧
      (∀ v, inMask s.key.vRevoked v = true → inMask t.key.vRevoked v = true) := by
  rintro _ ⟨⟩
  have := mailbox_rel (fun x y => y.1 = x.1 ∧ y.2.2 = x.2.2 ∧ (∀ v, inMask x.2.1.1 v = true → inMask y.2.1.1 v = true) ∧
    (∀ v, inMask x.2.1.2.1 v = true → inMask y.2.1.2.1 v = true)) (fun x => ⟨rfl, rfl, fun _ h => h, fun _ h => h⟩)
    keyVerifierWrite (by
      intro r s
      refine ⟨rfl, rfl, ?_, ?_⟩
      · intro v hv
        show inMask (if _ then _ else _ : KeySt).vValid v = true
        split
        · exact hv
        · exact inMask_setMask_true hv
      · intro v hv
        show inMask (if _ then _ else _ : KeySt).vRevoked v = true
        split
        · exact inMask_setMask_true hv
        · exact hv) r s
  exact this

end Sys2Proof.Machine
end

