-- ==== Sys2Proof/Laws/Near.lean ====
section
/-! SUPPORT. What the events of the legacy channels and of the gateway leave: tables, zones, gates, ports, images and keys. -/

namespace Sys2Proof
namespace Machine

set_option linter.unusedSimpArgs false

/-- The slices that these events leave. -/
def State.near (s : State) : TabSt × ZoneSt × EgressSt × Tbl PortSt × ImgSt × KeySt := (s.tab, s.zon, s.egr, s.ports, s.img, s.key)

@[simp ↓] theorem State.modHost_near (s : State) (f : HostSt → HostSt) : (s.modHost f).near = s.near := (rfl)

@[simp ↓] theorem State.modPath_near (s : State) (p : Path) (f : PathSt → PathSt) : (s.modPath p f).near = s.near := (rfl)

@[simp ↓] theorem foldl_near {α : Type} (f : State → α → State) (h : ∀ s a, (f s a).near = s.near) (l : List α) (s : State) :
    (l.foldl f s).near = s.near := by
  induction l generalizing s with
  | nil => rfl
  | cons a l ih => rw [List.foldl_cons, ih, h]

/-! ### Ops -/

@[simp ↓] theorem State.modTim_near (s : State) (f : TimeSt → TimeSt) : (State.modTim s f).near = s.near := (rfl)

@[simp ↓] theorem State.modGw_near (s : State) (f : GwSt → GwSt) : (State.modGw s f).near = s.near := (rfl)

@[simp ↓] theorem State.modPow_near (s : State) (f : PowerSt → PowerSt) : (State.modPow s f).near = s.near := (rfl)

@[simp ↓] theorem State.modEdge_near (s : State) (f : EdgeSt → EdgeSt) : (State.modEdge s f).near = s.near := (rfl)

@[simp ↓] theorem State.modFab_near (s : State) (d : Fab) (f : FabSt → FabSt) : (State.modFab s d f).near = s.near := by cases d <;> rfl

@[simp ↓] theorem State.emit_near (s : State) (o : Output) : (State.emit s o).near = s.near := (rfl)

@[simp ↓] theorem State.useFree_near (s : State) : (State.useFree s).near = s.near := (rfl)

@[simp ↓] theorem State.raiseAt_near (s : State) (p : Path) (n f : Nat) : (State.raiseAt s p n f).near = s.near := by
  unfold State.raiseAt
  repeat' (first | (with_reducible rfl) | (simp [↓apply_ite State.near]; done) | split | (simp [↓apply_ite State.near, *]; done) | (grind [= State.emit_near]) | (simp [↓apply_ite State.near]))

@[simp ↓] theorem State.raiseDev_near (s : State) (f : DevFlag) : (State.raiseDev s f).near = s.near := by simp [State.raiseDev]

@[simp ↓] theorem State.satRaise_near (s : State) (old k : Nat) (ev : State → State) (h : (ev s).near = s.near) : (State.satRaise s old k ev).near = s.near := by
  unfold State.satRaise; split <;> simp [*]

/-! ### Clock -/

@[simp ↓] theorem State.adv_near (s : State) (n : Nat) : (State.adv s n).near = s.near := (rfl)

@[simp ↓] theorem State.advTick_near (s : State) (k : Nat) : (State.advTick s k).near = s.near := (rfl)

@[simp ↓] theorem State.advQ_near (s : State) (q : Nat) : (State.advQ s q).near = s.near := (rfl)

/-! ### Frames -/

@[simp ↓] theorem State.addFrame_near (s : State) (d : Fab) (f : FrameSt) : (State.addFrame s d f).1.near = s.near := by simp [State.addFrame]

theorem State.addFrame_near' (s : State) (d : Fab) (f : FrameSt) (t) (y) (h : State.addFrame s d f = (t, y)) : t.near = s.near := by
  have := State.addFrame_near s d f
  rw [h] at this; exact this

@[simp ↓] theorem State.stage_near (s : State) (p : Nat) (bytes : List Byte) (phy : Bool) (f0 : FrameSt) : (State.stage s p bytes phy f0).near = s.near := by simp [State.stage, ↓apply_ite State.near]

/-! ### Wake -/

@[simp ↓] theorem State.noteFirst_near (s : State) (w : WakeIn) : (State.noteFirst s w).near = s.near := by
  unfold State.noteFirst
  repeat' (first | (with_reducible rfl) | (simp [↓apply_ite State.near]; done) | split | (simp [↓apply_ite State.near, *]; done) | (grind [= State.modPow_near]) | (simp [↓apply_ite State.near]))

/-! ### Edge -/

@[simp ↓] theorem State.modCan_near (s : State) (c : Nat) (f : CanCh → CanCh) : (State.modCan s c f).near = s.near := (rfl)

@[simp ↓] theorem State.modLin_near (s : State) (c : Nat) (f : LinCh → LinCh) : (State.modLin s c f).near = s.near := (rfl)

@[simp ↓] theorem State.modSer_near (s : State) (c : Nat) (f : SerCh → SerCh) : (State.modSer s c f).near = s.near := (rfl)

@[simp ↓] theorem State.modCtrE_near (s : State) (n : Nat) (f : EdgeCtr → EdgeCtr) : (State.modCtrE s n f).near = s.near := (rfl)

@[simp ↓] theorem State.edgeCount_near (s : State) (n i : Nat) : (State.edgeCount s n i).near = s.near := by simp [State.edgeCount]

@[simp ↓] theorem State.rxCount_near (s : State) (n : Nat) : (State.rxCount s n).near = s.near := (rfl)

@[simp ↓] theorem State.txCount_near (s : State) (n : Nat) : (State.txCount s n).near = s.near := (rfl)

@[simp ↓] theorem State.modSlot_near (s : State) (n : Nat) (f : PerSlot → PerSlot) : (State.modSlot s n f).near = s.near := (rfl)

@[simp ↓] theorem State.pruneCan_near (s : State) (c : Nat) : (State.pruneCan s c).near = s.near := by simp [State.pruneCan, ↓apply_ite State.near]

@[simp ↓] theorem State.dropCan_near (s : State) (c : Nat) : (State.dropCan s c).near = s.near := by simp [State.dropCan]

@[simp ↓] theorem State.slotSent_near (s : State) (o : TxOrigin) : (State.slotSent s o).near = s.near := by unfold State.slotSent; split <;> simp

@[simp ↓] theorem State.canQueue_near (s : State) (c : Nat) (f : CanFrame) (o : TxOrigin) : (State.canQueue s c f o).1.near = s.near := by
  unfold State.canQueue
  repeat' (first | (with_reducible rfl) | (simp [↓apply_ite State.near]; done) | split | (simp [↓apply_ite State.near, *]; done) | (grind [= State.edgeCount_near, = State.modCan_near]) | (simp [↓apply_ite State.near]))

theorem State.canQueue_near' (s : State) (c : Nat) (f : CanFrame) (o : TxOrigin) (t) (y) (h : State.canQueue s c f o = (t, y)) : t.near = s.near := by
  have := State.canQueue_near s c f o
  rw [h] at this; exact this

@[simp ↓] theorem State.linAnswer_near (s : State) (c id : Nat) (header : Bool) : (State.linAnswer s c id header).near = s.near := by
  unfold State.linAnswer
  repeat' (first | (with_reducible rfl) | (simp [↓apply_ite State.near]; done) | split | (simp [↓apply_ite State.near, *]; done) | (grind [= State.edgeCount_near, = State.emit_near, = State.modLin_near, = State.txCount_near]) | (simp [↓apply_ite State.near]))

@[simp ↓] theorem State.linSleep_near (s : State) (c : Nat) : (State.linSleep s c).near = s.near := by simp [State.linSleep]

@[simp ↓] theorem State.serDiscard_near (s : State) (c i err : Nat) : (State.serDiscard s c i err).near = s.near := by simp [State.serDiscard]

@[simp ↓] theorem State.serDeliver_near (s : State) (c addr : Nat) (payload : List Nat) : (State.serDeliver s c addr payload).near = s.near := by simp [State.serDeliver, ↓apply_ite State.near]

@[simp ↓] theorem State.serStep_near (s : State) (c : Nat) (gap : Bool) : (State.serStep s c gap).near = s.near := by
  unfold State.serStep
  repeat' (first | (with_reducible rfl) | (simp [↓apply_ite State.near]; done) | split | (simp [↓apply_ite State.near, *]; done) | (grind [= State.serDeliver_near, = State.serDiscard_near]) | (simp [↓apply_ite State.near]))

@[simp ↓] theorem State.serQueue_near (s : State) (c : Nat) (m : SerTx) : (State.serQueue s c m).1.near = s.near := by
  unfold State.serQueue
  repeat' (first | (with_reducible rfl) | (simp [↓apply_ite State.near]; done) | split | (simp [↓apply_ite State.near, *]; done) | (grind [= State.edgeCount_near, = State.modSer_near]) | (simp [↓apply_ite State.near]))

theorem State.serQueue_near' (s : State) (c : Nat) (m : SerTx) (t) (y) (h : State.serQueue s c m = (t, y)) : t.near = s.near := by
  have := State.serQueue_near s c m
  rw [h] at this; exact this

theorem execCanFrameRx_near (chan : Nat) (frame : CanFrame) (sof : Nat) (lost : Bool) (dt : Nat) (s : State) : ∀ t, execCanFrameRx chan frame sof lost dt s = .next t → t.near = s.near := by
  intro t h
  unfold execCanFrameRx at h
  first
  | (simp only [Host.Outcome.next.injEq] at h; subst h; repeat' (first | (with_reducible rfl) | (simp [↓apply_ite State.near]; done) | split | (simp [↓apply_ite State.near, *]; done) | (grind [= State.adv_near, = State.edgeCount_near, = State.modCan_near, = State.noteFirst_near, = State.rxCount_near, = State.useFree_near]) | (simp [↓apply_ite State.near])))
  | (split at h <;> (simp only [Host.Outcome.next.injEq] at h; subst h; repeat' (first | (with_reducible rfl) | (simp [↓apply_ite State.near]; done) | split | (simp [↓apply_ite State.near, *]; done) | (grind [= State.adv_near, = State.edgeCount_near, = State.modCan_near, = State.noteFirst_near, = State.rxCount_near, = State.useFree_near]) | (simp [↓apply_ite State.near]))))
  | (repeat' split at h
     all_goals (simp only [Host.Outcome.next.injEq] at h; subst h; repeat' (first | (with_reducible rfl) | (simp [↓apply_ite State.near]; done) | split | (simp [↓apply_ite State.near, *]; done) | (grind [= State.adv_near, = State.edgeCount_near, = State.modCan_near, = State.noteFirst_near, = State.rxCount_near, = State.useFree_near]) | (simp [↓apply_ite State.near]))))

theorem execCanArbWin_near (chan dt : Nat) (s : State) : ∀ t, execCanArbWin chan dt s = .next t → t.near = s.near := by
  intro t h
  unfold execCanArbWin at h
  first
  | (simp only [Host.Outcome.next.injEq] at h; subst h; repeat' (first | (with_reducible rfl) | (simp [↓apply_ite State.near]; done) | split | (simp [↓apply_ite State.near, *]; done) | (grind [= State.adv_near, = State.modCan_near, = State.pruneCan_near]) | (simp [↓apply_ite State.near])))
  | (split at h <;> (simp only [Host.Outcome.next.injEq] at h; subst h; repeat' (first | (with_reducible rfl) | (simp [↓apply_ite State.near]; done) | split | (simp [↓apply_ite State.near, *]; done) | (grind [= State.adv_near, = State.modCan_near, = State.pruneCan_near]) | (simp [↓apply_ite State.near]))))
  | (repeat' split at h
     all_goals (simp only [Host.Outcome.next.injEq] at h; subst h; repeat' (first | (with_reducible rfl) | (simp [↓apply_ite State.near]; done) | split | (simp [↓apply_ite State.near, *]; done) | (grind [= State.adv_near, = State.modCan_near, = State.pruneCan_near]) | (simp [↓apply_ite State.near]))))

theorem execCanTxDone_near (chan : Nat) (ok : Bool) (dt : Nat) (s : State) : ∀ t, execCanTxDone chan ok dt s = .next t → t.near = s.near := by
  intro t h
  unfold execCanTxDone at h
  first
  | (simp only [Host.Outcome.next.injEq] at h; subst h; repeat' (first | (with_reducible rfl) | (simp [↓apply_ite State.near]; done) | split | (simp [↓apply_ite State.near, *]; done) | (grind [= State.adv_near, = State.dropCan_near, = State.edgeCount_near, = State.emit_near, = State.modCan_near, = State.slotSent_near, = State.txCount_near]) | (simp [↓apply_ite State.near])))
  | (split at h <;> (simp only [Host.Outcome.next.injEq] at h; subst h; repeat' (first | (with_reducible rfl) | (simp [↓apply_ite State.near]; done) | split | (simp [↓apply_ite State.near, *]; done) | (grind [= State.adv_near, = State.dropCan_near, = State.edgeCount_near, = State.emit_near, = State.modCan_near, = State.slotSent_near, = State.txCount_near]) | (simp [↓apply_ite State.near]))))
  | (repeat' split at h
     all_goals (simp only [Host.Outcome.next.injEq] at h; subst h; repeat' (first | (with_reducible rfl) | (simp [↓apply_ite State.near]; done) | split | (simp [↓apply_ite State.near, *]; done) | (grind [= State.adv_near, = State.dropCan_near, = State.edgeCount_near, = State.emit_near, = State.modCan_near, = State.slotSent_near, = State.txCount_near]) | (simp [↓apply_ite State.near]))))

theorem execCanTxExpired_near (chan : Nat) (s : State) : ∀ t, execCanTxExpired chan s = .next t → t.near = s.near := by
  intro t h
  unfold execCanTxExpired at h
  first
  | (simp only [Host.Outcome.next.injEq] at h; subst h; repeat' (first | (with_reducible rfl) | (simp [↓apply_ite State.near]; done) | split | (simp [↓apply_ite State.near, *]; done) | (grind [= State.advTick_near, = State.edgeCount_near, = State.modCan_near]) | (simp [↓apply_ite State.near])))
  | (split at h <;> (simp only [Host.Outcome.next.injEq] at h; subst h; repeat' (first | (with_reducible rfl) | (simp [↓apply_ite State.near]; done) | split | (simp [↓apply_ite State.near, *]; done) | (grind [= State.advTick_near, = State.edgeCount_near, = State.modCan_near]) | (simp [↓apply_ite State.near]))))
  | (repeat' split at h
     all_goals (simp only [Host.Outcome.next.injEq] at h; subst h; repeat' (first | (with_reducible rfl) | (simp [↓apply_ite State.near]; done) | split | (simp [↓apply_ite State.near, *]; done) | (grind [= State.advTick_near, = State.edgeCount_near, = State.modCan_near]) | (simp [↓apply_ite State.near]))))

theorem execCanBusError_near (chan code : Nat) (tx : Bool) (add : Nat) (s : State) : ∀ t, execCanBusError chan code tx add s = .next t → t.near = s.near := by
  intro t h
  unfold execCanBusError at h
  first
  | (simp only [Host.Outcome.next.injEq] at h; subst h; repeat' (first | (with_reducible rfl) | (simp [↓apply_ite State.near]; done) | split | (simp [↓apply_ite State.near, *]; done) | (grind [= State.edgeCount_near, = State.modCan_near, = State.raiseDev_near]) | (simp [↓apply_ite State.near])))
  | (split at h <;> (simp only [Host.Outcome.next.injEq] at h; subst h; repeat' (first | (with_reducible rfl) | (simp [↓apply_ite State.near]; done) | split | (simp [↓apply_ite State.near, *]; done) | (grind [= State.edgeCount_near, = State.modCan_near, = State.raiseDev_near]) | (simp [↓apply_ite State.near]))))
  | (repeat' split at h
     all_goals (simp only [Host.Outcome.next.injEq] at h; subst h; repeat' (first | (with_reducible rfl) | (simp [↓apply_ite State.near]; done) | split | (simp [↓apply_ite State.near, *]; done) | (grind [= State.edgeCount_near, = State.modCan_near, = State.raiseDev_near]) | (simp [↓apply_ite State.near]))))

theorem execCanBusOffRecovered_near (chan dt : Nat) (s : State) : ∀ t, execCanBusOffRecovered chan dt s = .next t → t.near = s.near := by rintro _ ⟨⟩; split <;> simp

theorem execLinSlotStart_near (chan : Nat) (s : State) : ∀ t, execLinSlotStart chan s = .next t → t.near = s.near := by
  intro t h
  unfold execLinSlotStart at h
  first
  | (simp only [Host.Outcome.next.injEq] at h; subst h; repeat' (first | (with_reducible rfl) | (simp [↓apply_ite State.near]; done) | split | (simp [↓apply_ite State.near, *]; done) | (grind [= State.advTick_near, = State.linAnswer_near, = State.linSleep_near, = State.modLin_near]) | (simp [↓apply_ite State.near])))
  | (split at h <;> (simp only [Host.Outcome.next.injEq] at h; subst h; repeat' (first | (with_reducible rfl) | (simp [↓apply_ite State.near]; done) | split | (simp [↓apply_ite State.near, *]; done) | (grind [= State.advTick_near, = State.linAnswer_near, = State.linSleep_near, = State.modLin_near]) | (simp [↓apply_ite State.near]))))
  | (repeat' split at h
     all_goals (simp only [Host.Outcome.next.injEq] at h; subst h; repeat' (first | (with_reducible rfl) | (simp [↓apply_ite State.near]; done) | split | (simp [↓apply_ite State.near, *]; done) | (grind [= State.advTick_near, = State.linAnswer_near, = State.linSleep_near, = State.modLin_near]) | (simp [↓apply_ite State.near]))))

theorem execLinHeaderRx_near (chan id : Nat) (sync : Bool) (dt : Nat) (s : State) : ∀ t, execLinHeaderRx chan id sync dt s = .next t → t.near = s.near := by
  intro t h
  unfold execLinHeaderRx at h
  first
  | (simp only [Host.Outcome.next.injEq] at h; subst h; repeat' (first | (with_reducible rfl) | (simp [↓apply_ite State.near]; done) | split | (simp [↓apply_ite State.near, *]; done) | (grind [= State.adv_near, = State.edgeCount_near, = State.linAnswer_near, = State.modLin_near]) | (simp [↓apply_ite State.near])))
  | (split at h <;> (simp only [Host.Outcome.next.injEq] at h; subst h; repeat' (first | (with_reducible rfl) | (simp [↓apply_ite State.near]; done) | split | (simp [↓apply_ite State.near, *]; done) | (grind [= State.adv_near, = State.edgeCount_near, = State.linAnswer_near, = State.modLin_near]) | (simp [↓apply_ite State.near]))))
  | (repeat' split at h
     all_goals (simp only [Host.Outcome.next.injEq] at h; subst h; repeat' (first | (with_reducible rfl) | (simp [↓apply_ite State.near]; done) | split | (simp [↓apply_ite State.near, *]; done) | (grind [= State.adv_near, = State.edgeCount_near, = State.linAnswer_near, = State.modLin_near]) | (simp [↓apply_ite State.near]))))

theorem execLinResponseRx_near (chan : Nat) (data : List Byte) (check err dt : Nat) (s : State) : ∀ t, execLinResponseRx chan data check err dt s = .next t → t.near = s.near := by
  intro t h
  unfold execLinResponseRx at h
  first
  | (simp only [Host.Outcome.next.injEq] at h; subst h; repeat' (first | (with_reducible rfl) | (simp [↓apply_ite State.near]; done) | split | (simp [↓apply_ite State.near, *]; done) | (grind [= State.adv_near, = State.edgeCount_near, = State.modLin_near, = State.noteFirst_near, = State.rxCount_near]) | (simp [↓apply_ite State.near])))
  | (split at h <;> (simp only [Host.Outcome.next.injEq] at h; subst h; repeat' (first | (with_reducible rfl) | (simp [↓apply_ite State.near]; done) | split | (simp [↓apply_ite State.near, *]; done) | (grind [= State.adv_near, = State.edgeCount_near, = State.modLin_near, = State.noteFirst_near, = State.rxCount_near]) | (simp [↓apply_ite State.near]))))
  | (repeat' split at h
     all_goals (simp only [Host.Outcome.next.injEq] at h; subst h; repeat' (first | (with_reducible rfl) | (simp [↓apply_ite State.near]; done) | split | (simp [↓apply_ite State.near, *]; done) | (grind [= State.adv_near, = State.edgeCount_near, = State.modLin_near, = State.noteFirst_near, = State.rxCount_near]) | (simp [↓apply_ite State.near]))))

theorem execLinSlotEnd_near (chan : Nat) (s : State) : ∀ t, execLinSlotEnd chan s = .next t → t.near = s.near := by
  intro t h
  unfold execLinSlotEnd at h
  first
  | (simp only [Host.Outcome.next.injEq] at h; subst h; repeat' (first | (with_reducible rfl) | (simp [↓apply_ite State.near]; done) | split | (simp [↓apply_ite State.near, *]; done) | (grind [= State.advTick_near, = State.edgeCount_near, = State.modLin_near]) | (simp [↓apply_ite State.near])))
  | (split at h <;> (simp only [Host.Outcome.next.injEq] at h; subst h; repeat' (first | (with_reducible rfl) | (simp [↓apply_ite State.near]; done) | split | (simp [↓apply_ite State.near, *]; done) | (grind [= State.advTick_near, = State.edgeCount_near, = State.modLin_near]) | (simp [↓apply_ite State.near]))))
  | (repeat' split at h
     all_goals (simp only [Host.Outcome.next.injEq] at h; subst h; repeat' (first | (with_reducible rfl) | (simp [↓apply_ite State.near]; done) | split | (simp [↓apply_ite State.near, *]; done) | (grind [= State.advTick_near, = State.edgeCount_near, = State.modLin_near]) | (simp [↓apply_ite State.near]))))

theorem execLinGoToSleep_near (chan : Nat) (s : State) : ∀ t, execLinGoToSleep chan s = .next t → t.near = s.near := by
  intro t h
  unfold execLinGoToSleep at h
  first
  | (simp only [Host.Outcome.next.injEq] at h; subst h; repeat' (first | (with_reducible rfl) | (simp [↓apply_ite State.near]; done) | split | (simp [↓apply_ite State.near, *]; done) | (grind [= State.advTick_near, = State.linSleep_near]) | (simp [↓apply_ite State.near])))
  | (split at h <;> (simp only [Host.Outcome.next.injEq] at h; subst h; repeat' (first | (with_reducible rfl) | (simp [↓apply_ite State.near]; done) | split | (simp [↓apply_ite State.near, *]; done) | (grind [= State.advTick_near, = State.linSleep_near]) | (simp [↓apply_ite State.near]))))
  | (repeat' split at h
     all_goals (simp only [Host.Outcome.next.injEq] at h; subst h; repeat' (first | (with_reducible rfl) | (simp [↓apply_ite State.near]; done) | split | (simp [↓apply_ite State.near, *]; done) | (grind [= State.advTick_near, = State.linSleep_near]) | (simp [↓apply_ite State.near]))))

theorem execLinWakePulse_near (chan : Nat) (s : State) : ∀ t, execLinWakePulse chan s = .next t → t.near = s.near := by rintro _ ⟨⟩; split <;> simp

theorem execLinScheduleRestart_near (chan : Nat) (s : State) : ∀ t, execLinScheduleRestart chan s = .next t → t.near = s.near := by
  intro t h
  unfold execLinScheduleRestart at h
  first
  | (simp only [Host.Outcome.next.injEq] at h; subst h; repeat' (first | (with_reducible rfl) | (simp [↓apply_ite State.near]; done) | split | (simp [↓apply_ite State.near, *]; done) | (grind [= State.advTick_near, = State.modLin_near]) | (simp [↓apply_ite State.near])))
  | (split at h <;> (simp only [Host.Outcome.next.injEq] at h; subst h; repeat' (first | (with_reducible rfl) | (simp [↓apply_ite State.near]; done) | split | (simp [↓apply_ite State.near, *]; done) | (grind [= State.advTick_near, = State.modLin_near]) | (simp [↓apply_ite State.near]))))
  | (repeat' split at h
     all_goals (simp only [Host.Outcome.next.injEq] at h; subst h; repeat' (first | (with_reducible rfl) | (simp [↓apply_ite State.near]; done) | split | (simp [↓apply_ite State.near, *]; done) | (grind [= State.advTick_near, = State.modLin_near]) | (simp [↓apply_ite State.near]))))

theorem execSerCharRx_near (chan value : Nat) (parity stop : Bool) (gap dt : Nat) (s : State) : ∀ t, execSerCharRx chan value parity stop gap dt s = .next t → t.near = s.near := by
  intro t h
  unfold execSerCharRx at h
  first
  | (simp only [Host.Outcome.next.injEq] at h; subst h; repeat' (first | (with_reducible rfl) | (simp [↓apply_ite State.near]; done) | split | (simp [↓apply_ite State.near, *]; done) | (grind [= State.adv_near, = State.edgeCount_near, = State.modSer_near, = State.serDiscard_near, = State.serStep_near]) | (simp [↓apply_ite State.near])))
  | (split at h <;> (simp only [Host.Outcome.next.injEq] at h; subst h; repeat' (first | (with_reducible rfl) | (simp [↓apply_ite State.near]; done) | split | (simp [↓apply_ite State.near, *]; done) | (grind [= State.adv_near, = State.edgeCount_near, = State.modSer_near, = State.serDiscard_near, = State.serStep_near]) | (simp [↓apply_ite State.near]))))
  | (repeat' split at h
     all_goals (simp only [Host.Outcome.next.injEq] at h; subst h; repeat' (first | (with_reducible rfl) | (simp [↓apply_ite State.near]; done) | split | (simp [↓apply_ite State.near, *]; done) | (grind [= State.adv_near, = State.edgeCount_near, = State.modSer_near, = State.serDiscard_near, = State.serStep_near]) | (simp [↓apply_ite State.near]))))

theorem execSerGapTimeout_near (chan : Nat) (reach : Bool) (dt : Nat) (s : State) : ∀ t, execSerGapTimeout chan reach dt s = .next t → t.near = s.near := by
  intro t h
  unfold execSerGapTimeout at h
  first
  | (simp only [Host.Outcome.next.injEq] at h; subst h; repeat' (first | (with_reducible rfl) | (simp [↓apply_ite State.near]; done) | split | (simp [↓apply_ite State.near, *]; done) | (grind [= State.adv_near, = State.serDiscard_near, = State.serStep_near]) | (simp [↓apply_ite State.near])))
  | (split at h <;> (simp only [Host.Outcome.next.injEq] at h; subst h; repeat' (first | (with_reducible rfl) | (simp [↓apply_ite State.near]; done) | split | (simp [↓apply_ite State.near, *]; done) | (grind [= State.adv_near, = State.serDiscard_near, = State.serStep_near]) | (simp [↓apply_ite State.near]))))
  | (repeat' split at h
     all_goals (simp only [Host.Outcome.next.injEq] at h; subst h; repeat' (first | (with_reducible rfl) | (simp [↓apply_ite State.near]; done) | split | (simp [↓apply_ite State.near, *]; done) | (grind [= State.adv_near, = State.serDiscard_near, = State.serStep_near]) | (simp [↓apply_ite State.near]))))

theorem execSerTxQueue_near (chan addr : Nat) (payload : List Nat) (prio : Nat) (s : State) : ∀ t, execSerTxQueue chan addr payload prio s = .next t → t.near = s.near := by
  intro t h
  unfold execSerTxQueue at h
  first
  | (simp only [Host.Outcome.next.injEq] at h; subst h; repeat' (first | (with_reducible rfl) | (simp [↓apply_ite State.near]; done) | split | (simp [↓apply_ite State.near, *]; done) | (grind [= State.edgeCount_near, → State.serQueue_near']) | (simp [↓apply_ite State.near])))
  | (split at h <;> (simp only [Host.Outcome.next.injEq] at h; subst h; repeat' (first | (with_reducible rfl) | (simp [↓apply_ite State.near]; done) | split | (simp [↓apply_ite State.near, *]; done) | (grind [= State.edgeCount_near, → State.serQueue_near']) | (simp [↓apply_ite State.near]))))
  | (repeat' split at h
     all_goals (simp only [Host.Outcome.next.injEq] at h; subst h; repeat' (first | (with_reducible rfl) | (simp [↓apply_ite State.near]; done) | split | (simp [↓apply_ite State.near, *]; done) | (grind [= State.edgeCount_near, → State.serQueue_near']) | (simp [↓apply_ite State.near]))))

theorem execSerLineIdle_near (chan dt : Nat) (s : State) : ∀ t, execSerLineIdle chan dt s = .next t → t.near = s.near := by rintro _ ⟨⟩; split <;> simp

theorem execSerDeLeadEnd_near (chan dt : Nat) (s : State) : ∀ t, execSerDeLeadEnd chan dt s = .next t → t.near = s.near := by
  intro t h
  unfold execSerDeLeadEnd at h
  first
  | (simp only [Host.Outcome.next.injEq] at h; subst h; repeat' (first | (with_reducible rfl) | (simp [↓apply_ite State.near]; done) | split | (simp [↓apply_ite State.near, *]; done) | (grind [= State.adv_near, = State.edgeCount_near, = State.modSer_near]) | (simp [↓apply_ite State.near])))
  | (split at h <;> (simp only [Host.Outcome.next.injEq] at h; subst h; repeat' (first | (with_reducible rfl) | (simp [↓apply_ite State.near]; done) | split | (simp [↓apply_ite State.near, *]; done) | (grind [= State.adv_near, = State.edgeCount_near, = State.modSer_near]) | (simp [↓apply_ite State.near]))))
  | (repeat' split at h
     all_goals (simp only [Host.Outcome.next.injEq] at h; subst h; repeat' (first | (with_reducible rfl) | (simp [↓apply_ite State.near]; done) | split | (simp [↓apply_ite State.near, *]; done) | (grind [= State.adv_near, = State.edgeCount_near, = State.modSer_near]) | (simp [↓apply_ite State.near]))))

theorem execSerCharSent_near (chan echo dt : Nat) (s : State) : ∀ t, execSerCharSent chan echo dt s = .next t → t.near = s.near := by
  intro t h
  unfold execSerCharSent at h
  first
  | (simp only [Host.Outcome.next.injEq] at h; subst h; repeat' (first | (with_reducible rfl) | (simp [↓apply_ite State.near]; done) | split | (simp [↓apply_ite State.near, *]; done) | (grind [= State.adv_near, = State.edgeCount_near, = State.emit_near, = State.modSer_near]) | (simp [↓apply_ite State.near])))
  | (split at h <;> (simp only [Host.Outcome.next.injEq] at h; subst h; repeat' (first | (with_reducible rfl) | (simp [↓apply_ite State.near]; done) | split | (simp [↓apply_ite State.near, *]; done) | (grind [= State.adv_near, = State.edgeCount_near, = State.emit_near, = State.modSer_near]) | (simp [↓apply_ite State.near]))))
  | (repeat' split at h
     all_goals (simp only [Host.Outcome.next.injEq] at h; subst h; repeat' (first | (with_reducible rfl) | (simp [↓apply_ite State.near]; done) | split | (simp [↓apply_ite State.near, *]; done) | (grind [= State.adv_near, = State.edgeCount_near, = State.emit_near, = State.modSer_near]) | (simp [↓apply_ite State.near]))))

theorem execSerDeLagEnd_near (chan dt : Nat) (s : State) : ∀ t, execSerDeLagEnd chan dt s = .next t → t.near = s.near := by
  intro t h
  unfold execSerDeLagEnd at h
  first
  | (simp only [Host.Outcome.next.injEq] at h; subst h; repeat' (first | (with_reducible rfl) | (simp [↓apply_ite State.near]; done) | split | (simp [↓apply_ite State.near, *]; done) | (grind [= State.adv_near, = State.modSer_near, = State.slotSent_near, = State.txCount_near]) | (simp [↓apply_ite State.near])))
  | (split at h <;> (simp only [Host.Outcome.next.injEq] at h; subst h; repeat' (first | (with_reducible rfl) | (simp [↓apply_ite State.near]; done) | split | (simp [↓apply_ite State.near, *]; done) | (grind [= State.adv_near, = State.modSer_near, = State.slotSent_near, = State.txCount_near]) | (simp [↓apply_ite State.near]))))
  | (repeat' split at h
     all_goals (simp only [Host.Outcome.next.injEq] at h; subst h; repeat' (first | (with_reducible rfl) | (simp [↓apply_ite State.near]; done) | split | (simp [↓apply_ite State.near, *]; done) | (grind [= State.adv_near, = State.modSer_near, = State.slotSent_near, = State.txCount_near]) | (simp [↓apply_ite State.near]))))

theorem execSerTxExpired_near (chan : Nat) (s : State) : ∀ t, execSerTxExpired chan s = .next t → t.near = s.near := by
  intro t h
  unfold execSerTxExpired at h
  first
  | (simp only [Host.Outcome.next.injEq] at h; subst h; repeat' (first | (with_reducible rfl) | (simp [↓apply_ite State.near]; done) | split | (simp [↓apply_ite State.near, *]; done) | (grind [= State.advTick_near, = State.edgeCount_near, = State.modSer_near]) | (simp [↓apply_ite State.near])))
  | (split at h <;> (simp only [Host.Outcome.next.injEq] at h; subst h; repeat' (first | (with_reducible rfl) | (simp [↓apply_ite State.near]; done) | split | (simp [↓apply_ite State.near, *]; done) | (grind [= State.advTick_near, = State.edgeCount_near, = State.modSer_near]) | (simp [↓apply_ite State.near]))))
  | (repeat' split at h
     all_goals (simp only [Host.Outcome.next.injEq] at h; subst h; repeat' (first | (with_reducible rfl) | (simp [↓apply_ite State.near]; done) | split | (simp [↓apply_ite State.near, *]; done) | (grind [= State.advTick_near, = State.edgeCount_near, = State.modSer_near]) | (simp [↓apply_ite State.near]))))

theorem execTimeMsgInstant_near (chan : Nat) (s : State) : ∀ t, execTimeMsgInstant chan s = .next t → t.near = s.near := by
  intro t h
  unfold execTimeMsgInstant at h
  first
  | (simp only [Host.Outcome.next.injEq] at h; subst h; repeat' (first | (with_reducible rfl) | (simp [↓apply_ite State.near]; done) | split | (simp [↓apply_ite State.near, *]; done) | (grind [= State.advQ_near, → State.canQueue_near', = State.edgeCount_near, = State.modGw_near, → State.serQueue_near']) | (simp [↓apply_ite State.near])))
  | (split at h <;> (simp only [Host.Outcome.next.injEq] at h; subst h; repeat' (first | (with_reducible rfl) | (simp [↓apply_ite State.near]; done) | split | (simp [↓apply_ite State.near, *]; done) | (grind [= State.advQ_near, → State.canQueue_near', = State.edgeCount_near, = State.modGw_near, → State.serQueue_near']) | (simp [↓apply_ite State.near]))))
  | (repeat' split at h
     all_goals (simp only [Host.Outcome.next.injEq] at h; subst h; repeat' (first | (with_reducible rfl) | (simp [↓apply_ite State.near]; done) | split | (simp [↓apply_ite State.near, *]; done) | (grind [= State.advQ_near, → State.canQueue_near', = State.edgeCount_near, = State.modGw_near, → State.serQueue_near']) | (simp [↓apply_ite State.near]))))

/-! ### Gw -/

@[simp ↓] theorem State.modBundle_near (s : State) (i : Nat) (f : Bundle → Bundle) : (State.modBundle s i f).near = s.near := (rfl)

@[simp ↓] theorem State.modEnt_near (s : State) (down : Bool) (i : Nat) (f : GwEnt → GwEnt) : (State.modEnt s down i f).near = s.near := (rfl)

@[simp ↓] theorem State.entDrop_near (s : State) (down : Bool) (i : Nat) (d : GwDrop) : (State.entDrop s down i d).near = s.near := by simp [State.entDrop]

@[simp ↓] theorem State.gwCount_near (s : State) (old : Nat) (f : GwSt → GwSt) : (State.gwCount s old f).near = s.near := by simp [State.gwCount]

@[simp ↓] theorem State.closeBundle_near (s : State) (i : Nat) : (State.closeBundle s i).near = s.near := by
  unfold State.closeBundle
  repeat' (first | (with_reducible rfl) | (simp [↓apply_ite State.near]; done) | split | (simp [↓apply_ite State.near, *]; done) | (grind [= State.modBundle_near, = State.stage_near]) | (simp [↓apply_ite State.near]))

@[simp ↓] theorem State.joinBundle_near (s : State) (i zone : Nat) (acf : List Byte) : (State.joinBundle s i zone acf).near = s.near := by simp [State.joinBundle, ↓apply_ite State.near]

@[simp ↓] theorem State.gwQueue_near (s : State) (d : Nat) (m : GwMsg) (ide : Bool) (id prio : Nat) : (State.gwQueue s d m ide id prio).1.near = s.near := by
  unfold State.gwQueue
  repeat' (first | (with_reducible rfl) | (simp [↓apply_ite State.near]; done) | split | (simp [↓apply_ite State.near, *]; done) | (grind [→ State.canQueue_near', = State.modLin_near, → State.serQueue_near']) | (simp [↓apply_ite State.near]))

theorem State.gwQueue_near' (s : State) (d : Nat) (m : GwMsg) (ide : Bool) (id prio : Nat) (t) (y) (h : State.gwQueue s d m ide id prio = (t, y)) : t.near = s.near := by
  have := State.gwQueue_near s d m ide id prio
  rw [h] at this; exact this

@[simp ↓] theorem State.gwOffer_near (s : State) (down : Bool) (i d zone : Nat) (m : GwMsg) : (State.gwOffer s down i d zone m).near = s.near := by
  unfold State.gwOffer
  repeat' (first | (with_reducible rfl) | (simp [↓apply_ite State.near]; done) | split | (simp [↓apply_ite State.near, *]; done) | (grind [= State.entDrop_near, → State.gwQueue_near']) | (simp [↓apply_ite State.near]))

theorem State.rxTake_near (s : State) (c : Nat) : ∀ m t, State.rxTake s c = some (m, t) → t.near = s.near := by
  intro m t h
  unfold State.rxTake at h
  grind [= State.modCan_near, = State.modLin_near, = State.modSer_near]

@[simp ↓] theorem State.entMatch_near (s : State) (down : Bool) (i : Nat) : (State.entMatch s down i).1.near = s.near := by
  unfold State.entMatch
  repeat' (first | (with_reducible rfl) | (simp [↓apply_ite State.near]; done) | split | (simp [↓apply_ite State.near, *]; done) | (grind [= State.entDrop_near, = State.modEnt_near]) | (simp [↓apply_ite State.near]))

theorem State.entMatch_near' (s : State) (down : Bool) (i : Nat) (t) (y) (h : State.entMatch s down i = (t, y)) : t.near = s.near := by
  have := State.entMatch_near s down i
  rw [h] at this; exact this

@[simp ↓] theorem State.slotWrite_near (s : State) (n : Nat) (data : List Byte) : (State.slotWrite s n data).near = s.near := (rfl)

@[simp ↓] theorem State.gwDown_near (s : State) (x : GwIn) (bs : List Byte) : (State.gwDown s x bs).near = s.near := by
  unfold State.gwDown
  repeat' (first | (with_reducible rfl) | (simp [↓apply_ite State.near]; done) | split | (simp [↓apply_ite State.near, *]; done) | (grind [= State.entDrop_near, → State.entMatch_near', = State.gwCount_near, = State.gwOffer_near, = State.slotWrite_near]) | (simp [↓apply_ite State.near]))

theorem execGwUplinkMatch_near (chan : Nat) (s : State) : ∀ t, execGwUplinkMatch chan s = .next t → t.near = s.near := by
  intro t h
  unfold execGwUplinkMatch at h
  simp only [Host.Outcome.next.injEq] at h; subst h
  split
  · rfl
  · split
    · rfl
    · rename_i m s1 hr
      have h1 := State.rxTake_near _ _ _ _ hr
      split
      · simpa using h1
      · rename_i i hi
        split
        · rename_i s2 he
          have h2 := State.entMatch_near' _ _ _ _ _ he
          simpa [h1] using h2
        · rename_i s2 he
          have h2 := State.entMatch_near' _ _ _ _ _ he
          simp only [h1] at h2
          split
          · rw [foldl_near]
            · split <;> simpa using h2
            · intros; simp
          · split <;> simpa using h2

theorem execBundleMaxWait_near (bundle : Nat) (s : State) : ∀ t, execBundleMaxWait bundle s = .next t → t.near = s.near := by rintro _ ⟨⟩; split <;> simp

theorem execGwFrameDecode_near (s : State) : ∀ t, execGwFrameDecode s = .next t → t.near = s.near := by
  intro t h
  unfold execGwFrameDecode at h
  first
  | (simp only [Host.Outcome.next.injEq] at h; subst h; repeat' (first | (with_reducible rfl) | (simp [↓apply_ite State.near]; done) | split | (simp [↓apply_ite State.near, *]; done) | (grind [= State.gwCount_near, = State.gwDown_near, = State.modGw_near]) | (simp [↓apply_ite State.near])))
  | (split at h <;> (simp only [Host.Outcome.next.injEq] at h; subst h; repeat' (first | (with_reducible rfl) | (simp [↓apply_ite State.near]; done) | split | (simp [↓apply_ite State.near, *]; done) | (grind [= State.gwCount_near, = State.gwDown_near, = State.modGw_near]) | (simp [↓apply_ite State.near]))))
  | (repeat' split at h
     all_goals (simp only [Host.Outcome.next.injEq] at h; subst h; repeat' (first | (with_reducible rfl) | (simp [↓apply_ite State.near]; done) | split | (simp [↓apply_ite State.near, *]; done) | (grind [= State.gwCount_near, = State.gwDown_near, = State.modGw_near]) | (simp [↓apply_ite State.near]))))

theorem execPeriodicSlotInstant_near (slot : Nat) (s : State) : ∀ t, execPeriodicSlotInstant slot s = .next t → t.near = s.near := by
  intro t h
  unfold execPeriodicSlotInstant at h
  first
  | (simp only [Host.Outcome.next.injEq] at h; subst h; repeat' (first | (with_reducible rfl) | (simp [↓apply_ite State.near]; done) | split | (simp [↓apply_ite State.near, *]; done) | (grind [= State.advQ_near, → State.canQueue_near', = State.modSlot_near, = State.raiseDev_near, → State.serQueue_near']) | (simp [↓apply_ite State.near])))
  | (split at h <;> (simp only [Host.Outcome.next.injEq] at h; subst h; repeat' (first | (with_reducible rfl) | (simp [↓apply_ite State.near]; done) | split | (simp [↓apply_ite State.near, *]; done) | (grind [= State.advQ_near, → State.canQueue_near', = State.modSlot_near, = State.raiseDev_near, → State.serQueue_near']) | (simp [↓apply_ite State.near]))))
  | (repeat' split at h
     all_goals (simp only [Host.Outcome.next.injEq] at h; subst h; repeat' (first | (with_reducible rfl) | (simp [↓apply_ite State.near]; done) | split | (simp [↓apply_ite State.near, *]; done) | (grind [= State.advQ_near, → State.canQueue_near', = State.modSlot_near, = State.raiseDev_near, → State.serQueue_near']) | (simp [↓apply_ite State.near]))))

theorem execPeriodicStale_near (slot : Nat) (s : State) : ∀ t, execPeriodicStale slot s = .next t → t.near = s.near := by rintro _ ⟨⟩; split <;> simp

end Machine
end Sys2Proof
end

