-- ==== Sys2Proof/WellFormed.lean ====
section
/-! DEFINITION. Which commands can occur: operands inside the numbers that the spec gives its ports, channels, feeds, slots and words. The
meanings do not rest on it: a command outside it meets the checks that its meaning makes. -/

namespace Sys2Proof

/-- A request as its header can carry it: 8 bits of TAG and FLAGS and at most 255 words (13 R367). -/
def Req.wf (r : Req) : Bool := decide (r.tag ≤ 255) && decide (r.flags ≤ 255) && decide (r.words.length ≤ 255)

/-- A frame of the bus: an identifier of 29 bits with IDE and 11 without, and a payload of the frame's kind (10 R267). -/
def CanFrame.wf (f : CanFrame) : Bool :=
  decide (f.id < if f.ide then 536870912 else 2048) &&
    decide (f.data.length ≤ if f.xl then 2048 else if f.fdf then 64 else 8)

/-- A frame as the wake matcher sees it: one of its six kinds (16 R472). -/
def WakeIn.wf (w : WakeIn) : Bool := decide (w.kind ≤ 5) && decide (w.src ≤ 25) && decide (w.data.length ≤ 8)

/-- One of the three passes reads guarded data (12 R324). -/
def EccErr.wf : EccErr → Bool
  | .guarded pass => decide (pass ≤ 2)
  | _ => true

/-- The request of a mailbox command. -/
def Instr.request : Instr → Option Req
  | .pathOutputWrite r => some r
  | .pathOutputRead r => some r
  | .pathMirrorWrite r => some r
  | .pathMirrorRead r => some r
  | .poolLimitWrite r => some r
  | .poolLevelWrite r => some r
  | .poolConfigRead r => some r
  | .poolStatsRead r => some r
  | .poolErrlogRead r => some r
  | .poolCellRead r => some r
  | .rulePortWrite r => some r
  | .ruleProgramLoad r => some r
  | .ruleRangeWrite r => some r
  | .ruleEntryWrite r => some r
  | .ruleEntryRead r => some r
  | .ruleGroupWrite r => some r
  | .ruleCommit r => some r
  | .ruleStatusRead r => some r
  | .ruleFragWrite r => some r
  | .ruleStatsRead r => some r
  | .rulePortRead r => some r
  | .ruleRangeRead r => some r
  | .ruleGroupRead r => some r
  | .fwdEntryWrite r => some r
  | .fwdEntryRead r => some r
  | .fwdCommit r => some r
  | .fwdStatusRead r => some r
  | .fwdPortWrite r => some r
  | .fwdPortRead r => some r
  | .fwdLearnWrite r => some r
  | .fwdLearnFlush r => some r
  | .fwdStatsRead r => some r
  | .frerFuncWrite r => some r
  | .frerFuncRead r => some r
  | .frerReset r => some r
  | .zoneMapWrite r => some r
  | .zoneMapRead r => some r
  | .zonePolicyWrite r => some r
  | .zonePolicyRead r => some r
  | .zoneGwRead r => some r
  | .zoneStatsRead r => some r
  | .meterWrite r => some r
  | .meterRead r => some r
  | .meterFilterWrite r => some r
  | .meterFilterRead r => some r
  | .meterStatsRead r => some r
  | .meterUnblock r => some r
  | .gclConfigWrite r => some r
  | .gclListWrite r => some r
  | .gclPatternWrite r => some r
  | .gclCommit r => some r
  | .gclCancel r => some r
  | .gclRead r => some r
  | .gclStatusRead r => some r
  | .gclCheck r => some r
  | .shaperQueueWrite r => some r
  | .shaperQueueRead r => some r
  | .shaperPreemptWrite r => some r
  | .shaperMmWrite r => some r
  | .shaperMmRead r => some r
  | .qstatQueueRead r => some r
  | .qstatSamplerWrite r => some r
  | .qstatSamplerRead r => some r
  | .timeRead r => some r
  | .timeSet r => some r
  | .timeAdjust r => some r
  | .timeConfigWrite r => some r
  | .timeConfigRead r => some r
  | .timePortWrite r => some r
  | .timePortRead r => some r
  | .timePpsRead r => some r
  | .portConfigWrite r => some r
  | .portPlcaWrite r => some r
  | .portConfigRead r => some r
  | .portPlcaRead r => some r
  | .portStatusRead r => some r
  | .portCableTest r => some r
  | .macsecPortWrite r => some r
  | .macsecMkaWrite r => some r
  | .macsecStatusRead r => some r
  | .edgeCanWrite r => some r
  | .edgeLinWrite r => some r
  | .edgeLinTableWrite r => some r
  | .edgeSerWrite r => some r
  | .edgeTableLoad r => some r
  | .edgeWakeWrite r => some r
  | .edgeCanRecover r => some r
  | .edgeConfigRead r => some r
  | .edgeStatusRead r => some r
  | .gwBundleWrite r => some r
  | .gwUpWrite r => some r
  | .gwDownWrite r => some r
  | .gwPeriodicWrite r => some r
  | .gwPeriodicData r => some r
  | .gwRead r => some r
  | .gwStatsRead r => some r
  | .coreStatusRead r => some r
  | .coreSwitch r => some r
  | .coreGuardWrite r => some r
  | .coreGuardRead r => some r
  | .coreStatsRead r => some r
  | .coreRestart r => some r
  | .coreSelftest r => some r
  | .coreDebug r => some r
  | .hostEcho r => some r
  | .hostVersionRead r => some r
  | .hostLateLogRead r => some r
  | .hostRingStatsRead r => some r
  | .sealCommit r => some r
  | .sealStatusRead r => some r
  | .diagRead r => some r
  | .faultStatusRead r => some r
  | .faultLogRead r => some r
  | .faultLinkEnable r => some r
  | .faultDieReload r => some r
  | .faultReset r => some r
  | .maintStatusRead r => some r
  | .maintExclWrite r => some r
  | .stackStatusRead r => some r
  | .stackRelay r => some r
  | .stackDesignate r => some r
  | .imgStatusRead r => some r
  | .imgBegin r => some r
  | .imgWrite r => some r
  | .imgVerify r => some r
  | .imgPrepare r => some r
  | .imgHandover r => some r
  | .imgConfirm r => some r
  | .imgRollback r => some r
  | .imgReportRead r => some r
  | .keyStatusRead r => some r
  | .keyProvision r => some r
  | .keyGenerate r => some r
  | .keyImport r => some r
  | .keyDerive r => some r
  | .keyDelete r => some r
  | .keyInfoRead r => some r
  | .keyTamperWrite r => some r
  | .keyTamperRead r => some r
  | .keyVerifierWrite r => some r
  | .keySession r => some r
  | .cipherLock r => some r
  | .cipherBlock r => some r
  | .cipherUnlock r => some r
  | .cipherStatusRead r => some r
  | .powerStatusRead r => some r
  | .powerSeqLoad r => some r
  | .powerConfigWrite r => some r
  | .powerLoadConfig r => some r
  | .powerLoadSet r => some r
  | .powerRead r => some r
  | .paceCurveLoad r => some r
  | .paceConfigWrite r => some r
  | .paceStatusRead r => some r
  | .paceRead r => some r
  | .wakePolicyWrite r => some r
  | .wakeConfigWrite r => some r
  | .wakeHold r => some r
  | .wakeStatusRead r => some r
  | .wakeLogRead r => some r
  | .wakeRead r => some r
  | _ => none

/-- The command can occur. -/
def Instr.wf : Instr → Bool
  | .frameRxStart port _ _ _ _ _ _ => decide (port ≤ 31)
  | .fabricWordStore _ _ => true
  | .frameEndStored _ _ _ => true
  | .parseEngineTake _ eng port => decide (eng ≤ 23) && decide (port ≤ 31)
  | .parseEnd _ eng => decide (eng ≤ 23)
  | .parseClass _ eng => decide (eng ≤ 23)
  | .parseExtract _ eng => decide (eng ≤ 23)
  | .parseLoad _ eng => decide (eng ≤ 23)
  | .parseAnd _ eng => decide (eng ≤ 23)
  | .parseTest _ eng => decide (eng ≤ 23)
  | .parseTestne _ eng => decide (eng ≤ 23)
  | .parseJump _ eng => decide (eng ≤ 23)
  | .parseAdvance _ eng => decide (eng ≤ 23)
  | .parseLenset _ eng => decide (eng ≤ 23)
  | .parseFail _ eng => decide (eng ≤ 23)
  | .parseBudgetExhausted _ eng => decide (eng ≤ 23)
  | .collectorTake _ eng => decide (eng ≤ 23)
  | .recircPassStart _ eng => decide (eng ≤ 23)
  | .learnEntryWrite => true
  | .fragTimeout _ index => decide (index ≤ 255)
  | .seamFrameStart _ link => decide (link ≤ 1)
  | .seamWordSend _ link => decide (link ≤ 1)
  | .seamWordRx _ link => decide (link ≤ 1)
  | .seamLinkLost link _ _ => decide (link ≤ 1)
  | .cuffLinkLost _ => true
  | .egressSelect _ out _ _ => decide (out ≤ 31)
  | .egressFrameEnd _ out => decide (out ≤ 31)
  | .stagingUnderrun _ out => decide (out ≤ 31)
  | .expressPreempt _ out _ => decide (out ≤ 31)
  | .poolAlloc _ owner _ _ => decide (owner ≤ 71)
  | .poolFree _ owner pool index _ => decide (owner ≤ 71) && decide (pool ≤ 3) && decide (index < 32768)
  | .poolShare _ owner pool index k _ => decide (owner ≤ 71) && decide (pool ≤ 3) && decide (index < 32768) && decide (1 ≤ k)
  | .poolRelease _ owner pool index _ => decide (owner ≤ 71) && decide (pool ≤ 3) && decide (index < 32768)
  | .freeListBuilt _ => true
  | .cpuPortDelivery _ => true
  | .txRingFrame _ _ _ _ _ => true
  | .rxRingDelivery _ _ => true
  | .ringCoalesceExpiry _ _ n => decide (n ≤ 31)
  | .cbsRefill port => decide (port ≤ 25)
  | .gclEntryStart port => decide (port ≤ 25)
  | .gclChangeTime port => decide (port ≤ 25)
  | .gclCopyComplete port => decide (port ≤ 25)
  | .mmVerifyTimer port => decide (port ≤ 25)
  | .mmVerifyRx port _ => decide (port ≤ 25)
  | .samplerPeriod _ n => decide (n ≤ 3)
  | .activationArmDeadline _ => true
  | .activationTimeReached => true
  | .ruleBankRetired => true
  | .fwdSweepEnd => true
  | .frerResetTimeout _ fn => decide (fn ≤ 1023)
  | .restoreHoldEnd port => decide (port ≤ 25)
  | .linkDownDeclared port => decide (port ≤ 25)
  | .pcsLock port _ => decide (port ≤ 25)
  | .trainTimeout port => decide (port ≤ 25)
  | .usxgmiiAnWord port _ rate => decide (port ≤ 25) && decide (2 ≤ rate ∧ rate ≤ 5)
  | .portSleepCmd port => decide (port ≤ 25)
  | .tc10SleepReqRx port => decide (port ≤ 25)
  | .tc10SleepAckRx port => decide (port ≤ 25)
  | .sleepWaitTimeout port => decide (port ≤ 25)
  | .tc10WakeReqRx port => decide (port ≤ 25)
  | .wakePulseDetected port _ => decide (port ≤ 25)
  | .portWakeCmd port _ => decide (port ≤ 25)
  | .resumeDeadline port => decide (port ≤ 25)
  | .cableTestDone port result _ => decide (port ≤ 25) && decide (result ≤ 4)
  | .lpiIdleTimer port => decide (port ≤ 25)
  | .lpiWakeComplete port _ => decide (port ≤ 25)
  | .beaconLossTimeout port => decide (port ≤ 25)
  | .beaconRx port => decide (port ≤ 25)
  | .plcaTxOpportunity port _ _ _ => decide (port ≤ 25)
  | .sqiUpdate port sqi _ _ _ => decide (port ≤ 25) && decide (sqi ≤ 7)
  | .mkaSakInstall port an => decide (port ≤ 25) && decide (an ≤ 3)
  | .freqAdjApply => true
  | .timeStepApply => true
  | .slewEnd => true
  | .ppsEdge _ => true
  | .ppsMissing => true
  | .holdoverMaxExpiry => true
  | .syncRx port => decide (port ≤ 25)
  | .syncTimeout => true
  | .syncTx port _ => decide (port ≤ 25)
  | .followUpTx port _ => decide (port ≤ 25)
  | .pdelayReqTx port _ => decide (port ≤ 25)
  | .pdelayRx port => decide (port ≤ 25)
  | .announceTx port _ => decide (port ≤ 25)
  | .ppsOutPulse => true
  | .canFrameRx chan frame _ _ _ => decide (chan ≤ 5) && frame.wf
  | .canArbWin chan _ => decide (chan ≤ 5)
  | .canTxDone chan _ _ => decide (chan ≤ 5)
  | .canTxExpired chan => decide (chan ≤ 5)
  | .canBusError chan code _ _ => decide (chan ≤ 5) && decide (1 ≤ code ∧ code ≤ 6)
  | .canBusOffRecovered chan _ => decide (chan ≤ 5)
  | .linSlotStart chan => decide (chan ≤ 3)
  | .linHeaderRx chan id _ _ => decide (chan ≤ 3) && decide (id ≤ 63)
  | .linResponseRx chan data check err _ => decide (chan ≤ 3) && decide (data.length ≤ 8) && decide (check ≤ 255) && decide (err ≤ 2)
  | .linSlotEnd chan => decide (chan ≤ 3)
  | .linGoToSleep chan => decide (chan ≤ 3)
  | .linWakePulse chan => decide (chan ≤ 3)
  | .linScheduleRestart chan => decide (chan ≤ 3)
  | .serCharRx chan _ _ _ _ _ => decide (chan ≤ 7)
  | .serGapTimeout chan _ _ => decide (chan ≤ 7)
  | .serTxQueue chan addr _ prio => decide (chan ≤ 7) && decide (addr < 4294967296) && decide (1 ≤ prio ∧ prio ≤ 8)
  | .serLineIdle chan _ => decide (chan ≤ 7)
  | .serDeLeadEnd chan _ => decide (chan ≤ 7)
  | .serCharSent chan _ _ => decide (chan ≤ 7)
  | .serDeLagEnd chan _ => decide (chan ≤ 7)
  | .serTxExpired chan => decide (chan ≤ 7)
  | .transceiverWake chan _ => decide (chan ≤ 17)
  | .timeMsgInstant chan => decide (chan ≤ 5)
  | .gwUplinkMatch chan => decide (chan ≤ 17)
  | .bundleMaxWait bundle => decide (bundle ≤ 63)
  | .gwFrameDecode => true
  | .periodicSlotInstant slot => decide (slot ≤ 255)
  | .periodicStale slot => decide (slot ≤ 255)
  | .guardSegmentEnd _ _ _ _ _ _ => true
  | .tripwireTimer _ _ _ => true
  | .sramEccError _ err => err.wf
  | .heartbeatTx _ => true
  | .heartbeatLoss _ => true
  | .coreDomainLost _ _ => true
  | .coreFaultReport _ => true
  | .gapStart _ => true
  | .standbyLiningApplied _ => true
  | .gapEnd _ => true
  | .restartCaughtUp _ => true
  | .liningRecordRx rec => decide (rec.length ≤ 256)
  | .liningAuditTimer => true
  | .catchupComplete => true
  | .handoverTimeout => true
  | .trialTimeout => true
  | .imgEraseComplete _ => true
  | .mbxDoorbell _ => true
  | .responseFifoPlace _ => true
  | .mbxRspPop _ => true
  | .mbxRspDrop _ => true
  | .evtRead _ reg _ => decide (reg ≤ 3)
  | .evtWrite _ reg _ => decide (reg ≤ 3)
  | .upperBitsWrite _ v => decide (v ≤ 15)
  | .registerWrite _ idx _ _ => decide (idx ≤ 4095)
  | .d0PostedWriteApply => true
  | .policyLockSet _ _ => true
  | .sealLockSet _ _ => true
  | .keyLockSet _ _ => true
  | .powerLimitLockSet _ _ => true
  | .ringCtrlWrite _ _ n _ => decide (n ≤ 31)
  | .ringTailWrite _ _ n _ => decide (n ≤ 31)
  | .spiTransaction _ => true
  | .serviceFrameRx _ => true
  | .functionLevelReset _ => true
  | .perstNRelease _ => true
  | .lateWriteFail _ reason _ => decide (reason ≤ 15)
  | .fifoPointerFault _ => true
  | .sealPassEnd die crc => decide (die ≤ 5) && decide (crc < 4294967296)
  | .tamperAlarm source _ _ => decide (1 ≤ source ∧ source ≤ 7)
  | .cipherLockIdle => true
  | .depotSessionTimeout => true
  | .nonceExpiry => true
  | .openLockoutEnd => true
  | .seqStepPowerGood _ => true
  | .seqWaitExpiry => true
  | .seqPgTimeout => true
  | .paceSample _ monitors _ _ => decide (monitors.length = 8)
  | .paceRiseTimer _ => true
  | .paceFallTimer _ => true
  | .paceShortTimer _ => true
  | .ageingHour _ => true
  | .powerEstimate _ _ _ _ _ => true
  | .powerShedTimer => true
  | .powerRestoreTimer => true
  | .feedOvercurrentTrip feed _ _ => decide (feed ≤ 7)
  | .feedInrushEnd feed _ => decide (feed ≤ 7)
  | .feedRetryExpiry feed => decide (feed ≤ 7)
  | .feedRetryRestore feed => decide (feed ≤ 7)
  | .feedShedRestore feed volts _ => decide (feed ≤ 7) && decide (volts ≤ 4095)
  | .feedAutoOn => true
  | .supplyOv volts _ => decide (volts ≤ 4095)
  | .supplyUv volts _ => decide (volts ≤ 4095)
  | .supplyCrank volts _ => decide (volts ≤ 4095)
  | .controlledPowerDown volts _ => decide (volts ≤ 4095)
  | .supplyRestored volts _ => decide (volts ≤ 4095)
  | .wakePolicyMatch w => w.wf
  | .sleepTimerExpiry => true
  | .prepareCancel kind src => decide (kind ≤ 15) && decide (src ≤ 31)
  | .commitPoint => true
  | .sleepSeqComplete => true
  | .wakeSource kind src _ => decide (kind ≤ 15) && decide (src ≤ 31)
  | .wakeSeqComplete => true
  | .coreWakeRebuild _ _ _ => true
  | .wakeLocInput input _ => decide (input ≤ 1)
  | .sleepWakeTimer => true
  | .wakeHoldExpiry _ => true
  | .helloTx => true
  | .stackHelloRx port => decide (port ≤ 25)
  | .stackMatchRx port => decide (port ≤ 25)
  | .stackPrepareRx port => decide (port ≤ 25)
  | .stackCancelRx port => decide (port ≤ 25)
  | .stackCommitRx port => decide (port ≤ 25)
  | .masterLost => true
  | .bridgeWriteRx port => decide (port ≤ 25)
  | .bridgeReadRx port => decide (port ≤ 25)
  | .bridgeLockReadRx port => decide (port ≤ 25)
  | .bridgeUnlockWriteRx port => decide (port ≤ 25)
  | .bridgeWackRx port => decide (port ≤ 25)
  | .bridgeRdataRx port => decide (port ≤ 25)
  | .bridgeBackoffExpiry => true
  | .bridgeTimeout => true
  | .bridgeLockExpiry die => decide (die ≤ 5)
  | .stkWakeInput => true
  | .relayTimeout _ => true
  | .aoPowerUp _ => true
  | .resetNInput _ => true
  | .slowOscRunning _ mbr _ => decide (mbr ≤ 3)
  | .tcxoLock _ => true
  | .clockWaitTimeout => true
  | .supplyOnStable volts _ => decide (volts ≤ 4095)
  | .selftestComplete _ _ => true
  | .imageVerified _ => true
  | .measurementReleased _ _ _ => true
  | .blobsHandled _ => true
  | .imageRecordExec _ => true
  | .locksApply _ => true
  | .haltPowerRetry => true
  | .dieLost die _ => decide (die ≤ 5)
  | .dieReloadForwarding test _ => decide (test ≤ 8)
  | .pathOutputWrite r => r.wf
  | .pathOutputRead r => r.wf
  | .pathMirrorWrite r => r.wf
  | .pathMirrorRead r => r.wf
  | .poolLimitWrite r => r.wf
  | .poolLevelWrite r => r.wf
  | .poolConfigRead r => r.wf
  | .poolStatsRead r => r.wf
  | .poolErrlogRead r => r.wf
  | .poolCellRead r => r.wf
  | .rulePortWrite r => r.wf
  | .ruleProgramLoad r => r.wf
  | .ruleRangeWrite r => r.wf
  | .ruleEntryWrite r => r.wf
  | .ruleEntryRead r => r.wf
  | .ruleGroupWrite r => r.wf
  | .ruleCommit r => r.wf
  | .ruleStatusRead r => r.wf
  | .ruleFragWrite r => r.wf
  | .ruleStatsRead r => r.wf
  | .rulePortRead r => r.wf
  | .ruleRangeRead r => r.wf
  | .ruleGroupRead r => r.wf
  | .fwdEntryWrite r => r.wf
  | .fwdEntryRead r => r.wf
  | .fwdCommit r => r.wf
  | .fwdStatusRead r => r.wf
  | .fwdPortWrite r => r.wf
  | .fwdPortRead r => r.wf
  | .fwdLearnWrite r => r.wf
  | .fwdLearnFlush r => r.wf
  | .fwdStatsRead r => r.wf
  | .frerFuncWrite r => r.wf
  | .frerFuncRead r => r.wf
  | .frerReset r => r.wf
  | .zoneMapWrite r => r.wf
  | .zoneMapRead r => r.wf
  | .zonePolicyWrite r => r.wf
  | .zonePolicyRead r => r.wf
  | .zoneGwRead r => r.wf
  | .zoneStatsRead r => r.wf
  | .meterWrite r => r.wf
  | .meterRead r => r.wf
  | .meterFilterWrite r => r.wf
  | .meterFilterRead r => r.wf
  | .meterStatsRead r => r.wf
  | .meterUnblock r => r.wf
  | .gclConfigWrite r => r.wf
  | .gclListWrite r => r.wf
  | .gclPatternWrite r => r.wf
  | .gclCommit r => r.wf
  | .gclCancel r => r.wf
  | .gclRead r => r.wf
  | .gclStatusRead r => r.wf
  | .gclCheck r => r.wf
  | .shaperQueueWrite r => r.wf
  | .shaperQueueRead r => r.wf
  | .shaperPreemptWrite r => r.wf
  | .shaperMmWrite r => r.wf
  | .shaperMmRead r => r.wf
  | .qstatQueueRead r => r.wf
  | .qstatSamplerWrite r => r.wf
  | .qstatSamplerRead r => r.wf
  | .timeRead r => r.wf
  | .timeSet r => r.wf
  | .timeAdjust r => r.wf
  | .timeConfigWrite r => r.wf
  | .timeConfigRead r => r.wf
  | .timePortWrite r => r.wf
  | .timePortRead r => r.wf
  | .timePpsRead r => r.wf
  | .portConfigWrite r => r.wf
  | .portPlcaWrite r => r.wf
  | .portConfigRead r => r.wf
  | .portPlcaRead r => r.wf
  | .portStatusRead r => r.wf
  | .portCableTest r => r.wf
  | .macsecPortWrite r => r.wf
  | .macsecMkaWrite r => r.wf
  | .macsecStatusRead r => r.wf
  | .edgeCanWrite r => r.wf
  | .edgeLinWrite r => r.wf
  | .edgeLinTableWrite r => r.wf
  | .edgeSerWrite r => r.wf
  | .edgeTableLoad r => r.wf
  | .edgeWakeWrite r => r.wf
  | .edgeCanRecover r => r.wf
  | .edgeConfigRead r => r.wf
  | .edgeStatusRead r => r.wf
  | .gwBundleWrite r => r.wf
  | .gwUpWrite r => r.wf
  | .gwDownWrite r => r.wf
  | .gwPeriodicWrite r => r.wf
  | .gwPeriodicData r => r.wf
  | .gwRead r => r.wf
  | .gwStatsRead r => r.wf
  | .coreStatusRead r => r.wf
  | .coreSwitch r => r.wf
  | .coreGuardWrite r => r.wf
  | .coreGuardRead r => r.wf
  | .coreStatsRead r => r.wf
  | .coreRestart r => r.wf
  | .coreSelftest r => r.wf
  | .coreDebug r => r.wf
  | .hostEcho r => r.wf
  | .hostVersionRead r => r.wf
  | .hostLateLogRead r => r.wf
  | .hostRingStatsRead r => r.wf
  | .sealCommit r => r.wf
  | .sealStatusRead r => r.wf
  | .diagRead r => r.wf
  | .faultStatusRead r => r.wf
  | .faultLogRead r => r.wf
  | .faultLinkEnable r => r.wf
  | .faultDieReload r => r.wf
  | .faultReset r => r.wf
  | .maintStatusRead r => r.wf
  | .maintExclWrite r => r.wf
  | .stackStatusRead r => r.wf
  | .stackRelay r => r.wf
  | .stackDesignate r => r.wf
  | .imgStatusRead r => r.wf
  | .imgBegin r => r.wf
  | .imgWrite r => r.wf
  | .imgVerify r => r.wf
  | .imgPrepare r => r.wf
  | .imgHandover r => r.wf
  | .imgConfirm r => r.wf
  | .imgRollback r => r.wf
  | .imgReportRead r => r.wf
  | .keyStatusRead r => r.wf
  | .keyProvision r => r.wf
  | .keyGenerate r => r.wf
  | .keyImport r => r.wf
  | .keyDerive r => r.wf
  | .keyDelete r => r.wf
  | .keyInfoRead r => r.wf
  | .keyTamperWrite r => r.wf
  | .keyTamperRead r => r.wf
  | .keyVerifierWrite r => r.wf
  | .keySession r => r.wf
  | .cipherLock r => r.wf
  | .cipherBlock r => r.wf
  | .cipherUnlock r => r.wf
  | .cipherStatusRead r => r.wf
  | .powerStatusRead r => r.wf
  | .powerSeqLoad r => r.wf
  | .powerConfigWrite r => r.wf
  | .powerLoadConfig r => r.wf
  | .powerLoadSet r => r.wf
  | .powerRead r => r.wf
  | .paceCurveLoad r => r.wf
  | .paceConfigWrite r => r.wf
  | .paceStatusRead r => r.wf
  | .paceRead r => r.wf
  | .wakePolicyWrite r => r.wf
  | .wakeConfigWrite r => r.wf
  | .wakeHold r => r.wf
  | .wakeStatusRead r => r.wf
  | .wakeLogRead r => r.wf
  | .wakeRead r => r.wf
  | .wakePulseEnd port => decide (port ≤ 25)
  | .plcaBeaconTx port => decide (port ≤ 25)
  | .mkaHelloTime port heard => decide (port ≤ 25) && heard.all fun e => decide (e.2 ≤ 255)
  | .servicePortLinkDown => true
  | .pcieLinkChange _ _ => true
  | .aoSupplyLoss _ => true
  | .supplyNormal volts _ => decide (volts ≤ 4095)
  | .coreBootTimeout => true
  | .coreRestartFailed _ _ => true

end Sys2Proof
end

