-- ==== Sys2Proof/Laws/PerInstr.lean ====
section
/-! SUPPORT. Laws of every command, one lemma per constructor. -/

namespace Sys2Proof.Laws

/-- A well-formed mailbox command has a request that a message header can carry: TAG and FLAGS of 8 bits and a LENGTH of at most 255 words
(13 R367). -/
def Sized.Statement (i : Instr) : Prop :=
  ∀ r, i.request = some r → i.wf = true → r.tag ≤ 255 ∧ r.flags ≤ 255 ∧ r.words.length ≤ 255

theorem Sized.of_wf {r : Req} (h : r.wf = true) : r.tag ≤ 255 ∧ r.flags ≤ 255 ∧ r.words.length ≤ 255 := by
  simpa [Req.wf, and_assoc] using h

theorem Sized.frameRxStart (port : Nat) (bytes : List Byte) (hdr : List Byte) (phy : Bool) (sec : SecRx) (mm : MmRx) (dt : Nat) : Statement (.frameRxStart port bytes hdr phy sec mm dt) := by
  rintro _ ⟨⟩

theorem Sized.fabricWordStore (die : Fab) (fid : Nat) : Statement (.fabricWordStore die fid) := by
  rintro _ ⟨⟩

theorem Sized.frameEndStored (die : Fab) (fid : Nat) (dt : Nat) : Statement (.frameEndStored die fid dt) := by
  rintro _ ⟨⟩

theorem Sized.parseEngineTake (die : Fab) (eng : Nat) (port : Nat) : Statement (.parseEngineTake die eng port) := by
  rintro _ ⟨⟩

theorem Sized.parseEnd (die : Fab) (eng : Nat) : Statement (.parseEnd die eng) := by
  rintro _ ⟨⟩

theorem Sized.parseClass (die : Fab) (eng : Nat) : Statement (.parseClass die eng) := by
  rintro _ ⟨⟩

theorem Sized.parseExtract (die : Fab) (eng : Nat) : Statement (.parseExtract die eng) := by
  rintro _ ⟨⟩

theorem Sized.parseLoad (die : Fab) (eng : Nat) : Statement (.parseLoad die eng) := by
  rintro _ ⟨⟩

theorem Sized.parseAnd (die : Fab) (eng : Nat) : Statement (.parseAnd die eng) := by
  rintro _ ⟨⟩

theorem Sized.parseTest (die : Fab) (eng : Nat) : Statement (.parseTest die eng) := by
  rintro _ ⟨⟩

theorem Sized.parseTestne (die : Fab) (eng : Nat) : Statement (.parseTestne die eng) := by
  rintro _ ⟨⟩

theorem Sized.parseJump (die : Fab) (eng : Nat) : Statement (.parseJump die eng) := by
  rintro _ ⟨⟩

theorem Sized.parseAdvance (die : Fab) (eng : Nat) : Statement (.parseAdvance die eng) := by
  rintro _ ⟨⟩

theorem Sized.parseLenset (die : Fab) (eng : Nat) : Statement (.parseLenset die eng) := by
  rintro _ ⟨⟩

theorem Sized.parseFail (die : Fab) (eng : Nat) : Statement (.parseFail die eng) := by
  rintro _ ⟨⟩

theorem Sized.parseBudgetExhausted (die : Fab) (eng : Nat) : Statement (.parseBudgetExhausted die eng) := by
  rintro _ ⟨⟩

theorem Sized.collectorTake (die : Fab) (eng : Nat) : Statement (.collectorTake die eng) := by
  rintro _ ⟨⟩

theorem Sized.recircPassStart (die : Fab) (eng : Nat) : Statement (.recircPassStart die eng) := by
  rintro _ ⟨⟩

theorem Sized.learnEntryWrite : Statement (.learnEntryWrite) := by
  rintro _ ⟨⟩

theorem Sized.fragTimeout (die : Fab) (index : Nat) : Statement (.fragTimeout die index) := by
  rintro _ ⟨⟩

theorem Sized.seamFrameStart (die : Fab) (link : Nat) : Statement (.seamFrameStart die link) := by
  rintro _ ⟨⟩

theorem Sized.seamWordSend (die : Fab) (link : Nat) : Statement (.seamWordSend die link) := by
  rintro _ ⟨⟩

theorem Sized.seamWordRx (die : Fab) (link : Nat) : Statement (.seamWordRx die link) := by
  rintro _ ⟨⟩

theorem Sized.seamLinkLost (link : Nat) (west : Bool) (east : Bool) : Statement (.seamLinkLost link west east) := by
  rintro _ ⟨⟩

theorem Sized.cuffLinkLost (die : Fab) : Statement (.cuffLinkLost die) := by
  rintro _ ⟨⟩

theorem Sized.egressSelect (die : Fab) (out : Nat) (lat : Nat) (dt : Nat) : Statement (.egressSelect die out lat dt) := by
  rintro _ ⟨⟩

theorem Sized.egressFrameEnd (die : Fab) (out : Nat) : Statement (.egressFrameEnd die out) := by
  rintro _ ⟨⟩

theorem Sized.stagingUnderrun (die : Fab) (out : Nat) : Statement (.stagingUnderrun die out) := by
  rintro _ ⟨⟩

theorem Sized.expressPreempt (die : Fab) (out : Nat) (dt : Nat) : Statement (.expressPreempt die out dt) := by
  rintro _ ⟨⟩

theorem Sized.poolAlloc (die : Fab) (owner : Nat) (req : AllocReq) (contended : Bool) : Statement (.poolAlloc die owner req contended) := by
  rintro _ ⟨⟩

theorem Sized.poolFree (die : Fab) (owner : Nat) (pool : Nat) (index : Nat) (contended : Bool) : Statement (.poolFree die owner pool index contended) := by
  rintro _ ⟨⟩

theorem Sized.poolShare (die : Fab) (owner : Nat) (pool : Nat) (index : Nat) (k : Nat) (contended : Bool) : Statement (.poolShare die owner pool index k contended) := by
  rintro _ ⟨⟩

theorem Sized.poolRelease (die : Fab) (owner : Nat) (pool : Nat) (index : Nat) (contended : Bool) : Statement (.poolRelease die owner pool index contended) := by
  rintro _ ⟨⟩

theorem Sized.freeListBuilt (die : Fab) : Statement (.freeListBuilt die) := by
  rintro _ ⟨⟩

theorem Sized.cpuPortDelivery (die : Fab) : Statement (.cpuPortDelivery die) := by
  rintro _ ⟨⟩

theorem Sized.txRingFrame (die : Fab) (length : Nat) (bytes : List Byte) (err : Bool) (dt : Nat) : Statement (.txRingFrame die length bytes err dt) := by
  rintro _ ⟨⟩

theorem Sized.rxRingDelivery (die : Fab) (dt : Nat) : Statement (.rxRingDelivery die dt) := by
  rintro _ ⟨⟩

theorem Sized.ringCoalesceExpiry (p : Path) (rx : Bool) (n : Nat) : Statement (.ringCoalesceExpiry p rx n) := by
  rintro _ ⟨⟩

theorem Sized.cbsRefill (port : Nat) : Statement (.cbsRefill port) := by
  rintro _ ⟨⟩

theorem Sized.gclEntryStart (port : Nat) : Statement (.gclEntryStart port) := by
  rintro _ ⟨⟩

theorem Sized.gclChangeTime (port : Nat) : Statement (.gclChangeTime port) := by
  rintro _ ⟨⟩

theorem Sized.gclCopyComplete (port : Nat) : Statement (.gclCopyComplete port) := by
  rintro _ ⟨⟩

theorem Sized.mmVerifyTimer (port : Nat) : Statement (.mmVerifyTimer port) := by
  rintro _ ⟨⟩

theorem Sized.mmVerifyRx (port : Nat) (respond : Bool) : Statement (.mmVerifyRx port respond) := by
  rintro _ ⟨⟩

theorem Sized.samplerPeriod (die : Fab) (n : Nat) : Statement (.samplerPeriod die n) := by
  rintro _ ⟨⟩

theorem Sized.activationArmDeadline (armed : Bool) : Statement (.activationArmDeadline armed) := by
  rintro _ ⟨⟩

theorem Sized.activationTimeReached : Statement (.activationTimeReached) := by
  rintro _ ⟨⟩

theorem Sized.ruleBankRetired : Statement (.ruleBankRetired) := by
  rintro _ ⟨⟩

theorem Sized.fwdSweepEnd : Statement (.fwdSweepEnd) := by
  rintro _ ⟨⟩

theorem Sized.frerResetTimeout (die : Fab) (fn : Nat) : Statement (.frerResetTimeout die fn) := by
  rintro _ ⟨⟩

theorem Sized.restoreHoldEnd (port : Nat) : Statement (.restoreHoldEnd port) := by
  rintro _ ⟨⟩

theorem Sized.linkDownDeclared (port : Nat) : Statement (.linkDownDeclared port) := by
  rintro _ ⟨⟩

theorem Sized.pcsLock (port : Nat) (dt : Nat) : Statement (.pcsLock port dt) := by
  rintro _ ⟨⟩

theorem Sized.trainTimeout (port : Nat) : Statement (.trainTimeout port) := by
  rintro _ ⟨⟩

theorem Sized.usxgmiiAnWord (port : Nat) (up : Bool) (rate : Nat) : Statement (.usxgmiiAnWord port up rate) := by
  rintro _ ⟨⟩

theorem Sized.portSleepCmd (port : Nat) : Statement (.portSleepCmd port) := by
  rintro _ ⟨⟩

theorem Sized.tc10SleepReqRx (port : Nat) : Statement (.tc10SleepReqRx port) := by
  rintro _ ⟨⟩

theorem Sized.tc10SleepAckRx (port : Nat) : Statement (.tc10SleepAckRx port) := by
  rintro _ ⟨⟩

theorem Sized.sleepWaitTimeout (port : Nat) : Statement (.sleepWaitTimeout port) := by
  rintro _ ⟨⟩

theorem Sized.tc10WakeReqRx (port : Nat) : Statement (.tc10WakeReqRx port) := by
  rintro _ ⟨⟩

theorem Sized.wakePulseDetected (port : Nat) (dt : Nat) : Statement (.wakePulseDetected port dt) := by
  rintro _ ⟨⟩

theorem Sized.portWakeCmd (port : Nat) (temp : Nat) : Statement (.portWakeCmd port temp) := by
  rintro _ ⟨⟩

theorem Sized.resumeDeadline (port : Nat) : Statement (.resumeDeadline port) := by
  rintro _ ⟨⟩

theorem Sized.cableTestDone (port : Nat) (result : Nat) (distance : Nat) : Statement (.cableTestDone port result distance) := by
  rintro _ ⟨⟩

theorem Sized.lpiIdleTimer (port : Nat) : Statement (.lpiIdleTimer port) := by
  rintro _ ⟨⟩

theorem Sized.lpiWakeComplete (port : Nat) (dt : Nat) : Statement (.lpiWakeComplete port dt) := by
  rintro _ ⟨⟩

theorem Sized.beaconLossTimeout (port : Nat) : Statement (.beaconLossTimeout port) := by
  rintro _ ⟨⟩

theorem Sized.beaconRx (port : Nat) : Statement (.beaconRx port) := by
  rintro _ ⟨⟩

theorem Sized.plcaTxOpportunity (port : Nat) (burst : Bool) (collision : Bool) (dt : Nat) : Statement (.plcaTxOpportunity port burst collision dt) := by
  rintro _ ⟨⟩

theorem Sized.sqiUpdate (port : Nat) (sqi : Nat) (fixed : Nat) (lost : Nat) (temp : Nat) : Statement (.sqiUpdate port sqi fixed lost temp) := by
  rintro _ ⟨⟩

theorem Sized.mkaSakInstall (port : Nat) (an : Nat) : Statement (.mkaSakInstall port an) := by
  rintro _ ⟨⟩

theorem Sized.freqAdjApply : Statement (.freqAdjApply) := by
  rintro _ ⟨⟩

theorem Sized.timeStepApply : Statement (.timeStepApply) := by
  rintro _ ⟨⟩

theorem Sized.slewEnd : Statement (.slewEnd) := by
  rintro _ ⟨⟩

theorem Sized.ppsEdge (dt : Nat) : Statement (.ppsEdge dt) := by
  rintro _ ⟨⟩

theorem Sized.ppsMissing : Statement (.ppsMissing) := by
  rintro _ ⟨⟩

theorem Sized.holdoverMaxExpiry : Statement (.holdoverMaxExpiry) := by
  rintro _ ⟨⟩

theorem Sized.syncRx (port : Nat) : Statement (.syncRx port) := by
  rintro _ ⟨⟩

theorem Sized.syncTimeout : Statement (.syncTimeout) := by
  rintro _ ⟨⟩

theorem Sized.syncTx (port : Nat) (dt : Nat) : Statement (.syncTx port dt) := by
  rintro _ ⟨⟩

theorem Sized.followUpTx (port : Nat) (dt : Nat) : Statement (.followUpTx port dt) := by
  rintro _ ⟨⟩

theorem Sized.pdelayReqTx (port : Nat) (dt : Nat) : Statement (.pdelayReqTx port dt) := by
  rintro _ ⟨⟩

theorem Sized.pdelayRx (port : Nat) : Statement (.pdelayRx port) := by
  rintro _ ⟨⟩

theorem Sized.announceTx (port : Nat) (dt : Nat) : Statement (.announceTx port dt) := by
  rintro _ ⟨⟩

theorem Sized.ppsOutPulse : Statement (.ppsOutPulse) := by
  rintro _ ⟨⟩

theorem Sized.canFrameRx (chan : Nat) (frame : CanFrame) (sof : Nat) (lost : Bool) (dt : Nat) : Statement (.canFrameRx chan frame sof lost dt) := by
  rintro _ ⟨⟩

theorem Sized.canArbWin (chan : Nat) (dt : Nat) : Statement (.canArbWin chan dt) := by
  rintro _ ⟨⟩

theorem Sized.canTxDone (chan : Nat) (ok : Bool) (dt : Nat) : Statement (.canTxDone chan ok dt) := by
  rintro _ ⟨⟩

theorem Sized.canTxExpired (chan : Nat) : Statement (.canTxExpired chan) := by
  rintro _ ⟨⟩

theorem Sized.canBusError (chan : Nat) (code : Nat) (tx : Bool) (add : Nat) : Statement (.canBusError chan code tx add) := by
  rintro _ ⟨⟩

theorem Sized.canBusOffRecovered (chan : Nat) (dt : Nat) : Statement (.canBusOffRecovered chan dt) := by
  rintro _ ⟨⟩

theorem Sized.linSlotStart (chan : Nat) : Statement (.linSlotStart chan) := by
  rintro _ ⟨⟩

theorem Sized.linHeaderRx (chan : Nat) (id : Nat) (sync : Bool) (dt : Nat) : Statement (.linHeaderRx chan id sync dt) := by
  rintro _ ⟨⟩

theorem Sized.linResponseRx (chan : Nat) (data : List Byte) (check : Nat) (err : Nat) (dt : Nat) : Statement (.linResponseRx chan data check err dt) := by
  rintro _ ⟨⟩

theorem Sized.linSlotEnd (chan : Nat) : Statement (.linSlotEnd chan) := by
  rintro _ ⟨⟩

theorem Sized.linGoToSleep (chan : Nat) : Statement (.linGoToSleep chan) := by
  rintro _ ⟨⟩

theorem Sized.linWakePulse (chan : Nat) : Statement (.linWakePulse chan) := by
  rintro _ ⟨⟩

theorem Sized.linScheduleRestart (chan : Nat) : Statement (.linScheduleRestart chan) := by
  rintro _ ⟨⟩

theorem Sized.serCharRx (chan : Nat) (value : Nat) (parity : Bool) (stop : Bool) (gap : Nat) (dt : Nat) : Statement (.serCharRx chan value parity stop gap dt) := by
  rintro _ ⟨⟩

theorem Sized.serGapTimeout (chan : Nat) (reach : Bool) (dt : Nat) : Statement (.serGapTimeout chan reach dt) := by
  rintro _ ⟨⟩

theorem Sized.serTxQueue (chan : Nat) (addr : Nat) (payload : List Nat) (prio : Nat) : Statement (.serTxQueue chan addr payload prio) := by
  rintro _ ⟨⟩

theorem Sized.serLineIdle (chan : Nat) (dt : Nat) : Statement (.serLineIdle chan dt) := by
  rintro _ ⟨⟩

theorem Sized.serDeLeadEnd (chan : Nat) (dt : Nat) : Statement (.serDeLeadEnd chan dt) := by
  rintro _ ⟨⟩

theorem Sized.serCharSent (chan : Nat) (echo : Nat) (dt : Nat) : Statement (.serCharSent chan echo dt) := by
  rintro _ ⟨⟩

theorem Sized.serDeLagEnd (chan : Nat) (dt : Nat) : Statement (.serDeLagEnd chan dt) := by
  rintro _ ⟨⟩

theorem Sized.serTxExpired (chan : Nat) : Statement (.serTxExpired chan) := by
  rintro _ ⟨⟩

theorem Sized.transceiverWake (chan : Nat) (dt : Nat) : Statement (.transceiverWake chan dt) := by
  rintro _ ⟨⟩

theorem Sized.timeMsgInstant (chan : Nat) : Statement (.timeMsgInstant chan) := by
  rintro _ ⟨⟩

theorem Sized.gwUplinkMatch (chan : Nat) : Statement (.gwUplinkMatch chan) := by
  rintro _ ⟨⟩

theorem Sized.bundleMaxWait (bundle : Nat) : Statement (.bundleMaxWait bundle) := by
  rintro _ ⟨⟩

theorem Sized.gwFrameDecode : Statement (.gwFrameDecode) := by
  rintro _ ⟨⟩

theorem Sized.periodicSlotInstant (slot : Nat) : Statement (.periodicSlotInstant slot) := by
  rintro _ ⟨⟩

theorem Sized.periodicStale (slot : Nat) : Statement (.periodicStale slot) := by
  rintro _ ⟨⟩

theorem Sized.guardSegmentEnd (core : Fab) (first : Bool) (a : List RegWrite) (b : List RegWrite) (c : List RegWrite) (parity : Bool) : Statement (.guardSegmentEnd core first a b c parity) := by
  rintro _ ⟨⟩

theorem Sized.tripwireTimer (core : Fab) (first : Nat × Nat × Nat) (again : Nat × Nat × Nat) : Statement (.tripwireTimer core first again) := by
  rintro _ ⟨⟩

theorem Sized.sramEccError (core : Fab) (err : EccErr) : Statement (.sramEccError core err) := by
  rintro _ ⟨⟩

theorem Sized.heartbeatTx (core : Fab) : Statement (.heartbeatTx core) := by
  rintro _ ⟨⟩

theorem Sized.heartbeatLoss (core : Fab) : Statement (.heartbeatLoss core) := by
  rintro _ ⟨⟩

theorem Sized.coreDomainLost (core : Fab) (dt : Nat) : Statement (.coreDomainLost core dt) := by
  rintro _ ⟨⟩

theorem Sized.coreFaultReport (core : Fab) : Statement (.coreFaultReport core) := by
  rintro _ ⟨⟩

theorem Sized.gapStart (dt : Nat) : Statement (.gapStart dt) := by
  rintro _ ⟨⟩

theorem Sized.standbyLiningApplied (dt : Nat) : Statement (.standbyLiningApplied dt) := by
  rintro _ ⟨⟩

theorem Sized.gapEnd (dt : Nat) : Statement (.gapEnd dt) := by
  rintro _ ⟨⟩

theorem Sized.restartCaughtUp (dt : Nat) : Statement (.restartCaughtUp dt) := by
  rintro _ ⟨⟩

theorem Sized.liningRecordRx (rec : List Word) : Statement (.liningRecordRx rec) := by
  rintro _ ⟨⟩

theorem Sized.liningAuditTimer : Statement (.liningAuditTimer) := by
  rintro _ ⟨⟩

theorem Sized.catchupComplete : Statement (.catchupComplete) := by
  rintro _ ⟨⟩

theorem Sized.handoverTimeout : Statement (.handoverTimeout) := by
  rintro _ ⟨⟩

theorem Sized.trialTimeout : Statement (.trialTimeout) := by
  rintro _ ⟨⟩

theorem Sized.imgEraseComplete (dt : Nat) : Statement (.imgEraseComplete dt) := by
  rintro _ ⟨⟩

theorem Sized.mbxDoorbell (p : Path) : Statement (.mbxDoorbell p) := by
  rintro _ ⟨⟩

theorem Sized.responseFifoPlace (p : Path) : Statement (.responseFifoPlace p) := by
  rintro _ ⟨⟩

theorem Sized.mbxRspPop (p : Path) : Statement (.mbxRspPop p) := by
  rintro _ ⟨⟩

theorem Sized.mbxRspDrop (p : Path) : Statement (.mbxRspDrop p) := by
  rintro _ ⟨⟩

theorem Sized.evtRead (p : Path) (reg : Nat) (size : RdSize) : Statement (.evtRead p reg size) := by
  rintro _ ⟨⟩

theorem Sized.evtWrite (p : Path) (reg : Nat) (w : Word) : Statement (.evtWrite p reg w) := by
  rintro _ ⟨⟩

theorem Sized.upperBitsWrite (p : Path) (v : Nat) : Statement (.upperBitsWrite p v) := by
  rintro _ ⟨⟩

theorem Sized.registerWrite (p : Path) (idx : Nat) (w : Word) (half : Bool) : Statement (.registerWrite p idx w half) := by
  rintro _ ⟨⟩

theorem Sized.d0PostedWriteApply : Statement (.d0PostedWriteApply) := by
  rintro _ ⟨⟩

theorem Sized.policyLockSet (p : Path) (w : Word) : Statement (.policyLockSet p w) := by
  rintro _ ⟨⟩

theorem Sized.sealLockSet (p : Path) (w : Word) : Statement (.sealLockSet p w) := by
  rintro _ ⟨⟩

theorem Sized.keyLockSet (p : Path) (w : Word) : Statement (.keyLockSet p w) := by
  rintro _ ⟨⟩

theorem Sized.powerLimitLockSet (p : Path) (w : Word) : Statement (.powerLimitLockSet p w) := by
  rintro _ ⟨⟩

theorem Sized.ringCtrlWrite (p : Path) (rx : Bool) (n : Nat) (w : Word) : Statement (.ringCtrlWrite p rx n w) := by
  rintro _ ⟨⟩

theorem Sized.ringTailWrite (p : Path) (rx : Bool) (n : Nat) (w : Word) : Statement (.ringTailWrite p rx n w) := by
  rintro _ ⟨⟩

theorem Sized.spiTransaction (bytes : List Byte) : Statement (.spiTransaction bytes) := by
  rintro _ ⟨⟩

theorem Sized.serviceFrameRx (bytes : List Byte) : Statement (.serviceFrameRx bytes) := by
  rintro _ ⟨⟩

theorem Sized.functionLevelReset (p : Path) : Statement (.functionLevelReset p) := by
  rintro _ ⟨⟩

theorem Sized.perstNRelease (die : Fab) : Statement (.perstNRelease die) := by
  rintro _ ⟨⟩

theorem Sized.lateWriteFail (p : Path) (reason : Nat) (addr : Nat) : Statement (.lateWriteFail p reason addr) := by
  rintro _ ⟨⟩

theorem Sized.fifoPointerFault (f : FifoRef) : Statement (.fifoPointerFault f) := by
  rintro _ ⟨⟩

theorem Sized.sealPassEnd (die : Nat) (crc : Nat) : Statement (.sealPassEnd die crc) := by
  rintro _ ⟨⟩

theorem Sized.tamperAlarm (source : Nat) (during : Option Path) (dt : Nat) : Statement (.tamperAlarm source during dt) := by
  rintro _ ⟨⟩

theorem Sized.cipherLockIdle : Statement (.cipherLockIdle) := by
  rintro _ ⟨⟩

theorem Sized.depotSessionTimeout : Statement (.depotSessionTimeout) := by
  rintro _ ⟨⟩

theorem Sized.nonceExpiry : Statement (.nonceExpiry) := by
  rintro _ ⟨⟩

theorem Sized.openLockoutEnd : Statement (.openLockoutEnd) := by
  rintro _ ⟨⟩

theorem Sized.seqStepPowerGood (dt : Nat) : Statement (.seqStepPowerGood dt) := by
  rintro _ ⟨⟩

theorem Sized.seqWaitExpiry : Statement (.seqWaitExpiry) := by
  rintro _ ⟨⟩

theorem Sized.seqPgTimeout : Statement (.seqPgTimeout) := by
  rintro _ ⟨⟩

theorem Sized.paceSample (die : Fab) (monitors : List Nat) (tj : Int) (dt : Nat) : Statement (.paceSample die monitors tj dt) := by
  rintro _ ⟨⟩

theorem Sized.paceRiseTimer (die : Fab) : Statement (.paceRiseTimer die) := by
  rintro _ ⟨⟩

theorem Sized.paceFallTimer (die : Fab) : Statement (.paceFallTimer die) := by
  rintro _ ⟨⟩

theorem Sized.paceShortTimer (die : Fab) : Statement (.paceShortTimer die) := by
  rintro _ ⟨⟩

theorem Sized.ageingHour (die : Fab) : Statement (.ageingHour die) := by
  rintro _ ⟨⟩

theorem Sized.powerEstimate (pout : List Nat) (ampW : Nat) (ampE : Nat) (feeds : List Nat) (dt : Nat) : Statement (.powerEstimate pout ampW ampE feeds dt) := by
  rintro _ ⟨⟩

theorem Sized.powerShedTimer : Statement (.powerShedTimer) := by
  rintro _ ⟨⟩

theorem Sized.powerRestoreTimer : Statement (.powerRestoreTimer) := by
  rintro _ ⟨⟩

theorem Sized.feedOvercurrentTrip (feed : Nat) (current : Nat) (dt : Nat) : Statement (.feedOvercurrentTrip feed current dt) := by
  rintro _ ⟨⟩

theorem Sized.feedInrushEnd (feed : Nat) (current : Nat) : Statement (.feedInrushEnd feed current) := by
  rintro _ ⟨⟩

theorem Sized.feedRetryExpiry (feed : Nat) : Statement (.feedRetryExpiry feed) := by
  rintro _ ⟨⟩

theorem Sized.feedRetryRestore (feed : Nat) : Statement (.feedRetryRestore feed) := by
  rintro _ ⟨⟩

theorem Sized.feedShedRestore (feed : Nat) (volts : Nat) (dt : Nat) : Statement (.feedShedRestore feed volts dt) := by
  rintro _ ⟨⟩

theorem Sized.feedAutoOn : Statement (.feedAutoOn) := by
  rintro _ ⟨⟩

theorem Sized.supplyOv (volts : Nat) (dt : Nat) : Statement (.supplyOv volts dt) := by
  rintro _ ⟨⟩

theorem Sized.supplyUv (volts : Nat) (dt : Nat) : Statement (.supplyUv volts dt) := by
  rintro _ ⟨⟩

theorem Sized.supplyCrank (volts : Nat) (dt : Nat) : Statement (.supplyCrank volts dt) := by
  rintro _ ⟨⟩

theorem Sized.controlledPowerDown (volts : Nat) (dt : Nat) : Statement (.controlledPowerDown volts dt) := by
  rintro _ ⟨⟩

theorem Sized.supplyRestored (volts : Nat) (dt : Nat) : Statement (.supplyRestored volts dt) := by
  rintro _ ⟨⟩

theorem Sized.wakePolicyMatch (w : WakeIn) : Statement (.wakePolicyMatch w) := by
  rintro _ ⟨⟩

theorem Sized.sleepTimerExpiry : Statement (.sleepTimerExpiry) := by
  rintro _ ⟨⟩

theorem Sized.prepareCancel (kind : Nat) (src : Nat) : Statement (.prepareCancel kind src) := by
  rintro _ ⟨⟩

theorem Sized.commitPoint : Statement (.commitPoint) := by
  rintro _ ⟨⟩

theorem Sized.sleepSeqComplete : Statement (.sleepSeqComplete) := by
  rintro _ ⟨⟩

theorem Sized.wakeSource (kind : Nat) (src : Nat) (dt : Nat) : Statement (.wakeSource kind src dt) := by
  rintro _ ⟨⟩

theorem Sized.wakeSeqComplete : Statement (.wakeSeqComplete) := by
  rintro _ ⟨⟩

theorem Sized.coreWakeRebuild (west : Bool) (east : Bool) (dt : Nat) : Statement (.coreWakeRebuild west east dt) := by
  rintro _ ⟨⟩

theorem Sized.wakeLocInput (input : Nat) (dt : Nat) : Statement (.wakeLocInput input dt) := by
  rintro _ ⟨⟩

theorem Sized.sleepWakeTimer : Statement (.sleepWakeTimer) := by
  rintro _ ⟨⟩

theorem Sized.wakeHoldExpiry (path : Path) : Statement (.wakeHoldExpiry path) := by
  rintro _ ⟨⟩

theorem Sized.helloTx : Statement (.helloTx) := by
  rintro _ ⟨⟩

theorem Sized.stackHelloRx (port : Nat) : Statement (.stackHelloRx port) := by
  rintro _ ⟨⟩

theorem Sized.stackMatchRx (port : Nat) : Statement (.stackMatchRx port) := by
  rintro _ ⟨⟩

theorem Sized.stackPrepareRx (port : Nat) : Statement (.stackPrepareRx port) := by
  rintro _ ⟨⟩

theorem Sized.stackCancelRx (port : Nat) : Statement (.stackCancelRx port) := by
  rintro _ ⟨⟩

theorem Sized.stackCommitRx (port : Nat) : Statement (.stackCommitRx port) := by
  rintro _ ⟨⟩

theorem Sized.masterLost : Statement (.masterLost) := by
  rintro _ ⟨⟩

theorem Sized.bridgeWriteRx (port : Nat) : Statement (.bridgeWriteRx port) := by
  rintro _ ⟨⟩

theorem Sized.bridgeReadRx (port : Nat) : Statement (.bridgeReadRx port) := by
  rintro _ ⟨⟩

theorem Sized.bridgeLockReadRx (port : Nat) : Statement (.bridgeLockReadRx port) := by
  rintro _ ⟨⟩

theorem Sized.bridgeUnlockWriteRx (port : Nat) : Statement (.bridgeUnlockWriteRx port) := by
  rintro _ ⟨⟩

theorem Sized.bridgeWackRx (port : Nat) : Statement (.bridgeWackRx port) := by
  rintro _ ⟨⟩

theorem Sized.bridgeRdataRx (port : Nat) : Statement (.bridgeRdataRx port) := by
  rintro _ ⟨⟩

theorem Sized.bridgeBackoffExpiry : Statement (.bridgeBackoffExpiry) := by
  rintro _ ⟨⟩

theorem Sized.bridgeTimeout : Statement (.bridgeTimeout) := by
  rintro _ ⟨⟩

theorem Sized.bridgeLockExpiry (die : Nat) : Statement (.bridgeLockExpiry die) := by
  rintro _ ⟨⟩

theorem Sized.stkWakeInput : Statement (.stkWakeInput) := by
  rintro _ ⟨⟩

theorem Sized.relayTimeout (path : Path) : Statement (.relayTimeout path) := by
  rintro _ ⟨⟩

theorem Sized.aoPowerUp (bk : Bool) : Statement (.aoPowerUp bk) := by
  rintro _ ⟨⟩

theorem Sized.resetNInput (dt : Nat) : Statement (.resetNInput dt) := by
  rintro _ ⟨⟩

theorem Sized.slowOscRunning (hem : Bool) (mbr : Nat) (dt : Nat) : Statement (.slowOscRunning hem mbr dt) := by
  rintro _ ⟨⟩

theorem Sized.tcxoLock (dt : Nat) : Statement (.tcxoLock dt) := by
  rintro _ ⟨⟩

theorem Sized.clockWaitTimeout : Statement (.clockWaitTimeout) := by
  rintro _ ⟨⟩

theorem Sized.supplyOnStable (volts : Nat) (dt : Nat) : Statement (.supplyOnStable volts dt) := by
  rintro _ ⟨⟩

theorem Sized.selftestComplete (fails : List (Nat × Nat × Nat)) (dt : Nat) : Statement (.selftestComplete fails dt) := by
  rintro _ ⟨⟩

theorem Sized.imageVerified (dt : Nat) : Statement (.imageVerified dt) := by
  rintro _ ⟨⟩

theorem Sized.measurementReleased (west : Bool) (east : Bool) (dt : Nat) : Statement (.measurementReleased west east dt) := by
  rintro _ ⟨⟩

theorem Sized.blobsHandled (dt : Nat) : Statement (.blobsHandled dt) := by
  rintro _ ⟨⟩

theorem Sized.imageRecordExec (dt : Nat) : Statement (.imageRecordExec dt) := by
  rintro _ ⟨⟩

theorem Sized.locksApply (dt : Nat) : Statement (.locksApply dt) := by
  rintro _ ⟨⟩

theorem Sized.haltPowerRetry : Statement (.haltPowerRetry) := by
  rintro _ ⟨⟩

theorem Sized.dieLost (die : Nat) (dt : Nat) : Statement (.dieLost die dt) := by
  rintro _ ⟨⟩

theorem Sized.dieReloadForwarding (test : Nat) (dt : Nat) : Statement (.dieReloadForwarding test dt) := by
  rintro _ ⟨⟩

theorem Sized.pathOutputWrite (r : Req) : Statement (.pathOutputWrite r) := by
  rintro _ ⟨⟩ h; exact of_wf h

theorem Sized.pathOutputRead (r : Req) : Statement (.pathOutputRead r) := by
  rintro _ ⟨⟩ h; exact of_wf h

theorem Sized.pathMirrorWrite (r : Req) : Statement (.pathMirrorWrite r) := by
  rintro _ ⟨⟩ h; exact of_wf h

theorem Sized.pathMirrorRead (r : Req) : Statement (.pathMirrorRead r) := by
  rintro _ ⟨⟩ h; exact of_wf h

theorem Sized.poolLimitWrite (r : Req) : Statement (.poolLimitWrite r) := by
  rintro _ ⟨⟩ h; exact of_wf h

theorem Sized.poolLevelWrite (r : Req) : Statement (.poolLevelWrite r) := by
  rintro _ ⟨⟩ h; exact of_wf h

theorem Sized.poolConfigRead (r : Req) : Statement (.poolConfigRead r) := by
  rintro _ ⟨⟩ h; exact of_wf h

theorem Sized.poolStatsRead (r : Req) : Statement (.poolStatsRead r) := by
  rintro _ ⟨⟩ h; exact of_wf h

theorem Sized.poolErrlogRead (r : Req) : Statement (.poolErrlogRead r) := by
  rintro _ ⟨⟩ h; exact of_wf h

theorem Sized.poolCellRead (r : Req) : Statement (.poolCellRead r) := by
  rintro _ ⟨⟩ h; exact of_wf h

theorem Sized.rulePortWrite (r : Req) : Statement (.rulePortWrite r) := by
  rintro _ ⟨⟩ h; exact of_wf h

theorem Sized.ruleProgramLoad (r : Req) : Statement (.ruleProgramLoad r) := by
  rintro _ ⟨⟩ h; exact of_wf h

theorem Sized.ruleRangeWrite (r : Req) : Statement (.ruleRangeWrite r) := by
  rintro _ ⟨⟩ h; exact of_wf h

theorem Sized.ruleEntryWrite (r : Req) : Statement (.ruleEntryWrite r) := by
  rintro _ ⟨⟩ h; exact of_wf h

theorem Sized.ruleEntryRead (r : Req) : Statement (.ruleEntryRead r) := by
  rintro _ ⟨⟩ h; exact of_wf h

theorem Sized.ruleGroupWrite (r : Req) : Statement (.ruleGroupWrite r) := by
  rintro _ ⟨⟩ h; exact of_wf h

theorem Sized.ruleCommit (r : Req) : Statement (.ruleCommit r) := by
  rintro _ ⟨⟩ h; exact of_wf h

theorem Sized.ruleStatusRead (r : Req) : Statement (.ruleStatusRead r) := by
  rintro _ ⟨⟩ h; exact of_wf h

theorem Sized.ruleFragWrite (r : Req) : Statement (.ruleFragWrite r) := by
  rintro _ ⟨⟩ h; exact of_wf h

theorem Sized.ruleStatsRead (r : Req) : Statement (.ruleStatsRead r) := by
  rintro _ ⟨⟩ h; exact of_wf h

theorem Sized.rulePortRead (r : Req) : Statement (.rulePortRead r) := by
  rintro _ ⟨⟩ h; exact of_wf h

theorem Sized.ruleRangeRead (r : Req) : Statement (.ruleRangeRead r) := by
  rintro _ ⟨⟩ h; exact of_wf h

theorem Sized.ruleGroupRead (r : Req) : Statement (.ruleGroupRead r) := by
  rintro _ ⟨⟩ h; exact of_wf h

theorem Sized.fwdEntryWrite (r : Req) : Statement (.fwdEntryWrite r) := by
  rintro _ ⟨⟩ h; exact of_wf h

theorem Sized.fwdEntryRead (r : Req) : Statement (.fwdEntryRead r) := by
  rintro _ ⟨⟩ h; exact of_wf h

theorem Sized.fwdCommit (r : Req) : Statement (.fwdCommit r) := by
  rintro _ ⟨⟩ h; exact of_wf h

theorem Sized.fwdStatusRead (r : Req) : Statement (.fwdStatusRead r) := by
  rintro _ ⟨⟩ h; exact of_wf h

theorem Sized.fwdPortWrite (r : Req) : Statement (.fwdPortWrite r) := by
  rintro _ ⟨⟩ h; exact of_wf h

theorem Sized.fwdPortRead (r : Req) : Statement (.fwdPortRead r) := by
  rintro _ ⟨⟩ h; exact of_wf h

theorem Sized.fwdLearnWrite (r : Req) : Statement (.fwdLearnWrite r) := by
  rintro _ ⟨⟩ h; exact of_wf h

theorem Sized.fwdLearnFlush (r : Req) : Statement (.fwdLearnFlush r) := by
  rintro _ ⟨⟩ h; exact of_wf h

theorem Sized.fwdStatsRead (r : Req) : Statement (.fwdStatsRead r) := by
  rintro _ ⟨⟩ h; exact of_wf h

theorem Sized.frerFuncWrite (r : Req) : Statement (.frerFuncWrite r) := by
  rintro _ ⟨⟩ h; exact of_wf h

theorem Sized.frerFuncRead (r : Req) : Statement (.frerFuncRead r) := by
  rintro _ ⟨⟩ h; exact of_wf h

theorem Sized.frerReset (r : Req) : Statement (.frerReset r) := by
  rintro _ ⟨⟩ h; exact of_wf h

theorem Sized.zoneMapWrite (r : Req) : Statement (.zoneMapWrite r) := by
  rintro _ ⟨⟩ h; exact of_wf h

theorem Sized.zoneMapRead (r : Req) : Statement (.zoneMapRead r) := by
  rintro _ ⟨⟩ h; exact of_wf h

theorem Sized.zonePolicyWrite (r : Req) : Statement (.zonePolicyWrite r) := by
  rintro _ ⟨⟩ h; exact of_wf h

theorem Sized.zonePolicyRead (r : Req) : Statement (.zonePolicyRead r) := by
  rintro _ ⟨⟩ h; exact of_wf h

theorem Sized.zoneGwRead (r : Req) : Statement (.zoneGwRead r) := by
  rintro _ ⟨⟩ h; exact of_wf h

theorem Sized.zoneStatsRead (r : Req) : Statement (.zoneStatsRead r) := by
  rintro _ ⟨⟩ h; exact of_wf h

theorem Sized.meterWrite (r : Req) : Statement (.meterWrite r) := by
  rintro _ ⟨⟩ h; exact of_wf h

theorem Sized.meterRead (r : Req) : Statement (.meterRead r) := by
  rintro _ ⟨⟩ h; exact of_wf h

theorem Sized.meterFilterWrite (r : Req) : Statement (.meterFilterWrite r) := by
  rintro _ ⟨⟩ h; exact of_wf h

theorem Sized.meterFilterRead (r : Req) : Statement (.meterFilterRead r) := by
  rintro _ ⟨⟩ h; exact of_wf h

theorem Sized.meterStatsRead (r : Req) : Statement (.meterStatsRead r) := by
  rintro _ ⟨⟩ h; exact of_wf h

theorem Sized.meterUnblock (r : Req) : Statement (.meterUnblock r) := by
  rintro _ ⟨⟩ h; exact of_wf h

theorem Sized.gclConfigWrite (r : Req) : Statement (.gclConfigWrite r) := by
  rintro _ ⟨⟩ h; exact of_wf h

theorem Sized.gclListWrite (r : Req) : Statement (.gclListWrite r) := by
  rintro _ ⟨⟩ h; exact of_wf h

theorem Sized.gclPatternWrite (r : Req) : Statement (.gclPatternWrite r) := by
  rintro _ ⟨⟩ h; exact of_wf h

theorem Sized.gclCommit (r : Req) : Statement (.gclCommit r) := by
  rintro _ ⟨⟩ h; exact of_wf h

theorem Sized.gclCancel (r : Req) : Statement (.gclCancel r) := by
  rintro _ ⟨⟩ h; exact of_wf h

theorem Sized.gclRead (r : Req) : Statement (.gclRead r) := by
  rintro _ ⟨⟩ h; exact of_wf h

theorem Sized.gclStatusRead (r : Req) : Statement (.gclStatusRead r) := by
  rintro _ ⟨⟩ h; exact of_wf h

theorem Sized.gclCheck (r : Req) : Statement (.gclCheck r) := by
  rintro _ ⟨⟩ h; exact of_wf h

theorem Sized.shaperQueueWrite (r : Req) : Statement (.shaperQueueWrite r) := by
  rintro _ ⟨⟩ h; exact of_wf h

theorem Sized.shaperQueueRead (r : Req) : Statement (.shaperQueueRead r) := by
  rintro _ ⟨⟩ h; exact of_wf h

theorem Sized.shaperPreemptWrite (r : Req) : Statement (.shaperPreemptWrite r) := by
  rintro _ ⟨⟩ h; exact of_wf h

theorem Sized.shaperMmWrite (r : Req) : Statement (.shaperMmWrite r) := by
  rintro _ ⟨⟩ h; exact of_wf h

theorem Sized.shaperMmRead (r : Req) : Statement (.shaperMmRead r) := by
  rintro _ ⟨⟩ h; exact of_wf h

theorem Sized.qstatQueueRead (r : Req) : Statement (.qstatQueueRead r) := by
  rintro _ ⟨⟩ h; exact of_wf h

theorem Sized.qstatSamplerWrite (r : Req) : Statement (.qstatSamplerWrite r) := by
  rintro _ ⟨⟩ h; exact of_wf h

theorem Sized.qstatSamplerRead (r : Req) : Statement (.qstatSamplerRead r) := by
  rintro _ ⟨⟩ h; exact of_wf h

theorem Sized.timeRead (r : Req) : Statement (.timeRead r) := by
  rintro _ ⟨⟩ h; exact of_wf h

theorem Sized.timeSet (r : Req) : Statement (.timeSet r) := by
  rintro _ ⟨⟩ h; exact of_wf h

theorem Sized.timeAdjust (r : Req) : Statement (.timeAdjust r) := by
  rintro _ ⟨⟩ h; exact of_wf h

theorem Sized.timeConfigWrite (r : Req) : Statement (.timeConfigWrite r) := by
  rintro _ ⟨⟩ h; exact of_wf h

theorem Sized.timeConfigRead (r : Req) : Statement (.timeConfigRead r) := by
  rintro _ ⟨⟩ h; exact of_wf h

theorem Sized.timePortWrite (r : Req) : Statement (.timePortWrite r) := by
  rintro _ ⟨⟩ h; exact of_wf h

theorem Sized.timePortRead (r : Req) : Statement (.timePortRead r) := by
  rintro _ ⟨⟩ h; exact of_wf h

theorem Sized.timePpsRead (r : Req) : Statement (.timePpsRead r) := by
  rintro _ ⟨⟩ h; exact of_wf h

theorem Sized.portConfigWrite (r : Req) : Statement (.portConfigWrite r) := by
  rintro _ ⟨⟩ h; exact of_wf h

theorem Sized.portPlcaWrite (r : Req) : Statement (.portPlcaWrite r) := by
  rintro _ ⟨⟩ h; exact of_wf h

theorem Sized.portConfigRead (r : Req) : Statement (.portConfigRead r) := by
  rintro _ ⟨⟩ h; exact of_wf h

theorem Sized.portPlcaRead (r : Req) : Statement (.portPlcaRead r) := by
  rintro _ ⟨⟩ h; exact of_wf h

theorem Sized.portStatusRead (r : Req) : Statement (.portStatusRead r) := by
  rintro _ ⟨⟩ h; exact of_wf h

theorem Sized.portCableTest (r : Req) : Statement (.portCableTest r) := by
  rintro _ ⟨⟩ h; exact of_wf h

theorem Sized.macsecPortWrite (r : Req) : Statement (.macsecPortWrite r) := by
  rintro _ ⟨⟩ h; exact of_wf h

theorem Sized.macsecMkaWrite (r : Req) : Statement (.macsecMkaWrite r) := by
  rintro _ ⟨⟩ h; exact of_wf h

theorem Sized.macsecStatusRead (r : Req) : Statement (.macsecStatusRead r) := by
  rintro _ ⟨⟩ h; exact of_wf h

theorem Sized.edgeCanWrite (r : Req) : Statement (.edgeCanWrite r) := by
  rintro _ ⟨⟩ h; exact of_wf h

theorem Sized.edgeLinWrite (r : Req) : Statement (.edgeLinWrite r) := by
  rintro _ ⟨⟩ h; exact of_wf h

theorem Sized.edgeLinTableWrite (r : Req) : Statement (.edgeLinTableWrite r) := by
  rintro _ ⟨⟩ h; exact of_wf h

theorem Sized.edgeSerWrite (r : Req) : Statement (.edgeSerWrite r) := by
  rintro _ ⟨⟩ h; exact of_wf h

theorem Sized.edgeTableLoad (r : Req) : Statement (.edgeTableLoad r) := by
  rintro _ ⟨⟩ h; exact of_wf h

theorem Sized.edgeWakeWrite (r : Req) : Statement (.edgeWakeWrite r) := by
  rintro _ ⟨⟩ h; exact of_wf h

theorem Sized.edgeCanRecover (r : Req) : Statement (.edgeCanRecover r) := by
  rintro _ ⟨⟩ h; exact of_wf h

theorem Sized.edgeConfigRead (r : Req) : Statement (.edgeConfigRead r) := by
  rintro _ ⟨⟩ h; exact of_wf h

theorem Sized.edgeStatusRead (r : Req) : Statement (.edgeStatusRead r) := by
  rintro _ ⟨⟩ h; exact of_wf h

theorem Sized.gwBundleWrite (r : Req) : Statement (.gwBundleWrite r) := by
  rintro _ ⟨⟩ h; exact of_wf h

theorem Sized.gwUpWrite (r : Req) : Statement (.gwUpWrite r) := by
  rintro _ ⟨⟩ h; exact of_wf h

theorem Sized.gwDownWrite (r : Req) : Statement (.gwDownWrite r) := by
  rintro _ ⟨⟩ h; exact of_wf h

theorem Sized.gwPeriodicWrite (r : Req) : Statement (.gwPeriodicWrite r) := by
  rintro _ ⟨⟩ h; exact of_wf h

theorem Sized.gwPeriodicData (r : Req) : Statement (.gwPeriodicData r) := by
  rintro _ ⟨⟩ h; exact of_wf h

theorem Sized.gwRead (r : Req) : Statement (.gwRead r) := by
  rintro _ ⟨⟩ h; exact of_wf h

theorem Sized.gwStatsRead (r : Req) : Statement (.gwStatsRead r) := by
  rintro _ ⟨⟩ h; exact of_wf h

theorem Sized.coreStatusRead (r : Req) : Statement (.coreStatusRead r) := by
  rintro _ ⟨⟩ h; exact of_wf h

theorem Sized.coreSwitch (r : Req) : Statement (.coreSwitch r) := by
  rintro _ ⟨⟩ h; exact of_wf h

theorem Sized.coreGuardWrite (r : Req) : Statement (.coreGuardWrite r) := by
  rintro _ ⟨⟩ h; exact of_wf h

theorem Sized.coreGuardRead (r : Req) : Statement (.coreGuardRead r) := by
  rintro _ ⟨⟩ h; exact of_wf h

theorem Sized.coreStatsRead (r : Req) : Statement (.coreStatsRead r) := by
  rintro _ ⟨⟩ h; exact of_wf h

theorem Sized.coreRestart (r : Req) : Statement (.coreRestart r) := by
  rintro _ ⟨⟩ h; exact of_wf h

theorem Sized.coreSelftest (r : Req) : Statement (.coreSelftest r) := by
  rintro _ ⟨⟩ h; exact of_wf h

theorem Sized.coreDebug (r : Req) : Statement (.coreDebug r) := by
  rintro _ ⟨⟩ h; exact of_wf h

theorem Sized.hostEcho (r : Req) : Statement (.hostEcho r) := by
  rintro _ ⟨⟩ h; exact of_wf h

theorem Sized.hostVersionRead (r : Req) : Statement (.hostVersionRead r) := by
  rintro _ ⟨⟩ h; exact of_wf h

theorem Sized.hostLateLogRead (r : Req) : Statement (.hostLateLogRead r) := by
  rintro _ ⟨⟩ h; exact of_wf h

theorem Sized.hostRingStatsRead (r : Req) : Statement (.hostRingStatsRead r) := by
  rintro _ ⟨⟩ h; exact of_wf h

theorem Sized.sealCommit (r : Req) : Statement (.sealCommit r) := by
  rintro _ ⟨⟩ h; exact of_wf h

theorem Sized.sealStatusRead (r : Req) : Statement (.sealStatusRead r) := by
  rintro _ ⟨⟩ h; exact of_wf h

theorem Sized.diagRead (r : Req) : Statement (.diagRead r) := by
  rintro _ ⟨⟩ h; exact of_wf h

theorem Sized.faultStatusRead (r : Req) : Statement (.faultStatusRead r) := by
  rintro _ ⟨⟩ h; exact of_wf h

theorem Sized.faultLogRead (r : Req) : Statement (.faultLogRead r) := by
  rintro _ ⟨⟩ h; exact of_wf h

theorem Sized.faultLinkEnable (r : Req) : Statement (.faultLinkEnable r) := by
  rintro _ ⟨⟩ h; exact of_wf h

theorem Sized.faultDieReload (r : Req) : Statement (.faultDieReload r) := by
  rintro _ ⟨⟩ h; exact of_wf h

theorem Sized.faultReset (r : Req) : Statement (.faultReset r) := by
  rintro _ ⟨⟩ h; exact of_wf h

theorem Sized.maintStatusRead (r : Req) : Statement (.maintStatusRead r) := by
  rintro _ ⟨⟩ h; exact of_wf h

theorem Sized.maintExclWrite (r : Req) : Statement (.maintExclWrite r) := by
  rintro _ ⟨⟩ h; exact of_wf h

theorem Sized.stackStatusRead (r : Req) : Statement (.stackStatusRead r) := by
  rintro _ ⟨⟩ h; exact of_wf h

theorem Sized.stackRelay (r : Req) : Statement (.stackRelay r) := by
  rintro _ ⟨⟩ h; exact of_wf h

theorem Sized.stackDesignate (r : Req) : Statement (.stackDesignate r) := by
  rintro _ ⟨⟩ h; exact of_wf h

theorem Sized.imgStatusRead (r : Req) : Statement (.imgStatusRead r) := by
  rintro _ ⟨⟩ h; exact of_wf h

theorem Sized.imgBegin (r : Req) : Statement (.imgBegin r) := by
  rintro _ ⟨⟩ h; exact of_wf h

theorem Sized.imgWrite (r : Req) : Statement (.imgWrite r) := by
  rintro _ ⟨⟩ h; exact of_wf h

theorem Sized.imgVerify (r : Req) : Statement (.imgVerify r) := by
  rintro _ ⟨⟩ h; exact of_wf h

theorem Sized.imgPrepare (r : Req) : Statement (.imgPrepare r) := by
  rintro _ ⟨⟩ h; exact of_wf h

theorem Sized.imgHandover (r : Req) : Statement (.imgHandover r) := by
  rintro _ ⟨⟩ h; exact of_wf h

theorem Sized.imgConfirm (r : Req) : Statement (.imgConfirm r) := by
  rintro _ ⟨⟩ h; exact of_wf h

theorem Sized.imgRollback (r : Req) : Statement (.imgRollback r) := by
  rintro _ ⟨⟩ h; exact of_wf h

theorem Sized.imgReportRead (r : Req) : Statement (.imgReportRead r) := by
  rintro _ ⟨⟩ h; exact of_wf h

theorem Sized.keyStatusRead (r : Req) : Statement (.keyStatusRead r) := by
  rintro _ ⟨⟩ h; exact of_wf h

theorem Sized.keyProvision (r : Req) : Statement (.keyProvision r) := by
  rintro _ ⟨⟩ h; exact of_wf h

theorem Sized.keyGenerate (r : Req) : Statement (.keyGenerate r) := by
  rintro _ ⟨⟩ h; exact of_wf h

theorem Sized.keyImport (r : Req) : Statement (.keyImport r) := by
  rintro _ ⟨⟩ h; exact of_wf h

theorem Sized.keyDerive (r : Req) : Statement (.keyDerive r) := by
  rintro _ ⟨⟩ h; exact of_wf h

theorem Sized.keyDelete (r : Req) : Statement (.keyDelete r) := by
  rintro _ ⟨⟩ h; exact of_wf h

theorem Sized.keyInfoRead (r : Req) : Statement (.keyInfoRead r) := by
  rintro _ ⟨⟩ h; exact of_wf h

theorem Sized.keyTamperWrite (r : Req) : Statement (.keyTamperWrite r) := by
  rintro _ ⟨⟩ h; exact of_wf h

theorem Sized.keyTamperRead (r : Req) : Statement (.keyTamperRead r) := by
  rintro _ ⟨⟩ h; exact of_wf h

theorem Sized.keyVerifierWrite (r : Req) : Statement (.keyVerifierWrite r) := by
  rintro _ ⟨⟩ h; exact of_wf h

theorem Sized.keySession (r : Req) : Statement (.keySession r) := by
  rintro _ ⟨⟩ h; exact of_wf h

theorem Sized.cipherLock (r : Req) : Statement (.cipherLock r) := by
  rintro _ ⟨⟩ h; exact of_wf h

theorem Sized.cipherBlock (r : Req) : Statement (.cipherBlock r) := by
  rintro _ ⟨⟩ h; exact of_wf h

theorem Sized.cipherUnlock (r : Req) : Statement (.cipherUnlock r) := by
  rintro _ ⟨⟩ h; exact of_wf h

theorem Sized.cipherStatusRead (r : Req) : Statement (.cipherStatusRead r) := by
  rintro _ ⟨⟩ h; exact of_wf h

theorem Sized.powerStatusRead (r : Req) : Statement (.powerStatusRead r) := by
  rintro _ ⟨⟩ h; exact of_wf h

theorem Sized.powerSeqLoad (r : Req) : Statement (.powerSeqLoad r) := by
  rintro _ ⟨⟩ h; exact of_wf h

theorem Sized.powerConfigWrite (r : Req) : Statement (.powerConfigWrite r) := by
  rintro _ ⟨⟩ h; exact of_wf h

theorem Sized.powerLoadConfig (r : Req) : Statement (.powerLoadConfig r) := by
  rintro _ ⟨⟩ h; exact of_wf h

theorem Sized.powerLoadSet (r : Req) : Statement (.powerLoadSet r) := by
  rintro _ ⟨⟩ h; exact of_wf h

theorem Sized.powerRead (r : Req) : Statement (.powerRead r) := by
  rintro _ ⟨⟩ h; exact of_wf h

theorem Sized.paceCurveLoad (r : Req) : Statement (.paceCurveLoad r) := by
  rintro _ ⟨⟩ h; exact of_wf h

theorem Sized.paceConfigWrite (r : Req) : Statement (.paceConfigWrite r) := by
  rintro _ ⟨⟩ h; exact of_wf h

theorem Sized.paceStatusRead (r : Req) : Statement (.paceStatusRead r) := by
  rintro _ ⟨⟩ h; exact of_wf h

theorem Sized.paceRead (r : Req) : Statement (.paceRead r) := by
  rintro _ ⟨⟩ h; exact of_wf h

theorem Sized.wakePolicyWrite (r : Req) : Statement (.wakePolicyWrite r) := by
  rintro _ ⟨⟩ h; exact of_wf h

theorem Sized.wakeConfigWrite (r : Req) : Statement (.wakeConfigWrite r) := by
  rintro _ ⟨⟩ h; exact of_wf h

theorem Sized.wakeHold (r : Req) : Statement (.wakeHold r) := by
  rintro _ ⟨⟩ h; exact of_wf h

theorem Sized.wakeStatusRead (r : Req) : Statement (.wakeStatusRead r) := by
  rintro _ ⟨⟩ h; exact of_wf h

theorem Sized.wakeLogRead (r : Req) : Statement (.wakeLogRead r) := by
  rintro _ ⟨⟩ h; exact of_wf h

theorem Sized.wakeRead (r : Req) : Statement (.wakeRead r) := by
  rintro _ ⟨⟩ h; exact of_wf h

theorem Sized.wakePulseEnd (port : Nat) : Statement (.wakePulseEnd port) := by
  rintro _ ⟨⟩

theorem Sized.plcaBeaconTx (port : Nat) : Statement (.plcaBeaconTx port) := by
  rintro _ ⟨⟩

theorem Sized.mkaHelloTime (port : Nat) (heard : List (Nat × Nat)) : Statement (.mkaHelloTime port heard) := by
  rintro _ ⟨⟩

theorem Sized.servicePortLinkDown : Statement (.servicePortLinkDown) := by
  rintro _ ⟨⟩

theorem Sized.pcieLinkChange (die : Fab) (up : Bool) : Statement (.pcieLinkChange die up) := by
  rintro _ ⟨⟩

theorem Sized.aoSupplyLoss (dt : Nat) : Statement (.aoSupplyLoss dt) := by
  rintro _ ⟨⟩

theorem Sized.supplyNormal (volts : Nat) (dt : Nat) : Statement (.supplyNormal volts dt) := by
  rintro _ ⟨⟩

theorem Sized.coreBootTimeout : Statement (.coreBootTimeout) := by
  rintro _ ⟨⟩

theorem Sized.coreRestartFailed (core : Fab) (verify : Bool) : Statement (.coreRestartFailed core verify) := by
  rintro _ ⟨⟩

end Sys2Proof.Laws
end

