-- ==== Sys2Proof/Laws/Tbl.lean ====
section
/-! SUPPORT. Tables: what a write changes, and that it keeps the canonical form. -/

namespace Sys2Proof

theorem Tbl.get_ins {α : Type} (d : Nat → α) (t : Tbl α) (k j : Nat) (v : α) :
    Tbl.get d (Tbl.ins t k v) j = if j = k then v else Tbl.get d t j := by
  induction t with
  | nil => simp only [Tbl.ins, Tbl.get]; split <;> split <;> simp_all
  | cons e r ih =>
    obtain ⟨a, w⟩ := e
    unfold Tbl.ins
    split
    · grind [Tbl.get]
    · split
      · grind [Tbl.get]
      · grind [Tbl.get]

theorem Tbl.get_erase {α : Type} (d : Nat → α) (t : Tbl α) (k j : Nat) :
    Tbl.get d (t.filter fun e => e.1 != k) j = if j = k then d k else Tbl.get d t j := by
  induction t with
  | nil => simp only [List.filter_nil, Tbl.get]; split <;> simp_all
  | cons e r ih =>
    obtain ⟨a, w⟩ := e
    by_cases h : a = k
    · subst h
      simp only [List.filter_cons, bne_self_eq_false, Bool.false_eq_true, if_false, ih, Tbl.get]
      grind
    · have hk : (a != k) = true := by simpa using h
      simp only [List.filter_cons, hk, if_true, Tbl.get, ih]
      grind

/-- A table read after a write: the value written at its index, every other index as before. -/
theorem Tbl.get_put {α : Type} [DecidableEq α] (d : Nat → α) (t : Tbl α) (k j : Nat) (v : α) :
    Tbl.get d (Tbl.put d t k v) j = if j = k then v else Tbl.get d t j := by
  unfold Tbl.put
  split
  · rename_i h; rw [Tbl.get_erase, h]
  · exact Tbl.get_ins d t k j v

@[simp] theorem Tbl.get_put_self {α : Type} [DecidableEq α] (d : Nat → α) (t : Tbl α) (k : Nat) (v : α) :
    Tbl.get d (Tbl.put d t k v) k = v := by rw [Tbl.get_put, if_pos rfl]

theorem Tbl.get_put_ne {α : Type} [DecidableEq α] (d : Nat → α) (t : Tbl α) {k j : Nat} (v : α) (h : j ≠ k) :
    Tbl.get d (Tbl.put d t k v) j = Tbl.get d t j := by rw [Tbl.get_put, if_neg h]

@[simp] theorem Tbl.get_upd_self {α : Type} [DecidableEq α] (d : Nat → α) (t : Tbl α) (k : Nat) (f : α → α) :
    Tbl.get d (Tbl.upd d t k f) k = f (Tbl.get d t k) := Tbl.get_put_self _ _ _ _

theorem Tbl.get_upd_ne {α : Type} [DecidableEq α] (d : Nat → α) (t : Tbl α) {k j : Nat} (f : α → α) (h : j ≠ k) :
    Tbl.get d (Tbl.upd d t k f) j = Tbl.get d t j := Tbl.get_put_ne _ _ _ h

theorem Tbl.rising_mono {α : Type} {t : Tbl α} {a b : Nat} (h : Tbl.rising b t = true) (hab : a ≤ b) : Tbl.rising a t = true := by
  cases t with
  | nil => rfl
  | cons e r =>
    simp only [Tbl.rising, Bool.and_eq_true, decide_eq_true_eq] at h ⊢
    exact ⟨by omega, h.2⟩

theorem Tbl.rising_filter {α : Type} (p : Nat × α → Bool) {t : Tbl α} {a : Nat} (h : Tbl.rising a t = true) :
    Tbl.rising a (t.filter p) = true := by
  induction t generalizing a with
  | nil => rfl
  | cons e r ih =>
    obtain ⟨k, v⟩ := e
    simp only [Tbl.rising, Bool.and_eq_true, decide_eq_true_eq] at h
    rw [List.filter_cons]
    split
    · simp only [Tbl.rising, Bool.and_eq_true, decide_eq_true_eq]; exact ⟨h.1, ih h.2⟩
    · exact Tbl.rising_mono (ih h.2) (by omega)

theorem Tbl.rising_ins {α : Type} {t : Tbl α} {a k : Nat} (v : α) (h : Tbl.rising a t = true) (hk : a ≤ k) :
    Tbl.rising a (Tbl.ins t k v) = true := by
  induction t generalizing a with
  | nil => simpa [Tbl.ins, Tbl.rising] using hk
  | cons e r ih =>
    obtain ⟨b, w⟩ := e
    simp only [Tbl.rising, Bool.and_eq_true, decide_eq_true_eq] at h
    unfold Tbl.ins
    split
    · simp only [Tbl.rising, Bool.and_eq_true, decide_eq_true_eq]; exact ⟨hk, by omega, h.2⟩
    · split
      · rename_i hb; subst hb; simp only [Tbl.rising, Bool.and_eq_true, decide_eq_true_eq]; exact ⟨h.1, h.2⟩
      · simp only [Tbl.rising, Bool.and_eq_true, decide_eq_true_eq]; exact ⟨h.1, ih h.2 (by omega)⟩

theorem Tbl.lean_ins {α : Type} [DecidableEq α] (d : Nat → α) {t : Tbl α} {k : Nat} {v : α} (h : Tbl.lean d t = true)
    (hv : v ≠ d k) : Tbl.lean d (Tbl.ins t k v) = true := by
  induction t with
  | nil => simpa [Tbl.ins, Tbl.lean] using hv
  | cons e r ih =>
    obtain ⟨b, w⟩ := e
    simp only [Tbl.lean, List.all_cons, Bool.and_eq_true] at h ih
    unfold Tbl.ins
    split
    · simp only [Tbl.lean, List.all_cons, Bool.and_eq_true]; exact ⟨by simpa using hv, h⟩
    · split
      · simp only [Tbl.lean, List.all_cons, Bool.and_eq_true]; exact ⟨by simpa using hv, h.2⟩
      · simp only [Tbl.lean, List.all_cons, Bool.and_eq_true]; exact ⟨h.1, ih h.2⟩

/-- A write keeps the canonical form. -/
theorem Tbl.wf_put {α : Type} [DecidableEq α] (d : Nat → α) {t : Tbl α} (h : Tbl.wf d t = true) (k : Nat) (v : α) :
    Tbl.wf d (Tbl.put d t k v) = true := by
  simp only [Tbl.wf, Bool.and_eq_true] at h ⊢
  unfold Tbl.put
  split
  · exact ⟨Tbl.rising_filter _ h.1, by simp only [Tbl.lean, List.all_eq_true] at h ⊢; exact fun e he => h.2 e (List.mem_filter.mp he).1⟩
  · rename_i hv; exact ⟨Tbl.rising_ins v h.1 (Nat.zero_le k), Tbl.lean_ins d h.2 hv⟩

theorem Tbl.wf_upd {α : Type} [DecidableEq α] (d : Nat → α) {t : Tbl α} (h : Tbl.wf d t = true) (k : Nat) (f : α → α) :
    Tbl.wf d (Tbl.upd d t k f) = true := Tbl.wf_put d h k _

theorem Tbl.wf_puts {α : Type} [DecidableEq α] (d : Nat → α) {t : Tbl α} (h : Tbl.wf d t = true) (k : Nat) (vs : List α) :
    Tbl.wf d (Tbl.puts d t k vs) = true := by
  induction vs generalizing t k with
  | nil => exact h
  | cons v vs ih => exact ih (Tbl.wf_put d h k v) (k + 1)

/-- Entries written one after the other are read back, and every other index stays. -/
theorem Tbl.get_puts {α : Type} [DecidableEq α] (d : Nat → α) (t : Tbl α) (k : Nat) (vs : List α) (j : Nat) :
    Tbl.get d (Tbl.puts d t k vs) j = if h : k ≤ j ∧ j - k < vs.length then vs[j - k]'h.2 else Tbl.get d t j := by
  induction vs generalizing t k with
  | nil => simp [Tbl.puts]
  | cons v vs ih =>
    rw [Tbl.puts, ih]
    by_cases hj : j = k
    · subst hj; rw [dif_neg (by omega)]; simp
    · by_cases hk : k < j
      · have h1 : j - k = (j - (k + 1)) + 1 := by omega
        simp only [Tbl.get_put_ne d t v hj, List.length_cons]
        by_cases hl : j - (k + 1) < vs.length
        · rw [dif_pos ⟨by omega, hl⟩, dif_pos ⟨by omega, by omega⟩]
          simp [h1]
        · rw [dif_neg (by omega), dif_neg (by omega)]
      · rw [dif_neg (by omega), dif_neg (by omega), Tbl.get_put_ne d t v hj]

@[simp] theorem Tbl.length_gets {α : Type} (d : Nat → α) (t : Tbl α) (k n : Nat) : (Tbl.gets d t k n).length = n := by
  induction n generalizing k with
  | zero => rfl
  | succ n ih => simp [Tbl.gets, ih]

@[simp] theorem Tbl.getElem_gets {α : Type} (d : Nat → α) (t : Tbl α) (k n i : Nat) (h : i < (Tbl.gets d t k n).length) :
    (Tbl.gets d t k n)[i] = Tbl.get d t (k + i) := by
  induction n generalizing k i with
  | zero => simp [Tbl.gets] at h
  | succ n ih =>
    cases i with
    | zero => rfl
    | succ i =>
      simp only [Tbl.gets, List.getElem_cons_succ]
      rw [ih]
      congr 1
      omega

theorem Tbl.wf_nil {α : Type} [DecidableEq α] (d : Nat → α) : Tbl.wf d ([] : Tbl α) = true := rfl

end Sys2Proof
end

