-- ==== Sys2Proof/Laws/Served.lean ====
section
/-! SUPPORT. What a served mailbox request does besides its execution: the response, and what the protocol leaves. -/

namespace Sys2Proof.Machine

theorem State.path_of_lines {s t : State} (h : t.lines = s.lines) (p : Path) :
    (t.path p).waiting = (s.path p).waiting ∧ (t.path p).fifo = (s.path p).fifo ∧ (t.path p).held = (s.path p).held := by
  have := congrFun h p
  simp only [State.lines, Prod.mk.injEq] at this
  exact ⟨this.1, this.2.1, this.2.2.1⟩

theorem State.running_of_lines {s t : State} (h : t.lines = s.lines) (p : Path) : (t.path p).running = (s.path p).running := by
  have := congrFun h p
  simp only [State.lines, Prod.mk.injEq] at this
  exact this.2.2.2

theorem Path.isHost_pcie {p : Path} (h : p ≠ .service) (h1 : p ≠ .image) (h2 : p ≠ .relay) : p.isPcie = true ∨ p = .spi := by
  cases p <;> simp_all [Path.isPcie]

/-- An undefined opcode cannot be answered where nothing waits. -/
theorem State.answerBad_nil (s : State) (p : Path) (n : Nat) (h : (s.path p).waiting = []) : s.answerBad p n = s := by
  cases n with
  | zero => rfl
  | succ n => unfold State.answerBad; rw [h]

theorem State.freeBufs_path (s : State) (bufs : List (Fab × Nat × Nat)) (p : Path) :
    ((s.freeBufs bufs).path p).waiting = (s.path p).waiting ∧ ((s.freeBufs bufs).path p).fifo = (s.path p).fifo ∧
      ((s.freeBufs bufs).path p).held = (s.path p).held := State.path_of_lines (State.freeBufs_lines s bufs) p

theorem State.fifoPut_path (s : State) (p : Path) (ws : List Word) :
    ((s.fifoPut p ws).path p).fifo = (s.path p).fifo ++ ws ∧ ((s.fifoPut p ws).path p).waiting = (s.path p).waiting := by
  have h := State.path_of_lines (State.raiseHost_lines (s.modPath p fun q => { q with fifo := q.fifo ++ ws }) p .rspReady) p
  unfold State.fifoPut
  dsimp only
  split
  · have h2 := State.path_of_lines
      (State.raiseHost_lines ((s.modPath p fun q => { q with fifo := q.fifo ++ ws }).raiseHost p .rspReady) p .rspLevel) p
    rw [h2.1, h2.2.1, h.1, h.2.1, State.path_modPath]; exact ⟨rfl, rfl⟩
  · rw [h.1, h.2.1, State.path_modPath]; exact ⟨rfl, rfl⟩

/-- Placing a response leaves the requests that wait. -/
theorem State.place_waiting (s : State) (pd : Pend) (i : Bool) (ws : List Word) :
    ((s.place pd i ws).path pd.req.path).waiting = (s.path pd.req.path).waiting := by
  unfold State.place
  dsimp only
  split
  · rename_i h
    rw [h]
    exact (State.freeBufs_path s pd.bufs .service).1
  · rename_i h; rw [h, State.path_modPath]
  · rename_i h; rw [h, State.path_modPath]
  · split
    · rw [(State.fifoPut_path _ _ _).2]; exact (State.freeBufs_path s pd.bufs _).1
    · rw [State.path_modPath]

theorem State.respond_waiting (s : State) (pd : Pend) (c : Code) (pl : List Word) (cs : List Clamp) (i : Bool) :
    ((s.respond pd c pl cs i).path pd.req.path).waiting = (s.path pd.req.path).waiting := by
  unfold State.respond
  split
  · exact (State.freeBufs_path s pd.bufs _).1
  · exact State.place_waiting _ _ _ _

/-- A response that is given goes out on its path. -/
theorem State.told_of_respond (s0 s : State) (pd : Pend) (c : Code) (pl : List Word) (cs : List Clamp) (i : Bool)
    (hd : pd.drop = false) (hq : pd.req.flags = 0) (hf : (s.path pd.req.path).fifo = (s0.path pd.req.path).fifo)
    (hh : (s.path pd.req.path).held = []) :
    s0.told (s.respond pd c pl cs i) pd.req (responseWords pd.opcode pd.req.tag c pl cs) := by
  have hr : s.respond pd c pl cs i = s.place pd i (responseWords pd.opcode pd.req.tag c pl cs) := by
    simp [State.respond, hd, hq]
  rw [hr]
  generalize responseWords pd.opcode pd.req.tag c pl cs = ws
  unfold State.told State.place
  dsimp only
  cases hp : pd.req.path
  case service => exact ⟨pd.seq, by simp [State.emit]⟩
  case image => rw [State.path_modPath]
  case relay => rw [State.path_modPath]
  all_goals
    simp only
    rw [hp] at hf hh
    intro hl
    rw [if_pos (by unfold PathSt.fits; rw [hh, hf]; simpa using hl), (State.fifoPut_path _ _ _).1, (State.freeBufs_path s pd.bufs _).2.1, hf]

/-- The journal of a request that changed state leaves the queues of every path. -/
theorem State.recorded_lines (s : State) (op : Nat) (r : Req) (a b : List Word) (ks : List Nat) :
    ((((s.written op r).journal 1 a).mirrorOut ks).journal 2 b).lines = s.lines := by simp

/-- The journal of a request that changed state leaves every slice but cores, seal, start-up and pools. -/
theorem State.recorded_wide (s : State) (op : Nat) (r : Req) (a b : List Word) (ks : List Nat) :
    ((((s.written op r).journal 1 a).mirrorOut ks).journal 2 b).wide = s.wide := by simp

/-- The checks of a plain request lead to its execution. -/
theorem CmdSpec.judge_plain (sp : CmdSpec) (r : Req) (s : State) (h : sp.plain r s) (hf : r.flags = 0)
    (hl : (sp.run r s).later = false) (hc : (sp.run r s).code = .done) (hn : (sp.run r s).clamps = []) :
    sp.judge r s = ({ sp.run r s with code := .done }, []) := by
  obtain ⟨h1, h2, h3, h4, h5⟩ := h
  have hr : ({ r with words := ({ words := r.words } : Checked).words } : Req) = r := rfl
  unfold CmdSpec.judge
  rw [h1, h2, h3, h4, h5]
  simp only [hr, hl, hc, hn]
  simp [flagClamps, hf]

/-- What a request that the core takes and that passes its checks does: the execution, then its journal where it changes
state, then the response DONE. -/
theorem mailbox_plain (sp : CmdSpec) (r : Req) (s : State) (hs : s.serves sp.opcode r) (hp : sp.plain r (s.taken r.path))
    (hl : (sp.run r (s.taken r.path)).later = false) (hc : (sp.run r (s.taken r.path)).code = .done)
    (hn : (sp.run r (s.taken r.path)).clamps = [])
    (hk : (sp.run r (s.taken r.path)).st.lines = (s.taken r.path).lines) :
    (mailbox sp r s).wide = (sp.run r (s.taken r.path)).st.wide ∧ (mailbox sp r s).deep = (sp.run r (s.taken r.path)).st.deep ∧
      s.told (mailbox sp r s) r (responseWords sp.opcode r.tag .done (sp.run r (s.taken r.path)).payload []) := by
  obtain ⟨hfl, ⟨sq, bufs, hw⟩, hrun, hheld, hpr, hg, hrs, hcu, hlk, hact, hhalt⟩ := hs
  have hloc : r.isLocal = false := by simp [Req.isLocal, hfl]
  have htarget : s.target r = s.pair.active := by simp [State.target, hloc]
  have hgo : s.serveHow sp r = .go := by
    simp [State.serveHow, hloc, htarget, hpr, hg, hrs, hcu, hlk, hact, hhalt]
  let pd : Pend := { opcode := sp.opcode, req := r, seq := sq, bufs := bufs }
  have hw' : (s.path r.path).waiting = [pd] := hw
  have hready : (s.path r.path).ready = true := by simp [PathSt.ready, hrun, hheld]
  have hhead : (s.path r.path).headIs sp.opcode r = true := by simp [PathSt.headIs, hw]
  have hserve : sp.serve r s = sp.take pd s := by
    unfold CmdSpec.serve
    rw [hw']
    simp [hready, hgo, pd]
  have htw : ((s.taken r.path).path r.path).waiting = [] := by simp [State.taken, State.path_modPath, hw]
  have htf : ((s.taken r.path).path r.path).fifo = (s.path r.path).fifo := by simp [State.taken, State.path_modPath]
  have hth : ((s.taken r.path).path r.path).held = [] := by simp [State.taken, State.path_modPath, hheld]
  have hj := sp.judge_plain r (s.taken r.path) hp hfl hl hc hn
  have hx := State.path_of_lines hk r.path
  have htake : ∃ u : State, sp.take pd s = u.respond pd .done (sp.run r (s.taken r.path)).payload [] (sp.changes r) ∧
      u.lines = (sp.run r (s.taken r.path)).st.lines ∧ u.wide = (sp.run r (s.taken r.path)).st.wide ∧
      u.deep = (sp.run r (s.taken r.path)).st.deep := by
    have hj' : sp.judge pd.req (s.modPath pd.req.path fun q => { q with waiting := q.waiting.drop 1 }) =
      ({ sp.run r (s.taken r.path) with code := .done }, []) := hj
    unfold CmdSpec.take
    simp only [hj', hl]
    cases hch : sp.changes r
    · exact ⟨(sp.run r (s.taken r.path)).st, by simp [pd], rfl, rfl, rfl⟩
    · refine ⟨_, by simp [pd]; rfl, ?_, ?_, ?_⟩
      · simp
      · simp
      · simp
  obtain ⟨u, hu, hul, huw, hud⟩ := htake
  have hup := State.path_of_lines hul r.path
  have hresw : ((sp.take pd s).path r.path).waiting = [] := by
    rw [hu]
    have := State.respond_waiting u pd .done (sp.run r (s.taken r.path)).payload [] (sp.changes r)
    simp only [pd] at this
    rw [this, hup.1, hx.1, htw]
  have hm : mailbox sp r s = sp.take pd s := by
    unfold mailbox
    rw [hhead]
    simp only [if_true]
    rw [hserve, State.answerBad_nil _ _ _ hresw]
  rw [hm]
  refine ⟨?_, ?_, ?_⟩
  · rw [hu]; simp [huw]
  · rw [hu]; simp [hud]
  · rw [hu]
    exact State.told_of_respond s u pd .done _ [] _ rfl hfl (by simp only [pd]; rw [hup.2.1, hx.2.1, htf]) (by simp only [pd]; rw [hup.2.2, hx.2.2, hth])

/-- What a request whose response follows later does: the execution, the path that it holds, and its intent record. -/
theorem mailbox_later (sp : CmdSpec) (r : Req) (s : State) (hs : s.serves sp.opcode r) (hp : sp.plain r (s.taken r.path))
    (hl : (sp.run r (s.taken r.path)).later = true) (hk : (sp.run r (s.taken r.path)).st.lines = (s.taken r.path).lines) :
    (mailbox sp r s).wide = (sp.run r (s.taken r.path)).st.wide ∧ (mailbox sp r s).deep = (sp.run r (s.taken r.path)).st.deep ∧
      ∃ k, ((mailbox sp r s).path r.path).running = some k ∧ k.pend.req = r ∧ k.orphan = false := by
  obtain ⟨hfl, ⟨sq, bufs, hw⟩, hrun, hheld, hpr, hg, hrs, hcu, hlk, hact, hhalt⟩ := hs
  have hloc : r.isLocal = false := by simp [Req.isLocal, hfl]
  have htarget : s.target r = s.pair.active := by simp [State.target, hloc]
  have hgo : s.serveHow sp r = .go := by
    simp [State.serveHow, hloc, htarget, hpr, hg, hrs, hcu, hlk, hact, hhalt]
  let pd : Pend := { opcode := sp.opcode, req := r, seq := sq, bufs := bufs }
  have hw' : (s.path r.path).waiting = [pd] := hw
  have hready : (s.path r.path).ready = true := by simp [PathSt.ready, hrun, hheld]
  have hhead : (s.path r.path).headIs sp.opcode r = true := by simp [PathSt.headIs, hw]
  have hserve : sp.serve r s = sp.take pd s := by
    unfold CmdSpec.serve
    rw [hw']
    simp [hready, hgo, pd]
  have htw : ((s.taken r.path).path r.path).waiting = [] := by simp [State.taken, State.path_modPath, hw]
  have hx := State.path_of_lines hk r.path
  have hj' : (sp.judge pd.req (s.modPath pd.req.path fun q => { q with waiting := q.waiting.drop 1 })).1 =
      sp.run r (s.taken r.path) := by
    obtain ⟨h1, h2, h3, h4, h5⟩ := hp
    have hr : ({ r with words := ({ words := r.words } : Checked).words } : Req) = r := rfl
    show (sp.judge r (s.taken r.path)).1 = _
    unfold CmdSpec.judge
    rw [h1, h2, h3, h4, h5]
    simp only [hr, hl]
    simp
  generalize hcl : (sp.judge pd.req (s.modPath pd.req.path fun q => { q with waiting := q.waiting.drop 1 })).2 = cl at *
  have htake : ∃ u : State, u = ((sp.run r (s.taken r.path)).st.modPath r.path fun q =>
        { q with running := some { pend := pd, clamps := cl, used := r.words, intent := sp.changes r } }) ∧
      (sp.take pd s).lines = u.lines ∧ (sp.take pd s).wide = u.wide ∧ (sp.take pd s).deep = u.deep := by
    refine ⟨_, rfl, ?_, ?_, ?_⟩
    · unfold CmdSpec.take
      simp only [hj', hcl, hl, if_true]
      split <;> simp [pd]
    · unfold CmdSpec.take
      simp only [hj', hcl, hl, if_true]
      split <;> simp
    · unfold CmdSpec.take
      simp only [hj', hcl, hl, if_true]
      split <;> simp
  obtain ⟨u, hu, hul, huw, hud⟩ := htake
  have hup := State.path_of_lines hul r.path
  have hresw : ((sp.take pd s).path r.path).waiting = [] := by
    rw [hup.1, hu, State.path_modPath]
    show ((sp.run r (s.taken r.path)).st.path r.path).waiting = []
    rw [hx.1, htw]
  have hm : mailbox sp r s = sp.take pd s := by
    unfold mailbox
    rw [hhead]
    simp only [if_true]
    rw [hserve, State.answerBad_nil _ _ _ hresw]
  rw [hm]
  refine ⟨by rw [huw, hu]; simp, by rw [hud, hu]; simp, ?_⟩
  rw [State.running_of_lines hul, hu, State.path_modPath]
  exact ⟨_, rfl, rfl, rfl⟩

/-! ### Slices of states that agree -/

theorem State.pending_of_wide {s t : State} (h : t.wide = s.wide) : t.pending = s.pending := congrArg Slices.pending h

theorem State.locks_of_wide {s t : State} (h : t.wide = s.wide) : t.locks = s.locks := congrArg Slices.locks h

theorem State.tim_of_wide {s t : State} (h : t.wide = s.wide) : t.tim = s.tim := congrArg Slices.tim h

theorem State.tab_of_wide {s t : State} (h : t.wide = s.wide) : t.tab = s.tab := congrArg Slices.tab h

theorem State.zon_of_wide {s t : State} (h : t.wide = s.wide) : t.zon = s.zon := congrArg Slices.zon h

theorem State.egr_of_wide {s t : State} (h : t.wide = s.wide) : t.egr = s.egr := congrArg Slices.egr h

theorem State.ports_of_wide {s t : State} (h : t.wide = s.wide) : t.ports = s.ports := congrArg Slices.ports h

theorem State.stk_of_wide {s t : State} (h : t.wide = s.wide) : t.stk = s.stk := congrArg Slices.stk h

theorem State.gw_of_wide {s t : State} (h : t.wide = s.wide) : t.gw = s.gw := congrArg Slices.gw h

theorem State.img_of_wide {s t : State} (h : t.wide = s.wide) : t.img = s.img := congrArg Slices.img h

theorem State.pow_of_wide {s t : State} (h : t.wide = s.wide) : t.pow = s.pow := congrArg Slices.pow h

theorem State.key_of_wide {s t : State} (h : t.wide = s.wide) : t.key = s.key := congrArg Slices.key h

theorem State.edge_of_wide {s t : State} (h : t.wide = s.wide) : t.edge = s.edge := congrArg Slices.edge h

theorem State.fabW_of_wide {s t : State} (h : t.wide = s.wide) : t.fabW = s.fabW := congrArg Slices.fabW h

theorem State.fabE_of_wide {s t : State} (h : t.wide = s.wide) : t.fabE = s.fabE := congrArg Slices.fabE h

theorem State.free_of_wide {s t : State} (h : t.wide = s.wide) : t.free = s.free := congrArg Slices.free h

theorem State.fab_of_wide {s t : State} (h : t.wide = s.wide) (d : Fab) : t.fab d = s.fab d := by
  cases d
  · exact State.fabW_of_wide h
  · exact State.fabE_of_wide h

theorem State.port_of_wide {s t : State} (h : t.wide = s.wide) (p : Nat) : t.port p = s.port p := by
  unfold State.port; rw [State.ports_of_wide h]

theorem State.pairRest_of_deep {s t : State} (h : t.deep = s.deep) : t.pair.rest = s.pair.rest := congrArg (·.1) h

theorem State.sysRest_of_deep {s t : State} (h : t.deep = s.deep) : t.sys.rest = s.sys.rest := congrArg (·.2.1) h

theorem State.sealRest_of_deep {s t : State} (h : t.deep = s.deep) : t.sealSt.rest = s.sealSt.rest := congrArg (·.2.2.1) h

theorem State.poolRest_of_deep {s t : State} (h : t.deep = s.deep) (d : Fab) : (t.pool d).rest = (s.pool d).rest := by
  cases d
  · exact congrArg (·.2.2.2.1) h
  · exact congrArg (·.2.2.2.2) h

/-! ### The request taken from its path -/

@[simp] theorem State.taken_pending (s : State) (p : Path) : (s.taken p).pending = s.pending := (rfl)

@[simp] theorem State.taken_locks (s : State) (p : Path) : (s.taken p).locks = s.locks := (rfl)

@[simp] theorem State.taken_sealSt (s : State) (p : Path) : (s.taken p).sealSt = s.sealSt := (rfl)

@[simp] theorem State.taken_pair (s : State) (p : Path) : (s.taken p).pair = s.pair := (rfl)

@[simp] theorem State.taken_sys (s : State) (p : Path) : (s.taken p).sys = s.sys := (rfl)

@[simp] theorem State.taken_tim (s : State) (p : Path) : (s.taken p).tim = s.tim := (rfl)

@[simp] theorem State.taken_poolW (s : State) (p : Path) : (s.taken p).poolW = s.poolW := (rfl)

@[simp] theorem State.taken_poolE (s : State) (p : Path) : (s.taken p).poolE = s.poolE := (rfl)

@[simp] theorem State.taken_tab (s : State) (p : Path) : (s.taken p).tab = s.tab := (rfl)

@[simp] theorem State.taken_zon (s : State) (p : Path) : (s.taken p).zon = s.zon := (rfl)

@[simp] theorem State.taken_egr (s : State) (p : Path) : (s.taken p).egr = s.egr := (rfl)

@[simp] theorem State.taken_ports (s : State) (p : Path) : (s.taken p).ports = s.ports := (rfl)

@[simp] theorem State.taken_stk (s : State) (p : Path) : (s.taken p).stk = s.stk := (rfl)

@[simp] theorem State.taken_gw (s : State) (p : Path) : (s.taken p).gw = s.gw := (rfl)

@[simp] theorem State.taken_img (s : State) (p : Path) : (s.taken p).img = s.img := (rfl)

@[simp] theorem State.taken_pow (s : State) (p : Path) : (s.taken p).pow = s.pow := (rfl)

@[simp] theorem State.taken_key (s : State) (p : Path) : (s.taken p).key = s.key := (rfl)

@[simp] theorem State.taken_edge (s : State) (p : Path) : (s.taken p).edge = s.edge := (rfl)

@[simp] theorem State.taken_fabW (s : State) (p : Path) : (s.taken p).fabW = s.fabW := (rfl)

@[simp] theorem State.taken_fabE (s : State) (p : Path) : (s.taken p).fabE = s.fabE := (rfl)

@[simp] theorem State.taken_out (s : State) (p : Path) : (s.taken p).out = s.out := (rfl)

@[simp] theorem State.taken_free (s : State) (p : Path) : (s.taken p).free = s.free := (rfl)

@[simp] theorem State.taken_fab (s : State) (p : Path) (d : Fab) : (s.taken p).fab d = s.fab d := by cases d <;> rfl

@[simp] theorem State.taken_pool (s : State) (p : Path) (d : Fab) : (s.taken p).pool d = s.pool d := by cases d <;> rfl

@[simp] theorem State.taken_core (s : State) (p : Path) (d : Fab) : (s.taken p).core d = s.core d := (rfl)

@[simp] theorem State.taken_port (s : State) (p : Path) (n : Nat) : (s.taken p).port n = s.port n := (rfl)

@[simp ↓] theorem State.taken_wide (s : State) (p : Path) : (s.taken p).wide = s.wide := (rfl)

@[simp ↓] theorem State.taken_deep (s : State) (p : Path) : (s.taken p).deep = s.deep := (rfl)

/-! ### Slices that were just modified -/

@[simp] theorem State.fab_modFab_self (s : State) (d : Fab) (f : FabSt → FabSt) : (s.modFab d f).fab d = f (s.fab d) := by cases d <;> rfl

@[simp] theorem State.pool_modPool_self (s : State) (d : Fab) (f : PoolSt → PoolSt) : (s.modPool d f).pool d = f (s.pool d) := by cases d <;> rfl

/-- Both fabric dies change alike. -/
@[simp] theorem State.fab_modFab_both (s : State) (d : Fab) (f : FabSt → FabSt) :
    ((s.modFab .west f).modFab .east f).fab d = f (s.fab d) := by cases d <;> rfl

theorem State.gate_modGate (s : State) (p q : Nat) (f : GateSt → GateSt) : (s.modGate p f).gate q = if q = p then f (s.gate q) else s.gate q := by
  show Tbl.get _ (Tbl.upd _ _ _ _) _ = _
  unfold Tbl.upd
  rw [Tbl.get_put]
  split
  · rename_i h; rw [h]; rfl
  · rfl

theorem State.mm_modMm (s : State) (p q : Nat) (f : MmSt → MmSt) : (s.modMm p f).mm q = if q = p then f (s.mm q) else s.mm q := by
  show Tbl.get _ (Tbl.upd _ _ _ _) _ = _
  unfold Tbl.upd
  rw [Tbl.get_put]
  split
  · rename_i h; rw [h]; rfl
  · rfl

theorem State.port_modPort (s : State) (p q : Nat) (f : PortSt → PortSt) : (s.modPort p f).port q = if q = p then f (s.port q) else s.port q := by
  show Tbl.get _ (Tbl.upd _ _ _ _) _ = _
  unfold Tbl.upd
  rw [Tbl.get_put]
  split
  · rename_i h; rw [h]; rfl
  · rfl

theorem State.gate_of_wide {s t : State} (h : t.wide = s.wide) (p : Nat) : t.gate p = s.gate p := by
  unfold State.gate; rw [State.egr_of_wide h]

theorem State.mm_of_wide {s t : State} (h : t.wide = s.wide) (p : Nat) : t.mm p = s.mm p := by
  unfold State.mm; rw [State.egr_of_wide h]

@[simp] theorem State.taken_gate (s : State) (p : Path) (n : Nat) : (s.taken p).gate n = s.gate n := (rfl)

@[simp] theorem State.taken_mm (s : State) (p : Path) (n : Nat) : (s.taken p).mm n = s.mm n := (rfl)

/-- A change of the admin bank leaves the operating list. -/
@[simp] theorem GateSt.modAdmin_oper (g : GateSt) (f : GateBank → GateBank) : (g.modAdmin f).oper = g.oper := by
  simp only [GateSt.modAdmin, GateSt.oper, GateSt.bankAt]
  rcases Nat.mod_two_eq_zero_or_one g.bank with h | h <;> simp [h]

@[simp] theorem GateSt.modAdmin_admin (g : GateSt) (f : GateBank → GateBank) : (g.modAdmin f).admin = f g.admin := by
  simp only [GateSt.modAdmin, GateSt.admin, GateSt.bankAt]
  rcases Nat.mod_two_eq_zero_or_one g.bank with h | h <;> simp [h, Nat.add_mod]

@[simp] theorem State.taken_has (s : State) (p : Path) (n : Nat) : (s.taken p).has n = s.has n := (rfl)

/-- One change per port of a list. -/
theorem State.gate_foldl (f : Nat → GateSt → GateSt) (ps : List Nat) (hn : ps.Nodup) (s : State) (p : Nat) :
    (ps.foldl (fun t q => t.modGate q (f q)) s).gate p = if p ∈ ps then f p (s.gate p) else s.gate p := by
  induction ps generalizing s with
  | nil => simp
  | cons q qs ih =>
    simp only [List.nodup_cons] at hn
    simp only [List.foldl_cons]
    rw [ih hn.2, State.gate_modGate]
    by_cases h : p = q
    · subst h; simp [hn.1]
    · by_cases h2 : p ∈ qs
      · simp [h, h2]
      · simp [h, h2]

/-! ### What a command leaves, whatever it meets -/

/-- Taking a request in touches one slice at most: the instant of the depot session's last request. -/
theorem State.submit_wide (s : State) (op : Nat) (r : Req) : (s.submit op r).wide = s.wide ∨
    (s.submit op r).wide = { s.wide with key := { s.key with sessionAt := s.tim.ticks } } := by
  have hu : ∀ u : State, u.wide = (if r.path = .service then s.modKey fun k => { k with sessionAt := s.tim.ticks } else s).wide →
      u.wide = s.wide ∨ u.wide = { s.wide with key := { s.key with sessionAt := s.tim.ticks } } := by
    intro u h
    rw [h]
    split
    · exact .inr rfl
    · exact .inl rfl
  unfold State.submit
  dsimp only
  split
  · exact .inl (by simp)
  split
  · exact .inl rfl
  split
  · left; split <;> simp
  split
  · exact .inl (by simp)
  refine hu _ ?_
  generalize (if r.path = .service then s.modKey fun k => { k with sessionAt := s.tim.ticks } else s) = v
  split
  · simp
  split
  · simp
  split <;> rename_i h
  · have := State.requestBufs_wide' _ _ _ _ h; simpa using this
  · have := State.requestBufs_wide' _ _ _ _ h; simpa using this

/-- A relation of slices that holds of every execution holds of the whole command, when it is reflexive and does not see the instant of
the depot session's last request. -/
theorem mailbox_slices (R : Slices → Slices → Prop) (refl : ∀ x, R x x)
    (sess : ∀ x y k, R { x with key := { x.key with sessionAt := k } } y → R x y)
    (sp : CmdSpec) (h : ∀ r s, R s.wide (sp.run r s).st.wide) (r : Req) (s : State) : R s.wide (mailbox sp r s).wide := by
  have hj (r : Req) (s : State) : R s.wide (sp.judge r s).1.st.wide := by
    unfold CmdSpec.judge
    dsimp only
    repeat' split
    all_goals first | exact refl _ | exact h _ _
  have ht (pd : Pend) (s : State) : R s.wide (sp.take pd s).wide := by
    have := hj pd.req (s.modPath pd.req.path fun q => { q with waiting := q.waiting.drop 1 })
    unfold CmdSpec.take
    dsimp only
    repeat' split
    all_goals simpa using this
  have hs (s : State) : R s.wide (sp.serve r s).wide := by
    unfold CmdSpec.serve
    repeat' split
    all_goals first | exact refl _ | exact ht _ _ | simpa using refl _
  unfold mailbox
  split
  · simpa using hs s
  · have h2 := hs (s.submit sp.opcode r)
    rcases s.submit_wide sp.opcode r with e | e
    · rw [e] at h2; simpa using h2
    · rw [e] at h2; simpa using sess _ _ _ h2

/-- A command that is turned away by its checks answers a code and leaves every slice. -/
theorem mailbox_turned (sp : CmdSpec) (r : Req) (s : State) (code : Code) (hs : s.serves sp.opcode r) (hn : code ≠ .done)
    (hn2 : code ≠ .clamped) (hj : sp.judge r (s.taken r.path) = (.fail (s.taken r.path) code, [])) :
    (mailbox sp r s).wide = s.wide ∧ s.told (mailbox sp r s) r (responseWords sp.opcode r.tag code [] []) := by
  obtain ⟨hfl, ⟨sq, bufs, hw⟩, hrun, hheld, hpr, hg, hrs, hcu, hlk, hact, hhalt⟩ := hs
  have hloc : r.isLocal = false := by simp [Req.isLocal, hfl]
  have htarget : s.target r = s.pair.active := by simp [State.target, hloc]
  have hgo : s.serveHow sp r = .go := by
    simp [State.serveHow, hloc, htarget, hpr, hg, hrs, hcu, hlk, hact, hhalt]
  let pd : Pend := { opcode := sp.opcode, req := r, seq := sq, bufs := bufs }
  have hw' : (s.path r.path).waiting = [pd] := hw
  have hready : (s.path r.path).ready = true := by simp [PathSt.ready, hrun, hheld]
  have hhead : (s.path r.path).headIs sp.opcode r = true := by simp [PathSt.headIs, hw]
  have hserve : sp.serve r s = sp.take pd s := by
    unfold CmdSpec.serve
    rw [hw']
    simp [hready, hgo, pd]
  have htw : ((s.taken r.path).path r.path).waiting = [] := by simp [State.taken, State.path_modPath, hw]
  have htf : ((s.taken r.path).path r.path).fifo = (s.path r.path).fifo := by simp [State.taken, State.path_modPath]
  have hth : ((s.taken r.path).path r.path).held = [] := by simp [State.taken, State.path_modPath, hheld]
  have htake : sp.take pd s = (s.taken r.path).respond pd code [] [] false := by
    have hj' : sp.judge pd.req (s.modPath pd.req.path fun q => { q with waiting := q.waiting.drop 1 }) =
      (.fail (s.taken r.path) code, []) := hj
    have e : (code == Code.done || code == Code.clamped) = false := by cases code <;> simp_all
    unfold CmdSpec.take
    simp only [hj', Reply.fail, e, Bool.false_and]
    simp
  have hresw : ((sp.take pd s).path r.path).waiting = [] := by
    rw [htake]
    have := State.respond_waiting (s.taken r.path) pd code [] [] false
    simp only [pd] at this
    rw [this, htw]
  have hm : mailbox sp r s = sp.take pd s := by
    unfold mailbox
    rw [hhead]
    simp only [if_true]
    rw [hserve, State.answerBad_nil _ _ _ hresw]
  rw [hm, htake]
  refine ⟨by simp, ?_⟩
  exact State.told_of_respond s (s.taken r.path) pd code [] [] _ rfl hfl (by simp only [pd]; rw [htf]) (by simp only [pd]; rw [hth])

/-- A command whose lock is set is answered LOCKED (13 R366). -/
theorem turned_locked {op : Nat} {c : Req → Instr} {sp : CmdSpec} {cond : Req → State → Prop} (hop : sp.opcode = op)
    (hx : ∀ r s, exec (c r) s = .next (mailbox sp r s)) (h : ∀ r s, cond r s → sp.locked r (s.taken r.path) = true) :
    turned op c sp cond .locked := by
  intro r s hs hl hc
  have hj : sp.judge r (s.taken r.path) = (.fail (s.taken r.path) .locked, []) := by
    unfold CmdSpec.judge
    rw [hl, h r s hc]
    rfl
  subst hop
  obtain ⟨h1, h2⟩ := mailbox_turned sp r s .locked hs (by decide) (by decide) hj
  exact ⟨_, hx r s, h2, h1⟩

/-- How a statement about what a command leaves is proved. -/
theorem leaves_intro {c : Req → Instr} {sp : CmdSpec} {f : Slices → Slices → Slices} (hx : ∀ r s, exec (c r) s = .next (mailbox sp r s))
    (refl : ∀ x, f x x = x) (sess : ∀ x y k, f y { x with key := { x.key with sessionAt := k } } = { x with key := { x.key with sessionAt := k } } →
      f y x = x) (h : ∀ r s, f (sp.run r s).st.wide s.wide = s.wide) : leaves c f := by
  intro r s t ht
  rw [hx] at ht
  cases ht
  exact mailbox_slices (fun x y => f y x = x) refl sess sp h r s

/-! ### Statements -/

/-- How a statement about a command that answers at once is proved. -/
theorem does_intro {op : Nat} {c : Req → Instr} {sp : CmdSpec} {cond : Req → State → Prop} {ws : Req → State → State → List Word}
    {eff : Req → State → State → Prop} (hop : sp.opcode = op) (hx : ∀ r s, exec (c r) s = .next (mailbox sp r s))
    (h : ∀ r s, cond r s → (sp.run r (s.taken r.path)).later = false ∧ (sp.run r (s.taken r.path)).code = .done ∧
      (sp.run r (s.taken r.path)).clamps = [] ∧ (sp.run r (s.taken r.path)).st.lines = (s.taken r.path).lines ∧
      ∀ t, t = mailbox sp r s → t.wide = (sp.run r (s.taken r.path)).st.wide → t.deep = (sp.run r (s.taken r.path)).st.deep →
        (sp.run r (s.taken r.path)).payload = ws r s t ∧ eff r s t) :
    does op c sp cond ws eff := by
  intro r s hs hp hc
  obtain ⟨h1, h2, h3, h4, h5⟩ := h r s hc
  have hm := mailbox_plain sp r s (hop ▸ hs) hp h1 h2 h3 h4
  have h6 := h5 _ rfl hm.1 hm.2.1
  refine ⟨mailbox sp r s, hx r s, ?_, h6.2⟩
  rw [← h6.1, ← hop]
  exact hm.2.2

/-- The same, from what the execution answers. -/
theorem does_run {op : Nat} {c : Req → Instr} {sp : CmdSpec} {cond : Req → State → Prop} {ws : Req → State → State → List Word}
    {eff : Req → State → State → Prop} (hop : sp.opcode = op) (hx : ∀ r s, exec (c r) s = .next (mailbox sp r s))
    (h : ∀ r s, cond r s → ∃ u w, sp.run r (s.taken r.path) = { st := u, payload := w } ∧ u.lines = (s.taken r.path).lines ∧
      ∀ t, t.wide = u.wide → t.deep = u.deep → w = ws r s t ∧ eff r s t) : does op c sp cond ws eff := by
  refine does_intro hop hx fun r s hc => ?_
  obtain ⟨u, w, h1, h2, h3⟩ := h r s hc
  rw [h1]
  exact ⟨rfl, rfl, rfl, h2, fun t _ ht hd => h3 t ht hd⟩

/-- How a statement about a command that answers later is proved. -/
theorem starts_intro {op : Nat} {c : Req → Instr} {sp : CmdSpec} {cond : Req → State → Prop}
    {eff : Req → State → State → Prop} (hop : sp.opcode = op) (hx : ∀ r s, exec (c r) s = .next (mailbox sp r s))
    (h : ∀ r s, cond r s → (sp.run r (s.taken r.path)).later = true ∧ (sp.run r (s.taken r.path)).st.lines = (s.taken r.path).lines ∧
      ∀ t, t = mailbox sp r s → t.wide = (sp.run r (s.taken r.path)).st.wide →
        t.deep = (sp.run r (s.taken r.path)).st.deep → eff r s t) :
    starts op c sp cond eff := by
  intro r s hs hp hc
  obtain ⟨h1, h2, h3⟩ := h r s hc
  have hm := mailbox_later sp r s (hop ▸ hs) hp h1 h2
  exact ⟨mailbox sp r s, hx r s, hm.2.2, h3 _ rfl hm.1 hm.2.1⟩

/-- A command that only reads. -/
theorem reads_intro {op : Nat} {c : Req → Instr} {sp : CmdSpec} {ws : Req → State → List Word}
    (hop : sp.opcode = op) (hx : ∀ r s, exec (c r) s = .next (mailbox sp r s))
    (h : ∀ r s, sp.run r (s.taken r.path) = { st := s.taken r.path, payload := ws r s }) : reads op c sp ws := by
  refine does_intro hop hx fun r s _ => ?_
  rw [h]
  exact ⟨rfl, rfl, rfl, rfl, fun t _ ht _ => ⟨rfl, by rw [ht]; rfl⟩⟩

end Sys2Proof.Machine
end

