-- ==== Sys2Proof/Tests/Slice0.lean ====
section
/-! SUPPORT. Checks of the model: what well-formedness refuses, states and operands that meet the hypotheses of the statements, and a few
single steps. -/

namespace Sys2Proof.Machine

set_option Elab.async false
set_option linter.unusedVariables false

/-- Each term has one operand beyond its range. -/
theorem test_wf_refuses_0 : (([
    .frameRxStart 32 [] [] false .clear .whole 0, .parseEngineTake .west 24 0, .parseEngineTake .west 0 32,
    .parseEnd .west 24, .parseClass .west 24, .parseExtract .west 24,
    .parseLoad .west 24, .parseAnd .west 24, .parseTest .west 24,
    .parseTestne .west 24, .parseJump .west 24, .parseAdvance .west 24,
    .parseLenset .west 24, .parseFail .west 24, .parseBudgetExhausted .west 24,
    .collectorTake .west 24, .recircPassStart .west 24, .fragTimeout .west 256,
    .seamFrameStart .west 2, .seamWordSend .west 2, .seamWordRx .west 2,
    .seamLinkLost 2 false false, .egressSelect .west 32 0 0, .egressFrameEnd .west 32,
    .stagingUnderrun .west 32, .expressPreempt .west 32 0, .poolAlloc .west 72 .cell false,
    .poolFree .west 72 0 0 false, .poolFree .west 0 4 0 false, .poolFree .west 0 0 32768 false,
    .poolShare .west 72 0 0 1 false, .poolShare .west 0 4 0 1 false, .poolShare .west 0 0 32768 1 false,
    .poolShare .west 0 0 0 0 false, .poolRelease .west 72 0 0 false, .poolRelease .west 0 4 0 false,
    .poolRelease .west 0 0 32768 false, .ringCoalesceExpiry .spi false 32, .cbsRefill 26,
    .gclEntryStart 26, .gclChangeTime 26, .gclCopyComplete 26,
    .mmVerifyTimer 26, .mmVerifyRx 26 false, .samplerPeriod .west 4,
    .frerResetTimeout .west 1024, .restoreHoldEnd 26, .linkDownDeclared 26,
    .pcsLock 26 0, .trainTimeout 26, .usxgmiiAnWord 26 false 2,
    .usxgmiiAnWord 0 false 1, .usxgmiiAnWord 0 false 6, .portSleepCmd 26,
    .tc10SleepReqRx 26, .tc10SleepAckRx 26, .sleepWaitTimeout 26,
    .tc10WakeReqRx 26, .wakePulseDetected 26 0, .portWakeCmd 26 0] : List Instr).all fun i => !i.wf) = true := by decide +kernel

/-- Each term has one operand beyond its range. -/
theorem test_wf_refuses_1 : (([
    .resumeDeadline 26, .cableTestDone 26 0 0, .cableTestDone 0 5 0,
    .lpiIdleTimer 26, .lpiWakeComplete 26 0, .beaconLossTimeout 26,
    .beaconRx 26, .plcaTxOpportunity 26 false false 0, .sqiUpdate 26 0 0 0 0,
    .sqiUpdate 0 8 0 0 0, .mkaSakInstall 26 0, .mkaSakInstall 0 4,
    .syncRx 26, .syncTx 26 0, .followUpTx 26 0,
    .pdelayReqTx 26 0, .pdelayRx 26, .announceTx 26 0,
    .canFrameRx 6 {} 0 false 0, .canFrameRx 0 { id := 2048 } 0 false 0, .canFrameRx 0 { ide := true, id := 536870912 } 0 false 0,
    .canFrameRx 0 { data := List.replicate 9 0 } 0 false 0, .canFrameRx 0 { fdf := true, data := List.replicate 65 0 } 0 false 0, .canFrameRx 0 { xl := true, data := List.replicate 2049 0 } 0 false 0,
    .canArbWin 6 0, .canTxDone 6 false 0, .canTxExpired 6,
    .canBusError 6 1 false 0, .canBusError 0 0 false 0, .canBusError 0 7 false 0,
    .canBusOffRecovered 6 0, .linSlotStart 4, .linHeaderRx 4 0 false 0,
    .linHeaderRx 0 64 false 0, .linResponseRx 4 [] 0 0 0, .linResponseRx 0 (List.replicate 9 0) 0 0 0,
    .linResponseRx 0 [] 256 0 0, .linResponseRx 0 [] 0 3 0, .linSlotEnd 4,
    .linGoToSleep 4, .linWakePulse 4, .linScheduleRestart 4,
    .serCharRx 8 0 false false 0 0, .serGapTimeout 8 false 0, .serTxQueue 8 0 [] 1,
    .serTxQueue 0 4294967296 [] 1, .serTxQueue 0 0 [] 0, .serTxQueue 0 0 [] 9,
    .serLineIdle 8 0, .serDeLeadEnd 8 0, .serCharSent 8 0 0,
    .serDeLagEnd 8 0, .serTxExpired 8, .transceiverWake 18 0,
    .timeMsgInstant 6, .gwUplinkMatch 18, .bundleMaxWait 64,
    .periodicSlotInstant 256, .periodicStale 256, .sramEccError .west (.guarded 3)] : List Instr).all fun i => !i.wf) = true := by decide +kernel

/-- Each term has one operand beyond its range. -/
theorem test_wf_refuses_2 : (([
    .liningRecordRx (List.replicate 257 0), .evtRead .spi 4 .whole, .evtWrite .spi 4 0,
    .upperBitsWrite .spi 16, .registerWrite .spi 4096 0 false, .ringCtrlWrite .spi false 32 0,
    .ringTailWrite .spi false 32 0, .lateWriteFail .spi 16 0, .sealPassEnd 6 0,
    .sealPassEnd 0 4294967296, .tamperAlarm 0 none 0, .tamperAlarm 8 none 0,
    .paceSample .west [0] 0 0, .feedOvercurrentTrip 8 0 0, .feedInrushEnd 8 0,
    .feedRetryExpiry 8, .feedRetryRestore 8, .feedShedRestore 8 0 0,
    .feedShedRestore 0 4096 0, .supplyOv 4096 0, .supplyUv 4096 0,
    .supplyCrank 4096 0, .controlledPowerDown 4096 0, .supplyRestored 4096 0,
    .wakePolicyMatch { kind := 6 }, .wakePolicyMatch { src := 26 }, .wakePolicyMatch { data := List.replicate 9 0 },
    .prepareCancel 16 0, .prepareCancel 0 32, .wakeSource 16 0 0,
    .wakeSource 0 32 0, .wakeLocInput 2 0, .stackHelloRx 26,
    .stackMatchRx 26, .stackPrepareRx 26, .stackCancelRx 26,
    .stackCommitRx 26, .bridgeWriteRx 26, .bridgeReadRx 26,
    .bridgeLockReadRx 26, .bridgeUnlockWriteRx 26, .bridgeWackRx 26,
    .bridgeRdataRx 26, .bridgeLockExpiry 6, .slowOscRunning false 4 0,
    .supplyOnStable 4096 0, .dieLost 6 0, .dieReloadForwarding 9 0,
    .wakePulseEnd 26, .plcaBeaconTx 26, .mkaHelloTime 26 [],
    .mkaHelloTime 0 [(0, 256)], .supplyNormal 4096 0, .pathOutputWrite { tag := 256 },
    .pathOutputRead { flags := 256 }, .pathMirrorWrite { words := List.replicate 256 0 }, .pathMirrorRead { tag := 256 },
    .poolLimitWrite { flags := 256 }, .poolLevelWrite { words := List.replicate 256 0 }, .poolConfigRead { tag := 256 }] : List Instr).all fun i => !i.wf) = true := by decide +kernel

/-- Each term has one operand beyond its range. -/
theorem test_wf_refuses_3 : (([
    .poolStatsRead { flags := 256 }, .poolErrlogRead { words := List.replicate 256 0 }, .poolCellRead { tag := 256 },
    .rulePortWrite { flags := 256 }, .ruleProgramLoad { words := List.replicate 256 0 }, .ruleRangeWrite { tag := 256 },
    .ruleEntryWrite { flags := 256 }, .ruleEntryRead { words := List.replicate 256 0 }, .ruleGroupWrite { tag := 256 },
    .ruleCommit { flags := 256 }, .ruleStatusRead { words := List.replicate 256 0 }, .ruleFragWrite { tag := 256 },
    .ruleStatsRead { flags := 256 }, .rulePortRead { words := List.replicate 256 0 }, .ruleRangeRead { tag := 256 },
    .ruleGroupRead { flags := 256 }, .fwdEntryWrite { words := List.replicate 256 0 }, .fwdEntryRead { tag := 256 },
    .fwdCommit { flags := 256 }, .fwdStatusRead { words := List.replicate 256 0 }, .fwdPortWrite { tag := 256 },
    .fwdPortRead { flags := 256 }, .fwdLearnWrite { words := List.replicate 256 0 }, .fwdLearnFlush { tag := 256 },
    .fwdStatsRead { flags := 256 }, .frerFuncWrite { words := List.replicate 256 0 }, .frerFuncRead { tag := 256 },
    .frerReset { flags := 256 }, .zoneMapWrite { words := List.replicate 256 0 }, .zoneMapRead { tag := 256 },
    .zonePolicyWrite { flags := 256 }, .zonePolicyRead { words := List.replicate 256 0 }, .zoneGwRead { tag := 256 },
    .zoneStatsRead { flags := 256 }, .meterWrite { words := List.replicate 256 0 }, .meterRead { tag := 256 },
    .meterFilterWrite { flags := 256 }, .meterFilterRead { words := List.replicate 256 0 }, .meterStatsRead { tag := 256 },
    .meterUnblock { flags := 256 }, .gclConfigWrite { words := List.replicate 256 0 }, .gclListWrite { tag := 256 },
    .gclPatternWrite { flags := 256 }, .gclCommit { words := List.replicate 256 0 }, .gclCancel { tag := 256 },
    .gclRead { flags := 256 }, .gclStatusRead { words := List.replicate 256 0 }, .gclCheck { tag := 256 },
    .shaperQueueWrite { flags := 256 }, .shaperQueueRead { words := List.replicate 256 0 }, .shaperPreemptWrite { tag := 256 },
    .shaperMmWrite { flags := 256 }, .shaperMmRead { words := List.replicate 256 0 }, .qstatQueueRead { tag := 256 },
    .qstatSamplerWrite { flags := 256 }, .qstatSamplerRead { words := List.replicate 256 0 }, .timeRead { tag := 256 },
    .timeSet { flags := 256 }, .timeAdjust { words := List.replicate 256 0 }, .timeConfigWrite { tag := 256 }] : List Instr).all fun i => !i.wf) = true := by decide +kernel

/-- Each term has one operand beyond its range. -/
theorem test_wf_refuses_4 : (([
    .timeConfigRead { flags := 256 }, .timePortWrite { words := List.replicate 256 0 }, .timePortRead { tag := 256 },
    .timePpsRead { flags := 256 }, .portConfigWrite { words := List.replicate 256 0 }, .portPlcaWrite { tag := 256 },
    .portConfigRead { flags := 256 }, .portPlcaRead { words := List.replicate 256 0 }, .portStatusRead { tag := 256 },
    .portCableTest { flags := 256 }, .macsecPortWrite { words := List.replicate 256 0 }, .macsecMkaWrite { tag := 256 },
    .macsecStatusRead { flags := 256 }, .edgeCanWrite { words := List.replicate 256 0 }, .edgeLinWrite { tag := 256 },
    .edgeLinTableWrite { flags := 256 }, .edgeSerWrite { words := List.replicate 256 0 }, .edgeTableLoad { tag := 256 },
    .edgeWakeWrite { flags := 256 }, .edgeCanRecover { words := List.replicate 256 0 }, .edgeConfigRead { tag := 256 },
    .edgeStatusRead { flags := 256 }, .gwBundleWrite { words := List.replicate 256 0 }, .gwUpWrite { tag := 256 },
    .gwDownWrite { flags := 256 }, .gwPeriodicWrite { words := List.replicate 256 0 }, .gwPeriodicData { tag := 256 },
    .gwRead { flags := 256 }, .gwStatsRead { words := List.replicate 256 0 }, .coreStatusRead { tag := 256 },
    .coreSwitch { flags := 256 }, .coreGuardWrite { words := List.replicate 256 0 }, .coreGuardRead { tag := 256 },
    .coreStatsRead { flags := 256 }, .coreRestart { words := List.replicate 256 0 }, .coreSelftest { tag := 256 },
    .coreDebug { flags := 256 }, .hostEcho { words := List.replicate 256 0 }, .hostVersionRead { tag := 256 },
    .hostLateLogRead { flags := 256 }, .hostRingStatsRead { words := List.replicate 256 0 }, .sealCommit { tag := 256 },
    .sealStatusRead { flags := 256 }, .diagRead { words := List.replicate 256 0 }, .faultStatusRead { tag := 256 },
    .faultLogRead { flags := 256 }, .faultLinkEnable { words := List.replicate 256 0 }, .faultDieReload { tag := 256 },
    .faultReset { flags := 256 }, .maintStatusRead { words := List.replicate 256 0 }, .maintExclWrite { tag := 256 },
    .stackStatusRead { flags := 256 }, .stackRelay { words := List.replicate 256 0 }, .stackDesignate { tag := 256 },
    .imgStatusRead { flags := 256 }, .imgBegin { words := List.replicate 256 0 }, .imgWrite { tag := 256 },
    .imgVerify { flags := 256 }, .imgPrepare { words := List.replicate 256 0 }, .imgHandover { tag := 256 }] : List Instr).all fun i => !i.wf) = true := by decide +kernel

/-- Each term has one operand beyond its range. -/
theorem test_wf_refuses_5 : (([
    .imgConfirm { flags := 256 }, .imgRollback { words := List.replicate 256 0 }, .imgReportRead { tag := 256 },
    .keyStatusRead { flags := 256 }, .keyProvision { words := List.replicate 256 0 }, .keyGenerate { tag := 256 },
    .keyImport { flags := 256 }, .keyDerive { words := List.replicate 256 0 }, .keyDelete { tag := 256 },
    .keyInfoRead { flags := 256 }, .keyTamperWrite { words := List.replicate 256 0 }, .keyTamperRead { tag := 256 },
    .keyVerifierWrite { flags := 256 }, .keySession { words := List.replicate 256 0 }, .cipherLock { tag := 256 },
    .cipherBlock { flags := 256 }, .cipherUnlock { words := List.replicate 256 0 }, .cipherStatusRead { tag := 256 },
    .powerStatusRead { flags := 256 }, .powerSeqLoad { words := List.replicate 256 0 }, .powerConfigWrite { tag := 256 },
    .powerLoadConfig { flags := 256 }, .powerLoadSet { words := List.replicate 256 0 }, .powerRead { tag := 256 },
    .paceCurveLoad { flags := 256 }, .paceConfigWrite { words := List.replicate 256 0 }, .paceStatusRead { tag := 256 },
    .paceRead { flags := 256 }, .wakePolicyWrite { words := List.replicate 256 0 }, .wakeConfigWrite { tag := 256 },
    .wakeHold { flags := 256 }, .wakeStatusRead { words := List.replicate 256 0 }, .wakeLogRead { tag := 256 },
    .wakeRead { flags := 256 }] : List Instr).all fun i => !i.wf) = true := by decide +kernel

/-- The same operands at the end of their range. -/
theorem test_wf_accepts_0 : (([
    .frameRxStart 31 [] [] false .clear .whole 0, .parseEngineTake .west 23 0, .parseEngineTake .west 0 31,
    .parseEnd .west 23, .parseClass .west 23, .parseExtract .west 23,
    .parseLoad .west 23, .parseAnd .west 23, .parseTest .west 23,
    .parseTestne .west 23, .parseJump .west 23, .parseAdvance .west 23,
    .parseLenset .west 23, .parseFail .west 23, .parseBudgetExhausted .west 23,
    .collectorTake .west 23, .recircPassStart .west 23, .fragTimeout .west 255,
    .seamFrameStart .west 1, .seamWordSend .west 1, .seamWordRx .west 1,
    .seamLinkLost 1 false false, .egressSelect .west 31 0 0, .egressFrameEnd .west 31,
    .stagingUnderrun .west 31, .expressPreempt .west 31 0, .poolAlloc .west 71 .cell false,
    .poolFree .west 71 0 0 false, .poolFree .west 0 3 0 false, .poolFree .west 0 0 32767 false,
    .poolShare .west 71 0 0 1 false, .poolShare .west 0 3 0 1 false, .poolShare .west 0 0 32767 1 false,
    .poolShare .west 0 0 0 1 false, .poolRelease .west 71 0 0 false, .poolRelease .west 0 3 0 false,
    .poolRelease .west 0 0 32767 false, .ringCoalesceExpiry .spi false 31, .cbsRefill 25,
    .gclEntryStart 25, .gclChangeTime 25, .gclCopyComplete 25,
    .mmVerifyTimer 25, .mmVerifyRx 25 false, .samplerPeriod .west 3,
    .frerResetTimeout .west 1023, .restoreHoldEnd 25, .linkDownDeclared 25,
    .pcsLock 25 0, .trainTimeout 25, .usxgmiiAnWord 25 false 2,
    .usxgmiiAnWord 0 false 2, .usxgmiiAnWord 0 false 5, .portSleepCmd 25,
    .tc10SleepReqRx 25, .tc10SleepAckRx 25, .sleepWaitTimeout 25,
    .tc10WakeReqRx 25, .wakePulseDetected 25 0, .portWakeCmd 25 0] : List Instr).all fun i => i.wf) = true := by decide +kernel

/-- The same operands at the end of their range. -/
theorem test_wf_accepts_1 : (([
    .resumeDeadline 25, .cableTestDone 25 0 0, .cableTestDone 0 4 0,
    .lpiIdleTimer 25, .lpiWakeComplete 25 0, .beaconLossTimeout 25,
    .beaconRx 25, .plcaTxOpportunity 25 false false 0, .sqiUpdate 25 0 0 0 0,
    .sqiUpdate 0 7 0 0 0, .mkaSakInstall 25 0, .mkaSakInstall 0 3,
    .syncRx 25, .syncTx 25 0, .followUpTx 25 0,
    .pdelayReqTx 25 0, .pdelayRx 25, .announceTx 25 0,
    .canFrameRx 5 {} 0 false 0, .canFrameRx 0 { id := 2047 } 0 false 0, .canFrameRx 0 { ide := true, id := 536870911 } 0 false 0,
    .canFrameRx 0 { data := List.replicate 8 0 } 0 false 0, .canFrameRx 0 { fdf := true, data := List.replicate 64 0 } 0 false 0, .canFrameRx 0 { xl := true, data := List.replicate 2048 0 } 0 false 0,
    .canArbWin 5 0, .canTxDone 5 false 0, .canTxExpired 5,
    .canBusError 5 1 false 0, .canBusError 0 1 false 0, .canBusError 0 6 false 0,
    .canBusOffRecovered 5 0, .linSlotStart 3, .linHeaderRx 3 0 false 0,
    .linHeaderRx 0 63 false 0, .linResponseRx 3 [] 0 0 0, .linResponseRx 0 (List.replicate 8 0) 0 0 0,
    .linResponseRx 0 [] 255 0 0, .linResponseRx 0 [] 0 2 0, .linSlotEnd 3,
    .linGoToSleep 3, .linWakePulse 3, .linScheduleRestart 3,
    .serCharRx 7 0 false false 0 0, .serGapTimeout 7 false 0, .serTxQueue 7 0 [] 1,
    .serTxQueue 0 4294967295 [] 1, .serTxQueue 0 0 [] 1, .serTxQueue 0 0 [] 8,
    .serLineIdle 7 0, .serDeLeadEnd 7 0, .serCharSent 7 0 0,
    .serDeLagEnd 7 0, .serTxExpired 7, .transceiverWake 17 0,
    .timeMsgInstant 5, .gwUplinkMatch 17, .bundleMaxWait 63,
    .periodicSlotInstant 255, .periodicStale 255, .sramEccError .west (.guarded 2)] : List Instr).all fun i => i.wf) = true := by decide +kernel

/-- The same operands at the end of their range. -/
theorem test_wf_accepts_2 : (([
    .liningRecordRx (List.replicate 256 0), .evtRead .spi 3 .whole, .evtWrite .spi 3 0,
    .upperBitsWrite .spi 15, .registerWrite .spi 4095 0 false, .ringCtrlWrite .spi false 31 0,
    .ringTailWrite .spi false 31 0, .lateWriteFail .spi 15 0, .sealPassEnd 5 0,
    .sealPassEnd 0 4294967295, .tamperAlarm 1 none 0, .tamperAlarm 7 none 0,
    .paceSample .west [0, 0, 0, 0, 0, 0, 0, 0] 0 0, .feedOvercurrentTrip 7 0 0, .feedInrushEnd 7 0,
    .feedRetryExpiry 7, .feedRetryRestore 7, .feedShedRestore 7 0 0,
    .feedShedRestore 0 4095 0, .supplyOv 4095 0, .supplyUv 4095 0,
    .supplyCrank 4095 0, .controlledPowerDown 4095 0, .supplyRestored 4095 0,
    .wakePolicyMatch { kind := 5 }, .wakePolicyMatch { src := 25 }, .wakePolicyMatch { data := List.replicate 8 0 },
    .prepareCancel 15 0, .prepareCancel 0 31, .wakeSource 15 0 0,
    .wakeSource 0 31 0, .wakeLocInput 1 0, .stackHelloRx 25,
    .stackMatchRx 25, .stackPrepareRx 25, .stackCancelRx 25,
    .stackCommitRx 25, .bridgeWriteRx 25, .bridgeReadRx 25,
    .bridgeLockReadRx 25, .bridgeUnlockWriteRx 25, .bridgeWackRx 25,
    .bridgeRdataRx 25, .bridgeLockExpiry 5, .slowOscRunning false 3 0,
    .supplyOnStable 4095 0, .dieLost 5 0, .dieReloadForwarding 8 0,
    .wakePulseEnd 25, .plcaBeaconTx 25, .mkaHelloTime 25 [],
    .mkaHelloTime 0 [(0, 255)], .supplyNormal 4095 0] : List Instr).all fun i => i.wf) = true := by decide +kernel

/-- The device forwards, with every die and the West core active. -/
def base : State := { pair := { west := { mode := .active } }, sys := { start := .forwarding, present := 63 } }

/-- It has a root secret. -/
def keyedBase : State := { base with key := { base.key with rs := some [0] } }

/-- A depot session is open. -/
def depotBase : State := { keyedBase with key := { keyedBase.key with session := some 0 } }

/-- The cipher engine is locked by SPI. -/
def lockBase : State := { keyedBase with key := { keyedBase.key with lock := some { path := .spi } } }

/-- Another member is heard at port 2. -/
def hemBase : State := { base with stk := { base.stk with hems := [(2, { hello := some { member := 1 } })] } }

/-- A periodic slot of SOURCE D0 is valid. -/
def slotBase : State := { base with gw := { base.gw with slots := [(0, { valid := true, words := [w36 (8 * 4096)] })] } }

/-- A request that waits on its path. -/
def State.ask (s : State) (op : Nat) (r : Req) : State := s.modPath r.path fun q => { q with waiting := [{ opcode := op, req := r }] }

/-- What a clause about a command asks of a request and a state. -/
def Meets (op : Nat) (sp : CmdSpec) (cond : Req → State → Prop) (r : Req) (s : State) : Prop :=
  s.serves op r ∧ sp.plain r (s.taken r.path) ∧ cond r s

theorem ask_serves (s : State) (op : Nat) (r : Req) (hf : r.flags = 0) (hr : (s.path r.path).running = none) (hh : (s.path r.path).held = [])
    (ht : s.coreTakes) : (s.ask op r).serves op r := by
  refine ⟨hf, ⟨0, [], ?_⟩, ?_, ?_, ht⟩ <;> unfold State.ask <;> rw [State.path_modPath] <;> first | rfl | assumption

theorem meets {op : Nat} {sp : CmdSpec} {cond : Req → State → Prop} {r : Req} {s : State} (hf : r.flags = 0)
    (hr : (s.path r.path).running = none) (hh : (s.path r.path).held = []) (ht : s.coreTakes)
    (hp : (sp.lenFits r && !sp.locked r ((s.ask op r).taken r.path) && !sp.unkeyed r ((s.ask op r).taken r.path) &&
      !sp.busy r ((s.ask op r).taken r.path) &&
      decide (checkWords 1 (sp.fields r ((s.ask op r).taken r.path)) r.words = { words := r.words })) = true)
    (hc : cond r (s.ask op r)) : Meets op sp cond r (s.ask op r) := by
  refine ⟨ask_serves s op r hf hr hh ht, ?_, hc⟩
  simpa [CmdSpec.plain, and_assoc] using hp

theorem base_takes : base.coreTakes := by refine ⟨rfl, ?_, ?_, rfl, rfl, rfl, rfl⟩ <;> decide

theorem witness_PathCommandsSetAndReadOutputsAndMirrors :
    Meets 0x201 pathOutputWrite always { words := [w36 0, w36 0] } (State.ask base 0x201 { words := [w36 0, w36 0] }) ∧
    Meets 0x202 pathOutputRead always { words := [w36 0] } (State.ask base 0x202 { words := [w36 0] }) ∧
    Meets 0x203 pathMirrorWrite (fun r _ => inMask (r.fld 2 31 0) (r.fld 1 29 25) = false) { words := [w36 100663296, w36 4] } (State.ask base 0x203 { words := [w36 100663296, w36 4] }) ∧
    Meets 0x204 pathMirrorRead always { words := [w36 0] } (State.ask base 0x204 { words := [w36 0] }) :=
  ⟨meets rfl rfl rfl base_takes (by decide +kernel) trivial,
    meets rfl rfl rfl base_takes (by decide +kernel) trivial,
    meets rfl rfl rfl base_takes (by decide +kernel) (by decide +kernel),
    meets rfl rfl rfl base_takes (by decide +kernel) trivial⟩

theorem witness_PoolCommandsSetLimitsAndReadCounters :
    Meets 0x301 poolLimitWrite always { words := [w36 0] } (State.ask base 0x301 { words := [w36 0] }) ∧
    Meets 0x302 poolLevelWrite always { words := [w36 0, w36 0] } (State.ask base 0x302 { words := [w36 0, w36 0] }) ∧
    Meets 0x303 poolConfigRead always { words := [w36 0] } (State.ask base 0x303 { words := [w36 0] }) ∧
    Meets 0x304 poolStatsRead always { words := [w36 0] } (State.ask base 0x304 { words := [w36 0] }) ∧
    Meets 0x305 poolErrlogRead always { words := [w36 0] } (State.ask base 0x305 { words := [w36 0] }) ∧
    Meets 0x306 poolCellRead always { words := [w36 0] } (State.ask base 0x306 { words := [w36 0] }) :=
  ⟨meets rfl rfl rfl base_takes (by decide +kernel) trivial,
    meets rfl rfl rfl base_takes (by decide +kernel) trivial,
    meets rfl rfl rfl base_takes (by decide +kernel) trivial,
    meets rfl rfl rfl base_takes (by decide +kernel) trivial,
    meets rfl rfl rfl base_takes (by decide +kernel) trivial,
    meets rfl rfl rfl base_takes (by decide +kernel) trivial⟩

theorem witness_RuleCommandsSetAndReturnTheFields :
    Meets 0x401 rulePortWrite always { words := [w36 2097152] } (State.ask base 0x401 { words := [w36 2097152] }) ∧
    Meets 0x402 ruleProgramLoad (fun r s => r.fld 1 31 23 + (r.words.drop 1).length ≤ 512 ∧ ∀ p, p < 32 → (Tbl.get PortParse.dflt s.tab.ports p).prog ≠ r.fld 1 35 32) { words := [w36 64424509440, w36 0] } (State.ask base 0x402 { words := [w36 64424509440, w36 0] }) ∧
    Meets 0x403 ruleRangeWrite always { words := [w36 0, w36 0] } (State.ask base 0x403 { words := [w36 0, w36 0] }) ∧
    Meets 0x404 ruleEntryWrite (fun r s => s.tab.ruleState (r.fld 1 35 24) = 2 → r.bit 1 23 = true) { words := ([w36 83886080] ++ List.replicate 12 (0 : Word)) } (State.ask base 0x404 { words := ([w36 83886080] ++ List.replicate 12 (0 : Word)) }) ∧
    Meets 0x406 ruleGroupWrite (fun r _ => (r.fld 2 23 14 ≠ 0 → r.fld 2 35 24 ≠ 0 ∧ r.fld 2 35 24 + r.fld 2 23 14 ≤ 4096) ∧ (r.fld 3 35 26 ≠ 0 → r.fld 2 13 2 ≠ 0 ∧ r.fld 2 13 2 + r.fld 3 35 26 ≤ 4096)) { words := [w36 0, w36 0, w36 0] } (State.ask base 0x406 { words := [w36 0, w36 0, w36 0] }) ∧
    Meets 0x407 ruleCommit (fun r s => r.fld 1 35 28 = s.tab.gen % 256) { words := [w36 0] } (State.ask base 0x407 { words := [w36 0] }) ∧
    Meets 0x409 ruleFragWrite always { words := [w36 67108864] } (State.ask base 0x409 { words := [w36 67108864] }) ∧
    Meets 0x405 ruleEntryRead always { words := [w36 68702699520] } (State.ask base 0x405 { words := [w36 68702699520] }) ∧
    Meets 0x408 ruleStatusRead always { words := [] } (State.ask base 0x408 { words := [] }) ∧
    Meets 0x40A ruleStatsRead always { words := [w36 0] } (State.ask base 0x40A { words := [w36 0] }) ∧
    Meets 0x40B rulePortRead always { words := [w36 0] } (State.ask base 0x40B { words := [w36 0] }) ∧
    Meets 0x40C ruleRangeRead always { words := [w36 0] } (State.ask base 0x40C { words := [w36 0] }) ∧
    Meets 0x40D ruleGroupRead always { words := [w36 0] } (State.ask base 0x40D { words := [w36 0] }) :=
  ⟨meets rfl rfl rfl base_takes (by decide +kernel) trivial,
    meets rfl rfl rfl base_takes (by decide +kernel) (by decide +kernel),
    meets rfl rfl rfl base_takes (by decide +kernel) trivial,
    meets rfl rfl rfl base_takes (by decide +kernel) (by decide +kernel),
    meets rfl rfl rfl base_takes (by decide +kernel) (by decide +kernel),
    meets rfl rfl rfl base_takes (by decide +kernel) (by decide +kernel),
    meets rfl rfl rfl base_takes (by decide +kernel) trivial,
    meets rfl rfl rfl base_takes (by decide +kernel) trivial,
    meets rfl rfl rfl base_takes (by decide +kernel) trivial,
    meets rfl rfl rfl base_takes (by decide +kernel) trivial,
    meets rfl rfl rfl base_takes (by decide +kernel) trivial,
    meets rfl rfl rfl base_takes (by decide +kernel) trivial,
    meets rfl rfl rfl base_takes (by decide +kernel) trivial⟩

theorem witness_ForwardingEntriesAreWrittenWithdrawnAndFreed :
    Meets 0x501 fwdEntryWrite (fun r s => r.fld 1 21 20 ≤ 1 ∧ r.words.length = 1 + 4 * r.fld 1 19 18 ∧ ((entriesOf (r.words.drop 1)).headD {}).valid = true ∧ writeRefused s.tab (r.fld 1 35 22) (r.fld 1 19 18) (r.fld 1 21 20 == 0) (entriesOf (r.words.drop 1)) = false) { words := ([w36 419692544, w36 34359754752] ++ List.replicate 3 (0 : Word)) } (State.ask base 0x501 { words := ([w36 419692544, w36 34359754752] ++ List.replicate 3 (0 : Word)) }) ∧
    Meets 0x501 fwdEntryWrite (fun r s => r.fld 1 21 20 = 2 ∧ r.words.length = 1 ∧ removeRefused s.tab (r.fld 1 35 22) (r.fld 1 19 18) true = false) { words := [w36 2359296] } (State.ask base 0x501 { words := [w36 2359296] }) ∧
    Meets 0x501 fwdEntryWrite (fun r s => r.fld 1 21 20 = 3 ∧ r.words.length = 1 ∧ removeRefused s.tab (r.fld 1 35 22) (r.fld 1 19 18) false = false) { words := [w36 3407872] } (State.ask base 0x501 { words := [w36 3407872] }) ∧
    Meets 0x503 fwdCommit (fun r s => r.fld 1 35 28 = s.tab.fgen % 256) { words := [w36 0] } (State.ask base 0x503 { words := [w36 0] }) :=
  ⟨meets rfl rfl rfl base_takes (by decide +kernel) (by decide +kernel),
    meets rfl rfl rfl base_takes (by decide +kernel) (by decide +kernel),
    meets rfl rfl rfl base_takes (by decide +kernel) (by decide +kernel),
    meets rfl rfl rfl base_takes (by decide +kernel) (by decide +kernel)⟩

theorem witness_ForwardingCommandsSetAndReturnTheFields :
    Meets 0x505 fwdPortWrite always { words := [w36 524288, w36 0] } (State.ask base 0x505 { words := [w36 524288, w36 0] }) ∧
    Meets 0x507 fwdLearnWrite (fun r s => ∀ e, e ∈ s.tab.fwdList → e.2.valid = true → e.2.learned = inRange e.1 (r.fld 1 34 21) (r.fld 1 20 6)) { words := [w36 0] } (State.ask base 0x507 { words := [w36 0] }) ∧
    Meets 0x508 fwdLearnFlush always { words := [w36 0] } (State.ask base 0x508 { words := [w36 0] }) ∧
    Meets 0x601 frerFuncWrite always { words := [w36 524320] } (State.ask base 0x601 { words := [w36 524320] }) ∧
    Meets 0x603 frerResetCmd always { words := [w36 0] } (State.ask base 0x603 { words := [w36 0] }) ∧
    Meets 0x502 fwdEntryRead always { words := [w36 0] } (State.ask base 0x502 { words := [w36 0] }) ∧
    Meets 0x504 fwdStatusRead always { words := [] } (State.ask base 0x504 { words := [] }) ∧
    Meets 0x506 fwdPortRead always { words := [w36 0] } (State.ask base 0x506 { words := [w36 0] }) ∧
    Meets 0x509 fwdStatsRead always { words := [w36 0] } (State.ask base 0x509 { words := [w36 0] }) ∧
    Meets 0x602 frerFuncRead always { words := [w36 0] } (State.ask base 0x602 { words := [w36 0] }) :=
  ⟨meets rfl rfl rfl base_takes (by decide +kernel) trivial,
    meets rfl rfl rfl base_takes (by decide +kernel) (by intro e he; revert e; decide +kernel),
    meets rfl rfl rfl base_takes (by decide +kernel) trivial,
    meets rfl rfl rfl base_takes (by decide +kernel) trivial,
    meets rfl rfl rfl base_takes (by decide +kernel) trivial,
    meets rfl rfl rfl base_takes (by decide +kernel) trivial,
    meets rfl rfl rfl base_takes (by decide +kernel) trivial,
    meets rfl rfl rfl base_takes (by decide +kernel) trivial,
    meets rfl rfl rfl base_takes (by decide +kernel) trivial,
    meets rfl rfl rfl base_takes (by decide +kernel) trivial⟩

theorem witness_ZoneAndMeterCommandsSetAndReturnTheFields :
    Meets 0x701 zoneMapWrite always { words := [w36 0] } (State.ask base 0x701 { words := [w36 0] }) ∧
    Meets 0x703 zonePolicyWrite always { words := [w36 1, w36 2, w36 4, w36 8, w36 16, w36 32, w36 64, w36 128, w36 256, w36 512, w36 1024, w36 2048, w36 4096, w36 8192, w36 16384, w36 32768] } (State.ask base 0x703 { words := [w36 1, w36 2, w36 4, w36 8, w36 16, w36 32, w36 64, w36 128, w36 256, w36 512, w36 1024, w36 2048, w36 4096, w36 8192, w36 16384, w36 32768] }) ∧
    Meets 0x801 meterWrite always { words := (List.replicate 5 (0 : Word)) } (State.ask base 0x801 { words := (List.replicate 5 (0 : Word)) }) ∧
    Meets 0x803 meterFilterWrite always { words := [w36 0, w36 0] } (State.ask base 0x803 { words := [w36 0, w36 0] }) ∧
    Meets 0x806 meterUnblock always { words := [w36 0] } (State.ask base 0x806 { words := [w36 0] }) ∧
    Meets 0x702 zoneMapRead always { words := [] } (State.ask base 0x702 { words := [] }) ∧
    Meets 0x704 zonePolicyRead always { words := [] } (State.ask base 0x704 { words := [] }) ∧
    Meets 0x705 zoneGwRead always { words := [w36 0] } (State.ask base 0x705 { words := [w36 0] }) ∧
    Meets 0x706 zoneStatsRead always { words := [w36 0] } (State.ask base 0x706 { words := [w36 0] }) ∧
    Meets 0x802 meterRead always { words := [w36 0] } (State.ask base 0x802 { words := [w36 0] }) ∧
    Meets 0x804 meterFilterRead always { words := [w36 0] } (State.ask base 0x804 { words := [w36 0] }) ∧
    Meets 0x805 meterStatsRead always { words := [w36 0] } (State.ask base 0x805 { words := [w36 0] }) :=
  ⟨meets rfl rfl rfl base_takes (by decide +kernel) trivial,
    meets rfl rfl rfl base_takes (by decide +kernel) trivial,
    meets rfl rfl rfl base_takes (by decide +kernel) trivial,
    meets rfl rfl rfl base_takes (by decide +kernel) trivial,
    meets rfl rfl rfl base_takes (by decide +kernel) trivial,
    meets rfl rfl rfl base_takes (by decide +kernel) trivial,
    meets rfl rfl rfl base_takes (by decide +kernel) trivial,
    meets rfl rfl rfl base_takes (by decide +kernel) trivial,
    meets rfl rfl rfl base_takes (by decide +kernel) trivial,
    meets rfl rfl rfl base_takes (by decide +kernel) trivial,
    meets rfl rfl rfl base_takes (by decide +kernel) trivial,
    meets rfl rfl rfl base_takes (by decide +kernel) trivial⟩

theorem witness_GateShaperAndQueueCommandsSetAndReturnTheFields :
    Meets 0x901 gclConfigWrite always { words := ([w36 524288, w36 1000] ++ List.replicate 3 (0 : Word)) } (State.ask base 0x901 { words := ([w36 524288, w36 1000] ++ List.replicate 3 (0 : Word)) }) ∧
    Meets 0x902 gclListWrite (fun r _ => r.fld 1 30 21 + (r.words.drop 1).length ≤ 1024) { words := [w36 0, w36 8] } (State.ask base 0x902 { words := [w36 0, w36 8] }) ∧
    Meets 0x903 gclPatternWrite (fun r _ => r.fld 1 30 25 + (r.words.drop 1).length ≤ 64) { words := [w36 0, w36 0] } (State.ask base 0x903 { words := [w36 0, w36 0] }) ∧
    Meets 0x904 gclCommit (fun r s => ∀ p, p ∈ maskPorts r → s.has (dieOfPort p).num = true) { words := [w36 1024] } (State.ask base 0x904 { words := [w36 1024] }) ∧
    Meets 0x905 gclCancel always { words := [w36 0] } (State.ask base 0x905 { words := [w36 0] }) ∧
    Meets 0xA01 shaperQueueWrite always { words := [w36 128, w36 0] } (State.ask base 0xA01 { words := [w36 128, w36 0] }) ∧
    Meets 0xA03 shaperPreemptWrite always { words := [w36 0] } (State.ask base 0xA03 { words := [w36 0] }) ∧
    Meets 0xA04 shaperMmWrite always { words := [w36 2097152] } (State.ask base 0xA04 { words := [w36 2097152] }) ∧
    Meets 0xB02 qstatSamplerWrite always { words := [w36 4, w36 0, w36 65536, w36 0] } (State.ask base 0xB02 { words := [w36 4, w36 0, w36 65536, w36 0] }) ∧
    Meets 0x906 gclRead (fun r _ => (r.fld 1 29 28 = 1 → r.fld 1 27 18 + r.fld 1 17 10 ≤ 1024) ∧ (2 ≤ r.fld 1 29 28 → r.fld 1 27 18 + r.fld 1 17 10 ≤ 64)) { words := [w36 0] } (State.ask base 0x906 { words := [w36 0] }) ∧
    Meets 0x907 gclStatusRead always { words := [w36 0] } (State.ask base 0x907 { words := [w36 0] }) ∧
    Meets 0x908 gclCheck always { words := [w36 0] } (State.ask base 0x908 { words := [w36 0] }) ∧
    Meets 0xA02 shaperQueueRead always { words := [w36 0] } (State.ask base 0xA02 { words := [w36 0] }) ∧
    Meets 0xA05 shaperMmRead always { words := [w36 0] } (State.ask base 0xA05 { words := [w36 0] }) ∧
    Meets 0xB01 qstatQueueRead always { words := [w36 0] } (State.ask base 0xB01 { words := [w36 0] }) ∧
    Meets 0xB03 qstatSamplerRead always { words := [w36 0] } (State.ask base 0xB03 { words := [w36 0] }) :=
  ⟨meets rfl rfl rfl base_takes (by decide +kernel) trivial,
    meets rfl rfl rfl base_takes (by decide +kernel) (by decide +kernel),
    meets rfl rfl rfl base_takes (by decide +kernel) (by decide +kernel),
    meets rfl rfl rfl base_takes (by decide +kernel) (by decide +kernel),
    meets rfl rfl rfl base_takes (by decide +kernel) trivial,
    meets rfl rfl rfl base_takes (by decide +kernel) trivial,
    meets rfl rfl rfl base_takes (by decide +kernel) trivial,
    meets rfl rfl rfl base_takes (by decide +kernel) trivial,
    meets rfl rfl rfl base_takes (by decide +kernel) trivial,
    meets rfl rfl rfl base_takes (by decide +kernel) (by decide +kernel),
    meets rfl rfl rfl base_takes (by decide +kernel) trivial,
    meets rfl rfl rfl base_takes (by decide +kernel) trivial,
    meets rfl rfl rfl base_takes (by decide +kernel) trivial,
    meets rfl rfl rfl base_takes (by decide +kernel) trivial,
    meets rfl rfl rfl base_takes (by decide +kernel) trivial,
    meets rfl rfl rfl base_takes (by decide +kernel) trivial⟩

theorem witness_TimeCommandsCorrectTheClock :
    Meets 0xC02 timeSet (fun r s => s.isMember = false ∧ r.bit 1 35 = true ∧ s.tim.cfg.ppsInEn = true) { words := [w36 34359738368, w36 0, w36 0] } (State.ask ({ base with tim := { base.tim with cfg := { base.tim.cfg with ppsInEn := true } } }) 0xC02 { words := [w36 34359738368, w36 0, w36 0] }) ∧
    Meets 0xC02 timeSet (fun r s => s.isMember = false ∧ r.bit 1 35 = false ∧ (s.tim.mode = .unset ∨ s.tim.mode = .free) ∧ qOfTime (of72 (r.word 2) (r.word 3)) = s.nowQ) { words := [w36 0, w36 0, w36 0] } (State.ask base 0xC02 { words := [w36 0, w36 0, w36 0] }) ∧
    Meets 0xC02 timeSet (fun r s => s.isMember = false ∧ r.bit 1 35 = false ∧ qOfTime (of72 (r.word 2) (r.word 3)) ≠ s.nowQ ∧ (s.tim.mode = .unset ∨ (s.tim.mode = .free ∧ s.tim.cfg.stepEn = true ∧ 4000 * s.tim.cfg.slewLimit < ((qOfTime (of72 (r.word 2) (r.word 3)) : Int) - s.nowQ).natAbs))) { words := [w36 0, w36 16, w36 0] } (State.ask base 0xC02 { words := [w36 0, w36 16, w36 0] }) ∧
    Meets 0xC02 timeSet (fun r s => s.isMember = false ∧ r.bit 1 35 = false ∧ s.tim.mode = .free ∧ (s.correct ((qOfTime (of72 (r.word 2) (r.word 3)) : Int) - s.nowQ) false).2 = .slew) { words := [w36 0, w36 0, w36 16] } (State.ask ({ base with tim := { base.tim with mode := .free, cfg := { base.tim.cfg with stepEn := false } } }) 0xC02 { words := [w36 0, w36 0, w36 16] }) ∧
    Meets 0xC03 timeAdjust (fun _ s => s.tim.mode = .unset ∨ (s.tim.mode = .free ∧ s.timeSource = 0)) { words := [w36 0, w36 0] } (State.ask base 0xC03 { words := [w36 0, w36 0] }) :=
  ⟨meets rfl rfl rfl (by refine ⟨rfl, ?_, ?_, rfl, rfl, rfl, rfl⟩ <;> decide) (by decide +kernel) (by decide +kernel),
    meets rfl rfl rfl base_takes (by decide +kernel) (by decide +kernel),
    meets rfl rfl rfl base_takes (by decide +kernel) (by decide +kernel),
    meets rfl rfl rfl (by refine ⟨rfl, ?_, ?_, rfl, rfl, rfl, rfl⟩ <;> decide) (by decide +kernel) (by decide +kernel),
    meets rfl rfl rfl base_takes (by decide +kernel) (by decide +kernel)⟩

theorem witness_TimeCommandsSetAndReturnTheFields :
    Meets 0xC04 timeConfigWrite always { words := [w36 16941056, w36 16000, w36 1048576, w36 8192, w36 0] } (State.ask base 0xC04 { words := [w36 16941056, w36 16000, w36 1048576, w36 8192, w36 0] }) ∧
    Meets 0xC06 timePortWrite always { words := [w36 0, w36 0, w36 0] } (State.ask base 0xC06 { words := [w36 0, w36 0, w36 0] }) ∧
    Meets 0xC01 timeRead always { words := [] } (State.ask base 0xC01 { words := [] }) ∧
    Meets 0xC05 timeConfigRead always { words := [] } (State.ask base 0xC05 { words := [] }) ∧
    Meets 0xC07 timePortRead always { words := [w36 0] } (State.ask base 0xC07 { words := [w36 0] }) ∧
    Meets 0xC08 timePpsRead always { words := [w36 0] } (State.ask base 0xC08 { words := [w36 0] }) :=
  ⟨meets rfl rfl rfl base_takes (by decide +kernel) trivial,
    meets rfl rfl rfl base_takes (by decide +kernel) trivial,
    meets rfl rfl rfl base_takes (by decide +kernel) trivial,
    meets rfl rfl rfl base_takes (by decide +kernel) trivial,
    meets rfl rfl rfl base_takes (by decide +kernel) trivial,
    meets rfl rfl rfl base_takes (by decide +kernel) trivial⟩

theorem witness_PortAndMacsecCommandsSetAndReturnTheFields :
    Meets 0xD01 portConfigWrite always { words := [w36 671088640] } (State.ask base 0xD01 { words := [w36 671088640] }) ∧
    Meets 0xD02 portPlcaWrite (fun r s => (s.port (Req.port1 r)).beacons = false) { words := [w36 23925620737, w36 268435456] } (State.ask base 0xD02 { words := [w36 23925620737, w36 268435456] }) ∧
    Meets 0xD06 portCableTest (fun r s => (s.port (Req.port1 r)).mode = .training ∨ (s.port (Req.port1 r)).mode = .up ∨ (s.port (Req.port1 r)).mode = .resuming) { words := [w36 0] } (State.ask (base.modPort 0 fun c => { c with mode := .up }) 0xD06 { words := [w36 0] }) ∧
    Meets 0xE01 macsecPortWrite always { words := [w36 0, w36 0] } (State.ask keyedBase 0xE01 { words := [w36 0, w36 0] }) ∧
    Meets 0xE02 macsecMkaWrite always { words := ([w36 524320] ++ List.replicate 8 (0 : Word)) } (State.ask ({ keyedBase with key := { keyedBase.key with slots := [(1, { valid := true, use := 3, len := 8 })] } }) 0xE02 { words := ([w36 524320] ++ List.replicate 8 (0 : Word)) }) ∧
    Meets 0xD03 portConfigRead always { words := [w36 0] } (State.ask base 0xD03 { words := [w36 0] }) ∧
    Meets 0xD04 portPlcaRead always { words := [w36 53687091200] } (State.ask base 0xD04 { words := [w36 53687091200] }) ∧
    Meets 0xD05 portStatusRead always { words := [w36 0] } (State.ask base 0xD05 { words := [w36 0] }) ∧
    Meets 0xE03 macsecStatusRead always { words := [w36 0] } (State.ask base 0xE03 { words := [w36 0] }) :=
  ⟨meets rfl rfl rfl base_takes (by decide +kernel) trivial,
    meets rfl rfl rfl base_takes (by decide +kernel) (by decide +kernel),
    meets rfl rfl rfl (by refine ⟨rfl, ?_, ?_, rfl, rfl, rfl, rfl⟩ <;> decide) (by decide +kernel) (by decide +kernel),
    meets rfl rfl rfl (by refine ⟨rfl, ?_, ?_, rfl, rfl, rfl, rfl⟩ <;> decide) (by decide +kernel) trivial,
    meets rfl rfl rfl (by refine ⟨rfl, ?_, ?_, rfl, rfl, rfl, rfl⟩ <;> decide) (by decide +kernel) trivial,
    meets rfl rfl rfl base_takes (by decide +kernel) trivial,
    meets rfl rfl rfl base_takes (by decide +kernel) trivial,
    meets rfl rfl rfl base_takes (by decide +kernel) trivial,
    meets rfl rfl rfl base_takes (by decide +kernel) trivial⟩

theorem witness_ChannelCommandsSetAndReturnTheFields :
    Meets 0xF01 edgeCanWrite always { words := [w36 0, w36 10762616896, w36 0, w36 0] } (State.ask base 0xF01 { words := [w36 0, w36 10762616896, w36 0, w36 0] }) ∧
    Meets 0xF07 edgeCanRecover always { words := [w36 0] } (State.ask (base.modCan 0 fun c => { c with busOff := true }) 0xF07 { words := [w36 0] }) ∧
    Meets 0xF02 edgeLinWrite always { words := [w36 32768000] } (State.ask base 0xF02 { words := [w36 32768000] }) ∧
    Meets 0xF03 edgeLinTableWrite always { words := [w36 2147745792, w36 4194304] } (State.ask base 0xF03 { words := [w36 2147745792, w36 4194304] }) ∧
    Meets 0xF04 edgeSerWrite always { words := [w36 0, w36 0] } (State.ask ({ base with edge := { base.edge with valid := 1, store := [(0, w36 4294967296)] } }) 0xF04 { words := [w36 0, w36 0] }) ∧
    Meets 0xF06 edgeWakeWrite always { words := [w36 524288] } (State.ask base 0xF06 { words := [w36 524288] }) ∧
    Meets 0xF05 edgeTableLoad (fun r _ => r.bit 1 19 = false) { words := [w36 0, w36 0] } (State.ask base 0xF05 { words := [w36 0, w36 0] }) ∧
    Meets 0xF05 edgeTableLoad (fun r s =>
      let e : EdgeSt :=
        { s.edge with
          store := Tbl.puts wordZero s.edge.store (1024 * r.fld 1 35 30 + r.fld 1 29 20) (r.words.drop 1)
          valid := if r.fld 1 29 20 = 0 then setMask s.edge.valid (r.fld 1 35 30) false else s.edge.valid }
      r.bit 1 19 = true ∧ (e.fixTable (r.fld 1 35 30)).2 = [] ∧ (e.fixTable (r.fld 1 35 30)).1.slotOk (r.fld 1 35 30) = true) { words := ([w36 6442975232] ++ shippedTables.getD 4 []) } (State.ask base 0xF05 { words := ([w36 6442975232] ++ shippedTables.getD 4 []) }) ∧
    Meets 0xF08 edgeConfigRead always { words := [w36 0] } (State.ask base 0xF08 { words := [w36 0] }) ∧
    Meets 0xF09 edgeStatusRead always { words := [w36 0] } (State.ask base 0xF09 { words := [w36 0] }) :=
  ⟨meets rfl rfl rfl base_takes (by decide +kernel) trivial,
    meets rfl rfl rfl (by refine ⟨rfl, ?_, ?_, rfl, rfl, rfl, rfl⟩ <;> decide) (by decide +kernel) trivial,
    meets rfl rfl rfl base_takes (by decide +kernel) trivial,
    meets rfl rfl rfl base_takes (by decide +kernel) trivial,
    meets rfl rfl rfl (by refine ⟨rfl, ?_, ?_, rfl, rfl, rfl, rfl⟩ <;> decide) (by decide +kernel) trivial,
    meets rfl rfl rfl base_takes (by decide +kernel) trivial,
    meets rfl rfl rfl base_takes (by decide +kernel) (by decide +kernel),
    meets rfl rfl rfl base_takes (by decide +kernel) (by decide +kernel),
    meets rfl rfl rfl base_takes (by decide +kernel) trivial,
    meets rfl rfl rfl base_takes (by decide +kernel) trivial⟩

theorem witness_GatewayCommandsWriteAndReadEntries :
    Meets 0x101 gwBundleWrite always { words := (List.replicate 8 (0 : Word)) } (State.ask base 0x101 { words := (List.replicate 8 (0 : Word)) }) ∧
    Meets 0x102 gwUpWrite always { words := (List.replicate 5 (0 : Word)) } (State.ask base 0x102 { words := (List.replicate 5 (0 : Word)) }) ∧
    Meets 0x103 gwDownWrite always { words := (List.replicate 5 (0 : Word)) } (State.ask base 0x103 { words := (List.replicate 5 (0 : Word)) }) ∧
    Meets 0x104 gwPeriodicWrite always { words := [w36 0, w36 0, w36 0, w36 0] } (State.ask base 0x104 { words := [w36 0, w36 0, w36 0, w36 0] }) ∧
    Meets 0x105 gwPeriodicData (fun r s => (s.perSlot (r.fld 1 35 28)).valid = true ∧ (s.perSlot (r.fld 1 35 28)).fld 1 11 11 = 0 ∧ s.slotCheck (s.perSlot (r.fld 1 35 28)) (s.zon.portZone (26 + s.pair.active.bit)) ((quadBytes (r.words.drop 1)).take (r.fld 1 27 21)) = none) { words := [w36 2097152, w36 0] } (State.ask slotBase 0x105 { words := [w36 2097152, w36 0] }) ∧
    Meets 0x106 gwRead always { words := [w36 0] } (State.ask base 0x106 { words := [w36 0] }) ∧
    Meets 0x107 gwStatsRead always { words := [w36 0] } (State.ask base 0x107 { words := [w36 0] }) :=
  ⟨meets rfl rfl rfl base_takes (by decide +kernel) trivial,
    meets rfl rfl rfl base_takes (by decide +kernel) trivial,
    meets rfl rfl rfl base_takes (by decide +kernel) trivial,
    meets rfl rfl rfl base_takes (by decide +kernel) trivial,
    meets rfl rfl rfl (by refine ⟨rfl, ?_, ?_, rfl, rfl, rfl, rfl⟩ <;> decide) (by decide +kernel) (by decide +kernel),
    meets rfl rfl rfl base_takes (by decide +kernel) trivial,
    meets rfl rfl rfl base_takes (by decide +kernel) trivial⟩

theorem witness_CoreCommandsGuardSwitchAndTestThePair :
    Meets 0x041 coreStatusRead always { words := [] } (State.ask base 0x041 { words := [] }) ∧
    Meets 0x042 coreSwitch always { words := [w36 34359738368] } (State.ask ({ base with pair := { base.pair with east := { base.pair.east with mode := .warm } } }) 0x042 { words := [w36 34359738368] }) ∧
    Meets 0x043 coreGuardWrite always { words := [w36 675293184, w36 419430400] } (State.ask base 0x043 { words := [w36 675293184, w36 419430400] }) ∧
    Meets 0x044 coreGuardRead always { words := [] } (State.ask base 0x044 { words := [] }) ∧
    Meets 0x045 coreStatsRead always { words := [w36 0] } (State.ask base 0x045 { words := [w36 0] }) ∧
    Meets 0x046 coreRestart (fun r s => s.dom (coreDom r.dieBit) ≠ .failed) { words := [w36 34359738368] } (State.ask ({ base with pow := { base.pow with doms := [(5, .on), (6, .on), (7, .on), (8, .on)] } }) 0x046 { words := [w36 34359738368] }) ∧
    Meets 0x047 coreSelftest always { words := [w36 0] } (State.ask base 0x047 { words := [w36 0] }) :=
  ⟨meets rfl rfl rfl base_takes (by decide +kernel) trivial,
    meets rfl rfl rfl (by refine ⟨rfl, ?_, ?_, rfl, rfl, rfl, rfl⟩ <;> decide) (by decide +kernel) trivial,
    meets rfl rfl rfl base_takes (by decide +kernel) trivial,
    meets rfl rfl rfl base_takes (by decide +kernel) trivial,
    meets rfl rfl rfl base_takes (by decide +kernel) trivial,
    meets rfl rfl rfl (by refine ⟨rfl, ?_, ?_, rfl, rfl, rfl, rfl⟩ <;> decide) (by decide +kernel) (by decide +kernel),
    meets rfl rfl rfl base_takes (by decide +kernel) trivial⟩

theorem witness_DebuggerActsOnAnAttachedCore :
    Meets 0x048 coreDebug (fun r s => r.fld 1 34 31 ≠ 7 ∧ r.fld 1 34 31 ≠ 9 ∧ debugCheck s r.dieBit (r.fld 1 34 31) = .done) { path := .service, words := [w36 0, w36 0] } (State.ask base 0x048 { path := .service, words := [w36 0, w36 0] }) ∧
    Meets 0x048 coreDebug (fun r s => r.fld 1 34 31 = 7 ∧ (s.core r.dieBit).attached = true) { path := .service, words := [w36 15032385536, w36 0] } (State.ask ({ base with pair := { base.pair with west := { base.pair.west with attached := true } } }) 0x048 { path := .service, words := [w36 15032385536, w36 0] }) ∧
    Meets 0x048 coreDebug (fun r s => r.fld 1 34 31 = 9 ∧ (s.core r.dieBit).attached = true) { path := .service, words := [w36 19327352832, w36 0] } (State.ask ({ base with pair := { base.pair with west := { base.pair.west with attached := true } } }) 0x048 { path := .service, words := [w36 19327352832, w36 0] }) :=
  ⟨meets rfl rfl rfl base_takes (by decide +kernel) (by decide +kernel),
    meets rfl rfl rfl (by refine ⟨rfl, ?_, ?_, rfl, rfl, rfl, rfl⟩ <;> decide) (by decide +kernel) (by decide +kernel),
    meets rfl rfl rfl (by refine ⟨rfl, ?_, ?_, rfl, rfl, rfl, rfl⟩ <;> decide) (by decide +kernel) (by decide +kernel)⟩

theorem witness_HostAndSealCommandsAnswer :
    Meets 0x001 hostEcho always { words := [] } (State.ask base 0x001 { words := [] }) ∧
    Meets 0x002 hostVersionRead always { words := [] } (State.ask base 0x002 { words := [] }) ∧
    Meets 0x003 hostLateLogRead always { words := [w36 0] } (State.ask base 0x003 { words := [w36 0] }) ∧
    Meets 0x004 hostRingStatsRead always { path := .pcieW0, words := [w36 0] } (State.ask base 0x004 { path := .pcieW0, words := [w36 0] }) ∧
    Meets 0x011 sealCommit always { words := [w36 67645734912] } (State.ask base 0x011 { words := [w36 67645734912] }) ∧
    Meets 0x012 sealStatusRead always { words := [] } (State.ask base 0x012 { words := [] }) :=
  ⟨meets rfl rfl rfl base_takes (by decide +kernel) trivial,
    meets rfl rfl rfl base_takes (by decide +kernel) trivial,
    meets rfl rfl rfl base_takes (by decide +kernel) trivial,
    meets rfl rfl rfl base_takes (by decide +kernel) trivial,
    meets rfl rfl rfl base_takes (by decide +kernel) trivial,
    meets rfl rfl rfl base_takes (by decide +kernel) trivial⟩

theorem witness_KeyStoreTamperAndSessionCommands :
    Meets 0x0A2 keyProvision always { path := .service, words := [w36 0] } (State.ask depotBase 0x0A2 { path := .service, words := [w36 0] }) ∧
    Meets 0x0A3 keyGenerate (fun r _ => r.bit 1 15 = false) { words := [w36 269484032] } (State.ask keyedBase 0x0A3 { words := [w36 269484032] }) ∧
    Meets 0x0A4 keyImport (fun r _ => r.bit 1 15 = false ∧ r.bit 1 14 = false) { path := .service, words := ([w36 269484032] ++ List.replicate 8 (0 : Word)) } (State.ask depotBase 0x0A4 { path := .service, words := ([w36 269484032] ++ List.replicate 8 (0 : Word)) }) ∧
    Meets 0x0A5 keyDerive (fun r _ => r.bit 1 15 = false ∧ ((bytes32 (r.words.drop 2)).take (r.fld 2 35 28)).take 3 ≠ ascii "NF-") { words := [w36 269484100, w36 1073741824, w36 0] } (State.ask ({ keyedBase with key := { keyedBase.key with slots := [(17, { valid := true, use := 3, len := 8 })] } }) 0x0A5 { words := [w36 269484100, w36 1073741824, w36 0] }) ∧
    Meets 0x0A6 keyDelete always { words := [w36 268435456] } (State.ask ({ keyedBase with key := { keyedBase.key with slots := [(16, { valid := true, len := 8 })] } }) 0x0A6 { words := [w36 268435456] }) ∧
    Meets 0x0A8 keyTamperWrite always { words := [w36 5369757696] } (State.ask base 0x0A8 { words := [w36 5369757696] }) ∧
    Meets 0x0AA keyVerifierWrite (fun r _ => r.bit 1 35 = true) { path := .service, words := [w36 53687091200] } (State.ask ({ depotBase with key := { depotBase.key with vValid := 15, vRole := 255 } }) 0x0AA { path := .service, words := [w36 53687091200] }) ∧
    Meets 0x0AA keyVerifierWrite (fun r _ => r.bit 1 35 = false) { path := .service, words := ([w36 19327352832] ++ List.replicate 12 (0 : Word)) } (State.ask depotBase 0x0AA { path := .service, words := ([w36 19327352832] ++ List.replicate 12 (0 : Word)) }) ∧
    Meets 0x0AB keySession (fun r _ => r.fld 1 35 34 = 0) { path := .service, words := [w36 0] } (State.ask base 0x0AB { path := .service, words := [w36 0] }) ∧
    Meets 0x0AB keySession (fun r _ => 2 ≤ r.fld 1 35 34) { path := .service, words := [w36 34359738368] } (State.ask base 0x0AB { path := .service, words := [w36 34359738368] }) :=
  ⟨meets rfl rfl rfl (by refine ⟨rfl, ?_, ?_, rfl, rfl, rfl, rfl⟩ <;> decide) (by decide +kernel) trivial,
    meets rfl rfl rfl (by refine ⟨rfl, ?_, ?_, rfl, rfl, rfl, rfl⟩ <;> decide) (by decide +kernel) (by decide +kernel),
    meets rfl rfl rfl (by refine ⟨rfl, ?_, ?_, rfl, rfl, rfl, rfl⟩ <;> decide) (by decide +kernel) (by decide +kernel),
    meets rfl rfl rfl (by refine ⟨rfl, ?_, ?_, rfl, rfl, rfl, rfl⟩ <;> decide) (by decide +kernel) (by decide +kernel),
    meets rfl rfl rfl (by refine ⟨rfl, ?_, ?_, rfl, rfl, rfl, rfl⟩ <;> decide) (by decide +kernel) trivial,
    meets rfl rfl rfl base_takes (by decide +kernel) trivial,
    meets rfl rfl rfl (by refine ⟨rfl, ?_, ?_, rfl, rfl, rfl, rfl⟩ <;> decide) (by decide +kernel) (by decide +kernel),
    meets rfl rfl rfl (by refine ⟨rfl, ?_, ?_, rfl, rfl, rfl, rfl⟩ <;> decide) (by decide +kernel) (by decide +kernel),
    meets rfl rfl rfl base_takes (by decide +kernel) (by decide +kernel),
    meets rfl rfl rfl base_takes (by decide +kernel) (by decide +kernel)⟩

theorem witness_KeyReadsAndCipherCommands :
    Meets 0x0A1 keyStatusRead always { words := [] } (State.ask base 0x0A1 { words := [] }) ∧
    Meets 0x0A7 keyInfoRead always { words := [w36 0] } (State.ask keyedBase 0x0A7 { words := [w36 0] }) ∧
    Meets 0x0A9 keyTamperRead always { words := [w36 0] } (State.ask base 0x0A9 { words := [w36 0] }) ∧
    Meets 0x0C1 cipherLock always { words := [w36 268435456] } (State.ask ({ keyedBase with key := { keyedBase.key with slots := [(16, { valid := true, len := 8 })] } }) 0x0C1 { words := [w36 268435456] }) ∧
    Meets 0x0C2 cipherBlock (fun r s => ∃ l, s.key.lock = some l ∧ l.path = r.path) { words := ([w36 2147483648] ++ List.replicate 4 (0 : Word)) } (State.ask lockBase 0x0C2 { words := ([w36 2147483648] ++ List.replicate 4 (0 : Word)) }) ∧
    Meets 0x0C3 cipherUnlock (fun r s => ∃ l, s.key.lock = some l ∧ l.path = r.path) { words := [] } (State.ask lockBase 0x0C3 { words := [] }) ∧
    Meets 0x0C4 cipherStatusRead always { words := [] } (State.ask base 0x0C4 { words := [] }) :=
  ⟨meets rfl rfl rfl base_takes (by decide +kernel) trivial,
    meets rfl rfl rfl (by refine ⟨rfl, ?_, ?_, rfl, rfl, rfl, rfl⟩ <;> decide) (by decide +kernel) trivial,
    meets rfl rfl rfl base_takes (by decide +kernel) trivial,
    meets rfl rfl rfl (by refine ⟨rfl, ?_, ?_, rfl, rfl, rfl, rfl⟩ <;> decide) (by decide +kernel) trivial,
    meets rfl rfl rfl (by refine ⟨rfl, ?_, ?_, rfl, rfl, rfl, rfl⟩ <;> decide) (by decide +kernel) ⟨_, rfl, rfl⟩,
    meets rfl rfl rfl (by refine ⟨rfl, ?_, ?_, rfl, rfl, rfl, rfl⟩ <;> decide) (by decide +kernel) ⟨_, rfl, rfl⟩,
    meets rfl rfl rfl base_takes (by decide +kernel) trivial⟩

theorem witness_UpdateCommandsLoadVerifyAndSwitch :
    Meets 0x081 imgStatusRead always { words := [] } (State.ask base 0x081 { words := [] }) ∧
    Meets 0x082 imgBegin (fun r s => s.inSession r = true ∧ s.img.flash = true) { path := .service, words := [] } (State.ask depotBase 0x082 { path := .service, words := [] }) ∧
    Meets 0x083 imgWrite (fun r s => r.fld 1 35 16 + (r.words.drop 1).length ≤ 838859 ∧ s.img.room s.img.target (r.fld 1 35 16 + 1) (r.words.drop 1).length = true ∧ s.img.target ≤ 1) { path := .service, words := [w36 0, w36 0] } (State.ask ({ depotBase with img := { depotBase.img with mode := .loading, target := 0 } }) 0x083 { path := .service, words := [w36 0, w36 0] }) ∧
    Meets 0x085 imgPrepare (fun r s => s.key.rs.isSome = true ∧ s.inSession r = true ∧ s.img.configOnly = false ∧ s.img.prepared = false ∧ s.neededKeys = [] ∧ s.img.room s.img.target (s.img.blobs s.img.target).2 0 = true) { path := .service, words := [] } (State.ask ({ depotBase with img := { depotBase.img with mode := .verified, target := 0, slotA := [(6, w36 655360)] } }) 0x085 { path := .service, words := [] }) ∧
    Meets 0x086 imgHandover (fun r s => s.inSession r = true ∧ s.pair.mode = .normal ∧ s.img.configOnly = false ∧ s.img.liningMinOf s.img.target ≤ s.img.liningVerOf s.img.runSlot) { path := .service, words := [] } (State.ask ({ depotBase with img := { depotBase.img with mode := .prepared, target := 0, runSlot := 1 } }) 0x086 { path := .service, words := [] }) ∧
    Meets 0x087 imgConfirm (fun r s => s.inSession r = true ∧ s.img.mode = .verified ∧ s.img.configOnly = true) { path := .service, words := [] } (State.ask ({ depotBase with img := { depotBase.img with mode := .verified, configOnly := true } }) 0x087 { path := .service, words := [] }) ∧
    Meets 0x087 imgConfirm (fun r s => s.inSession r = true ∧ s.img.mode = .trial) { path := .service, words := [] } (State.ask ({ depotBase with img := { depotBase.img with mode := .trial } }) 0x087 { path := .service, words := [] }) ∧
    Meets 0x088 imgRollback (fun r s => s.inSession r = true ∧ s.img.mode = .trial) { path := .service, words := [] } (State.ask ({ depotBase with img := { depotBase.img with mode := .trial } }) 0x088 { path := .service, words := [] }) ∧
    Meets 0x088 imgRollback (fun r s => s.inSession r = true ∧ s.img.mode ≠ .trial ∧ s.img.mode ≠ .idle) { path := .service, words := [] } (State.ask ({ depotBase with img := { depotBase.img with mode := .verified } }) 0x088 { path := .service, words := [] }) ∧
    Meets 0x089 imgReportRead always { words := [w36 1048576] } (State.ask base 0x089 { words := [w36 1048576] }) :=
  ⟨meets rfl rfl rfl base_takes (by decide +kernel) trivial,
    meets rfl rfl rfl (by refine ⟨rfl, ?_, ?_, rfl, rfl, rfl, rfl⟩ <;> decide) (by decide +kernel) (by decide +kernel),
    meets rfl rfl rfl (by refine ⟨rfl, ?_, ?_, rfl, rfl, rfl, rfl⟩ <;> decide) (by decide +kernel) (by decide +kernel),
    meets rfl rfl rfl (by refine ⟨rfl, ?_, ?_, rfl, rfl, rfl, rfl⟩ <;> decide) (by decide +kernel) (by decide +kernel),
    meets rfl rfl rfl (by refine ⟨rfl, ?_, ?_, rfl, rfl, rfl, rfl⟩ <;> decide) (by decide +kernel) (by decide +kernel),
    meets rfl rfl rfl (by refine ⟨rfl, ?_, ?_, rfl, rfl, rfl, rfl⟩ <;> decide) (by decide +kernel) (by decide +kernel),
    meets rfl rfl rfl (by refine ⟨rfl, ?_, ?_, rfl, rfl, rfl, rfl⟩ <;> decide) (by decide +kernel) (by decide +kernel),
    meets rfl rfl rfl (by refine ⟨rfl, ?_, ?_, rfl, rfl, rfl, rfl⟩ <;> decide) (by decide +kernel) (by decide +kernel),
    meets rfl rfl rfl (by refine ⟨rfl, ?_, ?_, rfl, rfl, rfl, rfl⟩ <;> decide) (by decide +kernel) (by decide +kernel),
    meets rfl rfl rfl base_takes (by decide +kernel) trivial⟩

theorem witness_PowerAndPaceCommandsSetAndReturnTheFields :
    Meets 0x0D2 powerSeqLoad (fun r s => seqKeeps s.pow.cfg.mask (seqStart (r.fld 1 35 34) s.pow.cfg.mask) ((r.words.drop 1).map stepOfWord) = true) { words := [w36 268435456, w36 3221553152] } (State.ask base 0x0D2 { words := [w36 268435456, w36 3221553152] }) ∧
    Meets 0x0D3 powerConfigWrite always { words := [w36 51999932416, w36 0, w36 0, w36 0, w36 1681408800, w36 11747945400, w36 671744000] } (State.ask base 0x0D3 { words := [w36 51999932416, w36 0, w36 0, w36 0, w36 1681408800, w36 11747945400, w36 671744000] }) ∧
    Meets 0x0D4 powerLoadConfig always { words := [w36 0, w36 1048576, w36 50, w36 10485760] } (State.ask base 0x0D4 { words := [w36 0, w36 1048576, w36 50, w36 10485760] }) ∧
    Meets 0x0D5 powerLoadSet always { words := [w36 0] } (State.ask base 0x0D5 { words := [w36 0] }) ∧
    Meets 0x0E1 paceCurveLoad (fun r _ =>
      let l := (r.words.drop 1).map fun w => (fld w 35 25, fld w 24 13)
      ascending l = true ∧ 454 ≤ (l.getLastD (0, 0)).1) { words := [w36 536870912, w36 16782950400] } (State.ask base 0x0E1 { words := [w36 536870912, w36 16782950400] }) ∧
    Meets 0x0E2 paceConfigWrite always { words := [w36 17080960] } (State.ask base 0x0E2 { words := [w36 17080960] }) ∧
    Meets 0x0D1 powerStatusRead always { words := [w36 0] } (State.ask base 0x0D1 { words := [w36 0] }) ∧
    Meets 0x0D6 powerRead always { words := [w36 0] } (State.ask base 0x0D6 { words := [w36 0] }) ∧
    Meets 0x0E3 paceStatusRead always { words := [w36 0] } (State.ask base 0x0E3 { words := [w36 0] }) ∧
    Meets 0x0E4 paceRead always { words := [w36 0] } (State.ask base 0x0E4 { words := [w36 0] }) :=
  ⟨meets rfl rfl rfl base_takes (by decide +kernel) (by decide +kernel),
    meets rfl rfl rfl base_takes (by decide +kernel) trivial,
    meets rfl rfl rfl base_takes (by decide +kernel) trivial,
    meets rfl rfl rfl base_takes (by decide +kernel) trivial,
    meets rfl rfl rfl base_takes (by decide +kernel) (by decide +kernel),
    meets rfl rfl rfl base_takes (by decide +kernel) trivial,
    meets rfl rfl rfl base_takes (by decide +kernel) trivial,
    meets rfl rfl rfl base_takes (by decide +kernel) trivial,
    meets rfl rfl rfl base_takes (by decide +kernel) trivial,
    meets rfl rfl rfl base_takes (by decide +kernel) trivial⟩

theorem witness_WakeCommandsHoldReleaseAndRead :
    Meets 0x0F1 wakePolicyWrite always { words := [w36 0, w36 0, w36 0] } (State.ask base 0x0F1 { words := [w36 0, w36 0, w36 0] }) ∧
    Meets 0x0F2 wakeConfigWrite always { words := [w36 8552448, w36 4194304, w36 0] } (State.ask base 0x0F2 { words := [w36 8552448, w36 4194304, w36 0] }) ∧
    Meets 0x0F3 wakeHold (fun r s => r.fld 1 35 34 = 0 ∧ s.pow.mode = .awake) { words := [w36 2097152] } (State.ask base 0x0F3 { words := [w36 2097152] }) ∧
    Meets 0x0F3 wakeHold (fun r s => r.fld 1 35 34 = 1 ∧ hostPaths.idxOf r.path ∈ s.holders) { words := [w36 17181966336] } (State.ask ({ base with pow := { base.pow with holds := [(4, some { until_ := 5 })] } }) 0x0F3 { words := [w36 17181966336] }) ∧
    Meets 0x0F3 wakeHold (fun r s => 2 ≤ r.fld 1 35 34 ∧ s.pow.mode = .awake ∧ s.pow.wake.sleepEn = true ∧ s.holders = [] ∧ s.follows = false) { words := [w36 34361835520] } (State.ask ({ base with pow := { base.pow with wake := { base.pow.wake with sleepEn := true } } }) 0x0F3 { words := [w36 34361835520] }) ∧
    Meets 0x0F4 wakeStatusRead always { words := [w36 0] } (State.ask base 0x0F4 { words := [w36 0] }) ∧
    Meets 0x0F5 wakeLogRead always { words := [w36 33554432] } (State.ask base 0x0F5 { words := [w36 33554432] }) ∧
    Meets 0x0F6 wakeRead always { words := [w36 0] } (State.ask base 0x0F6 { words := [w36 0] }) :=
  ⟨meets rfl rfl rfl base_takes (by decide +kernel) trivial,
    meets rfl rfl rfl base_takes (by decide +kernel) trivial,
    meets rfl rfl rfl base_takes (by decide +kernel) (by decide +kernel),
    meets rfl rfl rfl (by refine ⟨rfl, ?_, ?_, rfl, rfl, rfl, rfl⟩ <;> decide) (by decide +kernel) (by decide +kernel),
    meets rfl rfl rfl (by refine ⟨rfl, ?_, ?_, rfl, rfl, rfl, rfl⟩ <;> decide) (by decide +kernel) (by decide +kernel),
    meets rfl rfl rfl base_takes (by decide +kernel) trivial,
    meets rfl rfl rfl base_takes (by decide +kernel) trivial,
    meets rfl rfl rfl base_takes (by decide +kernel) trivial⟩

theorem witness_StackAndDiagnosisCommands :
    Meets 0x021 diagRead (fun r s => addrMember (r.fld 1 31 0) = s.sys.member) { path := .service, words := [w36 5242880, w36 268435456] } (State.ask base 0x021 { path := .service, words := [w36 5242880, w36 268435456] }) ∧
    Meets 0x021 diagRead (fun r s => addrMember (r.fld 1 31 0) ≠ s.sys.member ∧ (s.portToMember (addrMember (r.fld 1 31 0))).isSome = true) { path := .service, words := [w36 1078984704, w36 268435456] } (State.ask hemBase 0x021 { path := .service, words := [w36 1078984704, w36 268435456] }) ∧
    Meets 0x061 stackStatusRead always { words := [w36 0] } (State.ask base 0x061 { words := [w36 0] }) ∧
    Meets 0x062 stackRelay always { words := [w36 17179869184, w36 16777216] } (State.ask hemBase 0x062 { words := [w36 17179869184, w36 16777216] }) ∧
    Meets 0x063 stackDesignate (fun r _ => r.bit 1 35 = true) { words := [w36 34359738368] } (State.ask ({ base with stk := { base.stk with mode := .acting } }) 0x063 { words := [w36 34359738368] }) ∧
    Meets 0x063 stackDesignate (fun r _ => r.bit 1 35 = false) { words := [w36 0] } (State.ask ({ base with stk := { base.stk with mode := .orphan } }) 0x063 { words := [w36 0] }) :=
  ⟨meets rfl rfl rfl base_takes (by decide +kernel) (by decide +kernel),
    meets rfl rfl rfl (by refine ⟨rfl, ?_, ?_, rfl, rfl, rfl, rfl⟩ <;> decide) (by decide +kernel) (by decide +kernel),
    meets rfl rfl rfl base_takes (by decide +kernel) trivial,
    meets rfl rfl rfl (by refine ⟨rfl, ?_, ?_, rfl, rfl, rfl, rfl⟩ <;> decide) (by decide +kernel) trivial,
    meets rfl rfl rfl (by refine ⟨rfl, ?_, ?_, rfl, rfl, rfl, rfl⟩ <;> decide) (by decide +kernel) (by decide +kernel),
    meets rfl rfl rfl (by refine ⟨rfl, ?_, ?_, rfl, rfl, rfl, rfl⟩ <;> decide) (by decide +kernel) (by decide +kernel)⟩

theorem witness_FaultAndMaintenanceCommands :
    Meets 0x031 faultStatusRead always { words := [] } (State.ask base 0x031 { words := [] }) ∧
    Meets 0x032 faultLogRead always { words := [w36 524288] } (State.ask base 0x032 { words := [w36 524288] }) ∧
    Meets 0x034 faultDieReload always { words := [w36 8589934592] } (State.ask ({ base with sys := { base.sys with present := 61 } }) 0x034 { words := [w36 8589934592] }) ∧
    Meets 0x051 maintStatusRead always { words := [] } (State.ask base 0x051 { words := [] }) ∧
    Meets 0x052 maintExclWrite always { words := [w36 2003828736] } (State.ask base 0x052 { words := [w36 2003828736] }) :=
  ⟨meets rfl rfl rfl base_takes (by decide +kernel) trivial,
    meets rfl rfl rfl base_takes (by decide +kernel) trivial,
    meets rfl rfl rfl (by refine ⟨rfl, ?_, ?_, rfl, rfl, rfl, rfl⟩ <;> decide) (by decide +kernel) trivial,
    meets rfl rfl rfl base_takes (by decide +kernel) trivial,
    meets rfl rfl rfl base_takes (by decide +kernel) trivial⟩

/-- A frame of 64 bytes from port 2. -/
def frame64 : FrameSt := { inPort := 2, bytes := List.replicate 64 0 }

/-- It has a decision. -/
def decided64 : FrameSt := { frame64 with mode := .decided, desc := some {} }

/-- The West fabric with built pools on both dies. -/
def onWest (f : FabSt) : State := { base with fabW := f, poolW := { built := true }, poolE := { built := true } }

/-- An engine whose next word has OP `op`. -/
def opBase (op : Nat) : State :=
  { onWest { frames := [(0, { frame64 with mode := .parsing })], nextFid := 1, engines := [(0, { fid := some 0, win := frame64.bytes })] } with
    tab := { prog := [(0, some (pack [(32, 4, op), (23, 2, 1)]))] } }

/-- An activation that waits. -/
def actBase (a : Act) : State := { base with tab := { act := some a } }

/-- Port `p` is up. -/
def upBase (p : Nat) : State := { base with ports := [(p, { mode := .up })], poolW := { built := true }, poolE := { built := true } }

/-- A copy at output `o`. -/
def sends (o : Nat) (m : CopyMode) : Copy := { out := o, mode := m }

/-- A decided frame with one copy. -/
def copied (o : Nat) (m : CopyMode) : FrameSt := { decided64 with copies := [sends o m], stored := 2 }

/-- Output 2 sends a frame. -/
def txBase (f : FrameSt) (t : TxSt) : State :=
  { onWest { frames := [(0, f)], nextFid := 1, egr := { tx := [(2, t)] } } with
    egr := { preempt := 255, mm := [(2, { en := true, verifyEn := false, verify := .disabled })], gates := [(2, { hold := true })] },
    ports := [(2, { mode := .up })] }

/-- A message buffer in use. -/
def bufBase (k : Nat) : State := { base with poolW := { built := true, mp64 := [(0, { inUse := true, owner := 3, share := k })] } }

/-- A MAC merge of port 2. -/
def mmBase (m : MmSt) : State := { base with egr := { mm := [(2, m)] }, ports := [(2, { mode := .up })] }

theorem witness_FramesEnterStagingAndParseEngines :
    (∃ (port : Nat) (bytes : List Byte) (hdr : List Byte) (phy : Bool) (sec : SecRx) (dt : Nat) (s : State),
      26 ≤ port ∧ port < 28 ∧ s.has (dieOfPort port).num = true ∧ (s.pool (dieOfPort port)).built = true) ∧
    (∃ (port : Nat) (bytes : List Byte) (hdr : List Byte) (phy : Bool) (sec : SecRx) (dt : Nat) (s : State),
      port ≤ 25 ∧ (s.port port).mode = .up ∧ s.isHem port = false ∧ (s.port port).secy.enable = false ∧ isGptp bytes = false ∧ s.has (dieOfPort port).num = true ∧ (s.pool (dieOfPort port)).built = true) ∧
    (∃ (port : Nat) (bytes : List Byte) (hdr : List Byte) (phy : Bool) (sec : SecRx) (n : Nat) (dt : Nat) (s : State),
      port ≤ 25 ∧ (s.port port).mode = .up ∧ (s.mm port).en = true) ∧
    (∃ (port : Nat) (bytes : List Byte) (hdr : List Byte) (phy : Bool) (sec : SecRx) (n : Nat) (dt : Nat) (s : State),
      port ≤ 25 ∧ (s.port port).mode = .up ∧ (s.mm port).en = true) ∧
    (∃ (d : Fab) (e : Nat) (port : Nat) (fid : Nat) (f : FrameSt) (s : State),
      (s.fab d).frames.find? (fun x => x.2.inPort == port && x.2.mode == .staged) = some (fid, f) ∧ s.engineFree d e = true ∧ 64 ≤ f.len ∧ (128 < f.len ∨ (f.fcsOk = true ∧ f.phyErr = false))) ∧
    (∃ (d : Fab) (e : Nat) (fid : Nat) (rest : List Nat) (f : FrameSt) (s : State),
      (s.fab d).second = fid :: rest ∧ (s.fab d).frame fid = some f ∧ (e = 22 ∨ e = 23) ∧ (s.engine d e).fid = none) ∧
    (∃ (d : Fab) (e : Nat) (fid : Nat) (f : FrameSt) (s : State),
      (s.engine d e).fid = some fid ∧ (s.fab d).frame fid = some f ∧ (s.engine d e).done = true ∧ s.inTagOrder f (s.engine d e).second = true) ∧
    (∃ (d : Fab) (fid : Nat) (f : FrameSt) (s : State),
      (s.fab d).frame fid = some f ∧ f.mode = .decided ∧ f.seamFrom = none ∧ f.own = none ∧ f.stored < f.words) ∧
    (∃ (d : Fab) (fid : Nat) (dt : Nat) (f : FrameSt) (s : State),
      (s.fab d).frame fid = some f ∧ f.mode = .decided ∧ f.seamFrom = none ∧ f.own = none ∧ f.ended = false ∧ f.stored = f.words) :=
  ⟨⟨26, frame64.bytes, [], false, .clear, 0, onWest {}, by decide +kernel⟩,
    ⟨2, frame64.bytes, [], false, .clear, 0, upBase 2, by decide +kernel⟩,
    ⟨2, frame64.bytes, [], false, .clear, 2, 0, { upBase 2 with egr := { mm := [(2, { en := true })] } }, by decide +kernel⟩,
    ⟨25, [], [], false, .clear, 2, 0, { upBase 25 with egr := { mm := [(25, { en := true })] } }, by decide +kernel⟩,
    ⟨.west, 0, 2, 0, frame64, onWest { frames := [(0, frame64)], nextFid := 1 }, by decide +kernel⟩,
    ⟨.west, 22, 0, [], { frame64 with mode := .waitSecond }, onWest { frames := [(0, { frame64 with mode := .waitSecond })], nextFid := 1, second := [0] }, by decide +kernel⟩,
    ⟨.west, 0, 0, { frame64 with mode := .parsing }, onWest { frames := [(0, { frame64 with mode := .parsing })], nextFid := 1, engines := [(0, { fid := some 0, done := true })] }, by decide +kernel⟩,
    ⟨.west, 0, decided64, onWest { frames := [(0, decided64)], nextFid := 1 }, by decide +kernel⟩,
    ⟨.west, 0, 0, { decided64 with stored := 2 }, onWest { frames := [(0, { decided64 with stored := 2 })], nextFid := 1 }, by decide +kernel⟩⟩

theorem witness_ParseInstructionsStepTheEngine :
    (∃ (d : Fab) (e : Nat) (s : State),
      let g := s.engine d e
      let w := s.tab.progWord g.prog g.pc
      let g1 : Engine := { g with pc := g.pc + 1, steps := g.steps + 1 }
      s.parseReady d e 0 = true) ∧
    (∃ (d : Fab) (e : Nat) (s : State),
      let g := s.engine d e
      let w := s.tab.progWord g.prog g.pc
      let g1 : Engine := { g with pc := g.pc + 1, steps := g.steps + 1 }
      s.parseReady d e 1 = true) ∧
    (∃ (d : Fab) (e : Nat) (s : State),
      let g := s.engine d e
      let w := s.tab.progWord g.prog g.pc
      let g1 : Engine := { g with pc := g.pc + 1, steps := g.steps + 1 }
      s.parseReady d e 2 = true) ∧
    (∃ (d : Fab) (e : Nat) (s : State),
      let g := s.engine d e
      let w := s.tab.progWord g.prog g.pc
      let g1 : Engine := { g with pc := g.pc + 1, steps := g.steps + 1 }
      s.parseReady d e 3 = true) ∧
    (∃ (d : Fab) (e : Nat) (s : State),
      let g := s.engine d e
      let w := s.tab.progWord g.prog g.pc
      let g1 : Engine := { g with pc := g.pc + 1, steps := g.steps + 1 }
      s.parseReady d e 4 = true) ∧
    (∃ (d : Fab) (e : Nat) (s : State),
      let g := s.engine d e
      let w := s.tab.progWord g.prog g.pc
      let g1 : Engine := { g with pc := g.pc + 1, steps := g.steps + 1 }
      s.parseReady d e 5 = true) ∧
    (∃ (d : Fab) (e : Nat) (s : State),
      let g := s.engine d e
      let w := s.tab.progWord g.prog g.pc
      let g1 : Engine := { g with pc := g.pc + 1, steps := g.steps + 1 }
      s.parseReady d e 6 = true) ∧
    (∃ (d : Fab) (e : Nat) (s : State),
      let g := s.engine d e
      let w := s.tab.progWord g.prog g.pc
      let g1 : Engine := { g with pc := g.pc + 1, steps := g.steps + 1 }
      s.parseReady d e 7 = true) ∧
    (∃ (d : Fab) (e : Nat) (s : State),
      let g := s.engine d e
      let w := s.tab.progWord g.prog g.pc
      let g1 : Engine := { g with pc := g.pc + 1, steps := g.steps + 1 }
      s.parseReady d e 8 = true) ∧
    (∃ (d : Fab) (e : Nat) (s : State),
      let g := s.engine d e
      let w := s.tab.progWord g.prog g.pc
      let g1 : Engine := { g with pc := g.pc + 1, steps := g.steps + 1 }
      s.parseReady d e 9 = true ∧ g.res.lenD = none ∧ g.whole = false) ∧
    (∃ (d : Fab) (e : Nat) (s : State),
      let g := s.engine d e
      let w := s.tab.progWord g.prog g.pc
      let g1 : Engine := { g with pc := g.pc + 1, steps := g.steps + 1 }
      s.parseReady d e 10 = true) ∧
    (∃ (d : Fab) (e : Nat) (s : State),
      let g := s.engine d e
      let w := s.tab.progWord g.prog g.pc
      let g1 : Engine := { g with pc := g.pc + 1, steps := g.steps + 1 }
      g.fid.isSome = true ∧ g.done = false ∧ g.budget ≤ g.steps) :=
  ⟨⟨.west, 0, opBase 0, by decide +kernel⟩,
    ⟨.west, 0, opBase 1, by decide +kernel⟩,
    ⟨.west, 0, opBase 2, by decide +kernel⟩,
    ⟨.west, 0, opBase 3, by decide +kernel⟩,
    ⟨.west, 0, opBase 4, by decide +kernel⟩,
    ⟨.west, 0, opBase 5, by decide +kernel⟩,
    ⟨.west, 0, opBase 6, by decide +kernel⟩,
    ⟨.west, 0, opBase 7, by decide +kernel⟩,
    ⟨.west, 0, opBase 8, by decide +kernel⟩,
    ⟨.west, 0, opBase 9, by decide +kernel⟩,
    ⟨.west, 0, opBase 10, by decide +kernel⟩,
    ⟨.west, 0, { opBase 0 with fabW := { frames := [(0, { frame64 with mode := .parsing })], nextFid := 1, engines := [(0, { fid := some 0, steps := 48 })] } }, by decide +kernel⟩⟩

theorem witness_ActivationsSwitchGenerationsAndMatrix :
    (∃ (a : Act) (s : State),
      s.tab.act = some a ∧ a.reached = false) ∧
    (∃ (a : Act) (s : State),
      s.tab.act = some a ∧ a.reached = false ∧ a.kind ≠ .policy) ∧
    (∃ (a : Act) (s : State),
      s.tab.act = some a ∧ a.reached = false ∧ a.kind = .rule) ∧
    (∃ (a : Act) (s : State),
      s.tab.act = some a ∧ a.reached = false ∧ a.kind = .fwd) ∧
    (∃ (a : Act) (s : State),
      s.tab.act = some a ∧ a.reached = false ∧ a.kind = .policy) ∧
    (∃ (a : Act) (s : State),
      s.tab.act = some a ∧ a.kind = .rule ∧ a.reached = true ∧ s.oldGen = false) ∧
    (∃ (a : Act) (s : State),
      s.tab.act = some a ∧ a.kind = .fwd ∧ a.reached = true) :=
  ⟨⟨{ kind := .rule }, actBase { kind := .rule }, by decide +kernel⟩,
    ⟨{ kind := .rule }, actBase { kind := .rule }, by decide +kernel⟩,
    ⟨{ kind := .rule }, actBase { kind := .rule }, by decide +kernel⟩,
    ⟨{ kind := .fwd }, actBase { kind := .fwd }, by decide +kernel⟩,
    ⟨{ kind := .policy, rows := List.replicate 16 0 }, actBase { kind := .policy, rows := List.replicate 16 0 }, by decide +kernel⟩,
    ⟨{ kind := .rule, reached := true }, actBase { kind := .rule, reached := true }, by decide +kernel⟩,
    ⟨{ kind := .fwd, reached := true }, actBase { kind := .fwd, reached := true }, by decide +kernel⟩⟩

theorem witness_TableTimersAndCpuDelivery :
    (∃ (q : LearnReq) (qs : List LearnReq) (s : State),
      (s.fab s.learnDie).learnQ = q :: qs) ∧
    (∃ (d : Fab) (i : Nat) (s : State),
      (Tbl.get FragEnt.dflt (s.fab d).frags i).valid = true) ∧
    (∃ (d : Fab) (fn : Nat) (s : State),
      fn < 1024 ∧ (s.frerDyn d fn).takeAny = false ∧ ((Tbl.get FrerCfg.dflt s.tab.frer fn).mode = 2 ∨ (Tbl.get FrerCfg.dflt s.tab.frer fn).mode = 3)) ∧
    (∃ (port : Nat) (s : State),
      port ≤ 25 ∧ (s.port port).mode = .up ∧ inMask s.tab.linkDown port = true) ∧
    (∃ (d : Fab) (fid : Nat) (p : Nat) (i : Nat) (f : FrameSt) (c : Copy) (s : State) (s1 : State),
      s.cpuServed d = true ∧ ((List.range 32).reverse.findSome? fun q => (s.fab d).headOf 13 q) = some (fid, f, c) ∧ s.allocMsg d 0x47 (s.cpuContent d f c).length true = (s1, some (p, i))) :=
  ⟨⟨{ mac := 1, vid := 1 }, [], onWest { learnQ := [{ mac := 1, vid := 1 }] }, by decide +kernel⟩,
    ⟨.west, 255, onWest { frags := [(255, { valid := true })] }, by decide +kernel⟩,
    ⟨.west, 1023, { onWest { frer := [(1023, { takeAny := false })] } with tab := { frer := [(1023, { mode := 2 })] } }, by decide +kernel⟩,
    ⟨25, { upBase 25 with tab := { linkDown := setMask 0 25 true } }, by decide +kernel⟩,
    ⟨.west, 0, 2, 0, copied 13 .queued, sends 13 .queued, onWest { frames := [(0, copied 13 .queued)], nextFid := 1 }, ((onWest { frames := [(0, copied 13 .queued)], nextFid := 1 }).allocMsg .west 0x47 ((onWest { frames := [(0, copied 13 .queued)], nextFid := 1 }).cpuContent .west (copied 13 .queued) (sends 13 .queued)).length true).1, by decide +kernel⟩⟩

theorem witness_SeamLinksCarryAndLoseWords :
    (∃ (d : Fab) (link : Nat) (fid : Nat) (f : FrameSt) (c : Copy) (rest : List (Nat × FrameSt × Copy)) (s : State),
      s.seamUp link = true ∧ ((s.fab d).seamCopies fun _ c => c.mode == .sending && c.link == link).length < 16 ∧ ((s.fab d).seamCopies fun f c => c.mode == .queued && s.seamLink f c == link) = (fid, f, c) :: rest) ∧
    (∃ (d : Fab) (link : Nat) (fid : Nat) (f : FrameSt) (c : Copy) (rest : List (Nat × FrameSt × Copy)) (s : State),
      s.seamUp link = true ∧ ((s.fab d).seamCopies fun f c => c.mode == .sending && c.link == link && seamReady f c) = (fid, f, c) :: rest) ∧
    (∃ (d : Fab) (link : Nat) (w : SeamWord) (ws : List SeamWord) (s : State),
      Tbl.get nilAt (s.fab d.other).seamWords link = w :: ws) ∧
    (∃ (link : Nat) (west : Bool) (east : Bool) (s : State),
      s.seamUp link = true ∧ (west || east) = true) :=
  ⟨⟨.west, 1, 0, { copied 16 .queued with desc := some { pin := 2 } }, sends 16 .queued, [], { onWest { frames := [(0, { copied 16 .queued with desc := some { pin := 2 } })], nextFid := 1 } with sys := { base.sys with links := 15 } }, by decide +kernel⟩,
    ⟨.west, 0, 0, copied 16 .sending, sends 16 .sending, [], { onWest { frames := [(0, copied 16 .sending)], nextFid := 1 } with sys := { base.sys with links := 15 } }, by decide +kernel⟩,
    ⟨.east, 1, { fid := 0 }, [], onWest { frames := [(0, copied 16 .sending)], nextFid := 1, seamWords := [(1, [{ fid := 0 }])] }, by decide +kernel⟩,
    ⟨1, true, false, { base with sys := { base.sys with links := 15 } }, by decide +kernel⟩⟩

theorem witness_OutputsSelectFinishAndPreempt :
    (∃ (d : Fab) (out : Nat) (k : Nat × Nat) (f : FrameSt) (c : Copy) (s : State),
      (s.tx d out).cur = some k ∧ s.copyAt d k = some (f, c) ∧ (s.tx d out).waitPlca = false ∧ (f.ended = true ∨ c.bad.isSome = true)) ∧
    (∃ (d : Fab) (out : Nat) (k : Nat × Nat) (s : State),
      (s.tx d out).cur = some k ∧ s.copyAt d k = none) ∧
    (∃ (d : Fab) (out : Nat) (k : Nat × Nat) (f : FrameSt) (c : Copy) (s : State),
      (s.tx d out).cur = some k ∧ s.copyAt d k = some (f, c) ∧ f.ended = false ∧ c.bad = none ∧ (s.tx d out).waitPlca = false) ∧
    (∃ (d : Fab) (out : Nat) (dt : Nat) (k : Nat × Nat) (f : FrameSt) (c : Copy) (s : State),
      ((s.adv dt).tx d out).cur = some k ∧ (s.adv dt).copyAt d k = some (f, c) ∧ (s.adv dt).preempts d f out = true ∧ ((s.adv dt).tx d out).paused = none ∧ ((s.adv dt).tx d out).next = none ∧ (((s.adv dt).choose d out true).isSome || (s.adv dt).inHold d out) = true ∧ (s.adv dt).cutPoint d out + 72 ≤ ((s.adv dt).tx d out).dur) ∧
    (∃ (port : Nat) (s : State),
      port ≤ 25) :=
  ⟨⟨.west, 2, (0, 0), { copied 2 .sending with ended := true }, sends 2 .sending, txBase { copied 2 .sending with ended := true } { cur := some (0, 0), dur := 88 }, by decide +kernel⟩,
    ⟨.west, 2, (7, 0), txBase (copied 2 .sending) { cur := some (7, 0) }, by decide +kernel⟩,
    ⟨.west, 2, (0, 0), copied 2 .sending, sends 2 .sending, txBase (copied 2 .sending) { cur := some (0, 0), dur := 88 }, by decide +kernel⟩,
    ⟨.west, 2, 0, (0, 0), { copied 2 .sending with desc := some { preempt := true } }, sends 2 .sending, txBase { copied 2 .sending with desc := some { preempt := true } } { cur := some (0, 0), dur := 1000 }, by decide +kernel⟩,
    ⟨25, base, by decide +kernel⟩⟩

theorem witness_PoolOperationsAnswerTheirRequester :
    (∃ (d : Fab) (x : Nat) (p : Nat) (i : Nat) (s : State),
      1 ≤ p ∧ p ≤ 3 ∧ (s.buf d p i).inUse = true ∧ (s.buf d p i).share ≤ 1 ∧ (s.buf d p i).owner = x) ∧
    (∃ (d : Fab) (x : Nat) (p : Nat) (i : Nat) (k : Nat) (s : State),
      1 ≤ p ∧ p ≤ 3 ∧ (s.buf d p i).inUse = true ∧ (s.buf d p i).owner = x ∧ (s.buf d p i).share + k ≤ 31) ∧
    (∃ (d : Fab) (x : Nat) (p : Nat) (i : Nat) (s : State),
      1 ≤ p ∧ p ≤ 3 ∧ (s.buf d p i).inUse = true ∧ 2 < (s.buf d p i).share) ∧
    (∃ (d : Fab) (x : Nat) (p : Nat) (i : Nat) (s : State),
      1 ≤ p ∧ p ≤ 3 ∧ (s.buf d p i).inUse = true ∧ (s.buf d p i).share = 2) :=
  ⟨⟨.west, 3, 1, 0, bufBase 1, by decide +kernel⟩,
    ⟨.west, 3, 1, 0, 30, bufBase 1, by decide +kernel⟩,
    ⟨.west, 3, 1, 0, bufBase 3, by decide +kernel⟩,
    ⟨.west, 4, 1, 0, bufBase 2, by decide +kernel⟩⟩

theorem witness_GateVerificationAndSamplerEvents :
    (∃ (port : Nat) (s : State),
      port ≤ 25 ∧ (s.gate port).mode = .pending) ∧
    (∃ (port : Nat) (s : State),
      port ≤ 25 ∧ (s.gate port).mode = .copying) ∧
    (∃ (port : Nat) (s : State),
      port ≤ 25 ∧ (s.mm port).en = true ∧ (s.mm port).verifyEn = true ∧ (s.port port).mode = .up ∧ ((s.mm port).verify = .initial ∨ (s.mm port).verify = .verifying)) ∧
    (∃ (port : Nat) (s : State),
      port ≤ 25 ∧ (s.mm port).en = true ∧ (s.mm port).verifyEn = true ∧ (s.port port).mode = .up ∧ ((s.mm port).verify = .initial ∨ (s.mm port).verify = .verifying)) ∧
    (∃ (port : Nat) (s : State),
      port ≤ 25 ∧ (s.mm port).en = true ∧ (s.mm port).verify = .verifying) ∧
    (∃ (port : Nat) (s : State),
      port ≤ 25 ∧ (s.mm port).en = true) ∧
    (∃ (d : Fab) (i : Nat) (s : State),
      i ≤ 3 ∧ (s.sampler d i).enable = true) :=
  ⟨⟨2, { base with egr := { gates := [(2, { mode := .pending, ct := 8 })] } }, by decide +kernel⟩,
    ⟨2, { base with egr := { gates := [(2, { mode := .copying })] } }, by decide +kernel⟩,
    ⟨2, mmBase { en := true, verify := .initial, attempts := 2 }, by decide +kernel⟩,
    ⟨2, mmBase { en := true, verify := .verifying, attempts := 3 }, by decide +kernel⟩,
    ⟨2, mmBase { en := true, verify := .verifying }, by decide +kernel⟩,
    ⟨2, mmBase { en := true, verify := .verifying }, by decide +kernel⟩,
    ⟨.west, 3, onWest { egr := { samplers := [(3, { enable := true })] } }, by decide +kernel⟩⟩

/-- A path of function 0 of the West die, its link up. -/
def pathBase (q : PathSt) : State := { base with host := { w0 := q, pcieW := true }, poolW := { built := true } }

/-- Reads of event register `n` at whole and half width are compared on this state. -/
def noticeFrame : List Byte :=
  let b := [0, 0, 0, 0, 0, 2, 0, 0, 0, 0, 0, 0, 0x88, 0xB5, 4, 0, 0, 4] ++ List.replicate 20 (0xFF : Byte)
  b ++ fcsOf b

/-- The window of a request of no words: HOST.VERSION_READ. -/
def doorBase : State := pathBase { window := [(0, pack [(24, 12, 2)])] }

/-- The same state once the mailbox has taken the window. -/
def doorTaken : State := (doorBase.modPath .pcieW0 fun q => { q with writeTag := (q.writeTag + 1) % 65536 }).raiseHost .pcieW0 .reqFree

/-- One ring of the West function 0. -/
def ringBase (tx rx : Tbl Ring) : State := pathBase { tx := tx, rx := rx }

/-- Domain `d` is on. -/
def domBase (d : Nat) : State := { base with pow := { doms := [(d, .on)] } }

theorem witness_PathRegisterAccesses :
    (∃ (p : Path) (w : Word) (ws : List Word) (s : State),
      hasRegs p = true ∧ s.pathUp p = true ∧ (s.path p).fifo = w :: ws) ∧
    (∃ (p : Path) (s : State),
      hasRegs p = true ∧ s.pathUp p = true ∧ (s.path p).fifo = []) ∧
    (∃ (p : Path) (s : State),
      hasRegs p = true ∧ s.pathUp p = true) ∧
    (∃ (p : Path) (reg : Nat) (s : State),
      hasRegs p = true ∧ s.pathUp p = true ∧ reg ≤ 3) ∧
    (∃ (p : Path) (reg : Nat) (s : State),
      hasRegs p = true ∧ s.pathUp p = true ∧ reg ≤ 3 ∧ p ≠ .spi) ∧
    (∃ (p : Path) (reg : Nat) (w : Word) (s : State),
      hasRegs p = true ∧ s.pathUp p = true ∧ reg ≤ 3) ∧
    (∃ (p : Path) (v : Nat) (s : State),
      p.isPcie = true ∧ s.pathUp p = true) ∧
    (∃ (p : Path) (i : Nat) (w : Word) (s : State),
      hasRegs p = true ∧ s.pathUp p = true ∧ i < 256) ∧
    (∃ (p : Path) (i : Nat) (w : Word) (s : State),
      hasRegs p = true ∧ s.pathUp p = true ∧ i < 256 ∧ p.isPcie = true) ∧
    (∃ (p : Path) (i : Nat) (w : Word) (s : State),
      hasRegs p = true ∧ s.pathUp p = true ∧ i < 256) ∧
    (∃ (p : Path) (bs : List (Fab × Nat × Nat)) (s : State) (s2 : State),
      p.isPcie = true ∧ s.pathUp p = true ∧ s.accepting = true ∧ (s.path p).reqFree = true ∧ (s.path p).waiting = [] ∧ (s.path p).outstanding < 16 ∧ ((s.path p).windowReq p).2.isLocal = false ∧ knownOp ((s.path p).windowReq p).1 = true ∧ ((s.modPath p fun q => { q with writeTag := (q.writeTag + 1) % 65536 }).raiseHost p .reqFree).requestBufs ((s.path p).windowReq p).2 = (s2, some bs)) ∧
    (∃ (p : Path) (h : HeldRsp) (rest : List HeldRsp) (s : State),
      (s.path p).held = h :: rest ∧ (s.path p).fifo.length + h.words.length ≤ 1024) :=
  ⟨⟨.pcieW0, w36 5, [w36 6], pathBase { fifo := [w36 5, w36 6], popcnt := 4095 }, by decide +kernel⟩,
    ⟨.pcieW0, pathBase {}, by decide +kernel⟩,
    ⟨.pcieW0, pathBase { fifo := [w36 5, w36 6], left := 1 }, by decide +kernel⟩,
    ⟨.pcieW0, 3, pathBase { evDev := { seq := 1, raised := [(0, 1)], upper := 3 } }, by decide +kernel⟩,
    ⟨.pcieW0, 3, pathBase { evDev := { seq := 1, raised := [(0, 1)], upper := 3 } }, by decide +kernel⟩,
    ⟨.pcieW0, 3, pack [(28, 8, 255)], pathBase { evDev := { seq := 1, raised := [(0, 1)] } }, by decide +kernel⟩,
    ⟨.pcieW0, 15, pathBase {}, by decide +kernel⟩,
    ⟨.pcieW0, 255, w36 9, pathBase {}, by decide +kernel⟩,
    ⟨.pcieW0, 255, w36 9, pathBase { upper := 7 }, by decide +kernel⟩,
    ⟨.pcieW0, 255, pack [(25, 11, 1024)], pathBase {}, by decide +kernel⟩,
    ⟨.pcieW0, [(.west, 1, 0)], doorBase, (doorTaken.requestBufs ((doorBase.path .pcieW0).windowReq .pcieW0).2).1, by decide +kernel⟩,
    ⟨.pcieW0, { words := [w36 1] }, [], pathBase { held := [{ words := [w36 1] }], fifo := List.replicate 1023 0 }, by decide +kernel⟩⟩

theorem witness_LockRegistersTakeThePostedWrite :
    (∃ (p : Path) (k : Nat) (w : Word) (s : State),
      hasRegs p = true ∧ s.pathUp p = true ∧ k ≤ 5 ∧ (s.path p).posted = none) ∧
    (∃ (p : Path) (k : Nat) (w : Word) (s : State),
      hasRegs p = true ∧ (s.path p).posted = some (k, w) ∧ (∀ q, q ≠ p → (s.path q).posted = none)) ∧
    (∃ (p : Path) (w : Word) (s : State),
      hasRegs p = true ∧ s.pathUp p = true ∧ (∀ q, (s.path q).posted = none)) :=
  ⟨⟨.pcieW0, 5, 0, pathBase {}, by decide +kernel⟩,
    ⟨.pcieW0, 5, 0, pathBase { posted := some (5, 0) }, by decide +kernel, by decide +kernel, by intro q h; cases q <;> first | rfl | contradiction⟩,
    ⟨.pcieW0, pack [(35, 1, 1), (0, 16, 2)], pathBase {}, by decide +kernel, by decide +kernel, by intro q; cases q <;> rfl⟩⟩

theorem witness_RingsMoveFrames :
    (∃ (p : Path) (rx : Bool) (n : Nat) (w : Word) (s : State),
      p.isPcie = true ∧ s.pathUp p = true ∧ n < 32 ∧ bit1 w 35 = true ∧ 6 ≤ fld w 34 31 ∧ fld w 34 31 ≤ 12 ∧ (rx = true → 4 ≤ fld w 30 22 ∧ fld w 30 22 ≤ 146)) ∧
    (∃ (p : Path) (rx : Bool) (n : Nat) (w : Word) (s : State),
      p.isPcie = true ∧ s.pathUp p = true ∧ n < 32 ∧ bit1 w 35 = true ∧ 6 ≤ fld w 34 31 ∧ fld w 34 31 ≤ 12 ∧ (rx = true → 4 ≤ fld w 30 22 ∧ fld w 30 22 ≤ 146)) ∧
    (∃ (p : Path) (rx : Bool) (n : Nat) (w : Word) (s : State),
      p.isPcie = true ∧ s.pathUp p = true ∧ n < 32 ∧ bit1 w 35 = true ∧ (fld w 34 31 < 6 ∨ 12 < fld w 34 31)) ∧
    (∃ (p : Path) (rx : Bool) (n : Nat) (w : Word) (s : State),
      p.isPcie = true ∧ s.pathUp p = true ∧ n < 32 ∧ bit1 w 35 = false) ∧
    (∃ (p : Path) (rx : Bool) (n : Nat) (w : Word) (s : State),
      p.isPcie = true ∧ s.pathUp p = true ∧ n < 32) ∧
    (∃ (d : Fab) (k : Nat) (length : Nat) (dt : Nat) (bytes : List Byte) (err : Bool) (s : State),
      s.started = true ∧ s.pathUp (functionsOf d).1 = true ∧ s.nextTx d = some k) ∧
    (∃ (d : Fab) (k : Nat) (length : Nat) (dt : Nat) (bytes : List Byte) (err : Bool) (s : State),
      s.started = true ∧ s.pathUp (functionsOf d).1 = true ∧ s.nextTx d = some k) ∧
    (∃ (d : Fab) (dt : Nat) (x : Delivery) (s : State),
      (s.host.delivering.find? (fun x => x.path = (functionsOf d).1 ∨ x.path = (functionsOf d).2) = some x) ∧ (s.ring x.path true x.ring).enable = true ∧ (s.ring x.path true x.ring).head ≠ (s.ring x.path true x.ring).tail) ∧
    (∃ (p : Path) (rx : Bool) (n : Nat) (t0 : Nat) (s : State),
      p.isPcie = true ∧ (s.ring p rx n).uncovered = some t0) :=
  ⟨⟨.pcieW0, true, 31, pack [(35, 1, 1), (31, 4, 12), (22, 9, 146)], ringBase [] [], by decide +kernel⟩,
    ⟨.pcieW0, false, 31, pack [(35, 1, 1), (31, 4, 6)], ringBase [] [], by decide +kernel⟩,
    ⟨.pcieW0, false, 31, pack [(35, 1, 1), (31, 4, 13)], ringBase [] [], by decide +kernel⟩,
    ⟨.pcieW0, false, 31, 0, ringBase [(31, { enable := true, head := 3 })] [], by decide +kernel⟩,
    ⟨.pcieW0, false, 31, pack [(16, 16, 65535)], ringBase [] [], by decide +kernel⟩,
    ⟨.west, 63, 60, 0, List.replicate 60 0, false, { ringBase [] [] with host := { pcieW := true, w1 := { tx := [(31, { enable := true, tail := 1 })] } } }, by decide +kernel⟩,
    ⟨.west, 63, 59, 0, List.replicate 60 0, false, { ringBase [] [] with host := { pcieW := true, w1 := { tx := [(31, { enable := true, tail := 1 })] } } }, by decide +kernel⟩,
    ⟨.west, 0, { ring := 31, bytes := List.replicate 200 0 }, { ringBase [] [] with host := { pcieW := true, delivering := [{ ring := 31, bytes := List.replicate 200 0 }], w0 := { rx := [(31, { enable := true, tail := 1, bufSize := 4 })] } } }, by decide +kernel⟩,
    ⟨.pcieW0, true, 31, 5, ringBase [] [(31, { uncovered := some 5 })], by decide +kernel⟩⟩

theorem witness_HostResetsFaultsAndLinks :
    (∃ (p : Path) (s : State),
      p.isPcie = true) ∧
    (∃ (p : Path) (reason : Nat) (addr : Nat) (s : State),
      hasRegs p = true ∧ 1 ≤ reason ∧ reason ≤ 8) ∧
    (∃ (p : Path) (reason : Nat) (addr : Nat) (s : State),
      hasRegs p = true ∧ 1 ≤ reason ∧ reason ≤ 8) ∧
    (∃ (p : Path) (n : Nat) (s : State),
      p.isHost = true) ∧
    (∃ (d : Nat) (n : Nat) (s : State),
      d ≤ 5) ∧
    (∃ (d : Nat) (crc : Nat) (s : State),
      d ≤ 5 ∧ s.has d = true) ∧
    (∃ (d : Nat) (crc : Nat) (s : State),
      d ≤ 5 ∧ s.has d = true) ∧
    (∃ (s : State),
      s.domOn 6 = true ∧ s.host.pcieW = false) ∧
    (∃ (s : State),
      s.domOn 9 = true ∧ s.host.pcieE = false) ∧
    (∃ (a : Byte) (b : Byte) (b0 : Byte) (b1 : Byte) (b2 : Byte) (b3 : Byte) (b4 : Byte) (s : State),
      s.key.ao = true ∧ 0x100 ≤ beVal [a, b] ∧ beVal [a, b] < 0x200) ∧
    (∃ (a : Byte) (b : Byte) (b0 : Byte) (b1 : Byte) (b2 : Byte) (b3 : Byte) (b4 : Byte) (s : State),
      s.key.ao = true ∧ 0x100 ≤ beVal [a, b] ∧ beVal [a, b] < 0x200) ∧
    (∃ (bytes : List Byte) (s : State),
      s.domOn 3 = true ∧ fcsRight bytes = true ∧ dmacOf bytes = s.img.baseMac + 2 ∧ typeOf bytes = 0x88B5 ∧ beVal (slice bytes 16 2) = 4 ∧ 42 ≤ bytes.length ∧ byteAt bytes 14 = 4) :=
  ⟨⟨.pcieW0, pathBase { fifo := [0], upper := 3 }, by decide +kernel⟩,
    ⟨.pcieW0, 8, 0, pathBase {}, by decide +kernel⟩,
    ⟨.pcieW0, 1, 0, pathBase {}, by decide +kernel⟩,
    ⟨.pcieW0, 0, pathBase { fifo := [0, 1], left := 1 }, by decide +kernel⟩,
    ⟨5, 7, base, by decide +kernel⟩,
    ⟨5, 7, { base with sealSt := { commit := [5] } }, by decide +kernel⟩,
    ⟨5, 7, { base with sealSt := { valid := 63, refCrc := [(5, 8)] } }, by decide +kernel⟩,
    ⟨domBase 6, by decide +kernel⟩,
    ⟨domBase 9, by decide +kernel⟩,
    ⟨1, 0, 0, 0, 0, 0, 9, base, by decide +kernel⟩,
    ⟨1, 255, 0, 0, 0, 0, 9, base, by decide +kernel⟩,
    ⟨noticeFrame, domBase 3, by decide +kernel⟩⟩

/-- A start-up state. -/
def startBase (m : StartMode) : State := { base with sys := { start := m, present := 63 } }

/-- Every domain is on. -/
def allOn (s : State) : State := { s with pow := { s.pow with doms := (List.range 16).map fun d => (d, DomMode.on) } }

/-- A sequence that waits for the power-good of its first step. -/
def seqBase (m : StartMode) (d : Nat) : State :=
  { startBase m with pow := { seqs := [(0, some [{ domain := d, action := 1 }])], run := some {} } }

theorem witness_StartUpRunsItsStates :
    (∃ (bk : Bool) (s : State),
      s.key.ao = false) ∧
    (∃ (bk : Bool) (s : State),
      s.key.ao = false) ∧
    (∃ (hem : Bool) (mbr : Nat) (dt : Nat) (s : State),
      s.key.ao = true ∧ s.sys.start = .aoUp) ∧
    (∃ (hem : Bool) (mbr : Nat) (dt : Nat) (s : State),
      s.key.ao = true ∧ s.sys.start = .aoUp) ∧
    (∃ (hem : Bool) (mbr : Nat) (dt : Nat) (s : State),
      s.key.ao = true ∧ s.sys.start = .aoUp) ∧
    (∃ (dt : Nat) (s : State),
      s.sys.start = .clockWait) ∧
    (∃ (dt : Nat) (s : State),
      s.sys.start = .clockWait ∧ s.sys.faultN = false) ∧
    (∃ (volts : Nat) (dt : Nat) (s : State),
      s.sys.start = .supplyWait ∧ s.pow.down = false ∧ s.pow.cfg.on < volts) ∧
    (∃ (dt : Nat) (x : Nat) (s : State),
      s.sys.start = .selftest ∧ (s.coreFit .west || s.coreFit .east) = true) ∧
    (∃ (dt : Nat) (x : Nat) (s : State),
      s.sys.start = .selftest ∧ s.has 0 = true) ∧
    (∃ (dt : Nat) (s : State),
      s.sys.start = .image) ∧
    (∃ (w : Bool) (e : Bool) (dt : Nat) (s : State),
      s.sys.start = .coreBoot ∧ ((w && s.coreFit .west) || (e && s.coreFit .east)) = true) ∧
    (∃ (w : Bool) (e : Bool) (dt : Nat) (s : State),
      s.sys.start = .coreBoot ∧ ((w && s.coreFit .west) || (e && s.coreFit .east)) = true) ∧
    (∃ (s : State),
      s.sys.start = .coreBoot) ∧
    (∃ (dt : Nat) (s : State),
      s.sys.start = .keys) ∧
    (∃ (dt : Nat) (pos : Nat) (idx : Nat) (user : Bool) (s : State),
      s.sys.start = .config ∧ s.img.next = some (user, pos, idx)) ∧
    (∃ (dt : Nat) (pos : Nat) (idx : Nat) (user : Bool) (s : State),
      s.sys.start = .config ∧ s.img.next = some (user, pos, idx)) ∧
    (∃ (dt : Nat) (pos : Nat) (idx : Nat) (user : Bool) (s : State),
      s.sys.start = .config ∧ s.img.next = some (user, pos, idx)) ∧
    (∃ (dt : Nat) (s : State),
      s.sys.start = .locks) ∧
    (∃ (dt : Nat) (s : State),
      s.sys.start = .locks) ∧
    (∃ (s : State),
      s.sys.start = .haltPower ∧ s.sys.retries < 3) :=
  ⟨⟨true, { startBase .aoUp with key := { ao := false, cpd := true, rs := some [0] } }, by decide +kernel⟩,
    ⟨false, { startBase .aoUp with key := { ao := false, cpd := true, rs := some [0] } }, by decide +kernel⟩,
    ⟨true, 3, 0, startBase .aoUp, by decide +kernel⟩,
    ⟨true, 0, 0, startBase .aoUp, by decide +kernel⟩,
    ⟨false, 0, 0, startBase .aoUp, by decide +kernel⟩,
    ⟨5, startBase .clockWait, by decide +kernel⟩,
    ⟨5, startBase .clockWait, by decide +kernel⟩,
    ⟨1001, 0, startBase .supplyWait, by decide +kernel⟩,
    ⟨0, 0, allOn (startBase .selftest), by decide +kernel⟩,
    ⟨0, 9, startBase .selftest, by decide +kernel⟩,
    ⟨0, startBase .image, by decide +kernel⟩,
    ⟨true, true, 0, allOn (startBase .coreBoot), by decide +kernel⟩,
    ⟨false, true, 0, allOn (startBase .coreBoot), by decide +kernel⟩,
    ⟨startBase .coreBoot, by decide +kernel⟩,
    ⟨0, { startBase .keys with locks := { reaction := 1, limit := 5 } }, by decide +kernel⟩,
    ⟨0, 1, 0, true, { startBase .config with img := { runSlot := 0, next := some (true, 1, 0) } }, by decide +kernel⟩,
    ⟨0, 1, 0, true, { startBase .config with img := { runSlot := 0, next := some (true, 1, 0), slotA := [(1, pack [(32, 4, 15)])] } }, by decide +kernel⟩,
    ⟨0, 1, 0, false, { startBase .config with img := { runSlot := 2, next := some (false, 1, 0) } }, by decide +kernel⟩,
    ⟨0, { startBase .locks with img := { slotB := [] } }, by decide +kernel⟩,
    ⟨0, startBase .locks, by decide +kernel⟩,
    ⟨{ startBase .haltPower with sys := { start := .haltPower, faultN := true, retries := 2 } }, by decide +kernel⟩⟩

theorem witness_LossesResetsAndReloads :
    (∃ (dt : Nat) (s : State),
      s.key.ao = true) ∧
    (∃ (dt : Nat) (s : State),
      s.key.ao = true ∧ s.key.cpd = true) ∧
    (∃ (volts : Nat) (dt : Nat) (s : State),
      s.pow.down = true ∧ s.pow.cfg.on < volts) ∧
    (∃ (d : Fab) (s : State),
      s.key.ao = true ∧ inMask s.sys.links (2 + d.bit) = true) ∧
    (∃ (r : SeqRun) (x : SeqStep) (s : State),
      s.pow.run = some r ∧ (s.pow.steps r.seq)[r.step]? = some x ∧ r.waiting = false ∧ 2 ≤ x.domain ∧ s.sys.start = .sequence ∧ x.domain = 2) ∧
    (∃ (r : SeqRun) (x : SeqStep) (s : State),
      s.pow.run = some r ∧ (s.pow.steps r.seq)[r.step]? = some x ∧ r.waiting = false ∧ 2 ≤ x.domain ∧ s.sys.start ≠ .sequence ∧ s.sys.reload = none ∧ domDie x.domain = 0) ∧
    (∃ (die : Nat) (dt : Nat) (s : State),
      1 ≤ die ∧ die ≤ 5 ∧ s.has die = true ∧ s.key.ao = true ∧ s.sys.start ≠ .config) ∧
    (∃ (die : Nat) (dt : Nat) (s : State),
      s.sys.reload = some (die, none) ∧ s.reloaded die = true ∧ s.sys.reloadDue = 0) ∧
    (∃ (dt : Nat) (s : State),
      s.pow.rebuild = true ∧ s.pow.mode = .awake ∧ s.has s.pair.active.num = true) :=
  ⟨⟨3, { base with locks := { policy := true } }, by decide +kernel⟩,
    ⟨0, { base with locks := { policy := true }, key := { cpd := true, rs := some [0] } }, by decide +kernel⟩,
    ⟨1001, 0, { base with locks := { policy := true }, pow := { down := true } }, by decide +kernel⟩,
    ⟨.east, base, by decide +kernel⟩,
    ⟨{}, { domain := 2, action := 1 }, seqBase .sequence 2, by decide +kernel⟩,
    ⟨{}, { domain := 3, action := 1 }, seqBase .forwarding 3, by decide +kernel⟩,
    ⟨5, 0, base, by decide +kernel⟩,
    ⟨5, 0, { base with sys := { base.sys with reload := some (5, none) }, pow := { doms := [(14, .on), (15, .on)] } }, by decide +kernel⟩,
    ⟨0, { base with pow := { rebuild := true } }, by decide +kernel⟩⟩

/-- Port `k` in a state. -/
def linkBase (k : Nat) (p : PortSt) : State := { keyedBase with ports := [(k, p)] }

/-- A SecY with a live peer. -/
def secyOn : SecySt := { enable := true, mka := some {}, peers := [{ id := 1 }] }

theorem witness_FrontPortsFollowTheirLinks :
    (∃ (p : Nat) (s : State),
      p ≤ 25 ∧ (s.port p).mode = .up ∧ kindOfPort p ≠ .multidrop) ∧
    (∃ (p : Nat) (s : State),
      p ≤ 25 ∧ (s.port p).mode = .up ∧ kindOfPort p ≠ .multidrop) ∧
    (∃ (p : Nat) (dt : Nat) (s : State),
      p ≤ 25 ∧ kindOfPort p ≠ .multidrop ∧ (s.port p).pulse = false ∧ (s.port p).usx = false ∧ (s.port p).mode = .training) ∧
    (∃ (p : Nat) (dt : Nat) (s : State),
      p ≤ 25 ∧ kindOfPort p ≠ .multidrop ∧ (s.port p).pulse = false ∧ (s.port p).usx = false ∧ (s.port p).mode = .resuming) ∧
    (∃ (p : Nat) (s : State),
      p ≤ 25 ∧ (kindOfPort p).t1 = true ∧ (s.port p).mode = .training) ∧
    (∃ (p : Nat) (s : State),
      p ≤ 25 ∧ (s.port p).mode = .sleepWait) ∧
    (∃ (p : Nat) (s : State),
      p ≤ 25 ∧ (s.port p).mode = .resuming) ∧
    (∃ (p : Nat) (s : State),
      p ≤ 25) ∧
    (∃ (p : Nat) (rate : Nat) (s : State),
      (p = 2 ∨ p = 15) ∧ (s.port p).usx = true ∧ 2 ≤ rate ∧ rate ≤ 5 ∧ (s.port p).mode = .training) ∧
    (∃ (p : Nat) (rate : Nat) (s : State),
      (p = 2 ∨ p = 15) ∧ (s.port p).usx = true ∧ 2 ≤ rate ∧ rate ≤ 5 ∧ (s.port p).mode = .training) ∧
    (∃ (p : Nat) (rate : Nat) (s : State),
      (p = 2 ∨ p = 15) ∧ (s.port p).usx = true ∧ 2 ≤ rate ∧ rate ≤ 5 ∧ (s.port p).mode = .up) ∧
    (∃ (p : Nat) (dt : Nat) (s : State),
      p ≤ 25 ∧ (kindOfPort p = .multiGig ∨ kindOfPort p = .gig) ∧ (s.port p).eee = true ∧ (s.port p).mode = .up ∧ (s.port p).lpi = false ∧ s.outIdle (dieOfPort p) (localOf p) = true ∧ (s.gate p).scheduled = false) ∧
    (∃ (p : Nat) (dt : Nat) (s : State),
      p ≤ 25 ∧ (kindOfPort p = .multiGig ∨ kindOfPort p = .gig) ∧ (s.port p).lpi = true ∧ (s.port p).lpiWaking = true) ∧
    (∃ (p : Nat) (s : State),
      p ≤ 25 ∧ kindOfPort p = .multidrop ∧ (s.port p).mode = .up ∧ (s.port p).coordinator = false) ∧
    (∃ (p : Nat) (s : State),
      p ≤ 25 ∧ kindOfPort p = .multidrop ∧ (s.port p).mode = .training ∧ (s.port p).coordinator = false) ∧
    (∃ (p : Nat) (s : State),
      p ≤ 25 ∧ kindOfPort p = .multidrop ∧ (s.port p).mode = .up ∧ (s.port p).coordinator = true) ∧
    (∃ (p : Nat) (dt : Nat) (k : Nat × Nat) (collision : Bool) (s : State),
      p ≤ 25 ∧ kindOfPort p = .multidrop ∧ (s.port p).mode = .up ∧ (s.tx (dieOfPort p) (localOf p)).cur = some k ∧ (s.tx (dieOfPort p) (localOf p)).waitPlca = true) ∧
    (∃ (p : Nat) (sqi : Nat) (fixed : Nat) (lost : Nat) (temp : Nat) (s : State),
      p ≤ 25 ∧ (kindOfPort p).t1 = true ∧ (s.port p).mode = .up) ∧
    (∃ (p : Nat) (result : Nat) (distance : Nat) (q : Path) (s : State),
      p ≤ 25 ∧ kindOfPort p ≠ .multidrop ∧ (s.port p).tester = some q ∧ (s.port p).mode = .diag ∧ result ≤ 4) ∧
    (∃ (p : Nat) (result : Nat) (distance : Nat) (q : Path) (s : State),
      p ≤ 25 ∧ kindOfPort p ≠ .multidrop ∧ (s.port p).tester = some q ∧ (s.port p).mode = .diag ∧ result ≤ 4) ∧
    (∃ (p : Nat) (an : Nat) (s : State),
      hasMacsec p = true ∧ an ≤ 3 ∧ (s.port p).secy.enable = true ∧ (s.port p).secy.mka.isSome = true ∧ (s.port p).secy.peers ≠ [] ∧ s.coreServes = true ∧ s.keyed = true ∧ s.has (dieOfPort p).num = true) ∧
    (∃ (p : Nat) (heard : List (Nat × Nat)) (s : State),
      hasMacsec p = true ∧ (s.port p).secy.enable = true ∧ (s.port p).secy.mka.isSome = true ∧ s.coreServes = true ∧ s.keyed = true) :=
  ⟨⟨23, linkBase 23 { mode := .up }, by decide +kernel⟩,
    ⟨2, linkBase 2 { mode := .up }, by decide +kernel⟩,
    ⟨2, 4, linkBase 2 { mode := .training }, by decide +kernel⟩,
    ⟨3, 4, linkBase 3 { mode := .resuming }, by decide +kernel⟩,
    ⟨23, linkBase 23 { mode := .training }, by decide +kernel⟩,
    ⟨23, linkBase 23 { mode := .sleepWait }, by decide +kernel⟩,
    ⟨23, linkBase 23 { mode := .resuming }, by decide +kernel⟩,
    ⟨25, linkBase 25 { pulse := true }, by decide +kernel⟩,
    ⟨15, 5, linkBase 15 { mode := .training, usx := true }, by decide +kernel⟩,
    ⟨2, 2, linkBase 2 { mode := .training, usx := true }, by decide +kernel⟩,
    ⟨15, 2, linkBase 15 { mode := .up, usx := true }, by decide +kernel⟩,
    ⟨19, 0, linkBase 19 { mode := .up, eee := true }, by decide +kernel⟩,
    ⟨14, 0, linkBase 14 { mode := .up, eee := true, lpi := true, lpiWaking := true }, by decide +kernel⟩,
    ⟨25, linkBase 25 { mode := .up, beacons := true, plca := { nodeId := 1 } }, by decide +kernel⟩,
    ⟨25, linkBase 25 { mode := .training, plca := { nodeId := 1 } }, by decide +kernel⟩,
    ⟨12, linkBase 12 { mode := .up, plca := { nodeId := 0 } }, by decide +kernel⟩,
    ⟨25, 0, (0, 0), true, { linkBase 25 { mode := .up, plca := { nodeId := 1, maxBurst := 3 } } with fabE := { egr := { tx := [(12, { cur := some (0, 0), waitPlca := true })] } } }, by decide +kernel⟩,
    ⟨0, 9, 3, 2, 40, linkBase 0 { mode := .up }, by decide +kernel⟩,
    ⟨23, 4, 0, .spi, linkBase 23 { mode := .diag, tester := some .spi, retainValid := true }, by decide +kernel⟩,
    ⟨0, 4, 0, .spi, linkBase 0 { mode := .diag, tester := some .spi, retainValid := true }, by decide +kernel⟩,
    ⟨19, 3, linkBase 19 { mode := .up, secy := secyOn }, by decide +kernel⟩,
    ⟨0, [(1, 2), (3, 4)], linkBase 0 { mode := .up, secy := secyOn }, by decide +kernel⟩⟩

/-- The sleep agreement in a state, port 0 in a state. -/
def sleepBase (m : SleepMode) (k : LinkMode) : State := { base with pow := { mode := m }, ports := [(0, { mode := k, tc10 := true })] }

/-- The power controller in a state. -/
def powBase (p : PowerSt) : State := { base with pow := p }

/-- Feed 7 in a state. -/
def feedBase (m : FeedMode) : State := powBase { feeds := [(7, { mode := m, used := 1, now := { retries := 1 } })] }

theorem witness_SleepAndWakeFollowTheAgreement :
    (∃ (p : Nat) (temp : Nat) (s : State),
      p ≤ 25 ∧ (s.pow.mode = .prepare ∨ s.pow.mode = .committed) ∧ (s.port p).mode = .up) ∧
    (∃ (p : Nat) (temp : Nat) (s : State),
      p ≤ 25 ∧ (s.pow.mode = .prepare ∨ s.pow.mode = .committed) ∧ (s.port p).mode = .up) ∧
    (∃ (p : Nat) (temp : Nat) (s : State),
      p ≤ 25 ∧ (s.pow.mode = .awake ∨ s.pow.mode = .waking) ∧ (s.port p).mode = .sleepWait) ∧
    (∃ (p : Nat) (temp : Nat) (s : State),
      p ≤ 25 ∧ (s.pow.mode = .awake ∨ s.pow.mode = .waking) ∧ (s.port p).mode = .sleepWait) ∧
    (∃ (p : Nat) (dt : Nat) (s : State),
      p ≤ 25 ∧ (kindOfPort p).t1 = true ∧ (s.port p).tc10 = true ∧ (s.port p).mode = .up) ∧
    (∃ (p : Nat) (dt : Nat) (s : State),
      p ≤ 25 ∧ (kindOfPort p).t1 = true ∧ (s.port p).tc10 = true ∧ (s.port p).mode = .sleepWait) ∧
    (∃ (w : WakeIn) (i : Nat) (s : State),
      i < 64 ∧ (Tbl.get WakePolicy.dflt s.pow.policy i).matches w = true ∧ s.pow.mode = .awake ∧ s.follows = false) ∧
    (∃ (s : State),
      s.pow.mode = .awake ∧ s.follows = false ∧ s.pow.wake.sleepEn = true ∧ s.holders = []) ∧
    (∃ (kind : Nat) (src : Nat) (s : State),
      s.pow.mode = .prepare ∧ s.follows = false) ∧
    (∃ (s : State),
      s.pow.mode = .committed ∧ s.pow.run = none ∧ s.pow.latch = none) ∧
    (∃ (s : State),
      s.pow.mode = .committed ∧ s.pow.run = none ∧ s.pow.latch.isSome = true) ∧
    (∃ (kind : Nat) (src : Nat) (dt : Nat) (input : Nat) (s : State),
      s.pow.mode = .asleep ∧ kind % 16 ≠ 9 ∧ kind % 16 ≠ 10) ∧
    (∃ (kind : Nat) (src : Nat) (dt : Nat) (input : Nat) (s : State),
      s.pow.mode = .asleep ∧ input ≤ 1 ∧ inMask s.pow.wake.locEn input = true) ∧
    (∃ (kind : Nat) (src : Nat) (dt : Nat) (input : Nat) (s : State),
      s.pow.mode = .asleep ∧ s.pow.wake.timerS ≠ 0) ∧
    (∃ (kind : Nat) (src : Nat) (dt : Nat) (input : Nat) (s : State),
      s.pow.mode = .asleep ∧ s.stk.mode ≠ .single) ∧
    (∃ (kind : Nat) (src : Nat) (dt : Nat) (s : State),
      s.pow.mode = .committed ∧ s.follows = false ∧ s.pow.latch = none ∧ kind % 16 ≠ 9) ∧
    (∃ (s : State),
      s.pow.mode = .waking ∧ s.pow.run = none) ∧
    (∃ (p : Path) (s : State),
      (Tbl.get noneAt s.pow.holds (hostPaths.idxOf p)).isSome = true) :=
  ⟨⟨0, 0, sleepBase .prepare .up, by decide +kernel⟩,
    ⟨0, 0, sleepBase .committed .up, by decide +kernel⟩,
    ⟨0, 30, sleepBase .waking .sleepWait, by decide +kernel⟩,
    ⟨0, 30, sleepBase .awake .sleepWait, by decide +kernel⟩,
    ⟨0, 0, sleepBase .prepare .up, by decide +kernel⟩,
    ⟨0, 0, sleepBase .prepare .sleepWait, by decide +kernel⟩,
    ⟨{ kind := 5 }, 63, powBase { policy := [(63, { valid := true, kind := 5 })] }, by decide +kernel⟩,
    ⟨powBase {}, by decide +kernel⟩,
    ⟨4, 2, powBase { mode := .prepare }, by decide +kernel⟩,
    ⟨powBase { mode := .committed }, by decide +kernel⟩,
    ⟨powBase { mode := .committed, latch := some { kind := 3 } }, by decide +kernel⟩,
    ⟨5, 31, 0, 0, powBase { mode := .asleep }, by decide +kernel⟩,
    ⟨0, 0, 0, 1, powBase { mode := .asleep, wake := { locEn := 2 } }, by decide +kernel⟩,
    ⟨0, 0, 0, 0, powBase { mode := .asleep, wake := { timerS := 1 } }, by decide +kernel⟩,
    ⟨0, 0, 0, 0, { powBase { mode := .asleep } with stk := { mode := .master } }, by decide +kernel⟩,
    ⟨8, 31, 0, powBase { mode := .committed }, by decide +kernel⟩,
    ⟨powBase { mode := .waking }, by decide +kernel⟩,
    ⟨.service, powBase { holds := [(5, some { until_ := 9 })] }, by decide +kernel⟩⟩

theorem witness_PowerFollowsSequencesAndMeasurements :
    (∃ (r : SeqRun) (x : SeqStep) (dt : Nat) (s : State),
      s.pow.run = some r ∧ (s.pow.steps r.seq)[r.step]? = some x ∧ r.waiting = false ∧ 2 ≤ x.domain ∧ x.waitUs ≠ 0) ∧
    (∃ (r : SeqRun) (x : SeqStep) (dt : Nat) (s : State),
      s.pow.run = some r ∧ (s.pow.steps r.seq)[r.step]? = some x ∧ r.waiting = true ∧ (s.pow.steps r.seq)[r.step + 1]? = none) ∧
    (∃ (d : Fab) (ms : List Nat) (tj : Int) (dt : Nat) (s : State),
      s.has d.num = true ∧ ms.length = 8) ∧
    (∃ (d : Fab) (ms : List Nat) (tj : Int) (dt : Nat) (s : State),
      s.has d.num = true ∧ ms.length = 8) ∧
    (∃ (d : Fab) (s : State),
      (s.pow.pace d).belowSince.isSome = true) ∧
    (∃ (d : Fab) (s : State),
      (s.pow.pace d).aboveSince.isSome = true) ∧
    (∃ (d : Fab) (s : State),
      (s.pow.pace d).belowSince.isSome = true ∧ (s.pow.pace d).short = false) ∧
    (∃ (p : Nat) (s : State),
      s.pow.overSince.isSome = true ∧ ((List.range 26).reverse.find? fun p => inMask s.pow.cfg.shed p && (s.port p).enable && !inMask s.pow.shedPorts p) = some p) ∧
    (∃ (p : Nat) (s : State),
      s.pow.underSince.isSome = true ∧ ((List.range 26).find? fun p => inMask s.pow.shedPorts p) = some p) ∧
    (∃ (f : Nat) (current : Nat) (volts : Nat) (dt : Nat) (s : State),
      f ≤ 7 ∧ (((s.feed f).mode = .inrush ∧ (s.feed f).now.inrushMa < current) ∨ ((s.feed f).mode = .on ∧ (s.feed f).now.limitMa < current))) ∧
    (∃ (f : Nat) (current : Nat) (volts : Nat) (dt : Nat) (s : State),
      f ≤ 7 ∧ (((s.feed f).mode = .inrush ∧ (s.feed f).now.inrushMa < current) ∨ ((s.feed f).mode = .on ∧ (s.feed f).now.limitMa < current))) ∧
    (∃ (f : Nat) (current : Nat) (volts : Nat) (dt : Nat) (s : State),
      f ≤ 7 ∧ (s.feed f).mode = .inrush) ∧
    (∃ (f : Nat) (current : Nat) (volts : Nat) (dt : Nat) (s : State),
      f ≤ 7 ∧ (s.feed f).mode = .retryWait ∧ s.feedsFree = true) ∧
    (∃ (f : Nat) (current : Nat) (volts : Nat) (dt : Nat) (s : State),
      f ≤ 7 ∧ (s.feed f).mode = .on) ∧
    (∃ (f : Nat) (current : Nat) (volts : Nat) (dt : Nat) (s : State),
      f ≤ 7 ∧ (s.feed f).mode = .shed ∧ s.pow.cfg.uv < volts ∧ s.feedsFree = true) ∧
    (∃ (f : Nat) (t0 : Nat) (rest : List Nat) (s : State),
      s.pow.autoOn = (f :: rest, t0) ∧ s.feedsFree = true ∧ (s.feed f).mode = .off ∧ (s.feed f).cfg.valid = true) ∧
    (∃ (volts : Nat) (dt : Nat) (s : State),
      s.key.ao = true ∧ s.pow.cfg.ov < volts) ∧
    (∃ (volts : Nat) (dt : Nat) (s : State),
      s.key.ao = true ∧ volts < s.pow.cfg.uv ∧ s.pow.down = false) ∧
    (∃ (volts : Nat) (dt : Nat) (s : State),
      s.key.ao = true ∧ volts < s.pow.cfg.crank ∧ s.pow.down = false) ∧
    (∃ (volts : Nat) (dt : Nat) (s : State),
      s.key.ao = true ∧ s.pow.cfg.uv ≤ volts ∧ volts ≤ s.pow.cfg.ov ∧ s.pow.down = false) ∧
    (∃ (volts : Nat) (dt : Nat) (s : State),
      s.key.ao = true ∧ s.pow.cfg.uv ≤ volts ∧ volts ≤ s.pow.cfg.ov ∧ s.pow.down = false) ∧
    (∃ (volts : Nat) (dt : Nat) (s : State),
      s.key.ao = true ∧ volts < s.pow.cfg.off ∧ s.pow.down = false) :=
  ⟨⟨{}, { domain := 2, action := 1, waitUs := 5 }, 0, powBase { seqs := [(0, some [{ domain := 2, action := 1, waitUs := 5 }])], run := some {} }, by decide +kernel⟩,
    ⟨{ waiting := true }, { domain := 2, action := 1, waitUs := 5 }, 0, powBase { seqs := [(0, some [{ domain := 2, action := 1, waitUs := 5 }])], run := some { waiting := true } }, by decide +kernel⟩,
    ⟨.west, [9, 8, 7, 6, 7, 8, 9, 9], 40, 0, base, by decide +kernel⟩,
    ⟨.west, [9, 8, 7, 6, 7, 8, 9, 9], 0, 0, base, by decide +kernel⟩,
    ⟨.west, powBase { west := { belowSince := some 0, vdd := 778 } }, by decide +kernel⟩,
    ⟨.west, powBase { west := { aboveSince := some 0, vdd := 602 } }, by decide +kernel⟩,
    ⟨.west, powBase { west := { belowSince := some 0, vdd := 602 } }, by decide +kernel⟩,
    ⟨25, { powBase { overSince := some 0, cfg := { shed := 2 ^ 25 } } with ports := [(25, { mode := .up })] }, by decide +kernel⟩,
    ⟨25, powBase { underSince := some 0, shedPorts := 2 ^ 25 }, by decide +kernel⟩,
    ⟨7, 1, 0, 0, feedBase .on, by decide +kernel⟩,
    ⟨7, 1, 0, 0, feedBase .inrush, by decide +kernel⟩,
    ⟨7, 20000, 0, 0, feedBase .inrush, by decide +kernel⟩,
    ⟨7, 0, 0, 0, feedBase .retryWait, by decide +kernel⟩,
    ⟨7, 0, 0, 0, feedBase .on, by decide +kernel⟩,
    ⟨7, 0, 1801, 0, feedBase .shed, by decide +kernel⟩,
    ⟨7, 0, [6], powBase { autoOn := ([7, 6], 0), feeds := [(7, { cfg := { valid := true } })] }, by decide +kernel⟩,
    ⟨3201, 0, base, by decide +kernel⟩,
    ⟨1799, 0, base, by decide +kernel⟩,
    ⟨1199, 0, { feedBase .on with pow := { (feedBase .on).pow with cfg := { crankShed := 128 } } }, by decide +kernel⟩,
    ⟨1800, 0, base, by decide +kernel⟩,
    ⟨3200, 0, base, by decide +kernel⟩,
    ⟨799, 0, feedBase .on, by decide +kernel⟩⟩

/-- A state of the time base. -/
def timeBase (t : TimeSt) : State := { base with tim := t, ports := [(0, { mode := .up }), (15, { mode := .up })] }

/-- gPTP on port 0. -/
def ptpBase (g : PtpPort) : State := timeBase { on := true, ports := [(0, g)] }

/-- A gPTP message of a type, its last ten bytes the identity of port 0. -/
def ptpMsg (k : Byte) : List Byte := List.replicate 14 0 ++ [k] ++ List.replicate 43 0 ++ (ptpBase {}).portId 0

theorem witness_TimeEngineFollowsItsClockAndMessages :
    (∃ (c : FreqChange) (s : State),
      s.tim.pendFreq = some c) ∧
    (∃ (k : Nat) (amt : Int) (s : State),
      s.tim.pendStep = some (k, amt)) ∧
    (∃ (k : Nat) (s : State),
      s.tim.slewEnd = some k) ∧
    (∃ (dt : Nat) (s : State),
      s.tim.cfg.ppsInEn = true ∧ s.isMember = false ∧ s.tim.edgeTick = none ∧ s.tim.aligned = false) ∧
    (∃ (k : Nat) (s : State),
      s.tim.acceptTick = some k) ∧
    (∃ (k : Nat) (s : State),
      s.tim.acceptTick = some k) ∧
    (∃ (s : State),
      s.tim.mode = .holdover) ∧
    (∃ (s : State),
      s.tim.on = true ∧ s.tim.pulses = true) ∧
    (∃ (p : Nat) (m : Nat × List Byte) (s : State),
      (s.gptp p).inbox.find? (fun m => ptpType m.2 == 0) = some m ∧ inMask (byteAt m.2 20).toNat 1 = false) ∧
    (∃ (p : Nat) (k : Nat) (s : State),
      s.tim.slavePort = some p ∧ s.tim.syncHeard = some k) ∧
    (∃ (p : Nat) (k : Nat) (s : State),
      s.tim.slavePort = some p ∧ s.tim.syncHeard = some k) ∧
    (∃ (p : Nat) (dt : Nat) (s : State),
      s.ptpMaster p = true ∧ (s.relaysTime = false ∨ s.tim.relay.isSome = true)) ∧
    (∃ (p : Nat) (dt : Nat) (s : State),
      s.ptpMaster p = true ∧ s.tim.cfg.announceEn = true ∧ (s.core s.pair.active).mode = .active ∧ (s.core s.pair.active).halted = false) ∧
    (∃ (p : Nat) (dt : Nat) (s : State),
      s.ptpOn p = true ∧ (s.gptp p).followUp.isSome = true) ∧
    (∃ (p : Nat) (dt : Nat) (s : State),
      s.ptpOn p = true ∧ (s.gptp p).pdelayStatic = false) ∧
    (∃ (p : Nat) (m : Nat × List Byte) (s : State),
      (s.gptp p).inbox.find? (fun m => ptpType m.2 == 2 || ptpType m.2 == 3 || ptpType m.2 == 0xA) = some m) ∧
    (∃ (p : Nat) (m : Nat × List Byte) (s : State),
      (s.gptp p).inbox.find? (fun m => ptpType m.2 == 2 || ptpType m.2 == 3 || ptpType m.2 == 0xA) = some m) :=
  ⟨⟨{ tick := 9, base := 5, slew := some (7, 20) }, timeBase { on := true, pendFreq := some { tick := 9, base := 5, slew := some (7, 20) } }, by decide +kernel⟩,
    ⟨9, -400, timeBase { on := true, tod := 1000, pendStep := some (9, -400) }, by decide +kernel⟩,
    ⟨9, timeBase { on := true, slew := 4, slewEnd := some 9 }, by decide +kernel⟩,
    ⟨0, timeBase { on := true, mode := .free, cfg := { ppsInEn := true } }, by decide +kernel⟩,
    ⟨1, timeBase { on := true, mode := .locked, acceptTick := some 1 }, by decide +kernel⟩,
    ⟨1, timeBase { on := true, mode := .locking, acceptTick := some 1 }, by decide +kernel⟩,
    ⟨timeBase { on := true, mode := .holdover }, by decide +kernel⟩,
    ⟨timeBase { on := true, mode := .free, cfg := { ppsOutMode := 1 } }, by decide +kernel⟩,
    ⟨0, (5, ptpMsg 0), ptpBase { en := true, inbox := [(5, ptpMsg 0)] }, by decide +kernel⟩,
    ⟨2, 7, timeBase { on := true, slavePort := some 2, syncHeard := some 7, ports := [(15, { en := true, delayValid := true })] }, by decide +kernel⟩,
    ⟨2, 7, timeBase { on := true, slavePort := some 2, syncHeard := some 7 }, by decide +kernel⟩,
    ⟨0, 5, ptpBase { en := true, syncSeq := 65535 }, by decide +kernel⟩,
    ⟨0, 5, ptpBase { en := true, syncSeq := 65535 }, by decide +kernel⟩,
    ⟨0, 5, ptpBase { en := true, followUp := some 3, reqSeq := 65535 }, by decide +kernel⟩,
    ⟨0, 5, ptpBase { en := true, followUp := some 3, reqSeq := 65535 }, by decide +kernel⟩,
    ⟨0, (50, ptpMsg 3), ptpBase { en := true, inbox := [(50, ptpMsg 3)], exchange := some 40, rxExtra := 2 }, by decide +kernel⟩,
    ⟨0, (50, ptpMsg 2), ptpBase { en := true, inbox := [(50, ptpMsg 2)] }, by decide +kernel⟩⟩

/-- The legacy channels run. -/
def edgeBase (e : EdgeSt) : State := { base with edge := { e with up := true } }

/-- CAN channel 5 in a state. -/
def canBase (c : CanCh) : State := edgeBase { can := [(5, { c with enable := true })] }

/-- LIN channel 3 in a state. -/
def linBase (c : LinCh) : State := edgeBase { lin := [(3, { c with enable := true })] }

/-- Serial engine 7 in a state, its framing table in slot 0: an address, a body and ICG_MAX. -/
def serBase (c : SerCh) : State :=
  edgeBase { ser := [(7, { c with enable := true })],
             store := [(0, pack [(32, 4, 1), (24, 8, 1)]), (1, pack [(12, 24, 100), (8, 4, 8)]), (2, pack [(24, 12, 30)]), (3, pack [(0, 12, 64)]),
                       (5, pack [(32, 4, 4), (31, 1, 1)])] }

/-- A message waits for the gateway; entry 0 takes it where there is one. -/
def gwTake (up : Tbl GwEnt) : State := { canBase { rxq := [{}] } with gw := { up := up } }

/-- The entry of channel 5 with bundle 63. -/
def gwEntry : GwEnt := { valid := true, words := [pack [(20, 5, 5), (19, 1, 1), (13, 6, 63)], 0, 0] }

/-- A bundle frame with one brief CAN message. -/
def bundleFrame : List Byte :=
  List.replicate 12 0 ++ [0x22, 0xF0, 0x82, 0, 8] ++ List.replicate 9 0 ++ [4, 2, 0, 0, 0, 0, 0, 0] ++ List.replicate 4 0

theorem witness_CanAndLinChannelsFollowTheirBus :
    (∃ (c : Nat) (sof : Nat) (dt : Nat) (f : CanFrame) (s : State),
      s.canOn c = true ∧ (s.canCh c).busOff = false ∧ canFits (s.canCh c).mode f = true ∧ f.xl = false ∧ (s.canCh c).rxq.length < 64) ∧
    (∃ (c : Nat) (dt : Nat) (i : Nat) (x : CanTx) (s : State),
      s.canOn c = true ∧ (s.canCh c).busOff = false ∧ (s.canCh c).listen = false ∧ (s.canCh c).sending = none ∧ (∀ y ∈ (s.canCh c).txq, y.origin = .plain) ∧ bestCan 0 (s.canCh c).txq = some (i, x)) ∧
    (∃ (c : Nat) (dt : Nat) (x : CanTx) (s : State),
      c ≤ 5 ∧ (s.canCh c).sending = some x ∧ (s.canCh c).offAfter = false) ∧
    (∃ (c : Nat) (dt : Nat) (x : CanTx) (s : State),
      c ≤ 5 ∧ (s.canCh c).sending = some x ∧ (s.canCh c).offAfter = false ∧ (s.canCh c).oneShot = false) ∧
    (∃ (c : Nat) (x : CanTx) (s : State),
      c ≤ 5 ∧ (s.canCh c).txLife ≠ 0 ∧ firstTimed (s.canCh c).txq = some x) ∧
    (∃ (c : Nat) (code : Nat) (add : Nat) (s : State),
      s.canOn c = true ∧ (s.canCh c).busOff = false ∧ 1 ≤ code ∧ code ≤ 5 ∧ (s.canCh c).tec ≤ 255) ∧
    (∃ (c : Nat) (code : Nat) (add : Nat) (s : State),
      s.canOn c = true ∧ (s.canCh c).busOff = false ∧ 1 ≤ code ∧ code ≤ 5 ∧ (s.canCh c).tec ≤ 255) ∧
    (∃ (c : Nat) (code : Nat) (add : Nat) (s : State),
      s.canOn c = true ∧ (s.canCh c).busOff = false ∧ 1 ≤ code ∧ code ≤ 5 ∧ 248 ≤ (s.canCh c).tec ∧ add ≠ 0) ∧
    (∃ (c : Nat) (dt : Nat) (s : State),
      c ≤ 5 ∧ (s.canCh c).busOff = true ∧ (s.canCh c).recovering = true) ∧
    (∃ (c : Nat) (e : Nat × Nat) (es : List (Nat × Nat)) (s : State),
      s.linOn c = true ∧ (s.linCh c).commander = true ∧ (s.linCh c).stopped = false ∧ (s.linCh c).sleepDue = false ∧ (s.linCh c).slotAt = none ∧ (s.linCh c).written = e :: es ∧ ((s.linCh c).ent e.1).dir = 1) ∧
    (∃ (c : Nat) (id : Nat) (dt : Nat) (s : State),
      s.linOn c = true ∧ (s.linCh c).commander = false ∧ id ≤ 0x3F) ∧
    (∃ (c : Nat) (id : Nat) (dt : Nat) (s : State),
      s.linOn c = true ∧ (s.linCh c).commander = false ∧ id ≤ 0x3F) ∧
    (∃ (c : Nat) (id : Nat) (dt : Nat) (s : State),
      s.linOn c = true ∧ (s.linCh c).commander = false ∧ id ≤ 0x3F ∧ ((s.linCh c).ent id).dir = 1) ∧
    (∃ (c : Nat) (check : Nat) (dt : Nat) (data : List Byte) (h : LinHdr) (s : State),
      s.linOn c = true ∧ (s.linCh c).hdr = some h ∧ h.done = false ∧ h.id ≠ 0x3C ∧ data.length = ((s.linCh c).ent h.id).len ∧ check = linCheck ((s.linCh c).ent h.id).enhanced h.id data ∧ (s.linCh c).rxq.length < 8) ∧
    (∃ (c : Nat) (h : LinHdr) (s : State),
      s.linOn c = true ∧ (s.linCh c).commander = true ∧ (s.linCh c).hdr = some h ∧ (s.linCh c).slotAt.isSome = true ∧ h.done = false) ∧
    (∃ (c : Nat) (h : LinHdr) (s : State),
      s.linOn c = true ∧ (s.linCh c).commander = true ∧ (s.linCh c).sleepDue = true) ∧
    (∃ (c : Nat) (h : LinHdr) (s : State),
      s.linOn c = true ∧ (s.linCh c).commander = true ∧ (s.linCh c).pulseDue = true) ∧
    (∃ (c : Nat) (s : State),
      s.linOn c = true ∧ (s.linCh c).pulseEnd.isSome = true) :=
  ⟨⟨5, 0, 0, { id := 5, data := [1] }, canBase { rxq := List.replicate 63 {} }, by decide +kernel⟩,
    ⟨5, 0, 1, { frame := { id := 3 } }, canBase { txq := [{ frame := { id := 4 } }, { frame := { id := 3 } }] }, by decide +kernel⟩,
    ⟨5, 0, { frame := { id := 4 } }, canBase { sending := some { frame := { id := 4 } }, tec := 7 }, by decide +kernel⟩,
    ⟨5, 0, { frame := { id := 4 } }, canBase { sending := some { frame := { id := 4 } }, tec := 7 }, by decide +kernel⟩,
    ⟨5, { frame := { id := 4 } }, canBase { txLife := 1, txq := [{ frame := { id := 4 } }] }, by decide +kernel⟩,
    ⟨5, 5, 8, canBase { tec := 255, rec_ := 250 }, by decide +kernel⟩,
    ⟨5, 1, 1, canBase {}, by decide +kernel⟩,
    ⟨5, 5, 1, canBase { tec := 248, autoRecover := true }, by decide +kernel⟩,
    ⟨5, 0, canBase { busOff := true, recovering := true, tec := 9 }, by decide +kernel⟩,
    ⟨3, (5, 10), [], linBase { commander := true, table := [(5, { dir := 1, len := 2 })], sched := [(0, (5, 10))], schedLen := 1 }, by decide +kernel⟩,
    ⟨3, 63, 0, linBase {}, by decide +kernel⟩,
    ⟨3, 5, 0, linBase { table := [(5, { dir := 1, len := 2 })] }, by decide +kernel⟩,
    ⟨3, 61, 0, linBase { table := [(61, { dir := 1, len := 2 })] }, by decide +kernel⟩,
    ⟨3, linCheck true 5 [1, 2], 0, [1, 2], { id := 5, time := 9 }, linBase { table := [(5, { dir := 1, len := 2, enhanced := true })], hdr := some { id := 5, time := 9 }, rxq := List.replicate 7 {} }, by decide +kernel⟩,
    ⟨3, { id := 5, time := 9 }, linBase { commander := true, hdr := some { id := 5, time := 9 }, slotAt := some 0, round := [(5, 10)] }, by decide +kernel⟩,
    ⟨3, {}, linBase { commander := true, sleepDue := true }, by decide +kernel⟩,
    ⟨3, {}, linBase { commander := true, pulseDue := true }, by decide +kernel⟩,
    ⟨3, linBase { commander := true, stopped := true, pulseEnd := some 4 }, by decide +kernel⟩⟩

theorem witness_SerialEnginesAndGatewayMoveMessages :
    (∃ (c : Nat) (v : Nat) (gap : Nat) (dt : Nat) (stop : Bool) (s : State),
      s.serOn c = true ∧ (s.serTabOf c).half = false ∧ (s.serCh c).receiving = true) ∧
    (∃ (c : Nat) (dt : Nat) (s : State),
      s.serOn c = true ∧ (s.serCh c).receiving = true ∧ (s.serTabOf c).icg ≠ 0) ∧
    (∃ (c : Nat) (a : Nat) (prio : Nat) (pl : List Nat) (s : State),
      s.serOn c = true ∧ (s.serTabOf c).accepts pl = true ∧ (s.serCh c).mode = .waiting ∧ (s.serCh c).txq = []) ∧
    (∃ (c : Nat) (dt : Nat) (s : State),
      s.serOn c = true ∧ (s.serCh c).mode = .waiting) ∧
    (∃ (c : Nat) (dt : Nat) (m : SerTx) (s : State),
      s.serOn c = true ∧ (s.serCh c).cur = some m ∧ m.origin = .plain ∧ (s.serCh c).mode = .lead) ∧
    (∃ (c : Nat) (dt : Nat) (m : SerTx) (s : State),
      s.serOn c = true ∧ (s.serCh c).cur = some m ∧ m.origin = .plain ∧ (s.serCh c).mode = .lag ∧ (s.serCh c).txq = []) ∧
    (∃ (c : Nat) (dt : Nat) (m : SerTx) (s : State),
      s.serOn c = true ∧ (s.serCh c).cur = some m ∧ m.origin = .plain ∧ (s.serCh c).mode = .waiting ∧ (s.serCh c).txLife ≠ 0 ∧ (s.serCh c).txq = []) ∧
    (∃ (c : Nat) (v : Nat) (dt : Nat) (rest : List Nat) (s : State),
      s.serOn c = true ∧ (s.serCh c).mode = .sending ∧ (s.serCh c).line = v :: rest) ∧
    (∃ (c : Nat) (v : Nat) (dt : Nat) (rest : List Nat) (s : State),
      s.serOn c = true ∧ (s.serCh c).mode = .sending ∧ (s.serCh c).line = v :: rest) ∧
    (∃ (c : Nat) (dt : Nat) (s : State),
      c ≤ 17 ∧ (Tbl.get WakeBall.dflt s.edge.balls c).en = true ∧ s.pow.mode = .asleep) ∧
    (∃ (c : Nat) (s : State),
      s.canOn c = true ∧ (s.canCh c).timeEn = true ∧ s.edge.isValid (s.canCh c).timeTable 2 = true ∧ s.timeOk = true ∧ (s.canCh c).txq = [] ∧ (s.canCh c).sending = none) ∧
    (∃ (c : Nat) (m : GwMsg) (s : State) (s1 : State),
      c ≤ 17 ∧ s.cuffRuns = true ∧ s.rxTake c = some (m, s1) ∧ s1.gw.upMatch c m = none) ∧
    (∃ (c : Nat) (m : GwMsg) (s : State) (s1 : State) (i : Nat) (s2 : State),
      c ≤ 17 ∧ s.cuffRuns = true ∧ s.rxTake c = some (m, s1) ∧ s1.gw.upMatch c m = some i ∧ s1.entMatch false i = (s2, true) ∧ (s2.upEnt i).fld 1 19 19 = 1 ∧ (s2.upEnt i).fld 1 7 7 = 0) ∧
    (∃ (b : Nat) (s : State),
      b ≤ 63 ∧ (s.bundle b).acf ≠ [] ∧ s.cuffRuns = true) ∧
    (∃ (x : GwIn) (rest : List GwIn) (a : Nat) (m : List Byte) (s : State),
      s.gw.inbox = x :: rest ∧ s.cuffRuns = true ∧ avtpAt (bodyOf x.bytes) = none) ∧
    (∃ (x : GwIn) (rest : List GwIn) (a : Nat) (m : List Byte) (s : State),
      s.gw.inbox = x :: rest ∧ s.cuffRuns = true ∧ avtpAt (bodyOf x.bytes) = some a ∧ acfSplit (slice (bodyOf x.bytes) (a + 12) (beVal (slice (bodyOf x.bytes) (a + 1) 2) % 2048)) (beVal (slice (bodyOf x.bytes) (a + 1) 2) % 2048 / 4 + 1) = ([m], false) ∧ a + 12 + beVal (slice (bodyOf x.bytes) (a + 1) 2) % 2048 ≤ (bodyOf x.bytes).length ∧ acfHdr (bitsOf (beVal (slice m 0 4)) 31 25) ≤ m.length) ∧
    (∃ (n : Nat) (d : List Byte) (s : State),
      n ≤ 255 ∧ (s.perSlot n).chan ≤ 5 ∧ s.canOn (s.perSlot n).chan = true ∧ (s.perSlot n).live = some d ∧ (s.canCh (s.perSlot n).chan).txq = [] ∧ (s.canCh (s.perSlot n).chan).sending = none) ∧
    (∃ (n : Nat) (s : State),
      n ≤ 255 ∧ (s.perSlot n).valid = true ∧ (s.perSlot n).data.isSome = true ∧ (s.perSlot n).isStale = false ∧ (s.perSlot n).fld 4 35 20 ≠ 0 ∧ s.cuffRuns = true ∧ s.pair.held = false) :=
  ⟨⟨7, 5, 0, 0, true, serBase { receiving := true, chars := [1] }, by decide +kernel⟩,
    ⟨7, 0, serBase { receiving := true, chars := [1] }, by decide +kernel⟩,
    ⟨7, 9, 8, [1, 2], serBase { mode := .waiting }, by decide +kernel⟩,
    ⟨7, 0, serBase { mode := .waiting, cur := some {} }, by decide +kernel⟩,
    ⟨7, 0, { payload := [1, 2] }, serBase { mode := .lead, cur := some { payload := [1, 2] } }, by decide +kernel⟩,
    ⟨7, 0, { payload := [1, 2] }, serBase { mode := .lag, cur := some { payload := [1, 2] } }, by decide +kernel⟩,
    ⟨7, 0, { payload := [1, 2] }, serBase { mode := .waiting, txLife := 3, cur := some { payload := [1, 2] } }, by decide +kernel⟩,
    ⟨7, 1, 0, [], serBase { mode := .sending, cur := some {}, line := [1] }, by decide +kernel⟩,
    ⟨7, 1, 0, [2], serBase { mode := .sending, cur := some {}, line := [1, 2] }, by decide +kernel⟩,
    ⟨17, 0, { edgeBase { balls := [(17, { en := true })] } with pow := { mode := .asleep } }, by decide +kernel⟩,
    ⟨5, { edgeBase { can := [(5, { enable := true, timeEn := true })], valid := 1, store := [(0, pack [(32, 4, 2)])] } with tim := { on := true, mode := .free, secValid := true } }, by decide +kernel⟩,
    ⟨5, {}, gwTake [], (gwTake []).modCan 5 fun ch => { ch with rxq := [] }, by decide +kernel⟩,
    ⟨5, {}, gwTake [(0, gwEntry)], (gwTake [(0, gwEntry)]).modCan 5 fun ch => { ch with rxq := [] }, 0, (((gwTake [(0, gwEntry)]).modCan 5 fun ch => { ch with rxq := [] }).entMatch false 0).1, by decide +kernel⟩,
    ⟨63, { canBase {} with gw := { bundles := [(63, { valid := true, words := List.replicate 8 0, acf := [[1, 2, 3, 4]] })] } }, by decide +kernel⟩,
    ⟨{ bytes := List.replicate 64 0 }, [], 0, [], { canBase {} with gw := { inbox := [{ bytes := List.replicate 64 0 }] } }, by decide +kernel⟩,
    ⟨{ bytes := bundleFrame }, [], 14, [4, 2, 0, 0, 0, 0, 0, 0], { canBase {} with gw := { inbox := [{ bytes := bundleFrame }] } }, by decide +kernel⟩,
    ⟨255, [7], { canBase {} with gw := { slots := [(255, { valid := true, words := [pack [(22, 5, 5)]], data := some [7] })] } }, by decide +kernel⟩,
    ⟨255, { canBase {} with gw := { slots := [(255, { valid := true, words := [0, 0, 0, pack [(20, 16, 5)]], data := some [7] })] } }, by decide +kernel⟩⟩

/-- The West core in a state. -/
def coreBase (k : CoreSt) : State := { base with pair := { west := { k with mode := .active } } }

/-- The pair in a state, West active. -/
def pairBase (p : PairSt) : State := { base with pair := { p with west := { p.west with mode := .active } } }

/-- The device with a state of the image store. -/
def imgBase (m : UpdMode) : State := { base with img := { mode := m, target := 1 } }

theorem witness_CoresVoteFailAndSwitchOver :
    (∃ (c : Fab) (first : Bool) (parity : Bool) (wa : List RegWrite) (wb : List RegWrite) (wc : List RegWrite) (s : State),
      s.coreLives c = true ∧ (s.core c).guardStopped = false ∧ let rel := if first then ((s.core c).relShift + 0x0A6) % 0x2000 else (s.core c).relShift
      let da := wa.map fun w => w.decode 0 rel
      let db := wb.map fun w => w.decode 1 rel
      let dc := wc.map fun w => w.decode 2 rel
      parity = true) ∧
    (∃ (c : Fab) (first : Bool) (parity : Bool) (wa : List RegWrite) (wb : List RegWrite) (wc : List RegWrite) (s : State),
      s.coreLives c = true ∧ (s.core c).guardStopped = false ∧ let rel := if first then ((s.core c).relShift + 0x0A6) % 0x2000 else (s.core c).relShift
      let da := wa.map fun w => w.decode 0 rel
      let db := wb.map fun w => w.decode 1 rel
      let dc := wc.map fun w => w.decode 2 rel
      parity = false ∧ vote (diffs da db) (diffs da dc) (diffs db dc) = .agreement) ∧
    (∃ (c : Fab) (first : Bool) (parity : Bool) (wa : List RegWrite) (wb : List RegWrite) (wc : List RegWrite) (s : State),
      s.coreLives c = true ∧ (s.core c).guardStopped = false ∧ let rel := if first then ((s.core c).relShift + 0x0A6) % 0x2000 else (s.core c).relShift
      let da := wa.map fun w => w.decode 0 rel
      let db := wb.map fun w => w.decode 1 rel
      let dc := wc.map fun w => w.decode 2 rel
      parity = false ∧ vote (diffs da db) (diffs da dc) (diffs db dc) = .noMajority) ∧
    (∃ (c : Fab) (x : Nat × Nat × Nat) (y : Nat × Nat × Nat) (s : State),
      s.coreLives c = true ∧ (s.core c).guardStopped = false ∧ tripPasses (s.core c).tripPass x = true) ∧
    (∃ (c : Fab) (x : Nat × Nat × Nat) (y : Nat × Nat × Nat) (s : State),
      s.coreLives c = true ∧ (s.core c).guardStopped = false ∧ tripPasses (s.core c).tripPass x = false ∧ tripPasses (((s.core c).tripPass + 1) % 3) y = false) ∧
    (∃ (c : Fab) (s : State),
      s.coreLives c = true) ∧
    (∃ (c : Fab) (s : State),
      s.coreLives c = true ∧ (s.core c).halted = false) ∧
    (∃ (s : State),
      s.sys.start = .forwarding ∧ s.pair.promoting = none ∧ s.pair.mode ≠ .gap ∧ s.pair.mode ≠ .restart ∧ (s.core s.pair.active).mode ≠ .off ∧ (s.core s.pair.active).mode ≠ .failed ∧ (s.core s.pair.active).attached = false ∧ (s.core s.pair.active).hbTime.isSome = true) ∧
    (∃ (s : State) (k : Bool),
      s.sys.start = .forwarding ∧ s.pair.promoting = none ∧ s.pair.mode ≠ .gap ∧ s.pair.mode ≠ .restart ∧ (s.core s.pair.active).mode ≠ .off ∧ (s.core s.pair.active).mode ≠ .failed ∧ (s.core s.pair.active).attached = false ∧ (s.core s.pair.active).report = some k) ∧
    (∃ (s : State) (k : Bool),
      s.sys.start = .forwarding ∧ s.pair.promoting = none ∧ s.pair.mode ≠ .gap ∧ s.pair.mode ≠ .restart ∧ (s.core s.pair.active).mode ≠ .off ∧ (s.core s.pair.active).mode ≠ .failed ∧ (s.core s.pair.active).attached = false ∧ (s.core s.pair.active).report = some k) ∧
    (∃ (c : Fab) (dt : Nat) (s : State),
      s.dom (coreDom c) = .on) ∧
    (∃ (dt : Nat) (cause : Nat) (s : State),
      s.pair.promoting = some cause ∧ s.pair.held = false ∧ s.pair.mode ≠ .single) ∧
    (∃ (dt : Nat) (s : State),
      s.pair.held = true ∧ s.pair.mode = .gap ∧ s.pair.owned = false) ∧
    (∃ (dt : Nat) (s : State),
      s.pair.held = true ∧ s.pair.mode = .gap ∧ s.pair.owned = true) ∧
    (∃ (dt : Nat) (s : State),
      s.pair.held = true ∧ s.pair.mode = .restart ∧ (s.core s.pair.active).mode = .cold) ∧
    (∃ (e : List Word × Fab × Nat × Nat) (s : State),
      s.pair.sent.find? (fun x => x.1 == e.1) = some e ∧ (s.core s.standby).mode = .warm ∧ 3 ≤ fld (e.1.headD 0) 35 28 ∧ fld (e.1.headD 0) 35 28 ≤ 7 ∧ fld (e.1.headD 0) 27 16 = s.pair.rxSeq) ∧
    (∃ (e : List Word × Fab × Nat × Nat) (s : State),
      s.pair.sent.find? (fun x => x.1 == e.1) = some e ∧ (s.core s.standby).mode = .warm ∧ 3 ≤ fld (e.1.headD 0) 35 28 ∧ fld (e.1.headD 0) 35 28 ≤ 7 ∧ fld (e.1.headD 0) 27 16 = s.pair.rxSeq) ∧
    (∃ (s : State),
      (s.core s.pair.active).mode = .active ∧ s.pair.held = false) ∧
    (∃ (s : State),
      s.pair.held = false ∧ s.pair.mustCatchUp = true) ∧
    (∃ (s : State),
      s.pair.held = false ∧ s.pair.mustCatchUp = false ∧ (s.core s.standby).mode = .catchingUp ∧ s.pair.snapDone = true ∧ s.pair.sent = [] ∧ s.sys.start = .forwarding) ∧
    (∃ (s : State),
      s.img.mode = .handover) ∧
    (∃ (s : State),
      s.img.mode = .trial ∧ s.pair.promoting = none ∧ s.pair.held = false) ∧
    (∃ (s : State),
      s.key.session.isSome = true) ∧
    (∃ (c : Fab) (verify : Bool) (s : State),
      ((s.core c).mode = .cold ∨ (s.core c).mode = .catchingUp) ∧ s.pair.mode ≠ .gap ∧ s.img.mode ≠ .handover) ∧
    (∃ (c : Fab) (verify : Bool) (s : State),
      ((s.core c).mode = .cold ∨ (s.core c).mode = .catchingUp) ∧ s.pair.mode ≠ .gap ∧ s.img.mode ≠ .handover) :=
  ⟨⟨.west, true, true, [{ reg := 1, val := 5 }], [], [], coreBase {}, by decide +kernel⟩,
    ⟨.west, true, false, [{ reg := 1, val := 5 }], [{ reg := 33, val := ~~~5 }], [{ reg := 1, val := 5 }], coreBase {}, by decide +kernel⟩,
    ⟨.west, false, false, [{ reg := 1, val := 5 }], [{ reg := 1, val := 5 }], [{ reg := 1, val := 6 }], coreBase {}, by decide +kernel⟩,
    ⟨.west, (1, 0, 1), (0, 0, 0), coreBase { tripPass := 1 }, by decide +kernel⟩,
    ⟨.west, (1, 0, 1), (0, 0, 0), coreBase { tripPass := 2 }, by decide +kernel⟩,
    ⟨.west, coreBase { hbSeq := 3 }, by decide +kernel⟩,
    ⟨.west, coreBase { hbSeq := 3 }, by decide +kernel⟩,
    ⟨coreBase { hbTime := some 4 }, by decide +kernel⟩,
    ⟨coreBase { report := some true }, true, by decide +kernel⟩,
    ⟨coreBase { report := some false }, false, by decide +kernel⟩,
    ⟨.east, 0, { base with pow := { doms := [(7, .on)] } }, by decide +kernel⟩,
    ⟨0, 6, pairBase { promoting := some 6 }, by decide +kernel⟩,
    ⟨0, pairBase { held := true, mode := .gap }, by decide +kernel⟩,
    ⟨0, pairBase { held := true, mode := .gap, owned := true, promoting := some 1 }, by decide +kernel⟩,
    ⟨0, { base with pair := { held := true, mode := .restart, west := { mode := .cold } } }, by decide +kernel⟩,
    ⟨([pack [(28, 8, 3), (16, 12, 4095)], 7], .west, 0, 0), pairBase { rxSeq := 4095, east := { mode := .warm }, sent := [([pack [(28, 8, 3), (16, 12, 4095)], 7], .west, 0, 0)] }, by decide +kernel⟩,
    ⟨([pack [(28, 8, 7)], 7], .west, 0, 0), pairBase { east := { mode := .warm }, sent := [([pack [(28, 8, 7)], 7], .west, 0, 0)] }, by decide +kernel⟩,
    ⟨base, by decide +kernel⟩,
    ⟨pairBase { mustCatchUp := true }, by decide +kernel⟩,
    ⟨pairBase { mode := .degraded, snapDone := true, east := { mode := .catchingUp } }, by decide +kernel⟩,
    ⟨imgBase .handover, by decide +kernel⟩,
    ⟨imgBase .trial, by decide +kernel⟩,
    ⟨depotBase, by decide +kernel⟩,
    ⟨.east, true, pairBase { east := { mode := .cold } }, by decide +kernel⟩,
    ⟨.east, false, pairBase { east := { mode := .catchingUp } }, by decide +kernel⟩⟩

theorem witness_StoreAndKeyTimersEnd :
    (∃ (dt : Nat) (s : State),
      s.img.mode = .erasing) ∧
    (∃ (dt : Nat) (s : State),
      s.img.mode = .erasing) ∧
    (∃ (source : Nat) (dt : Nat) (during : Option Path) (s : State),
      1 ≤ source ∧ source ≤ 7 ∧ (s.key.ao = true ∨ source ≤ 4) ∧ (¬ (source = 5 ∧ s.key.cpd = true))) ∧
    (∃ (source : Nat) (dt : Nat) (during : Option Path) (s : State),
      1 ≤ source ∧ source ≤ 7 ∧ (s.key.ao = true ∨ source ≤ 4) ∧ (¬ (source = 5 ∧ s.key.cpd = true))) ∧
    (∃ (source : Nat) (dt : Nat) (during : Option Path) (s : State),
      1 ≤ source ∧ source ≤ 7 ∧ (s.key.ao = true ∨ source ≤ 4) ∧ (¬ (source = 5 ∧ s.key.cpd = true))) ∧
    (∃ (s : State),
      s.key.lock.isSome = true) ∧
    (∃ (s : State),
      s.key.nonce.isSome = true) ∧
    (∃ (s : State),
      s.key.lockout.isSome = true) :=
  ⟨⟨0, { imgBase .erasing with img := { mode := .erasing, target := 0, slotA := [(0, 1)] } }, by decide +kernel⟩,
    ⟨0, { imgBase .erasing with img := { mode := .erasing, target := 1, slotB := [(0, 1)] } }, by decide +kernel⟩,
    ⟨1, 0, none, keyedBase, by decide +kernel⟩,
    ⟨7, 0, none, keyedBase, by decide +kernel⟩,
    ⟨4, 0, none, { keyedBase with key := { keyedBase.key with ao := false } }, by decide +kernel⟩,
    ⟨lockBase, by decide +kernel⟩,
    ⟨{ keyedBase with key := { keyedBase.key with nonce := some (1, 2) } }, by decide +kernel⟩,
    ⟨{ keyedBase with key := { keyedBase.key with lockout := some 2, fails := [1] } }, by decide +kernel⟩⟩

/-- A frame for the bridge engine: its words after 14 bytes. -/
def bridgeBytes (ws : List Word) : List Byte := List.replicate 14 0 ++ encode5 ws

/-- A package of the stack with an inbox at port 2. -/
def stackBase (m : StackMode) (box : List (Nat × Nat × List Byte)) : State :=
  { base with sys := { base.sys with hem := true, member := if m = .master then 0 else 1 }, stk := { mode := m, hems := [(2, { inbox := box })] } }

/-- A HELLO of member `k` in state `m`, its master 0 at once. -/
def helloWords (k m : Nat) : List Word := [pack [(32, 4, 1), (30, 2, k), (27, 3, m)]]

/-- The state once the frame at port 2 has been taken. -/
def emptied (s : State) : State := { s with stk := { s.stk with hems := [] } }

/-- A member with a frame of TYPE 2 from its master. -/
def fromHead (code : Nat) (m : SleepMode) : State := { stackBase .member [(2, 0, bridgeBytes [pack [(32, 4, code)]])] with pow := { mode := m } }

/-- A request of the bridge for address `a` at M0. -/
def bridgeAsk (op a : Nat) : State := stackBase .master [(1, 1, bridgeBytes [pack [(32, 4, op), (20, 6, 1)], w36 a, 9])]

/-- The same request decoded. -/
def askIn (a : Nat) : BridgeIn := { port := 2, src := 1, tag := 0, count := 1, addr := a, data := [9] }

/-- The register bus of the die of `a` is held for M1. -/
def heldBus (s : State) (a : Nat) : State := { s with stk := { s.stk with locks := [(5, some (2, 1, a, 5))] } }

theorem spare_block : isRelay 672137216 = false ∨ isRelay 672137728 = false := by
  unfold isRelay
  cases h : (672137216 % 2 ^ 30 / 512 == Config.relayBlock % 2 ^ 21)
  · exact .inl rfl
  · refine .inr ?_
    have := eq_of_beq h
    rw [← this]
    decide

theorem no_bad_addr {s : State} {b : BridgeIn} (hc : b.count = 1) (hm : addrMember b.addr = s.sys.member) (ho : addrOk b.addr = true) :
    s.badAddrs b = [] := by
  simp [State.badAddrs, hc, hm, ho]

/-- A frame of TYPE 1 at a package that has request `q` outstanding. -/
def answerBase (op : Nat) (q : BridgeReq) : State :=
  let s := stackBase .master [(1, 1, bridgeBytes [pack [(32, 4, op), (26, 6, q.tag), (20, 6, 1)], 0, 9])]
  { s with stk := { s.stk with reqs := [q] } }

theorem witness_StackMembersTalkAndBridge :
    (∃ (s : State),
      s.stk.mode ≠ .single) ∧
    (∃ (p : Nat) (x : Nat) (bytes : List Byte) (s : State) (s0 : State),
      s.takeMsg p 2 1 = some (s0, x, bytes) ∧ let h := helloOf bytes s.tim.ticks
      h.member ≠ s.sys.member ∧ s.stk.mode = .master) ∧
    (∃ (p : Nat) (x : Nat) (bytes : List Byte) (s : State) (s0 : State),
      s.takeMsg p 2 1 = some (s0, x, bytes) ∧ let h := helloOf bytes s.tim.ticks
      h.member ≠ s.sys.member ∧ s.stk.mode = .orphan ∧ h.reaches = true) ∧
    (∃ (p : Nat) (x : Nat) (bytes : List Byte) (s : State) (s0 : State),
      s.takeMsg p 2 1 = some (s0, x, bytes) ∧ let h := helloOf bytes s.tim.ticks
      h.member = s.sys.member ∧ s.stk.mode ≠ .single) ∧
    (∃ (p : Nat) (x : Nat) (bytes : List Byte) (s : State) (s0 : State),
      s.takeMsg p 2 2 = some (s0, x, bytes) ∧ s0.isMaster = true ∧ s0.pow.mode = .awake) ∧
    (∃ (p : Nat) (x : Nat) (bytes : List Byte) (s : State) (s0 : State),
      s.takeMsg p 2 3 = some (s0, x, bytes) ∧ s0.fromMaster bytes = true ∧ s0.pow.mode = .awake) ∧
    (∃ (p : Nat) (x : Nat) (bytes : List Byte) (s : State) (s0 : State),
      s.takeMsg p 2 4 = some (s0, x, bytes) ∧ s0.fromMaster bytes = true ∧ s0.pow.mode = .prepare) ∧
    (∃ (p : Nat) (x : Nat) (bytes : List Byte) (s : State) (s0 : State),
      s.takeMsg p 2 5 = some (s0, x, bytes) ∧ s0.fromMaster bytes = true ∧ s0.pow.mode = .prepare) ∧
    (∃ (s : State),
      s.stk.mode = .member) ∧
    (∃ (p : Nat) (b : BridgeIn) (s : State) (s0 : State),
      s0.conflicts b = none ∧ s0.badAddrs b = [] ∧ isRelay b.addr = false ∧ s.takeRequest p 1 = some (s0, b)) ∧
    (∃ (p : Nat) (b : BridgeIn) (s : State) (s0 : State),
      s0.conflicts b = none ∧ s0.badAddrs b = [] ∧ isRelay b.addr = false ∧ s.takeRequest p 2 = some (s0, b)) ∧
    (∃ (p : Nat) (b : BridgeIn) (s : State) (s0 : State),
      s0.conflicts b = none ∧ s0.badAddrs b = [] ∧ isRelay b.addr = false ∧ s.takeRequest p 3 = some (s0, b)) ∧
    (∃ (p : Nat) (b : BridgeIn) (s : State) (s0 : State) (k : Nat),
      s0.conflicts b = none ∧ s0.badAddrs b = [] ∧ isRelay b.addr = false ∧ s.takeUnlock p = some (s0, b) ∧ s0.busLock b.addr = some (p, b.src, b.addr, k)) ∧
    (∃ (p : Nat) (x : Nat) (bytes : List Byte) (q : BridgeReq) (s : State) (s0 : State),
      let w := msgWord bytes 0
      fld w 19 16 ≠ 2 ∧ s.takeMsg p 1 5 = some (s0, x, bytes) ∧ s0.stk.reqs.find? (fun q => q.tag == fld w 31 26 && q.port == p && [1, 4].contains q.burst.op && q.backoff.isNone) = some q) ∧
    (∃ (p : Nat) (x : Nat) (bytes : List Byte) (q : BridgeReq) (s : State) (s0 : State),
      let w := msgWord bytes 0
      fld w 19 16 ≠ 2 ∧ s.takeMsg p 1 6 = some (s0, x, bytes) ∧ s0.stk.reqs.find? (fun q => q.tag == fld w 31 26 && q.port == p && [2, 3].contains q.burst.op && q.backoff.isNone) = some q) ∧
    (∃ (q : BridgeReq) (s : State),
      s.stk.reqs.find? (fun q => q.backoff.isSome) = some q) ∧
    (∃ (q : BridgeReq) (s : State),
      s.stk.reqs.find? (fun q => q.backoff.isNone) = some q) ∧
    (∃ (die : Nat) (s : State),
      (Tbl.get noneAt s.stk.locks die).isSome = true) ∧
    (∃ (path : Path) (j : Job) (s : State),
      s.stk.jobs.find? (fun j => j.path == path && j.mode != .diag) = some j) :=
  ⟨⟨stackBase .master [], by decide +kernel⟩,
    ⟨2, 1, bridgeBytes (helloWords 1 2), stackBase .master [(2, 1, bridgeBytes (helloWords 1 2))], emptied (stackBase .master []), by decide +kernel⟩,
    ⟨2, 0, bridgeBytes (helloWords 0 1), stackBase .orphan [(2, 0, bridgeBytes (helloWords 0 1))], emptied (stackBase .orphan []), by decide +kernel⟩,
    ⟨2, 0, bridgeBytes (helloWords 1 1), stackBase .orphan [(2, 0, bridgeBytes (helloWords 1 1))], emptied (stackBase .orphan []), by decide +kernel⟩,
    ⟨2, 1, bridgeBytes [pack [(32, 4, 2)]], stackBase .master [(2, 1, bridgeBytes [pack [(32, 4, 2)]])], emptied (stackBase .master []), by decide +kernel⟩,
    ⟨2, 0, bridgeBytes [pack [(32, 4, 3)]], fromHead 3 .awake, emptied (fromHead 3 .awake), by decide +kernel⟩,
    ⟨2, 0, bridgeBytes [pack [(32, 4, 4)]], fromHead 4 .prepare, emptied (fromHead 4 .prepare), by decide +kernel⟩,
    ⟨2, 0, bridgeBytes [pack [(32, 4, 5)]], fromHead 5 .prepare, emptied (fromHead 5 .prepare), by decide +kernel⟩,
    ⟨stackBase .member [], by decide +kernel⟩,
    spare_block.elim (fun h => ⟨2, askIn 672137216, bridgeAsk 1 672137216, emptied (bridgeAsk 1 672137216), by decide +kernel, no_bad_addr rfl (by decide +kernel) (by decide +kernel), h, by decide +kernel⟩) (fun h => ⟨2, askIn 672137728, bridgeAsk 1 672137728, emptied (bridgeAsk 1 672137728), by decide +kernel, no_bad_addr rfl (by decide +kernel) (by decide +kernel), h, by decide +kernel⟩),
    spare_block.elim (fun h => ⟨2, askIn 672137216, bridgeAsk 2 672137216, emptied (bridgeAsk 2 672137216), by decide +kernel, no_bad_addr rfl (by decide +kernel) (by decide +kernel), h, by decide +kernel⟩) (fun h => ⟨2, askIn 672137728, bridgeAsk 2 672137728, emptied (bridgeAsk 2 672137728), by decide +kernel, no_bad_addr rfl (by decide +kernel) (by decide +kernel), h, by decide +kernel⟩),
    spare_block.elim (fun h => ⟨2, askIn 672137216, bridgeAsk 3 672137216, emptied (bridgeAsk 3 672137216), by decide +kernel, no_bad_addr rfl (by decide +kernel) (by decide +kernel), h, by decide +kernel⟩) (fun h => ⟨2, askIn 672137728, bridgeAsk 3 672137728, emptied (bridgeAsk 3 672137728), by decide +kernel, no_bad_addr rfl (by decide +kernel) (by decide +kernel), h, by decide +kernel⟩),
    spare_block.elim (fun h => ⟨2, askIn 672137216, heldBus (bridgeAsk 4 672137216) 672137216, heldBus (emptied (bridgeAsk 4 672137216)) 672137216, 5, by decide +kernel, no_bad_addr rfl (by decide +kernel) (by decide +kernel), h, by decide +kernel⟩) (fun h => ⟨2, askIn 672137728, heldBus (bridgeAsk 4 672137728) 672137728, heldBus (emptied (bridgeAsk 4 672137728)) 672137728, 5, by decide +kernel, no_bad_addr rfl (by decide +kernel) (by decide +kernel), h, by decide +kernel⟩),
    ⟨2, 1, bridgeBytes [pack [(32, 4, 5), (26, 6, 3), (20, 6, 1)], 0, 9], { tag := 3, burst := { op := 1 }, at_ := 0 }, answerBase 5 { tag := 3, burst := { op := 1 }, at_ := 0 }, emptied (answerBase 5 { tag := 3, burst := { op := 1 }, at_ := 0 }), by decide +kernel⟩,
    ⟨2, 1, bridgeBytes [pack [(32, 4, 6), (26, 6, 3), (20, 6, 1)], 0, 9], { tag := 3, burst := { op := 2 }, at_ := 0 }, answerBase 6 { tag := 3, burst := { op := 2 }, at_ := 0 }, emptied (answerBase 6 { tag := 3, burst := { op := 2 }, at_ := 0 }), by decide +kernel⟩,
    ⟨{ tag := 3, backoff := some 5 }, answerBase 6 { tag := 3, backoff := some 5 }, by decide +kernel⟩,
    ⟨{ tag := 3 }, answerBase 6 { tag := 3 }, by decide +kernel⟩,
    ⟨5, heldBus (bridgeAsk 4 672137216) 672137216, by decide +kernel⟩,
    ⟨.spi, { mode := .poll }, { stackBase .master [] with stk := { mode := .master, jobs := [{ mode := .poll }] } }, by decide +kernel⟩⟩

/-- A state that a step leaves: the West core sends its heartbeat, every lock bit and verifier slot 1 being set. -/
def lockedBase : State :=
  { keyedBase with locks := { policy := true, sealLock := true, key := true, power := true }, key := { keyedBase.key with vValid := 2, vRevoked := 2 },
                   pending := [.heartbeatTx .west] }

theorem witness_EmptyQueueLetsOneTickPass : base.pending = [] := rfl

theorem witness_SetLockBitsStayUntilAReset :
    ∃ s t : State, step s = .next t ∧ (∀ c rest, s.pending = c :: rest → resetsDevice c = false) ∧ s.locks.policy = true ∧
      s.locks.sealLock = true ∧ s.locks.key = true ∧ s.locks.power = true :=
  ⟨lockedBase, _, rfl, by rintro c rest ⟨⟩; rfl, rfl, rfl, rfl, rfl⟩

theorem witness_VerifierBitsAreNeverCleared :
    ∃ (s t : State) (v : Nat), step s = .next t ∧ inMask s.key.vValid v = true ∧ inMask s.key.vRevoked v = true :=
  ⟨lockedBase, _, 1, rfl, by decide +kernel⟩

theorem witness_MailboxCommandsLeaveTheOtherSlices : ∃ (r : Req) (s t : State), exec (.poolLimitWrite r) s = .next t :=
  ⟨{ words := [0] }, base, _, rfl⟩

theorem witness_EventsLeaveTheOtherAreas : ∃ (i : Instr) (s t : State), exec i s = .next t ∧ areaOf i = .quiet :=
  ⟨.heartbeatTx .west, base, _, rfl, rfl⟩

theorem witness_SupplyThresholdsRaiseSupply :
    (base.key.ao = true ∧ base.pow.cfg.ov < 3201 ∧ 1799 < base.pow.cfg.uv ∧ 1199 < base.pow.cfg.crank ∧ base.pow.down = false) ∧
    (∃ (f : Nat) (s : State), f < 8 ∧ inMask s.pow.cfg.crankShed f = true ∧ (s.feed f).mode = .inrush) :=
  ⟨by decide +kernel, 7, { feedBase .inrush with pow := { (feedBase .inrush).pow with cfg := { crankShed := 128 } } }, by decide +kernel⟩

theorem witness_StaleSlotsAreCountedAndStopOrGoOn :
    ∃ (n : Nat) (s : State), n ≤ 255 ∧ (s.perSlot n).valid = true ∧ (s.perSlot n).data.isSome = true ∧ (s.perSlot n).isStale = false ∧
      (s.perSlot n).fld 4 35 20 ≠ 0 ∧ s.cuffRuns = true ∧ s.pair.held = false ∧ (s.perSlot n).fld 1 10 9 = 1 :=
  ⟨255, { canBase {} with gw := { slots := [(255, { valid := true, words := [pack [(9, 2, 1)], 0, 0, pack [(20, 16, 5)]], data := some [7] })] } },
    by decide +kernel⟩

theorem witness_PaceShortagesAreCountedOncePerEpisode :
    (∃ (d : Fab) (s : State), (s.pow.pace d).belowSince.isSome = true ∧ (s.pow.pace d).short = false) ∧
    (∃ (d : Fab) (s : State) (ms : List Nat), s.has d.num = true ∧ ms.length = 8 ∧ ms.foldl min (ms.headD 0) < 454 ∧
      (s.pow.pace d).short = false ∧ (s.pow.pace d).vdd = 780) ∧
    (∃ (d : Fab) (s : State), (s.pow.pace d).short = true) :=
  ⟨⟨.west, powBase { west := { belowSince := some 0 } }, by decide +kernel⟩,
    ⟨.west, powBase { west := { vdd := 780 } }, [453, 454, 455, 456, 457, 458, 459, 460], by decide +kernel⟩,
    ⟨.east, powBase { east := { short := true } }, by decide +kernel⟩⟩

theorem lockedBase_takes : lockedBase.coreTakes := by refine ⟨rfl, ?_, ?_, rfl, rfl, rfl, rfl⟩ <;> decide

/-- What a clause about a locked command asks of a request and a state. -/
def MeetsLocked (op : Nat) (sp : CmdSpec) (r : Req) (s : State) : Prop :=
  s.serves op r ∧ sp.lenFits r = true ∧ s.locks = lockedBase.locks ∧ s.inSession r = false

theorem meets_locked {op : Nat} {sp : CmdSpec} {r : Req} (hf : r.flags = 0) (hp : r.path = .spi) (hl : sp.lenFits r = true) :
    MeetsLocked op sp r (lockedBase.ask op r) := by
  have h : r.path = .spi := hp
  refine ⟨ask_serves lockedBase op r hf ?_ ?_ lockedBase_takes, hl, ?_, ?_⟩
  · rw [h]; rfl
  · rw [h]; rfl
  · unfold State.ask; rw [h]; rfl
  · unfold State.inSession State.ask; rw [h]; rfl

theorem witness_LockedCommandsAnswerLocked :
    MeetsLocked 0x401 rulePortWrite { words := [w36 2097152] } (State.ask lockedBase 0x401 { words := [w36 2097152] }) ∧
    MeetsLocked 0x402 ruleProgramLoad { words := [w36 64424509440, w36 0] } (State.ask lockedBase 0x402 { words := [w36 64424509440, w36 0] }) ∧
    MeetsLocked 0x403 ruleRangeWrite { words := List.replicate 2 0 } (State.ask lockedBase 0x403 { words := List.replicate 2 0 }) ∧
    MeetsLocked 0x404 ruleEntryWrite { words := [w36 83886080, w36 0, w36 0, w36 0, w36 0, w36 0, w36 0, w36 0, w36 0, w36 0, w36 0, w36 0, w36 0] } (State.ask lockedBase 0x404 { words := [w36 83886080, w36 0, w36 0, w36 0, w36 0, w36 0, w36 0, w36 0, w36 0, w36 0, w36 0, w36 0, w36 0] }) ∧
    MeetsLocked 0x406 ruleGroupWrite { words := List.replicate 3 0 } (State.ask lockedBase 0x406 { words := List.replicate 3 0 }) ∧
    MeetsLocked 0x407 ruleCommit { words := List.replicate 1 0 } (State.ask lockedBase 0x407 { words := List.replicate 1 0 }) ∧
    MeetsLocked 0x409 ruleFragWrite { words := [w36 67108864] } (State.ask lockedBase 0x409 { words := [w36 67108864] }) ∧
    MeetsLocked 0x701 zoneMapWrite { words := List.replicate 1 0 } (State.ask lockedBase 0x701 { words := List.replicate 1 0 }) ∧
    MeetsLocked 0x703 zonePolicyWrite { words := [w36 1, w36 2, w36 4, w36 8, w36 16, w36 32, w36 64, w36 128, w36 256, w36 512, w36 1024, w36 2048, w36 4096, w36 8192, w36 16384, w36 32768] } (State.ask lockedBase 0x703 { words := [w36 1, w36 2, w36 4, w36 8, w36 16, w36 32, w36 64, w36 128, w36 256, w36 512, w36 1024, w36 2048, w36 4096, w36 8192, w36 16384, w36 32768] }) ∧
    MeetsLocked 0x801 meterWrite { words := List.replicate 5 0 } (State.ask lockedBase 0x801 { words := List.replicate 5 0 }) ∧
    MeetsLocked 0x803 meterFilterWrite { words := List.replicate 2 0 } (State.ask lockedBase 0x803 { words := List.replicate 2 0 }) ∧
    MeetsLocked 0x501 fwdEntryWrite { words := [w36 419692544, w36 34359754752, w36 0, w36 0, w36 0] } (State.ask lockedBase 0x501 { words := [w36 419692544, w36 34359754752, w36 0, w36 0, w36 0] }) ∧
    MeetsLocked 0x503 fwdCommit { words := List.replicate 1 0 } (State.ask lockedBase 0x503 { words := List.replicate 1 0 }) ∧
    MeetsLocked 0x505 fwdPortWrite { words := [w36 524288, w36 0] } (State.ask lockedBase 0x505 { words := [w36 524288, w36 0] }) ∧
    MeetsLocked 0x507 fwdLearnWrite { words := List.replicate 1 0 } (State.ask lockedBase 0x507 { words := List.replicate 1 0 }) ∧
    MeetsLocked 0x508 fwdLearnFlush { words := List.replicate 1 0 } (State.ask lockedBase 0x508 { words := List.replicate 1 0 }) ∧
    MeetsLocked 0x601 frerFuncWrite { words := [w36 524320] } (State.ask lockedBase 0x601 { words := [w36 524320] }) ∧
    MeetsLocked 0x603 frerResetCmd { words := List.replicate 1 0 } (State.ask lockedBase 0x603 { words := List.replicate 1 0 }) ∧
    MeetsLocked 0x901 gclConfigWrite { words := [w36 524288, w36 1000, w36 0, w36 0, w36 0] } (State.ask lockedBase 0x901 { words := [w36 524288, w36 1000, w36 0, w36 0, w36 0] }) ∧
    MeetsLocked 0x902 gclListWrite { words := [w36 0, w36 8] } (State.ask lockedBase 0x902 { words := [w36 0, w36 8] }) ∧
    MeetsLocked 0x903 gclPatternWrite { words := List.replicate 2 0 } (State.ask lockedBase 0x903 { words := List.replicate 2 0 }) ∧
    MeetsLocked 0x904 gclCommit { words := [w36 1024] } (State.ask lockedBase 0x904 { words := [w36 1024] }) ∧
    MeetsLocked 0x905 gclCancel { words := List.replicate 1 0 } (State.ask lockedBase 0x905 { words := List.replicate 1 0 }) ∧
    MeetsLocked 0xA01 shaperQueueWrite { words := [w36 128, w36 0] } (State.ask lockedBase 0xA01 { words := [w36 128, w36 0] }) ∧
    MeetsLocked 0xA03 shaperPreemptWrite { words := List.replicate 1 0 } (State.ask lockedBase 0xA03 { words := List.replicate 1 0 }) ∧
    MeetsLocked 0xA04 shaperMmWrite { words := [w36 2097152] } (State.ask lockedBase 0xA04 { words := [w36 2097152] }) ∧
    MeetsLocked 0x301 poolLimitWrite { words := List.replicate 1 0 } (State.ask lockedBase 0x301 { words := List.replicate 1 0 }) ∧
    MeetsLocked 0x203 pathMirrorWrite { words := [w36 100663296, w36 4] } (State.ask lockedBase 0x203 { words := [w36 100663296, w36 4] }) ∧
    MeetsLocked 0xC02 timeSet { words := [w36 34359738368, w36 0, w36 0] } (State.ask lockedBase 0xC02 { words := [w36 34359738368, w36 0, w36 0] }) ∧
    MeetsLocked 0xC03 timeAdjust { words := List.replicate 2 0 } (State.ask lockedBase 0xC03 { words := List.replicate 2 0 }) ∧
    MeetsLocked 0xC04 timeConfigWrite { words := [w36 16941056, w36 16000, w36 1048576, w36 8192, w36 0] } (State.ask lockedBase 0xC04 { words := [w36 16941056, w36 16000, w36 1048576, w36 8192, w36 0] }) ∧
    MeetsLocked 0xC06 timePortWrite { words := List.replicate 3 0 } (State.ask lockedBase 0xC06 { words := List.replicate 3 0 }) ∧
    MeetsLocked 0x052 maintExclWrite { words := [w36 2003828736] } (State.ask lockedBase 0x052 { words := [w36 2003828736] }) ∧
    MeetsLocked 0xF01 edgeCanWrite { words := [w36 0, w36 10762616896, w36 0, w36 0] } (State.ask lockedBase 0xF01 { words := [w36 0, w36 10762616896, w36 0, w36 0] }) ∧
    MeetsLocked 0xF02 edgeLinWrite { words := [w36 32768000] } (State.ask lockedBase 0xF02 { words := [w36 32768000] }) ∧
    MeetsLocked 0xF03 edgeLinTableWrite { words := [w36 2147745792, w36 4194304] } (State.ask lockedBase 0xF03 { words := [w36 2147745792, w36 4194304] }) ∧
    MeetsLocked 0xF04 edgeSerWrite { words := List.replicate 2 0 } (State.ask lockedBase 0xF04 { words := List.replicate 2 0 }) ∧
    MeetsLocked 0xF05 edgeTableLoad { words := List.replicate 2 0 } (State.ask lockedBase 0xF05 { words := List.replicate 2 0 }) ∧
    MeetsLocked 0xF06 edgeWakeWrite { words := [w36 524288] } (State.ask lockedBase 0xF06 { words := [w36 524288] }) ∧
    MeetsLocked 0xD01 portConfigWrite { words := [w36 671088640] } (State.ask lockedBase 0xD01 { words := [w36 671088640] }) ∧
    MeetsLocked 0xD02 portPlcaWrite { words := [w36 23925620737, w36 268435456] } (State.ask lockedBase 0xD02 { words := [w36 23925620737, w36 268435456] }) ∧
    MeetsLocked 0xD06 portCableTest { words := List.replicate 1 0 } (State.ask lockedBase 0xD06 { words := List.replicate 1 0 }) ∧
    MeetsLocked 0x101 gwBundleWrite { words := List.replicate 8 0 } (State.ask lockedBase 0x101 { words := List.replicate 8 0 }) ∧
    MeetsLocked 0x102 gwUpWrite { words := List.replicate 5 0 } (State.ask lockedBase 0x102 { words := List.replicate 5 0 }) ∧
    MeetsLocked 0x103 gwDownWrite { words := List.replicate 5 0 } (State.ask lockedBase 0x103 { words := List.replicate 5 0 }) ∧
    MeetsLocked 0x104 gwPeriodicWrite { words := List.replicate 4 0 } (State.ask lockedBase 0x104 { words := List.replicate 4 0 }) ∧
    MeetsLocked 0x043 coreGuardWrite { words := [w36 675293184, w36 419430400] } (State.ask lockedBase 0x043 { words := [w36 675293184, w36 419430400] }) ∧
    MeetsLocked 0x0F1 wakePolicyWrite { words := List.replicate 3 0 } (State.ask lockedBase 0x0F1 { words := List.replicate 3 0 }) ∧
    MeetsLocked 0x0F2 wakeConfigWrite { words := [w36 8552448, w36 4194304, w36 0] } (State.ask lockedBase 0x0F2 { words := [w36 8552448, w36 4194304, w36 0] }) ∧
    MeetsLocked 0xE01 macsecPortWrite { words := List.replicate 2 0 } (State.ask lockedBase 0xE01 { words := List.replicate 2 0 }) ∧
    MeetsLocked 0xE02 macsecMkaWrite { words := [w36 524320, w36 0, w36 0, w36 0, w36 0, w36 0, w36 0, w36 0, w36 0] } (State.ask lockedBase 0xE02 { words := [w36 524320, w36 0, w36 0, w36 0, w36 0, w36 0, w36 0, w36 0, w36 0] }) ∧
    MeetsLocked 0x0A3 keyGenerate { words := [w36 269484032] } (State.ask lockedBase 0x0A3 { words := [w36 269484032] }) ∧
    MeetsLocked 0x0A4 keyImport { words := [w36 269484032, w36 0, w36 0, w36 0, w36 0, w36 0, w36 0, w36 0, w36 0] } (State.ask lockedBase 0x0A4 { words := [w36 269484032, w36 0, w36 0, w36 0, w36 0, w36 0, w36 0, w36 0, w36 0] }) ∧
    MeetsLocked 0x0A5 keyDerive { words := [w36 269484100, w36 1073741824, w36 0] } (State.ask lockedBase 0x0A5 { words := [w36 269484100, w36 1073741824, w36 0] }) ∧
    MeetsLocked 0x0A6 keyDelete { words := [w36 268435456] } (State.ask lockedBase 0x0A6 { words := [w36 268435456] }) ∧
    MeetsLocked 0x0A8 keyTamperWrite { words := [w36 5369757696] } (State.ask lockedBase 0x0A8 { words := [w36 5369757696] }) ∧
    MeetsLocked 0x011 sealCommit { words := [w36 67645734912] } (State.ask lockedBase 0x011 { words := [w36 67645734912] }) ∧
    MeetsLocked 0x0D2 powerSeqLoad { words := [w36 268435456, w36 3221553152] } (State.ask lockedBase 0x0D2 { words := [w36 268435456, w36 3221553152] }) ∧
    MeetsLocked 0x0D3 powerConfigWrite { words := [w36 51999932416, w36 0, w36 0, w36 0, w36 1681408800, w36 11747945400, w36 671744000] } (State.ask lockedBase 0x0D3 { words := [w36 51999932416, w36 0, w36 0, w36 0, w36 1681408800, w36 11747945400, w36 671744000] }) ∧
    MeetsLocked 0x0D4 powerLoadConfig { words := [w36 0, w36 1048576, w36 50, w36 10485760] } (State.ask lockedBase 0x0D4 { words := [w36 0, w36 1048576, w36 50, w36 10485760] }) ∧
    MeetsLocked 0x0E1 paceCurveLoad { words := [w36 536870912, w36 16782950400] } (State.ask lockedBase 0x0E1 { words := [w36 536870912, w36 16782950400] }) ∧
    MeetsLocked 0x0E2 paceConfigWrite { words := [w36 17080960] } (State.ask lockedBase 0x0E2 { words := [w36 17080960] }) :=
  ⟨meets_locked rfl rfl (by decide +kernel), meets_locked rfl rfl (by decide +kernel), meets_locked rfl rfl (by decide +kernel), meets_locked rfl rfl (by decide +kernel), meets_locked rfl rfl (by decide +kernel), meets_locked rfl rfl (by decide +kernel), meets_locked rfl rfl (by decide +kernel), meets_locked rfl rfl (by decide +kernel), meets_locked rfl rfl (by decide +kernel), meets_locked rfl rfl (by decide +kernel), meets_locked rfl rfl (by decide +kernel), meets_locked rfl rfl (by decide +kernel), meets_locked rfl rfl (by decide +kernel), meets_locked rfl rfl (by decide +kernel), meets_locked rfl rfl (by decide +kernel), meets_locked rfl rfl (by decide +kernel), meets_locked rfl rfl (by decide +kernel), meets_locked rfl rfl (by decide +kernel), meets_locked rfl rfl (by decide +kernel), meets_locked rfl rfl (by decide +kernel), meets_locked rfl rfl (by decide +kernel), meets_locked rfl rfl (by decide +kernel), meets_locked rfl rfl (by decide +kernel), meets_locked rfl rfl (by decide +kernel), meets_locked rfl rfl (by decide +kernel), meets_locked rfl rfl (by decide +kernel), meets_locked rfl rfl (by decide +kernel), meets_locked rfl rfl (by decide +kernel), meets_locked rfl rfl (by decide +kernel), meets_locked rfl rfl (by decide +kernel), meets_locked rfl rfl (by decide +kernel), meets_locked rfl rfl (by decide +kernel), meets_locked rfl rfl (by decide +kernel), meets_locked rfl rfl (by decide +kernel), meets_locked rfl rfl (by decide +kernel), meets_locked rfl rfl (by decide +kernel), meets_locked rfl rfl (by decide +kernel), meets_locked rfl rfl (by decide +kernel), meets_locked rfl rfl (by decide +kernel), meets_locked rfl rfl (by decide +kernel), meets_locked rfl rfl (by decide +kernel), meets_locked rfl rfl (by decide +kernel), meets_locked rfl rfl (by decide +kernel), meets_locked rfl rfl (by decide +kernel), meets_locked rfl rfl (by decide +kernel), meets_locked rfl rfl (by decide +kernel), meets_locked rfl rfl (by decide +kernel), meets_locked rfl rfl (by decide +kernel), meets_locked rfl rfl (by decide +kernel), meets_locked rfl rfl (by decide +kernel), meets_locked rfl rfl (by decide +kernel), meets_locked rfl rfl (by decide +kernel), meets_locked rfl rfl (by decide +kernel), meets_locked rfl rfl (by decide +kernel), meets_locked rfl rfl (by decide +kernel), meets_locked rfl rfl (by decide +kernel), meets_locked rfl rfl (by decide +kernel), meets_locked rfl rfl (by decide +kernel), meets_locked rfl rfl (by decide +kernel), meets_locked rfl rfl (by decide +kernel), meets_locked rfl rfl (by decide +kernel), meets_locked rfl rfl (by decide +kernel)⟩

/-- The limit that the host of the worked example of 13 writes: 40 000 cells for output 14, clamped to 32 768. -/
def limitBase : State :=
  { base with host := { pcieW := true, w0 := { waiting := [{ opcode := 0x301, req := { path := .pcieW0, tag := 0x2C, words := [0x380009C40] } }] } },
              poolW := { built := true } }

/-- The five words of the response (13, "Worked example: a clamped limit"). -/
theorem test_clamped_limit :
    (match exec (.poolLimitWrite { path := .pcieW0, tag := 0x2C, words := [0x380009C40] }) limitBase with
     | .next t => decide ((t.path .pcieW0).fifo = [0x301042C01, 0x010102000, 0x9C40, 0x8000, 0x010000000] ∧ Tbl.get limitDflt t.poolW.limits 14 = 32768)
     | _ => false) = true := by decide +kernel

/-- The window of that example spells the command (13, the same table). -/
theorem test_window :
    (({ window := [(0, 0x301012C00), (1, 0x380009C40)] } : PathSt).windowReq .pcieW0) =
      (0x301, { path := .pcieW0, tag := 0x2C, words := [0x380009C40] }) := by decide +kernel

/-- EVT_WEST of the example under 13 R373, read and written while POOL_LEVEL is raised. -/
theorem test_event_register :
    let r : EvReg := { seq := 0x17, raised := [(10, 0x16)] }
    r.word = 0x170000400 ∧ ((r.read.event 1).1.write 0x17).word = 0x180000002 := by decide +kernel

/-- Write 18 of the worked vote of 12 decodes to 0x140 in every pass, and write 17 of pass B to 5. -/
theorem test_vote_decodes :
    ({ reg := 6, val := 0x140, tagged := true } : RegWrite).decode 0 0x0B3 = (6, 0x140, true) ∧
    ({ reg := 6, val := 0xFFFFFFEBF, tagged := true } : RegWrite).decode 1 0x0B3 = (6, 0x140, true) ∧
    ({ reg := 38, val := 0x1F3, tagged := true } : RegWrite).decode 2 0x0B3 = (6, 0x140, true) ∧
    ({ reg := 5, val := 0xFFFFFFFFA } : RegWrite).decode 1 0x0B3 = (5, 5, false) := by decide +kernel

/-- DIFF_AB 3, DIFF_AC 0 and DIFF_BC 3 make pass B odd (12, the same example). -/
theorem test_vote_odd : vote 3 0 3 = .odd 1 := by decide +kernel

/-- The Time/Date message of the worked example of 08, sampled at 1 939 191 379.75 s with LOCAL_OFFSET +120. -/
theorem test_time_message :
    let s : State := { edgeBase (({} : EdgeSt).ship) with
      tim := { on := true, mode := .locked, secValid := true, tod := 1939191379750000000 * 4 * 2 ^ 32, cfg := { localOffset := 120 } } }
    s.timePayload 4 = [0xAB, 0x0F, 0x08, 0x06, 0x39, 0x2E, 0x7D, 0x7F] := by decide +kernel

/-- The IBIS telegram of the worked example of 10: "z042", the terminator and the check. -/
theorem test_ibis_telegram :
    ((({} : EdgeSt).ship).serTab 0).send 0 [0x7A, 0x30, 0x34, 0x32] = [0x7A, 0x30, 0x34, 0x32, 0x0D, 0x3E] := by decide +kernel

/-- The West die of M0 in the worked example of 16: D is 64.16 Gb/s and P_t is 454. -/
theorem test_pace :
    let up (p : Nat) : Nat × PortSt := (p, { mode := .up, rate := (PortSt.dflt p).rate })
    let s : State := { base with
      ports := [up 0, up 2, up 3, up 4, up 5, up 6, up 7, up 8, up 11, up 15, up 16, up 17, up 20, up 21], host := { pcieW := true },
      pair := { west := { mode := .active }, east := { mode := .warm } } }
    s.demand .west = 64160000 ∧ s.paceTarget .west 45 = 454 := by decide +kernel

/-- EDGE.CAN_WRITE of the worked example of 10, word 1: ENABLE, AUTO_RECOVER, TIME_EN, TIME_TABLE 4 and TX_LIFETIME 100. -/
theorem test_can_write :
    (match exec (.edgeCanWrite { words := [0x089101900, 0x05FC80800, 0, 0] })
        (State.ask (edgeBase (({} : EdgeSt).ship)) 0xF01 { words := [0x089101900, 0x05FC80800, 0, 0] }) with
     | .next t => decide ((t.canCh 0).enable = true ∧ (t.canCh 0).autoRecover = true ∧ (t.canCh 0).timeEn = true ∧ (t.canCh 0).timeTable = 4 ∧
         (t.canCh 0).txLife = 100 ∧ (t.path .spi).fifo = [0xF01000000])
     | _ => false) = true := by decide +kernel

/-- Uplink entry 0 of the worked example of 11: CHAN 0, RATE 200, BURST 15, and an EEC1 frame from any source matches it. -/
theorem test_uplink_entry :
    let e : GwEnt := { valid := true, words := [0x002080000, 0x800F00400, 0xF03FFFF00, 0x320, 0] }
    e.fld 1 24 20 = 0 ∧ e.rate false = 200 ∧ e.fld 3 35 32 = 15 ∧ e.keyIs { ide := true, id := 0x0CF00421 } = true ∧
      e.keyIs { ide := true, id := 0x18FEF121 } = false := by decide +kernel

/-- The two steps of a queue: with nothing waiting one tick passes; with a command waiting it runs. -/
theorem test_step :
    (match step base with | .next t => t.tim.ticks = 1 | _ => False) ∧
    step { base with pending := [.heartbeatTx .west] } = exec (.heartbeatTx .west) base := ⟨rfl, rfl⟩

end Sys2Proof.Machine
end

section
/-! PROOFS. The gateway: what the FRESH_MS timer of a periodic slot does (11 R312, R313). -/

namespace Sys2Proof.Machine

/-! ### A slot read after a change -/

@[simp] theorem State.perSlot_modSlot_self (s : State) (n : Nat) (f : PerSlot → PerSlot) : (s.modSlot n f).perSlot n = f (s.perSlot n) :=
  Tbl.get_upd_self _ _ _ _

@[simp] theorem State.perSlot_advTick (s : State) (k n : Nat) : (s.advTick k).perSlot n = s.perSlot n := rfl

theorem State.perSlot_of_wide {s t : State} (h : t.wide = s.wide) (n : Nat) : t.perSlot n = s.perSlot n := by
  rw [State.perSlot, State.perSlot, State.gw_of_wide h]

@[simp] theorem State.perSlot_raiseDev (s : State) (f : DevFlag) (n : Nat) : (s.raiseDev f).perSlot n = s.perSlot n :=
  State.perSlot_of_wide (s.raiseDev_wide f) n

@[simp] theorem State.perSlot_satRaise_raiseDev (s : State) (old k : Nat) (f : DevFlag) (n : Nat) :
    (s.satRaise old k fun t => t.raiseDev f).perSlot n = s.perSlot n :=
  State.perSlot_of_wide (s.satRaise_wide old k (fun t => t.raiseDev f) (s.raiseDev_wide f)) n

theorem State.perSlot_slotWrite_self (s : State) (n : Nat) (data : List Byte) :
    (s.slotWrite n data).perSlot n = { s.perSlot n with data := some data, freshAt := s.tim.ticks, isStale := false } :=
  State.perSlot_modSlot_self _ _ _

/-! ### The payload that a slot sends -/

/-- A slot whose STALE_ACT is not 1 sends its last payload, stale or not (11 R313). -/
theorem PerSlot.live_of_goesOn {p : PerSlot} (hv : p.valid = true) (ha : p.fld 1 10 9 ≠ 1) : p.live = p.data := by
  simp [PerSlot.live, hv, ha]

/-- A stale slot with STALE_ACT 1 sends nothing (11 R313). -/
theorem PerSlot.live_of_stopped {p : PerSlot} (hs : p.isStale = true) (ha : p.fld 1 10 9 = 1) : p.live = none := by
  simp [PerSlot.live, hs, ha]

theorem PerSlot.live_of_fresh {p : PerSlot} (hv : p.valid = true) (hs : p.isStale = false) : p.live = p.data := by
  simp [PerSlot.live, hv, hs]

/-- Whatever STALE_ACT is, a slot sends the payload just written into it (11 R313). -/
theorem State.live_slotWrite (s : State) (n : Nat) (data : List Byte) (hv : (s.perSlot n).valid = true) :
    ((s.slotWrite n data).perSlot n).live = some data := by
  rw [State.perSlot_slotWrite_self]
  exact PerSlot.live_of_fresh hv rfl

/-! ### The end of the FRESH_MS timer -/

/-- A slot as its FRESH_MS timer leaves it: stale, and counted in STALE. -/
def PerSlot.outdated (p : PerSlot) : PerSlot := { p with isStale := true, stale := sat36 p.stale 1 }

/-- The FRESH_MS timer of slot `n` runs: the slot is written and not stale, FRESH_MS is not 0, the channels run and no switchover gap
holds the timer (11 R313, R314). -/
structure State.FreshRuns (s : State) (n : Nat) : Prop where
  inRange : n ≤ 255
  valid : (s.perSlot n).valid = true
  written : (s.perSlot n).data.isSome = true
  fresh : (s.perSlot n).isStale = false
  timed : (s.perSlot n).fld 4 35 20 ≠ 0
  cuff : s.cuffRuns = true
  noGap : s.pair.held = false

/-- When the timer of a slot ends, the slot is outdated and GW_STALE is raised on every path (11 R313). -/
theorem periodicStale_of_freshRuns {s : State} {n : Nat} (h : s.FreshRuns n) :
    runs (.periodicStale n) s fun t => t.perSlot n = (s.perSlot n).outdated ∧
      ∀ p, p ∈ hostPaths → ((t.path p).evDev.lf DevFlag.gwStale.bit).isSome = true := by
  have hgap : ¬ ((s.perSlot n).fld 1 11 11 = 0 ∧ s.pair.held = true) := by simp [h.noGap]
  refine ⟨_, congrArg Host.Outcome.next (if_pos ⟨h.inRange, h.valid, h.written, h.fresh, h.timed, h.cuff, hgap⟩), ?_,
    State.raiseDev_lf _ .gwStale⟩
  simp [PerSlot.outdated]

/-- A stale slot has no timer to end: the event changes nothing, so that STALE counts an episode once (11 R313). -/
theorem periodicStale_of_isStale {s : State} {n : Nat} (h : (s.perSlot n).isStale = true) : exec (.periodicStale n) s = .next s := by
  refine congrArg Host.Outcome.next (if_neg ?_)
  rintro ⟨-, -, -, hfresh, -⟩
  simp [h] at hfresh

/-- Settles O56: the end of the timer leaves the slot outdated, and what it sends from then on follows STALE_ACT. -/
theorem staleSlotsAreCountedAndStopOrGoOn : Obligations.StaleSlotsAreCountedAndStopOrGoOn := by
  unfold Obligations.StaleSlotsAreCountedAndStopOrGoOn
  intro n s hn hvalid hdata hfresh htimed hcuff hgap
  obtain ⟨t, hexec, hslot, hflag⟩ := periodicStale_of_freshRuns ⟨hn, hvalid, hdata, hfresh, htimed, hcuff, hgap⟩
  have hstale : (t.perSlot n).isStale = true := by rw [hslot]; rfl
  have hvalid' : (t.perSlot n).valid = true := by rw [hslot]; exact hvalid
  have hfld : (t.perSlot n).fld 1 10 9 = (s.perSlot n).fld 1 10 9 := by rw [hslot]; rfl
  have hdata' : (t.perSlot n).data = (s.perSlot n).data := by rw [hslot]; rfl
  refine ⟨t, hexec, hstale, by rw [hslot]; rfl, hflag, fun hgo => ?_, fun hstop => ⟨?_, fun data => ?_⟩, t,
    periodicStale_of_isStale hstale, rfl⟩
  · rw [← hdata']
    exact PerSlot.live_of_goesOn hvalid' (by omega)
  · exact PerSlot.live_of_stopped hstale (hfld.trans hstop)
  · exact State.live_slotWrite t n data hvalid'

end Sys2Proof.Machine
end

section
/-! PROOFS. Reports of power: the flag of EVT_DEVICE and the entry of the fault log that a threshold of the supply and a shortage of
pace make (13 R373, R375; 16 R463, R466 to R470; 18 R525). -/

namespace Sys2Proof.Machine

/-! ### A raised flag stays raised -/

theorem insFlag_lookup_ne {f g : Nat} (l : Nat) (r : List (Nat × Nat)) (h : g ≠ f) : (insFlag f l r).lookup g = r.lookup g := by
  have hgf : (g == f) = false := beq_false_of_ne h
  induction r with
  | nil => simp [insFlag, List.lookup_cons, hgf]
  | cons e r ih =>
    obtain ⟨k, v⟩ := e
    rw [insFlag]
    split
    · simp [List.lookup_cons, hgf]
    split
    · rename_i hk
      subst hk
      simp [List.lookup_cons, hgf]
    · simp only [List.lookup_cons, ih]

/-- An event leaves every flag of its register that is raised (13 R373). -/
theorem EvReg.event_keeps_lf (r : EvReg) (f g : Nat) (h : (r.lf g).isSome = true) : ((r.event f).1.lf g).isSome = true := by
  by_cases hgf : g = f
  · rw [hgf]
    exact EvReg.event_lf r f
  · unfold EvReg.event
    split
    · simpa [EvReg.lf, insFlag_lookup_ne _ _ hgf] using h
    · exact h

/-- Flag `g` of register `n` is raised on a path. -/
def State.Flagged (s : State) (p : Path) (n g : Nat) : Prop := (((s.path p).ev n).lf g).isSome = true

theorem State.flagged_dev {s : State} {p : Path} {g : Nat} : s.Flagged p 3 g ↔ ((s.path p).evDev.lf g).isSome = true := Iff.rfl

theorem State.raiseAt_keeps_flagged {s : State} {q : Path} {n g : Nat} (p : Path) (f : Nat) (h : s.Flagged q n g) :
    (s.raiseAt p n f).Flagged q n g := by
  by_cases hqp : q = p
  · subst hqp
    have hevent := EvReg.event_keeps_lf _ f g h
    unfold State.Flagged at h ⊢
    unfold State.raiseAt
    dsimp only
    repeat' split
    all_goals simpa only [State.emit_path, State.path_modPath, PathSt.noticed_lf, PathSt.ev_setEv]
  · unfold State.Flagged
    rw [State.raiseAt_other _ _ _ _ _ hqp]
    exact h

theorem State.raiseDev_keeps_flagged {s : State} {q : Path} {g : Nat} (f : DevFlag) (h : s.Flagged q 3 g) :
    (s.raiseDev f).Flagged q 3 g :=
  List.foldlRecOn (motive := fun t : State => t.Flagged q 3 g) hostPaths _ h fun _ ht p _ => State.raiseAt_keeps_flagged p f.bit ht

/-! ### The newest entry of the fault log -/

@[simp] theorem State.raiseAt_sys (s : State) (p : Path) (n f : Nat) : (s.raiseAt p n f).sys = s.sys := by
  unfold State.raiseAt
  dsimp only
  repeat' split
  all_goals rfl

@[simp] theorem State.raiseDev_sys (s : State) (f : DevFlag) : (s.raiseDev f).sys = s.sys :=
  List.foldlRecOn (motive := fun t : State => t.sys = s.sys) hostPaths _ rfl fun t ht p _ => (t.raiseAt_sys p 3 f.bit).trans ht

/-- Flag `f` of EVT_DEVICE is raised on every path, and the newest entry of the fault log has CODE `code` and DIE `die`. -/
structure State.Reported (t : State) (f : DevFlag) (code die : Nat) : Prop where
  flagged : ∀ p, p ∈ hostPaths → ((t.path p).evDev.lf f.bit).isSome = true
  logged : ∃ e, t.sys.log.getLast? = some e ∧ e.code = code ∧ e.die = die

/-- The entry that a fault makes (18 R525, R556). -/
def State.faultEntry (s : State) (code die detail : Nat) : FaultEntry :=
  { code := code, die := die, cls := faultClass code, boot := s.sys.boots, detail := detail, time := s.now72, mono := s.monoNs }

theorem State.logFault_log (s : State) (code die detail : Nat) :
    (s.logFault code die detail).sys.log = faultAppend s.sys.log (s.faultEntry code die detail) := by
  rw [State.logFault, State.raiseDev_sys]
  rfl

/-- FAULT_LOGGED, which the entry raises, leaves the flags of EVT_DEVICE that are raised. -/
theorem State.logFault_keeps_flagged {s : State} {q : Path} {g : Nat} (code die detail : Nat) (h : s.Flagged q 3 g) :
    (s.logFault code die detail).Flagged q 3 g := by
  rw [State.logFault]
  exact State.raiseDev_keeps_flagged .faultLogged h

/-- A flag raised, then a fault entered, are reported. -/
theorem State.reported_logFault_raiseDev (s : State) (f : DevFlag) (code die detail : Nat) :
    ((s.raiseDev f).logFault code die detail).Reported f code die where
  flagged p hp := State.flagged_dev.mp (State.logFault_keeps_flagged _ _ _ (State.flagged_dev.mpr (State.raiseDev_lf s f p hp)))
  logged := by
    obtain ⟨e, hlast, hcode, hdie, -⟩ := faultAppend_last (s.raiseDev f).sys.log ((s.raiseDev f).faultEntry code die detail)
    exact ⟨e, by rw [State.logFault_log, hlast], hcode, hdie⟩

theorem State.Reported.of_eq {s t : State} {f : DevFlag} {code die : Nat} (h : s.Reported f code die) (hhost : t.host = s.host)
    (hsys : t.sys = s.sys) : t.Reported f code die where
  flagged p hp := by
    rw [State.path, hhost]
    exact h.flagged p hp
  logged := by
    rw [hsys]
    exact h.logged

/-! ### The thresholds of the supply -/

/-- The supply in state `m` at `volts`, `dt` ticks on, SUPPLY raised and the fault entered (16 R468 to R470). -/
def State.supplyFault (s : State) (m : SupplyMode) (volts dt detail : Nat) : State :=
  (((s.adv dt).supplyTo m volts).raiseDev .supply).logFault 0x12 7 detail

theorem State.supplyFault_reported (s : State) (m : SupplyMode) (volts dt detail : Nat) :
    (s.supplyFault m volts dt detail).Reported .supply 0x12 7 :=
  State.reported_logFault_raiseDev _ _ _ _ _

theorem State.supplyFault_pow (s : State) (m : SupplyMode) (volts dt detail : Nat) :
    (s.supplyFault m volts dt detail).pow = { s.pow with supply := m, volts := min 4095 volts } := by
  have hwide : (s.supplyFault m volts dt detail).wide = ((s.adv dt).supplyTo m volts).wide := by simp [State.supplyFault]
  exact State.pow_of_wide hwide

theorem State.feed_modFeed_self (s : State) (f : Nat) (g : Feed → Feed) : (s.modFeed f g).feed f = g (s.feed f) :=
  Tbl.get_upd_self _ _ _ _

theorem State.feed_modFeed_ne (s : State) {f a : Nat} (g : Feed → Feed) (h : f ≠ a) : (s.modFeed a g).feed f = s.feed f :=
  Tbl.get_upd_ne _ _ _ h

/-- A feed in SHED since `now`. -/
def Feed.shed (now : Nat) (c : Feed) : Feed := { c with mode := .shed, current := 0, since := now }

/-- A feed that is in INRUSH or ON goes to SHED (16 R466). -/
def Feed.crankShed (now : Nat) (c : Feed) : Feed :=
  if c.mode = .inrush ∨ c.mode = .on then c.shed now else c

theorem Feed.crankShed_mode {c : Feed} (now : Nat) (h : c.mode = .inrush ∨ c.mode = .on) : (c.crankShed now).mode = .shed := by
  rw [Feed.crankShed, if_pos h, Feed.shed]

theorem Feed.crankShed_idem (now : Nat) (c : Feed) : (c.crankShed now).crankShed now = c.crankShed now := by
  by_cases h : c.mode = .inrush ∨ c.mode = .on
  · rw [Feed.crankShed, Feed.crankShed_mode now h]
    rfl
  · have hkeep : c.crankShed now = c := if_neg h
    rw [hkeep, hkeep]

/-- Feed `f` goes to SHED when it is in INRUSH or ON. -/
def State.shedFeed (now : Nat) (s : State) (f : Nat) : State :=
  if (s.feed f).mode = .inrush ∨ (s.feed f).mode = .on then s.modFeed f (Feed.shed now) else s

theorem State.shedFeed_host (now : Nat) (s : State) (f : Nat) : (s.shedFeed now f).host = s.host := by
  unfold State.shedFeed
  split <;> rfl

theorem State.shedFeed_sys (now : Nat) (s : State) (f : Nat) : (s.shedFeed now f).sys = s.sys := by
  unfold State.shedFeed
  split <;> rfl

theorem State.feed_shedFeed (now : Nat) (s : State) (a f : Nat) :
    (s.shedFeed now a).feed f = if f = a then (s.feed f).crankShed now else s.feed f := by
  unfold State.shedFeed Feed.crankShed
  by_cases hfa : f = a
  · subst hfa
    rw [if_pos rfl]
    split
    · exact State.feed_modFeed_self _ _ _
    · rfl
  · rw [if_neg hfa]
    split
    · exact State.feed_modFeed_ne _ _ hfa
    · rfl

/-- Of the feeds, exactly the listed ones are shed, once and for all. -/
theorem State.feed_foldl_shedFeed (now : Nat) (l : List Nat) (s : State) (f : Nat) :
    (l.foldl (State.shedFeed now) s).feed f = if f ∈ l then (s.feed f).crankShed now else s.feed f := by
  induction l generalizing s with
  | nil => rfl
  | cons a l ih =>
    rw [List.foldl_cons, ih, State.feed_shedFeed]
    by_cases hfa : f = a <;> by_cases hfl : f ∈ l <;> simp [hfa, hfl, Feed.crankShed_idem]

/-- The feeds of a list shed leave a report as it stands. -/
theorem State.Reported.foldl_shedFeed {s : State} {f : DevFlag} {code die : Nat} (h : s.Reported f code die) (now : Nat) (l : List Nat) :
    (l.foldl (State.shedFeed now) s).Reported f code die :=
  List.foldlRecOn (motive := fun t : State => t.Reported f code die) l _ h fun t ht a _ =>
    ht.of_eq (t.shedFeed_host now a) (t.shedFeed_sys now a)

theorem mem_maskList {m n f : Nat} : f ∈ maskList m n ↔ f < n ∧ inMask m f = true := by simp [maskList]

/-- The supply below CRANK: the fault, then the CRANK_SHED feeds shed (16 R466, R470). -/
def State.crankFault (s : State) (volts dt : Nat) : State :=
  let s1 := s.supplyFault .crank volts dt 2
  (maskList s1.pow.cfg.crankShed 8).foldl (State.shedFeed s1.tim.ticks) s1

theorem State.crankFault_reported (s : State) (volts dt : Nat) : (s.crankFault volts dt).Reported .supply 0x12 7 :=
  (s.supplyFault_reported .crank volts dt 2).foldl_shedFeed _ _

theorem State.crankFault_feed_mode {s : State} {f : Nat} (volts dt : Nat) (hf : f < 8) (hmask : inMask s.pow.cfg.crankShed f = true)
    (hmode : (s.feed f).mode = .inrush ∨ (s.feed f).mode = .on) : ((s.crankFault volts dt).feed f).mode = .shed := by
  have hfeed : (s.supplyFault .crank volts dt 2).feed f = s.feed f := by rw [State.feed, State.supplyFault_pow]; rfl
  have hmem : f ∈ maskList (s.supplyFault .crank volts dt 2).pow.cfg.crankShed 8 := by
    rw [State.supplyFault_pow]
    exact mem_maskList.mpr ⟨hf, hmask⟩
  rw [State.crankFault, State.feed_foldl_shedFeed, if_pos hmem, hfeed]
  exact Feed.crankShed_mode _ hmode

theorem exec_supplyOv {s : State} {volts : Nat} (dt : Nat) (hao : s.key.ao = true) (hov : s.pow.cfg.ov < volts) :
    exec (.supplyOv volts dt) s = .next (s.supplyFault .ov volts dt 0) :=
  congrArg Host.Outcome.next (if_pos ⟨hao, hov⟩)

theorem exec_supplyUv {s : State} {volts : Nat} (dt : Nat) (hao : s.key.ao = true) (huv : volts < s.pow.cfg.uv)
    (hup : s.pow.down = false) : exec (.supplyUv volts dt) s = .next (s.supplyFault .uv volts dt 1) :=
  congrArg Host.Outcome.next (if_pos ⟨hao, huv, Bool.eq_false_iff.mp hup⟩)

theorem exec_supplyCrank {s : State} {volts : Nat} (dt : Nat) (hao : s.key.ao = true) (hcrank : volts < s.pow.cfg.crank)
    (hup : s.pow.down = false) : exec (.supplyCrank volts dt) s = .next (s.crankFault volts dt) := by
  change execSupplyCrank volts dt s = _
  rw [execSupplyCrank, if_pos ⟨hao, hcrank, Bool.eq_false_iff.mp hup⟩]
  unfold State.crankFault State.supplyFault State.shedFeed Feed.shed
  rfl

/-- Settles O55: each threshold makes one report, and below CRANK the shedding of the feeds leaves it as it stands. -/
theorem supplyThresholdsRaiseSupply : Obligations.SupplyThresholdsRaiseSupply := by
  unfold Obligations.SupplyThresholdsRaiseSupply
  intro volts dt s hao told
  have htold {t : State} (h : t.Reported .supply 0x12 7) : told t :=
    have ⟨e, hlast, hcode, _⟩ := h.logged
    ⟨h.flagged, e, hlast, hcode⟩
  refine ⟨fun hov => ?_, fun huv hup => ?_, fun hcrank hup => ?_⟩
  · exact ⟨_, exec_supplyOv dt hao hov, htold (s.supplyFault_reported .ov volts dt 0)⟩
  · exact ⟨_, exec_supplyUv dt hao huv hup, htold (s.supplyFault_reported .uv volts dt 1)⟩
  · exact ⟨_, exec_supplyCrank dt hao hcrank hup, htold (s.crankFault_reported volts dt), fun f hf hmask hmode =>
      State.crankFault_feed_mode volts dt hf hmask hmode⟩

/-! ### A shortage of pace -/

@[simp] theorem State.pace_modPace (s : State) (d : Fab) (f : PaceSt → PaceSt) : (s.modPace d f).pow.pace d = f (s.pow.pace d) := by
  cases d <;> rfl

/-- The pace of a die as a shortage reported leaves it (16 R463). -/
def PaceSt.shortage (c : PaceSt) : PaceSt := { c with short := true, paceShort := sat36 c.paceShort 1 }

/-- A shortage has been reported for the die whose pace was `c`: PACE, the entry of the log, and one more PACE_SHORT. -/
structure State.ShortageTold (t : State) (d : Fab) (c : PaceSt) : Prop where
  reported : t.Reported .pace 0x0E d.num
  pace : t.pow.pace d = c.shortage

/-- Within an episode a shortage is not told again (16 R463). -/
theorem State.paceShortage_of_short {s : State} {d : Fab} (h : (s.pow.pace d).short = true) : s.paceShortage d = s := if_pos h

/-- The first shortage of an episode is reported and counted (16 R463). -/
theorem State.paceShortage_told {s : State} {d : Fab} (h : (s.pow.pace d).short = false) :
    (s.paceShortage d).ShortageTold d (s.pow.pace d) := by
  have hfirst : s.paceShortage d = (((s.modPace d PaceSt.shortage).satRaise (s.pow.pace d).paceShort 1
      fun t => t.raiseDie d .countSat).raiseDev .pace).logFault 0x0E d.num 0 := by
    unfold State.paceShortage PaceSt.shortage
    exact if_neg (Bool.eq_false_iff.mp h)
  have hwide : (s.paceShortage d).wide = (s.modPace d PaceSt.shortage).wide := by simp [hfirst]
  constructor
  · rw [hfirst]
    exact State.reported_logFault_raiseDev _ _ _ _ _
  · rw [State.pow_of_wide hwide, State.pace_modPace]

theorem PaceSt.rise_paceShort (c : PaceSt) (now : Nat) : (c.rise now).paceShort = c.paceShort := by
  unfold PaceSt.rise
  split <;> rfl

/-- A new measurement counts nothing by itself (16 R461, R462). -/
theorem PaceSt.control_paceShort (c : PaceSt) (pts : List (Nat × Nat)) (pm pt now : Nat) (tj : Int) :
    (c.control pts pm pt now tj).paceShort = c.paceShort := by
  unfold PaceSt.control
  simp only [apply_ite PaceSt.paceShort, PaceSt.rise_paceShort, ite_self]

/-- A new measurement begins no episode by itself (16 R461, R462). -/
theorem PaceSt.control_short {c : PaceSt} (pts : List (Nat × Nat)) (pm pt now : Nat) (tj : Int) (h : c.short = false) :
    (c.control pts pm pt now tj).short = false := by
  simp [PaceSt.control, h]

/-- The state in which a sample of pace decides on a shortage: the measurement taken and the voltage moved (16 R460 to R462). -/
def State.measured (s : State) (d : Fab) (ms : List Nat) (tj : Int) (dt : Nat) : State :=
  let s1 := s.adv dt
  s1.modPace d fun c =>
    c.control (s1.pow.curve (bandOf tj)) (min 2047 (ms.foldl min (ms.headD 0))) (s1.paceTarget d tj) s1.tim.ticks tj

theorem State.measured_short {s : State} {d : Fab} (ms : List Nat) (tj : Int) (dt : Nat) (h : (s.pow.pace d).short = false) :
    ((s.measured d ms tj dt).pow.pace d).short = false := by
  rw [State.measured, State.pace_modPace]
  exact PaceSt.control_short _ _ _ _ _ h

theorem State.measured_paceShort (s : State) (d : Fab) (ms : List Nat) (tj : Int) (dt : Nat) :
    ((s.measured d ms tj dt).pow.pace d).paceShort = (s.pow.pace d).paceShort := by
  rw [State.measured, State.pace_modPace]
  exact PaceSt.control_paceShort _ _ _ _ _ _

theorem exec_paceSample {s : State} {d : Fab} {ms : List Nat} (tj : Int) (dt : Nat) (hd : s.has d.num = true) (hms : ms.length = 8) :
    exec (.paceSample d ms tj dt) s =
      .next (if min 2047 (ms.foldl min (ms.headD 0)) < 454 ∧ ((s.measured d ms tj dt).pow.pace d).vdd = 780 then
        (s.measured d ms tj dt).paceShortage d else s.measured d ms tj dt) :=
  congrArg Host.Outcome.next (if_pos ⟨hd, hms⟩)

theorem exec_paceShortTimer {s : State} {d : Fab} {k : Nat} (h : (s.pow.pace d).belowSince = some k) :
    exec (.paceShortTimer d) s = .next ((s.advTick (k + ticksUs 100)).paceShortage d) := by
  change execPaceShortTimer d s = _
  rw [execPaceShortTimer, h]

theorem exec_paceShortTimer_of_none {s : State} {d : Fab} (h : (s.pow.pace d).belowSince = none) :
    exec (.paceShortTimer d) s = .next s := by
  change execPaceShortTimer d s = _
  rw [execPaceShortTimer, h]

/-- P_m below P_t for 100 µs, outside an episode, is a shortage told (16 R463). -/
theorem runs_paceShortTimer {s : State} {d : Fab} (hbelow : (s.pow.pace d).belowSince.isSome = true)
    (hshort : (s.pow.pace d).short = false) : runs (.paceShortTimer d) s fun t => t.ShortageTold d (s.pow.pace d) := by
  obtain ⟨k, hk⟩ := Option.isSome_iff_exists.mp hbelow
  exact ⟨_, exec_paceShortTimer hk, State.paceShortage_told (s := s.advTick (k + ticksUs 100)) hshort⟩

/-- Within an episode the timer leaves the pace as it is (16 R463). -/
theorem runs_paceShortTimer_of_short {s : State} {d : Fab} (hshort : (s.pow.pace d).short = true) :
    runs (.paceShortTimer d) s fun t => t.pow.pace d = s.pow.pace d := by
  cases hbelow : (s.pow.pace d).belowSince with
  | none => exact ⟨_, exec_paceShortTimer_of_none hbelow, rfl⟩
  | some k =>
    refine ⟨_, exec_paceShortTimer hbelow, ?_⟩
    rw [State.paceShortage_of_short (s := s.advTick (k + ticksUs 100)) hshort]
    rfl

/-- A sample with P_m below 454 that leaves the voltage at 780 mV, outside an episode, is a shortage told (16 R463). -/
theorem runs_paceSample {s : State} {d : Fab} {ms : List Nat} (tj : Int) (dt : Nat) (hd : s.has d.num = true) (hms : ms.length = 8)
    (hlow : ms.foldl min (ms.headD 0) < 454) (hshort : (s.pow.pace d).short = false) :
    runs (.paceSample d ms tj dt) s fun t =>
      (t.pow.pace d).vdd = 780 → t.ShortageTold d ((s.measured d ms tj dt).pow.pace d) := by
  refine ⟨_, exec_paceSample tj dt hd hms, ?_⟩
  split
  · exact fun _ => State.paceShortage_told (State.measured_short ms tj dt hshort)
  · rename_i hno
    exact fun hvdd => absurd ⟨min_lt_of_right_lt hlow, hvdd⟩ hno

/-- Settles O57: outside an episode either cause is told, and within one the timer counts nothing. -/
theorem paceShortagesAreCountedOncePerEpisode : Obligations.PaceShortagesAreCountedOncePerEpisode := by
  unfold Obligations.PaceShortagesAreCountedOncePerEpisode
  refine ⟨fun d s => ?_, fun d s hshort => ?_⟩
  · intro told
    have htold {t : State} {c : PaceSt} (hc : c.paceShort = (s.pow.pace d).paceShort) (h : t.ShortageTold d c) : told t :=
      ⟨h.reported.flagged, h.reported.logged, by rw [h.pace]; rfl, by rw [h.pace, ← hc]; rfl⟩
    refine ⟨fun hbelow hshort => ?_, fun ms tj dt hd hms hlow hshort => ?_⟩
    · obtain ⟨t, hexec, ht⟩ := runs_paceShortTimer hbelow hshort
      exact ⟨t, hexec, htold rfl ht⟩
    · obtain ⟨t, hexec, ht⟩ := runs_paceSample tj dt hd hms hlow hshort
      exact ⟨t, hexec, fun hvdd => htold (s.measured_paceShort d ms tj dt) (ht hvdd)⟩
  · obtain ⟨t, hexec, hpace⟩ := runs_paceShortTimer_of_short hshort
    exact ⟨t, hexec, congrArg PaceSt.paceShort hpace⟩

end Sys2Proof.Machine
end

section
/-! PROOFS. What every command leaves: the queue, the one-time-programmable words of the verifier slots and the set lock bits, but for
the few commands that write a lock register, program a slot or reset the device (13 R366; 15 R424). -/

namespace Sys2Proof.Machine

/-- The commands that change a lock field or a word of the verifier slots: the writes of the lock registers, two steps of start-up, the
resets and KEY.VERIFIER_WRITE. -/
def touchesFixed : Instr → Bool
  | .d0PostedWriteApply | .policyLockSet .. | .sealLockSet .. | .keyLockSet .. | .powerLimitLockSet .. | .supplyRestored .. | .resetNInput ..
  | .blobsHandled .. | .locksApply .. | .faultReset .. | .keyVerifierWrite .. | .aoSupplyLoss .. => true
  | _ => false

/-- Every other command leaves the queue, the one-time-programmable words and the lock fields. -/
theorem exec_fixed (i : Instr) (s t : State) (hi : touchesFixed i = false) (h : exec i s = .next t) : t.fixed = s.fixed := by
  cases i with
  | frameRxStart => exact execFrameRxStart_fixed _ _ _ _ _ _ _ s t h
  | fabricWordStore => exact execFabricWordStore_fixed _ _ s t h
  | frameEndStored => exact execFrameEndStored_fixed _ _ _ s t h
  | parseEngineTake => exact execParseEngineTake_fixed _ _ _ s t h
  | parseEnd => exact execParseEnd_fixed _ _ s t h
  | parseClass => exact execParseClass_fixed _ _ s t h
  | parseExtract => exact execParseExtract_fixed _ _ s t h
  | parseLoad => exact execParseLoad_fixed _ _ s t h
  | parseAnd => exact execParseAnd_fixed _ _ s t h
  | parseTest => exact execParseTest_fixed _ _ s t h
  | parseTestne => exact execParseTestne_fixed _ _ s t h
  | parseJump => exact execParseJump_fixed _ _ s t h
  | parseAdvance => exact execParseAdvance_fixed _ _ s t h
  | parseLenset => exact execParseLenset_fixed _ _ s t h
  | parseFail => exact execParseFail_fixed _ _ s t h
  | parseBudgetExhausted => exact execParseBudgetExhausted_fixed _ _ s t h
  | collectorTake => exact execCollectorTake_fixed _ _ s t h
  | recircPassStart => exact execRecircPassStart_fixed _ _ s t h
  | learnEntryWrite => exact execLearnEntryWrite_fixed s t h
  | fragTimeout => exact execFragTimeout_fixed _ _ s t h
  | seamFrameStart => exact execSeamFrameStart_fixed _ _ s t h
  | seamWordSend => exact execSeamWordSend_fixed _ _ s t h
  | seamWordRx => exact execSeamWordRx_fixed _ _ s t h
  | seamLinkLost => exact execSeamLinkLost_fixed _ _ _ s t h
  | cuffLinkLost => exact execCuffLinkLost_fixed _ s t h
  | egressSelect => exact execEgressSelect_fixed _ _ _ _ s t h
  | egressFrameEnd => exact execEgressFrameEnd_fixed _ _ s t h
  | stagingUnderrun => exact execStagingUnderrun_fixed _ _ s t h
  | expressPreempt => exact execExpressPreempt_fixed _ _ _ s t h
  | poolAlloc => exact execPoolAlloc_fixed _ _ _ _ s t h
  | poolFree => exact execPoolFree_fixed _ _ _ _ _ s t h
  | poolShare => exact execPoolShare_fixed _ _ _ _ _ _ s t h
  | poolRelease => exact execPoolRelease_fixed _ _ _ _ _ s t h
  | freeListBuilt => exact execFreeListBuilt_fixed _ s t h
  | cpuPortDelivery => exact execCpuPortDelivery_fixed _ s t h
  | txRingFrame => exact execTxRingFrame_fixed _ _ _ _ _ s t h
  | rxRingDelivery => exact execRxRingDelivery_fixed _ _ s t h
  | ringCoalesceExpiry => exact execRingCoalesceExpiry_fixed _ _ _ s t h
  | cbsRefill => exact execCbsRefill_fixed _ s t h
  | gclEntryStart => exact execGclEntryStart_fixed _ s t h
  | gclChangeTime => exact execGclChangeTime_fixed _ s t h
  | gclCopyComplete => exact execGclCopyComplete_fixed _ s t h
  | mmVerifyTimer => exact execMmVerifyTimer_fixed _ s t h
  | mmVerifyRx => exact execMmVerifyRx_fixed _ _ s t h
  | samplerPeriod => exact execSamplerPeriod_fixed _ _ s t h
  | activationArmDeadline => exact execActivationArmDeadline_fixed _ s t h
  | activationTimeReached => exact execActivationTimeReached_fixed s t h
  | ruleBankRetired => exact execRuleBankRetired_fixed s t h
  | fwdSweepEnd => exact execFwdSweepEnd_fixed s t h
  | frerResetTimeout => exact execFrerResetTimeout_fixed _ _ s t h
  | restoreHoldEnd => exact execRestoreHoldEnd_fixed _ s t h
  | linkDownDeclared => exact execLinkDownDeclared_fixed _ s t h
  | pcsLock => exact execPcsLock_fixed _ _ s t h
  | trainTimeout => exact execTrainTimeout_fixed _ s t h
  | usxgmiiAnWord => exact execUsxgmiiAnWord_fixed _ _ _ s t h
  | portSleepCmd => exact execPortSleepCmd_fixed _ s t h
  | tc10SleepReqRx => exact execTc10SleepReqRx_fixed _ s t h
  | tc10SleepAckRx => exact execTc10SleepAckRx_fixed _ s t h
  | sleepWaitTimeout => exact execSleepWaitTimeout_fixed _ s t h
  | tc10WakeReqRx => exact execTc10WakeReqRx_fixed _ s t h
  | wakePulseDetected => exact execWakePulseDetected_fixed _ _ s t h
  | portWakeCmd => exact execPortWakeCmd_fixed _ _ s t h
  | resumeDeadline => exact execResumeDeadline_fixed _ s t h
  | cableTestDone => exact execCableTestDone_fixed _ _ _ s t h
  | lpiIdleTimer => exact execLpiIdleTimer_fixed _ s t h
  | lpiWakeComplete => exact execLpiWakeComplete_fixed _ _ s t h
  | beaconLossTimeout => exact execBeaconLossTimeout_fixed _ s t h
  | beaconRx => exact execBeaconRx_fixed _ s t h
  | plcaTxOpportunity => exact execPlcaTxOpportunity_fixed _ _ _ _ s t h
  | sqiUpdate => exact execSqiUpdate_fixed _ _ _ _ _ s t h
  | mkaSakInstall => exact execMkaSakInstall_fixed _ _ s t h
  | freqAdjApply => exact execFreqAdjApply_fixed s t h
  | timeStepApply => exact execTimeStepApply_fixed s t h
  | slewEnd => exact execSlewEnd_fixed s t h
  | ppsEdge => exact execPpsEdge_fixed _ s t h
  | ppsMissing => exact execPpsMissing_fixed s t h
  | holdoverMaxExpiry => exact execHoldoverMaxExpiry_fixed s t h
  | syncRx => exact execSyncRx_fixed _ s t h
  | syncTimeout => exact execSyncTimeout_fixed s t h
  | syncTx => exact execSyncTx_fixed _ _ s t h
  | followUpTx => exact execFollowUpTx_fixed _ _ s t h
  | pdelayReqTx => exact execPdelayReqTx_fixed _ _ s t h
  | pdelayRx => exact execPdelayRx_fixed _ s t h
  | announceTx => exact execAnnounceTx_fixed _ _ s t h
  | ppsOutPulse => exact execPpsOutPulse_fixed s t h
  | canFrameRx => exact execCanFrameRx_fixed _ _ _ _ _ s t h
  | canArbWin => exact execCanArbWin_fixed _ _ s t h
  | canTxDone => exact execCanTxDone_fixed _ _ _ s t h
  | canTxExpired => exact execCanTxExpired_fixed _ s t h
  | canBusError => exact execCanBusError_fixed _ _ _ _ s t h
  | canBusOffRecovered => exact execCanBusOffRecovered_fixed _ _ s t h
  | linSlotStart => exact execLinSlotStart_fixed _ s t h
  | linHeaderRx => exact execLinHeaderRx_fixed _ _ _ _ s t h
  | linResponseRx => exact execLinResponseRx_fixed _ _ _ _ _ s t h
  | linSlotEnd => exact execLinSlotEnd_fixed _ s t h
  | linGoToSleep => exact execLinGoToSleep_fixed _ s t h
  | linWakePulse => exact execLinWakePulse_fixed _ s t h
  | linScheduleRestart => exact execLinScheduleRestart_fixed _ s t h
  | serCharRx => exact execSerCharRx_fixed _ _ _ _ _ _ s t h
  | serGapTimeout => exact execSerGapTimeout_fixed _ _ _ s t h
  | serTxQueue => exact execSerTxQueue_fixed _ _ _ _ s t h
  | serLineIdle => exact execSerLineIdle_fixed _ _ s t h
  | serDeLeadEnd => exact execSerDeLeadEnd_fixed _ _ s t h
  | serCharSent => exact execSerCharSent_fixed _ _ _ s t h
  | serDeLagEnd => exact execSerDeLagEnd_fixed _ _ s t h
  | serTxExpired => exact execSerTxExpired_fixed _ s t h
  | transceiverWake => exact execTransceiverWake_fixed _ _ s t h
  | timeMsgInstant => exact execTimeMsgInstant_fixed _ s t h
  | gwUplinkMatch => exact execGwUplinkMatch_fixed _ s t h
  | bundleMaxWait => exact execBundleMaxWait_fixed _ s t h
  | gwFrameDecode => exact execGwFrameDecode_fixed s t h
  | periodicSlotInstant => exact execPeriodicSlotInstant_fixed _ s t h
  | periodicStale => exact execPeriodicStale_fixed _ s t h
  | guardSegmentEnd => exact execGuardSegmentEnd_fixed _ _ _ _ _ _ s t h
  | tripwireTimer => exact execTripwireTimer_fixed _ _ _ s t h
  | sramEccError => exact execSramEccError_fixed _ _ s t h
  | heartbeatTx => exact execHeartbeatTx_fixed _ s t h
  | heartbeatLoss => exact execHeartbeatLoss_fixed _ s t h
  | coreDomainLost => exact execCoreDomainLost_fixed _ _ s t h
  | coreFaultReport => exact execCoreFaultReport_fixed _ s t h
  | gapStart => exact execGapStart_fixed _ s t h
  | standbyLiningApplied => exact execStandbyLiningApplied_fixed _ s t h
  | gapEnd => exact execGapEnd_fixed _ s t h
  | restartCaughtUp => exact execRestartCaughtUp_fixed _ s t h
  | liningRecordRx => exact execLiningRecordRx_fixed _ s t h
  | liningAuditTimer => exact execLiningAuditTimer_fixed s t h
  | catchupComplete => exact execCatchupComplete_fixed s t h
  | handoverTimeout => exact execHandoverTimeout_fixed s t h
  | trialTimeout => exact execTrialTimeout_fixed s t h
  | imgEraseComplete => exact execImgEraseComplete_fixed _ s t h
  | mbxDoorbell => exact execMbxDoorbell_fixed _ s t h
  | responseFifoPlace => exact execResponseFifoPlace_fixed _ s t h
  | mbxRspPop => exact execMbxRspPop_fixed _ s t h
  | mbxRspDrop => exact execMbxRspDrop_fixed _ s t h
  | evtRead => exact execEvtRead_fixed _ _ _ s t h
  | evtWrite => exact execEvtWrite_fixed _ _ _ s t h
  | upperBitsWrite => exact execUpperBitsWrite_fixed _ _ s t h
  | registerWrite => exact execRegisterWrite_fixed _ _ _ _ s t h
  | ringCtrlWrite => exact execRingCtrlWrite_fixed _ _ _ _ s t h
  | ringTailWrite => exact execRingTailWrite_fixed _ _ _ _ s t h
  | spiTransaction => exact execSpiTransaction_fixed _ s t h
  | serviceFrameRx => exact execServiceFrameRx_fixed _ s t h
  | functionLevelReset => exact execFunctionLevelReset_fixed _ s t h
  | perstNRelease => exact execPerstNRelease_fixed _ s t h
  | lateWriteFail => exact execLateWriteFail_fixed _ _ _ s t h
  | fifoPointerFault => exact execFifoPointerFault_fixed _ s t h
  | sealPassEnd => exact execSealPassEnd_fixed _ _ s t h
  | tamperAlarm => exact execTamperAlarm_fixed _ _ _ s t h
  | cipherLockIdle => exact execCipherLockIdle_fixed s t h
  | depotSessionTimeout => exact execDepotSessionTimeout_fixed s t h
  | nonceExpiry => exact execNonceExpiry_fixed s t h
  | openLockoutEnd => exact execOpenLockoutEnd_fixed s t h
  | seqStepPowerGood => exact execSeqStepPowerGood_fixed _ s t h
  | seqWaitExpiry => exact execSeqWaitExpiry_fixed s t h
  | seqPgTimeout => exact execSeqPgTimeout_fixed s t h
  | paceSample => exact execPaceSample_fixed _ _ _ _ s t h
  | paceRiseTimer => exact execPaceRiseTimer_fixed _ s t h
  | paceFallTimer => exact execPaceFallTimer_fixed _ s t h
  | paceShortTimer => exact execPaceShortTimer_fixed _ s t h
  | ageingHour => exact execAgeingHour_fixed _ s t h
  | powerEstimate => exact execPowerEstimate_fixed _ _ _ _ _ s t h
  | powerShedTimer => exact execPowerShedTimer_fixed s t h
  | powerRestoreTimer => exact execPowerRestoreTimer_fixed s t h
  | feedOvercurrentTrip => exact execFeedOvercurrentTrip_fixed _ _ _ s t h
  | feedInrushEnd => exact execFeedInrushEnd_fixed _ _ s t h
  | feedRetryExpiry => exact execFeedRetryExpiry_fixed _ s t h
  | feedRetryRestore => exact execFeedRetryRestore_fixed _ s t h
  | feedShedRestore => exact execFeedShedRestore_fixed _ _ _ s t h
  | feedAutoOn => exact execFeedAutoOn_fixed s t h
  | supplyOv => exact execSupplyOv_fixed _ _ s t h
  | supplyUv => exact execSupplyUv_fixed _ _ s t h
  | supplyCrank => exact execSupplyCrank_fixed _ _ s t h
  | controlledPowerDown => exact execControlledPowerDown_fixed _ _ s t h
  | wakePolicyMatch => exact execWakePolicyMatch_fixed _ s t h
  | sleepTimerExpiry => exact execSleepTimerExpiry_fixed s t h
  | prepareCancel => exact execPrepareCancel_fixed _ _ s t h
  | commitPoint => exact execCommitPoint_fixed s t h
  | sleepSeqComplete => exact execSleepSeqComplete_fixed s t h
  | wakeSource => exact execWakeSource_fixed _ _ _ s t h
  | wakeSeqComplete => exact execWakeSeqComplete_fixed s t h
  | coreWakeRebuild => exact execCoreWakeRebuild_fixed _ _ _ s t h
  | wakeLocInput => exact execWakeLocInput_fixed _ _ s t h
  | sleepWakeTimer => exact execSleepWakeTimer_fixed s t h
  | wakeHoldExpiry => exact execWakeHoldExpiry_fixed _ s t h
  | helloTx => exact execHelloTx_fixed s t h
  | stackHelloRx => exact execStackHelloRx_fixed _ s t h
  | stackMatchRx => exact execStackMatchRx_fixed _ s t h
  | stackPrepareRx => exact execStackPrepareRx_fixed _ s t h
  | stackCancelRx => exact execStackCancelRx_fixed _ s t h
  | stackCommitRx => exact execStackCommitRx_fixed _ s t h
  | masterLost => exact execMasterLost_fixed s t h
  | bridgeWriteRx => exact execBridgeWriteRx_fixed _ s t h
  | bridgeReadRx => exact execBridgeReadRx_fixed _ s t h
  | bridgeLockReadRx => exact execBridgeLockReadRx_fixed _ s t h
  | bridgeUnlockWriteRx => exact execBridgeUnlockWriteRx_fixed _ s t h
  | bridgeWackRx => exact execBridgeWackRx_fixed _ s t h
  | bridgeRdataRx => exact execBridgeRdataRx_fixed _ s t h
  | bridgeBackoffExpiry => exact execBridgeBackoffExpiry_fixed s t h
  | bridgeTimeout => exact execBridgeTimeout_fixed s t h
  | bridgeLockExpiry => exact execBridgeLockExpiry_fixed _ s t h
  | stkWakeInput => exact execStkWakeInput_fixed s t h
  | relayTimeout => exact execRelayTimeout_fixed _ s t h
  | aoPowerUp => exact execAoPowerUp_fixed _ s t h
  | slowOscRunning => exact execSlowOscRunning_fixed _ _ _ s t h
  | tcxoLock => exact execTcxoLock_fixed _ s t h
  | clockWaitTimeout => exact execClockWaitTimeout_fixed s t h
  | supplyOnStable => exact execSupplyOnStable_fixed _ _ s t h
  | selftestComplete => exact execSelftestComplete_fixed _ _ s t h
  | imageVerified => exact execImageVerified_fixed _ s t h
  | measurementReleased => exact execMeasurementReleased_fixed _ _ _ s t h
  | imageRecordExec => exact execImageRecordExec_fixed _ s t h
  | haltPowerRetry => exact execHaltPowerRetry_fixed s t h
  | dieLost => exact execDieLost_fixed _ _ s t h
  | dieReloadForwarding => exact execDieReloadForwarding_fixed _ _ s t h
  | pathOutputWrite => exact execPathOutputWrite_fixed _ s t h
  | pathOutputRead => exact execPathOutputRead_fixed _ s t h
  | pathMirrorWrite => exact execPathMirrorWrite_fixed _ s t h
  | pathMirrorRead => exact execPathMirrorRead_fixed _ s t h
  | poolLimitWrite => exact execPoolLimitWrite_fixed _ s t h
  | poolLevelWrite => exact execPoolLevelWrite_fixed _ s t h
  | poolConfigRead => exact execPoolConfigRead_fixed _ s t h
  | poolStatsRead => exact execPoolStatsRead_fixed _ s t h
  | poolErrlogRead => exact execPoolErrlogRead_fixed _ s t h
  | poolCellRead => exact execPoolCellRead_fixed _ s t h
  | rulePortWrite => exact execRulePortWrite_fixed _ s t h
  | ruleProgramLoad => exact execRuleProgramLoad_fixed _ s t h
  | ruleRangeWrite => exact execRuleRangeWrite_fixed _ s t h
  | ruleEntryWrite => exact execRuleEntryWrite_fixed _ s t h
  | ruleEntryRead => exact execRuleEntryRead_fixed _ s t h
  | ruleGroupWrite => exact execRuleGroupWrite_fixed _ s t h
  | ruleCommit => exact execRuleCommit_fixed _ s t h
  | ruleStatusRead => exact execRuleStatusRead_fixed _ s t h
  | ruleFragWrite => exact execRuleFragWrite_fixed _ s t h
  | ruleStatsRead => exact execRuleStatsRead_fixed _ s t h
  | rulePortRead => exact execRulePortRead_fixed _ s t h
  | ruleRangeRead => exact execRuleRangeRead_fixed _ s t h
  | ruleGroupRead => exact execRuleGroupRead_fixed _ s t h
  | fwdEntryWrite => exact execFwdEntryWrite_fixed _ s t h
  | fwdEntryRead => exact execFwdEntryRead_fixed _ s t h
  | fwdCommit => exact execFwdCommit_fixed _ s t h
  | fwdStatusRead => exact execFwdStatusRead_fixed _ s t h
  | fwdPortWrite => exact execFwdPortWrite_fixed _ s t h
  | fwdPortRead => exact execFwdPortRead_fixed _ s t h
  | fwdLearnWrite => exact execFwdLearnWrite_fixed _ s t h
  | fwdLearnFlush => exact execFwdLearnFlush_fixed _ s t h
  | fwdStatsRead => exact execFwdStatsRead_fixed _ s t h
  | frerFuncWrite => exact execFrerFuncWrite_fixed _ s t h
  | frerFuncRead => exact execFrerFuncRead_fixed _ s t h
  | frerReset => exact execFrerReset_fixed _ s t h
  | zoneMapWrite => exact execZoneMapWrite_fixed _ s t h
  | zoneMapRead => exact execZoneMapRead_fixed _ s t h
  | zonePolicyWrite => exact execZonePolicyWrite_fixed _ s t h
  | zonePolicyRead => exact execZonePolicyRead_fixed _ s t h
  | zoneGwRead => exact execZoneGwRead_fixed _ s t h
  | zoneStatsRead => exact execZoneStatsRead_fixed _ s t h
  | meterWrite => exact execMeterWrite_fixed _ s t h
  | meterRead => exact execMeterRead_fixed _ s t h
  | meterFilterWrite => exact execMeterFilterWrite_fixed _ s t h
  | meterFilterRead => exact execMeterFilterRead_fixed _ s t h
  | meterStatsRead => exact execMeterStatsRead_fixed _ s t h
  | meterUnblock => exact execMeterUnblock_fixed _ s t h
  | gclConfigWrite => exact execGclConfigWrite_fixed _ s t h
  | gclListWrite => exact execGclListWrite_fixed _ s t h
  | gclPatternWrite => exact execGclPatternWrite_fixed _ s t h
  | gclCommit => exact execGclCommit_fixed _ s t h
  | gclCancel => exact execGclCancel_fixed _ s t h
  | gclRead => exact execGclRead_fixed _ s t h
  | gclStatusRead => exact execGclStatusRead_fixed _ s t h
  | gclCheck => exact execGclCheck_fixed _ s t h
  | shaperQueueWrite => exact execShaperQueueWrite_fixed _ s t h
  | shaperQueueRead => exact execShaperQueueRead_fixed _ s t h
  | shaperPreemptWrite => exact execShaperPreemptWrite_fixed _ s t h
  | shaperMmWrite => exact execShaperMmWrite_fixed _ s t h
  | shaperMmRead => exact execShaperMmRead_fixed _ s t h
  | qstatQueueRead => exact execQstatQueueRead_fixed _ s t h
  | qstatSamplerWrite => exact execQstatSamplerWrite_fixed _ s t h
  | qstatSamplerRead => exact execQstatSamplerRead_fixed _ s t h
  | timeRead => exact execTimeRead_fixed _ s t h
  | timeSet => exact execTimeSet_fixed _ s t h
  | timeAdjust => exact execTimeAdjust_fixed _ s t h
  | timeConfigWrite => exact execTimeConfigWrite_fixed _ s t h
  | timeConfigRead => exact execTimeConfigRead_fixed _ s t h
  | timePortWrite => exact execTimePortWrite_fixed _ s t h
  | timePortRead => exact execTimePortRead_fixed _ s t h
  | timePpsRead => exact execTimePpsRead_fixed _ s t h
  | portConfigWrite => exact execPortConfigWrite_fixed _ s t h
  | portPlcaWrite => exact execPortPlcaWrite_fixed _ s t h
  | portConfigRead => exact execPortConfigRead_fixed _ s t h
  | portPlcaRead => exact execPortPlcaRead_fixed _ s t h
  | portStatusRead => exact execPortStatusRead_fixed _ s t h
  | portCableTest => exact execPortCableTest_fixed _ s t h
  | macsecPortWrite => exact execMacsecPortWrite_fixed _ s t h
  | macsecMkaWrite => exact execMacsecMkaWrite_fixed _ s t h
  | macsecStatusRead => exact execMacsecStatusRead_fixed _ s t h
  | edgeCanWrite => exact execEdgeCanWrite_fixed _ s t h
  | edgeLinWrite => exact execEdgeLinWrite_fixed _ s t h
  | edgeLinTableWrite => exact execEdgeLinTableWrite_fixed _ s t h
  | edgeSerWrite => exact execEdgeSerWrite_fixed _ s t h
  | edgeTableLoad => exact execEdgeTableLoad_fixed _ s t h
  | edgeWakeWrite => exact execEdgeWakeWrite_fixed _ s t h
  | edgeCanRecover => exact execEdgeCanRecover_fixed _ s t h
  | edgeConfigRead => exact execEdgeConfigRead_fixed _ s t h
  | edgeStatusRead => exact execEdgeStatusRead_fixed _ s t h
  | gwBundleWrite => exact execGwBundleWrite_fixed _ s t h
  | gwUpWrite => exact execGwUpWrite_fixed _ s t h
  | gwDownWrite => exact execGwDownWrite_fixed _ s t h
  | gwPeriodicWrite => exact execGwPeriodicWrite_fixed _ s t h
  | gwPeriodicData => exact execGwPeriodicData_fixed _ s t h
  | gwRead => exact execGwRead_fixed _ s t h
  | gwStatsRead => exact execGwStatsRead_fixed _ s t h
  | coreStatusRead => exact execCoreStatusRead_fixed _ s t h
  | coreSwitch => exact execCoreSwitch_fixed _ s t h
  | coreGuardWrite => exact execCoreGuardWrite_fixed _ s t h
  | coreGuardRead => exact execCoreGuardRead_fixed _ s t h
  | coreStatsRead => exact execCoreStatsRead_fixed _ s t h
  | coreRestart => exact execCoreRestart_fixed _ s t h
  | coreSelftest => exact execCoreSelftest_fixed _ s t h
  | coreDebug => exact execCoreDebug_fixed _ s t h
  | hostEcho => exact execHostEcho_fixed _ s t h
  | hostVersionRead => exact execHostVersionRead_fixed _ s t h
  | hostLateLogRead => exact execHostLateLogRead_fixed _ s t h
  | hostRingStatsRead => exact execHostRingStatsRead_fixed _ s t h
  | sealCommit => exact execSealCommit_fixed _ s t h
  | sealStatusRead => exact execSealStatusRead_fixed _ s t h
  | diagRead => exact execDiagRead_fixed _ s t h
  | faultStatusRead => exact execFaultStatusRead_fixed _ s t h
  | faultLogRead => exact execFaultLogRead_fixed _ s t h
  | faultLinkEnable => exact execFaultLinkEnable_fixed _ s t h
  | faultDieReload => exact execFaultDieReload_fixed _ s t h
  | maintStatusRead => exact execMaintStatusRead_fixed _ s t h
  | maintExclWrite => exact execMaintExclWrite_fixed _ s t h
  | stackStatusRead => exact execStackStatusRead_fixed _ s t h
  | stackRelay => exact execStackRelay_fixed _ s t h
  | stackDesignate => exact execStackDesignate_fixed _ s t h
  | imgStatusRead => exact execImgStatusRead_fixed _ s t h
  | imgBegin => exact execImgBegin_fixed _ s t h
  | imgWrite => exact execImgWrite_fixed _ s t h
  | imgVerify => exact execImgVerify_fixed _ s t h
  | imgPrepare => exact execImgPrepare_fixed _ s t h
  | imgHandover => exact execImgHandover_fixed _ s t h
  | imgConfirm => exact execImgConfirm_fixed _ s t h
  | imgRollback => exact execImgRollback_fixed _ s t h
  | imgReportRead => exact execImgReportRead_fixed _ s t h
  | keyStatusRead => exact execKeyStatusRead_fixed _ s t h
  | keyProvision => exact execKeyProvision_fixed _ s t h
  | keyGenerate => exact execKeyGenerate_fixed _ s t h
  | keyImport => exact execKeyImport_fixed _ s t h
  | keyDerive => exact execKeyDerive_fixed _ s t h
  | keyDelete => exact execKeyDelete_fixed _ s t h
  | keyInfoRead => exact execKeyInfoRead_fixed _ s t h
  | keyTamperWrite => exact execKeyTamperWrite_fixed _ s t h
  | keyTamperRead => exact execKeyTamperRead_fixed _ s t h
  | keySession => exact execKeySession_fixed _ s t h
  | cipherLock => exact execCipherLock_fixed _ s t h
  | cipherBlock => exact execCipherBlock_fixed _ s t h
  | cipherUnlock => exact execCipherUnlock_fixed _ s t h
  | cipherStatusRead => exact execCipherStatusRead_fixed _ s t h
  | powerStatusRead => exact execPowerStatusRead_fixed _ s t h
  | powerSeqLoad => exact execPowerSeqLoad_fixed _ s t h
  | powerConfigWrite => exact execPowerConfigWrite_fixed _ s t h
  | powerLoadConfig => exact execPowerLoadConfig_fixed _ s t h
  | powerLoadSet => exact execPowerLoadSet_fixed _ s t h
  | powerRead => exact execPowerRead_fixed _ s t h
  | paceCurveLoad => exact execPaceCurveLoad_fixed _ s t h
  | paceConfigWrite => exact execPaceConfigWrite_fixed _ s t h
  | paceStatusRead => exact execPaceStatusRead_fixed _ s t h
  | paceRead => exact execPaceRead_fixed _ s t h
  | wakePolicyWrite => exact execWakePolicyWrite_fixed _ s t h
  | wakeConfigWrite => exact execWakeConfigWrite_fixed _ s t h
  | wakeHold => exact execWakeHold_fixed _ s t h
  | wakeStatusRead => exact execWakeStatusRead_fixed _ s t h
  | wakeLogRead => exact execWakeLogRead_fixed _ s t h
  | wakeRead => exact execWakeRead_fixed _ s t h
  | wakePulseEnd => exact execWakePulseEnd_fixed _ s t h
  | plcaBeaconTx => exact execPlcaBeaconTx_fixed _ s t h
  | mkaHelloTime => exact execMkaHelloTime_fixed _ _ s t h
  | servicePortLinkDown => exact execServicePortLinkDown_fixed s t h
  | pcieLinkChange => exact execPcieLinkChange_fixed _ _ s t h
  | supplyNormal => exact execSupplyNormal_fixed _ _ s t h
  | coreBootTimeout => exact execCoreBootTimeout_fixed s t h
  | coreRestartFailed => exact execCoreRestartFailed_fixed _ _ s t h
  | d0PostedWriteApply | policyLockSet | sealLockSet | keyLockSet | powerLimitLockSet | supplyRestored | resetNInput | blobsHandled | locksApply
  | faultReset | keyVerifierWrite | aoSupplyLoss => cases hi

/-- No command stops (log 6). -/
theorem exec_total (i : Instr) (s : State) : ∃ t, exec i s = .next t := by
  cases i with
  | poolAlloc die owner req contended =>
    show ∃ t, execPoolAlloc die owner req contended s = .next t
    unfold execPoolAlloc
    repeat' split
    all_goals exact ⟨_, rfl⟩
  | slewEnd =>
    show ∃ t, execSlewEnd s = .next t
    unfold execSlewEnd
    split <;> exact ⟨_, rfl⟩
  | ppsMissing =>
    show ∃ t, execPpsMissing s = .next t
    unfold execPpsMissing
    split <;> exact ⟨_, rfl⟩
  | _ => exact ⟨_, rfl⟩

/-- Every command but KEY.VERIFIER_WRITE leaves the queue and the one-time-programmable words, and every command but a reset the lock bits
that are set. -/
theorem exec_keeps (i : Instr) (s t : State) (h : exec i s = .next t) :
    t.pending = s.pending ∧ (resetsDevice i = false → s.locks.holds t.locks) ∧
      (∀ v, inMask s.key.vValid v = true → inMask t.key.vValid v = true) ∧
      ∀ v, inMask s.key.vRevoked v = true → inMask t.key.vRevoked v = true := by
  have ofGrip (hg : t.grip = s.grip) (hl : resetsDevice i = false → s.locks.holds t.locks) :
      t.pending = s.pending ∧ (resetsDevice i = false → s.locks.holds t.locks) ∧
      (∀ v, inMask s.key.vValid v = true → inMask t.key.vValid v = true) ∧
      ∀ v, inMask s.key.vRevoked v = true → inMask t.key.vRevoked v = true := by
    simp only [State.grip, KeySt.otp, Prod.mk.injEq] at hg
    obtain ⟨hp, hv, hr, -, -⟩ := hg
    exact ⟨hp, hl, fun v h => hv ▸ h, fun v h => hr ▸ h⟩
  have ofKeeps (hk : s.keeps t) := ofGrip hk.1 fun _ => hk.2
  cases hi : touchesFixed i with
  | false => exact ofKeeps (State.keeps_of_fixed (exec_fixed i s t hi h))
  | true =>
    cases i with
    | d0PostedWriteApply => exact ofKeeps (execD0PostedWriteApply_keeps s t h)
    | policyLockSet => exact ofKeeps (execPolicyLockSet_keeps _ _ s t h)
    | sealLockSet => exact ofKeeps (execSealLockSet_keeps _ _ s t h)
    | keyLockSet => exact ofKeeps (execKeyLockSet_keeps _ _ s t h)
    | powerLimitLockSet => exact ofKeeps (execPowerLimitLockSet_keeps _ _ s t h)
    | blobsHandled => exact ofKeeps (execBlobsHandled_keeps _ s t h)
    | locksApply => exact ofKeeps (execLocksApply_keeps _ s t h)
    | supplyRestored => exact ofGrip (execSupplyRestored_grip _ _ s t h) nofun
    | resetNInput => exact ofGrip (execResetNInput_grip _ s t h) nofun
    | faultReset => exact ofGrip (execFaultReset_grip _ s t h) nofun
    | aoSupplyLoss => exact ofGrip (execAoSupplyLoss_grip _ s t h) nofun
    | keyVerifierWrite =>
      obtain ⟨hp, hl, hv, hr⟩ := execKeyVerifierWrite_keeps _ s t h
      exact ⟨hp, fun _ => hl ▸ LockSt.holds_refl _, hv, hr⟩
    | _ => cases hi

/-- Settles O50: a tick leaves the lock fields, and of the commands only the resets clear a bit. -/
theorem setLockBitsStayUntilAReset : Obligations.SetLockBitsStayUntilAReset := by
  unfold Obligations.SetLockBitsStayUntilAReset
  intro s t h hr
  unfold step at h
  split at h
  case h_1 =>
    cases h
    exact LockSt.holds_refl _
  case h_2 c rest hq => exact (exec_keeps c _ t h).2.1 (hr c rest hq)

/-- Settles O51: a tick leaves the verifier slots, and no command clears a bit of them. -/
theorem verifierBitsAreNeverCleared : Obligations.VerifierBitsAreNeverCleared := by
  unfold Obligations.VerifierBitsAreNeverCleared
  intro s t v h
  unfold step at h
  split at h
  case h_1 =>
    cases h
    exact ⟨id, id⟩
  case h_2 c rest hq =>
    obtain ⟨-, -, hv, hr⟩ := exec_keeps c _ t h
    exact ⟨hv v, hr v⟩

/-- Settles O49: no command stops, and none touches the queue behind it. -/
theorem everyCommandAnswersAndLeavesTheQueue : Obligations.EveryCommandAnswersAndLeavesTheQueue := by
  unfold Obligations.EveryCommandAnswersAndLeavesTheQueue
  intro i s
  obtain ⟨t, h⟩ := exec_total i s
  exact ⟨t, h, (exec_keeps i s t h).1⟩

/-- Settles O46. -/
theorem stepRunsTheFrontCommand : Obligations.StepRunsTheFrontCommand := by
  unfold Obligations.StepRunsTheFrontCommand
  exact fun _ _ _ => rfl

/-- Settles O47. -/
theorem emptyQueueLetsOneTickPass : Obligations.EmptyQueueLetsOneTickPass := by
  unfold Obligations.EmptyQueueLetsOneTickPass
  intro s h
  exact ⟨s.idle, by unfold step; rw [h], rfl, rfl⟩

/-- Settles O48: the reset values are those of the fields' declarations; a table that holds nothing reads as its default. -/
theorem resetHoldsTheSpecsValues : Obligations.ResetHoldsTheSpecsValues := by
  unfold Obligations.ResetHoldsTheSpecsValues
  refine ⟨rfl, rfl, rfl, ?paths, ?rings, rfl, rfl, rfl, rfl, rfl, rfl, ?entries, ?domains, fun _ => rfl⟩
  case paths =>
    intro p _
    have hp : State.reset.path p = {} := by cases p <;> rfl
    rw [hp]
    refine ⟨rfl, rfl, rfl, rfl, rfl, rfl, rfl, rfl, rfl, rfl, fun n => ?_⟩
    have hn : (({} : PathSt).ev n) = {} := by unfold PathSt.ev; split <;> rfl
    rw [hn]
    exact ⟨rfl, rfl, rfl⟩
  case rings =>
    intro p i
    cases p <;> exact ⟨rfl, rfl⟩
  case entries =>
    intro j hj
    show (FwdEnt.dflt j).valid = false
    rw [FwdEnt.dflt, if_neg hj]
    rfl
  case domains =>
    intro d hd
    unfold State.dom
    rw [if_neg (by omega)]
    rfl

end Sys2Proof.Machine
end

section
/-! PROOFS. The slices that a mailbox command leaves (13; 15 R442), and the commands that a lock bit turns away (13 R366; 15 R443). -/

namespace Sys2Proof.Machine

/-! ### Changes that stay inside given slices -/

/-- `t` differs from `s` in no slice but those that `f` takes from its second argument. -/
def State.onlyIn (f : Slices → Slices → Slices) (s t : State) : Prop := f t.wide s.wide = s.wide

/-- `f` puts some slices of its second argument in place of those of its first. -/
structure Frame (f : Slices → Slices → Slices) : Prop where
  /-- Put in place of themselves, slices stay. -/
  refl : ∀ x, f x x = x
  /-- The second replacement of the same slices wins. -/
  last : ∀ x y z, f (f x y) z = f x z

namespace State.onlyIn

variable {f g : Slices → Slices → Slices} {s t u : State}

theorem of_wide (hf : Frame f) (h : t.wide = s.wide) : s.onlyIn f t := by
  unfold State.onlyIn
  rw [h, hf.refl]

theorem refl (hf : Frame f) (s : State) : s.onlyIn f s := of_wide hf rfl

theorem trans (hf : Frame f) (h : s.onlyIn f t) (k : t.onlyIn f u) : s.onlyIn f u := by
  unfold State.onlyIn at *
  rw [← hf.last, k, h]

/-- What stays inside `g` stays inside every `f` that replaces the slices of `g` too. -/
theorem widen (hf : Frame f) (h : s.onlyIn g t) (hg : ∀ x y, f (g x y) y = f x y) : s.onlyIn f t := by
  unfold State.onlyIn at *
  rw [← hg, h, hf.refl]

/-- A step that keeps every slice may follow. -/
theorem of_wide_right (h : s.onlyIn f t) (k : u.wide = t.wide) : s.onlyIn f u := by
  unfold State.onlyIn at *
  rw [k, h]

theorem ite (c : Prop) [Decidable c] (h : s.onlyIn f t) (k : s.onlyIn f u) : s.onlyIn f (if c then t else u) := by
  split
  · exact h
  · exact k

theorem foldl {α : Type} (hf : Frame f) (n : State → α → State) (h : ∀ (s : State) (a : α), s.onlyIn f (n s a)) (l : List α) (s : State) :
    s.onlyIn f (l.foldl n s) := by
  induction l generalizing s with
  | nil => exact refl hf s
  | cons a l ih => exact trans hf (h s a) (ih (n s a))

end State.onlyIn

/-! ### Pools, rings and cores keep every slice -/

theorem State.poolStatsClear_wide (s : State) (d : Fab) (k i : Nat) : (s.poolStatsClear d k i).wide = s.wide := by
  unfold State.poolStatsClear
  repeat' split
  all_goals simp

theorem State.clearRing_wide (s : State) (p : Path) (rx : Bool) (n : Nat) : (s.clearRing p rx n).wide = s.wide := by
  unfold State.clearRing
  split <;> rfl

@[simp ↓] theorem State.takeToken_wide (s : State) (a obj : Nat) : (s.takeToken a obj).wide = s.wide := by
  simp [State.takeToken]

@[simp ↓] theorem State.dropToken_wide (s : State) (a obj : Nat) : (s.dropToken a obj).wide = s.wide := by
  simp [State.dropToken, ↓apply_ite State.wide]

@[simp ↓] theorem State.owes_wide (s : State) (c : Fab) (k : Bool) : (s.owes c k).wide = s.wide := by
  simp [State.owes]

@[simp ↓] theorem State.tripwire_wide (s : State) (c : Fab) (b : Bool) : (s.tripwire c b).wide = s.wide := by
  simp [State.tripwire, ↓apply_ite State.wide]

@[simp ↓] theorem State.selfTrip_wide (s : State) (c : Fab) (x y z : Bool) : (s.selfTrip c x y z).wide = s.wide := by
  simp [State.selfTrip, ↓apply_ite State.wide]

@[simp ↓] theorem State.holdParity_wide (s : State) (c : Fab) : (s.holdParity c).wide = s.wide := by
  simp [State.holdParity, ↓apply_ite State.wide]

@[simp ↓] theorem State.dropLining_wide (s : State) : s.dropLining.wide = s.wide := by simp [State.dropLining]

@[simp ↓] theorem State.detach_wide (s : State) (c : Fab) : (s.detach c).wide = s.wide := by simp [State.detach, ↓apply_ite State.wide]

@[simp ↓] theorem State.attach_wide (s : State) (c : Fab) : (s.attach c).wide = s.wide := by simp [State.attach, ↓apply_ite State.wide]

@[simp ↓] theorem State.letGo_wide (s : State) (c : Fab) : (s.letGo c).wide = s.wide := by simp [State.letGo, ↓apply_ite State.wide]

/-! ### Free values -/

/-- The counter of free values alone. -/
abbrev onFree (x y : Slices) : Slices := { x with free := y.free }

theorem frame_onFree : Frame onFree := ⟨fun _ => rfl, fun _ _ _ => rfl⟩

theorem State.useFree_onlyIn (s : State) : s.onlyIn onFree s.useFree := rfl

theorem State.moved_onlyIn (s : State) (c : Fab) : s.onlyIn onFree (s.moved c) := rfl

theorem State.debugRead_onlyIn (s : State) (c : Fab) (mem : Bool) (i : Nat) : s.onlyIn onFree (s.debugRead c mem i).1 := by
  unfold State.debugRead
  dsimp only
  generalize Tbl.get noneAt _ i = o
  cases o <;> rfl

/-- A debugger's action reaches the core and the counter of free values. -/
theorem State.debugAct_onlyIn (s : State) (c : Fab) (act i a : Nat) (v : Word) : s.onlyIn onFree (s.debugAct c act i a v).1 := by
  unfold State.debugAct
  split
  case h_1 => exact .of_wide frame_onFree (s.attach_wide c)
  case h_2 => exact .of_wide frame_onFree (s.letGo_wide c)
  case h_8 => exact s.debugRead_onlyIn c false i
  case h_10 => exact s.debugRead_onlyIn c true a
  all_goals rfl

/-! ### Legacy channels and the gateway -/

/-- The legacy channels alone. -/
abbrev onEdge (x y : Slices) : Slices := { x with edge := y.edge }

theorem frame_onEdge : Frame onEdge := ⟨fun _ => rfl, fun _ _ _ => rfl⟩

theorem State.edgeCount_onlyIn (s : State) (n i : Nat) : s.onlyIn onEdge (s.edgeCount n i) := by
  unfold State.edgeCount
  dsimp only
  refine .of_wide_right ?_ (State.satRaise_wide _ _ _ _ (State.raiseDev_wide _ _))
  exact Eq.refl s.wide

theorem State.dropCan_onlyIn (s : State) (c : Nat) : s.onlyIn onEdge (s.dropCan c) :=
  .trans frame_onEdge (t := s.modCan c _) rfl (.foldl frame_onEdge _ (fun s _ => s.edgeCount_onlyIn c 2) _ _)

theorem State.gwClear_onlyIn (s : State) (k i : Nat) : s.onlyIn (fun x y => { x with gw := y.gw }) (s.gwClear k i) := by
  unfold State.gwClear
  split <;> rfl

theorem State.gwZoneOf_onlyIn (s : State) (n : Nat) (z : Option Nat) : s.onlyIn (fun x y => { x with zon := y.zon }) (s.gwZoneOf n z) := by
  unfold State.gwZoneOf
  repeat' split
  all_goals rfl

/-! ### The frame path -/

/-- The frame path of both dies. -/
abbrev onFab (x y : Slices) : Slices := { x with fabE := y.fabE, fabW := y.fabW }

theorem frame_onFab : Frame onFab := ⟨fun _ => rfl, fun _ _ _ => rfl⟩

theorem State.modFab_onlyIn (s : State) (d : Fab) (f : FabSt → FabSt) : s.onlyIn onFab (s.modFab d f) := by cases d <;> rfl

theorem State.stage_onlyIn (s : State) (p : Nat) (bytes : List Byte) (phy : Bool) (f : FrameSt) : s.onlyIn onFab (s.stage p bytes phy f) := by
  unfold State.stage
  dsimp only
  split
  · exact s.modFab_onlyIn _ _
  · exact .refl frame_onFab s

theorem State.chainLast_onlyIn (s : State) (d : Fab) (fid h x : Nat) : s.onlyIn onFab (s.chainLast d fid h x) :=
  .trans frame_onFab (.of_wide frame_onFab (State.freeCellChain_wide s d h x)) (State.modFab_onlyIn _ d _)

theorem State.forget_onlyIn (s : State) (d : Fab) (fid : Nat) : s.onlyIn onFab (s.forget d fid) := s.modFab_onlyIn d _

theorem State.tidy_onlyIn (s : State) (d : Fab) (fid : Nat) : s.onlyIn onFab (s.tidy d fid) := by
  unfold State.tidy
  repeat' split
  all_goals first | exact s.forget_onlyIn d fid | exact .refl frame_onFab s

/-- Releasing a copy returns its units and cells to the pools and drops it from its frame. -/
theorem State.releaseCopy_onlyIn (s : State) (d : Fab) (fid : Nat) (c : Copy) : s.onlyIn onFab (s.releaseCopy d fid c) := by
  have keep (u v : State) (h : v.wide = u.wide) : u.onlyIn onFab v := .of_wide frame_onFab h
  unfold State.releaseCopy
  split
  case h_1 => exact .refl frame_onFab s
  case h_2 f hf =>
    dsimp only
    refine .trans frame_onFab ?_ (State.tidy_onlyIn _ d fid)
    refine .trans frame_onFab ?_ (State.modFab_onlyIn _ d _)
    refine .of_wide_right ?_ (State.modPool_wide _ d _)
    have h2 : s.onlyIn onFab (match c.spill with
        | some h => ((s.freeUnits d (crosspoint f.input c.out) c.out c.units).freeCellChain d h c.out).1
        | none => s.freeUnits d (crosspoint f.input c.out) c.out c.units) := by
      split <;> exact keep _ _ (by simp)
    split
    · exact h2
    · rename_i h _
      refine .trans frame_onFab h2 (.trans frame_onFab (keep _ _ (State.releaseCell_wide _ d h c.out)) ?_)
      exact .ite _ (State.chainLast_onlyIn _ d fid _ _) (.refl frame_onFab _)

theorem State.flushOutput_onlyIn (s : State) (d : Fab) (o : Nat) : s.onlyIn onFab (s.flushOutput d o) :=
  .trans frame_onFab
    (.foldl frame_onFab _ (fun s _ => .trans frame_onFab (s.modFab_onlyIn d _) (State.releaseCopy_onlyIn _ d _ _)) _ s)
    (State.modFab_onlyIn _ d _)

theorem State.gwPortFit_onlyIn (s : State) : s.onlyIn onFab s.gwPortFit := by
  unfold State.gwPortFit
  dsimp only
  split
  · exact .refl frame_onFab s
  · exact .of_wide_right (s.flushOutput_onlyIn _ _) rfl

theorem State.closeBundle_onlyIn (s : State) (i : Nat) :
    s.onlyIn (fun x y => { x with fabE := y.fabE, fabW := y.fabW, gw := y.gw }) (s.closeBundle i) := by
  unfold State.closeBundle
  dsimp only
  repeat' split
  · exact Eq.refl s.wide
  · refine .trans ⟨fun _ => rfl, fun _ _ _ => rfl⟩ ?_ (.widen ⟨fun _ => rfl, fun _ _ _ => rfl⟩ (State.stage_onlyIn _ _ _ _ _) fun _ _ => rfl)
    exact Eq.refl s.wide
  · exact Eq.refl s.wide

theorem State.fwdStatsClear_onlyIn (s : State) (d : Fab) (k i : Nat) :
    s.onlyIn (fun x y => { x with fabE := y.fabE, fabW := y.fabW, tab := y.tab }) (s.fwdStatsClear d k i) := by
  unfold State.fwdStatsClear
  split <;> cases d <;> exact Eq.refl s.wide

/-! ### Time and the stack -/

/-- The time slice alone. -/
abbrev onTim (x y : Slices) : Slices := { x with tim := y.tim }

theorem frame_onTim : Frame onTim := ⟨fun _ => rfl, fun _ _ _ => rfl⟩

theorem State.modTim_onlyIn (s : State) (f : TimeSt → TimeSt) : s.onlyIn onTim (s.modTim f) := Eq.refl s.wide

theorem State.timeMode_onlyIn (s : State) (m : TimeMode) : s.onlyIn onTim (s.timeMode m) := by
  unfold State.timeMode
  split
  · exact .refl frame_onTim s
  · exact .of_wide_right (s.modTim_onlyIn _) (State.raiseDev_wide _ _)

theorem State.correct_onlyIn (s : State) (corr : Int) (force : Bool) : s.onlyIn onTim (s.correct corr force).1 := by
  have keep (c : Prop) [Decidable c] : s.onlyIn onTim (if c then s.raiseDev .timeState else s) :=
    .ite _ (.of_wide frame_onTim (s.raiseDev_wide _)) (.refl frame_onTim s)
  unfold State.correct
  dsimp only
  split
  · exact .refl frame_onTim s
  split
  · exact s.modTim_onlyIn _
  rw [apply_ite Prod.fst]
  exact .ite _ (keep _) (.trans frame_onTim (keep _) (State.modTim_onlyIn _ _))

theorem State.sourceLost_onlyIn (s : State) : s.onlyIn onTim s.sourceLost := by
  unfold State.sourceLost
  split
  · exact .of_wide_right (s.timeMode_onlyIn _) (State.logFault_wide _ _ _ _)
  · exact .of_wide_right (.trans frame_onTim (s.modTim_onlyIn _) (State.timeMode_onlyIn _ _)) (State.logFault_wide _ _ _ _)
  · exact .refl frame_onTim s

theorem State.stackTo_onlyIn (s : State) (m : StackMode) : s.onlyIn (fun x y => { x with stk := y.stk }) (s.stackTo m) := by
  unfold State.stackTo
  split
  · exact Eq.refl s.wide
  · exact .of_wide_right (t := s.modStk _) (Eq.refl s.wide) (State.logFault_wide _ _ _ _)

/-! ### Images and keys -/

/-- The image store alone. -/
abbrev onImg (x y : Slices) : Slices := { x with img := y.img }

theorem frame_onImg : Frame onImg := ⟨fun _ => rfl, fun _ _ _ => rfl⟩

/-- The key store and the image store. -/
abbrev onKeyImg (x y : Slices) : Slices := { x with key := y.key, img := y.img }

theorem frame_onKeyImg : Frame onKeyImg := ⟨fun _ => rfl, fun _ _ _ => rfl⟩

theorem State.modImg_onlyIn (s : State) (f : ImgSt → ImgSt) : s.onlyIn onImg (s.modImg f) := Eq.refl s.wide

theorem State.clearBlobs_onlyIn (s : State) (img : Nat) (f : Nat → Bool) : s.onlyIn onImg (s.clearBlobs img f) :=
  .foldl frame_onImg _ (fun s _ => .ite _ (s.modImg_onlyIn _) (.refl frame_onImg s)) _ s

theorem State.appendBlobs_onlyIn {s t : State} {img : Nat} {ws : List Word} (h : s.appendBlobs img ws = some t) : s.onlyIn onImg t := by
  unfold State.appendBlobs at h
  dsimp only at h
  split at h
  · cases h
    exact s.modImg_onlyIn _
  · cases h

theorem State.updTo_onlyIn (s : State) (m : UpdMode) : s.onlyIn onImg (s.updTo m) := by
  have h : s.onlyIn onImg ((s.modImg fun g => { g with mode := m, target := if m = .idle then 3 else g.target }).raiseDev .image) :=
    .of_wide_right (s.modImg_onlyIn _) (State.raiseDev_wide _ _)
  exact .ite _ (.of_wide_right h (State.dropToken_wide _ _ _)) h

theorem State.slotTo_onlyIn (s : State) (n : Nat) (m : SlotMode) : s.onlyIn onImg (s.slotTo n m) :=
  .ite _ (.of_wide_right (s.modImg_onlyIn _) (State.raiseDev_wide _ _)) (.refl frame_onImg s)

theorem State.rejectTarget_onlyIn (s : State) (why : Nat) : s.onlyIn onImg (s.rejectTarget why) :=
  .trans frame_onImg (s.slotTo_onlyIn _ _) (State.modImg_onlyIn _ _)

theorem State.fallBack_onlyIn (s : State) (why : Nat) : s.onlyIn onImg (s.fallBack why) := by
  unfold State.fallBack
  dsimp only
  exact .of_wide_right (.trans frame_onImg (s.rejectTarget_onlyIn why) (State.updTo_onlyIn _ _)) (State.modPair_wide _ _)

/-- A key that is made is stored, with its blob where it persists. -/
theorem State.makeKey_onlyIn (s : State) (r : Req) (k : KeySlot) : s.onlyIn onKeyImg (s.makeKey r k).st := by
  unfold State.makeKey
  dsimp only
  split
  · split
    · split
      · rename_i t h
        have ht : s.onlyIn onKeyImg t := .widen frame_onKeyImg (State.appendBlobs_onlyIn h) fun _ _ => rfl
        exact .trans frame_onKeyImg ht (Eq.refl t.wide)
      · exact Eq.refl s.wide
    · exact Eq.refl s.wide
  · exact Eq.refl s.wide

end Sys2Proof.Machine
end

section
/-! PROOFS. What each mailbox command leaves (13; 15 R442). -/

namespace Sys2Proof.Machine

/-- A frame that lets a command move the instant of the depot session's last request (15 R442). -/
structure CmdFrame (f : Slices → Slices → Slices) : Prop extends Frame f where
  /-- That instant apart, the slices that `f` puts in place do not depend on it. -/
  session : ∀ x y k, { f x { y with key := { y.key with sessionAt := k } } with
    key := { (f x { y with key := { y.key with sessionAt := k } }).key with sessionAt := y.key.sessionAt } } = f x y

/-- What the execution of a command leaves, the command leaves. -/
theorem leaves_of_run {c : Req → Instr} {f : Slices → Slices → Slices} (hf : CmdFrame f) (sp : CmdSpec)
    (hx : ∀ r s, exec (c r) s = .next (mailbox sp r s)) (h : ∀ (r : Req) (s : State), s.onlyIn f (sp.run r s).st) : leaves c f := by
  refine leaves_intro hx hf.refl (fun x y k hk => ?_) h
  have := congrArg (fun z : Slices => { z with key := { z.key with sessionAt := x.key.sessionAt } }) hk
  exact (hf.session y x k).symm.trans this

/-! ### The slices that commands may change, each with the instant of the depot session where the name begins with `cmd` -/

abbrev cmdOnly (x y : Slices) : Slices := Slices.session x y

theorem frame_cmdOnly : Frame cmdOnly := ⟨fun _ => rfl, fun _ _ _ => rfl⟩

abbrev onKey (x y : Slices) : Slices := { x with key := y.key }

theorem frame_onKey : Frame onKey := ⟨fun _ => rfl, fun _ _ _ => rfl⟩

abbrev cmdEdge (x y : Slices) : Slices := { Slices.session x y with edge := y.edge }

theorem frame_cmdEdge : Frame cmdEdge := ⟨fun _ => rfl, fun _ _ _ => rfl⟩

abbrev cmdEgr (x y : Slices) : Slices := { Slices.session x y with egr := y.egr }

theorem frame_cmdEgr : Frame cmdEgr := ⟨fun _ => rfl, fun _ _ _ => rfl⟩

abbrev cmdFree (x y : Slices) : Slices := { Slices.session x y with free := y.free }

theorem frame_cmdFree : Frame cmdFree := ⟨fun _ => rfl, fun _ _ _ => rfl⟩

abbrev onKeyFree (x y : Slices) : Slices := { x with key := y.key, free := y.free }

theorem frame_onKeyFree : Frame onKeyFree := ⟨fun _ => rfl, fun _ _ _ => rfl⟩

abbrev cmdGw (x y : Slices) : Slices := { Slices.session x y with gw := y.gw }

theorem frame_cmdGw : Frame cmdGw := ⟨fun _ => rfl, fun _ _ _ => rfl⟩

abbrev cmdPorts (x y : Slices) : Slices := { Slices.session x y with ports := y.ports }

theorem frame_cmdPorts : Frame cmdPorts := ⟨fun _ => rfl, fun _ _ _ => rfl⟩

abbrev cmdPow (x y : Slices) : Slices := { Slices.session x y with pow := y.pow }

theorem frame_cmdPow : Frame cmdPow := ⟨fun _ => rfl, fun _ _ _ => rfl⟩

abbrev cmdStk (x y : Slices) : Slices := { Slices.session x y with stk := y.stk }

theorem frame_cmdStk : Frame cmdStk := ⟨fun _ => rfl, fun _ _ _ => rfl⟩

abbrev cmdTab (x y : Slices) : Slices := { Slices.session x y with tab := y.tab }

theorem frame_cmdTab : Frame cmdTab := ⟨fun _ => rfl, fun _ _ _ => rfl⟩

abbrev cmdTim (x y : Slices) : Slices := { Slices.session x y with tim := y.tim }

theorem frame_cmdTim : Frame cmdTim := ⟨fun _ => rfl, fun _ _ _ => rfl⟩

abbrev cmdZon (x y : Slices) : Slices := { Slices.session x y with zon := y.zon }

theorem frame_cmdZon : Frame cmdZon := ⟨fun _ => rfl, fun _ _ _ => rfl⟩

abbrev cmdEgrPorts (x y : Slices) : Slices := { Slices.session x y with egr := y.egr, ports := y.ports }

theorem frame_cmdEgrPorts : Frame cmdEgrPorts := ⟨fun _ => rfl, fun _ _ _ => rfl⟩

abbrev cmdFab (x y : Slices) : Slices := { Slices.session x y with fabE := y.fabE, fabW := y.fabW }

theorem frame_cmdFab : Frame cmdFab := ⟨fun _ => rfl, fun _ _ _ => rfl⟩

abbrev cmdGwZon (x y : Slices) : Slices := { Slices.session x y with gw := y.gw, zon := y.zon }

theorem frame_cmdGwZon : Frame cmdGwZon := ⟨fun _ => rfl, fun _ _ _ => rfl⟩

abbrev cmdPortsTab (x y : Slices) : Slices := { Slices.session x y with ports := y.ports, tab := y.tab }

theorem frame_cmdPortsTab : Frame cmdPortsTab := ⟨fun _ => rfl, fun _ _ _ => rfl⟩

abbrev cmdPortsTim (x y : Slices) : Slices := { Slices.session x y with ports := y.ports, tim := y.tim }

theorem frame_cmdPortsTim : Frame cmdPortsTim := ⟨fun _ => rfl, fun _ _ _ => rfl⟩

abbrev cmdFabFree (x y : Slices) : Slices := { Slices.session x y with fabE := y.fabE, fabW := y.fabW, free := y.free }

theorem frame_cmdFabFree : Frame cmdFabFree := ⟨fun _ => rfl, fun _ _ _ => rfl⟩

abbrev cmdFabGw (x y : Slices) : Slices := { Slices.session x y with fabE := y.fabE, fabW := y.fabW, gw := y.gw }

theorem frame_cmdFabGw : Frame cmdFabGw := ⟨fun _ => rfl, fun _ _ _ => rfl⟩

abbrev cmdFabTab (x y : Slices) : Slices := { Slices.session x y with fabE := y.fabE, fabW := y.fabW, tab := y.tab }

theorem frame_cmdFabTab : Frame cmdFabTab := ⟨fun _ => rfl, fun _ _ _ => rfl⟩

abbrev cmdFabZon (x y : Slices) : Slices := { Slices.session x y with fabE := y.fabE, fabW := y.fabW, zon := y.zon }

theorem frame_cmdFabZon : Frame cmdFabZon := ⟨fun _ => rfl, fun _ _ _ => rfl⟩

abbrev cmdPowStkTim (x y : Slices) : Slices := { Slices.session x y with pow := y.pow, stk := y.stk, tim := y.tim }

theorem frame_cmdPowStkTim : Frame cmdPowStkTim := ⟨fun _ => rfl, fun _ _ _ => rfl⟩

abbrev cmdImg (x y : Slices) : Slices := { Slices.session x y with img := y.img }

theorem frame_cmdImg : Frame cmdImg := ⟨fun _ => rfl, fun _ _ _ => rfl⟩

abbrev onKeyFreeImg (x y : Slices) : Slices := { x with key := y.key, free := y.free, img := y.img }

theorem frame_onKeyFreeImg : Frame onKeyFreeImg := ⟨fun _ => rfl, fun _ _ _ => rfl⟩

theorem State.modFab_onlyIn_cmd (s : State) (d : Fab) (f : FabSt → FabSt) : s.onlyIn cmdFab (s.modFab d f) :=
  .widen frame_cmdFab (s.modFab_onlyIn d f) fun _ _ => rfl

theorem State.portUp_onlyIn (s : State) (p : Nat) : s.onlyIn cmdEgrPorts (s.portUp p) := by
  unfold State.portUp
  dsimp only
  refine .of_wide_right ?_ (State.raiseDie_wide _ _ _)
  exact Eq.refl s.wide

theorem State.zeroize_onlyIn (s : State) : s.onlyIn onKeyFreeImg s.zeroize := Eq.refl s.wide

theorem State.newRoot_onlyIn (s : State) : s.onlyIn onKeyFreeImg s.newRoot := Eq.refl s.wide

/-! ### The executions -/

theorem gclRead_onlyIn (r : Req) (s : State) : s.onlyIn cmdOnly (gclRead.run r s).st := by
  unfold gclRead
  dsimp only
  repeat' split
  all_goals exact Eq.refl s.wide

theorem poolLimitWrite_onlyIn (r : Req) (s : State) : s.onlyIn cmdOnly (poolLimitWrite.run r s).st := by
  unfold poolLimitWrite
  dsimp only
  exact .of_wide frame_cmdOnly (State.modPool_wide _ _ _)

theorem poolLevelWrite_onlyIn (r : Req) (s : State) : s.onlyIn cmdOnly (poolLevelWrite.run r s).st := by
  unfold poolLevelWrite
  dsimp only
  exact .of_wide frame_cmdOnly (State.modPool_wide _ _ _)

theorem poolStatsRead_onlyIn (r : Req) (s : State) : s.onlyIn cmdOnly (poolStatsRead.run r s).st := by
  unfold poolStatsRead
  dsimp only
  exact .ite _ (.of_wide frame_cmdOnly (s.poolStatsClear_wide _ _ _)) (.refl frame_cmdOnly s)

theorem poolErrlogRead_onlyIn (r : Req) (s : State) : s.onlyIn cmdOnly (poolErrlogRead.run r s).st := by
  unfold poolErrlogRead
  dsimp only
  exact .ite _ (.of_wide frame_cmdOnly (State.modPool_wide _ _ _)) (.refl frame_cmdOnly s)

theorem coreStatsRead_onlyIn (r : Req) (s : State) : s.onlyIn cmdOnly (coreStatsRead.run r s).st := by
  unfold coreStatsRead
  dsimp only
  repeat' split
  all_goals exact Eq.refl s.wide

theorem hostLateLogRead_onlyIn (r : Req) (s : State) : s.onlyIn cmdOnly (hostLateLogRead.run r s).st := by
  unfold hostLateLogRead
  dsimp only
  repeat' split
  all_goals exact Eq.refl s.wide

theorem hostRingStatsRead_onlyIn (r : Req) (s : State) : s.onlyIn cmdOnly (hostRingStatsRead.run r s).st := by
  unfold hostRingStatsRead
  dsimp only
  exact .ite _ (.of_wide frame_cmdOnly (s.clearRing_wide _ _ _)) (.refl frame_cmdOnly s)

theorem faultLogRead_onlyIn (r : Req) (s : State) : s.onlyIn cmdOnly (faultLogRead.run r s).st := by
  unfold faultLogRead
  dsimp only
  repeat' split
  all_goals exact Eq.refl s.wide

theorem keyTamperRead_onlyIn (r : Req) (s : State) : s.onlyIn onKey (keyTamperRead.run r s).st := by
  unfold keyTamperRead
  dsimp only
  repeat' split
  all_goals exact Eq.refl s.wide

theorem cipherBlock_onlyIn (r : Req) (s : State) : s.onlyIn onKey (cipherBlock.run r s).st := by
  unfold cipherBlock
  dsimp only
  repeat' split
  all_goals exact Eq.refl s.wide

theorem cipherUnlock_onlyIn (r : Req) (s : State) : s.onlyIn onKey (cipherUnlock.run r s).st := by
  unfold cipherUnlock
  dsimp only
  repeat' split
  all_goals exact Eq.refl s.wide

theorem edgeCanWrite_onlyIn (r : Req) (s : State) : s.onlyIn cmdEdge (edgeCanWrite.run r s).st := by
  unfold edgeCanWrite
  dsimp only
  split
  · refine .trans frame_cmdEdge ?_ (.widen frame_cmdEdge (State.dropCan_onlyIn _ _) fun _ _ => rfl)
    exact Eq.refl s.wide
  · exact Eq.refl s.wide

theorem edgeTableLoad_onlyIn (r : Req) (s : State) : s.onlyIn cmdEdge (edgeTableLoad.run r s).st := by
  unfold edgeTableLoad
  dsimp only
  repeat' split
  all_goals exact Eq.refl s.wide

theorem edgeStatusRead_onlyIn (r : Req) (s : State) : s.onlyIn cmdEdge (edgeStatusRead.run r s).st := by
  unfold edgeStatusRead
  dsimp only
  repeat' split
  all_goals exact Eq.refl s.wide

theorem gclListWrite_onlyIn (r : Req) (s : State) : s.onlyIn cmdEgr (gclListWrite.run r s).st := by
  unfold gclListWrite
  dsimp only
  repeat' split
  all_goals exact Eq.refl s.wide

theorem gclPatternWrite_onlyIn (r : Req) (s : State) : s.onlyIn cmdEgr (gclPatternWrite.run r s).st := by
  unfold gclPatternWrite
  dsimp only
  repeat' split
  all_goals exact Eq.refl s.wide

theorem gclCommit_onlyIn (r : Req) (s : State) : s.onlyIn cmdEgr (gclCommit.run r s).st := by
  unfold gclCommit
  dsimp only
  split
  · exact Eq.refl s.wide
  · refine .foldl frame_cmdEgr _ ?_ _ s
    exact fun s _ => Eq.refl s.wide

theorem gclCancel_onlyIn (r : Req) (s : State) : s.onlyIn cmdEgr (gclCancel.run r s).st := by
  unfold gclCancel
  dsimp only
  refine .foldl frame_cmdEgr _ ?_ _ s
  exact fun s _ => Eq.refl s.wide

theorem shaperMmRead_onlyIn (r : Req) (s : State) : s.onlyIn cmdEgr (shaperMmRead.run r s).st := by
  unfold shaperMmRead
  dsimp only
  repeat' split
  all_goals exact Eq.refl s.wide

theorem coreSelftest_onlyIn (r : Req) (s : State) : s.onlyIn cmdFree (coreSelftest.run r s).st := by
  refine .trans frame_cmdFree (t := s.useFree) (Eq.refl s.wide) (.of_wide frame_cmdFree ?_)
  unfold coreSelftest
  dsimp only
  split <;> simp

theorem coreDebug_onlyIn (r : Req) (s : State) : s.onlyIn cmdFree (coreDebug.run r s).st := by
  unfold coreDebug
  dsimp only
  split
  · exact Eq.refl s.wide
  · exact .widen frame_cmdFree (s.debugAct_onlyIn _ _ _ _ _) fun _ _ => rfl

theorem keySession_onlyIn (r : Req) (s : State) : s.onlyIn onKeyFree (keySession.run r s).st := by
  have hf : s.onlyIn (fun x y => { x with key := y.key }) s.endSession := by
    refine .of_wide_right (t := s.modKey fun k => { k with session := none }) (Eq.refl s.wide) ?_
    simp [State.endSession]
  unfold keySession
  dsimp only
  repeat' split
  all_goals first | exact .widen frame_onKeyFree hf fun _ _ => rfl | exact Eq.refl s.wide

theorem gwPeriodicData_onlyIn (r : Req) (s : State) : s.onlyIn cmdGw (gwPeriodicData.run r s).st := by
  unfold gwPeriodicData
  dsimp only
  repeat' split
  all_goals exact Eq.refl s.wide

theorem gwStatsRead_onlyIn (r : Req) (s : State) : s.onlyIn cmdGw (gwStatsRead.run r s).st := by
  unfold gwStatsRead
  dsimp only
  exact .ite _ (.widen frame_cmdGw (s.gwClear_onlyIn _ _) fun _ _ => rfl) (Eq.refl s.wide)

theorem portStatusRead_onlyIn (r : Req) (s : State) : s.onlyIn cmdPorts (portStatusRead.run r s).st := by
  unfold portStatusRead
  dsimp only
  repeat' split
  all_goals exact Eq.refl s.wide

theorem macsecStatusRead_onlyIn (r : Req) (s : State) : s.onlyIn cmdPorts (macsecStatusRead.run r s).st := by
  unfold macsecStatusRead
  dsimp only
  repeat' split
  all_goals exact Eq.refl s.wide

theorem powerStatusRead_onlyIn (r : Req) (s : State) : s.onlyIn cmdPow (powerStatusRead.run r s).st := by
  unfold powerStatusRead
  dsimp only
  repeat' split
  all_goals exact Eq.refl s.wide

theorem powerSeqLoad_onlyIn (r : Req) (s : State) : s.onlyIn cmdPow (powerSeqLoad.run r s).st := by
  unfold powerSeqLoad
  dsimp only
  repeat' split
  all_goals exact Eq.refl s.wide

theorem powerLoadSet_onlyIn (r : Req) (s : State) : s.onlyIn cmdPow (powerLoadSet.run r s).st := by
  unfold powerLoadSet
  dsimp only
  refine .foldl frame_cmdPow _ ?_ _ s
  exact fun s _ => Eq.refl s.wide

theorem paceCurveLoad_onlyIn (r : Req) (s : State) : s.onlyIn cmdPow (paceCurveLoad.run r s).st := by
  unfold paceCurveLoad
  dsimp only
  repeat' split
  all_goals exact Eq.refl s.wide

theorem paceStatusRead_onlyIn (r : Req) (s : State) : s.onlyIn cmdPow (paceStatusRead.run r s).st := by
  unfold paceStatusRead
  dsimp only
  repeat' split
  all_goals exact Eq.refl s.wide

theorem wakeStatusRead_onlyIn (r : Req) (s : State) : s.onlyIn cmdPow (wakeStatusRead.run r s).st := by
  unfold wakeStatusRead
  dsimp only
  repeat' split
  all_goals exact Eq.refl s.wide

theorem wakeLogRead_onlyIn (r : Req) (s : State) : s.onlyIn cmdPow (wakeLogRead.run r s).st := by
  unfold wakeLogRead
  dsimp only
  repeat' split
  all_goals exact Eq.refl s.wide

theorem stackStatusRead_onlyIn (r : Req) (s : State) : s.onlyIn cmdStk (stackStatusRead.run r s).st := by
  unfold stackStatusRead
  dsimp only
  repeat' split
  all_goals exact Eq.refl s.wide

theorem ruleProgramLoad_onlyIn (r : Req) (s : State) : s.onlyIn cmdTab (ruleProgramLoad.run r s).st := by
  unfold ruleProgramLoad
  dsimp only
  repeat' split
  all_goals exact Eq.refl s.wide

theorem ruleEntryWrite_onlyIn (r : Req) (s : State) : s.onlyIn cmdTab (ruleEntryWrite.run r s).st := by
  unfold ruleEntryWrite
  dsimp only
  repeat' split
  all_goals exact Eq.refl s.wide

theorem ruleGroupWrite_onlyIn (r : Req) (s : State) : s.onlyIn cmdTab (ruleGroupWrite.run r s).st := by
  unfold ruleGroupWrite
  dsimp only
  repeat' split
  all_goals exact Eq.refl s.wide

theorem ruleCommit_onlyIn (r : Req) (s : State) : s.onlyIn cmdTab (ruleCommit.run r s).st := by
  unfold ruleCommit
  dsimp only
  repeat' split
  all_goals exact Eq.refl s.wide

theorem fwdEntryWrite_onlyIn (r : Req) (s : State) : s.onlyIn cmdTab (fwdEntryWrite.run r s).st := by
  unfold fwdEntryWrite
  dsimp only
  repeat' split
  all_goals exact Eq.refl s.wide

theorem fwdCommit_onlyIn (r : Req) (s : State) : s.onlyIn cmdTab (fwdCommit.run r s).st := by
  unfold fwdCommit
  dsimp only
  repeat' split
  all_goals exact Eq.refl s.wide

theorem fwdLearnWrite_onlyIn (r : Req) (s : State) : s.onlyIn cmdTab (fwdLearnWrite.run r s).st := by
  unfold fwdLearnWrite
  dsimp only
  repeat' split
  all_goals exact Eq.refl s.wide

theorem timeSet_onlyIn (r : Req) (s : State) : s.onlyIn cmdTim (timeSet.run r s).st := by
  have h (corr : Int) (force : Bool) (g : TimeSt → TimeSt) (m : TimeMode) :
      s.onlyIn onTim (((s.correct corr force).1.modTim g).timeMode m) :=
    .trans frame_onTim (.trans frame_onTim (s.correct_onlyIn _ _) (State.modTim_onlyIn _ _)) (State.timeMode_onlyIn _ _)
  unfold timeSet
  dsimp only
  split
  · exact Eq.refl s.wide
  split
  · split <;> exact Eq.refl s.wide
  split
  · exact Eq.refl s.wide
  split <;> dsimp only
  · exact .widen frame_cmdTim (h _ _ _ _) fun _ _ => rfl
  · exact .widen frame_cmdTim (.trans frame_onTim (h _ _ _ _) (State.modTim_onlyIn _ _)) fun _ _ => rfl
  · exact .widen frame_cmdTim (.trans frame_onTim (h _ _ _ _) (State.modTim_onlyIn _ _)) fun _ _ => rfl

theorem timeAdjust_onlyIn (r : Req) (s : State) : s.onlyIn cmdTim (timeAdjust.run r s).st := by
  have h (t : State) (ht : s.onlyIn onTim t) (corr : Int) : s.onlyIn onTim (((t.correct corr false).1).timeMode .free) :=
    .trans frame_onTim (.trans frame_onTim ht (State.correct_onlyIn _ _ _)) (State.timeMode_onlyIn _ _)
  unfold timeAdjust
  dsimp only
  split
  · exact Eq.refl s.wide
  · refine .widen frame_cmdTim (h _ ?_ _) fun _ _ => rfl
    exact .ite _ (s.modTim_onlyIn _) (.refl frame_onTim s)

theorem timeConfigWrite_onlyIn (r : Req) (s : State) : s.onlyIn cmdTim (timeConfigWrite.run r s).st := by
  have h (f g : TimeSt → TimeSt) : s.onlyIn onTim ((s.modTim f).modTim g).sourceLost :=
    .trans frame_onTim (.trans frame_onTim (s.modTim_onlyIn f) (State.modTim_onlyIn _ g)) (State.sourceLost_onlyIn _)
  unfold timeConfigWrite
  dsimp only
  split
  · exact Eq.refl s.wide
  split
  · exact .widen frame_cmdTim (h _ _) fun _ _ => rfl
  · exact Eq.refl s.wide

theorem timePpsRead_onlyIn (r : Req) (s : State) : s.onlyIn cmdTim (timePpsRead.run r s).st := by
  unfold timePpsRead
  dsimp only
  repeat' split
  all_goals exact Eq.refl s.wide

theorem portPlcaWrite_onlyIn (r : Req) (s : State) : s.onlyIn cmdEgrPorts (portPlcaWrite.run r s).st := by
  unfold portPlcaWrite
  dsimp only
  split
  · refine .trans frame_cmdEgrPorts ?_ (State.portUp_onlyIn _ _)
    exact Eq.refl s.wide
  · exact Eq.refl s.wide

theorem zoneStatsRead_onlyIn (r : Req) (s : State) : s.onlyIn cmdFab (zoneStatsRead.run r s).st := by
  unfold zoneStatsRead
  dsimp only
  split
  · exact .ite _ (s.modFab_onlyIn_cmd _ _) (Eq.refl s.wide)
  · exact .ite _ (s.modFab_onlyIn_cmd _ _) (Eq.refl s.wide)

theorem meterStatsRead_onlyIn (r : Req) (s : State) : s.onlyIn cmdFab (meterStatsRead.run r s).st := by
  unfold meterStatsRead
  dsimp only
  split
  · exact .ite _ (s.modFab_onlyIn_cmd _ _) (Eq.refl s.wide)
  · exact .ite _ (s.modFab_onlyIn_cmd _ _) (Eq.refl s.wide)

theorem qstatQueueRead_onlyIn (r : Req) (s : State) : s.onlyIn cmdFab (qstatQueueRead.run r s).st := by
  unfold qstatQueueRead
  dsimp only
  exact .ite _ (s.modFab_onlyIn_cmd _ _) (Eq.refl s.wide)

theorem qstatSamplerWrite_onlyIn (r : Req) (s : State) : s.onlyIn cmdFab (qstatSamplerWrite.run r s).st := s.modFab_onlyIn_cmd _ _

theorem qstatSamplerRead_onlyIn (r : Req) (s : State) : s.onlyIn cmdFab (qstatSamplerRead.run r s).st := by
  unfold qstatSamplerRead
  dsimp only
  exact .ite _ (s.modFab_onlyIn_cmd _ _) (Eq.refl s.wide)

theorem pathOutputWrite_onlyIn (r : Req) (s : State) : s.onlyIn cmdFab (pathOutputWrite.run r s).st := s.modFab_onlyIn_cmd _ _

theorem pathMirrorWrite_onlyIn (r : Req) (s : State) : s.onlyIn cmdFab (pathMirrorWrite.run r s).st := by
  unfold pathMirrorWrite
  dsimp only
  split
  · exact Eq.refl s.wide
  · exact s.modFab_onlyIn_cmd _ _

theorem gwDownWrite_onlyIn (r : Req) (s : State) : s.onlyIn cmdGwZon (gwDownWrite.run r s).st := by
  have h (t : State) (n : Nat) (z : Option Nat) : t.onlyIn cmdGwZon (t.gwZoneOf n z) :=
    .widen frame_cmdGwZon (t.gwZoneOf_onlyIn n z) fun _ _ => rfl
  unfold gwDownWrite
  dsimp only
  generalize hs : s.modEnt true (r.fld 1 35 26) _ = t
  have ht : s.onlyIn cmdGwZon t := hs ▸ Eq.refl s.wide
  have h2 := State.onlyIn.trans frame_cmdGwZon ht
    (.ite ((s.downEnt (r.fld 1 35 26)).valid = true) (h t ((s.downEnt (r.fld 1 35 26)).fld 1 24 11) none) (.refl frame_cmdGwZon t))
  split
  · exact .trans frame_cmdGwZon h2 (h _ _ _)
  · exact h2

theorem timePortWrite_onlyIn (r : Req) (s : State) : s.onlyIn cmdPortsTim (timePortWrite.run r s).st := by
  unfold timePortWrite
  dsimp only
  repeat' split
  all_goals exact Eq.refl s.wide

theorem timePortRead_onlyIn (r : Req) (s : State) : s.onlyIn cmdPortsTim (timePortRead.run r s).st := by
  unfold timePortRead
  dsimp only
  repeat' split
  all_goals exact Eq.refl s.wide

theorem faultLinkEnable_onlyIn (r : Req) (s : State) : s.onlyIn cmdFabFree (faultLinkEnable.run r s).st := by
  unfold faultLinkEnable
  dsimp only
  split
  · exact Eq.refl s.wide
  · refine .trans frame_cmdFabFree ?_ (.widen frame_cmdFabFree (State.gwPortFit_onlyIn _) fun _ _ => rfl)
    exact Eq.refl s.wide

theorem gwBundleWrite_onlyIn (r : Req) (s : State) : s.onlyIn cmdFabGw (gwBundleWrite.run r s).st := by
  unfold gwBundleWrite
  dsimp only
  refine .trans frame_cmdFabGw (.widen frame_cmdFabGw (s.closeBundle_onlyIn (r.fld 1 35 30)) fun _ _ => rfl) ?_
  exact Eq.refl (s.closeBundle (r.fld 1 35 30)).wide

theorem fwdStatsRead_onlyIn (r : Req) (s : State) : s.onlyIn cmdFabTab (fwdStatsRead.run r s).st := by
  unfold fwdStatsRead
  dsimp only
  exact .ite _ (.widen frame_cmdFabTab (s.fwdStatsClear_onlyIn _ _ _) fun _ _ => rfl) (Eq.refl s.wide)

theorem stackDesignate_onlyIn (r : Req) (s : State) : s.onlyIn cmdPowStkTim (stackDesignate.run r s).st := by
  have h (f : TimeSt → TimeSt) : s.onlyIn cmdPowStkTim (s.modTim f).sourceLost.restartTimer :=
    .trans frame_cmdPowStkTim (.widen frame_cmdPowStkTim (.trans frame_onTim (s.modTim_onlyIn f) (State.sourceLost_onlyIn _)) fun _ _ => rfl)
      (Eq.refl (s.modTim f).sourceLost.wide)
  unfold stackDesignate State.orphaned
  dsimp only
  split
  · exact .trans frame_cmdPowStkTim (h _) (.widen frame_cmdPowStkTim (State.stackTo_onlyIn _ _) fun _ _ => rfl)
  · refine .trans frame_cmdPowStkTim ?_ (.widen frame_cmdPowStkTim (State.stackTo_onlyIn _ _) fun _ _ => rfl)
    exact Eq.refl s.wide

theorem keyImport_onlyIn (r : Req) (s : State) : s.onlyIn onKeyImg (keyImport.run r s).st := by
  unfold keyImport
  dsimp only
  repeat' split
  case _ => exact s.makeKey_onlyIn r _
  case _ => exact Eq.refl s.wide
  case _ => exact s.makeKey_onlyIn r _

theorem keyDerive_onlyIn (r : Req) (s : State) : s.onlyIn onKeyImg (keyDerive.run r s).st := by
  unfold keyDerive
  dsimp only
  split
  · exact Eq.refl s.wide
  · exact s.makeKey_onlyIn r _

theorem keyDelete_onlyIn (r : Req) (s : State) : s.onlyIn onKeyImg (keyDelete.run r s).st := by
  unfold keyDelete
  dsimp only
  generalize r.fld 1 35 24 = h
  have hs : s.onlyIn onKeyImg ((s.setSlot h {}).clearBlobs s.img.runSlot (· == h)) :=
    .trans frame_onKeyImg (t := s.setSlot h {}) (Eq.refl s.wide) (.widen frame_onKeyImg (State.clearBlobs_onlyIn _ _ _) fun _ _ => rfl)
  exact .trans frame_onKeyImg hs (Eq.refl ((s.setSlot h {}).clearBlobs s.img.runSlot (· == h)).wide)

theorem imgBegin_onlyIn (r : Req) (s : State) : s.onlyIn cmdImg (imgBegin.run r s).st := by
  have h (t : State) (ht : t.wide = s.wide) (f : ImgSt → ImgSt) : s.onlyIn cmdImg ((t.modImg f).updTo .erasing) :=
    .widen frame_cmdImg (.trans frame_onImg (.trans frame_onImg (.of_wide frame_onImg ht) (t.modImg_onlyIn f)) (State.updTo_onlyIn _ _))
      fun _ _ => rfl
  unfold imgBegin
  dsimp only
  split
  · dsimp only
    refine h _ ?_ _
    split
    · exact s.takeToken_wide 0 0
    · exact Eq.refl s.wide
  · exact Eq.refl s.wide

theorem imgWrite_onlyIn (r : Req) (s : State) : s.onlyIn cmdImg (imgWrite.run r s).st := by
  unfold imgWrite
  dsimp only
  repeat' split
  all_goals exact Eq.refl s.wide

theorem imgPrepare_onlyIn (r : Req) (s : State) : s.onlyIn cmdImg (imgPrepare.run r s).st := by
  have h (t : State) (ht : s.onlyIn onImg t) (f : ImgSt → ImgSt) : s.onlyIn cmdImg ((t.modImg f).updTo .prepared) :=
    .widen frame_cmdImg (.trans frame_onImg (.trans frame_onImg ht (t.modImg_onlyIn f)) (State.updTo_onlyIn _ _)) fun _ _ => rfl
  unfold imgPrepare
  dsimp only
  split
  · split
    · split
      · rename_i t ht
        dsimp only
        exact h t (State.appendBlobs_onlyIn ht) _
      · exact Eq.refl s.wide
    · exact Eq.refl s.wide
  · exact Eq.refl s.wide

theorem imgRollback_onlyIn (r : Req) (s : State) : s.onlyIn cmdImg (imgRollback.run r s).st := by
  unfold imgRollback
  dsimp only
  split
  · exact Eq.refl s.wide
  split <;> dsimp only
  · exact .widen frame_cmdImg (.trans frame_onImg (s.fallBack_onlyIn 1) (State.modImg_onlyIn _ _)) fun _ _ => rfl
  · refine .widen frame_cmdImg (.trans frame_onImg ?_ (State.updTo_onlyIn _ _)) fun _ _ => rfl
    exact .ite _ (.refl frame_onImg s) (s.slotTo_onlyIn _ _)

theorem keyProvision_onlyIn (r : Req) (s : State) : s.onlyIn onKeyFreeImg (keyProvision.run r s).st := by
  unfold keyProvision
  dsimp only
  refine .of_wide_right (.trans frame_onKeyFreeImg ?_ (.widen frame_onKeyFreeImg (State.clearBlobs_onlyIn _ _ _) fun _ _ => rfl))
    (State.dropToken_wide _ _ _)
  have h : s.onlyIn onKeyFreeImg (s.takeToken 1 0).zeroize :=
    .trans frame_onKeyFreeImg (.of_wide frame_onKeyFreeImg (s.takeToken_wide 1 0)) (State.zeroize_onlyIn _)
  exact .ite _ h (.trans frame_onKeyFreeImg h (State.newRoot_onlyIn _))

theorem keyGenerate_onlyIn (r : Req) (s : State) : s.onlyIn onKeyFreeImg (keyGenerate.run r s).st := by
  unfold keyGenerate
  dsimp only
  refine .trans frame_onKeyFreeImg ?_ (.widen frame_onKeyFreeImg (State.makeKey_onlyIn _ r _) fun _ _ => rfl)
  exact Eq.refl s.wide

/-- Settles O52: each command of a list runs inside the slices named for the list. -/
theorem mailboxCommandsLeaveTheOtherSlices : Obligations.MailboxCommandsLeaveTheOtherSlices := by
  unfold Obligations.MailboxCommandsLeaveTheOtherSlices
  refine ⟨?_, ?_, ?_, ?_, ?_, ?_, ?_, ?_, ?_, ?_, ?_, ?_, ?_, ?_, ?_, ?_, ?_, ?_, ?_, ?_, ?_, ?_, ?_, ?_, ?_, ?_⟩
  · have hf : CmdFrame cmdOnly := ⟨frame_cmdOnly, fun _ _ _ => rfl⟩
    simp only [List.forall_mem_cons]
    exact ⟨leaves_of_run hf ruleEntryRead (fun _ _ => rfl) fun _ _ => rfl,
      leaves_of_run hf ruleStatusRead (fun _ _ => rfl) fun _ _ => rfl,
      leaves_of_run hf rulePortRead (fun _ _ => rfl) fun _ _ => rfl,
      leaves_of_run hf ruleRangeRead (fun _ _ => rfl) fun _ _ => rfl,
      leaves_of_run hf ruleGroupRead (fun _ _ => rfl) fun _ _ => rfl,
      leaves_of_run hf zoneMapRead (fun _ _ => rfl) fun _ _ => rfl,
      leaves_of_run hf zonePolicyRead (fun _ _ => rfl) fun _ _ => rfl,
      leaves_of_run hf zoneGwRead (fun _ _ => rfl) fun _ _ => rfl,
      leaves_of_run hf meterRead (fun _ _ => rfl) fun _ _ => rfl,
      leaves_of_run hf meterFilterRead (fun _ _ => rfl) fun _ _ => rfl,
      leaves_of_run hf fwdEntryRead (fun _ _ => rfl) fun _ _ => rfl,
      leaves_of_run hf fwdStatusRead (fun _ _ => rfl) fun _ _ => rfl,
      leaves_of_run hf fwdPortRead (fun _ _ => rfl) fun _ _ => rfl,
      leaves_of_run hf frerFuncRead (fun _ _ => rfl) fun _ _ => rfl,
      leaves_of_run hf gclRead (fun _ _ => rfl) gclRead_onlyIn,
      leaves_of_run hf gclStatusRead (fun _ _ => rfl) fun _ _ => rfl,
      leaves_of_run hf gclCheck (fun _ _ => rfl) fun _ _ => rfl,
      leaves_of_run hf shaperQueueRead (fun _ _ => rfl) fun _ _ => rfl,
      leaves_of_run hf poolLimitWrite (fun _ _ => rfl) poolLimitWrite_onlyIn,
      leaves_of_run hf poolLevelWrite (fun _ _ => rfl) poolLevelWrite_onlyIn,
      leaves_of_run hf poolConfigRead (fun _ _ => rfl) fun _ _ => rfl,
      leaves_of_run hf poolStatsRead (fun _ _ => rfl) poolStatsRead_onlyIn,
      leaves_of_run hf poolErrlogRead (fun _ _ => rfl) poolErrlogRead_onlyIn,
      leaves_of_run hf poolCellRead (fun _ _ => rfl) fun _ _ => rfl,
      leaves_of_run hf pathOutputRead (fun _ _ => rfl) fun _ _ => rfl,
      leaves_of_run hf pathMirrorRead (fun _ _ => rfl) fun _ _ => rfl,
      leaves_of_run hf timeRead (fun _ _ => rfl) fun _ _ => rfl,
      leaves_of_run hf timeConfigRead (fun _ _ => rfl) fun _ _ => rfl,
      leaves_of_run hf maintStatusRead (fun _ _ => rfl) fun _ _ => rfl,
      leaves_of_run hf maintExclWrite (fun _ _ => rfl) fun _ _ => rfl,
      leaves_of_run hf edgeConfigRead (fun _ _ => rfl) fun _ _ => rfl,
      leaves_of_run hf portConfigRead (fun _ _ => rfl) fun _ _ => rfl,
      leaves_of_run hf portPlcaRead (fun _ _ => rfl) fun _ _ => rfl,
      leaves_of_run hf gwRead (fun _ _ => rfl) fun _ _ => rfl,
      leaves_of_run hf coreStatusRead (fun _ _ => rfl) fun _ _ => rfl,
      leaves_of_run hf coreSwitch (fun _ _ => rfl) fun _ _ => rfl,
      leaves_of_run hf coreGuardWrite (fun _ _ => rfl) fun _ _ => rfl,
      leaves_of_run hf coreGuardRead (fun _ _ => rfl) fun _ _ => rfl,
      leaves_of_run hf coreStatsRead (fun _ _ => rfl) coreStatsRead_onlyIn,
      leaves_of_run hf keyStatusRead (fun _ _ => rfl) fun _ _ => rfl,
      leaves_of_run hf keyInfoRead (fun _ _ => rfl) fun _ _ => rfl,
      leaves_of_run hf cipherStatusRead (fun _ _ => rfl) fun _ _ => rfl,
      leaves_of_run hf hostEcho (fun _ _ => rfl) fun _ _ => rfl,
      leaves_of_run hf hostVersionRead (fun _ _ => rfl) fun _ _ => rfl,
      leaves_of_run hf hostLateLogRead (fun _ _ => rfl) hostLateLogRead_onlyIn,
      leaves_of_run hf hostRingStatsRead (fun _ _ => rfl) hostRingStatsRead_onlyIn,
      leaves_of_run hf sealCommit (fun _ _ => rfl) fun _ _ => rfl,
      leaves_of_run hf sealStatusRead (fun _ _ => rfl) fun _ _ => rfl,
      leaves_of_run hf powerRead (fun _ _ => rfl) fun _ _ => rfl,
      leaves_of_run hf paceRead (fun _ _ => rfl) fun _ _ => rfl,
      leaves_of_run hf wakeRead (fun _ _ => rfl) fun _ _ => rfl,
      leaves_of_run hf imgStatusRead (fun _ _ => rfl) fun _ _ => rfl,
      leaves_of_run hf imgReportRead (fun _ _ => rfl) fun _ _ => rfl,
      leaves_of_run hf faultStatusRead (fun _ _ => rfl) fun _ _ => rfl,
      leaves_of_run hf faultLogRead (fun _ _ => rfl) faultLogRead_onlyIn, List.forall_mem_nil _⟩
  · have hf : CmdFrame onKey := ⟨frame_onKey, fun _ _ _ => rfl⟩
    simp only [List.forall_mem_cons]
    exact ⟨leaves_of_run hf keyTamperWrite (fun _ _ => rfl) fun _ _ => rfl,
      leaves_of_run hf keyTamperRead (fun _ _ => rfl) keyTamperRead_onlyIn,
      leaves_of_run hf keyVerifierWrite (fun _ _ => rfl) fun _ _ => rfl,
      leaves_of_run hf cipherLock (fun _ _ => rfl) fun _ _ => rfl,
      leaves_of_run hf cipherBlock (fun _ _ => rfl) cipherBlock_onlyIn,
      leaves_of_run hf cipherUnlock (fun _ _ => rfl) cipherUnlock_onlyIn, List.forall_mem_nil _⟩
  · have hf : CmdFrame cmdEdge := ⟨frame_cmdEdge, fun _ _ _ => rfl⟩
    simp only [List.forall_mem_cons]
    exact ⟨leaves_of_run hf edgeCanWrite (fun _ _ => rfl) edgeCanWrite_onlyIn,
      leaves_of_run hf edgeCanRecover (fun _ _ => rfl) fun _ _ => rfl,
      leaves_of_run hf edgeLinWrite (fun _ _ => rfl) fun _ _ => rfl,
      leaves_of_run hf edgeLinTableWrite (fun _ _ => rfl) fun _ _ => rfl,
      leaves_of_run hf edgeSerWrite (fun _ _ => rfl) fun _ _ => rfl,
      leaves_of_run hf edgeTableLoad (fun _ _ => rfl) edgeTableLoad_onlyIn,
      leaves_of_run hf edgeWakeWrite (fun _ _ => rfl) fun _ _ => rfl,
      leaves_of_run hf edgeStatusRead (fun _ _ => rfl) edgeStatusRead_onlyIn, List.forall_mem_nil _⟩
  · have hf : CmdFrame cmdEgr := ⟨frame_cmdEgr, fun _ _ _ => rfl⟩
    simp only [List.forall_mem_cons]
    exact ⟨leaves_of_run hf gclConfigWrite (fun _ _ => rfl) fun _ _ => rfl,
      leaves_of_run hf gclListWrite (fun _ _ => rfl) gclListWrite_onlyIn,
      leaves_of_run hf gclPatternWrite (fun _ _ => rfl) gclPatternWrite_onlyIn,
      leaves_of_run hf gclCommit (fun _ _ => rfl) gclCommit_onlyIn,
      leaves_of_run hf gclCancel (fun _ _ => rfl) gclCancel_onlyIn,
      leaves_of_run hf shaperQueueWrite (fun _ _ => rfl) fun _ _ => rfl,
      leaves_of_run hf shaperPreemptWrite (fun _ _ => rfl) fun _ _ => rfl,
      leaves_of_run hf shaperMmWrite (fun _ _ => rfl) fun _ _ => rfl,
      leaves_of_run hf shaperMmRead (fun _ _ => rfl) shaperMmRead_onlyIn, List.forall_mem_nil _⟩
  · have hf : CmdFrame cmdFree := ⟨frame_cmdFree, fun _ _ _ => rfl⟩
    simp only [List.forall_mem_cons]
    exact ⟨leaves_of_run hf coreSelftest (fun _ _ => rfl) coreSelftest_onlyIn,
      leaves_of_run hf coreDebug (fun _ _ => rfl) coreDebug_onlyIn, List.forall_mem_nil _⟩
  · rintro c hc
    rw [List.mem_singleton.1 hc]
    exact leaves_of_run ⟨frame_onKeyFree, fun _ _ _ => rfl⟩ keySession (fun _ _ => rfl) keySession_onlyIn
  · have hf : CmdFrame cmdGw := ⟨frame_cmdGw, fun _ _ _ => rfl⟩
    simp only [List.forall_mem_cons]
    exact ⟨leaves_of_run hf gwUpWrite (fun _ _ => rfl) fun _ _ => rfl,
      leaves_of_run hf gwPeriodicWrite (fun _ _ => rfl) fun _ _ => rfl,
      leaves_of_run hf gwPeriodicData (fun _ _ => rfl) gwPeriodicData_onlyIn,
      leaves_of_run hf gwStatsRead (fun _ _ => rfl) gwStatsRead_onlyIn, List.forall_mem_nil _⟩
  · have hf : CmdFrame cmdPorts := ⟨frame_cmdPorts, fun _ _ _ => rfl⟩
    simp only [List.forall_mem_cons]
    exact ⟨leaves_of_run hf portStatusRead (fun _ _ => rfl) portStatusRead_onlyIn,
      leaves_of_run hf macsecPortWrite (fun _ _ => rfl) fun _ _ => rfl,
      leaves_of_run hf macsecMkaWrite (fun _ _ => rfl) fun _ _ => rfl,
      leaves_of_run hf macsecStatusRead (fun _ _ => rfl) macsecStatusRead_onlyIn, List.forall_mem_nil _⟩
  · have hf : CmdFrame cmdPow := ⟨frame_cmdPow, fun _ _ _ => rfl⟩
    simp only [List.forall_mem_cons]
    exact ⟨leaves_of_run hf powerStatusRead (fun _ _ => rfl) powerStatusRead_onlyIn,
      leaves_of_run hf powerSeqLoad (fun _ _ => rfl) powerSeqLoad_onlyIn,
      leaves_of_run hf powerConfigWrite (fun _ _ => rfl) fun _ _ => rfl,
      leaves_of_run hf powerLoadConfig (fun _ _ => rfl) fun _ _ => rfl,
      leaves_of_run hf powerLoadSet (fun _ _ => rfl) powerLoadSet_onlyIn,
      leaves_of_run hf paceCurveLoad (fun _ _ => rfl) paceCurveLoad_onlyIn,
      leaves_of_run hf paceConfigWrite (fun _ _ => rfl) fun _ _ => rfl,
      leaves_of_run hf paceStatusRead (fun _ _ => rfl) paceStatusRead_onlyIn,
      leaves_of_run hf wakePolicyWrite (fun _ _ => rfl) fun _ _ => rfl,
      leaves_of_run hf wakeConfigWrite (fun _ _ => rfl) fun _ _ => rfl,
      leaves_of_run hf wakeStatusRead (fun _ _ => rfl) wakeStatusRead_onlyIn,
      leaves_of_run hf wakeLogRead (fun _ _ => rfl) wakeLogRead_onlyIn, List.forall_mem_nil _⟩
  · rintro c hc
    rw [List.mem_singleton.1 hc]
    exact leaves_of_run ⟨frame_cmdStk, fun _ _ _ => rfl⟩ stackStatusRead (fun _ _ => rfl) stackStatusRead_onlyIn
  · have hf : CmdFrame cmdTab := ⟨frame_cmdTab, fun _ _ _ => rfl⟩
    simp only [List.forall_mem_cons]
    exact ⟨leaves_of_run hf ruleProgramLoad (fun _ _ => rfl) ruleProgramLoad_onlyIn,
      leaves_of_run hf ruleRangeWrite (fun _ _ => rfl) fun _ _ => rfl,
      leaves_of_run hf ruleEntryWrite (fun _ _ => rfl) ruleEntryWrite_onlyIn,
      leaves_of_run hf ruleGroupWrite (fun _ _ => rfl) ruleGroupWrite_onlyIn,
      leaves_of_run hf ruleCommit (fun _ _ => rfl) ruleCommit_onlyIn,
      leaves_of_run hf ruleFragWrite (fun _ _ => rfl) fun _ _ => rfl,
      leaves_of_run hf zonePolicyWrite (fun _ _ => rfl) fun _ _ => rfl,
      leaves_of_run hf fwdEntryWrite (fun _ _ => rfl) fwdEntryWrite_onlyIn,
      leaves_of_run hf fwdCommit (fun _ _ => rfl) fwdCommit_onlyIn,
      leaves_of_run hf fwdPortWrite (fun _ _ => rfl) fun _ _ => rfl,
      leaves_of_run hf fwdLearnWrite (fun _ _ => rfl) fwdLearnWrite_onlyIn,
      leaves_of_run hf fwdLearnFlush (fun _ _ => rfl) fun _ _ => rfl, List.forall_mem_nil _⟩
  · have hf : CmdFrame cmdTim := ⟨frame_cmdTim, fun _ _ _ => rfl⟩
    simp only [List.forall_mem_cons]
    exact ⟨leaves_of_run hf timeSet (fun _ _ => rfl) timeSet_onlyIn,
      leaves_of_run hf timeAdjust (fun _ _ => rfl) timeAdjust_onlyIn,
      leaves_of_run hf timeConfigWrite (fun _ _ => rfl) timeConfigWrite_onlyIn,
      leaves_of_run hf timePpsRead (fun _ _ => rfl) timePpsRead_onlyIn, List.forall_mem_nil _⟩
  · rintro c hc
    rw [List.mem_singleton.1 hc]
    exact leaves_of_run ⟨frame_cmdZon, fun _ _ _ => rfl⟩ zoneMapWrite (fun _ _ => rfl) fun _ _ => rfl
  · rintro c hc
    rw [List.mem_singleton.1 hc]
    exact leaves_of_run ⟨frame_cmdEgrPorts, fun _ _ _ => rfl⟩ portPlcaWrite (fun _ _ => rfl) portPlcaWrite_onlyIn
  · have hf : CmdFrame cmdFab := ⟨frame_cmdFab, fun _ _ _ => rfl⟩
    simp only [List.forall_mem_cons]
    exact ⟨leaves_of_run hf zoneStatsRead (fun _ _ => rfl) zoneStatsRead_onlyIn,
      leaves_of_run hf meterStatsRead (fun _ _ => rfl) meterStatsRead_onlyIn,
      leaves_of_run hf meterUnblock (fun _ _ => rfl) fun _ _ => rfl,
      leaves_of_run hf frerResetCmd (fun _ _ => rfl) fun _ _ => rfl,
      leaves_of_run hf qstatQueueRead (fun _ _ => rfl) qstatQueueRead_onlyIn,
      leaves_of_run hf qstatSamplerWrite (fun _ _ => rfl) qstatSamplerWrite_onlyIn,
      leaves_of_run hf qstatSamplerRead (fun _ _ => rfl) qstatSamplerRead_onlyIn,
      leaves_of_run hf pathOutputWrite (fun _ _ => rfl) pathOutputWrite_onlyIn,
      leaves_of_run hf pathMirrorWrite (fun _ _ => rfl) pathMirrorWrite_onlyIn, List.forall_mem_nil _⟩
  · rintro c hc
    rw [List.mem_singleton.1 hc]
    exact leaves_of_run ⟨frame_cmdGwZon, fun _ _ _ => rfl⟩ gwDownWrite (fun _ _ => rfl) gwDownWrite_onlyIn
  · rintro c hc
    rw [List.mem_singleton.1 hc]
    exact leaves_of_run ⟨frame_cmdPortsTab, fun _ _ _ => rfl⟩ rulePortWrite (fun _ _ => rfl) fun _ _ => rfl
  · have hf : CmdFrame cmdPortsTim := ⟨frame_cmdPortsTim, fun _ _ _ => rfl⟩
    simp only [List.forall_mem_cons]
    exact ⟨leaves_of_run hf timePortWrite (fun _ _ => rfl) timePortWrite_onlyIn,
      leaves_of_run hf timePortRead (fun _ _ => rfl) timePortRead_onlyIn, List.forall_mem_nil _⟩
  · rintro c hc
    rw [List.mem_singleton.1 hc]
    exact leaves_of_run ⟨frame_cmdFabFree, fun _ _ _ => rfl⟩ faultLinkEnable (fun _ _ => rfl) faultLinkEnable_onlyIn
  · rintro c hc
    rw [List.mem_singleton.1 hc]
    exact leaves_of_run ⟨frame_cmdFabGw, fun _ _ _ => rfl⟩ gwBundleWrite (fun _ _ => rfl) gwBundleWrite_onlyIn
  · have hf : CmdFrame cmdFabTab := ⟨frame_cmdFabTab, fun _ _ _ => rfl⟩
    simp only [List.forall_mem_cons]
    exact ⟨leaves_of_run hf fwdStatsRead (fun _ _ => rfl) fwdStatsRead_onlyIn,
      leaves_of_run hf frerFuncWrite (fun _ _ => rfl) fun _ _ => rfl, List.forall_mem_nil _⟩
  · have hf : CmdFrame cmdFabZon := ⟨frame_cmdFabZon, fun _ _ _ => rfl⟩
    simp only [List.forall_mem_cons]
    exact ⟨leaves_of_run hf meterWrite (fun _ _ => rfl) fun _ _ => rfl,
      leaves_of_run hf meterFilterWrite (fun _ _ => rfl) fun _ _ => rfl, List.forall_mem_nil _⟩
  · rintro c hc
    rw [List.mem_singleton.1 hc]
    exact leaves_of_run ⟨frame_cmdPowStkTim, fun _ _ _ => rfl⟩ stackDesignate (fun _ _ => rfl) stackDesignate_onlyIn
  · have hf : CmdFrame onKeyImg := ⟨frame_onKeyImg, fun _ _ _ => rfl⟩
    simp only [List.forall_mem_cons]
    exact ⟨leaves_of_run hf keyImport (fun _ _ => rfl) keyImport_onlyIn,
      leaves_of_run hf keyDerive (fun _ _ => rfl) keyDerive_onlyIn,
      leaves_of_run hf keyDelete (fun _ _ => rfl) keyDelete_onlyIn, List.forall_mem_nil _⟩
  · have hf : CmdFrame cmdImg := ⟨frame_cmdImg, fun _ _ _ => rfl⟩
    simp only [List.forall_mem_cons]
    exact ⟨leaves_of_run hf imgBegin (fun _ _ => rfl) imgBegin_onlyIn,
      leaves_of_run hf imgWrite (fun _ _ => rfl) imgWrite_onlyIn,
      leaves_of_run hf imgPrepare (fun _ _ => rfl) imgPrepare_onlyIn,
      leaves_of_run hf imgRollback (fun _ _ => rfl) imgRollback_onlyIn, List.forall_mem_nil _⟩
  · have hf : CmdFrame onKeyFreeImg := ⟨frame_onKeyFreeImg, fun _ _ _ => rfl⟩
    simp only [List.forall_mem_cons]
    exact ⟨leaves_of_run hf keyProvision (fun _ _ => rfl) keyProvision_onlyIn,
      leaves_of_run hf keyGenerate (fun _ _ => rfl) keyGenerate_onlyIn, List.forall_mem_nil _⟩

end Sys2Proof.Machine
end

section
/-! PROOFS. The commands that a set lock bit turns away (13 R366; 15 R443). -/

namespace Sys2Proof.Machine

/-- A row of the lists of locked commands: the opcode, the command and its description, LOCKED being decided by `lk`. -/
structure LockedBy (lk : Req → State → Bool) (c : Nat × (Req → Instr) × CmdSpec) : Prop where
  opcode : c.2.2.opcode = c.1
  meaning : ∀ r s, exec (c.2.1 r) s = .next (mailbox c.2.2 r s)
  locked : c.2.2.locked = lk

theorem turned_of_lockedBy {lk : Req → State → Bool} {cond : Req → State → Prop} {c : Nat × (Req → Instr) × CmdSpec} (h : LockedBy lk c)
    (hlk : ∀ r s, cond r s → lk r (s.taken r.path) = true) : turned c.1 c.2.1 c.2.2 cond .locked := by
  obtain ⟨hop, hx, hl⟩ := h
  exact turned_locked hop hx fun r s hc => by rw [hl]; exact hlk r s hc

/-- A depot session is there whether or not the request has been taken from its path. -/
theorem State.taken_inSession (s : State) (p : Path) (r : Req) : (s.taken p).inSession r = s.inSession r := rfl

/-- Settles O54: each command of a list is LOCKED by the bit that the list names. -/
theorem lockedCommandsAnswerLocked : Obligations.LockedCommandsAnswerLocked := by
  unfold Obligations.LockedCommandsAnswerLocked
  refine ⟨fun c hc => turned_of_lockedBy (lk := policyLocked) ?policy fun _ _ h => h,
    fun c hc => turned_of_lockedBy (lk := keyLocked) ?key fun _ _ h => h,
    fun c hc => turned_of_lockedBy (lk := keyCmdLocked) ?depot fun r s h => ?session,
    fun c hc => turned_of_lockedBy (lk := fun _ s => s.locks.sealLock) ?sealed fun _ _ h => h,
    fun c hc => turned_of_lockedBy (lk := powerLocked) ?power fun _ _ h => h⟩
  case session =>
    obtain ⟨hk, hs⟩ := h
    simp [keyCmdLocked, State.taken_inSession, hk, hs]
  all_goals
    revert c hc
    simp only [List.forall_mem_cons]
    and_intros
  all_goals first | exact ⟨rfl, fun _ _ => rfl, rfl⟩ | exact List.forall_mem_nil _

end Sys2Proof.Machine
end

section
/-! PROOFS. What the events of each area leave (95). -/

namespace Sys2Proof.Machine

/-! ### Quiet events change no slice -/

@[simp ↓] theorem State.dropSpare_wide (s : State) (d : Fab) (c : Nat) : (s.dropSpare d c).wide = s.wide := by simp [State.dropSpare]

@[simp ↓] theorem State.addSpare_wide (s : State) (d : Fab) (x c : Nat) : (s.addSpare d x c).wide = s.wide := by
  simp [State.addSpare, ↓apply_ite State.wide]

@[simp ↓] theorem State.grantSpares_wide (s : State) (d : Fab) (i n : Nat) : (s.grantSpares d i n).wide = s.wide := by
  induction n generalizing s with
  | zero => rfl
  | succ n ih =>
    unfold State.grantSpares
    split
    · rename_i hg
      rw [ih, State.addSpare_wide, State.grantCell_wide' _ _ _ _ _ hg]
    · rename_i hg
      exact State.grantCell_wide' _ _ _ _ _ hg

@[simp ↓] theorem State.ackLining_wide (s : State) (e : List Word × Fab × Nat × Nat) : (s.ackLining e).wide = s.wide := by
  simp [State.ackLining]

@[simp ↓] theorem State.applyLining_wide (s : State) (r : List Word) : (s.applyLining r).wide = s.wide := by
  simp [State.applyLining, ↓apply_ite State.wide]

@[simp ↓] theorem State.oddPass_wide (s : State) (c : Fab) (pass : Nat) : (s.oddPass c pass).wide = s.wide := by
  unfold State.oddPass
  split <;> simp [↓apply_ite State.wide]

@[simp ↓] theorem State.readWord_wide (s : State) (p : Path) (idx : Nat) : (s.readWord p idx).1.wide = s.wide := by
  unfold State.readWord
  repeat' split
  all_goals rfl

/-- The pool's answer leaves every slice, whichever operation it was. -/
theorem execPoolAlloc_wide (die : Fab) (owner : Nat) (req : AllocReq) (contended : Bool) (s t : State)
    (h : execPoolAlloc die owner req contended s = .next t) : t.wide = s.wide := by
  unfold execPoolAlloc at h
  repeat' split at h
  all_goals cases h
  · rename_i hg
    simp [State.grantCell_wide' _ _ _ _ _ hg]
  · rename_i hg
    simp [State.grantCell_wide' _ _ _ _ _ hg]
  · rfl
  · rename_i hg
    simp [State.allocMsg_wide' _ _ _ _ _ _ _ hg]
  · rename_i hg
    simp [State.allocMsg_wide' _ _ _ _ _ _ _ hg]

theorem execPoolFree_wide (die : Fab) (owner pool index : Nat) (contended : Bool) (s t : State)
    (h : execPoolFree die owner pool index contended s = .next t) : t.wide = s.wide := by
  cases h
  simp only [State.emit_wide]
  repeat' split
  all_goals simp

theorem execPoolShare_wide (die : Fab) (owner pool index k : Nat) (contended : Bool) (s t : State)
    (h : execPoolShare die owner pool index k contended s = .next t) : t.wide = s.wide := by
  cases h
  split <;> simp

theorem execPoolRelease_wide (die : Fab) (owner pool index : Nat) (contended : Bool) (s t : State)
    (h : execPoolRelease die owner pool index contended s = .next t) : t.wide = s.wide := by
  cases h
  split <;> simp

theorem execFreeListBuilt_wide (die : Fab) (s t : State) (h : execFreeListBuilt die s = .next t) : t.wide = s.wide := by
  cases h
  simp

theorem execTc10SleepReqRx_wide (port : Nat) (s t : State) (h : execTc10SleepReqRx port s = .next t) : t.wide = s.wide := by
  cases h
  split <;> rfl

theorem execLiningRecordRx_wide (rec : List Word) (s t : State) (h : execLiningRecordRx rec s = .next t) : t.wide = s.wide := by
  cases h
  split <;> simp

theorem execLiningAuditTimer_wide (s t : State) (h : execLiningAuditTimer s = .next t) : t.wide = s.wide := by
  cases h
  split <;> simp

theorem execGuardSegmentEnd_wide (core : Fab) (first : Bool) (a b c : List RegWrite) (parity : Bool) (s t : State)
    (h : execGuardSegmentEnd core first a b c parity s = .next t) : t.wide = s.wide := by
  cases h
  dsimp only
  repeat' split
  all_goals simp

theorem execTripwireTimer_wide (core : Fab) (first again : Nat × Nat × Nat) (s t : State)
    (h : execTripwireTimer core first again s = .next t) : t.wide = s.wide := by
  cases h
  simp [↓apply_ite State.wide]

theorem execSramEccError_wide (core : Fab) (err : EccErr) (s t : State) (h : execSramEccError core err s = .next t) :
    t.wide = s.wide := by
  cases h
  repeat' split
  all_goals simp

theorem execHeartbeatTx_wide (core : Fab) (s t : State) (h : execHeartbeatTx core s = .next t) : t.wide = s.wide := by
  cases h
  simp [↓apply_ite State.wide]

theorem execResponseFifoPlace_wide (p : Path) (s t : State) (h : execResponseFifoPlace p s = .next t) : t.wide = s.wide := by
  cases h
  repeat' split
  all_goals simp

theorem execMbxRspPop_wide (p : Path) (s t : State) (h : execMbxRspPop p s = .next t) : t.wide = s.wide := by
  cases h
  split <;> simp

theorem execEvtRead_wide (p : Path) (reg : Nat) (size : RdSize) (s t : State) (h : execEvtRead p reg size s = .next t) :
    t.wide = s.wide := by
  cases h
  repeat' split
  all_goals simp

theorem execUpperBitsWrite_wide (p : Path) (v : Nat) (s t : State) (h : execUpperBitsWrite p v s = .next t) : t.wide = s.wide := by
  cases h
  split <;> rfl

theorem execPerstNRelease_wide (die : Fab) (s t : State) (h : execPerstNRelease die s = .next t) : t.wide = s.wide := by
  cases h
  cases die
  · dsimp only
    split <;> rfl
  · dsimp only
    split <;> rfl

theorem execPcieLinkChange_wide (die : Fab) (up : Bool) (s t : State) (h : execPcieLinkChange die up s = .next t) :
    t.wide = s.wide := by
  cases h
  cases die <;> rfl

theorem execLateWriteFail_wide (p : Path) (reason addr : Nat) (s t : State) (h : execLateWriteFail p reason addr s = .next t) :
    t.wide = s.wide := by
  cases h
  split <;> simp

theorem execFifoPointerFault_wide (f : FifoRef) (s t : State) (h : execFifoPointerFault f s = .next t) : t.wide = s.wide := by
  cases h
  cases f <;> simp [↓apply_ite State.wide]

/-! ### Events of pace, feeds and supply -/

/-- Power, the clock and the counter of free values. -/
abbrev onPower (x y : Slices) : Slices := { x with tim := y.tim, pow := y.pow, free := y.free }

theorem frame_onPower : Frame onPower := ⟨fun _ => rfl, fun _ _ _ => rfl⟩

theorem State.wide_of_onPower {s t : State} (h : s.onlyIn onPower t) :
    t.wide = { s.wide with tim := t.tim, pow := t.pow, free := t.free } :=
  congrArg (fun x : Slices => { x with tim := t.tim, pow := t.pow, free := t.free }) h

theorem State.adv_onPower (s : State) (n : Nat) : s.onlyIn onPower (s.adv n) := Eq.refl s.wide

theorem State.modPow_onPower (s : State) (f : PowerSt → PowerSt) : s.onlyIn onPower (s.modPow f) := Eq.refl s.wide

theorem State.useFree_onPower (s : State) : s.onlyIn onPower s.useFree := Eq.refl s.wide

theorem State.adv_modPow_onPower (s : State) (n : Nat) (f : PowerSt → PowerSt) : s.onlyIn onPower ((s.adv n).modPow f) := Eq.refl s.wide

theorem State.modPace_onPower (s : State) (d : Fab) (f : PaceSt → PaceSt) : s.onlyIn onPower (s.modPace d f) := Eq.refl s.wide

theorem State.modPace_useFree_onPower (s : State) (d : Fab) (f : PaceSt → PaceSt) : s.onlyIn onPower (s.modPace d f).useFree := Eq.refl s.wide

theorem State.paceShortage_onPower (s : State) (d : Fab) : s.onlyIn onPower (s.paceShortage d) := by
  unfold State.paceShortage
  dsimp only
  split
  · exact .refl frame_onPower s
  · refine .of_wide_right (.of_wide_right ?_ (State.raiseDev_wide _ _)) (State.logFault_wide _ _ _ _)
    exact .of_wide_right (s.modPace_onPower d _) (State.satRaise_wide _ _ _ _ (State.raiseDie_wide _ _ _))

theorem execPaceSample_onlyIn (die : Fab) (monitors : List Nat) (tj : Int) (dt : Nat) (s t : State)
    (h : execPaceSample die monitors tj dt s = .next t) : s.onlyIn onPower t := by
  cases h
  dsimp only
  split
  · have h2 (f : PaceSt → PaceSt) : s.onlyIn onPower ((s.adv dt).modPace die f) := s.adv_modPow_onPower dt _
    exact .ite _ (.trans frame_onPower (h2 _) (State.paceShortage_onPower _ die)) (h2 _)
  · exact .refl frame_onPower s

theorem execPaceRiseTimer_onlyIn (die : Fab) (s t : State) (h : execPaceRiseTimer die s = .next t) : s.onlyIn onPower t := by
  cases h
  exact .ite _ (s.adv_modPow_onPower _ _) (.refl frame_onPower s)

theorem execPaceFallTimer_onlyIn (die : Fab) (s t : State) (h : execPaceFallTimer die s = .next t) : s.onlyIn onPower t := by
  cases h
  split
  · exact .refl frame_onPower s
  · exact s.adv_modPow_onPower _ _

theorem execPaceShortTimer_onlyIn (die : Fab) (s t : State) (h : execPaceShortTimer die s = .next t) : s.onlyIn onPower t := by
  cases h
  split
  · exact .refl frame_onPower s
  · exact .trans frame_onPower (s.adv_onPower _) (State.paceShortage_onPower _ die)

theorem execAgeingHour_onlyIn (die : Fab) (s t : State) (h : execAgeingHour die s = .next t) : s.onlyIn onPower t := by
  cases h
  split
  case isFalse => exact .refl frame_onPower s
  refine .ite _ ?_ (.ite _ (.of_wide_right (.of_wide_right (.trans frame_onPower ?_ (State.modPace_onPower _ die _))
    (State.raiseDev_wide _ _)) (State.logFault_wide _ _ _ _)) ?_)
  all_goals
    refine .trans frame_onPower ?_ (State.modPace_useFree_onPower _ die _)
    split
    · exact s.modPace_onPower die _
    · exact s.modPace_useFree_onPower die _

theorem execPowerEstimate_onlyIn (pout : List Nat) (ampW ampE : Nat) (feeds : List Nat) (dt : Nat) (s t : State)
    (h : execPowerEstimate pout ampW ampE feeds dt s = .next t) : s.onlyIn onPower t := by
  unfold execPowerEstimate at h
  dsimp only at h
  simp only [Host.Outcome.next.injEq] at h
  rw [← h]
  generalize hp : State.modPow (s.adv dt) _ = v
  have base : s.onlyIn onPower v := hp ▸ s.adv_modPow_onPower dt _
  refine base.trans frame_onPower (.foldl frame_onPower _ (fun u f => ?_) _ v)
  exact .ite _ (u.modPow_onPower _) (.refl frame_onPower u)

theorem execFeedOvercurrentTrip_onlyIn (feed current dt : Nat) (s t : State) (h : execFeedOvercurrentTrip feed current dt s = .next t) :
    s.onlyIn onPower t := by
  cases h
  refine .ite _ (.of_wide_right ?_ (State.logFault_wide _ _ _ _)) (.refl frame_onPower s)
  exact .of_wide_right (s.adv_modPow_onPower dt _) (State.raiseDev_wide _ _)

theorem execFeedInrushEnd_onlyIn (feed current : Nat) (s t : State) (h : execFeedInrushEnd feed current s = .next t) :
    s.onlyIn onPower t := by
  cases h
  exact .ite _ (s.adv_modPow_onPower _ _) (.refl frame_onPower s)

theorem execFeedRetryExpiry_onlyIn (feed : Nat) (s t : State) (h : execFeedRetryExpiry feed s = .next t) : s.onlyIn onPower t := by
  cases h
  exact .ite _ (s.adv_modPow_onPower _ _) (.refl frame_onPower s)

theorem execFeedRetryRestore_onlyIn (feed : Nat) (s t : State) (h : execFeedRetryRestore feed s = .next t) : s.onlyIn onPower t := by
  cases h
  exact .ite _ (s.adv_modPow_onPower _ _) (.refl frame_onPower s)

theorem execFeedShedRestore_onlyIn (feed volts dt : Nat) (s t : State) (h : execFeedShedRestore feed volts dt s = .next t) :
    s.onlyIn onPower t := by
  cases h
  exact .ite _ (.trans frame_onPower (s.adv_modPow_onPower _ _) (State.modPow_onPower _ _)) (.refl frame_onPower s)

theorem execFeedAutoOn_onlyIn (s t : State) (h : execFeedAutoOn s = .next t) : s.onlyIn onPower t := by
  cases h
  split
  · exact .refl frame_onPower s
  · refine .ite _ ?_ (.refl frame_onPower s)
    exact .ite _ (.trans frame_onPower (s.adv_modPow_onPower _ _) (State.modPow_onPower _ _)) (s.adv_modPow_onPower _ _)

/-- A supply that leaves its range is noted, raised and logged. -/
theorem State.supplyAlarm_onPower (s : State) (dt : Nat) (m : SupplyMode) (volts code die detail : Nat) :
    s.onlyIn onPower ((((s.adv dt).supplyTo m volts).raiseDev .supply).logFault code die detail) :=
  .of_wide_right (.of_wide_right (s.adv_modPow_onPower dt _) (State.raiseDev_wide _ _)) (State.logFault_wide _ _ _ _)

theorem execSupplyOv_onlyIn (volts dt : Nat) (s t : State) (h : execSupplyOv volts dt s = .next t) : s.onlyIn onPower t := by
  cases h
  exact .ite _ (s.supplyAlarm_onPower _ _ _ _ _ _) (.refl frame_onPower s)

theorem execSupplyUv_onlyIn (volts dt : Nat) (s t : State) (h : execSupplyUv volts dt s = .next t) : s.onlyIn onPower t := by
  cases h
  exact .ite _ (s.supplyAlarm_onPower _ _ _ _ _ _) (.refl frame_onPower s)

theorem execSupplyCrank_onlyIn (volts dt : Nat) (s t : State) (h : execSupplyCrank volts dt s = .next t) : s.onlyIn onPower t := by
  cases h
  refine .ite _ (.trans frame_onPower (s.supplyAlarm_onPower dt .crank volts 0x12 7 2) ?_) (.refl frame_onPower s)
  refine .foldl frame_onPower _ (fun s f => ?_) _ _
  exact .ite _ (s.modPow_onPower _) (.refl frame_onPower s)

theorem execSupplyNormal_onlyIn (volts dt : Nat) (s t : State) (h : execSupplyNormal volts dt s = .next t) : s.onlyIn onPower t := by
  cases h
  exact .ite _ (s.adv_modPow_onPower _ _) (.refl frame_onPower s)

/-! ### Every event of an area -/

theorem exec_far_of_fabric (i : Instr) (s t : State) (hi : areaOf i = .fabric) (h : exec i s = .next t) : t.far = s.far := by
  cases i with
  | frameRxStart => exact execFrameRxStart_far _ _ _ _ _ _ _ s t h
  | fabricWordStore => exact execFabricWordStore_far _ _ s t h
  | frameEndStored => exact execFrameEndStored_far _ _ _ s t h
  | parseEngineTake => exact execParseEngineTake_far _ _ _ s t h
  | parseEnd => exact execParseEnd_far _ _ s t h
  | parseClass => exact execParseClass_far _ _ s t h
  | parseExtract => exact execParseExtract_far _ _ s t h
  | parseLoad => exact execParseLoad_far _ _ s t h
  | parseAnd => exact execParseAnd_far _ _ s t h
  | parseTest => exact execParseTest_far _ _ s t h
  | parseTestne => exact execParseTestne_far _ _ s t h
  | parseJump => exact execParseJump_far _ _ s t h
  | parseAdvance => exact execParseAdvance_far _ _ s t h
  | parseLenset => exact execParseLenset_far _ _ s t h
  | parseFail => exact execParseFail_far _ _ s t h
  | parseBudgetExhausted => exact execParseBudgetExhausted_far _ _ s t h
  | collectorTake => exact execCollectorTake_far _ _ s t h
  | recircPassStart => exact execRecircPassStart_far _ _ s t h
  | learnEntryWrite => exact execLearnEntryWrite_far s t h
  | fragTimeout => exact execFragTimeout_far _ _ s t h
  | seamFrameStart => exact execSeamFrameStart_far _ _ s t h
  | seamWordSend => exact execSeamWordSend_far _ _ s t h
  | seamWordRx => exact execSeamWordRx_far _ _ s t h
  | seamLinkLost => exact execSeamLinkLost_far _ _ _ s t h
  | egressSelect => exact execEgressSelect_far _ _ _ _ s t h
  | egressFrameEnd => exact execEgressFrameEnd_far _ _ s t h
  | stagingUnderrun => exact execStagingUnderrun_far _ _ s t h
  | expressPreempt => exact execExpressPreempt_far _ _ _ s t h
  | cpuPortDelivery => exact execCpuPortDelivery_far _ s t h
  | cbsRefill => exact execCbsRefill_far _ s t h
  | gclEntryStart => exact execGclEntryStart_far _ s t h
  | gclChangeTime => exact execGclChangeTime_far _ s t h
  | gclCopyComplete => exact execGclCopyComplete_far _ s t h
  | mmVerifyTimer => exact execMmVerifyTimer_far _ s t h
  | mmVerifyRx => exact execMmVerifyRx_far _ _ s t h
  | samplerPeriod => exact execSamplerPeriod_far _ _ s t h
  | activationArmDeadline => exact execActivationArmDeadline_far _ s t h
  | activationTimeReached => exact execActivationTimeReached_far s t h
  | ruleBankRetired => exact execRuleBankRetired_far s t h
  | fwdSweepEnd => exact execFwdSweepEnd_far s t h
  | frerResetTimeout => exact execFrerResetTimeout_far _ _ s t h
  | restoreHoldEnd => exact execRestoreHoldEnd_far _ s t h
  | linkDownDeclared => exact execLinkDownDeclared_far _ s t h
  | pcsLock => exact execPcsLock_far _ _ s t h
  | trainTimeout => exact execTrainTimeout_far _ s t h
  | usxgmiiAnWord => exact execUsxgmiiAnWord_far _ _ _ s t h
  | tc10SleepAckRx => exact execTc10SleepAckRx_far _ s t h
  | sleepWaitTimeout => exact execSleepWaitTimeout_far _ s t h
  | resumeDeadline => exact execResumeDeadline_far _ s t h
  | cableTestDone => exact execCableTestDone_far _ _ _ s t h
  | lpiIdleTimer => exact execLpiIdleTimer_far _ s t h
  | lpiWakeComplete => exact execLpiWakeComplete_far _ _ s t h
  | beaconLossTimeout => exact execBeaconLossTimeout_far _ s t h
  | beaconRx => exact execBeaconRx_far _ s t h
  | plcaTxOpportunity => exact execPlcaTxOpportunity_far _ _ _ _ s t h
  | sqiUpdate => exact execSqiUpdate_far _ _ _ _ _ s t h
  | mkaSakInstall => exact execMkaSakInstall_far _ _ s t h
  | freqAdjApply => exact execFreqAdjApply_far s t h
  | timeStepApply => exact execTimeStepApply_far s t h
  | slewEnd => exact execSlewEnd_far s t h
  | ppsEdge => exact execPpsEdge_far _ s t h
  | ppsMissing => exact execPpsMissing_far s t h
  | holdoverMaxExpiry => exact execHoldoverMaxExpiry_far s t h
  | syncRx => exact execSyncRx_far _ s t h
  | syncTimeout => exact execSyncTimeout_far s t h
  | syncTx => exact execSyncTx_far _ _ s t h
  | followUpTx => exact execFollowUpTx_far _ _ s t h
  | pdelayReqTx => exact execPdelayReqTx_far _ _ s t h
  | pdelayRx => exact execPdelayRx_far _ s t h
  | announceTx => exact execAnnounceTx_far _ _ s t h
  | ppsOutPulse => exact execPpsOutPulse_far s t h
  | wakePulseEnd => exact execWakePulseEnd_far _ s t h
  | plcaBeaconTx => exact execPlcaBeaconTx_far _ s t h
  | mkaHelloTime => exact execMkaHelloTime_far _ _ s t h
  | _ => cases hi

theorem exec_near_of_legacy (i : Instr) (s t : State) (hi : areaOf i = .legacy) (h : exec i s = .next t) : t.near = s.near := by
  cases i with
  | canFrameRx => exact execCanFrameRx_near _ _ _ _ _ s t h
  | canArbWin => exact execCanArbWin_near _ _ s t h
  | canTxDone => exact execCanTxDone_near _ _ _ s t h
  | canTxExpired => exact execCanTxExpired_near _ s t h
  | canBusError => exact execCanBusError_near _ _ _ _ s t h
  | canBusOffRecovered => exact execCanBusOffRecovered_near _ _ s t h
  | linSlotStart => exact execLinSlotStart_near _ s t h
  | linHeaderRx => exact execLinHeaderRx_near _ _ _ _ s t h
  | linResponseRx => exact execLinResponseRx_near _ _ _ _ _ s t h
  | linSlotEnd => exact execLinSlotEnd_near _ s t h
  | linGoToSleep => exact execLinGoToSleep_near _ s t h
  | linWakePulse => exact execLinWakePulse_near _ s t h
  | linScheduleRestart => exact execLinScheduleRestart_near _ s t h
  | serCharRx => exact execSerCharRx_near _ _ _ _ _ _ s t h
  | serGapTimeout => exact execSerGapTimeout_near _ _ _ s t h
  | serTxQueue => exact execSerTxQueue_near _ _ _ _ s t h
  | serLineIdle => exact execSerLineIdle_near _ _ s t h
  | serDeLeadEnd => exact execSerDeLeadEnd_near _ _ s t h
  | serCharSent => exact execSerCharSent_near _ _ _ s t h
  | serDeLagEnd => exact execSerDeLagEnd_near _ _ s t h
  | serTxExpired => exact execSerTxExpired_near _ s t h
  | timeMsgInstant => exact execTimeMsgInstant_near _ s t h
  | gwUplinkMatch => exact execGwUplinkMatch_near _ s t h
  | bundleMaxWait => exact execBundleMaxWait_near _ s t h
  | gwFrameDecode => exact execGwFrameDecode_near s t h
  | periodicSlotInstant => exact execPeriodicSlotInstant_near _ s t h
  | periodicStale => exact execPeriodicStale_near _ s t h
  | _ => cases hi

theorem exec_wide_of_quiet (i : Instr) (s t : State) (hi : areaOf i = .quiet) (h : exec i s = .next t) : t.wide = s.wide := by
  cases i with
  | poolAlloc => exact execPoolAlloc_wide _ _ _ _ s t h
  | poolFree => exact execPoolFree_wide _ _ _ _ _ s t h
  | poolShare => exact execPoolShare_wide _ _ _ _ _ _ s t h
  | poolRelease => exact execPoolRelease_wide _ _ _ _ _ s t h
  | freeListBuilt => exact execFreeListBuilt_wide _ s t h
  | tc10SleepReqRx => exact execTc10SleepReqRx_wide _ s t h
  | guardSegmentEnd => exact execGuardSegmentEnd_wide _ _ _ _ _ _ s t h
  | tripwireTimer => exact execTripwireTimer_wide _ _ _ s t h
  | sramEccError => exact execSramEccError_wide _ _ s t h
  | heartbeatTx => exact execHeartbeatTx_wide _ s t h
  | liningRecordRx => exact execLiningRecordRx_wide _ s t h
  | liningAuditTimer => exact execLiningAuditTimer_wide s t h
  | responseFifoPlace => exact execResponseFifoPlace_wide _ s t h
  | mbxRspPop => exact execMbxRspPop_wide _ s t h
  | evtRead => exact execEvtRead_wide _ _ _ s t h
  | upperBitsWrite => exact execUpperBitsWrite_wide _ _ s t h
  | perstNRelease => exact execPerstNRelease_wide _ s t h
  | lateWriteFail => exact execLateWriteFail_wide _ _ _ s t h
  | fifoPointerFault => exact execFifoPointerFault_wide _ s t h
  | pcieLinkChange => exact execPcieLinkChange_wide _ _ s t h
  | _ => cases hi

theorem exec_onlyIn_of_power (i : Instr) (s t : State) (hi : areaOf i = .power) (h : exec i s = .next t) : s.onlyIn onPower t := by
  cases i with
  | paceSample => exact execPaceSample_onlyIn _ _ _ _ s t h
  | paceRiseTimer => exact execPaceRiseTimer_onlyIn _ s t h
  | paceFallTimer => exact execPaceFallTimer_onlyIn _ s t h
  | paceShortTimer => exact execPaceShortTimer_onlyIn _ s t h
  | ageingHour => exact execAgeingHour_onlyIn _ s t h
  | powerEstimate => exact execPowerEstimate_onlyIn _ _ _ _ _ s t h
  | feedOvercurrentTrip => exact execFeedOvercurrentTrip_onlyIn _ _ _ s t h
  | feedInrushEnd => exact execFeedInrushEnd_onlyIn _ _ s t h
  | feedRetryExpiry => exact execFeedRetryExpiry_onlyIn _ s t h
  | feedRetryRestore => exact execFeedRetryRestore_onlyIn _ s t h
  | feedShedRestore => exact execFeedShedRestore_onlyIn _ _ _ s t h
  | feedAutoOn => exact execFeedAutoOn_onlyIn s t h
  | supplyOv => exact execSupplyOv_onlyIn _ _ s t h
  | supplyUv => exact execSupplyUv_onlyIn _ _ s t h
  | supplyCrank => exact execSupplyCrank_onlyIn _ _ s t h
  | supplyNormal => exact execSupplyNormal_onlyIn _ _ s t h
  | _ => cases hi

/-- No event of the frame path or of the legacy channels is one of the few that touch a lock field. -/
theorem touchesFixed_of_area (i : Instr) (hi : areaOf i = .fabric ∨ areaOf i = .legacy) : touchesFixed i = false := by
  cases i with
  | d0PostedWriteApply | policyLockSet | sealLockSet | keyLockSet | powerLimitLockSet | supplyRestored | resetNInput | blobsHandled | locksApply
  | faultReset | keyVerifierWrite | aoSupplyLoss => rcases hi with hi | hi <;> cases hi
  | _ => rfl

/-- Settles O53: by the area of the event. -/
theorem eventsLeaveTheOtherAreas : Obligations.EventsLeaveTheOtherAreas := by
  unfold Obligations.EventsLeaveTheOtherAreas
  intro i s t h
  cases ha : areaOf i with
  | fabric =>
    have hl := State.locks_of_fixed (exec_fixed i s t (touchesFixed_of_area i (.inl ha)) h)
    have hf := exec_far_of_fabric i s t ha h
    simp only [State.far, Prod.mk.injEq] at hf
    exact ⟨hl, hf⟩
  | legacy =>
    have hl := State.locks_of_fixed (exec_fixed i s t (touchesFixed_of_area i (.inr ha)) h)
    have hn := exec_near_of_legacy i s t ha h
    simp only [State.near, Prod.mk.injEq] at hn
    exact ⟨hl, hn⟩
  | power => exact State.wide_of_onPower (exec_onlyIn_of_power i s t ha h)
  | quiet => exact exec_wide_of_quiet i s t ha h
  | other => trivial

end Sys2Proof.Machine
end

section
/-! PROOFS. Frame path commands: outputs and mirrors. -/

namespace Sys2Proof.Machine

theorem Tbl.get_upd {α : Type} [DecidableEq α] (d : Nat → α) (t : Tbl α) (k j : Nat) (f : α → α) :
    Tbl.get d (Tbl.upd d t k f) j = if j = k then f (Tbl.get d t j) else Tbl.get d t j := by
  by_cases h : j = k
  · simp [h]
  · rw [if_neg h, Tbl.get_upd_ne _ _ _ h]

/-- Settles O1: each write puts its fields into the record named, each read answers from it. -/
theorem pathCommandsSetAndReadOutputsAndMirrors : Obligations.PathCommandsSetAndReadOutputsAndMirrors := by
  unfold Obligations.PathCommandsSetAndReadOutputsAndMirrors
  refine ⟨?_, ?_, ?_, ?_⟩
  · refine does_run rfl (fun _ _ => rfl) fun r s _ => ⟨_, _, rfl, by simp, fun t hw _ => ⟨rfl, ?_⟩⟩
    simp +contextual [State.fab_of_wide hw]
  · exact reads_intro rfl (fun _ _ => rfl) fun _ _ => rfl
  · refine does_run rfl (fun _ _ => rfl) fun r s hc => ⟨_, _, if_neg (by simp [hc]), by simp, fun t hw _ => ⟨rfl, ?_⟩⟩
    simp [State.fab_of_wide hw]
  · exact reads_intro rfl (fun _ _ => rfl) fun _ _ => rfl

end Sys2Proof.Machine
end

section
/-! PROOFS. Pool commands. -/

namespace Sys2Proof.Machine

theorem State.poolStatsClear_lines (s : State) (d : Fab) (k i : Nat) : (s.poolStatsClear d k i).lines = s.lines := by
  unfold State.poolStatsClear
  split
  · simp
  · split <;> simp

theorem State.limits_of_deep {s t : State} (h : t.deep = s.deep) (d : Fab) : (t.pool d).limits = (s.pool d).limits := by
  change (t.pool d).rest.limits = (s.pool d).rest.limits
  rw [State.poolRest_of_deep h]

theorem State.levels_of_deep {s t : State} (h : t.deep = s.deep) (d : Fab) : (t.pool d).levels = (s.pool d).levels := by
  change (t.pool d).rest.levels = (s.pool d).rest.levels
  rw [State.poolRest_of_deep h]

/-- Settles O2: the pools live outside the slices, and their limits and levels are what the answer leaves of them. -/
theorem poolCommandsSetLimitsAndReadCounters : Obligations.PoolCommandsSetLimitsAndReadCounters := by
  unfold Obligations.PoolCommandsSetLimitsAndReadCounters
  refine ⟨?_, ?_, ?_, ?_, ?_, ?_⟩
  · refine does_run rfl (fun _ _ => rfl) fun r s _ => ⟨_, _, rfl, by simp, fun t _ hd => ⟨rfl, fun o => ?_⟩⟩
    rw [State.limits_of_deep hd]
    simp [Tbl.get_put]
  · refine does_run rfl (fun _ _ => rfl) fun r s _ => ⟨_, _, rfl, by simp, fun t _ hd => ⟨rfl, ?_⟩⟩
    rw [State.levels_of_deep hd]
    simp [Tbl.get_puts]
  · exact reads_intro rfl (fun _ _ => rfl) fun _ _ => rfl
  · refine does_run rfl (fun _ _ => rfl) fun r s _ => ⟨_, _, rfl, ?_, fun t hw _ => ⟨rfl, ?_⟩⟩
    · split <;> simp [State.poolStatsClear_lines]
    · split at hw <;> simpa [State.poolStatsClear_wide] using hw
  · refine does_run rfl (fun _ _ => rfl) fun r s _ => ⟨_, _, rfl, ?_, fun t hw _ => ⟨rfl, ?_⟩⟩
    · split <;> simp
    · split at hw <;> simpa using hw
  · exact reads_intro rfl (fun _ _ => rfl) fun _ _ => rfl

end Sys2Proof.Machine
end

section
/-! PROOFS. Rule table commands. -/

namespace Sys2Proof.Machine

theorem State.ruleStatsClear_lines (s : State) (d : Fab) (k i : Nat) : (s.ruleStatsClear d k i).lines = s.lines := by
  unfold State.ruleStatsClear
  split <;> simp

@[simp] theorem TabSt.bank_setBank (t : TabSt) (b : Nat) (x : Tbl GroupEnt) : (t.setBank b x).bank b = x := by
  unfold TabSt.setBank TabSt.bank
  split <;> simp [*]

/-- The two banks alternate: what is written to the bank behind `b` leaves the bank of `b`. -/
@[simp] theorem TabSt.bank_setBank_succ (t : TabSt) (b : Nat) (x : Tbl GroupEnt) : (t.setBank (b + 1) x).bank b = t.bank b := by
  unfold TabSt.setBank TabSt.bank
  rcases Nat.mod_two_eq_zero_or_one b with h | h <;> simp [h, Nat.add_mod]

/-- Settles O3: writes change one record of the tables, reads answer from it. -/
theorem ruleCommandsSetAndReturnTheFields : Obligations.RuleCommandsSetAndReturnTheFields := by
  unfold Obligations.RuleCommandsSetAndReturnTheFields
  refine ⟨⟨?_, ?_, ?_, ?_, ?_, ?_, ?_⟩, ?_, ?_, ?_, ?_, ?_, ?_⟩
  · refine does_run rfl (fun _ _ => rfl) fun r s _ => ⟨_, _, rfl, by simp, fun t hw _ => ⟨rfl, ?_⟩⟩
    simp [State.tab_of_wide hw]
  · refine does_run rfl (fun _ _ => rfl) fun r s hc => ⟨_, _, if_neg ?_, by simp, fun t hw _ => ⟨rfl, fun i hi => ?_⟩⟩
    · simp; grind
    · have hi' : i < r.words.length - 1 := by simpa using hi
      simp [State.tab_of_wide hw, Tbl.get_puts, hi']
  · refine does_run rfl (fun _ _ => rfl) fun r s _ => ⟨_, _, rfl, by simp, fun t hw _ => ⟨rfl, ?_⟩⟩
    simp [State.tab_of_wide hw]
  · refine does_run rfl (fun _ _ => rfl) fun r s hc => ⟨_, _, if_neg ?_, by simp, fun t hw _ => ⟨rfl, fun i => ?_⟩⟩
    · exact fun h => h.2 (hc h.1)
    · simp [State.tab_of_wide hw, Tbl.get_put]
  · refine does_run rfl (fun _ _ => rfl) fun r s hc => ⟨_, _, if_neg ?_, by simp, fun t hw _ => ⟨rfl, ?_⟩⟩
    · dsimp only; omega
    · simp [State.tab_of_wide hw, pairIdx]
  · refine starts_intro rfl (fun _ _ => rfl) fun r s hc => ?_
    have hrun : ruleCommit.run r (s.taken r.path) = { st := (s.taken r.path).startAct .rule r.path [], later := true } :=
      if_neg (not_not.mpr hc)
    rw [hrun]
    exact ⟨rfl, rfl, fun t _ hw _ => State.tab_of_wide hw⟩
  · refine does_run rfl (fun _ _ => rfl) fun r s _ => ⟨_, _, rfl, by simp, fun t hw _ => ⟨rfl, ?_⟩⟩
    simp [State.tab_of_wide hw]
  · exact reads_intro rfl (fun _ _ => rfl) fun _ _ => rfl
  · exact reads_intro rfl (fun _ _ => rfl) fun _ _ => rfl
  · refine does_run rfl (fun _ _ => rfl) fun r s _ => ⟨_, _, rfl, ?_, fun t hw _ => ⟨rfl, fun hb => ?_, fun hb hk => ?_⟩⟩
    · split <;> simp [State.ruleStatsClear_lines]
    · simpa [hb] using hw
    · rw [if_pos hb, hk] at hw
      rw [State.fab_of_wide hw]
      simp [State.ruleStatsClear]
  · exact reads_intro rfl (fun _ _ => rfl) fun _ _ => rfl
  · exact reads_intro rfl (fun _ _ => rfl) fun _ _ => rfl
  · exact reads_intro rfl (fun _ _ => rfl) fun _ _ => rfl

end Sys2Proof.Machine
end

section
/-! PROOFS. Forwarding and FRER commands. -/

namespace Sys2Proof.Machine

theorem TabSt.fwdEnt_putFwd (t : TabSt) (i : Nat) (es : List FwdEnt) (j : Nat) :
    (t.putFwd i es).fwdEnt j = if h : i ≤ j ∧ j - i < es.length then es[j - i]'h.2 else t.fwdEnt j := Tbl.get_puts _ _ _ _ _

/-- An entry of a group that is put back changed. -/
theorem TabSt.fwdEnt_putFwd_map_fwdGroup (t : TabSt) (i n : Nat) (f : FwdEnt → FwdEnt) (j : Nat) :
    (t.putFwd i ((t.fwdGroup i n).map f)).fwdEnt j = if i ≤ j ∧ j - i < n then f (t.fwdEnt j) else t.fwdEnt j := by
  rw [TabSt.fwdEnt_putFwd]
  by_cases h : i ≤ j ∧ j - i < n
  · have hj : i + (j - i) = j := by omega
    simp [TabSt.fwdGroup, Tbl.length_gets, Tbl.getElem_gets, h, TabSt.fwdEnt, hj]
  · simp [TabSt.fwdGroup, Tbl.length_gets, h]

/-- A group with VALID is put in place, live or staged. -/
theorem TabSt.fwdEnt_writeGroup (t : TabSt) (i : Nat) (live : Bool) (es : List FwdEnt) (hv : (es.headD {}).valid = true) (j : Nat) :
    (t.writeGroup i live es).fwdEnt j =
      if h : i ≤ j ∧ j - i < es.length then
        (es[j - i]'h.2).setHead true (if live then 0 else 1) (if live then 0 else (t.fgen + 1) % 2)
      else t.fwdEnt j := by
  unfold TabSt.writeGroup
  rw [if_pos hv, TabSt.fwdEnt_putFwd]
  simp

theorem State.startAct_of_wide {s t : State} {p : Path} {k : ActKind} {rows : List Nat}
    (h : t.wide = ((s.taken p).startAct k p rows).wide) :
    t.tab = { s.tab with act := some { kind := k, t := s.nowQ + 200000, path := p, rows := rows } } := State.tab_of_wide h

/-- Settles O4: the entries of the group named change and no other; the commit arms an activation. -/
theorem forwardingEntriesAreWrittenWithdrawnAndFreed : Obligations.ForwardingEntriesAreWrittenWithdrawnAndFreed := by
  unfold Obligations.ForwardingEntriesAreWrittenWithdrawnAndFreed
  refine ⟨?_, ?_, ?_, ?_⟩
  · refine does_run rfl (fun _ _ => rfl) fun r s ⟨hm, hlen, hv, hok⟩ =>
      ⟨_, _, (if_pos hm).trans (if_neg (not_or.mpr ⟨not_not.mpr hlen, ne_true_of_eq_false hok⟩)), by simp, fun t hw _ => ⟨rfl, fun j => ?_⟩⟩
    rw [State.tab_of_wide hw]
    refine (TabSt.fwdEnt_writeGroup _ _ _ _ hv j).trans ?_
    simp only [beq_iff_eq]
    rfl
  · refine does_run rfl (fun _ _ => rfl) fun r s ⟨hm, hlen, hok⟩ =>
      ⟨_, _, (if_neg (by omega)).trans ((if_neg (by simp [hlen, hm, hok])).trans (if_pos hm)), by simp, fun t hw _ => ⟨rfl, fun j => ?_⟩⟩
    rw [State.tab_of_wide hw]
    exact TabSt.fwdEnt_putFwd_map_fwdGroup _ _ _ _ j
  · refine does_run rfl (fun _ _ => rfl) fun r s ⟨hm, hlen, hok⟩ =>
      ⟨_, _, (if_neg (by omega)).trans ((if_neg (by simp [hlen, hm, hok])).trans (if_neg (by omega))), by simp,
        fun t hw _ => ⟨rfl, fun j => ?_⟩⟩
    rw [State.tab_of_wide hw]
    exact TabSt.fwdEnt_putFwd_map_fwdGroup _ _ _ _ j
  · refine starts_intro rfl (fun _ _ => rfl) fun r s hc => ?_
    have hrun : fwdCommit.run r (s.taken r.path) = { st := (s.taken r.path).startAct .fwd r.path [], later := true } :=
      if_neg (not_not.mpr hc)
    rw [hrun]
    exact ⟨rfl, rfl, fun t _ hw _ => State.startAct_of_wide hw⟩

theorem State.fwdStatsClear_lines (s : State) (d : Fab) (k i : Nat) : (s.fwdStatsClear d k i).lines = s.lines := by
  unfold State.fwdStatsClear
  split <;> simp

@[simp] theorem State.frerReset_lines (s : State) (fn : Nat) : (s.frerReset fn).lines = s.lines := by simp [State.frerReset]

/-- The reset of a function acts on both fabric dies. -/
theorem State.fab_frerReset (s : State) (fn : Nat) (d : Fab) :
    (s.frerReset fn).fab d = { s.fab d with
      frer := Tbl.upd FrerDyn.dflt (s.fab d).frer fn fun f => { f with takeAny := true, h := 0, genSeq := 0 } } := by
  simp [State.frerReset]

/-- Settles O5: one port, the region, the learned entries or one function change; the rest of the tables stays. -/
theorem forwardingCommandsSetAndReturnTheFields : Obligations.ForwardingCommandsSetAndReturnTheFields := by
  unfold Obligations.ForwardingCommandsSetAndReturnTheFields
  refine ⟨⟨?_, ?_, ?_, ?_, ?_⟩, ?_, ?_, ?_, ?_, ?_⟩
  · refine does_run rfl (fun _ _ => rfl) fun r s _ => ⟨_, _, rfl, by simp, fun t hw _ => ⟨rfl, fun p => ?_⟩⟩
    by_cases hp : p = r.fld 1 35 31 <;> simp [State.tab_of_wide hw, Tbl.get_upd, hp]
  · refine does_run rfl (fun _ _ => rfl) fun r s hc => ⟨_, _, if_neg ?_, by simp, fun t hw _ => ⟨rfl, State.tab_of_wide hw⟩⟩
    simp only [List.any_eq_true, not_exists, not_and]
    intro e he hb
    obtain ⟨hv, hb⟩ := Bool.and_eq_true_iff.mp hb
    rw [hc e he hv] at hb
    split at hb <;> simp_all
  · exact does_run rfl (fun _ _ => rfl) fun r s _ => ⟨_, _, rfl, by simp, fun t hw _ => ⟨rfl, State.tab_of_wide hw⟩⟩
  · refine does_run rfl (fun _ _ => rfl) fun r s _ => ⟨_, _, rfl, by simp, fun t hw _ => ⟨rfl, fun fn => ?_, fun d => ?_⟩⟩
    · rw [State.tab_of_wide hw]
      exact Tbl.get_put _ _ _ _ _
    · rw [State.fab_of_wide hw, State.fab_frerReset]
      simp
  · refine does_run rfl (fun _ _ => rfl) fun r s _ => ⟨_, _, rfl, by simp, fun t hw _ => ⟨rfl, (State.tab_of_wide hw :), fun d fn => ?_⟩⟩
    rw [State.fab_of_wide hw, State.fab_frerReset, State.taken_fab]
    dsimp only
    rw [Tbl.get_upd]
  · exact reads_intro rfl (fun _ _ => rfl) fun _ _ => rfl
  · exact reads_intro rfl (fun _ _ => rfl) fun _ _ => rfl
  · exact reads_intro rfl (fun _ _ => rfl) fun _ _ => rfl
  · refine does_run rfl (fun _ _ => rfl) fun r s _ => ⟨_, _, rfl, ?_, fun t hw _ => ⟨rfl, fun hb => ?_, fun hb hk d => ?_⟩⟩
    · split <;> simp [State.fwdStatsClear_lines]
    · simpa [hb] using hw
    · rw [if_pos hb, hk] at hw
      rw [State.fab_of_wide hw]
      simp [State.fwdStatsClear]
  · exact reads_intro rfl (fun _ _ => rfl) fun _ _ => rfl

end Sys2Proof.Machine
end

section
/-! PROOFS. Zone and meter commands. -/

namespace Sys2Proof.Machine

theorem State.meterDyn_of_wide {s t : State} (h : t.wide = s.wide) (d : Fab) (i : Nat) : t.meterDyn d i = s.meterDyn d i := by
  unfold State.meterDyn
  rw [State.fab_of_wide h]

theorem State.filterDyn_of_wide {s t : State} (h : t.wide = s.wide) (d : Fab) (i : Nat) : t.filterDyn d i = s.filterDyn d i := by
  unfold State.filterDyn
  rw [State.fab_of_wide h]

/-- Meters and filters are on both fabric dies, and both change alike. -/
@[simp] theorem State.zd_modZd_both (s : State) (d : Fab) (f : ZoneDyn → ZoneDyn) :
    (((s.modZd .west f).modZd .east f).fab d).zon = f (s.fab d).zon := by
  cases d <;> rfl

@[simp] theorem State.zd_modZd (s : State) (d : Fab) (f : ZoneDyn → ZoneDyn) : ((s.modZd d f).fab d).zon = f (s.fab d).zon := by
  cases d <;> rfl

@[simp] theorem State.modZd_lines (s : State) (d : Fab) (f : ZoneDyn → ZoneDyn) : (s.modZd d f).lines = s.lines := by
  simp [State.modZd]

@[simp] theorem State.fab_modZon (s : State) (d : Fab) (f : ZoneSt → ZoneSt) : (s.modZon f).fab d = s.fab d := by
  cases d <;> rfl

/-- Settles O6: a zone, a meter or a filter changes on both fabric dies, and nothing beside it. -/
theorem zoneAndMeterCommandsSetAndReturnTheFields : Obligations.ZoneAndMeterCommandsSetAndReturnTheFields := by
  unfold Obligations.ZoneAndMeterCommandsSetAndReturnTheFields
  refine ⟨⟨?_, ?_, ?_, ?_, ?_⟩, ?_, ?_, ?_, ?_, ?_, ?_, ?_⟩
  · refine does_run rfl (fun _ _ => rfl) fun r s _ => ⟨_, _, rfl, by simp, fun t hw _ => ⟨rfl, ?_⟩⟩
    rw [State.zon_of_wide hw]
    cases hb : r.bit 1 35 <;> simp [Tbl.get_put]
  · refine starts_intro rfl (fun _ _ => rfl) fun r s _ => ⟨rfl, rfl, fun t _ hw _ => ?_⟩
    exact ⟨(State.zon_of_wide hw :), State.tab_of_wide hw⟩
  · refine does_run rfl (fun _ _ => rfl) fun r s _ => ⟨_, _, rfl, by simp, fun t hw _ => ⟨rfl, fun i => ?_, fun d => ?_⟩⟩
    · rw [State.zon_of_wide hw]
      exact Tbl.get_put _ _ _ _ _
    · rw [State.meterDyn_of_wide hw]
      simp [State.meterDyn, ZoneDyn.modMeter, MeterDyn.filled]
  · refine does_run rfl (fun _ _ => rfl) fun r s _ => ⟨_, _, rfl, by simp, fun t hw _ => ⟨rfl, fun i => ?_, fun d => ?_⟩⟩
    · rw [State.zon_of_wide hw]
      exact Tbl.get_put _ _ _ _ _
    · rw [State.filterDyn_of_wide hw]
      simp [State.filterDyn, ZoneDyn.modFilter]
  · refine does_run rfl (fun _ _ => rfl) fun r s _ => ⟨_, _, rfl, by simp, fun t hw _ => ⟨rfl, (State.zon_of_wide hw :), fun d =>
      ⟨fun hb => ?_, fun hb => ?_⟩⟩⟩
    all_goals
      simp only [State.filterDyn_of_wide hw, State.meterDyn_of_wide hw]
      simp [State.filterDyn, State.meterDyn, ZoneDyn.modFilter, ZoneDyn.modMeter, hb]
  · exact reads_intro rfl (fun _ _ => rfl) fun _ _ => rfl
  · exact reads_intro rfl (fun _ _ => rfl) fun _ _ => rfl
  · exact reads_intro rfl (fun _ _ => rfl) fun _ _ => rfl
  · refine does_run rfl (fun _ _ => rfl) fun r s _ => ?_
    cases hc : r.bit 1 34
    · refine ⟨_, _, if_neg (by simp [hc]), ?_, fun t hw _ => ⟨by simp, fun hb => ?_, by simp, fun hb _ => ?_⟩⟩
      · split <;> simp
      · simpa [hb] using hw
      · rw [if_pos hb] at hw
        simp [State.fab_of_wide hw]
    · refine ⟨_, _, if_pos hc, ?_, fun t hw _ => ⟨by simp, fun hb => ?_, fun hb _ => ?_, by simp⟩⟩
      · split <;> simp
      · simpa [hb] using hw
      · rw [if_pos hb] at hw
        simp [State.fab_of_wide hw]
  · exact reads_intro rfl (fun _ _ => rfl) fun _ _ => rfl
  · exact reads_intro rfl (fun _ _ => rfl) fun _ _ => rfl
  · refine does_run rfl (fun _ _ => rfl) fun r s _ => ?_
    cases hc : r.bit 1 34
    · refine ⟨_, _, if_neg (by simp [hc]), ?_, fun t hw _ => ⟨by simp; rfl, fun hb => ?_, by simp, fun hb _ => ?_⟩⟩
      · split <;> simp
      · simpa [hb] using hw
      · rw [if_pos hb] at hw
        rw [State.meterDyn_of_wide hw]
        simp [State.meterDyn, ZoneDyn.modMeter]
    · refine ⟨_, _, if_pos hc, ?_, fun t hw _ => ⟨by simp; rfl, fun hb => ?_, fun hb _ => ?_, by simp⟩⟩
      · split <;> simp
      · simpa [hb] using hw
      · rw [if_pos hb] at hw
        rw [State.filterDyn_of_wide hw]
        simp [State.filterDyn, ZoneDyn.modFilter]

end Sys2Proof.Machine
end

section
/-! PROOFS. Gate, shaper and queue commands. -/

namespace Sys2Proof.Machine

theorem maskPorts_nodup (r : Req) : (maskPorts r).Nodup := List.Nodup.filter _ List.nodup_range

theorem State.sampler_of_wide {s t : State} (h : t.wide = s.wide) (d : Fab) (i : Nat) : t.sampler d i = s.sampler d i := by
  unfold State.sampler
  rw [State.fab_of_wide h]

theorem State.queueCtr_of_wide {s t : State} (h : t.wide = s.wide) (d : Fab) (o q : Nat) : t.queueCtr d o q = s.queueCtr d o q := by
  unfold State.queueCtr
  rw [State.fab_of_wide h]

theorem State.sampler_modSampler (s : State) (d : Fab) (i j : Nat) (f : Sampler → Sampler) :
    (s.modSampler d i f).sampler d j = if j = i then f (s.sampler d j) else s.sampler d j := by
  simp [State.sampler, State.modSampler, State.modEd, Tbl.get_upd]

theorem State.queueCtr_modQctr (s : State) (d : Fab) (o q : Nat) (f : QueueCtr → QueueCtr) :
    (s.modQctr d o q f).queueCtr d o q = f (s.queueCtr d o q) := by
  simp [State.queueCtr, State.modQctr, State.modEd]

@[simp] theorem State.modSampler_lines (s : State) (d : Fab) (i : Nat) (f : Sampler → Sampler) : (s.modSampler d i f).lines = s.lines := by
  simp [State.modSampler, State.modEd]

@[simp] theorem State.modQctr_lines (s : State) (d : Fab) (o q : Nat) (f : QueueCtr → QueueCtr) : (s.modQctr d o q f).lines = s.lines := by
  simp [State.modQctr, State.modEd]

theorem State.queues_modQueue (s : State) (p q : Nat) (f : QueueCfg → QueueCfg) :
    (s.modQueue p q f).egr.queues = Tbl.upd QueueCfg.dflt s.egr.queues (32 * p + q) f := rfl

/-- A change of the gates of some ports stays off the paths. -/
theorem State.foldl_modGate_lines (f : Nat → GateSt → GateSt) (ps : List Nat) (s : State) :
    (ps.foldl (fun t p => t.modGate p (f p)) s).lines = s.lines := by
  induction ps generalizing s with
  | nil => rfl
  | cons p ps ih => exact (ih _).trans rfl

/-- What a request writes to the admin list of its port leaves the operating list. -/
theorem State.gate_of_modAdmin {s t : State} {p : Path} {k : Nat} {f : GateBank → GateBank}
    (hw : t.wide = ((s.taken p).modGate k fun g => g.modAdmin f).wide) :
    (t.gate k).oper = (s.gate k).oper ∧ (t.gate k).admin = f (s.gate k).admin := by
  rw [State.gate_of_wide hw, State.gate_modGate, if_pos rfl]
  simp

/-- Settles O7: the admin list, a queue, the MAC merge or a sampler changes; the operating lists stay. -/
theorem gateShaperAndQueueCommandsSetAndReturnTheFields : Obligations.GateShaperAndQueueCommandsSetAndReturnTheFields := by
  unfold Obligations.GateShaperAndQueueCommandsSetAndReturnTheFields
  refine ⟨⟨?_, ?_, ?_, ?_, ?_, ?_, ?_, ?_, ?_⟩, ?_, ?_, ?_, ?_, ?_, ?_, ?_⟩
  · refine does_run rfl (fun _ _ => rfl) fun r s _ => ⟨_, _, rfl, rfl, fun t hw _ => ⟨rfl, fun p => ?_⟩⟩
    rw [State.gate_of_wide hw, State.gate_modGate]
    by_cases hp : p = Req.port1 r <;> simp [hp]
  · refine does_run rfl (fun _ _ => rfl) fun r s hc => ⟨_, _, if_neg (by omega), rfl, fun t hw _ => ⟨rfl, ?_⟩⟩
    obtain ⟨ho, ha⟩ := State.gate_of_modAdmin hw
    refine ⟨ho, fun j => ?_⟩
    rw [ha]
    exact Tbl.get_puts _ _ _ _ _
  · refine does_run rfl (fun _ _ => rfl) fun r s hc => ⟨_, _, if_neg (by omega), rfl, fun t hw _ => ⟨rfl, ?_⟩⟩
    obtain ⟨ho, ha⟩ := State.gate_of_modAdmin hw
    refine ⟨ho, fun j => ?_⟩
    rw [ha]
    exact Tbl.get_puts _ _ _ _ _
  · refine does_run rfl (fun _ _ => rfl) fun r s hc => ⟨_, _, if_neg ?_, State.foldl_modGate_lines _ _ _, fun t hw _ => ⟨?_, fun p => ?_⟩⟩
    · simpa using hc
    · simp only [State.gate_of_wide hw]
    · rw [State.gate_of_wide hw]
      exact State.gate_foldl _ _ (maskPorts_nodup r) _ _
  · refine does_run rfl (fun _ _ => rfl) fun r s _ => ⟨_, _, rfl, State.foldl_modGate_lines _ _ _, fun t hw _ => ⟨rfl, fun p => ?_⟩⟩
    rw [State.gate_of_wide hw]
    refine (State.gate_foldl _ _ ((maskPorts_nodup r).filter _) _ _).trans ?_
    simp only [List.mem_filter]
    rfl
  · refine does_run rfl (fun _ _ => rfl) fun r s _ => ⟨_, _, rfl, rfl, fun t hw _ => ⟨rfl, fun k => ?_⟩⟩
    rw [State.egr_of_wide hw]
    rw [State.queues_modQueue, Tbl.get_upd]
    rfl
  · exact does_run rfl (fun _ _ => rfl) fun r s _ => ⟨_, _, rfl, by simp, fun t hw _ => ⟨rfl, (State.egr_of_wide hw :)⟩⟩
  · refine does_run rfl (fun _ _ => rfl) fun r s _ => ⟨_, _, rfl, rfl, fun t hw _ => ⟨rfl, fun p => ?_⟩⟩
    rw [State.mm_of_wide hw, State.mm_modMm]
    rfl
  · refine does_run rfl (fun _ _ => rfl) fun r s _ => ⟨_, _, rfl, by simp, fun t hw _ => ⟨rfl, fun i => ?_⟩⟩
    rw [State.sampler_of_wide hw, State.sampler_modSampler]
    simp [State.sampler]
  · refine does_run rfl (fun _ _ => rfl) fun r s ⟨h1, h2⟩ => ?_
    refine ⟨s.taken r.path, _, ?_, rfl, fun t hw _ => ⟨rfl, hw⟩⟩
    match hk : r.fld 1 29 28 with
    | 0 => simp [gclRead, hk]
    | 1 => simp [gclRead, hk, h1 hk]
    | n + 2 => simp [gclRead, hk, h2 (by omega)]
  · exact reads_intro rfl (fun _ _ => rfl) fun _ _ => rfl
  · exact reads_intro rfl (fun _ _ => rfl) fun _ _ => rfl
  · exact reads_intro rfl (fun _ _ => rfl) fun _ _ => rfl
  · refine does_run rfl (fun _ _ => rfl) fun r s _ => ⟨_, _, rfl, ?_, fun t hw _ => ⟨rfl, fun hb => ?_, fun hb => ?_⟩⟩
    · split <;> rfl
    · simpa [hb] using hw
    · rw [if_pos hb] at hw
      rw [State.mm_of_wide hw, State.mm_modMm, if_pos rfl]
      rfl
  · refine does_run rfl (fun _ _ => rfl) fun r s _ => ⟨_, _, rfl, ?_, fun t hw _ => ⟨rfl, fun hb => ?_, fun hb => ?_⟩⟩
    · split <;> simp
    · simpa [hb] using hw
    · rw [if_pos hb] at hw
      rw [State.queueCtr_of_wide hw, State.queueCtr_modQctr, State.taken_fab]
  · refine does_run rfl (fun _ _ => rfl) fun r s _ => ⟨_, _, rfl, ?_, fun t hw _ => ⟨rfl, fun hb => ?_, fun hb => ?_⟩⟩
    · split <;> simp
    · simpa [hb] using hw
    · rw [if_pos hb] at hw
      rw [State.sampler_of_wide hw, State.sampler_modSampler, if_pos rfl]
      rfl

end Sys2Proof.Machine
end

section
/-! PROOFS. Time commands. -/

namespace Sys2Proof.Machine

@[simp] theorem State.timeMode_lines (s : State) (m : TimeMode) : (s.timeMode m).lines = s.lines := by
  unfold State.timeMode
  split
  · rfl
  · exact State.raiseDev_lines _ _

/-- The clock after a change of its mode. -/
theorem State.tim_timeMode (s : State) (m : TimeMode) :
    (s.timeMode m).tim =
      if s.tim.mode = m then s.tim
      else { s.tim with mode := m, holdFrom := if m = .holdover then s.tim.ticks else s.tim.holdFrom } := by
  unfold State.timeMode
  split
  · rfl
  · exact State.tim_of_wide (State.raiseDev_wide _ _)

@[simp] theorem State.mode_timeMode (s : State) (m : TimeMode) : (s.timeMode m).tim.mode = m := by
  rw [State.tim_timeMode]
  split <;> simp [*]

@[simp] theorem State.cfg_timeMode (s : State) (m : TimeMode) : (s.timeMode m).tim.cfg = s.tim.cfg := by
  rw [State.tim_timeMode]
  split <;> rfl

@[simp] theorem State.timPorts_timeMode (s : State) (m : TimeMode) : (s.timeMode m).tim.ports = s.tim.ports := by
  rw [State.tim_timeMode]
  split <;> rfl

@[simp] theorem State.sourceLost_lines (s : State) : s.sourceLost.lines = s.lines := by
  unfold State.sourceLost
  split
  · rw [State.logFault_lines, State.timeMode_lines]
  · rw [State.logFault_lines, State.timeMode_lines]
    rfl
  · rfl

theorem State.tim_logFault (s : State) (code die detail : Nat) : (s.logFault code die detail).tim = s.tim :=
  State.tim_of_wide (State.logFault_wide _ _ _ _)

/-- A clock whose source is lost is neither locking nor locked; its configuration and its gPTP ports stay. -/
theorem State.tim_sourceLost (s : State) : s.sourceLost.tim.mode ≠ .locking ∧ s.sourceLost.tim.mode ≠ .locked ∧
    s.sourceLost.tim.cfg = s.tim.cfg ∧ s.sourceLost.tim.ports = s.tim.ports := by
  unfold State.sourceLost
  split
  · simp [State.tim_logFault]
  · simp [State.tim_logFault, TimeSt.schedFreq]
  · simp_all

theorem State.ptp_of_wide {s t : State} (h : t.wide = s.wide) (p : Nat) : t.ptp p = s.ptp p := by
  unfold State.ptp
  rw [State.tim_of_wide h]

theorem State.ptp_modPtp (s : State) (p q : Nat) (f : PtpPort → PtpPort) :
    (s.modPtp p f).ptp q = if q = p then f (s.ptp q) else s.ptp q := Tbl.get_upd _ _ _ _ _

@[simp] theorem State.taken_ptp (s : State) (p : Path) (n : Nat) : (s.taken p).ptp n = s.ptp n := rfl

/-- Settles O9: the configuration and the gPTP ports take the fields; a source that is no more allowed is lost. -/
theorem timeCommandsSetAndReturnTheFields : Obligations.TimeCommandsSetAndReturnTheFields := by
  unfold Obligations.TimeCommandsSetAndReturnTheFields
  refine ⟨⟨?_, ?_⟩, ?_, ?_, ?_, ?_⟩
  · refine does_run rfl (fun _ _ => rfl) fun r s _ => ⟨_, _, rfl, ?_, fun t hw _ => ⟨rfl, ?_⟩⟩
    · split
      · rfl
      · split
        · exact State.sourceLost_lines _
        · rfl
    · rw [State.tim_of_wide hw]
      cases ho : s.tim.cfg.ppsInEn <;> cases hn : (Req.timeCfg r).ppsInEn <;> simp [ho]
      obtain ⟨h1, h2, h3, h4⟩ := State.tim_sourceLost
        (((s.taken r.path).modTim fun t => { t with cfg := Req.timeCfg r }).modTim fun t => { t with acceptTick := none })
      exact ⟨h3, h4, h1, h2⟩
  · refine does_run rfl (fun _ _ => rfl) fun r s _ => ⟨_, _, rfl, ?_, fun t hw _ => ⟨rfl, ?_⟩⟩
    · split <;> rfl
    · have hp : Req.port1 r ≠ 17 - Req.port1 r := by omega
      have hc : t.tim.cfg = s.tim.cfg := by
        rw [State.tim_of_wide hw]
        split <;> rfl
      simp only [State.ptp_of_wide hw, hc]
      by_cases h1 : r.fld 1 29 28 = 1 <;> simp [h1, State.ptp_modPtp, hp, hp.symm]
  · exact reads_intro rfl (fun _ _ => rfl) fun _ _ => rfl
  · exact reads_intro rfl (fun _ _ => rfl) fun _ _ => rfl
  · refine does_run rfl (fun _ _ => rfl) fun r s _ => ⟨_, _, rfl, ?_, fun t hw _ => ⟨rfl, fun hb => ?_, fun hb => ?_⟩⟩
    · split <;> rfl
    · simpa [hb] using hw
    · rw [if_pos hb] at hw
      rw [State.ptp_of_wide hw, State.ptp_modPtp, if_pos rfl]
      rfl
  · refine does_run rfl (fun _ _ => rfl) fun r s _ => ⟨_, _, rfl, ?_, fun t hw _ => ⟨rfl, fun hb => ?_, fun hb => ?_⟩⟩
    · split <;> rfl
    · simpa [hb] using hw
    · rw [if_pos hb] at hw
      exact State.tim_of_wide hw

end Sys2Proof.Machine
end

section
/-! PROOFS. What a change of a front port's link state does to the port, to the other slices and to the paths. -/

namespace Sys2Proof.Machine

/-! ### Paths -/

theorem State.releaseCopy_lines (s : State) (d : Fab) (fid : Nat) (c : Copy) : (s.releaseCopy d fid c).lines = s.lines := by
  unfold State.releaseCopy
  split
  · rfl
  · have htidy (u : State) : (u.tidy d fid).lines = u.lines := by
      unfold State.tidy
      repeat' split
      all_goals simp [State.forget]
    dsimp only
    rw [htidy]
    refine (State.modFab_lines _ _ _).trans ((State.modPool_lines _ _ _).trans ?_)
    repeat' split
    all_goals simp [State.chainLast, State.modFrame]

theorem State.foldl_lines {α : Type} (n : State → α → State) (h : ∀ s a, (n s a).lines = s.lines) (l : List α) (s : State) :
    (l.foldl n s).lines = s.lines := by
  induction l generalizing s with
  | nil => rfl
  | cons a l ih => rw [List.foldl_cons, ih, h]

theorem State.flushOutput_lines (s : State) (d : Fab) (o : Nat) : (s.flushOutput d o).lines = s.lines := by
  unfold State.flushOutput
  refine (State.modFab_lines _ _ _).trans (State.foldl_lines _ (fun s e => ?_) _ _)
  rw [State.releaseCopy_lines]
  exact State.modFab_lines _ _ _

theorem State.slaveLost_lines (s : State) : s.slaveLost.lines = s.lines := by
  unfold State.slaveLost
  split
  · rfl
  · dsimp only
    split
    · rfl
    · rw [State.sourceLost_lines]
      rfl

theorem State.leaveUp_lines (s : State) (p : Nat) : (s.leaveUp p).lines = s.lines := by
  unfold State.leaveUp
  dsimp only
  generalize hs1 : (s.flushOutput (dieOfPort p) (localOf p)).raiseDie (dieOfPort p) .linkChange = s1
  have h1 : s1.lines = s.lines := by rw [← hs1, State.raiseDie_lines, State.flushOutput_lines]
  generalize hs2 : (if (s.vlanPort p).flushOnDown then s1.modTab _ else s1) = s2
  have h2 : s2.lines = s.lines := by
    rw [← hs2]
    split <;> exact h1
  split
  · rw [State.slaveLost_lines]
    exact h2
  · exact h2

theorem State.setDownBit_lines (s : State) (p : Nat) (b : Bool) : (s.setDownBit p b).lines = s.lines := by
  unfold State.setDownBit
  split <;> rfl

@[simp] theorem State.portTick_lines (s : State) (p : Nat) (get : PortSt → Nat) (set : PortSt → Nat → PortSt) :
    (s.portTick p get set).lines = s.lines := by
  unfold State.portTick
  rw [State.satRaise_lines _ _ _ _ (State.raiseDie_lines _ _ _)]
  rfl

@[simp] theorem State.portTo_lines (s : State) (p : Nat) (m : LinkMode) (count : Bool) : (s.portTo p m count).lines = s.lines := by
  unfold State.portTo
  dsimp only
  split
  · rw [State.portTick_lines, State.setDownBit_lines]
    split
    · exact State.leaveUp_lines _ _
    · rfl
  · rw [State.setDownBit_lines]
    split
    · exact State.leaveUp_lines _ _
    · rfl

@[simp] theorem State.portUp_lines (s : State) (p : Nat) : (s.portUp p).lines = s.lines := State.raiseDie_lines _ _ _

@[simp] theorem State.train_lines (s : State) (p : Nat) (count : Bool) : (s.train p count).lines = s.lines := by
  unfold State.train
  dsimp only
  split
  · rw [State.portUp_lines, State.portTo_lines]
  · exact State.portTo_lines _ _ _ _

theorem State.enablePort_lines (s : State) (p : Nat) : (s.enablePort p).lines = s.lines := by
  unfold State.enablePort
  split
  · exact State.train_lines _ _ _
  · rfl

theorem State.disablePort_lines (s : State) (p : Nat) : (s.disablePort p).lines = s.lines := by
  unfold State.disablePort
  split
  · rfl
  · exact State.portTo_lines _ _ _ _

/-! ### The port -/

/-- What a port that leaves UP touches beside itself: frames, tables and clock. -/
abbrev onLeave (x y : Slices) : Slices := { x with fabE := y.fabE, fabW := y.fabW, tab := y.tab, tim := y.tim }

theorem frame_onLeave : Frame onLeave := ⟨fun _ => rfl, fun _ _ _ => rfl⟩

theorem State.slaveLost_onlyIn (s : State) : s.onlyIn onTim s.slaveLost := by
  unfold State.slaveLost
  split
  · exact .refl frame_onTim s
  · dsimp only
    split
    · exact s.modTim_onlyIn _
    · exact .trans frame_onTim (s.modTim_onlyIn _) (State.sourceLost_onlyIn _)

theorem State.modTab_onLeave (s : State) (f : TabSt → TabSt) : s.onlyIn onLeave (s.modTab f) := Eq.refl s.wide

theorem State.modGptp_onLeave (s : State) (p : Nat) (f : PtpPort → PtpPort) : s.onlyIn onLeave (s.modGptp p f) := Eq.refl s.wide

theorem State.leaveUp_onlyIn (s : State) (p : Nat) : s.onlyIn onLeave (s.leaveUp p) := by
  have hflush (d : Fab) : s.onlyIn onLeave ((s.flushOutput d (localOf p)).raiseDie d .linkChange) :=
    .of_wide_right ((s.flushOutput_onlyIn d _).widen frame_onLeave fun _ _ => rfl) (State.raiseDie_wide _ _ _)
  unfold State.leaveUp
  dsimp only
  generalize hs1 : (s.flushOutput (dieOfPort p) (localOf p)).raiseDie (dieOfPort p) .linkChange = s1
  have h1 : s.onlyIn onLeave s1 := hs1 ▸ hflush _
  generalize hs2 : (if (s.vlanPort p).flushOnDown then s1.modTab _ else s1) = s2
  have h2 : s.onlyIn onLeave s2 := hs2 ▸ .trans frame_onLeave h1 (.ite _ (s1.modTab_onLeave _) (.refl frame_onLeave s1))
  have h3 : s.onlyIn onLeave (s2.modGptp p PtpPort.unlinked) := .trans frame_onLeave h2 (s2.modGptp_onLeave p _)
  refine .ite _ ?_ h3
  exact .trans frame_onLeave h3 ((State.slaveLost_onlyIn _).widen frame_onLeave fun _ _ => rfl)

theorem State.ports_leaveUp (s : State) (p : Nat) : (s.leaveUp p).ports = s.ports := congrArg Slices.ports (s.leaveUp_onlyIn p)

theorem State.ports_setDownBit (s : State) (p : Nat) (b : Bool) : (s.setDownBit p b).ports = s.ports := by
  unfold State.setDownBit
  split <;> rfl

theorem State.port_of_ports {s t : State} (h : t.ports = s.ports) (p : Nat) : t.port p = s.port p := by
  unfold State.port
  rw [h]

theorem State.satRaise_raiseDie_wide (s : State) (old k : Nat) (d : Fab) (f : DieFlag) :
    (s.satRaise old k fun t => t.raiseDie d f).wide = s.wide := State.satRaise_wide _ _ _ _ (State.raiseDie_wide _ _ _)

/-- A counter of a port counts. -/
theorem State.port_portTick (s : State) (p q : Nat) (get : PortSt → Nat) (set : PortSt → Nat → PortSt) :
    (s.portTick p get set).port q = if q = p then set (s.port q) (sat36 (get (s.port q)) 1) else s.port q := by
  unfold State.portTick
  dsimp only
  rw [State.port_of_wide (State.satRaise_wide _ _ _ _ (State.raiseDie_wide _ _ _)), State.port_modPort]

/-- A port that takes another link state, without the count of its link losses. -/
def PortSt.moved (c : PortSt) (m : LinkMode) : PortSt :=
  { c with mode := m, lpi := false, lpiWaking := false, burstLeft := 0,
           beacons := c.beacons && (m == .training || m == .up) && c.coordinator }

theorem State.port_portTo (s : State) (p q : Nat) (m : LinkMode) (count : Bool) :
    (s.portTo p m count).port q =
      if q = p then
        if ((s.port p).mode == .up && count) = true then
          { (s.port p).moved m with linkDowns := sat36 (s.port p).linkDowns 1 }
        else (s.port p).moved m
      else s.port q := by
  have hleave (u : State) (b : Prop) [Decidable b] (n : Nat) : ((if b then u.leaveUp p else u).setDownBit p true).port n = u.port n := by
    refine State.port_of_ports ?_ n
    rw [State.ports_setDownBit]
    split
    · exact State.ports_leaveUp _ _
    · rfl
  unfold State.portTo
  dsimp only
  split <;> by_cases hq : q = p <;> simp [State.port_portTick, hleave, State.port_modPort, hq, PortSt.moved]

end Sys2Proof.Machine
end

section
/-! PROOFS. Port and MACsec commands. -/

namespace Sys2Proof.Machine

/-- The settings that PORT.CONFIG_WRITE writes. -/
def PortSt.settings (c : PortSt) : Bool × Nat × Bool × Bool × Bool × Bool × Bool :=
  (c.enable, c.rate, c.role, c.eee, c.retain, c.tc10, c.usx)

theorem PortSt.settings_takePlca (c : PortSt) : c.takePlca.settings = c.settings := by
  unfold PortSt.takePlca
  split <;> rfl

theorem PortSt.mode_takePlca (c : PortSt) : c.takePlca.mode = c.mode := by
  unfold PortSt.takePlca
  split <;> rfl

theorem State.port_modMm (s : State) (p q : Nat) (f : MmSt → MmSt) : (s.modMm p f).port q = s.port q := rfl

theorem State.port_portUp (s : State) (p q : Nat) :
    (s.portUp p).port q =
      if q = p then
        ({ s.port p with mode := .up, upAt := s.monoNs, beacons := decide (kindOfPort p = PortKind.multidrop) }).takePlca
      else s.port q := by
  unfold State.portUp
  dsimp only
  rw [State.port_of_wide (State.raiseDie_wide _ _ _)]
  rw [State.port_modMm, State.port_modPort]
  by_cases hq : q = p <;> simp [hq]

theorem State.settings_portTo (s : State) (p : Nat) (m : LinkMode) (count : Bool) :
    ((s.portTo p m count).port p).settings = (s.port p).settings := by
  rw [State.port_portTo, if_pos rfl]
  split <;> rfl

theorem State.mode_portTo (s : State) (p : Nat) (m : LinkMode) (count : Bool) : ((s.portTo p m count).port p).mode = m := by
  rw [State.port_portTo, if_pos rfl]
  split <;> rfl

theorem State.settings_train (s : State) (p : Nat) (count : Bool) : ((s.train p count).port p).settings = (s.port p).settings := by
  unfold State.train
  dsimp only
  split
  · rw [State.port_portUp, if_pos rfl, PortSt.settings_takePlca]
    exact State.settings_portTo _ _ _ _
  · exact State.settings_portTo _ _ _ _

theorem State.settings_enablePort (s : State) (p : Nat) : ((s.enablePort p).port p).settings = (s.port p).settings := by
  unfold State.enablePort
  split
  · exact State.settings_train _ _ _
  · rfl

theorem State.port_disablePort (s : State) (p : Nat) :
    ((s.disablePort p).port p).settings = (s.port p).settings ∧ ((s.disablePort p).port p).mode = .disabled := by
  unfold State.disablePort
  split
  · exact ⟨rfl, ‹_›⟩
  · rw [State.port_modPort, if_pos rfl]
    exact ⟨s.settings_portTo p .disabled false, s.mode_portTo p .disabled false⟩

/-- PLCA settings that are taken at once. -/
theorem PortSt.plca_takePlca_of_next (c : PortSt) (n : PlcaCfg) (h : c.plcaNext = some n) :
    c.takePlca.plca = { n with peerMax := c.plca.peerMax, peerBurst := c.plca.peerBurst } ∧ c.takePlca.plcaNext = none := by
  unfold PortSt.takePlca
  rw [h]
  exact ⟨rfl, rfl⟩

theorem PortSt.takePlca_of_none {c : PortSt} (h : c.plcaNext = none) : c.takePlca = c := by
  unfold PortSt.takePlca
  rw [h]

theorem State.takeToken_lines (s : State) (a obj : Nat) : (s.takeToken a obj).lines = s.lines := State.raiseDev_lines _ _

theorem portConfigWrite_lines (r : Req) (s : State) : (portConfigWrite.run r s).st.lines = s.lines := by
  unfold portConfigWrite
  dsimp only
  split
  · rw [State.disablePort_lines, State.modPort_lines]
  · split
    · split
      · rw [State.enablePort_lines, State.modPort_lines]
      · exact State.modPort_lines _ _ _
    · split
      · rw [State.train_lines, State.modPort_lines, State.modPort_lines]
      · exact State.modPort_lines _ _ _

theorem portConfigWrite_settings (r : Req) (s : State) :
    ((portConfigWrite.run r s).st.port (Req.port1 r)).settings =
      (r.bit 1 30, r.fld 1 29 27, r.bit 1 26, r.bit 1 25, r.bit 1 24, r.bit 1 23, r.bit 1 22) := by
  unfold portConfigWrite
  dsimp only
  split
  · rw [(State.port_disablePort _ _).1, State.port_modPort, if_pos rfl]
    rfl
  · split
    · split
      · rw [State.settings_enablePort, State.port_modPort, if_pos rfl]
        rfl
      · rw [State.port_modPort, if_pos rfl]
        rfl
    · split
      · rw [State.settings_train, State.port_modPort, if_pos rfl, State.port_modPort, if_pos rfl]
        rfl
      · rw [State.port_modPort, if_pos rfl]
        rfl

theorem portConfigWrite_disabled (r : Req) (s : State) (h : r.bit 1 30 = false) :
    ((portConfigWrite.run r s).st.port (Req.port1 r)).mode = .disabled := by
  unfold portConfigWrite
  dsimp only
  rw [if_pos (by simp [h])]
  exact (State.port_disablePort _ _).2

/-- The PLCA settings of a request. -/
def plcaOf (r : Req) : PlcaCfg :=
  { nodeId := r.fld 1 30 28, nodeCount := r.fld 1 27 24, toTimer := r.fld 1 23 16, maxBurst := r.fld 1 11 8,
    burstTimer := r.fld 1 7 0, peerMax := r.fld 2 35 22, peerBurst := r.fld 2 21 18 }

theorem portPlcaWrite_lines (r : Req) (s : State) : (portPlcaWrite.run r s).st.lines = s.lines := by
  unfold portPlcaWrite
  dsimp only
  split
  · rw [State.portUp_lines, State.modPort_lines]
  · exact State.modPort_lines _ _ _

/-- Where the segment has no beacons, the settings are in force at once, whether or not the coordinator's port comes up. -/
theorem portPlcaWrite_plca (r : Req) (s : State) (h : (s.port (Req.port1 r)).beacons = false) :
    ((portPlcaWrite.run r s).st.port (Req.port1 r)).plca = plcaOf r := by
  let c := s.port (Req.port1 r)
  let c1 : PortSt :=
    { c with plcaNext := some (plcaOf r), plca := { c.plca with peerMax := (plcaOf r).peerMax, peerBurst := (plcaOf r).peerBurst } }
  obtain ⟨hp, hn⟩ := c1.plca_takePlca_of_next (plcaOf r) rfl
  unfold portPlcaWrite
  dsimp only
  split
  · rw [State.port_portUp, if_pos rfl, State.port_modPort, if_pos rfl, if_neg (by simp [h]), PortSt.takePlca_of_none]
    · exact hp
    · exact hn
  · rw [State.port_modPort, if_pos rfl, if_neg (by simp [h])]
    exact hp

/-- Settles O10: a change of link state keeps the settings just written. -/
theorem portAndMacsecCommandsSetAndReturnTheFields : Obligations.PortAndMacsecCommandsSetAndReturnTheFields := by
  unfold Obligations.PortAndMacsecCommandsSetAndReturnTheFields
  refine ⟨⟨?_, ?_, ?_, ?_, ?_⟩, ?_, ?_, ?_, ?_⟩
  · refine does_run rfl (fun _ _ => rfl) fun r s _ => ⟨(portConfigWrite.run r _).st, _, rfl, portConfigWrite_lines r _, fun t hw _ => ⟨rfl, ?_⟩⟩
    have hset := portConfigWrite_settings r (s.taken r.path)
    rw [← State.port_of_wide hw] at hset
    simp only [PortSt.settings, Prod.mk.injEq] at hset
    obtain ⟨h1, h2, h3, h4, h5, h6, h7⟩ := hset
    refine ⟨h1, h2, h3, h4, h5, h6, h7, fun hb => ?_⟩
    rw [State.port_of_wide hw]
    exact portConfigWrite_disabled r _ hb
  · refine does_run rfl (fun _ _ => rfl) fun r s hc => ⟨(portPlcaWrite.run r _).st, _, rfl, portPlcaWrite_lines r _, fun t hw _ => ⟨rfl, ?_⟩⟩
    have hplca := portPlcaWrite_plca r (s.taken r.path) hc
    rw [← State.port_of_wide hw] at hplca
    simp [hplca, plcaOf]
  · refine starts_intro rfl (fun _ _ => rfl) fun r s hc => ?_
    have hrun : portCableTest.run r (s.taken r.path) =
        { st := (((s.taken r.path).takeToken 3 (Req.port1 r)).portTo (Req.port1 r) .diag true).modPort (Req.port1 r)
            fun c => { c with tester := some r.path }
          later := true } := if_pos hc
    rw [hrun]
    refine ⟨rfl, ?_, fun t _ hw _ => ?_⟩
    · rw [State.modPort_lines, State.portTo_lines, State.takeToken_lines]
    · rw [State.port_of_wide hw, State.port_modPort, if_pos rfl]
      dsimp only
      rw [State.mode_portTo]
      exact ⟨rfl, rfl⟩
  · refine does_run rfl (fun _ _ => rfl) fun r s _ => ⟨_, _, rfl, rfl, fun t hw _ => ⟨rfl, fun p => ?_⟩⟩
    rw [State.port_of_wide hw]
    exact State.port_modPort _ _ _ _
  · refine does_run rfl (fun _ _ => rfl) fun r s _ => ⟨_, _, rfl, rfl, fun t hw _ => ⟨rfl, fun p => ?_⟩⟩
    rw [State.port_of_wide hw]
    exact State.port_modPort _ _ _ _
  · exact reads_intro rfl (fun _ _ => rfl) fun _ _ => rfl
  · exact reads_intro rfl (fun _ _ => rfl) fun _ _ => rfl
  · refine does_run rfl (fun _ _ => rfl) fun r s _ => ⟨_, _, rfl, ?_, fun t hw _ => ⟨rfl, fun hb => ?_, fun hb => ?_⟩⟩
    · split <;> rfl
    · simpa [hb] using hw
    · rw [if_pos hb] at hw
      rw [State.port_of_wide hw, State.port_modPort, if_pos rfl]
      rfl
  · refine does_run rfl (fun _ _ => rfl) fun r s _ => ⟨_, _, rfl, ?_, fun t hw _ => ⟨rfl, fun hb => ?_, fun hb => ?_⟩⟩
    · split <;> rfl
    · simpa [hb] using hw
    · rw [if_pos hb] at hw
      rw [State.port_of_wide hw, State.modSecy, State.port_modPort, if_pos rfl]
      exact ⟨rfl, rfl, rfl⟩

end Sys2Proof.Machine
end

section
/-! PROOFS. Legacy channel commands. -/

namespace Sys2Proof.Machine

theorem State.canCh_of_wide {s t : State} (h : t.wide = s.wide) (n : Nat) : t.canCh n = s.canCh n := by
  unfold State.canCh
  rw [State.edge_of_wide h]

theorem State.linCh_of_wide {s t : State} (h : t.wide = s.wide) (n : Nat) : t.linCh n = s.linCh n := by
  unfold State.linCh
  rw [State.edge_of_wide h]

theorem State.serCh_of_wide {s t : State} (h : t.wide = s.wide) (n : Nat) : t.serCh n = s.serCh n := by
  unfold State.serCh
  rw [State.edge_of_wide h]

theorem State.edgeCtr_of_wide {s t : State} (h : t.wide = s.wide) (n : Nat) : t.edgeCtr n = s.edgeCtr n := by
  unfold State.edgeCtr
  rw [State.edge_of_wide h]

theorem State.canCh_modCan (s : State) (c n : Nat) (f : CanCh → CanCh) :
    (s.modCan c f).canCh n = if n = c then f (s.canCh n) else s.canCh n := Tbl.get_upd _ _ _ _ _

theorem State.linCh_modLin (s : State) (c n : Nat) (f : LinCh → LinCh) :
    (s.modLin c f).linCh n = if n = c then f (s.linCh n) else s.linCh n := Tbl.get_upd _ _ _ _ _

theorem State.serCh_modSer (s : State) (c n : Nat) (f : SerCh → SerCh) :
    (s.modSer c f).serCh n = if n = c then f (s.serCh n) else s.serCh n := Tbl.get_upd _ _ _ _ _

theorem State.edgeCtr_modCtrE (s : State) (c n : Nat) (f : EdgeCtr → EdgeCtr) :
    (s.modCtrE c f).edgeCtr n = if n = c then f (s.edgeCtr n) else s.edgeCtr n := Tbl.get_upd _ _ _ _ _

@[simp] theorem State.taken_canCh (s : State) (p : Path) (n : Nat) : (s.taken p).canCh n = s.canCh n := rfl
@[simp] theorem State.taken_linCh (s : State) (p : Path) (n : Nat) : (s.taken p).linCh n = s.linCh n := rfl
@[simp] theorem State.taken_serCh (s : State) (p : Path) (n : Nat) : (s.taken p).serCh n = s.serCh n := rfl
@[simp] theorem State.taken_edgeCtr (s : State) (p : Path) (n : Nat) : (s.taken p).edgeCtr n = s.edgeCtr n := rfl

theorem State.satRaise_raiseDev_wide (s : State) (old k : Nat) (f : DevFlag) :
    (s.satRaise old k fun t => t.raiseDev f).wide = s.wide := State.satRaise_wide _ _ _ _ (State.raiseDev_wide _ _)

theorem State.satRaise_raiseDev_lines (s : State) (old k : Nat) (f : DevFlag) :
    (s.satRaise old k fun t => t.raiseDev f).lines = s.lines := State.satRaise_lines _ _ _ _ (State.raiseDev_lines _ _)

/-- A counter of a channel counts, and nothing else of the channels changes. -/
theorem State.edge_edgeCount (s : State) (n i : Nat) : (s.edgeCount n i).edge =
    { s.edge with ctr := Tbl.upd EdgeCtr.dflt s.edge.ctr n fun c =>
        { c with c := Tbl.put zeroAt c.c (i - 1) (sat36 (Tbl.get zeroAt (s.edgeCtr n).c (i - 1)) 1) } } := by
  unfold State.edgeCount
  dsimp only
  rw [State.edge_of_wide (State.satRaise_raiseDev_wide _ _ _ _)]
  rfl

theorem State.edgeCount_lines (s : State) (n i : Nat) : (s.edgeCount n i).lines = s.lines := by
  unfold State.edgeCount
  dsimp only
  rw [State.satRaise_raiseDev_lines]
  rfl

theorem State.canCh_edgeCount (s : State) (n i c : Nat) : (s.edgeCount n i).canCh c = s.canCh c := by
  unfold State.canCh
  rw [State.edge_edgeCount]

theorem State.dropCan_lines (s : State) (c : Nat) : (s.dropCan c).lines = s.lines :=
  State.foldl_lines _ (fun s _ => s.edgeCount_lines c 2) _ _

/-- A channel that drops its queue counts each frame and holds none. -/
theorem State.canCh_dropCan (s : State) (c n : Nat) :
    (s.dropCan c).canCh n = if n = c then { s.canCh n with txq := [], offAfter := false } else s.canCh n := by
  have hfold (l : List Nat) (u : State) : (l.foldl (fun s _ => s.edgeCount c 2) u).canCh n = u.canCh n := by
    induction l generalizing u with
    | nil => rfl
    | cons _ l ih => rw [List.foldl_cons, ih, State.canCh_edgeCount]
  unfold State.dropCan
  rw [hfold, State.canCh_modCan]

theorem edgeCanWrite_lines (r : Req) (s : State) : (edgeCanWrite.run r s).st.lines = s.lines := by
  unfold edgeCanWrite
  dsimp only
  split
  · rw [State.dropCan_lines]
    rfl
  · rfl

/-- A CAN channel with the settings of a request. -/
def CanCh.written (c : CanCh) (r : Req) (off : Bool) : CanCh :=
  { c with enable := r.bit 1 31, mode := r.fld 1 30 29, listen := r.bit 1 28, autoRecover := r.bit 1 27, oneShot := r.bit 1 26, pex := r.bit 1 25,
           timeEn := r.bit 1 24, timeTable := r.fld 1 23 18, txLife := r.fld 1 17 6, timing := (r.word 2, r.word 3, r.word 4),
           offAfter := off }

/-- Whether a request switches a channel that is on off, or retimes it. -/
def CanCh.stops (c : CanCh) (r : Req) : Bool :=
  c.enable && (!r.bit 1 31 || c.mode != r.fld 1 30 29 || c.timing != (r.word 2, r.word 3, r.word 4))

/-- The channel written drops its queue where it stops and nothing is being sent; the others stay. -/
theorem edgeCanWrite_canCh (r : Req) (s : State) (n : Nat) :
    (edgeCanWrite.run r s).st.canCh n =
      if n = r.fld 1 35 32 then
        if ((s.canCh n).stops r && (s.canCh n).sending.isNone) = true then { (s.canCh n).written r false with txq := [] }
        else (s.canCh n).written r ((s.canCh n).stops r && (s.canCh n).sending.isSome)
      else s.canCh n := by
  unfold edgeCanWrite
  dsimp only
  by_cases hn : n = r.fld 1 35 32
  · subst hn
    rw [if_pos rfl]
    split
    case isTrue h =>
      rw [State.canCh_dropCan, if_pos rfl, State.canCh_modCan, if_pos rfl]
      exact (if_pos h).symm
    case isFalse h =>
      rw [State.canCh_modCan, if_pos rfl]
      exact (if_neg h).symm
  · rw [if_neg hn]
    split
    · rw [State.canCh_dropCan, if_neg hn, State.canCh_modCan, if_neg hn]
    · rw [State.canCh_modCan, if_neg hn]

/-- The new table and baud rate of a serial engine are in force at once, or wait with the old table. -/
theorem SerCh.takeNext_of_next (c : SerCh) (n : Nat × Nat) (h : c.next = some n) :
    c.takeNext = { c with table := n.1, baud := n.2, next := none } ∨ c.takeNext = c := by
  unfold SerCh.takeNext
  rw [h]
  dsimp only
  split
  · exact .inl rfl
  · exact .inr rfl

/-- A bit of a mask after one bit is set or cleared. -/
theorem inMask_setMask (m i j : Nat) (b : Bool) : inMask (setMask m i b) j = if j = i then b else inMask m j := by
  have hset (x : Nat) : inMask (setMask x i true) j = (inMask x j || decide (i = j)) := by
    rw [setMask_true, inMask_eq_testBit, inMask_eq_testBit, Nat.testBit_or, Nat.testBit_two_pow]
  cases b with
  | true =>
    rw [hset]
    by_cases h : j = i <;> simp [h, Ne.symm]
  | false =>
    cases hm : inMask m i with
    | false =>
      have : setMask m i false = m := by simp [setMask, hm]
      rw [this]
      split
      · rename_i h; rw [h, hm]
      · rfl
    | true =>
      have hodd : m / 2 ^ i % 2 = 1 := by simpa [inMask] using hm
      have hle : 2 ^ i ≤ m := by
        by_contra hlt
        rw [Nat.div_eq_of_lt (by omega)] at hodd
        omega
      have hx : setMask m i false = m - 2 ^ i := by simp [setMask, hm]
      have hxi : inMask (m - 2 ^ i) i = false := by
        have hd : (m - 2 ^ i) / 2 ^ i = m / 2 ^ i - 1 := by simpa using Nat.sub_mul_div m (2 ^ i) 1
        simp only [inMask, hd, beq_eq_false_iff_ne]
        omega
      have hback : setMask (m - 2 ^ i) i true = m := by
        simp only [setMask, hxi]
        simp
        omega
      have hj := hset (m - 2 ^ i)
      rw [hback] at hj
      rw [hx]
      by_cases h : j = i
      · rw [if_pos h, h, hxi]
      · rw [if_neg h, hj]
        simp [Ne.symm h]

/-- Settles O11: one channel, one table slot or one ball changes. -/
theorem channelCommandsSetAndReturnTheFields : Obligations.ChannelCommandsSetAndReturnTheFields := by
  unfold Obligations.ChannelCommandsSetAndReturnTheFields
  refine ⟨⟨?_, ?_, ?_, ?_, ?_, ?_⟩, ?_, ?_, ?_, ?_⟩
  · refine does_run rfl (fun _ _ => rfl) fun r s _ => ⟨(edgeCanWrite.run r _).st, _, rfl, edgeCanWrite_lines r _, fun t hw _ => ⟨rfl, ?_⟩⟩
    simp only [State.canCh_of_wide hw, edgeCanWrite_canCh, if_true]
    rw [State.taken_canCh]
    generalize s.canCh (r.fld 1 35 32) = o
    have hstop : (o.enable = false ∨
        (r.bit 1 31 = true ∧ o.mode = r.fld 1 30 29 ∧ o.timing = (r.word 2, r.word 3, r.word 4))) → o.stops r = false := by
      rintro (h | ⟨h1, h2, h3⟩) <;> simp [CanCh.stops, *]
    have hoff (h1 : o.enable = true) (h2 : r.bit 1 31 = false) : o.stops r = true := by simp [CanCh.stops, *]
    split
    case isTrue h =>
      refine ⟨rfl, rfl, rfl, rfl, rfl, rfl, rfl, rfl, rfl, rfl, fun hk => ?_, fun _ _ _ => rfl, fun n hn => if_neg hn⟩
      simp [hstop hk] at h
    case isFalse h =>
      refine ⟨rfl, rfl, rfl, rfl, rfl, rfl, rfl, rfl, rfl, rfl, fun _ => rfl, fun h1 h2 h3 => ?_, fun n hn => if_neg hn⟩
      simp [hoff h1 h2, h3] at h
  · refine does_run rfl (fun _ _ => rfl) fun r s _ => ⟨_, _, rfl, rfl, fun t hw _ => ⟨rfl, fun n => ?_⟩⟩
    rw [State.canCh_of_wide hw, State.canCh_modCan]
    rfl
  · refine does_run rfl (fun _ _ => rfl) fun r s _ => ⟨_, _, rfl, rfl, fun t hw _ => ⟨rfl, ?_⟩⟩
    simp only [State.linCh_of_wide hw, State.linCh_modLin, State.taken_linCh, if_true]
    by_cases h : (s.linCh (r.fld 1 35 32)).enable = r.bit 1 31 ∧ (s.linCh (r.fld 1 35 32)).commander = r.bit 1 30
    · simp +contextual [h]
    · simp +contextual [h]
  · refine does_run rfl (fun _ _ => rfl) fun r s _ => ⟨_, _, rfl, rfl, fun t hw _ => ⟨rfl, ?_⟩⟩
    simp only [State.linCh_of_wide hw, State.linCh_modLin, State.taken_linCh, if_true]
    refine ⟨fun hb => ?_, fun hb => ?_⟩
    · simp [hb, Tbl.get_puts]
      grind
    · simp [hb, Tbl.get_puts]
      grind
  · refine does_run rfl (fun _ _ => rfl) fun r s _ => ⟨_, _, rfl, rfl, fun t hw _ => ⟨rfl, ?_⟩⟩
    simp only [State.serCh_of_wide hw, State.serCh_modSer, State.taken_serCh, if_true]
    generalize s.serCh (r.fld 1 35 32) = o
    have htake (c1 : SerCh) (hc : c1.enable = r.bit 1 31 ∧ c1.timeEn = r.bit 1 24 ∧ c1.timeTable = r.fld 1 23 18 ∧
        c1.txLife = r.fld 1 17 6 ∧ c1.next = some (r.fld 1 30 25, r.fld 2 35 12) ∧ c1.table = o.table) :
        c1.takeNext.enable = r.bit 1 31 ∧ c1.takeNext.timeEn = r.bit 1 24 ∧ c1.takeNext.timeTable = r.fld 1 23 18 ∧
        c1.takeNext.txLife = r.fld 1 17 6 ∧
        ((c1.takeNext.table = r.fld 1 30 25 ∧ c1.takeNext.baud = r.fld 2 35 12 ∧ c1.takeNext.next = none) ∨
          (c1.takeNext.next = some (r.fld 1 30 25, r.fld 2 35 12) ∧ c1.takeNext.table = o.table)) := by
      obtain ⟨h1, h2, h3, h4, h5, h6⟩ := hc
      rcases c1.takeNext_of_next _ h5 with h | h <;> rw [h] <;> simp [h1, h2, h3, h4, h5, h6]
    obtain ⟨h1, h2, h3, h4, h5⟩ := htake (if r.bit 1 31 = true then
        { o with enable := r.bit 1 31, timeEn := r.bit 1 24, timeTable := r.fld 1 23 18, txLife := r.fld 1 17 6,
                 next := some (r.fld 1 30 25, r.fld 2 35 12) }
      else
        { o with enable := r.bit 1 31, timeEn := r.bit 1 24, timeTable := r.fld 1 23 18, txLife := r.fld 1 17 6,
                 next := some (r.fld 1 30 25, r.fld 2 35 12), receiving := false, chars := [] })
      (by split <;> simp)
    exact ⟨h1, h2, h3, h4, h5, fun n hn => if_neg hn⟩
  · refine does_run rfl (fun _ _ => rfl) fun r s _ => ⟨_, _, rfl, rfl, fun t hw _ => ⟨rfl, fun i => ?_⟩⟩
    rw [State.edge_of_wide hw]
    exact Tbl.get_put _ _ _ _ _
  · refine does_run rfl (fun _ _ => rfl) fun r s hc => ⟨_, _, if_neg (by simp [hc]), rfl, fun t hw _ => ⟨rfl, ?_⟩⟩
    rw [State.edge_of_wide hw]
    refine ⟨fun i hi => ?_, rfl, rfl, rfl, rfl⟩
    have hi' : i < r.words.length - 1 := by simpa using hi
    simp [State.modEdge, Tbl.get_puts, hi']
  · refine does_intro rfl (fun _ _ => rfl) fun r s ⟨hv, hfix, hok⟩ => ?_
    have hrun : edgeTableLoad.run r (s.taken r.path) = _ := (if_pos hv).trans (if_pos hok)
    rw [hrun]
    refine ⟨rfl, rfl, ?_, rfl, fun t _ hw _ => ⟨rfl, ?_⟩⟩
    · exact congrArg (fun l => List.map _ (List.filter _ l)) hfix
    · rw [State.edge_of_wide hw]
      exact (inMask_setMask _ _ _ _).trans (if_pos rfl)
  · exact reads_intro rfl (fun _ _ => rfl) fun _ _ => rfl
  · refine does_run rfl (fun _ _ => rfl) fun r s _ => ⟨_, _, rfl, ?_, fun t hw _ => ⟨rfl, fun hb => ?_, fun hb => ?_⟩⟩
    · split <;> rfl
    · simpa [hb] using hw
    · rw [if_pos hb] at hw
      rw [State.edgeCtr_of_wide hw, State.edgeCtr_modCtrE, if_pos rfl]

end Sys2Proof.Machine
end

section
/-! PROOFS. Gateway commands. -/

namespace Sys2Proof.Machine

theorem State.bundle_of_wide {s t : State} (h : t.wide = s.wide) (n : Nat) : t.bundle n = s.bundle n := by
  unfold State.bundle
  rw [State.gw_of_wide h]

theorem State.upEnt_of_wide {s t : State} (h : t.wide = s.wide) (n : Nat) : t.upEnt n = s.upEnt n := by
  unfold State.upEnt
  rw [State.gw_of_wide h]

theorem State.downEnt_of_wide {s t : State} (h : t.wide = s.wide) (n : Nat) : t.downEnt n = s.downEnt n := by
  unfold State.downEnt
  rw [State.gw_of_wide h]

theorem State.bundle_modBundle (s : State) (i n : Nat) (f : Bundle → Bundle) :
    (s.modBundle i f).bundle n = if n = i then f (s.bundle n) else s.bundle n := Tbl.get_upd _ _ _ _ _

theorem State.upEnt_modEnt (s : State) (i n : Nat) (f : GwEnt → GwEnt) :
    (s.modEnt false i f).upEnt n = if n = i then f (s.upEnt n) else s.upEnt n := Tbl.get_upd _ _ _ _ _

theorem State.downEnt_modEnt (s : State) (i n : Nat) (f : GwEnt → GwEnt) :
    (s.modEnt true i f).downEnt n = if n = i then f (s.downEnt n) else s.downEnt n := Tbl.get_upd _ _ _ _ _

theorem State.perSlot_modSlot (s : State) (i n : Nat) (f : PerSlot → PerSlot) :
    (s.modSlot i f).perSlot n = if n = i then f (s.perSlot n) else s.perSlot n := Tbl.get_upd _ _ _ _ _

theorem State.stage_lines (s : State) (p : Nat) (bytes : List Byte) (phy : Bool) (f : FrameSt) : (s.stage p bytes phy f).lines = s.lines := by
  unfold State.stage
  dsimp only
  split
  · exact State.modFab_lines _ _ _
  · rfl

theorem State.gw_stage (s : State) (p : Nat) (bytes : List Byte) (phy : Bool) (f : FrameSt) : (s.stage p bytes phy f).gw = s.gw :=
  congrArg Slices.gw (s.stage_onlyIn p bytes phy f)

theorem State.closeBundle_lines (s : State) (i : Nat) : (s.closeBundle i).lines = s.lines := by
  unfold State.closeBundle
  dsimp only
  split
  · rfl
  · split
    · rw [State.stage_lines]
      rfl
    · rfl

/-- A bundle that is closed holds no message. -/
theorem State.acf_closeBundle (s : State) (i : Nat) : ((s.closeBundle i).bundle i).acf = [] := by
  unfold State.closeBundle
  dsimp only
  split
  · assumption
  · split
    · rw [State.bundle, State.gw_stage, ← State.bundle, State.bundle_modBundle, if_pos rfl]
    · rw [State.bundle_modBundle, if_pos rfl]

theorem State.gwZoneOf_lines (s : State) (n : Nat) (z : Option Nat) : (s.gwZoneOf n z).lines = s.lines := by
  unfold State.gwZoneOf
  split
  · split <;> rfl
  · rfl

/-- A change of the zone of a stream leaves the entries, the matrix and the zones of the channels. -/
theorem State.gwZoneOf_keeps (s : State) (n : Nat) (z : Option Nat) :
    (s.gwZoneOf n z).gw = s.gw ∧ (s.gwZoneOf n z).zon.permit = s.zon.permit ∧ (s.gwZoneOf n z).zon.chan = s.zon.chan := by
  unfold State.gwZoneOf
  split
  · split <;> exact ⟨rfl, rfl, rfl⟩
  · exact ⟨rfl, rfl, rfl⟩

theorem gwDownWrite_lines (r : Req) (s : State) : (gwDownWrite.run r s).st.lines = s.lines := by
  unfold gwDownWrite
  dsimp only
  split
  · rw [State.gwZoneOf_lines]
    split
    · rw [State.gwZoneOf_lines]
      rfl
    · rfl
  · split
    · rw [State.gwZoneOf_lines]
      rfl
    · rfl

/-- The entry is written whatever zones the streams take. -/
theorem gwDownWrite_keeps (r : Req) (s : State) :
    (gwDownWrite.run r s).st.gw = (s.modEnt true (r.fld 1 35 26) fun e => e.write (r.bit 1 25) r.words s.tim.ticks).gw ∧
      (gwDownWrite.run r s).st.zon.permit = s.zon.permit ∧ (gwDownWrite.run r s).st.zon.chan = s.zon.chan := by
  unfold gwDownWrite
  dsimp only
  generalize hs1 : s.modEnt true (r.fld 1 35 26) (fun e => e.write (r.bit 1 25) r.words s.tim.ticks) = s1
  have hz : s1.zon = s.zon := by rw [← hs1]; rfl
  have h2 (c : Prop) [Decidable c] (n : Nat) (z : Option Nat) (u : State) :
      (if c then u.gwZoneOf n z else u).gw = u.gw ∧ (if c then u.gwZoneOf n z else u).zon.permit = u.zon.permit ∧
        (if c then u.gwZoneOf n z else u).zon.chan = u.zon.chan := by
    split
    · exact u.gwZoneOf_keeps n z
    · exact ⟨rfl, rfl, rfl⟩
  obtain ⟨a1, a2, a3⟩ := h2 ((s.downEnt (r.fld 1 35 26)).valid = true) ((s.downEnt (r.fld 1 35 26)).fld 1 24 11) none s1
  obtain ⟨b1, b2, b3⟩ := h2 (r.bit 1 25 = true) (r.fld 1 24 11) (some (s.zon.chanZone (r.fld 4 35 31)))
    (if (s.downEnt (r.fld 1 35 26)).valid = true then s1.gwZoneOf ((s.downEnt (r.fld 1 35 26)).fld 1 24 11) none else s1)
  exact ⟨b1.trans a1, b2.trans (a2.trans (by rw [hz])), b3.trans (a3.trans (by rw [hz]))⟩

/-- Settles O12: one bundle, entry or slot changes. -/
theorem gatewayCommandsWriteAndReadEntries : Obligations.GatewayCommandsWriteAndReadEntries := by
  unfold Obligations.GatewayCommandsWriteAndReadEntries
  refine ⟨?_, ?_, ?_, ?_, ?_, ?_, ?_⟩
  · refine does_run rfl (fun _ _ => rfl) fun r s _ => ⟨_, _, rfl, (State.closeBundle_lines _ _ :), fun t hw _ => ⟨rfl, ?_⟩⟩
    rw [State.bundle_of_wide hw, State.bundle_modBundle, if_pos rfl]
    have hacf := (s.taken r.path).acf_closeBundle (r.fld 1 35 30)
    split <;> simp_all
  · refine does_run rfl (fun _ _ => rfl) fun r s _ => ⟨_, _, rfl, rfl, fun t hw _ => ⟨rfl, fun i => ?_⟩⟩
    rw [State.upEnt_of_wide hw, State.upEnt_modEnt]
    rfl
  · refine does_run rfl (fun _ _ => rfl) fun r s _ => ⟨(gwDownWrite.run r _).st, _, rfl, gwDownWrite_lines r _, fun t hw _ => ⟨rfl, ?_⟩⟩
    obtain ⟨h1, h2, h3⟩ := gwDownWrite_keeps r (s.taken r.path)
    rw [State.zon_of_wide hw]
    refine ⟨fun i => ?_, h2, h3⟩
    rw [State.downEnt_of_wide hw, State.downEnt, h1, ← State.downEnt, State.downEnt_modEnt]
    rfl
  · refine does_run rfl (fun _ _ => rfl) fun r s _ => ⟨_, _, rfl, rfl, fun t hw _ => ⟨rfl, fun i => ?_⟩⟩
    rw [State.perSlot_of_wide hw, State.perSlot_modSlot]
    cases hb : r.bit 1 27 <;> simp [State.perSlot]
  · refine does_run rfl (fun _ _ => rfl) fun r s ⟨hv, hd, hc⟩ => ⟨_, _, if_pos ?_, rfl, fun t hw _ => ⟨rfl, ?_⟩⟩
    · exact Bool.and_eq_true_iff.mpr ⟨Bool.and_eq_true_iff.mpr ⟨hv, beq_iff_eq.mpr hd⟩, Option.isNone_iff_eq_none.mpr hc⟩
    · rw [State.perSlot_of_wide hw, State.perSlot_slotWrite_self]
      rfl
  · exact reads_intro rfl (fun _ _ => rfl) fun _ _ => rfl
  · refine does_run rfl (fun _ _ => rfl) fun r s _ => ⟨_, _, rfl, ?_, fun t hw _ => ⟨rfl, fun hb => ?_, fun hb hk => ?_⟩⟩
    · split
      · unfold State.gwClear
        split <;> rfl
      · rfl
    · simpa [hb] using hw
    · rw [if_pos hb, hk] at hw
      rw [State.bundle_of_wide hw]
      simp [State.gwClear, State.bundle_modBundle]

end Sys2Proof.Machine
end

section
/-! PROOFS. Core, host and seal commands. -/

namespace Sys2Proof.Machine

/-! ### Cores -/

theorem State.dropToken_lines (s : State) (a obj : Nat) : (s.dropToken a obj).lines = s.lines := by
  unfold State.dropToken
  dsimp only
  split
  · rw [State.raiseDev_lines]
    rfl
  · rfl

theorem State.detach_lines (s : State) (d : Fab) : (s.detach d).lines = s.lines := by
  unfold State.detach
  split
  · dsimp only
    split
    · exact State.dropToken_lines _ _ _
    · exact State.dropToken_lines _ _ _
  · rfl

theorem State.dropLining_lines (s : State) : s.dropLining.lines = s.lines := State.freeBufs_lines _ _

theorem State.arrives_lines (s : State) (die : Nat) : (s.arrives die).lines = s.lines := by
  unfold State.arrives
  split <;> rfl

/-- A core's domain that is powered brings its die back, and nothing on a path changes. -/
theorem State.domTo_core_lines (s : State) (d : Fab) : (s.domTo (coreDom d) .on).lines = s.lines := by
  have hcond (c : Prop) [Decidable c] (u : State) (n : Nat) (h : u.lines = s.lines) : (if c then s else u.arrives n).lines = s.lines := by
    split
    · rfl
    · rw [State.arrives_lines, h]
  cases d
  · exact hcond _ _ 1 rfl
  · exact hcond _ _ 2 rfl

theorem State.startCore_lines (s : State) (d : Fab) (n : Nat) : (s.startCore d n).lines = s.lines := by
  unfold State.startCore
  dsimp only
  generalize hs1 : (if s.dom (coreDom d) = .on then s else s.domTo (coreDom d) .on) = s1
  have h1 : s1.lines = s.lines := by
    rw [← hs1]
    split
    · rfl
    · exact s.domTo_core_lines d
  exact h1

theorem State.restartStandby_lines (s : State) (n : Nat) : (s.restartStandby n).lines = s.lines := by
  unfold State.restartStandby
  dsimp only
  rw [State.startCatchUp_lines, State.modPair_lines, State.startCore_lines, State.dropLining_lines, State.detach_lines]

theorem State.tripwire_lines (s : State) (c : Fab) (b : Bool) : (s.tripwire c b).lines = s.lines := by
  unfold State.tripwire
  dsimp only
  split
  · rfl
  · exact State.coreTick_lines _ _ _ _

theorem State.selfTrip_lines (s : State) (c : Fab) (x y z : Bool) : (s.selfTrip c x y z).lines = s.lines := by
  unfold State.selfTrip
  dsimp only
  split
  · refine (State.modCore_lines _ _ _).trans ?_
    rw [State.tripwire_lines, State.tripwire_lines, State.tripwire_lines, State.modCore_lines]
  · rw [State.tripwire_lines, State.tripwire_lines, State.tripwire_lines, State.modCore_lines]

theorem State.holdParity_lines (s : State) (c : Fab) : (s.holdParity c).lines = s.lines := by
  unfold State.holdParity
  dsimp only
  split
  · refine (State.modCore_lines _ _ _).trans ?_
    rw [State.modCore_lines, State.coreTick_lines]
  · rw [State.modCore_lines, State.coreTick_lines]

theorem coreSelftest_lines (r : Req) (s : State) : (coreSelftest.run r s).st.lines = s.lines := by
  unfold coreSelftest
  dsimp only
  split
  · rw [State.selfTrip_lines]
    rfl
  · rw [State.holdParity_lines, State.selfTrip_lines]
    rfl

theorem coreSelftest_free (r : Req) (s : State) : (coreSelftest.run r s).st.free = s.free + 1 := by
  have hs (u v : State) (h : v.wide = u.wide) : v.free = u.free := State.free_of_wide h
  unfold coreSelftest
  dsimp only
  split
  · exact hs s.useFree _ (by simp)
  · exact hs s.useFree _ (by simp)

/-- What the journal leaves of a core: its counters of segments and of odd results. -/
theorem State.core_of_deep {s t : State} (h : t.deep = s.deep) (d : Fab) :
    (t.core d).segments = (s.core d).segments ∧ (t.core d).oddA = (s.core d).oddA := by
  have hp := State.pairRest_of_deep h
  have hw := congrArg PairSt.west hp
  have he := congrArg PairSt.east hp
  cases d
  · exact ⟨(congrArg CoreSt.segments hw :), (congrArg CoreSt.oddA hw :)⟩
  · exact ⟨(congrArg CoreSt.segments he :), (congrArg CoreSt.oddA he :)⟩

/-- Settles O13: the pair beside its journal is what the command makes it. -/
theorem coreCommandsGuardSwitchAndTestThePair : Obligations.CoreCommandsGuardSwitchAndTestThePair := by
  unfold Obligations.CoreCommandsGuardSwitchAndTestThePair
  refine ⟨?_, ?_, ?_, ?_, ?_, ?_, ?_⟩
  · exact reads_intro rfl (fun _ _ => rfl) fun _ _ => rfl
  · refine starts_intro rfl (fun _ _ => rfl) fun r s _ => ⟨rfl, rfl, fun t _ hw hd => ?_⟩
    have hp := State.pairRest_of_deep hd
    exact ⟨(congrArg PairSt.promoting hp :), (congrArg PairSt.waiter hp :), (congrArg PairSt.active hp :), hw⟩
  · refine does_run rfl (fun _ _ => rfl) fun r s _ => ⟨_, _, rfl, rfl, fun t hw hd => ⟨rfl, ?_, hw⟩⟩
    exact congrArg PairSt.guard (State.pairRest_of_deep hd)
  · exact reads_intro rfl (fun _ _ => rfl) fun _ _ => rfl
  · refine does_run rfl (fun _ _ => rfl) fun r s _ => ⟨_, _, rfl, ?_, fun t hw hd => ⟨rfl, ?_, fun hb => ?_⟩⟩
    · split <;> rfl
    · rw [hw]
      split <;> rfl
    · rw [if_pos hb] at hd
      obtain ⟨h1, h2⟩ := State.core_of_deep hd r.dieBit
      rw [h1, h2, State.core_modCore]
      exact ⟨rfl, rfl⟩
  · refine does_run rfl (fun _ _ => rfl) fun r s hc => ⟨(s.taken r.path).restartStandby s.img.runSlot, [], ?_,
      State.restartStandby_lines _ _, fun t _ hd => ⟨rfl, State.pairRest_of_deep hd⟩⟩
    exact congrArg (fun u : State => ({ st := u } : Reply)) (if_neg hc)
  · refine does_run rfl (fun _ _ => rfl) fun r s _ => ⟨(coreSelftest.run r _).st, _, rfl, coreSelftest_lines r _, fun t hw _ => ⟨rfl, ?_⟩⟩
    rw [State.free_of_wide hw, coreSelftest_free, State.taken_free]

/-! ### Host and seal -/

theorem State.path_taken (s : State) (p : Path) : (s.taken p).path p = { s.path p with waiting := (s.path p).waiting.drop 1 } :=
  State.path_modPath _ _ _

theorem State.ring_taken (s : State) (p : Path) (rx : Bool) (n : Nat) : (s.taken p).ring p rx n = s.ring p rx n := by
  unfold State.ring
  rw [State.path_taken]

/-- The counter of frames that find no ring is no part of a path. -/
theorem State.noRing_taken (s : State) (p q : Path) (n : Nat) : (s.taken p).host.noRing q n = s.host.noRing q n := by
  cases p <;> rfl

theorem State.modRing_lines (s : State) (p : Path) (rx : Bool) (n : Nat) (f : Ring → Ring) : (s.modRing p rx n f).lines = s.lines := by
  refine State.modPath_lines s p _ ?_ ?_ ?_ ?_ <;> intro q <;> cases rx <;> rfl

theorem State.clearRing_lines (s : State) (p : Path) (rx : Bool) (n : Nat) : (s.clearRing p rx n).lines = s.lines := by
  unfold State.clearRing
  dsimp only
  split
  · refine Eq.trans ?_ (s.modRing_lines p rx n fun g => { g with frames := 0, octets := 0, errors := 0 })
    funext q
    cases q <;> split <;> rfl
  · exact State.modRing_lines _ _ _ _ _

/-- Settles O15: what the mailbox does with the request leaves the logs and rings of its path. -/
theorem hostAndSealCommandsAnswer : Obligations.HostAndSealCommandsAnswer := by
  unfold Obligations.HostAndSealCommandsAnswer
  refine ⟨?_, ?_, ?_, ?_, ?_, ?_⟩
  · exact reads_intro rfl (fun _ _ => rfl) fun _ _ => rfl
  · exact reads_intro rfl (fun _ _ => rfl) fun _ _ => rfl
  · refine does_run rfl (fun _ _ => rfl) fun r s _ => ⟨_, _, rfl, ?_, fun t hw _ => ⟨?_, ?_⟩⟩
    · split
      · exact State.modPath_lines _ _ _ (fun _ => rfl) (fun _ => rfl) (fun _ => rfl) fun _ => rfl
      · rfl
    · rw [State.path_taken]
    · rw [hw]
      split <;> rfl
  · refine does_run rfl (fun _ _ => rfl) fun r s _ => ⟨_, _, rfl, ?_, fun t hw _ => ⟨?_, ?_⟩⟩
    · split
      · exact State.clearRing_lines _ _ _ _
      · rfl
    · rw [State.ring_taken, State.noRing_taken]
    · rw [hw]
      split
      · rw [State.clearRing_wide, State.taken_wide]
      · rfl
  · refine starts_intro rfl (fun _ _ => rfl) fun r s _ => ⟨rfl, rfl, fun t _ hw hd => ?_⟩
    have hl := State.sealRest_of_deep hd
    exact ⟨congrArg SealSt.commit hl, congrArg SealSt.commitOf hl, hw⟩
  · exact reads_intro rfl (fun _ _ => rfl) fun _ _ => rfl

end Sys2Proof.Machine
end

section
/-! PROOFS. Key and cipher commands. -/

namespace Sys2Proof.Machine

open Sys2Proof.Crypto

/-! ### Requests that end in a result other than DONE -/

/-- A request that the core takes is judged in the state in which its path has given it up, and the slices are those of the judgement. -/
theorem mailbox_wide_judge (sp : CmdSpec) (r : Req) (s : State) (hs : s.serves sp.opcode r) :
    (mailbox sp r s).wide = (sp.judge r (s.taken r.path)).1.st.wide := by
  obtain ⟨hfl, ⟨sq, bufs, hw⟩, hrun, hheld, hpr, hg, hrs, hcu, hlk, hact, hhalt⟩ := hs
  have hloc : r.isLocal = false := by simp [Req.isLocal, hfl]
  have htarget : s.target r = s.pair.active := by simp [State.target, hloc]
  have hgo : s.serveHow sp r = .go := by
    simp [State.serveHow, hloc, htarget, hpr, hg, hrs, hcu, hlk, hact, hhalt]
  have hready : (s.path r.path).ready = true := by simp [PathSt.ready, hrun, hheld]
  have hhead : (s.path r.path).headIs sp.opcode r = true := by simp [PathSt.headIs, hw]
  have hserve : sp.serve r s = sp.take { opcode := sp.opcode, req := r, seq := sq, bufs := bufs } s := by
    unfold CmdSpec.serve
    rw [hw]
    simp [hready, hgo]
  have htake (pd : Pend) : (sp.take pd s).wide = (sp.judge pd.req (s.taken pd.req.path)).1.st.wide := by
    unfold CmdSpec.take State.taken
    dsimp only
    repeat' split
    all_goals simp
  unfold mailbox
  rw [if_pos hhead, hserve, State.answerBad_wide, htake]

/-- The checks of a plain request lead to its execution, and the state is kept unless it fails without KEEP. -/
theorem CmdSpec.judge_keeps_run (sp : CmdSpec) (r : Req) (s : State) (h : sp.plain r s)
    (hk : (sp.run r s).later = true ∨ (sp.run r s).code = .done ∨ (sp.run r s).keep = true) :
    (sp.judge r s).1.st = (sp.run r s).st := by
  obtain ⟨h1, h2, h3, h4, h5⟩ := h
  unfold CmdSpec.judge
  simp only [h1, h2, h3, h4, h5]
  simp only [Bool.not_true, Bool.false_eq_true, if_false]
  repeat' split
  all_goals first | rfl | simp_all

/-! ### The key store -/

theorem State.clearBlobs_lines (s : State) (img : Nat) (f : Nat → Bool) : (s.clearBlobs img f).lines = s.lines := by
  unfold State.clearBlobs
  refine State.foldl_lines _ (fun u r => ?_) _ _
  split <;> rfl

theorem State.clearBlobs_key (s : State) (img : Nat) (f : Nat → Bool) : (s.clearBlobs img f).key = s.key :=
  congrArg Slices.key (s.clearBlobs_onlyIn img f)

theorem State.slot_setSlot (s : State) (h j : Nat) (k : KeySlot) : (s.setSlot h k).slot j = if j = h then k else s.slot j :=
  Tbl.get_put _ _ _ _ _

theorem State.slot_of_wide {s t : State} (h : t.wide = s.wide) (n : Nat) : t.slot n = s.slot n := by
  unfold State.slot
  rw [State.key_of_wide h]

theorem State.keyId_of_wide {s t : State} (h : t.wide = s.wide) : t.keyId = s.keyId := by
  unfold State.keyId State.keyed
  rw [State.key_of_wide h]

/-- Without PERSIST a key goes to its slot and nowhere else. -/
theorem State.makeKey_volatile (s : State) (r : Req) (k : KeySlot) (h : r.bit 1 15 = false) :
    s.makeKey r k = { st := s.setSlot (r.fld 1 35 24) k, payload := [k.attr (r.fld 1 35 24)] } := by
  unfold State.makeKey
  split
  · simp [h]
  · rfl

theorem keyProvision_lines (r : Req) (s : State) : (keyProvision.run r s).st.lines = s.lines := by
  unfold keyProvision
  dsimp only
  rw [State.dropToken_lines, State.clearBlobs_lines]
  generalize hs1 : (s.takeToken 1 0).zeroize = s1
  have h1 : s1.lines = s.lines := by rw [← hs1, State.zeroize, State.modKey_lines, State.takeToken_lines]
  split <;> exact h1

/-- PROVISION leaves no key, no lock, and the root secret drawn or none. -/
theorem keyProvision_key (r : Req) (s : State) :
    (keyProvision.run r s).st.key.slots = [] ∧ (keyProvision.run r s).st.key.lock = none ∧
      (keyProvision.run r s).st.key.rs = if r.bit 1 35 = true then none else some (beBytes 48 (s.freeBelow (2 ^ 384))) := by
  unfold keyProvision
  dsimp only
  rw [State.key_of_wide (State.dropToken_wide _ _ _), State.clearBlobs_key]
  have hfree : (s.takeToken 1 0).free = s.free := State.free_of_wide (s.takeToken_wide 1 0)
  generalize s.takeToken 1 0 = s0 at hfree
  have hdraw : s0.zeroize.freeBelow (2 ^ 384) = s.freeBelow (2 ^ 384) := by
    unfold State.freeBelow
    rw [← hfree]
    rfl
  split
  · exact ⟨rfl, rfl, rfl⟩
  · refine ⟨rfl, rfl, ?_⟩
    rw [← hdraw]
    rfl

theorem State.endSession_lines (s : State) : s.endSession.lines = s.lines := by
  unfold State.endSession
  rw [State.detach_lines, State.detach_lines]
  rfl

theorem State.session_endSession (s : State) : s.endSession.key.session = none := by
  unfold State.endSession
  rw [State.key_of_wide (State.detach_wide _ _), State.key_of_wide (State.detach_wide _ _)]
  rfl

/-- OPEN uses the nonce up, whatever comes of it, and opens a session under a DEPOT verifier's signature only. -/
theorem keySession_open (r : Req) (s : State) (n : Nat × Nat) (h1 : r.fld 1 35 34 = 1) (hn : s.key.nonce = some n) :
    ((keySession.run r s).later = true ∨ (keySession.run r s).code = .done ∨ (keySession.run r s).keep = true) ∧
    (keySession.run r s).st.key.nonce = none ∧
    ((keySession.run r s).st.key.session ≠ s.key.session → ∃ v, s.key.depotSlot v = true ∧
      verifies (val32 ((r.words.drop 1).take 12)) (val32 (r.words.drop 13)) (s.sessionDigest n.1) (s.key.vhash v) = true) := by
  unfold keySession
  simp only [h1, hn]
  split
  case h_1 v hv =>
    refine ⟨.inr (.inl rfl), rfl, fun _ => ⟨v, ?_⟩⟩
    have hfound := List.find?_some hv
    exact Bool.and_eq_true_iff.mp hfound
  case h_2 => exact ⟨.inr (.inr rfl), rfl, fun h => absurd rfl h⟩

theorem State.sessionDigest_taken (s : State) (p : Path) (n : Nat) : (s.taken p).sessionDigest n = s.sessionDigest n := by
  cases p <;> rfl

/-- DELETE empties its slot, and the engine's lock does not stay on it. -/
theorem keyDelete_key (r : Req) (s : State) :
    (∀ h, (keyDelete.run r s).st.slot h = if h = r.fld 1 35 24 then {} else s.slot h) ∧
      ∀ l, (keyDelete.run r s).st.key.lock = some l → l.handle ≠ r.fld 1 35 24 := by
  unfold keyDelete
  dsimp only
  have hkey := ((s.setSlot (r.fld 1 35 24) {}).clearBlobs_key s.img.runSlot fun x => x == r.fld 1 35 24)
  generalize (s.setSlot (r.fld 1 35 24) {}).clearBlobs s.img.runSlot (fun x => x == r.fld 1 35 24) = u at hkey
  refine ⟨fun h => ?_, fun l hl => ?_⟩
  · refine Eq.trans ?_ (State.slot_setSlot s (r.fld 1 35 24) h {})
    unfold State.slot
    rw [← hkey]
    rfl
  · unfold State.modKey at hl
    dsimp only at hl
    split at hl
    case h_1 m _ =>
      split at hl
      · cases hl
      · cases hl
        assumption
    case h_2 => cases hl

/-- Settles O16: the slots, the tamper inputs, the verifiers and the session are what the command leaves of them. -/
theorem keyStoreTamperAndSessionCommands : Obligations.KeyStoreTamperAndSessionCommands := by
  unfold Obligations.KeyStoreTamperAndSessionCommands
  refine ⟨⟨?_, ?_, ?_, ?_, ?_⟩, ?_, ?_, ?_, ?_, ?_, ?_⟩
  · refine does_run rfl (fun _ _ => rfl) fun r s _ => ⟨(keyProvision.run r _).st, _, rfl, keyProvision_lines r _, fun t hw _ => ⟨?_, ?_⟩⟩
    · rw [State.keyId_of_wide hw]
      rfl
    · rw [State.key_of_wide hw]
      exact keyProvision_key r _
  · refine does_run rfl (fun _ _ => rfl) fun r s hc => ⟨_, _, State.makeKey_volatile _ _ _ hc, rfl, fun t hw _ => ⟨rfl, ?_, fun h => ?_⟩⟩
    · exact State.free_of_wide hw
    · rw [State.slot_of_wide hw, State.slot_setSlot]
      rfl
  · refine does_run rfl (fun _ _ => rfl) fun r s ⟨hp, hu⟩ =>
      ⟨_, _, (if_neg (by simp [hu])).trans (State.makeKey_volatile _ _ _ hp), rfl, fun t hw _ => ⟨rfl, fun h => ?_⟩⟩
    rw [State.slot_of_wide hw, State.slot_setSlot]
    rfl
  · refine does_run rfl (fun _ _ => rfl) fun r s ⟨hp, hl⟩ =>
      ⟨_, _, (if_neg hl).trans (State.makeKey_volatile _ _ _ hp), rfl, fun t hw _ => ⟨?_, fun h => ?_⟩⟩
    · rw [State.slot_of_wide hw, State.slot_setSlot, if_pos rfl]
    · rw [State.slot_of_wide hw, State.slot_setSlot]
      rfl
  · refine does_run rfl (fun _ _ => rfl) fun r s _ => ⟨(keyDelete.run r _).st, _, rfl, State.clearBlobs_lines _ _ _, fun t hw _ => ⟨rfl, ?_⟩⟩
    simp only [State.slot_of_wide hw, State.key_of_wide hw]
    exact keyDelete_key r _
  · refine does_run rfl (fun _ _ => rfl) fun r s _ => ⟨_, _, rfl, rfl, fun t hw _ => ⟨rfl, fun k => ?_⟩⟩
    rw [State.tamperCfg, State.key_of_wide hw]
    exact Tbl.get_put _ _ _ _ _
  · refine does_run rfl (fun _ _ => rfl) fun r s hc => ⟨_, _, rfl, rfl, fun t hw _ => ⟨rfl, ?_⟩⟩
    rw [State.key_of_wide hw]
    exact if_pos hc
  · refine does_run rfl (fun _ _ => rfl) fun r s hc => ⟨_, _, rfl, rfl, fun t hw _ => ⟨rfl, ?_⟩⟩
    rw [State.key_of_wide hw]
    simp [State.modKey, hc]
  · refine does_run rfl (fun _ _ => rfl) fun r s hc => ⟨((s.taken r.path).modKey fun k =>
      { k with nonce := some (s.freeBelow (2 ^ 256), s.tim.ticks) }).useFree, _, ?_, rfl, fun t hw _ => ⟨rfl, ?_, ?_⟩⟩
    · simp only [keySession, hc]
      rfl
    · exact State.free_of_wide hw
    · exact State.key_of_wide hw
  · refine does_run rfl (fun _ _ => rfl) fun r s hc => ⟨(s.taken r.path).endSession, [], ?_, State.endSession_lines _, fun t hw _ => ⟨rfl, ?_⟩⟩
    · obtain ⟨k, hk⟩ : ∃ k, r.fld 1 35 34 = k + 2 := ⟨r.fld 1 35 34 - 2, by omega⟩
      simp only [keySession, hk]
    · rw [State.key_of_wide hw, State.session_endSession]
  · intro r s n hs hp h1 hn
    obtain ⟨hk, hnonce, hsess⟩ := keySession_open r (s.taken r.path) n h1 hn
    have hw : (mailbox keySession r s).wide = (keySession.run r (s.taken r.path)).st.wide := by
      rw [mailbox_wide_judge keySession r s hs, CmdSpec.judge_keeps_run keySession r _ hp hk]
    refine ⟨_, rfl, ?_, ?_⟩
    · rw [State.key_of_wide hw, hnonce]
    · rw [State.key_of_wide hw]
      rw [State.sessionDigest_taken] at hsess
      exact hsess

/-- Settles O17: reads leave the store, and the engine serves the path that holds its lock. -/
theorem keyReadsAndCipherCommands : Obligations.KeyReadsAndCipherCommands := by
  unfold Obligations.KeyReadsAndCipherCommands
  refine ⟨?_, ?_, ?_, ?_, ?_, ?_, ?_⟩
  · exact reads_intro rfl (fun _ _ => rfl) fun _ _ => rfl
  · exact reads_intro rfl (fun _ _ => rfl) fun _ _ => rfl
  · refine does_run rfl (fun _ _ => rfl) fun r s _ => ?_
    cases h35 : r.bit 1 35
    · refine ⟨_, _, if_neg (by simp [h35]), rfl, fun t hw _ => ⟨(if_neg (by simp)).symm, ?_⟩⟩
      simpa using State.key_of_wide hw
    · refine ⟨_, _, if_pos h35, ?_, fun t hw _ => ⟨(if_pos rfl).symm, ?_⟩⟩
      · split <;> rfl
      · rw [State.key_of_wide hw]
        cases h34 : r.bit 1 34 <;> rfl
  · refine does_run rfl (fun _ _ => rfl) fun r s _ => ⟨_, _, rfl, rfl, fun t hw _ => ⟨rfl, State.key_of_wide hw⟩⟩
  · refine does_run rfl (fun _ _ => rfl) fun r s ⟨l, hl, hp⟩ => ⟨(s.taken r.path).modKey fun k =>
      { k with lock := some { l with usedAt := s.tim.ticks }, blocks := add72 k.blocks (r.fld 1 35 31) }, _, ?_, rfl, fun t hw _ => ⟨rfl, ?_⟩⟩
    · simp [cipherBlock, hl, hp, State.keySlot, State.slot, State.keyed]
    · rw [State.key_of_wide hw]
      exact ⟨rfl, rfl⟩
  · refine does_run rfl (fun _ _ => rfl) fun r s ⟨l, hl, hp⟩ =>
      ⟨(s.taken r.path).modKey fun k => { k with lock := none }, [], ?_, rfl, fun t hw _ => ⟨rfl, State.key_of_wide hw⟩⟩
    simp [cipherUnlock, hl, hp]
  · exact reads_intro rfl (fun _ _ => rfl) fun _ _ => rfl

end Sys2Proof.Machine
end

section
/-! PROOFS. Image commands. -/

namespace Sys2Proof.Machine

/-! ### The image slice after an operation on it -/

theorem State.img_updTo (s : State) (m : UpdMode) :
    (s.updTo m).img = { s.img with mode := m, target := if m = .idle then 3 else s.img.target } := by
  unfold State.updTo
  dsimp only
  split
  · rw [State.img_of_wide (State.dropToken_wide _ _ _), State.img_of_wide (State.raiseDev_wide _ _)]
    rfl
  · rw [State.img_of_wide (State.raiseDev_wide _ _)]
    rfl

theorem State.updTo_lines (s : State) (m : UpdMode) : (s.updTo m).lines = s.lines := by
  unfold State.updTo
  dsimp only
  split
  · rw [State.dropToken_lines, State.raiseDev_lines, State.modImg_lines]
  · rw [State.raiseDev_lines, State.modImg_lines]

theorem State.img_slotTo (s : State) (n : Nat) (m : SlotMode) :
    (s.slotTo n m).img = if n ≤ 1 then s.img.setWords n 0 [m.word] else s.img := by
  unfold State.slotTo
  split
  · exact State.img_of_wide (State.raiseDev_wide _ _)
  · rfl

theorem State.slotTo_lines (s : State) (n : Nat) (m : SlotMode) : (s.slotTo n m).lines = s.lines := by
  unfold State.slotTo
  split
  · rw [State.raiseDev_lines, State.modImg_lines]
  · rfl

/-- The words of the slots apart, writing words changes nothing. -/
theorem ImgSt.setWords_keeps (g : ImgSt) (n w : Nat) (ws : List Word) :
    (g.setWords n w ws).mode = g.mode ∧ (g.setWords n w ws).runSlot = g.runSlot ∧ (g.setWords n w ws).target = g.target ∧
      (g.setWords n w ws).written = g.written := by
  unfold ImgSt.setWords
  split <;> exact ⟨rfl, rfl, rfl, rfl⟩

theorem State.slotTo_keeps (s : State) (n : Nat) (m : SlotMode) :
    (s.slotTo n m).img.mode = s.img.mode ∧ (s.slotTo n m).img.runSlot = s.img.runSlot ∧ (s.slotTo n m).img.target = s.img.target := by
  rw [State.img_slotTo]
  split
  · obtain ⟨h1, h2, h3, -⟩ := s.img.setWords_keeps n 0 [m.word]
    exact ⟨h1, h2, h3⟩
  · exact ⟨rfl, rfl, rfl⟩

/-- Words written into a slot of the flash are read back. -/
theorem ImgSt.word_setWords (g : ImgSt) (n w i : Nat) (ws : List Word) (hn : n ≤ 1) (hi : i < ws.length) (hw : w + i ≤ 838859) :
    (g.setWords n w ws).word n (w + i) = ws[i] := by
  unfold ImgSt.word
  rw [if_neg (by omega), if_pos hw]
  have hget (t : Tbl Word) : Tbl.get erasedAt (Tbl.puts erasedAt t w ws) (w + i) = ws[i] := by simp [Tbl.get_puts, hi]
  unfold ImgSt.setWords ImgSt.slot
  by_cases h0 : n = 0
  · simpa [h0] using hget g.slotA
  · simpa [h0] using hget g.slotB

theorem State.img_domTo_core (s : State) (d : Fab) : (s.domTo (coreDom d) .on).img = s.img := by
  have hcond (c : Prop) [Decidable c] (u : State) (n : Nat) (h : u.img = s.img) : (if c then s else u.arrives n).img = s.img := by
    split
    · rfl
    · unfold State.arrives
      split <;> exact h
  cases d
  · exact hcond _ _ 1 rfl
  · exact hcond _ _ 2 rfl

theorem State.img_loadFirmware (s : State) (d : Fab) (n : Nat) :
    ∃ a b, (s.loadFirmware d n).img = { s.img with verW := a, verE := b } := by
  cases d
  · exact ⟨s.img.version n, s.img.verE, rfl⟩
  · exact ⟨s.img.verW, s.img.version n, rfl⟩

theorem State.img_startCore (s : State) (d : Fab) (n : Nat) : ∃ a b, (s.startCore d n).img = { s.img with verW := a, verE := b } := by
  have hon : (if s.dom (coreDom d) = .on then s else s.domTo (coreDom d) .on).img = s.img := by
    split
    · rfl
    · exact s.img_domTo_core d
  unfold State.startCore
  dsimp only
  generalize (if s.dom (coreDom d) = .on then s else s.domTo (coreDom d) .on) = u at hon
  obtain ⟨a, b, h⟩ := (u.modCore d CoreSt.fresh).img_loadFirmware d n
  refine ⟨a, b, h.trans ?_⟩
  rw [← hon]
  rfl

/-- The standby that starts again loads its firmware, whose version the image slice notes; the rest of that slice stays. -/
theorem State.img_restartStandby (s : State) (n : Nat) :
    ∃ a b, (s.restartStandby n).img = { s.img with verW := a, verE := b } := by
  have hkept : (s.detach s.standby).dropLining.img = s.img := by
    rw [State.img_of_wide (State.dropLining_wide _), State.img_of_wide (s.detach_wide s.standby)]
  obtain ⟨a, b, h⟩ := (s.detach s.standby).dropLining.img_startCore s.standby n
  refine ⟨a, b, ?_⟩
  unfold State.restartStandby
  dsimp only
  rw [State.img_of_wide (State.startCatchUp_wide _), ← hkept, ← h]
  rfl

theorem State.verifyReport_lines (s : State) (n : Nat) : (s.verifyReport n).lines = s.lines := rfl

theorem State.imageValid_taken (s : State) (p : Path) (n : Nat) : (s.taken p).imageValid n = s.imageValid n := rfl

/-- VERIFY ends in VERIFIED where the image is valid and newer, in LOADING where not, and keeps that state in both cases. -/
theorem imgVerify_mode (r : Req) (s : State) :
    ((imgVerify.run r s).later = true ∨ (imgVerify.run r s).code = .done ∨ (imgVerify.run r s).keep = true) ∧
    (imgVerify.run r s).st.img.mode =
      if s.imageValid s.img.target ∧ s.img.sequence s.img.runSlot < s.img.sequence s.img.target then .verified else .loading := by
  unfold imgVerify
  dsimp only
  split
  · exact ⟨.inr (.inl rfl), by rw [State.img_updTo]⟩
  · exact ⟨.inr (.inr rfl), by rw [State.img_updTo]⟩

theorem State.fallBack_lines (s : State) (why : Nat) : (s.fallBack why).lines = s.lines := by
  unfold State.fallBack
  dsimp only
  rw [State.modPair_lines, State.updTo_lines, State.rejectTarget, State.modImg_lines, State.slotTo_lines]

/-- A fall-back notes its cause. -/
theorem State.img_fallBack (s : State) (why : Nat) : (s.fallBack why).img.mode = .fallback ∧ (s.fallBack why).img.lastFallback = why := by
  unfold State.fallBack
  dsimp only
  rw [State.img_of_wide (State.modPair_wide _ _), State.img_updTo]
  exact ⟨rfl, rfl⟩

theorem imgBegin_run {r : Req} {s : State} (hs : s.inSession r = true) (hf : s.img.flash = true) :
    ∃ u, imgBegin.run r s = { st := u, payload := [pack [(35, 1, if s.img.runSlot = 0 then 1 else 0)]] } ∧ u.lines = s.lines ∧
      u.img = { s.img with
        mode := .erasing, target := if s.img.runSlot = 0 then 1 else 0, written := 0, prepared := false, configOnly := false } := by
  refine ⟨_, if_pos (Bool.and_eq_true_iff.mpr ⟨hs, hf⟩), ?_, ?_⟩
  · rw [State.updTo_lines, State.modImg_lines]
    split
    · exact State.takeToken_lines _ _ _
    · rfl
  · have hi : (if s.img.mode = .idle then s.takeToken 0 0 else s).img = s.img := by
      split
      · exact State.img_of_wide (s.takeToken_wide 0 0)
      · rfl
    generalize (if s.img.mode = .idle then s.takeToken 0 0 else s) = v at hi
    rw [State.img_updTo, ← hi]
    rfl

theorem imgPrepare_run {r : Req} {s : State} (hk : s.key.rs.isSome = true) (hs : s.inSession r = true) (hc : s.img.configOnly = false)
    (hp : s.img.prepared = false) (hn : s.neededKeys = []) (hroom : s.img.room s.img.target (s.img.blobs s.img.target).2 0 = true) :
    ∃ u, imgPrepare.run r s = { st := u, payload := [pack [(28, 8, 0)]] } ∧ u.lines = s.lines ∧
      u.img.mode = .prepared ∧ u.img.prepared = true := by
  obtain ⟨rs, hrs⟩ := Option.isSome_iff_exists.mp hk
  have happ : s.appendBlobs s.img.target [] = some (s.modImg fun g => g.setWords s.img.target (s.img.blobs s.img.target).2 []) := if_pos hroom
  refine ⟨((s.modImg fun g => g.setWords s.img.target (s.img.blobs s.img.target).2 []).modImg fun g => { g with prepared := true }).updTo .prepared,
    ?_, ?_, ?_, ?_⟩
  · simp only [imgPrepare, hrs, hs, hc, hp, hn, List.map_nil, List.flatten_nil, happ]
    rfl
  · rw [State.updTo_lines]
    rfl
  · rw [State.img_updTo]
  · rw [State.img_updTo]
    rfl

theorem imgHandover_run {r : Req} {s : State} (hs : s.inSession r = true) (hm : s.pair.mode = .normal) (hc : s.img.configOnly = false)
    (hl : s.img.liningMinOf s.img.target ≤ s.img.liningVerOf s.img.runSlot) :
    ∃ u, imgHandover.run r s = { st := u, later := true } ∧ u.lines = s.lines ∧
      u.img.mode = .handover ∧ u.img.waiter = some r.path ∧ u.img.handoverAt = s.tim.ticks := by
  refine ⟨_, if_pos ⟨hs, hm, hc, hl⟩, ?_, ?_⟩
  · rw [State.restartStandby_lines, State.modImg_lines, State.updTo_lines]
  · generalize hu : (s.updTo .handover).modImg (fun g => { g with handoverAt := s.tim.ticks, waiter := some r.path }) = u
    obtain ⟨a, b, h⟩ := u.img_restartStandby u.img.target
    have hi : u.img = { (s.updTo .handover).img with handoverAt := s.tim.ticks, waiter := some r.path } := by rw [← hu]; rfl
    rw [h, hi, State.img_updTo]
    exact ⟨rfl, rfl, rfl⟩

/-- A configuration that is confirmed leaves the running image. -/
theorem imgConfirm_run_config {r : Req} {s : State} (hs : s.inSession r = true) (hm : s.img.mode = .verified) (hc : s.img.configOnly = true) :
    ∃ u, imgConfirm.run r s = { st := u } ∧ u.lines = s.lines ∧ u.img.mode = .idle ∧ u.img.runSlot = s.img.runSlot := by
  refine ⟨_, (if_neg (by simp [hs])).trans ((if_pos hm).trans (if_pos hc)), ?_, ?_⟩
  · rw [State.updTo_lines, State.slotTo_lines, State.slotTo_lines]
  · rw [State.img_updTo]
    exact ⟨rfl, (State.slotTo_keeps _ _ _).2.1.trans (State.slotTo_keeps _ _ _).2.1⟩

/-- A trial that is confirmed makes the target the running image. -/
theorem imgConfirm_run_trial {r : Req} {s : State} (hs : s.inSession r = true) (hm : s.img.mode = .trial) :
    ∃ u, imgConfirm.run r s = { st := u } ∧ u.lines = s.lines ∧ u.img.mode = .confirming ∧ u.img.runSlot = s.img.target := by
  refine ⟨_, (if_neg (by simp [hs])).trans (if_neg (by simp [hm])), ?_, ?_⟩
  · rw [State.restartStandby_lines, State.updTo_lines, State.modKey_lines, State.modImg_lines, State.slotTo_lines, State.slotTo_lines]
  · have ht : ((s.slotTo s.img.target .confirmed).slotTo s.img.runSlot .superseded).img.target = s.img.target :=
      (State.slotTo_keeps _ _ _).2.2.trans (State.slotTo_keeps _ _ _).2.2
    generalize (s.slotTo s.img.target .confirmed).slotTo s.img.runSlot .superseded = v at ht
    generalize hu : State.updTo _ .confirming = u
    obtain ⟨a, b, h⟩ := u.img_restartStandby u.img.runSlot
    rw [h, ← hu, State.img_updTo]
    exact ⟨rfl, ht⟩

theorem imgRollback_run_trial {r : Req} {s : State} (hs : s.inSession r = true) (hm : s.img.mode = .trial) :
    ∃ u, imgRollback.run r s = { st := u, later := true } ∧ u.lines = s.lines ∧
      u.img.mode = .fallback ∧ u.img.waiter = some r.path ∧ u.img.lastFallback = 1 := by
  refine ⟨_, (if_neg (by simp [hs, hm])).trans (if_pos hm), ?_, ?_⟩
  · rw [State.modImg_lines, State.fallBack_lines]
  · obtain ⟨h1, h2⟩ := s.img_fallBack 1
    generalize s.fallBack 1 = v at h1 h2 ⊢
    exact ⟨h1, rfl, h2⟩

theorem imgRollback_run {r : Req} {s : State} (hs : s.inSession r = true) (ht : s.img.mode ≠ .trial) (hi : s.img.mode ≠ .idle) :
    ∃ u, imgRollback.run r s = { st := u, payload := [0] } ∧ u.lines = s.lines ∧
      u.img.mode = .idle ∧ u.img.runSlot = s.img.runSlot := by
  refine ⟨_, (if_neg (by simp [hs, hi])).trans (if_neg ht), ?_, ?_⟩
  · rw [State.updTo_lines]
    split
    · rfl
    · exact State.slotTo_lines _ _ _
  · rw [State.img_updTo]
    refine ⟨rfl, ?_⟩
    dsimp only
    split
    · rfl
    · exact (State.slotTo_keeps _ _ _).2.1

/-- Settles O18: the update state moves as the command says, and what it writes is read back. -/
theorem updateCommandsLoadVerifyAndSwitch : Obligations.UpdateCommandsLoadVerifyAndSwitch := by
  unfold Obligations.UpdateCommandsLoadVerifyAndSwitch
  refine ⟨⟨?_, ?_, ?_, ?_, ?_⟩, ?_, ?_, ?_, ?_, ?_, ?_⟩
  · exact reads_intro rfl (fun _ _ => rfl) fun _ _ => rfl
  · refine does_run rfl (fun _ _ => rfl) fun r s ⟨hs, hf⟩ => ?_
    obtain ⟨u, hrun, hl, hi⟩ := imgBegin_run (s := s.taken r.path) hs hf
    exact ⟨u, _, hrun, hl, fun t hw _ => ⟨rfl, (State.img_of_wide hw).trans hi⟩⟩
  · refine does_run rfl (fun _ _ => rfl) fun r s ⟨hl, hroom, ht⟩ => ⟨_, _, if_pos ⟨hl, hroom⟩, rfl, fun t hw _ => ⟨rfl, ?_⟩⟩
    rw [State.img_of_wide hw]
    refine ⟨?_, fun i hi => ?_⟩
    · rfl
    · exact ImgSt.word_setWords s.img _ _ i _ ht hi (by omega)
  · intro r s hs hp
    obtain ⟨hk, hm⟩ := imgVerify_mode r (s.taken r.path)
    have hw : (mailbox imgVerify r s).wide = (imgVerify.run r (s.taken r.path)).st.wide := by
      rw [mailbox_wide_judge imgVerify r s hs, CmdSpec.judge_keeps_run imgVerify r _ hp hk]
    refine ⟨_, rfl, ?_⟩
    rw [State.img_of_wide hw, hm]
    rfl
  · refine does_run rfl (fun _ _ => rfl) fun r s ⟨hk, hs, hc, hp, hn, hroom⟩ => ?_
    obtain ⟨u, hrun, hl, hi⟩ := imgPrepare_run (s := s.taken r.path) hk hs hc hp hn hroom
    exact ⟨u, _, hrun, hl, fun t hw _ => ⟨rfl, by rwa [State.img_of_wide hw]⟩⟩
  · refine starts_intro rfl (fun _ _ => rfl) fun r s ⟨hs, hm, hc, hv⟩ => ?_
    obtain ⟨u, hrun, hl, hi⟩ := imgHandover_run (s := s.taken r.path) hs hm hc hv
    rw [hrun]
    exact ⟨rfl, hl, fun t _ hw _ => by rwa [State.img_of_wide hw]⟩
  · refine does_run rfl (fun _ _ => rfl) fun r s ⟨hs, hm, hc⟩ => ?_
    obtain ⟨u, hrun, hl, hi⟩ := imgConfirm_run_config (s := s.taken r.path) hs hm hc
    exact ⟨u, _, hrun, hl, fun t hw _ => ⟨rfl, by rwa [State.img_of_wide hw]⟩⟩
  · refine does_run rfl (fun _ _ => rfl) fun r s ⟨hs, hm⟩ => ?_
    obtain ⟨u, hrun, hl, hi⟩ := imgConfirm_run_trial (s := s.taken r.path) hs hm
    exact ⟨u, _, hrun, hl, fun t hw _ => ⟨rfl, by rwa [State.img_of_wide hw]⟩⟩
  · refine starts_intro rfl (fun _ _ => rfl) fun r s ⟨hs, hm⟩ => ?_
    obtain ⟨u, hrun, hl, hi⟩ := imgRollback_run_trial (s := s.taken r.path) hs hm
    rw [hrun]
    exact ⟨rfl, hl, fun t _ hw _ => by rwa [State.img_of_wide hw]⟩
  · refine does_run rfl (fun _ _ => rfl) fun r s ⟨hs, ht, hi⟩ => ?_
    obtain ⟨u, hrun, hl, hi⟩ := imgRollback_run (s := s.taken r.path) hs ht hi
    exact ⟨u, _, hrun, hl, fun t hw _ => ⟨rfl, by rwa [State.img_of_wide hw]⟩⟩
  · exact reads_intro rfl (fun _ _ => rfl) fun _ _ => rfl

end Sys2Proof.Machine
end

section
/-! PROOFS. Power and pace commands. -/

namespace Sys2Proof.Machine

theorem State.feed_of_wide {s t : State} (h : t.wide = s.wide) (f : Nat) : t.feed f = s.feed f := by
  unfold State.feed
  rw [State.pow_of_wide h]

theorem State.feed_modFeed (s : State) (f k : Nat) (g : Feed → Feed) :
    (s.modFeed f g).feed k = if k = f then g (s.feed k) else s.feed k := Tbl.get_upd _ _ _ _ _

@[simp] theorem State.taken_feed (s : State) (p : Path) (n : Nat) : (s.taken p).feed n = s.feed n := rfl

/-- One change per feed of a list. -/
theorem State.feed_foldl_modFeed (g : Feed → Feed) (fs : List Nat) (hn : fs.Nodup) (s : State) (k : Nat) :
    (fs.foldl (fun t f => t.modFeed f g) s).feed k = if k ∈ fs then g (s.feed k) else s.feed k := by
  induction fs generalizing s with
  | nil => simp
  | cons f fs ih =>
    obtain ⟨hf, hn⟩ := List.nodup_cons.mp hn
    rw [List.foldl_cons, ih hn, State.feed_modFeed]
    by_cases h : k = f
    · subst h; simp [hf]
    · simp [h]

theorem maskList_nodup (m n : Nat) : (maskList m n).Nodup := List.Nodup.filter _ List.nodup_range

/-- What holds of every entry that is put, and of the reset value, holds of every entry. -/
theorem Tbl.get_remap {α : Type} [DecidableEq α] (P : α → Prop) (d : Nat → α) (f : α → α) (hd : ∀ k, P (d k)) (hf : ∀ x, P (f x))
    (t : Tbl α) (k : Nat) : P (Tbl.get d (Tbl.remap d f t) k) := by
  have hfold (l acc : Tbl α) (hacc : P (Tbl.get d acc k)) :
      P (Tbl.get d (l.foldl (fun a e => Tbl.put d a e.1 (f e.2)) acc) k) := by
    induction l generalizing acc with
    | nil => exact hacc
    | cons e l ih =>
      refine ih _ ?_
      rw [Tbl.get_put]
      split
      · exact hf _
      · exact hacc
  exact hfold t [] (hd k)

/-- Settles O19: a feed, a curve or the pacing of one core changes. -/
theorem powerAndPaceCommandsSetAndReturnTheFields : Obligations.PowerAndPaceCommandsSetAndReturnTheFields := by
  unfold Obligations.PowerAndPaceCommandsSetAndReturnTheFields
  refine ⟨⟨?_, ?_, ?_, ?_, ?_, ?_⟩, ?_, ?_, ?_, ?_⟩
  · refine does_run rfl (fun _ _ => rfl) fun r s hc => ⟨_, _, if_pos hc, rfl, fun t hw _ => ⟨rfl, fun k => ?_⟩⟩
    rw [State.pow_of_wide hw]
    exact Tbl.get_put noneAt s.pow.seqs (r.fld 1 35 34) k (some ((r.words.drop 1).map stepOfWord))
  · exact does_run rfl (fun _ _ => rfl) fun r s _ => ⟨_, _, rfl, rfl, fun t hw _ => ⟨rfl, State.pow_of_wide hw⟩⟩
  · refine does_run rfl (fun _ _ => rfl) fun r s _ => ⟨_, _, rfl, rfl, fun t hw _ => ⟨rfl, fun f => ?_⟩⟩
    dsimp only
    rw [State.feed_of_wide hw, State.feed_modFeed]
    rfl
  · refine does_run rfl (fun _ _ => rfl) fun r s _ =>
      ⟨_, _, rfl, State.foldl_lines (fun t f => t.modFeed f _) (fun _ _ => rfl) _ _, fun t hw _ => ⟨rfl, fun f => ?_⟩⟩
    rw [State.feed_of_wide hw]
    exact State.feed_foldl_modFeed _ _ (maskList_nodup _ _) _ _
  · refine does_run rfl (fun _ _ => rfl) fun r s ⟨h1, h2⟩ =>
      ⟨_, _, if_pos (Bool.and_eq_true_iff.mpr ⟨h1, decide_eq_true h2⟩), rfl, fun t hw _ => ⟨rfl, fun k => ?_⟩⟩
    rw [State.pow_of_wide hw]
    exact Tbl.get_put nilAt s.pow.curves _ k _
  · refine does_run rfl (fun _ _ => rfl) fun r s _ => ⟨_, _, rfl, rfl, fun t hw _ => ⟨rfl, ?_⟩⟩
    rw [State.pow_of_wide hw, State.pace_modPace]
  · refine does_run rfl (fun _ _ => rfl) fun r s _ => ⟨_, _, rfl, ?_, fun t hw _ => ⟨rfl, fun hb => ?_, fun hb f => ?_⟩⟩
    · split <;> rfl
    · simpa [hb] using hw
    · rw [if_pos hb] at hw
      rw [State.feed_of_wide hw]
      exact Tbl.get_remap (fun x : Feed => x.trips = 0) _ (fun x => { x with trips := 0 }) (fun _ => rfl) (fun _ => rfl) _ f
  · exact reads_intro rfl (fun _ _ => rfl) fun _ _ => rfl
  · refine does_run rfl (fun _ _ => rfl) fun r s _ => ⟨_, _, rfl, ?_, fun t hw _ => ⟨rfl, fun hb => ?_, fun hb => ?_⟩⟩
    · split <;> rfl
    · simpa [hb] using hw
    · rw [if_pos hb] at hw
      rw [State.pow_of_wide hw, State.pace_modPace]
      rfl
  · exact reads_intro rfl (fun _ _ => rfl) fun _ _ => rfl

end Sys2Proof.Machine
end

section
/-! PROOFS. The device's own frames on their way to an output, and the wake commands. -/

namespace Sys2Proof.Machine

/-! ### A frame of the device itself -/

@[simp] theorem State.modOutPool_lines (s : State) (d : Fab) (o : Nat) (f : OutPool → OutPool) : (s.modOutPool d o f).lines = s.lines :=
  State.modPool_lines _ _ _

@[simp] theorem State.dieTick_lines (s : State) (d : Fab) (old k : Nat) (f : FabSt → FabSt) : (s.dieTick d old k f).lines = s.lines := by
  unfold State.dieTick
  rw [State.satRaise_lines _ _ _ _ (State.raiseDie_lines _ _ _), State.modFab_lines]

@[simp] theorem State.mirrorLost_lines (s : State) (c : Copy) : (s.mirrorLost c).lines = s.lines := by
  unfold State.mirrorLost
  split
  · rfl
  · exact State.dieTick_lines _ _ _ _ _

@[simp] theorem State.countRefuse_lines (s : State) (d : Fab) (c : Copy) (w : Refuse) : (s.countRefuse d c w).lines = s.lines := by
  unfold State.countRefuse
  dsimp only
  rw [State.mirrorLost_lines]
  cases w with
  | flush => exact State.modFab_lines _ _ _
  | limit => exact State.modOutPool_lines _ _ _ _
  | sdu => exact (State.satRaise_lines _ _ _ _ (State.raiseDie_lines _ _ _)).trans (State.modQctr_lines _ _ _ _ _)
  | yellow => exact (State.satRaise_lines _ _ _ _ (State.raiseDie_lines _ _ _)).trans (State.modQctr_lines _ _ _ _ _)

@[simp] theorem State.residence_lines (s : State) (d : Fab) (o : Nat) (f : FrameSt) (ct : Bool) : (s.residence d o f ct).lines = s.lines := by
  unfold State.residence State.outTick
  dsimp only
  split
  · rw [State.raiseDie_lines, State.dieTick_lines]
  · rfl

@[simp] theorem State.admitOne_lines (s : State) (d : Fab) (fid : Nat) (f : FrameSt) (c : Copy) :
    (s.admitOne d fid f c).1.lines = s.lines := by
  unfold State.admitOne
  split
  · rw [State.releaseCopy_lines, State.countRefuse_lines]
  · dsimp only
    refine (State.modQctr_lines _ _ _ _ _).trans ?_
    have hwake (u : State) (b : Prop) [Decidable b] (p : Nat) (g : PortSt → PortSt) : (if b then u.modPort p g else u).lines = u.lines := by
      split <;> rfl
    rw [hwake, State.residence_lines]
    exact (State.modOutPool_lines _ _ _ _).trans ((State.modFab_lines _ _ _).trans (State.modFab_lines _ _ _))

@[simp] theorem State.inject_lines (s : State) (p q : Nat) (m : OwnMsg) (bytes : List Byte) : (s.inject p q m bytes).lines = s.lines := by
  unfold State.inject
  dsimp only
  split
  · exact (State.admitOne_lines _ _ _ _ _).trans (State.modFab_lines _ _ _)
  · rfl

@[simp] theorem State.stackSend1_lines (s : State) (p msg : Nat) (primary : Bool) : (s.stackSend1 p msg primary).lines = s.lines := by
  unfold State.stackSend1
  split
  · exact State.inject_lines _ _ _ _ _
  · rfl

@[simp] theorem State.stackSend_lines (s : State) (msg : Nat) (primary : Bool) : (s.stackSend msg primary).lines = s.lines := by
  unfold State.stackSend
  rw [State.stackSend1_lines, State.stackSend1_lines]

@[simp] theorem State.stackSend_far (s : State) (msg : Nat) (primary : Bool) : (s.stackSend msg primary).far = s.far := by
  have h1 (u : State) (p : Nat) : (u.stackSend1 p msg primary).far = u.far := by
    unfold State.stackSend1
    split
    · exact State.inject_far _ _ _ _ _
    · rfl
  unfold State.stackSend
  rw [h1, h1]

theorem State.pow_of_far {s t : State} (h : t.far = s.far) : t.pow = s.pow := congrArg (·.2.1) h

theorem State.edge_of_far {s t : State} (h : t.far = s.far) : t.edge = s.edge := congrArg (·.2.2.2) h

theorem State.img_of_far {s t : State} (h : t.far = s.far) : t.img = s.img := congrArg (·.1) h

theorem State.key_of_far {s t : State} (h : t.far = s.far) : t.key = s.key := congrArg (·.2.2.1) h

/-! ### Holds and PREPARE -/

theorem State.portSleep_far (s : State) (p : Nat) : (s.portSleep p).far = s.far := by
  unfold State.portSleep
  dsimp only
  generalize hs1 : (if (s.port p).retain = true then s.modPort p _ else s) = s1
  have h1 : s1.far = s.far := by
    rw [← hs1]
    split <;> rfl
  split
  · split <;> rw [State.portTo_far, h1]
  · split
    · exact State.portTo_far _ _ _ _
    · rfl

theorem State.portSleep_lines (s : State) (p : Nat) : (s.portSleep p).lines = s.lines := by
  unfold State.portSleep
  dsimp only
  generalize hs1 : (if (s.port p).retain = true then s.modPort p _ else s) = s1
  have h1 : s1.lines = s.lines := by
    rw [← hs1]
    split <;> rfl
  split
  · split <;> rw [State.portTo_lines, h1]
  · split
    · exact State.portTo_lines _ _ _ _
    · rfl

/-- PREPARE begins: its mode and its instant are all that it writes of the power slice. -/
theorem State.enterPrepare_pow (s : State) : s.enterPrepare.pow = { s.pow with mode := .prepare, prepareAt := s.tim.ticks } := by
  unfold State.enterPrepare
  dsimp only
  generalize hs1 : s.modPow _ = s1
  generalize hs2 : List.foldl _ s1 _ = s2
  have h2 : s2.pow = s1.pow := by
    rw [← hs2]
    refine State.pow_of_far (foldl_far _ (fun u p => ?_) _ _)
    split
    · exact State.portSleep_far _ _
    · rfl
  have h3 (f : LinCh → LinCh) : (s2.linCommanders f).pow = s2.pow := rfl
  have h1 : s1.pow = { s.pow with mode := .prepare, prepareAt := s.tim.ticks } := by rw [← hs1]; rfl
  split
  · rw [State.pow_of_far (State.stackSend_far _ _ _), h3, h2, h1]
  · rw [h3, h2, h1]

theorem State.enterPrepare_lines (s : State) : s.enterPrepare.lines = s.lines := by
  unfold State.enterPrepare
  dsimp only
  generalize hs1 : s.modPow _ = s1
  generalize hs2 : List.foldl _ s1 _ = s2
  have h2 : s2.lines = s1.lines := by
    rw [← hs2]
    refine foldl_lines _ (fun u p => ?_) _ _
    split
    · exact State.portSleep_lines _ _
    · rfl
  have h3 (f : LinCh → LinCh) : (s2.linCommanders f).lines = s2.lines := rfl
  have h1 : s1.lines = s.lines := by rw [← hs1]; rfl
  split
  · rw [State.stackSend_lines, h3, h2, h1]
  · rw [h3, h2, h1]

/-- What stands in the way of sleep is recorded, and no more. -/
theorem State.keepAwake_pow (s : State) (k : KeepRec) : ∃ l n, (s.keepAwake k).pow = { s.pow with keep := l, keepOmitted := n } := by
  unfold State.keepAwake
  dsimp only
  split
  · exact ⟨_, _, rfl⟩
  split
  · exact ⟨_, _, rfl⟩
  split
  · exact ⟨_, _, rfl⟩
  · rw [State.pow_of_wide (State.raiseDev_wide _ _)]
    exact ⟨_, _, rfl⟩

theorem State.keepAwake_lines (s : State) (k : KeepRec) : (s.keepAwake k).lines = s.lines := by
  unfold State.keepAwake
  dsimp only
  split
  · rfl
  split
  · rfl
  split
  · rfl
  · rw [State.raiseDev_lines]
    rfl

theorem State.holds_setHold (s : State) (i : Nat) (h : Option Hold) : (s.setHold i h).pow.holds = Tbl.put noneAt s.pow.holds i h := rfl

/-- A hold taken while AWAKE leaves the device awake with its hold. -/
theorem State.hold_of_awake (s : State) (p : Path) (primary : Bool) (secs : Nat) (h : s.pow.mode = .awake) :
    (s.hold p primary secs).lines = s.lines ∧ (s.hold p primary secs).pow.mode = .awake ∧
      Tbl.get noneAt (s.hold p primary secs).pow.holds (hostPaths.idxOf p) =
        some { until_ := s.tim.ticks + ticksS secs, primary := primary } := by
  unfold State.hold
  dsimp only
  generalize hs1 : s.setHold _ _ = s1
  have hmode : s1.pow.mode = .awake := by rw [← hs1]; exact h
  have hhold : Tbl.get noneAt s1.pow.holds (hostPaths.idxOf p) = some { until_ := s.tim.ticks + ticksS secs, primary := primary } := by
    rw [← hs1, State.holds_setHold, Tbl.get_put, if_pos rfl]
  have hlines : s1.lines = s.lines := by rw [← hs1]; rfl
  simp only [hmode]
  split
  · exact ⟨hlines, hmode, hhold⟩
  · obtain ⟨l, n, hk⟩ := s1.restartTimer.keepAwake_pow { kind := 6, ident := p.owner }
    rw [State.keepAwake_lines, hk]
    exact ⟨hlines, hmode, hhold⟩

theorem wakeHold_hold (r : Req) (s : State) (h : r.fld 1 35 34 = 0) :
    (wakeHold.run r s) = { st := s.hold r.path (r.bit 1 33) (r.fld 1 32 21),
                           payload := [pack [(33, 3, (s.hold r.path (r.bit 1 33) (r.fld 1 32 21)).pow.mode.code)]] } := by
  simp only [wakeHold, h]

theorem wakeHold_release (r : Req) (s : State) (h : r.fld 1 35 34 = 1) (hm : hostPaths.idxOf r.path ∈ s.holders) :
    (wakeHold.run r s) = { st := (s.setHold (hostPaths.idxOf r.path) none).restartTimer, payload := [pack [(33, 3, s.pow.mode.code)]] } := by
  simp only [wakeHold, h, if_pos hm]
  rfl

theorem wakeHold_sleepNow (r : Req) (s : State) (h : 2 ≤ r.fld 1 35 34)
    (hc : s.pow.mode = .awake ∧ s.pow.wake.sleepEn = true ∧ s.holders = [] ∧ s.follows = false) :
    (wakeHold.run r s) = { st := s.enterPrepare, payload := [pack [(33, 3, s.enterPrepare.pow.mode.code)]] } := by
  simp only [wakeHold]
  split
  · omega
  · omega
  · rw [if_pos hc]

/-- Settles O20: the policies, the settings and the holds are parts of the power slice. -/
theorem wakeCommandsHoldReleaseAndRead : Obligations.WakeCommandsHoldReleaseAndRead := by
  unfold Obligations.WakeCommandsHoldReleaseAndRead
  refine ⟨?_, ?_, ?_, ?_, ?_, ?_, ?_, ?_⟩
  · refine does_run rfl (fun _ _ => rfl) fun r s _ => ⟨_, _, rfl, rfl, fun t hw _ => ⟨rfl, fun i => ?_⟩⟩
    rw [State.pow_of_wide hw]
    exact Tbl.get_put WakePolicy.dflt s.pow.policy (r.fld 1 35 30) i _
  · exact does_run rfl (fun _ _ => rfl) fun r s _ => ⟨_, _, rfl, rfl, fun t hw _ => ⟨rfl, State.pow_of_wide hw⟩⟩
  · refine does_run rfl (fun _ _ => rfl) fun r s ⟨h0, hm⟩ => ?_
    obtain ⟨hl, hmode, hhold⟩ := (s.taken r.path).hold_of_awake r.path (r.bit 1 33) (r.fld 1 32 21) hm
    refine ⟨_, _, wakeHold_hold r _ h0, hl, fun t hw _ => ?_⟩
    rw [State.pow_of_wide hw]
    exact ⟨rfl, hmode, hhold⟩
  · refine does_run rfl (fun _ _ => rfl) fun r s ⟨h1, hm⟩ => ⟨_, _, wakeHold_release r _ h1 hm, rfl, fun t hw _ => ?_⟩
    rw [State.pow_of_wide hw]
    exact ⟨rfl, rfl, rfl, (Tbl.get_put noneAt s.pow.holds _ _ none).trans (if_pos rfl)⟩
  · refine does_run rfl (fun _ _ => rfl) fun r s ⟨h2, hc⟩ => ⟨_, _, wakeHold_sleepNow r _ h2 hc, State.enterPrepare_lines _, fun t hw _ => ?_⟩
    rw [State.pow_of_wide hw, State.enterPrepare_pow]
    exact ⟨rfl, rfl, rfl⟩
  · refine does_run rfl (fun _ _ => rfl) fun r s _ => ⟨_, _, rfl, ?_, fun t hw _ => ⟨rfl, ?_⟩⟩
    · split <;> rfl
    · rw [State.pow_of_wide hw]
      split <;> rfl
  · refine does_run rfl (fun _ _ => rfl) fun r s _ => ⟨_, _, rfl, ?_, fun t hw _ => ⟨rfl, fun hb => ?_, fun hb hk => ?_, fun hb hk => ?_⟩⟩
    · split <;> rfl
    · simpa [hb] using hw
    · rw [if_pos hb] at hw
      rw [State.pow_of_wide hw]
      simp [hk, State.modPow, State.taken_pow]
    · rw [if_pos hb] at hw
      rw [State.pow_of_wide hw]
      simp [hk, State.modPow, State.taken_pow]
  · exact reads_intro rfl (fun _ _ => rfl) fun _ _ => rfl

end Sys2Proof.Machine
end

section
/-! PROOFS. What the device's own frames and a wake leave unchanged; stack and diagnosis commands. -/

namespace Sys2Proof.Machine

/-! ### The slices that a frame of the device itself touches -/

/-- Frames and the front ports, whose LPI flag a queued frame sets. -/
abbrev onSend (x y : Slices) : Slices := { x with fabE := y.fabE, fabW := y.fabW, ports := y.ports }

theorem frame_onSend : Frame onSend := ⟨fun _ => rfl, fun _ _ _ => rfl⟩

theorem State.dieTick_onlyIn (s : State) (d : Fab) (old k : Nat) (f : FabSt → FabSt) : s.onlyIn onFab (s.dieTick d old k f) :=
  .of_wide_right (s.modFab_onlyIn d f) (State.satRaise_wide _ _ _ _ (State.raiseDie_wide _ _ _))

theorem State.mirrorLost_onlyIn (s : State) (c : Copy) : s.onlyIn onFab (s.mirrorLost c) := by
  unfold State.mirrorLost
  split
  · exact .refl frame_onFab s
  · exact s.dieTick_onlyIn _ _ _ _

theorem State.countRefuse_onlyIn (s : State) (d : Fab) (c : Copy) (w : Refuse) : s.onlyIn onFab (s.countRefuse d c w) := by
  refine .trans frame_onFab ?_ (State.mirrorLost_onlyIn _ c)
  cases w with
  | flush => exact s.modFab_onlyIn d _
  | limit => exact .of_wide frame_onFab (State.modPool_wide s d _)
  | sdu => exact .of_wide_right (s.modFab_onlyIn d _) (State.satRaise_wide _ _ _ _ (State.raiseDie_wide _ _ _))
  | yellow => exact .of_wide_right (s.modFab_onlyIn d _) (State.satRaise_wide _ _ _ _ (State.raiseDie_wide _ _ _))

theorem State.residence_onlyIn (s : State) (d : Fab) (o : Nat) (f : FrameSt) (ct : Bool) : s.onlyIn onFab (s.residence d o f ct) := by
  unfold State.residence
  exact .ite _ (.of_wide_right (s.dieTick_onlyIn d _ _ _) (State.raiseDie_wide _ _ _)) (.refl frame_onFab s)

theorem State.admitOne_onlyIn (s : State) (d : Fab) (fid : Nat) (f : FrameSt) (c : Copy) : s.onlyIn onSend (s.admitOne d fid f c).1 := by
  have up {u v : State} (h : u.onlyIn onFab v) : u.onlyIn onSend v := h.widen frame_onSend fun _ _ => rfl
  unfold State.admitOne
  split
  · exact up (.trans frame_onFab (s.countRefuse_onlyIn d c _) (State.releaseCopy_onlyIn _ d fid c))
  · refine .trans frame_onSend ?_ (up (State.modFab_onlyIn _ d _))
    have hres (u : State) (n : Nat) : u.onlyIn onSend ((u.heldUp d c.out n).residence d c.out f c.ct) :=
      up (.trans frame_onFab (.of_wide frame_onFab (State.modPool_wide u d _)) (State.residence_onlyIn _ d _ _ _))
    have hfab (g : FrameSt → FrameSt) (g' : FabSt → FabSt) : s.onlyIn onSend ((s.modFrame d fid g).modFab d g') :=
      up (.trans frame_onFab (s.modFab_onlyIn d _) (State.modFab_onlyIn _ d _))
    have hport (u : State) (p : Nat) (g : PortSt → PortSt) : u.onlyIn onSend (u.modPort p g) := Eq.refl u.wide
    dsimp only
    generalize hs1 : (s.modFrame d fid _).modFab d _ = s1
    have h1 : s.onlyIn onSend s1 := hs1 ▸ hfab _ _
    generalize hs2 : (s1.heldUp d c.out _).residence d c.out f c.ct = s2
    have h2 : s.onlyIn onSend s2 := .trans frame_onSend h1 (hs2 ▸ hres _ _)
    split
    · exact .trans frame_onSend h2 (hport _ _ _)
    · exact h2

theorem State.inject_onlyIn (s : State) (p q : Nat) (m : OwnMsg) (bytes : List Byte) : s.onlyIn onSend (s.inject p q m bytes) := by
  unfold State.inject
  exact .ite _ (.trans frame_onSend ((s.modFab_onlyIn _ _).widen frame_onSend fun _ _ => rfl) (State.admitOne_onlyIn _ _ _ _ _))
    (.refl frame_onSend s)

theorem State.stackSend_onlyIn (s : State) (msg : Nat) (primary : Bool) : s.onlyIn onSend (s.stackSend msg primary) := by
  have h1 (u : State) (p : Nat) : u.onlyIn onSend (u.stackSend1 p msg primary) :=
    .ite _ (State.inject_onlyIn _ _ _ _ _) (.refl frame_onSend u)
  exact .trans frame_onSend (h1 s 2) (h1 _ 15)

theorem State.stk_of_onSend {s t : State} (h : s.onlyIn onSend t) : t.stk = s.stk := congrArg Slices.stk h

/-! ### Sequences -/

/-- A sequence other than the first one starts at a step, or ends, and the rest of the device waits. -/
theorem State.seqFrom_of_ne_zero {k : Nat} (hk : k ≠ 0) (s : State) (only : Option Nat) (i n : Nat) :
    ∃ r, s.seqFrom only k i n = s.modPow fun p => { p with run := r } := by
  have hdone : s.seqDone k = s.modPow fun p => { p with run := none } := if_neg fun h => hk h.1
  induction n generalizing i with
  | zero => exact ⟨none, hdone⟩
  | succ n ih =>
    unfold State.seqFrom
    split
    · exact ⟨none, hdone⟩
    · split
      · exact ih _
      · exact ⟨_, rfl⟩

/-! ### Requests in line and jobs of the bridge -/

/-- What the paths hold and the jobs of the bridge. -/
def State.errands (s : State) : (Path → List Pend × List Word × List HeldRsp × Option Running) × List Job := (s.lines, s.stk.jobs)

theorem State.errands_of {s t : State} (h1 : t.lines = s.lines) (h2 : t.wide = s.wide) : t.errands = s.errands := by
  rw [State.errands, State.errands, h1, State.stk_of_wide h2]

@[simp] theorem State.modPow_errands (s : State) (f : PowerSt → PowerSt) : (s.modPow f).errands = s.errands := rfl

@[simp] theorem State.modKey_errands (s : State) (f : KeySt → KeySt) : (s.modKey f).errands = s.errands := rfl

@[simp] theorem State.modPort_errands (s : State) (p : Nat) (f : PortSt → PortSt) : (s.modPort p f).errands = s.errands := rfl

@[simp] theorem State.modEdge_errands (s : State) (f : EdgeSt → EdgeSt) : (s.modEdge f).errands = s.errands := rfl

@[simp] theorem State.modEgr_errands (s : State) (f : EgressSt → EgressSt) : (s.modEgr f).errands = s.errands := rfl

@[simp] theorem State.linCommanders_errands (s : State) (f : LinCh → LinCh) : (s.linCommanders f).errands = s.errands := rfl

@[simp] theorem State.useFree_errands (s : State) : s.useFree.errands = s.errands := rfl

@[simp] theorem State.restartTimer_errands (s : State) : s.restartTimer.errands = s.errands := rfl

@[simp] theorem State.restartAwake_errands (s : State) : s.restartAwake.errands = s.errands := rfl

@[simp] theorem State.raiseDev_errands (s : State) (f : DevFlag) : (s.raiseDev f).errands = s.errands :=
  State.errands_of (State.raiseDev_lines _ _) (State.raiseDev_wide _ _)

@[simp] theorem State.raiseDie_errands (s : State) (d : Fab) (f : DieFlag) : (s.raiseDie d f).errands = s.errands :=
  State.errands_of (State.raiseDie_lines _ _ _) (State.raiseDie_wide _ _ _)

@[simp] theorem State.logFault_errands (s : State) (code die x : Nat) : (s.logFault code die x).errands = s.errands :=
  State.errands_of (State.logFault_lines _ _ _ _) (State.logFault_wide _ _ _ _)

@[simp] theorem State.addrError_errands (s : State) (d a : Nat) : (s.addrError d a).errands = s.errands :=
  State.errands_of (State.addrError_lines _ _ _) (State.addrError_wide _ _ _)

@[simp] theorem State.inject_errands (s : State) (p q : Nat) (m : OwnMsg) (bytes : List Byte) :
    (s.inject p q m bytes).errands = s.errands := by
  rw [State.errands, State.errands, State.inject_lines, State.stk_of_onSend (State.inject_onlyIn _ _ _ _ _)]

@[simp] theorem State.stackSend_errands (s : State) (msg : Nat) (primary : Bool) : (s.stackSend msg primary).errands = s.errands := by
  rw [State.errands, State.errands, State.stackSend_lines, State.stk_of_onSend (State.stackSend_onlyIn _ _ _)]

@[simp] theorem State.pullStkWake_errands (s : State) : s.pullStkWake.errands = s.errands := by
  unfold State.pullStkWake
  split <;> rfl

@[simp] theorem State.portUp_errands (s : State) (p : Nat) : (s.portUp p).errands = s.errands := State.raiseDie_errands _ _ _

theorem State.foldl_errands {α : Type} (n : State → α → State) (h : ∀ s a, (n s a).errands = s.errands) (l : List α) (s : State) :
    (l.foldl n s).errands = s.errands := by
  induction l generalizing s with
  | nil => rfl
  | cons a l ih => rw [List.foldl_cons, ih, h]

@[simp] theorem State.dropSas_errands (s : State) : s.dropSas.errands = s.errands :=
  State.foldl_errands (fun s p => s.modPort p _) (fun _ _ => State.modPort_errands _ _ _) _ _

@[simp] theorem State.zeroize_errands (s : State) : s.zeroize.errands = s.errands := rfl

@[simp] theorem State.runSeq_errands (s : State) {k : Nat} (hk : k ≠ 0) : (s.runSeq k).errands = s.errands := by
  obtain ⟨r, h⟩ := s.seqFrom_of_ne_zero hk none 0 33
  unfold State.runSeq
  rw [h]
  rfl

@[simp] theorem State.wakeRecord_errands (s : State) (r : WakeRec) : (s.wakeRecord r).errands = s.errands := by
  unfold State.wakeRecord
  rw [State.raiseDev_errands]
  rfl

@[simp] theorem State.cancelPrepare_errands (s : State) : s.cancelPrepare.errands = s.errands := by
  unfold State.cancelPrepare
  dsimp only
  generalize hs1 : (s.modPow _).restartTimer = s1
  generalize hs2 : List.foldl _ s1 _ = s2
  have h2 : s2.errands = s.errands := by
    rw [← hs2]
    refine (State.foldl_errands _ (fun u p => ?_) _ _).trans (by rw [← hs1]; rfl)
    split
    · exact State.portUp_errands _ _
    · rfl
  split
  · rw [State.stackSend_errands, State.linCommanders_errands, h2]
  · rw [State.linCommanders_errands, h2]

@[simp] theorem State.startWake_errands (s : State) (r : WakeRec) : (s.startWake r).errands = s.errands := by
  unfold State.startWake
  dsimp only
  rw [State.runSeq_errands _ (by decide)]
  generalize hs1 : ((s.modPow _).wakeRecord r).pullStkWake = s1
  have h1 : s1.errands = s.errands := by
    rw [← hs1, State.pullStkWake_errands, State.wakeRecord_errands]
    rfl
  split
  · rw [State.modKey_errands, State.raiseDev_errands, h1]
  · exact h1

@[simp] theorem State.wakeSource_errands (s : State) (r : WakeRec) : (s.wakeSource r).errands = s.errands := by
  unfold State.wakeSource
  split
  · rfl
  · split
    · exact State.pullStkWake_errands _
    split
    · rfl
    · rw [State.restartAwake_errands, State.wakeRecord_errands, State.cancelPrepare_errands]
  · dsimp only
    split
    · exact State.pullStkWake_errands _
    split
    · exact State.pullStkWake_errands _
    · rw [State.modPow_errands, State.pullStkWake_errands]
  · split
    · rfl
    · exact State.startWake_errands _ _
  · rfl

/-- An alarm while no command runs leaves the requests in line and the jobs of the bridge. -/
theorem State.tamper_errands (s : State) (src : Nat) : (s.tamper src none).errands = s.errands := by
  unfold State.tamper
  dsimp only
  generalize hs3 : (if (Tbl.get TamperCfg.dflt s.key.tamper src).action = 0 then _ else _ : State) = s3
  have h3 : s3.errands = s.errands := by
    rw [← hs3]
    split <;> rfl
  generalize hs4 : (if (Tbl.get TamperCfg.dflt s.key.tamper src).action = 2 ∧ 2 ≤ s.tamperPhase then _ else s3 : State) = s4
  have h4 : s4.errands = s.errands := by
    rw [← hs4]
    split
    · rw [State.dropSas_errands, h3]
    · exact h3
  split
  · exact h4
  · rw [State.logFault_errands, State.raiseDev_errands, State.modKey_errands, h4]
  · split
    · rw [State.wakeSource_errands, State.raiseDev_errands, State.logFault_errands, h4]
    · rw [State.modKey_errands, State.logFault_errands, h4]
  · rw [State.logFault_errands, State.raiseDev_errands, h4]

theorem State.badAccess_errands (s : State) (a : Nat) : (s.badAccess a).errands = s.errands := by
  unfold State.badAccess
  dsimp only
  split
  · rw [State.tamper_errands, State.addrError_errands]
  · exact State.addrError_errands _ _ _

theorem State.intRead_errands (s : State) (a : Nat) : (s.intRead a).1.errands = s.errands := by
  unfold State.intRead
  split
  · dsimp only
    split <;> rfl
  · exact State.badAccess_errands _ _

theorem State.intReads_errands (s : State) (a n : Nat) : (s.intReads a n).1.errands = s.errands := by
  induction n generalizing s a with
  | zero => rfl
  | succ n ih =>
    unfold State.intReads
    dsimp only
    rw [ih, State.intRead_errands]

/-! ### Jobs that begin -/

theorem State.sendBridge_onlyIn (s : State) (p : Nat) (ws : List Word) : s.onlyIn onSend (s.sendBridge p ws) := State.inject_onlyIn _ _ _ _ _

/-- A burst that is issued leaves the jobs and the paths. -/
theorem State.issue_errands (s : State) (p : Nat) (path : Path) (b : Burst) : (s.issue p path b).errands = s.errands :=
  State.inject_errands _ _ _ _ _

theorem State.mem_keepJob (s : State) (j : Job) : j ∈ (s.keepJob j).stk.jobs :=
  List.mem_append_right _ (List.mem_singleton.mpr rfl)

theorem State.keepJob_lines (s : State) (j : Job) : (s.keepJob j).lines = s.lines := rfl

/-- A job that keeps its state and issues a burst is among the jobs. -/
theorem State.mem_keepJob_issue (s : State) (j : Job) (p : Nat) (b : Burst) :
    j ∈ ((s.keepJob j).issue p j.path b).stk.jobs ∧ ((s.keepJob j).issue p j.path b).lines = s.lines := by
  have h := (s.keepJob j).issue_errands p j.path b
  have hj : ((s.keepJob j).issue p j.path b).stk.jobs = (s.keepJob j).stk.jobs := (congrArg Prod.snd h :)
  rw [hj]
  exact ⟨s.mem_keepJob j, (congrArg Prod.fst h :)⟩

theorem State.issueFirst_job (s : State) (j : Job) (bs : List Burst) :
    (∃ l, { j with todo := l } ∈ (s.issueFirst j bs).stk.jobs) ∧ (s.issueFirst j bs).lines = s.lines := by
  unfold State.issueFirst
  split
  · exact ⟨⟨_, State.mem_keepJob _ _⟩, rfl⟩
  · rename_i b rest
    split
    · have h := s.mem_keepJob_issue { j with todo := rest } ‹Nat› b
      exact ⟨⟨rest, h.1⟩, h.2⟩
    · exact ⟨⟨_, State.mem_keepJob _ _⟩, rfl⟩

theorem cutBursts_cons (op a : Nat) (data : List Word) (n f : Nat) (hn : n ≠ 0) :
    ∃ b l, cutBursts op a data n (f + 1) = b :: l := ⟨_, _, if_neg hn⟩

theorem State.diagRun_job (s : State) (j : Job) (b : Burst) (rest : List Burst) (h : (s.portToMember j.member).isSome = true) :
    { j with todo := rest } ∈ (s.diagRun j (b :: rest)).stk.jobs ∧ (s.diagRun j (b :: rest)).lines = s.lines := by
  obtain ⟨p, hp⟩ := Option.isSome_iff_exists.mp h
  have he : s.diagRun j (b :: rest) = (s.keepJob { j with todo := rest }).issue p j.path b := by
    rw [State.diagRun, hp]
  rw [he]
  exact s.mem_keepJob_issue { j with todo := rest } p b

/-! ### The stack's own state -/

theorem State.stackTo_mode (s : State) (m : StackMode) : (s.stackTo m).stk = { s.stk with mode := m } := by
  unfold State.stackTo
  split
  · rename_i h
    rw [← h]
  · rw [State.stk_of_wide (State.logFault_wide _ _ _ _)]
    rfl

theorem State.stackTo_lines (s : State) (m : StackMode) : (s.stackTo m).lines = s.lines := by
  unfold State.stackTo
  split
  · rfl
  · rw [State.logFault_lines]
    rfl

theorem State.stackTo_tim (s : State) (m : StackMode) : (s.stackTo m).tim = s.tim := congrArg Slices.tim (s.stackTo_onlyIn m)

theorem State.timeMode_slavePort (s : State) (m : TimeMode) : (s.timeMode m).tim.slavePort = s.tim.slavePort := by
  unfold State.timeMode
  split
  · rfl
  · rw [State.tim_of_wide (State.raiseDev_wide _ _)]
    rfl

theorem State.sourceLost_slavePort (s : State) : s.sourceLost.tim.slavePort = s.tim.slavePort := by
  unfold State.sourceLost
  split
  · rw [State.tim_of_wide (State.logFault_wide _ _ _ _), State.timeMode_slavePort]
  · rw [State.tim_of_wide (State.logFault_wide _ _ _ _), State.timeMode_slavePort]
    rfl
  · rfl

theorem State.orphaned_mode (s : State) : s.orphaned.stk.mode = .orphan ∧ s.orphaned.tim.slavePort = none := by
  unfold State.orphaned
  rw [State.stackTo_mode, State.stackTo_tim]
  exact ⟨rfl, State.sourceLost_slavePort _⟩

theorem State.orphaned_lines (s : State) : s.orphaned.lines = s.lines := by
  unfold State.orphaned
  rw [State.stackTo_lines]
  exact State.sourceLost_lines _

theorem diagRead_own (r : Req) (s : State) (h : addrMember (r.fld 1 31 0) = s.sys.member) :
    diagRead.run r s = { st := (s.intReads (r.fld 1 31 0) (diagCount r)).1, payload := (s.intReads (r.fld 1 31 0) (diagCount r)).2 } := by
  simp only [diagRead, if_pos h]

theorem diagRead_other (r : Req) (s : State) (h : addrMember (r.fld 1 31 0) ≠ s.sys.member)
    (hp : (s.portToMember (addrMember (r.fld 1 31 0))).isSome = true) :
    diagRead.run r s =
      { st := s.diagRun { path := r.path, member := addrMember (r.fld 1 31 0), mode := .diag, at_ := s.tim.ticks }
          (cutBursts 2 (r.fld 1 31 0) [] (diagCount r) 8), later := true } := by
  simp only [diagRead, if_neg h, if_pos hp]

/-- Settles O21: reads of this package leave the jobs; a relay and a read elsewhere add one; a designation changes the stack's own state. -/
theorem stackAndDiagnosisCommands : Obligations.StackAndDiagnosisCommands := by
  unfold Obligations.StackAndDiagnosisCommands
  refine ⟨?_, ?_, ?_, ?_, ?_, ?_⟩
  · refine does_run rfl (fun _ _ => rfl) fun r s hc => ?_
    have he := (s.taken r.path).intReads_errands (r.fld 1 31 0) (diagCount r)
    refine ⟨_, _, diagRead_own r _ hc, (congrArg Prod.fst he :), fun t hw _ => ⟨rfl, ?_⟩⟩
    rw [State.stk_of_wide hw]
    exact (congrArg Prod.snd he :)
  · refine starts_intro rfl (fun _ _ => rfl) fun r s ⟨h1, h2⟩ => ?_
    obtain ⟨b, l, hb⟩ := cutBursts_cons 2 (r.fld 1 31 0) [] (diagCount r) 7 (by unfold diagCount; omega)
    rw [diagRead_other r (s.taken r.path) h1 h2, hb]
    obtain ⟨hj, hl⟩ := (s.taken r.path).diagRun_job
      { path := r.path, member := addrMember (r.fld 1 31 0), mode := .diag, at_ := (s.taken r.path).tim.ticks } b l h2
    refine ⟨rfl, hl, fun t _ hw _ => ?_⟩
    rw [State.stk_of_wide hw]
    exact ⟨_, hj, rfl, rfl, rfl⟩
  · refine does_run rfl (fun _ _ => rfl) fun r s _ => ⟨_, _, rfl, ?_, fun t hw _ => ⟨rfl, ?_⟩⟩
    · split <;> rfl
    · rw [State.stk_of_wide hw]
      split <;> rfl
  · refine starts_intro rfl (fun _ _ => rfl) fun r s _ => ?_
    obtain ⟨⟨l, hj⟩, hl⟩ := (s.taken r.path).issueFirst_job
      { path := r.path, member := r.fld 1 35 34, mode := .write, at_ := (s.taken r.path).tim.ticks }
      (cutBursts 1 (relayAddr (r.fld 1 35 34) 0) (r.words.drop 1) (r.words.drop 1).length 8)
    refine ⟨rfl, hl, fun t _ hw _ => ?_⟩
    rw [State.stk_of_wide hw]
    exact ⟨_, hj, rfl, rfl, rfl⟩
  · refine does_run rfl (fun _ _ => rfl) fun r s hb => ⟨_, _, rfl, ?_, fun t hw _ => ⟨rfl, ?_⟩⟩
    · rw [if_pos hb]
      exact State.orphaned_lines _
    · rw [State.stk_of_wide hw, State.tim_of_wide hw, if_pos hb]
      exact State.orphaned_mode _
  · refine does_run rfl (fun _ _ => rfl) fun r s hb => ⟨_, _, rfl, ?_, fun t hw _ => ⟨rfl, ?_⟩⟩
    · rw [if_neg (by simp [hb])]
      exact State.stackTo_lines _ _
    · rw [State.stk_of_wide hw, State.tim_of_wide hw, if_neg (by simp [hb]), State.stackTo_mode, State.stackTo_tim]
      exact ⟨rfl, rfl, rfl, rfl⟩

end Sys2Proof.Machine
end

section
/-! PROOFS. What the frame path and the power domains leave of the pair, of start-up and of the seal. -/

namespace Sys2Proof.Machine

/-! ### Pair, start-up and seal without their journals -/

/-- The pair, start-up and the seal, without what the journal and the fault log change. -/
def State.trunk (s : State) : PairSt × SysSt × SealSt := (s.pair.rest, s.sys.rest, s.sealSt.rest)

theorem State.trunk_of_deep {s t : State} (h : t.deep = s.deep) : t.trunk = s.trunk := by
  rw [State.trunk, State.trunk, State.pairRest_of_deep h, State.sysRest_of_deep h, State.sealRest_of_deep h]

theorem State.sys_of_trunk {s t : State} (h : t.trunk = s.trunk) : t.sys.rest = s.sys.rest := congrArg (·.2.1) h

theorem State.pair_of_trunk {s t : State} (h : t.trunk = s.trunk) : t.pair.rest = s.pair.rest := congrArg (·.1) h

theorem State.foldl_trunk {α : Type} (n : State → α → State) (h : ∀ s a, (n s a).trunk = s.trunk) (l : List α) (s : State) :
    (l.foldl n s).trunk = s.trunk := by
  induction l generalizing s with
  | nil => rfl
  | cons a l ih => rw [List.foldl_cons, ih, h]

@[simp] theorem State.modFab_trunk (s : State) (d : Fab) (f : FabSt → FabSt) : (s.modFab d f).trunk = s.trunk := by cases d <;> rfl

@[simp] theorem State.modPool_trunk (s : State) (d : Fab) (f : PoolSt → PoolSt) : (s.modPool d f).trunk = s.trunk := by cases d <;> rfl

@[simp] theorem State.modPort_trunk (s : State) (p : Nat) (f : PortSt → PortSt) : (s.modPort p f).trunk = s.trunk := rfl

@[simp] theorem State.modTim_trunk (s : State) (f : TimeSt → TimeSt) : (s.modTim f).trunk = s.trunk := rfl

@[simp] theorem State.modTab_trunk (s : State) (f : TabSt → TabSt) : (s.modTab f).trunk = s.trunk := rfl

@[simp] theorem State.modPow_trunk (s : State) (f : PowerSt → PowerSt) : (s.modPow f).trunk = s.trunk := rfl

@[simp] theorem State.modKey_trunk (s : State) (f : KeySt → KeySt) : (s.modKey f).trunk = s.trunk := rfl

@[simp] theorem State.raiseDev_trunk (s : State) (f : DevFlag) : (s.raiseDev f).trunk = s.trunk := State.trunk_of_deep (State.raiseDev_deep _ _)

@[simp] theorem State.raiseDie_trunk (s : State) (d : Fab) (f : DieFlag) : (s.raiseDie d f).trunk = s.trunk :=
  State.trunk_of_deep (State.raiseDie_deep _ _ _)

@[simp] theorem State.logFault_trunk (s : State) (code die x : Nat) : (s.logFault code die x).trunk = s.trunk :=
  State.trunk_of_deep (State.logFault_deep _ _ _ _)

@[simp] theorem State.poolError_trunk (s : State) (d : Fab) (kind pool i x o n : Nat) : (s.poolError d kind pool i x o n).trunk = s.trunk :=
  State.trunk_of_deep (State.poolError_deep _ _ _ _ _ _ _ _)

theorem State.satRaise_trunk (s : State) (old k : Nat) (ev : State → State) (h : (ev s).trunk = s.trunk) :
    (s.satRaise old k ev).trunk = s.trunk := by
  unfold State.satRaise
  split
  · exact h
  · rfl

@[simp] theorem State.useDown_trunk (s : State) (d : Fab) (p n : Nat) : (s.useDown d p n).trunk = s.trunk := State.modPool_trunk _ _ _

@[simp] theorem State.freeCell_trunk (s : State) (d : Fab) (c : Nat) : (s.freeCell d c).trunk = s.trunk := by
  unfold State.freeCell
  rw [State.useDown_trunk, State.modPool_trunk]

theorem State.freeWalk_trunk (s : State) (d : Fab) (x n c : Nat) : (s.freeWalk d x n c).trunk = s.trunk := by
  induction n generalizing s c with
  | zero => rfl
  | succ n ih =>
    unfold State.freeWalk
    dsimp only
    generalize hs1 : (if (s.pool d).cellFree c = true then _ else s.freeCell d c) = s1
    have h1 : s1.trunk = s.trunk := by
      rw [← hs1]
      split <;> simp
    split
    · exact h1
    · rw [ih, h1]

@[simp] theorem State.freeCellChain_trunk (s : State) (d : Fab) (c x : Nat) : (s.freeCellChain d c x).1.trunk = s.trunk := by
  unfold State.freeCellChain
  dsimp only
  repeat' split
  all_goals simp [State.freeWalk_trunk]

@[simp] theorem State.freeUnit_trunk (s : State) (d : Fab) (c u x : Nat) : (s.freeUnit d c u x).1.trunk = s.trunk := by
  unfold State.freeUnit
  repeat' split
  all_goals simp

@[simp] theorem State.freeUnits_trunk (s : State) (d : Fab) (c x : Nat) (us : List Nat) : (s.freeUnits d c x us).trunk = s.trunk :=
  State.foldl_trunk _ (fun s u => s.freeUnit_trunk d c u x) _ _

@[simp] theorem State.releaseCell_trunk (s : State) (d : Fab) (c x : Nat) : (s.releaseCell d c x).1.trunk = s.trunk := by
  unfold State.releaseCell
  dsimp only
  repeat' split
  all_goals simp

theorem State.releaseCopy_trunk (s : State) (d : Fab) (fid : Nat) (c : Copy) : (s.releaseCopy d fid c).trunk = s.trunk := by
  unfold State.releaseCopy
  split
  · rfl
  · have htidy (u : State) : (u.tidy d fid).trunk = u.trunk := by
      unfold State.tidy
      repeat' split
      all_goals simp [State.forget]
    dsimp only
    rw [htidy]
    refine (State.modFab_trunk _ _ _).trans ((State.modPool_trunk _ _ _).trans ?_)
    repeat' split
    all_goals simp [State.chainLast, State.modFrame]

theorem State.flushOutput_trunk (s : State) (d : Fab) (o : Nat) : (s.flushOutput d o).trunk = s.trunk := by
  unfold State.flushOutput
  refine (State.modFab_trunk _ _ _).trans (State.foldl_trunk _ (fun s e => ?_) _ _)
  rw [State.releaseCopy_trunk]
  exact State.modFab_trunk _ _ _

@[simp] theorem State.dieTick_trunk (s : State) (d : Fab) (old k : Nat) (f : FabSt → FabSt) : (s.dieTick d old k f).trunk = s.trunk := by
  unfold State.dieTick
  rw [State.satRaise_trunk _ _ _ _ (State.raiseDie_trunk _ _ _), State.modFab_trunk]

@[simp] theorem State.countRefuse_trunk (s : State) (d : Fab) (c : Copy) (w : Refuse) : (s.countRefuse d c w).trunk = s.trunk := by
  have hlost (u : State) : (u.mirrorLost c).trunk = u.trunk := by
    unfold State.mirrorLost
    split
    · rfl
    · exact State.dieTick_trunk _ _ _ _ _
  unfold State.countRefuse
  dsimp only
  rw [hlost]
  cases w with
  | flush => exact State.modFab_trunk _ _ _
  | limit => exact State.modPool_trunk _ _ _
  | sdu => exact (State.satRaise_trunk _ _ _ _ (State.raiseDie_trunk _ _ _)).trans (State.modFab_trunk _ _ _)
  | yellow => exact (State.satRaise_trunk _ _ _ _ (State.raiseDie_trunk _ _ _)).trans (State.modFab_trunk _ _ _)

@[simp] theorem State.residence_trunk (s : State) (d : Fab) (o : Nat) (f : FrameSt) (ct : Bool) : (s.residence d o f ct).trunk = s.trunk := by
  unfold State.residence State.outTick
  dsimp only
  split
  · rw [State.raiseDie_trunk, State.dieTick_trunk]
  · rfl

@[simp] theorem State.admitOne_trunk (s : State) (d : Fab) (fid : Nat) (f : FrameSt) (c : Copy) : (s.admitOne d fid f c).1.trunk = s.trunk := by
  unfold State.admitOne
  split
  · rw [State.releaseCopy_trunk, State.countRefuse_trunk]
  · dsimp only
    refine (State.modFab_trunk _ _ _).trans ?_
    have hwake (u : State) (b : Prop) [Decidable b] (p : Nat) (g : PortSt → PortSt) : (if b then u.modPort p g else u).trunk = u.trunk := by
      split <;> rfl
    rw [hwake, State.residence_trunk]
    exact (State.modPool_trunk _ _ _).trans ((State.modFab_trunk _ _ _).trans (State.modFab_trunk _ _ _))

@[simp] theorem State.inject_trunk (s : State) (p q : Nat) (m : OwnMsg) (bytes : List Byte) : (s.inject p q m bytes).trunk = s.trunk := by
  unfold State.inject
  dsimp only
  split
  · exact (State.admitOne_trunk _ _ _ _ _).trans (State.modFab_trunk _ _ _)
  · rfl

@[simp] theorem State.stackSend_trunk (s : State) (msg : Nat) (primary : Bool) : (s.stackSend msg primary).trunk = s.trunk := by
  have h1 (u : State) (p : Nat) : (u.stackSend1 p msg primary).trunk = u.trunk := by
    unfold State.stackSend1
    split
    · exact State.inject_trunk _ _ _ _ _
    · rfl
  unfold State.stackSend
  rw [h1, h1]

/-! ### Front ports -/

@[simp] theorem State.timeMode_trunk (s : State) (m : TimeMode) : (s.timeMode m).trunk = s.trunk := by
  unfold State.timeMode
  split
  · rfl
  · rw [State.raiseDev_trunk, State.modTim_trunk]

@[simp] theorem State.sourceLost_trunk (s : State) : s.sourceLost.trunk = s.trunk := by
  unfold State.sourceLost
  split
  · rw [State.logFault_trunk, State.timeMode_trunk]
  · rw [State.logFault_trunk, State.timeMode_trunk, State.modTim_trunk]
  · rfl

theorem State.slaveLost_trunk (s : State) : s.slaveLost.trunk = s.trunk := by
  unfold State.slaveLost
  split
  · rfl
  · dsimp only
    split
    · rfl
    · rw [State.sourceLost_trunk, State.modTim_trunk]

theorem State.leaveUp_trunk (s : State) (p : Nat) : (s.leaveUp p).trunk = s.trunk := by
  unfold State.leaveUp
  dsimp only
  generalize hs1 : (s.flushOutput (dieOfPort p) (localOf p)).raiseDie (dieOfPort p) .linkChange = s1
  have h1 : s1.trunk = s.trunk := by rw [← hs1, State.raiseDie_trunk, State.flushOutput_trunk]
  generalize hs2 : (if (s.vlanPort p).flushOnDown then s1.modTab _ else s1) = s2
  have h2 : s2.trunk = s.trunk := by
    rw [← hs2]
    split <;> exact h1
  split
  · rw [State.slaveLost_trunk]
    exact h2
  · exact h2

@[simp] theorem State.portTo_trunk (s : State) (p : Nat) (m : LinkMode) (count : Bool) : (s.portTo p m count).trunk = s.trunk := by
  have htick (u : State) (get : PortSt → Nat) (set : PortSt → Nat → PortSt) : (u.portTick p get set).trunk = u.trunk :=
    State.satRaise_trunk _ _ _ _ (State.raiseDie_trunk _ _ _)
  have hdown (u : State) (b : Bool) : (u.setDownBit p b).trunk = u.trunk := by
    unfold State.setDownBit
    split <;> rfl
  unfold State.portTo
  dsimp only
  split
  · rw [htick, hdown]
    split
    · exact State.leaveUp_trunk _ _
    · rfl
  · rw [hdown]
    split
    · exact State.leaveUp_trunk _ _
    · rfl

/-- The slices that a front port's change of link state touches. -/
abbrev onLink (x y : Slices) : Slices := { x with fabE := y.fabE, fabW := y.fabW, tab := y.tab, tim := y.tim, ports := y.ports }

theorem frame_onLink : Frame onLink := ⟨fun _ => rfl, fun _ _ _ => rfl⟩

theorem State.portTo_onlyIn (s : State) (p : Nat) (m : LinkMode) (count : Bool) : s.onlyIn onLink (s.portTo p m count) := by
  have hport (u : State) (f : PortSt → PortSt) : u.onlyIn onLink (u.modPort p f) := Eq.refl u.wide
  have htick (u : State) (get : PortSt → Nat) (set : PortSt → Nat → PortSt) : u.onlyIn onLink (u.portTick p get set) :=
    .of_wide_right (hport u _) (State.satRaise_wide _ _ _ _ (State.raiseDie_wide _ _ _))
  have hdown (u : State) (b : Bool) : u.onlyIn onLink (u.setDownBit p b) := by
    unfold State.setDownBit
    split
    · exact Eq.refl u.wide
    · exact .refl frame_onLink u
  have hleave (u : State) : u.onlyIn onLink (u.leaveUp p) := (u.leaveUp_onlyIn p).widen frame_onLink fun _ _ => rfl
  unfold State.portTo
  dsimp only
  generalize hs1 : State.setDownBit _ p _ = s1
  have h1 : s.onlyIn onLink s1 := by
    rw [← hs1]
    refine .trans frame_onLink ?_ (hdown _ _)
    split
    · exact .trans frame_onLink (hport _ _) (hleave _)
    · exact hport _ _
  split
  · exact .trans frame_onLink h1 (htick _ _ _)
  · exact h1

end Sys2Proof.Machine
end

section
/-! PROOFS. What a power domain's change leaves, and a mailbox command whose response follows later. -/

namespace Sys2Proof.Machine

/-! ### A domain takes another state -/

/-- What the change of a power domain leaves but for the domain's own state: start-up but for the dies present, images, stack, locks, power but
for the paces, and the store but for its lock and the measurements. -/
def State.steady (s : State) : SysSt × ImgSt × StackSt × LockSt × PowerSt × KeySt :=
  ({ s.sys.rest with present := 0 }, s.img, s.stk, s.locks, { s.pow with west := {}, east := {}, stbDriven := false },
   { s.key with lock := none, measW := [], measE := [] })

theorem State.steady_of {s t : State} (h1 : t.trunk = s.trunk) (h2 : t.far = s.far) (h3 : t.stk = s.stk) (h4 : t.locks = s.locks) :
    t.steady = s.steady := by
  unfold State.steady
  rw [State.sys_of_trunk h1, State.img_of_far h2, h3, h4, State.pow_of_far h2, State.key_of_far h2]

@[simp] theorem State.portTo_steady (s : State) (p : Nat) (m : LinkMode) (count : Bool) : (s.portTo p m count).steady = s.steady :=
  State.steady_of (State.portTo_trunk _ _ _ _) (State.portTo_far _ _ _ _) (congrArg Slices.stk (s.portTo_onlyIn p m count))
    (congrArg Slices.locks (s.portTo_onlyIn p m count))

@[simp] theorem State.modFab_steady (s : State) (d : Fab) (f : FabSt → FabSt) : (s.modFab d f).steady = s.steady := by cases d <;> rfl

@[simp] theorem State.modPool_steady (s : State) (d : Fab) (f : PoolSt → PoolSt) : (s.modPool d f).steady = s.steady := by cases d <;> rfl

@[simp] theorem State.setPresent_steady (s : State) (die : Nat) (b : Bool) : (s.setPresent die b).steady = s.steady := rfl

theorem State.foldl_steady {α : Type} (n : State → α → State) (h : ∀ s a, (n s a).steady = s.steady) (l : List α) (s : State) :
    (l.foldl n s).steady = s.steady := by
  induction l generalizing s with
  | nil => rfl
  | cons a l ih => rw [List.foldl_cons, ih, h]

@[simp] theorem State.portsOff_steady (s : State) (ps : List Nat) : (s.portsOff ps).steady = s.steady := by
  refine State.foldl_steady _ (fun u p => ?_) _ _
  split
  · rfl
  · exact State.portTo_steady _ _ _ _

@[simp] theorem State.arrives_steady (s : State) (die : Nat) : (s.arrives die).steady = s.steady := by
  unfold State.arrives
  split <;> rfl

theorem State.timeMode_steady (s : State) (m : TimeMode) : (s.timeMode m).steady = s.steady :=
  State.steady_of (State.timeMode_trunk _ _) (State.timeMode_far _ _) (congrArg Slices.stk (s.timeMode_onlyIn m))
    (congrArg Slices.locks (s.timeMode_onlyIn m))

@[simp] theorem State.timingOn_steady (s : State) (n : Int) : (s.timingOn n).steady = s.steady := State.timeMode_steady _ _

theorem State.modPort_steady (s : State) (p : Nat) (f : PortSt → PortSt) : (s.modPort p f).steady = s.steady := rfl

@[simp] theorem State.coreLost_steady (s : State) (d : Fab) : (s.coreLost d).steady = s.steady := by
  unfold State.coreLost
  dsimp only
  rw [State.modFab_steady]
  generalize hs2 : (s.modCore d _).modKey _ = s2
  have h2 : s2.steady = s.steady := by
    rw [← hs2]
    cases d <;> rfl
  generalize hs3 : List.foldl _ s2 _ = s3
  have h3 : s3.steady = s.steady := by
    rw [← hs3, ← h2]
    exact State.foldl_steady (fun s p => s.modPort p _) (fun s p => s.modPort_steady p _) _ _
  cases d <;> exact h3

@[simp] theorem State.memTo_steady (s : State) (d : Fab) (was m : DomMode) : (s.memTo d was m).steady = s.steady := by
  unfold State.memTo
  dsimp only
  generalize hs1 : (s.modFab d fun q => { nextFid := q.nextFid, nextOrder := q.nextOrder }).modPool d (fun _ => {}) = s1
  have h1 : s1.steady = s.steady := by rw [← hs1, State.modPool_steady, State.modFab_steady]
  generalize hs2 : (s.modFab d FabSt.retained).modPool d PoolSt.retained = s2
  have h2 : s2.steady = s.steady := by rw [← hs2, State.modPool_steady, State.modFab_steady]
  split
  · split
    · rfl
    · exact State.modPool_steady _ _ _
  · exact h2
  · have hif (b : Prop) [Decidable b] (tab : TabSt) (z : ZoneSt) (e : EgressSt) :
        (if b then { s1 with tab := tab, zon := z, egr := e } else s1).steady = s.steady := by
      split <;> exact h1
    exact hif _ _ _ _

/-- The record of a domain's state. -/
def State.setDom (s : State) (d : Nat) (m : DomMode) : State := s.modPow fun p => { p with doms := Tbl.put (fun _ => DomMode.off) p.doms d m }

theorem State.domTo_steady_moved (s : State) (d : Nat) (m : DomMode) (h : ¬ (s.dom d = m ∨ d ≤ 1)) :
    (s.domTo d m).steady = (s.setDom d m).steady := by
  unfold State.domTo
  dsimp only
  rw [if_neg h]
  change _ = (s.modPow _).steady
  generalize s.modPow _ = s0
  split
  · split
    · split
      · exact State.timingOn_steady _ _
      · rfl
    · split <;> rfl
  · split
    · exact State.arrives_steady _ _
    · rw [State.setPresent_steady, State.coreLost_steady]
  · split
    · exact State.arrives_steady _ _
    · rw [State.setPresent_steady, State.coreLost_steady]
  · exact State.memTo_steady _ _ _ _
  · exact State.memTo_steady _ _ _ _
  · split
    · rfl
    · exact State.portsOff_steady _ _
  · split
    · rfl
    · exact State.portsOff_steady _ _
  iterate 4
    · split
      · exact State.arrives_steady _ _
      · rw [State.setPresent_steady, State.portsOff_steady]
  · split
    · exact State.arrives_steady _ _
    · rfl
    · rfl
  · rfl
  · rfl

/-- A change of domain writes the domain's state, and keeps the rest. -/
theorem State.domTo_steady (s : State) (d : Nat) (m : DomMode) :
    (s.domTo d m).steady = if s.dom d = m ∨ d ≤ 1 then s.steady else (s.setDom d m).steady := by
  split
  · rename_i h
    unfold State.domTo
    dsimp only
    rw [if_pos h]
  · exact s.domTo_steady_moved d m ‹_›

theorem State.sys_of_steady {s t : State} (h : t.steady = s.steady) : { t.sys.rest with present := 0 } = { s.sys.rest with present := 0 } :=
  congrArg (·.1) h

theorem State.dom_of_steady {s t : State} (h : t.steady = s.steady) (d : Nat) : t.dom d = s.dom d := by
  have hd : t.pow.doms = s.pow.doms := congrArg (·.2.2.2.2.1.doms) h
  unfold State.dom
  rw [hd]

theorem State.dom_setDom (s : State) (d e : Nat) (m : DomMode) : (s.setDom d m).dom e = if e = d ∧ ¬ d ≤ 1 then m else s.dom e := by
  unfold State.dom State.setDom
  dsimp only [State.modPow]
  rw [Tbl.get_put]
  by_cases h : e = d
  · subst h
    by_cases h1 : e ≤ 1 <;> simp [h1]
  · simp [h]

/-- The domain named takes the state named, and every other keeps its own. -/
theorem State.dom_domTo (s : State) (d e : Nat) (m : DomMode) : (s.domTo d m).dom e = if e = d ∧ ¬ d ≤ 1 then m else s.dom e := by
  have h := s.domTo_steady d m
  split at h
  · rename_i hc
    rw [State.dom_of_steady h]
    split
    · rename_i he
      obtain ⟨rfl, he⟩ := he
      exact hc.resolve_right he
    · rfl
  · rw [State.dom_of_steady h, State.dom_setDom]

/-- What is left of the slices of `steady` without the states of the domains. -/
def State.hardly (s : State) : SysSt × ImgSt × StackSt × LockSt × PowerSt × KeySt := (s.modPow fun p => { p with doms := [] }).steady

theorem State.hardly_of {s t : State} (h : t.steady = s.steady) : t.hardly = s.hardly :=
  congrArg (fun x => (x.1, x.2.1, x.2.2.1, x.2.2.2.1, { x.2.2.2.2.1 with doms := [] }, x.2.2.2.2.2)) h

@[simp] theorem State.domTo_hardly (s : State) (d : Nat) (m : DomMode) : (s.domTo d m).hardly = s.hardly := by
  have h := s.domTo_steady d m
  split at h
  · exact State.hardly_of h
  · exact (State.hardly_of h).trans rfl

/-! ### Paths and a domain's change -/

theorem State.portsOff_lines (s : State) (ps : List Nat) : (s.portsOff ps).lines = s.lines := by
  refine State.foldl_lines _ (fun u p => ?_) _ _
  split
  · rfl
  · exact State.portTo_lines _ _ _ _

theorem State.coreLost_lines (s : State) (d : Fab) : (s.coreLost d).lines = s.lines := by
  unfold State.coreLost
  dsimp only
  rw [State.modFab_lines]
  generalize hs2 : (s.modCore d _).modKey _ = s2
  have h2 : s2.lines = s.lines := by
    rw [← hs2]
    cases d <;> rfl
  generalize hs3 : List.foldl _ s2 _ = s3
  have h3 : s3.lines = s.lines := by
    rw [← hs3, ← h2]
    exact State.foldl_lines (fun s p => s.modPort p _) (fun s p => State.modPort_lines s p _) _ _
  cases d <;> exact h3

theorem State.memTo_lines (s : State) (d : Fab) (was m : DomMode) : (s.memTo d was m).lines = s.lines := by
  unfold State.memTo
  dsimp only
  generalize hs1 : (s.modFab d fun q => { nextFid := q.nextFid, nextOrder := q.nextOrder }).modPool d (fun _ => {}) = s1
  have h1 : s1.lines = s.lines := by rw [← hs1, State.modPool_lines, State.modFab_lines]
  generalize hs2 : (s.modFab d FabSt.retained).modPool d PoolSt.retained = s2
  have h2 : s2.lines = s.lines := by rw [← hs2, State.modPool_lines, State.modFab_lines]
  split
  · split
    · rfl
    · exact State.modPool_lines _ _ _
  · exact h2
  · have hif (b : Prop) [Decidable b] (tab : TabSt) (z : ZoneSt) (e : EgressSt) :
        (if b then { s1 with tab := tab, zon := z, egr := e } else s1).lines = s.lines := by
      split <;> exact h1
    exact hif _ _ _ _

theorem State.setPresent_lines (s : State) (die : Nat) (b : Bool) : (s.setPresent die b).lines = s.lines := rfl

theorem State.timingOn_lines (s : State) (n : Int) : (s.timingOn n).lines = s.lines := State.timeMode_lines _ _

theorem State.waiting_functionsLost (s : State) (p : Path) (h : (s.path p).waiting = []) :
    ((s.modHost fun h => { h with w0 := { upper := 0 }, w1 := {}, pcieW := false, trainW := false }).path p).waiting = [] ∧
    ((s.modHost fun h => { h with e0 := { upper := 0 }, e1 := {}, pcieE := false, trainE := false }).path p).waiting = [] := by
  cases p <;> first | exact ⟨rfl, h⟩ | exact ⟨h, rfl⟩ | exact ⟨h, h⟩

/-- A path where nothing waits stays so, the paths of a function that loses its power included. -/
theorem State.domTo_waiting (s : State) (d : Nat) (m : DomMode) (p : Path) (h : (s.path p).waiting = []) :
    ((s.domTo d m).path p).waiting = [] := by
  have keep {u v : State} (hu : (u.path p).waiting = []) (hl : v.lines = u.lines) : (v.path p).waiting = [] := by
    rw [(State.path_of_lines hl p).1, hu]
  unfold State.domTo
  dsimp only
  split
  · exact h
  generalize hs0 : s.modPow _ = s0
  have h0 : (s0.path p).waiting = [] := by
    rw [← hs0]
    exact h
  split
  · split
    · split
      · refine keep h0 ?_
        rw [State.useFree_lines, State.timingOn_lines]
      · exact h0
    · split <;> exact h0
  · split
    · exact keep h0 (State.arrives_lines _ _)
    · refine keep h0 ?_
      rw [State.setPresent_lines, State.coreLost_lines]
  · split
    · exact keep h0 (State.arrives_lines _ _)
    · refine keep h0 ?_
      rw [State.setPresent_lines, State.coreLost_lines]
  · exact keep h0 (State.memTo_lines _ _ _ _)
  · exact keep h0 (State.memTo_lines _ _ _ _)
  · split
    · exact h0
    · exact (State.waiting_functionsLost _ p (keep h0 (State.portsOff_lines s0 [2]))).1
  · split
    · exact h0
    · exact (State.waiting_functionsLost _ p (keep h0 (State.portsOff_lines s0 [15]))).2
  iterate 4
    · split
      · exact keep h0 (State.arrives_lines _ _)
      · refine keep h0 ?_
        rw [State.setPresent_lines, State.portsOff_lines]
  · split
    · exact keep h0 (State.arrives_lines _ _)
    · exact h0
    · exact h0
  · exact h0
  · exact h0

end Sys2Proof.Machine
end

section
/-! PROOFS. Requests that wait for a later response, resets of the device, and fault and maintenance commands. -/

namespace Sys2Proof.Machine

/-! ### What the mailbox does with a request that it takes -/

/-- A request that the core takes is taken from its path by the command. -/
theorem mailbox_eq_take (sp : CmdSpec) (r : Req) (s : State) (hs : s.serves sp.opcode r) :
    ∃ pd : Pend, pd.req = r ∧ mailbox sp r s = (sp.take pd s).answerBad r.path 16 := by
  obtain ⟨hfl, ⟨sq, bufs, hw⟩, hrun, hheld, hpr, hg, hrs, hcu, hlk, hact, hhalt⟩ := hs
  have hloc : r.isLocal = false := by simp [Req.isLocal, hfl]
  have htarget : s.target r = s.pair.active := by simp [State.target, hloc]
  have hgo : s.serveHow sp r = .go := by
    simp [State.serveHow, hloc, htarget, hpr, hg, hrs, hcu, hlk, hact, hhalt]
  have hready : (s.path r.path).ready = true := by simp [PathSt.ready, hrun, hheld]
  have hhead : (s.path r.path).headIs sp.opcode r = true := by simp [PathSt.headIs, hw]
  refine ⟨{ opcode := sp.opcode, req := r, seq := sq, bufs := bufs }, rfl, ?_⟩
  unfold mailbox CmdSpec.serve
  rw [if_pos hhead, hw]
  simp [hready, hgo]

theorem mailbox_deep_judge (sp : CmdSpec) (r : Req) (s : State) (hs : s.serves sp.opcode r) :
    (mailbox sp r s).deep = (sp.judge r (s.taken r.path)).1.st.deep := by
  obtain ⟨pd, hpd, hm⟩ := mailbox_eq_take sp r s hs
  rw [hm, State.answerBad_deep, ← hpd]
  unfold CmdSpec.take State.taken
  dsimp only
  repeat' split
  all_goals simp

/-- A plain request whose response follows later leaves its path waiting for it, whatever became of the path meanwhile. -/
theorem mailbox_later_of_waiting (sp : CmdSpec) (r : Req) (s : State) (hs : s.serves sp.opcode r) (hp : sp.plain r (s.taken r.path))
    (hl : (sp.run r (s.taken r.path)).later = true) (hw : ((sp.run r (s.taken r.path)).st.path r.path).waiting = []) :
    (mailbox sp r s).deep = (sp.run r (s.taken r.path)).st.deep ∧
      ∃ k, ((mailbox sp r s).path r.path).running = some k ∧ k.pend.req = r ∧ k.orphan = false := by
  have hst := sp.judge_keeps_run r (s.taken r.path) hp (.inl hl)
  refine ⟨by rw [mailbox_deep_judge sp r s hs, hst], ?_⟩
  obtain ⟨pd, hpd, hm⟩ := mailbox_eq_take sp r s hs
  have hlater : (sp.judge r (s.taken r.path)).1.later = true := by
    obtain ⟨h1, h2, h3, h4, h5⟩ := hp
    simp [CmdSpec.judge, h1, h2, h3, h4, h5, hl]
  have htake : ∃ k : Running, k.pend = pd ∧ k.orphan = false ∧
      (sp.take pd s).lines = ((sp.run r (s.taken r.path)).st.modPath r.path fun q => { q with running := some k }).lines := by
    rw [← hst]
    unfold CmdSpec.take
    rw [hpd]
    change ∃ k : Running, _ ∧ _ ∧ State.lines (if (sp.judge r (s.taken r.path)).1.later = true then _ else _) = _
    rw [if_pos hlater]
    refine ⟨{ pend := pd, clamps := (sp.judge r (s.taken r.path)).2, used := r.words, intent := sp.changes r }, rfl, rfl, ?_⟩
    split
    · exact State.journal_lines _ _ _
    · rfl
  obtain ⟨k, hk, ho, hlines⟩ := htake
  have hpath := State.path_of_lines hlines r.path
  have hnone : ((sp.take pd s).path r.path).waiting = [] := by
    rw [hpath.1, State.path_modPath]
    exact hw
  rw [hm, State.answerBad_nil _ _ _ hnone, State.running_of_lines hlines, State.path_modPath]
  exact ⟨k, rfl, hk ▸ hpd, ho⟩

/-! ### Sequences and resets -/

/-- A sequence that starts or goes on waits at a step or ends, and a power-on sequence that ends begins the self-test. -/
theorem State.seqFrom_eq (s : State) (only : Option Nat) (k i n : Nat) :
    ∃ r, s.seqFrom only k i n = s.modPow (fun p => { p with run := r }) ∨
      s.sys.start = .sequence ∧
        s.seqFrom only k i n = (s.modPow fun p => { p with run := r }).modSys fun y => { y with start := .selftest } := by
  have hdone : s.seqDone k = s.modPow (fun p => { p with run := none }) ∨ s.sys.start = .sequence ∧
      s.seqDone k = (s.modPow fun p => { p with run := none }).modSys fun y => { y with start := .selftest } := by
    unfold State.seqDone
    dsimp only
    split
    · exact .inr ⟨(‹_ ∧ _›).2, rfl⟩
    · exact .inl rfl
  induction n generalizing i with
  | zero => exact ⟨none, hdone⟩
  | succ n ih =>
    unfold State.seqFrom
    split
    · exact ⟨none, hdone⟩
    · split
      · exact ih _
      · exact ⟨_, .inl rfl⟩

theorem State.seqFrom_sys (s : State) (only : Option Nat) (k i n : Nat) :
    ∃ m, (s.seqFrom only k i n).sys = { s.sys with start := m } := by
  obtain ⟨r, h | ⟨-, h⟩⟩ := s.seqFrom_eq only k i n <;> rw [h]
  · exact ⟨s.sys.start, rfl⟩
  · exact ⟨_, rfl⟩

theorem State.seqFrom_host (s : State) (only : Option Nat) (k i n : Nat) : (s.seqFrom only k i n).host = s.host := by
  obtain ⟨r, h | ⟨-, h⟩⟩ := s.seqFrom_eq only k i n <;> rw [h] <;> rfl

theorem State.foldl_hardly {α : Type} (n : State → α → State) (h : ∀ s a, (n s a).hardly = s.hardly) (l : List α) (s : State) :
    (l.foldl n s).hardly = s.hardly := by
  induction l generalizing s with
  | nil => rfl
  | cons a l ih => rw [List.foldl_cons, ih, h]

theorem State.dieTo_hardly (s : State) (die : Nat) (m : DomMode) : (s.dieTo die m).hardly = s.hardly :=
  State.foldl_hardly (fun s d => s.domTo d m) (fun s d => s.domTo_hardly d m) _ s

theorem State.dieTo_waiting (s : State) (die : Nat) (m : DomMode) (p : Path) (h : (s.path p).waiting = []) :
    ((s.dieTo die m).path p).waiting = [] := by
  unfold State.dieTo
  generalize dieDoms die = l
  induction l generalizing s with
  | nil => exact h
  | cons d l ih => exact ih _ (s.domTo_waiting d m p h)

theorem State.sys_of_hardly {s t : State} (h : t.hardly = s.hardly) : { t.sys.rest with present := 0 } = { s.sys.rest with present := 0 } :=
  congrArg (·.1) h

/-- A reload is under way, its die counted neither as absent nor as lost again. -/
theorem State.startReload_sys (s : State) (die : Nat) (p : Option Path) :
    (s.startReload die p).sys.reload = some (die, p) ∧ (s.startReload die p).sys.absent = setMask s.sys.absent die false := by
  unfold State.startReload
  dsimp only
  generalize hs1 : s.modSys _ = s1
  obtain ⟨m, hm⟩ := (s1.dieTo die .off).seqFrom_sys (some die) 0 0 33
  have h := State.sys_of_hardly (s1.dieTo_hardly die .off)
  rw [hm]
  have h1 : s1.sys.reload = some (die, p) ∧ s1.sys.absent = setMask s.sys.absent die false := by
    rw [← hs1]
    exact ⟨rfl, rfl⟩
  exact ⟨(congrArg SysSt.reload h).trans h1.1, (congrArg SysSt.absent h).trans h1.2⟩

theorem State.startReload_waiting (s : State) (die : Nat) (p : Option Path) (q : Path) (h : (s.path q).waiting = []) :
    ((s.startReload die p).path q).waiting = [] := by
  unfold State.startReload
  dsimp only
  generalize hs1 : s.modSys _ = s1
  have h1 : (s1.path q).waiting = [] := by
    rw [← hs1]
    exact h
  have h2 := s1.dieTo_waiting die .off q h1
  unfold State.path at h2 ⊢
  rw [State.seqFrom_host]
  exact h2

theorem State.runOff_hardly (s : State) : s.runOff.hardly = (s.modPow fun p => { p with run := none }).hardly := by
  unfold State.runOff
  dsimp only
  generalize hs1 : List.foldl _ s _ = s1
  have h1 : s1.hardly = s.hardly := by
    rw [← hs1]
    refine State.foldl_hardly _ (fun u x => ?_) _ _
    split
    · exact State.domTo_hardly _ _ _
    · rfl
  exact congrArg (fun x => (x.1, x.2.1, x.2.2.1, x.2.2.2.1, { x.2.2.2.2.1 with run := none }, x.2.2.2.2.2)) h1

theorem State.logFault_sys (s : State) (code die x : Nat) :
    ∃ l n, (s.logFault code die x).sys = { s.sys with log := l, logTotal := n } := by
  rw [State.logFault, State.raiseDev_sys]
  exact ⟨_, _, rfl⟩

/-- What a reset of the device makes of start-up. -/
theorem State.deviceReset_sys (s : State) (code : Nat) :
    (s.deviceReset code).sys.start = .clockWait ∧ (s.deviceReset code).sys.lastReset = code ∧
      (s.deviceReset code).sys.boots = (s.sys.boots + 1) % 2048 := by
  have h := State.sys_of_hardly s.runOff_hardly
  have hb : s.runOff.sys.boots = s.sys.boots := (congrArg SysSt.boots h :)
  unfold State.deviceReset
  dsimp only
  generalize ht : ({ pending := _, out := _, free := _, sys := _, pair := _, tim := _, pow := _, key := _, img := _, stk := _,
                     ports := _ } : State) = t
  have h3 : t.sys.start = .clockWait ∧ t.sys.lastReset = code ∧ t.sys.boots = (s.sys.boots + 1) % 2048 := by
    rw [← ht, ← hb]
    exact ⟨rfl, rfl, rfl⟩
  obtain ⟨l, n, hl⟩ := t.logFault_sys 0x20 7 (code * 2 ^ 32)
  rw [hl]
  exact h3

theorem State.deviceReset_pending (s : State) (code : Nat) : (s.deviceReset code).pending = s.pending := by
  have h : s.runOff.pending = s.pending := (congrArg Prod.fst (State.runOff_fixed s) :)
  unfold State.deviceReset
  dsimp only
  rw [State.pending_of_wide (State.logFault_wide _ _ _ _)]
  exact h

/-! ### Fault and maintenance commands -/

/-- The gateway may move to its other port; the links stay. -/
theorem State.gwPortFit_links (s : State) : s.gwPortFit.sys.links = s.sys.links := by
  unfold State.gwPortFit
  dsimp only
  split
  · rfl
  · have h := State.sys_of_trunk (s.flushOutput_trunk (dieOfPort s.sys.gwPort) (localOf s.sys.gwPort))
    exact (congrArg SysSt.links h :)

theorem State.links_of_deep {s t : State} (h : t.deep = s.deep) : t.sys.links = s.sys.links :=
  (congrArg SysSt.links (State.sysRest_of_deep h) :)

/-- A link that is enabled, or whose loopback does not pass, costs one free value. -/
theorem faultLinkEnable_run (r : Req) (s : State) :
    ((faultLinkEnable.run r s).code = .done ∨ (faultLinkEnable.run r s).keep = true) ∧ (faultLinkEnable.run r s).st.free = s.free + 1 ∧
      (faultLinkEnable.run r s).st.sys.links = if s.freeBelow 2 = 0 then s.sys.links else setMask s.sys.links (r.fld 1 35 34) true := by
  simp only [faultLinkEnable]
  split
  · exact ⟨.inr rfl, rfl, rfl⟩
  · refine ⟨.inl rfl, ?_, State.gwPortFit_links _⟩
    exact congrArg Slices.free (State.gwPortFit_onlyIn _)

/-- Settles O22: reads leave the device, a link costs one free value, a reload begins, and FAULT.RESET resets the device. -/
theorem faultAndMaintenanceCommands : Obligations.FaultAndMaintenanceCommands := by
  unfold Obligations.FaultAndMaintenanceCommands
  refine ⟨?_, ?_, ?_, ?_, ?_, ?_, ?_⟩
  · exact reads_intro rfl (fun _ _ => rfl) fun _ _ => rfl
  · refine does_run rfl (fun _ _ => rfl) fun r s _ => ⟨_, _, rfl, ?_, fun t hw _ => ⟨rfl, ?_⟩⟩
    · split <;> rfl
    · rw [hw]
      split <;> rfl
  · intro r s hs hp
    obtain ⟨hk, hfree, hlinks⟩ := faultLinkEnable_run r (s.taken r.path)
    have hst := faultLinkEnable.judge_keeps_run r (s.taken r.path) hp (.inr hk)
    have hw := mailbox_wide_judge faultLinkEnable r s hs
    have hd := mailbox_deep_judge faultLinkEnable r s hs
    rw [hst] at hw hd
    refine ⟨_, rfl, ?_, ?_⟩
    · rw [State.free_of_wide hw, hfree]
      rfl
    · rw [State.links_of_deep hd, hlinks]
      rfl
  · intro r s hs hp _
    have hrun : ((faultDieReload.run r (s.taken r.path)).st.path r.path).waiting = [] := by
      refine State.startReload_waiting _ _ _ _ ?_
      obtain ⟨-, ⟨sq, bufs, hw⟩, -⟩ := hs
      rw [State.path_taken, hw]
      rfl
    obtain ⟨hd, hk⟩ := mailbox_later_of_waiting faultDieReload r s hs hp rfl hrun
    obtain ⟨h1, h2⟩ := (s.taken r.path).startReload_sys (r.fld 1 35 33) (some r.path)
    have hy := State.sysRest_of_deep hd
    exact ⟨_, rfl, hk, (congrArg SysSt.reload hy).trans h1, (congrArg SysSt.absent hy).trans h2⟩
  · intro r s hs hp
    have hm := mailbox_plain faultReset r s hs hp rfl rfl rfl rfl
    have hpend : (mailbox faultReset r s).sys.resetPending = true := (congrArg SysSt.resetPending (State.sysRest_of_deep hm.2.1) :)
    have hboots : (mailbox faultReset r s).sys.boots = s.sys.boots := (congrArg SysSt.boots (State.sysRest_of_deep hm.2.1) :)
    obtain ⟨h1, h2, h3⟩ := ((mailbox faultReset r s).adv (ticksMs 1)).deviceReset_sys 2
    refine ⟨_, congrArg Host.Outcome.next (if_pos hpend), h1, h2, ?_, ?_⟩
    · rw [h3]
      exact congrArg (fun n => (n + 1) % 2048) hboots
    · rw [State.deviceReset_pending]
      exact (State.pending_of_wide hm.1).trans rfl
  · exact reads_intro rfl (fun _ _ => rfl) fun _ _ => rfl
  · refine does_run rfl (fun _ _ => rfl) fun r s _ => ⟨_, _, rfl, rfl, fun t hw hd => ⟨rfl, ?_, hw⟩⟩
    exact (congrArg SysSt.excl (State.sysRest_of_deep hd) :)

end Sys2Proof.Machine
end

section
/-! PROOFS. What classification leaves of the parse engines and of the words on the Seam. -/

namespace Sys2Proof.Machine

/-- The parse engines of both dies and the words on their way over the Seam. -/
def State.gears (s : State) : (Tbl Engine × Tbl (List SeamWord)) × (Tbl Engine × Tbl (List SeamWord)) :=
  ((s.fabW.engines, s.fabW.seamWords), (s.fabE.engines, s.fabE.seamWords))

theorem State.gears_of_wide {s t : State} (h : t.wide = s.wide) : t.gears = s.gears := by
  unfold State.gears
  rw [State.fabW_of_wide h, State.fabE_of_wide h]

theorem State.engine_of_gears {s t : State} (h : t.gears = s.gears) (d : Fab) (e : Nat) : t.engine d e = s.engine d e := by
  have hw : t.fabW.engines = s.fabW.engines := congrArg (·.1.1) h
  have he : t.fabE.engines = s.fabE.engines := congrArg (·.2.1) h
  cases d
  · exact congrArg (Tbl.get Engine.dflt · e) hw
  · exact congrArg (Tbl.get Engine.dflt · e) he

theorem State.seamWords_of_gears {s t : State} (h : t.gears = s.gears) (d : Fab) : (t.fab d).seamWords = (s.fab d).seamWords := by
  cases d
  · exact congrArg (·.1.2) h
  · exact congrArg (·.2.2) h

@[simp] theorem State.modFab_gears (s : State) (d : Fab) (f : FabSt → FabSt) (he : ∀ q, (f q).engines = q.engines)
    (hw : ∀ q, (f q).seamWords = q.seamWords) : (s.modFab d f).gears = s.gears := by
  cases d <;> simp [State.modFab, State.gears, he, hw]

@[simp] theorem State.modTab_gears (s : State) (f : TabSt → TabSt) : (s.modTab f).gears = s.gears := rfl

@[simp] theorem State.raiseDie_gears (s : State) (d : Fab) (f : DieFlag) : (s.raiseDie d f).gears = s.gears :=
  State.gears_of_wide (State.raiseDie_wide _ _ _)

theorem State.satRaise_gears (s : State) (old k : Nat) (d : Fab) (f : DieFlag) : (s.satRaise old k fun t => t.raiseDie d f).gears = s.gears :=
  State.gears_of_wide (State.satRaise_wide _ _ _ _ (State.raiseDie_wide _ _ _))

@[simp] theorem State.dieTick_gears (s : State) (d : Fab) (old k : Nat) (f : FabSt → FabSt) (he : ∀ q, (f q).engines = q.engines)
    (hw : ∀ q, (f q).seamWords = q.seamWords) : (s.dieTick d old k f).gears = s.gears := by
  unfold State.dieTick
  rw [State.satRaise_gears, State.modFab_gears _ _ _ he hw]

@[simp] theorem State.modFrame_gears (s : State) (d : Fab) (fid : Nat) (f : FrameSt → FrameSt) : (s.modFrame d fid f).gears = s.gears :=
  State.modFab_gears _ _ _ (fun _ => rfl) (fun _ => rfl)

@[simp] theorem State.modZd_gears (s : State) (d : Fab) (f : ZoneDyn → ZoneDyn) : (s.modZd d f).gears = s.gears :=
  State.modFab_gears _ _ _ (fun _ => rfl) (fun _ => rfl)

@[simp] theorem State.modParse_gears (s : State) (p : Nat) (f : PortParse → PortParse) : (s.modParse p f).gears = s.gears := rfl

@[simp] theorem State.modVlan_gears (s : State) (p : Nat) (f : VlanPort → VlanPort) : (s.modVlan p f).gears = s.gears := rfl

@[simp] theorem State.forget_gears (s : State) (d : Fab) (fid : Nat) : (s.forget d fid).gears = s.gears :=
  State.modFab_gears _ _ _ (fun _ => rfl) (fun _ => rfl)

@[simp] theorem State.describe_gears (s : State) (d : Fab) (fid : Nat) (ds : Desc) (cs : List (Nat × Copy)) :
    (s.describe d fid ds cs).gears = s.gears := by
  unfold State.describe
  dsimp only
  split <;> simp

@[simp] theorem State.dropFrame_gears (s : State) (d : Fab) (fid : Nat) (f : FrameSt) (ds : Desc) (flow : Nat) :
    (s.dropFrame d fid f ds flow).gears = s.gears := State.describe_gears _ _ _ _ _

@[simp] theorem State.vlanTick_gears (s : State) (p : Nat) (get : VlanPort → Nat) (set : VlanPort → Nat → VlanPort) :
    (s.vlanTick p get set).gears = s.gears := by
  unfold State.vlanTick
  dsimp only
  rw [State.satRaise_gears, State.modVlan_gears]

@[simp] theorem State.filterTick_gears (s : State) (d : Fab) (i : Nat) (get : FilterDyn → Nat) (set : FilterDyn → Nat → FilterDyn) :
    (s.filterTick d i get set).gears = s.gears := State.dieTick_gears _ _ _ _ _ (fun _ => rfl) (fun _ => rfl)

@[simp] theorem State.filterCheck_gears (s : State) (d : Fab) (i : Nat) (c : FilterCfg) (len : Option Nat) :
    (s.filterCheck d i c len).1.gears = s.gears := by
  have hblock (u : State) (b : Bool) : (u.filterBlock d i b).gears = u.gears := by
    unfold State.filterBlock
    split <;> simp
  unfold State.filterCheck
  dsimp only
  repeat' split
  all_goals simp [hblock]

@[simp] theorem State.generate_gears (s : State) (d : Fab) (ds : Desc) : (s.generate d ds).1.gears = s.gears := by
  unfold State.generate
  dsimp only
  repeat' split
  all_goals simp [State.modFrer, State.misconfig]

@[simp] theorem State.learnRequest_gears (s : State) (f : FrameSt) (r : ParseRes) (vid : Nat) (vs : List Verdict) :
    (s.learnRequest f r vid vs).gears = s.gears := by
  unfold State.learnRequest
  dsimp only
  repeat' split
  all_goals simp

@[simp] theorem State.meterBoth_gears (s : State) (d : Fab) (fm rm : Option Nat) (len : Option Nat) (c : Colour) :
    (s.meterBoth d fm rm len c).1.gears = s.gears := by
  have hjudge (u : State) (i : Nat) (l : Option Nat) (k : Colour) : (u.meterJudge d i l k).1.gears = u.gears := State.modZd_gears _ _ _
  unfold State.meterBoth
  dsimp only
  cases fm with
  | none =>
    dsimp only
    repeat' split
    all_goals simp [hjudge]
  | some i =>
    dsimp only
    repeat' split
    all_goals simp [hjudge]

@[simp] theorem State.conclude_gears (s : State) (d : Fab) (fid : Nat) (f : FrameSt) (r : ParseRes) (ds0 : Desc) (outs : List (Nat × Nat))
    (vs : List Verdict) (fm : Option Nat) (vid : Nat) : (s.conclude d fid f r ds0 outs vs fm vid).gears = s.gears := by
  unfold State.conclude
  dsimp only
  repeat' split
  all_goals simp

@[simp] theorem State.fragMake_gears (s : State) (d : Fab) (r : ParseRes) (inZone : Nat) (vs : List Verdict) :
    (s.fragMake d r inZone vs).gears = s.gears := by
  unfold State.fragMake
  dsimp only
  repeat' split
  all_goals simp

@[simp] theorem State.fragUse_gears (s : State) (d : Fab) (r : ParseRes) (inZone : Nat) : (s.fragUse d r inZone).1.gears = s.gears := by
  unfold State.fragUse
  split <;> simp

@[simp] theorem State.pairTick_gears (s : State) (d : Fab) (k : Nat) (get : PairCtr → Nat) (set : PairCtr → Nat → PairCtr) :
    (s.pairTick d k get set).gears = s.gears := State.dieTick_gears _ _ _ _ _ (fun _ => rfl) (fun _ => rfl)

@[simp] theorem State.countBy_gears (s : State) (d : Fab) (k : Nat) (b : By) (rule : Nat) : (s.countBy d k b rule).gears = s.gears := by
  cases b <;> simp [State.countBy]

@[simp] theorem State.permitZone_gears (s : State) (d : Fab) (inZone : Nat) (v : Verdict) : (s.permitZone d inZone v).1.gears = s.gears := by
  unfold State.permitZone
  split <;> simp

@[simp] theorem State.recirculate_gears (s : State) (d : Fab) (fid : Nat) (f : FrameSt) (r : ParseRes) (ds : Desc) (vs : List Verdict) :
    (s.recirculate d fid f r ds vs).gears = s.gears := by
  unfold State.recirculate
  dsimp only
  split <;> simp

@[simp] theorem State.malDrop_gears (s : State) (d : Fab) (fid : Nat) (f : FrameSt) (r : ParseRes) (cause : Nat) :
    (s.malDrop d fid f r cause).gears = s.gears := by
  unfold State.malDrop
  dsimp only
  rw [State.describe_gears, State.satRaise_gears, State.modParse_gears]

@[simp] theorem State.zonedOutputs_gears (s : State) (d : Fab) (f : FrameSt) (stream : Nat) (ps : List Nat) :
    (s.zonedOutputs d f stream ps).1.gears = s.gears := by
  have hloop (u : State) (p : Nat) : (u.hemLoop p).gears = u.gears := (State.satRaise_gears _ _ _ _ _).trans rfl
  induction ps generalizing s with
  | nil => rfl
  | cons p ps ih =>
    unfold State.zonedOutputs
    split
    · exact ih s
    split
    · rw [ih, hloop]
    split
    · rw [ih, State.satRaise_gears]
      rfl
    split
    · exact ih s
    · dsimp only
      rw [ih]
      exact State.dieTick_gears _ _ _ _ _ (fun _ => rfl) (fun _ => rfl)

@[simp] theorem State.judgeZones_gears (s : State) (d : Fab) (r : ParseRes) (inPort inZone : Nat) (frag : Option (List Verdict))
    (zs : List Nat) : (s.judgeZones d r inPort inZone frag zs).1.gears = s.gears := by
  induction zs generalizing s with
  | nil => rfl
  | cons z zs ih =>
    unfold State.judgeZones
    dsimp only
    rw [ih, State.permitZone_gears, State.countBy_gears]

@[simp] theorem State.judge_gears (s : State) (d : Fab) (fid : Nat) (f : FrameSt) (r : ParseRes) (ds : Desc) (ports : List Nat)
    (fm : Option Nat) (vid : Nat) : (s.judge d fid f r ds ports fm vid).gears = s.gears := by
  unfold State.judge
  dsimp only
  generalize hs1 : (if _ = 0 then (s.zonedOutputs d f ds.stream ports).1 else _ : State) = s1
  have h1 : s1.gears = s.gears := by
    rw [← hs1]
    split <;> simp
  generalize hs2 : (if r.cls = 3 ∨ r.cls = 6 then _ else (s1, none) : State × Option (List Verdict)) = s2
  have h2 : s2.1.gears = s.gears := by
    rw [← hs2, ← h1]
    split <;> simp
  split
  · rw [State.recirculate_gears, State.modFrame_gears, State.judgeZones_gears, h2]
  · rw [State.conclude_gears, State.fragMake_gears, State.modFrame_gears, State.judgeZones_gears, h2]

@[simp] theorem State.judgeSecond_gears (s : State) (d : Fab) (r : ParseRes) (inPort inZone gen : Nat) (vs : List Verdict) :
    (s.judgeSecond d r inPort inZone gen vs).1.gears = s.gears := by
  induction vs generalizing s with
  | nil => rfl
  | cons v vs ih =>
    unfold State.judgeSecond
    split
    · exact ih s
    · dsimp only
      rw [ih]
      split <;> simp

/-- Parses that were cut off by their budget are counted. -/
theorem State.ite_incomplete_gears (s : State) (b : Prop) [Decidable b] (p old k : Nat) (d : Fab) (g : PortParse → PortParse) :
    (if b then (s.modParse p g).satRaise old k fun t => t.raiseDie d .countSat else s).gears = s.gears := by
  split
  · rw [State.satRaise_gears, State.modParse_gears]
  · rfl

theorem State.classifySecond_gears (s : State) (d : Fab) (fid : Nat) (f : FrameSt) (r : ParseRes) :
    (s.classifySecond d fid f r).gears = s.gears := by
  unfold State.classifySecond
  split
  · exact State.forget_gears _ _ _
  · split
    · exact State.malDrop_gears _ _ _ _ _ _
    · dsimp only
      rw [State.conclude_gears, State.fragMake_gears, State.judgeSecond_gears, State.ite_incomplete_gears]

theorem State.classify_gears (s : State) (d : Fab) (fid : Nat) (f : FrameSt) (r : ParseRes) : (s.classify d fid f r).gears = s.gears := by
  unfold State.classify
  dsimp only
  generalize hs0 : s.modFrame d fid _ = s0
  have h0 : s0.gears = s.gears := by rw [← hs0, State.modFrame_gears]
  rw [← h0]
  split
  · exact State.describe_gears _ _ _ _ _
  split
  · exact State.malDrop_gears _ _ _ _ _ _
  generalize hs1 : (if r.cls = 0xE then _ else s0 : State) = s1
  have h1 : s1.gears = s0.gears := by rw [← hs1, State.ite_incomplete_gears]
  rw [← h1]
  split
  · rw [State.dropFrame_gears, State.vlanTick_gears]
  · rename_i vid pcp _
    generalize hs2 : s1.modVlan f.inPort _ = s2
    have h2 : s2.gears = s1.gears := by rw [← hs2, State.modVlan_gears]
    rw [← h2]
    split
    · rw [State.dropFrame_gears, State.vlanTick_gears]
    · rename_i i _
      generalize hs4 : (if (s2.actionFor i).2 = true then _ else s2.countGroup d i _ : State) = s4
      have h4 : s4.gears = s2.gears := by
        rw [← hs4]
        split <;> simp [State.countGroup]
      rw [← h4]
      split
      · exact State.judge_gears _ _ _ _ _ _ _ _ _
      · split
        · rw [State.judge_gears]
          split
          · exact State.filterCheck_gears _ _ _ _ _
          · rw [State.modFrame_gears, State.filterCheck_gears]
        · rw [State.dropFrame_gears, State.filterCheck_gears]

end Sys2Proof.Machine
end

section
/-! PROOFS. Frames enter staging, parse engines and the collector. -/

namespace Sys2Proof.Machine

/-! ### Staging -/

/-- A frame that is staged is the last of its die. -/
theorem State.stage_frames (s : State) (p : Nat) (bytes : List Byte) (phy : Bool) (f0 : FrameSt) (h1 : s.has (dieOfPort p).num = true)
    (h2 : (s.pool (dieOfPort p)).built = true) :
    ∃ f : FrameSt, (f.inPort = p ∧ f.phyErr = phy ∧ f.fcsOk = fcsRight bytes ∧ f.mode = f0.mode ∧ f.hem = f0.hem ∧ f.toCpu = f0.toCpu) ∧
      ((s.stage p bytes phy f0).fab (dieOfPort p)).frames =
        (s.fab (dieOfPort p)).frames ++ [((s.fab (dieOfPort p)).nextFid, f)] := by
  unfold State.stage
  dsimp only
  rw [h1, h2, Bool.and_self, if_pos rfl]
  unfold State.addFrame
  dsimp only
  rw [State.fab_modFab]
  refine ⟨_, ?_, rfl⟩
  exact ⟨rfl, rfl, rfl, rfl, rfl, rfl⟩

theorem State.ingress_cpu (s : State) (p : Nat) (bytes hdr : List Byte) (phy : Bool) (sec : SecRx) (h1 : 26 ≤ p) (h2 : p < 28) :
    s.ingress p bytes hdr phy sec = s.stage p bytes phy {} := by
  unfold State.ingress
  rw [if_neg (by omega), if_pos h1]

theorem State.hemCheck_of_not_hem (s : State) (p : Nat) (hdr bytes : List Byte) (phy : Bool) (sec : SecRx) (h : s.isHem p = false) :
    s.hemCheck p hdr bytes phy sec = (s, some none) := by
  unfold State.hemCheck
  rw [h]
  rfl

theorem State.macsecRx_of_disabled (s : State) (p : Nat) (sec : SecRx) (bytes : List Byte) (h : (s.port p).secy.enable = false) :
    s.macsecRx p sec bytes = (s, true) := by
  unfold State.macsecRx
  exact if_pos (by simp [h])

theorem State.ingress_plain (s : State) (p : Nat) (bytes hdr : List Byte) (phy : Bool) (sec : SecRx) (hp : p ≤ 25)
    (hup : (s.port p).mode = .up) (hhem : s.isHem p = false) (hsec : (s.port p).secy.enable = false) (hptp : isGptp bytes = false) :
    s.ingress p bytes hdr phy sec = s.stage p bytes phy {} := by
  unfold State.ingress
  rw [if_neg (by omega), if_neg (by omega), if_neg (by simp [hup])]
  simp [State.hemCheck_of_not_hem _ _ _ _ _ _ hhem, State.macsecRx_of_disabled _ _ _ _ hsec, hptp, hsec]

/-! ### A frame that enters leaves the egress settings -/

theorem State.portTick_egr (s : State) (p : Nat) (get : PortSt → Nat) (set : PortSt → Nat → PortSt) : (s.portTick p get set).egr = s.egr :=
  (State.egr_of_wide (State.satRaise_wide _ _ _ _ (State.raiseDie_wide _ _ _))).trans rfl

theorem State.stage_egr (s : State) (p : Nat) (bytes : List Byte) (phy : Bool) (f : FrameSt) : (s.stage p bytes phy f).egr = s.egr :=
  congrArg Slices.egr (s.stage_onlyIn p bytes phy f)

theorem State.macsecRx_egr (s : State) (p : Nat) (sec : SecRx) (bytes : List Byte) : (s.macsecRx p sec bytes).1.egr = s.egr := by
  unfold State.macsecRx
  dsimp only
  repeat' split
  all_goals rfl

theorem State.hdrError_egr (s : State) (p : Nat) : (s.hdrError p).egr = s.egr :=
  (State.egr_of_wide (State.satRaise_wide _ _ _ _ (State.raiseDie_wide _ _ _))).trans rfl

theorem State.hemCheck_egr (s : State) (p : Nat) (hdr bytes : List Byte) (phy : Bool) (sec : SecRx) :
    (s.hemCheck p hdr bytes phy sec).1.egr = s.egr := by
  have hmac := s.macsecRx_egr p sec bytes
  unfold State.hemCheck
  dsimp only
  repeat' split
  all_goals first
    | rfl
    | exact State.hdrError_egr _ _
    | exact State.portTick_egr _ _ _ _
    | (rename_i hm; rw [hm] at hmac; exact hmac)

theorem State.gptpRx_egr (s : State) (p : Nat) (phy : Bool) (bytes : List Byte) : (s.gptpRx p phy bytes).1.egr = s.egr := by
  unfold State.gptpRx
  dsimp only
  repeat' split
  all_goals first
    | rfl
    | exact State.portTick_egr _ _ _ _
    | exact (State.egr_of_wide (State.satRaise_wide _ _ _ _ (State.raiseDie_wide _ _ _))).trans rfl

theorem State.ingress_egr (s : State) (p : Nat) (bytes hdr : List Byte) (phy : Bool) (sec : SecRx) :
    (s.ingress p bytes hdr phy sec).egr = s.egr := by
  unfold State.ingress
  split
  · rfl
  split
  · exact State.stage_egr _ _ _ _ _
  split
  · rfl
  have h1 := s.hemCheck_egr p hdr bytes phy sec
  split
  · rename_i hx
    rw [hx] at h1
    exact h1
  · rename_i s1 h hx
    rw [hx] at h1
    have h2 := s1.macsecRx_egr p sec bytes
    split
    · rename_i hy
      rw [hy] at h2
      exact h2.trans h1
    · rename_i s2 hy
      rw [hy] at h2
      have h3 := s2.gptpRx_egr p phy bytes
      have h21 : s2.egr = s.egr := h2.trans h1
      dsimp only
      split
      · split
        · rename_i hz
          rw [hz] at h3
          exact h3.trans h21
        · rename_i hz
          rw [hz] at h3
          exact (State.stage_egr _ _ _ _ _).trans (h3.trans h21)
      · split
        · exact (State.stage_egr _ _ _ _ _).trans h21
        · exact (State.stage_egr _ _ _ _ _).trans h21

/-! ### Engines -/

theorem State.engine_modEngine (s : State) (d : Fab) (e : Nat) (f : Engine → Engine) : (s.modEngine d e f).engine d e = f (s.engine d e) := by
  unfold State.engine State.modEngine
  rw [State.fab_modFab]
  exact Tbl.get_upd_self _ _ _ _

theorem State.shortDrop_none (s : State) (f : FrameSt) (h1 : 64 ≤ f.len) (h2 : 128 < f.len ∨ (f.fcsOk = true ∧ f.phyErr = false)) :
    s.shortDrop f = none := by
  unfold State.shortDrop
  rw [if_neg (by omega), if_neg]
  rintro ⟨hlen, hbad⟩
  obtain h2 | ⟨hok, herr⟩ := h2
  · omega
  · simp [hok, herr] at hbad

theorem State.engine_modFrame (s : State) (d : Fab) (fid : Nat) (f : FrameSt → FrameSt) (e : Nat) :
    (s.modFrame d fid f).engine d e = s.engine d e := State.engine_of_gears (State.modFrame_gears _ _ _ _) d e

/-- A collector that takes a result frees the engine. -/
theorem State.engine_classified (s : State) (d : Fab) (e fid : Nat) (f : FrameSt) (b : Bool) (r : ParseRes) (p : Nat)
    (g : PortParse → PortParse) :
    (if b then (((s.modEngine d e fun _ => {}).modParse p g).classifySecond d fid f r)
      else ((s.modEngine d e fun _ => {}).modParse p g).classify d fid f r).engine d e = {} := by
  have h : ((s.modEngine d e fun _ => {}).modParse p g).engine d e = {} := s.engine_modEngine d e _
  split
  · rw [State.engine_of_gears (State.classifySecond_gears _ _ _ _ _), h]
  · rw [State.engine_of_gears (State.classify_gears _ _ _ _ _), h]

theorem State.mm_of_egr {s t : State} (h : t.egr = s.egr) (p : Nat) : t.mm p = s.mm p := by
  unfold State.mm
  rw [h]

/-- Settles O23: each event puts its frame into staging, an engine or the store, and counts it. -/
theorem framesEnterStagingAndParseEngines : Obligations.FramesEnterStagingAndParseEngines := by
  unfold Obligations.FramesEnterStagingAndParseEngines
  refine ⟨?_, ?_, ?_, ?_, ?_, ?_, ?_, ?_, ?_⟩
  · intro port bytes hdr phy sec dt s hp1 hp2 hhas hbuilt
    obtain ⟨f, ⟨h1, h2, h3, h4, -, -⟩, hf⟩ := (s.adv dt).stage_frames port bytes phy {} hhas hbuilt
    exact ⟨_, congrArg Host.Outcome.next ((s.adv dt).ingress_cpu port bytes hdr phy sec hp1 hp2), f, h1, h2, h3, h4, hf⟩
  · intro port bytes hdr phy sec dt s hp hup hhem hsec hptp hhas hbuilt
    obtain ⟨f, ⟨h1, -, -, -, h5, h6⟩, hf⟩ := (s.adv dt).stage_frames port bytes phy {} hhas hbuilt
    exact ⟨_, congrArg Host.Outcome.next ((s.adv dt).ingress_plain port bytes hdr phy sec hp hup hhem hsec hptp), f, h1, h5, h6, hf⟩
  · intro port bytes hdr phy sec n dt s hp hup hen
    have hup' : ((s.adv dt).port port).mode = .up := hup
    have hen' : ((s.adv dt).mm port).en = true := hen
    have hon : (s.adv dt).reassemble port (.frags n) =
        ((s.adv dt).modMm port fun c => { c with fragRx := add72 c.fragRx n, assyOk := add72 c.assyOk 1 }, true) :=
      if_pos (by simp [hp, hup', hen'])
    refine ⟨_, rfl, ?_⟩
    dsimp only
    rw [hon, if_pos rfl, State.mm_of_egr (State.ingress_egr _ _ _ _ _ _), State.mm_modMm, if_pos rfl]
    exact ⟨rfl, rfl⟩
  · intro port bytes hdr phy sec n dt s hp hup hen
    have hup' : ((s.adv dt).port port).mode = .up := hup
    have hen' : ((s.adv dt).mm port).en = true := hen
    have hon : (s.adv dt).reassemble port (.broken n) =
        ((s.adv dt).modMm port fun c => { c with fragRx := add72 c.fragRx n, assyErr := satN 18 c.assyErr 1 }, false) :=
      if_pos (by simp [hp, hup', hen'])
    refine ⟨_, rfl, ?_⟩
    dsimp only
    rw [hon, if_neg (by simp), State.mm_modMm, if_pos rfl]
    exact ⟨rfl, rfl, rfl, rfl, rfl⟩
  · intro d e port fid f s hfind hfree hlen hok
    refine ⟨_, rfl, ?_⟩
    rw [hfind]
    dsimp only
    rw [if_pos hfree, State.shortDrop_none _ _ hlen hok]
    dsimp only
    rw [State.engine_modEngine]
    rfl
  · intro d e fid rest f s hsec hframe he hfid
    refine ⟨_, rfl, ?_⟩
    have heng : ((e == 22 || e == 23) && (s.engine d e).fid.isNone) = true := by
      rw [hfid]
      obtain rfl | rfl := he <;> rfl
    rw [hsec]
    dsimp only
    rw [hframe]
    dsimp only
    rw [if_pos heng, State.engine_modEngine]
    have hfab (u : State) (g : FabSt → FabSt) (h : FrameSt → FrameSt) (k : Engine → Engine) :
        ((((u.modFab d g).modFrame d fid h).modEngine d e k).fab d).second = (g (u.fab d)).second ∧
        ((((u.modFab d g).modFrame d fid h).modEngine d e k).fab d).recircs = (g (u.fab d)).recircs := by
      unfold State.modEngine State.modFrame
      rw [State.fab_modFab, State.fab_modFab, State.fab_modFab]
      exact ⟨rfl, rfl⟩
    rw [(hfab _ _ _ _).1, (hfab _ _ _ _).2]
    split
    · exact ⟨rfl, rfl, rfl, rfl⟩
    · exact ⟨rfl, rfl, rfl, rfl⟩
  · intro d e fid f s hfid hframe hdone htag
    refine ⟨_, rfl, ?_⟩
    rw [hfid]
    dsimp only
    rw [hframe]
    dsimp only
    rw [if_pos (by rw [hdone, htag]; rfl)]
    exact s.engine_classified d e fid f _ _ _ _
  · intro d fid f s hframe hmode hseam hown hst
    refine ⟨_, rfl, ?_⟩
    rw [hframe]
    dsimp only
    rw [if_pos (by simp [hmode, hseam, hown, hst])]
  · intro d fid dt f s hframe hmode hseam hown hend hst
    refine ⟨_, rfl, ?_⟩
    rw [hframe]
    dsimp only
    rw [if_pos (by simp [hmode, hseam, hown, hend, hst])]

end Sys2Proof.Machine
end

section
/-! PROOFS. The instructions of a parse program, and activations. -/

namespace Sys2Proof.Machine

theorem State.countParsed_gears (s : State) (d : Fab) (e : Nat) : (s.countParsed d e).gears = s.gears := by
  unfold State.countParsed
  dsimp only
  split
  · split <;> rfl
  · rfl

/-- The engine with its next word taken. -/
def Engine.stepped (g : Engine) : Engine := { g with pc := g.pc + 1, steps := g.steps + 1 }

theorem State.parseReady_op {s : State} {d : Fab} {e op : Nat} (h : s.parseReady d e op = true) :
    fld (s.tab.progWord (s.engine d e).prog (s.engine d e).pc) 35 32 = op ∧ (s.engine d e).done = false := by
  unfold State.parseReady at h
  simp only [Bool.and_eq_true, beq_iff_eq, Bool.not_eq_true', decide_eq_true_eq] at h
  exact ⟨h.2, h.1.1.2⟩

/-- An instruction applies its word to the engine that has taken it. -/
theorem State.engine_parseStep {s : State} {d : Fab} {e op : Nat} (h : s.parseReady d e op = true) :
    ∃ len, (s.parseStep d e op).engine d e =
      (s.engine d e).stepped.apply (s.tab.progWord (s.engine d e).prog (s.engine d e).pc) len := by
  unfold State.parseStep
  rw [if_pos h]
  dsimp only
  rw [State.engine_of_gears (State.countParsed_gears _ _ _), State.engine_modEngine]
  exact ⟨_, rfl⟩

/-- An instruction whose word has the effect `g` on the engine. -/
theorem runs_parse {i : Instr} {s : State} {d : Fab} {e op : Nat} {P : Engine → Prop} (hx : exec i s = .next (s.parseStep d e op))
    (h : s.parseReady d e op = true)
    (hp : ∀ len, P ((s.engine d e).stepped.apply (s.tab.progWord (s.engine d e).prog (s.engine d e).pc) len)) :
    runs i s fun t => P (t.engine d e) := by
  obtain ⟨len, hl⟩ := State.engine_parseStep h
  refine ⟨_, hx, ?_⟩
  change P ((s.parseStep d e op).engine d e)
  rw [hl]
  exact hp len

/-- The first LENSET of a window that does not hold the whole frame sets the length. -/
theorem Engine.lenset_first (g : Engine) (n len : Nat) (h1 : g.res.lenD = none) (h2 : g.whole = false) :
    g.lenset n len = { g with res := { g.res with lenD := some n } } := by
  unfold Engine.lenset
  rw [h1]
  dsimp only
  exact if_neg (by rw [h2]; simp)

theorem Engine.apply_lenset (g : Engine) (w : Word) (len : Nat) (h : fld w 35 32 = 9) :
    g.apply w len = g.lenset (g.base + g.cursor + g.reg (fld w 22 21) + fld w 15 0) len := by
  rw [Engine.apply, h]
  rfl

/-- Settles O24: each instruction applies its word to the engine. -/
theorem parseInstructionsStepTheEngine : Obligations.ParseInstructionsStepTheEngine := by
  unfold Obligations.ParseInstructionsStepTheEngine
  intro d e s g w g1
  refine ⟨fun h => ?_, fun h => ?_, fun h => ?_, fun h => ?_, fun h => ?_, fun h => ?_, fun h => ?_, fun h => ?_, fun h => ?_,
    fun h hlen hwhole => ?_, fun h => ?_, fun hfid hdone hbudget => ?_⟩
  iterate 6
    · refine runs_parse (P := fun x => x = _) rfl h fun len => ?_
      rw [Engine.apply, (State.parseReady_op h).1]
      rfl
  · refine runs_parse (P := fun x => x = _) rfl h fun len => ?_
    rw [Engine.apply, (State.parseReady_op h).1]
    exact ite_not _ _ _
  iterate 2
    · refine runs_parse (P := fun x => x = _) rfl h fun len => ?_
      rw [Engine.apply, (State.parseReady_op h).1]
      rfl
  · refine runs_parse (P := fun x => x.res.lenD = some _ ∧ x.done = false) rfl h fun len => ?_
    obtain ⟨hop, hdone⟩ := State.parseReady_op h
    rw [Engine.apply_lenset _ _ _ hop, Engine.lenset_first (s.engine d e).stepped _ _ hlen hwhole]
    exact ⟨rfl, hdone⟩
  · refine runs_parse (P := fun x => x = _) rfl h fun len => ?_
    rw [Engine.apply, (State.parseReady_op h).1]
    rfl
  · have hc : ((s.engine d e).fid.isSome && !(s.engine d e).done && decide ((s.engine d e).budget ≤ (s.engine d e).steps)) = true := by
      rw [show (s.engine d e).fid.isSome = true from hfid, show (s.engine d e).done = false from hdone]
      exact decide_eq_true hbudget
    refine ⟨_, congrArg Host.Outcome.next (if_pos hc), ?_⟩
    dsimp only
    rw [State.engine_of_gears (State.countParsed_gears _ _ _), State.engine_modEngine]
    rfl

/-! ### Activations -/

theorem TabSt.setBank_gen (t : TabSt) (b : Nat) (x : Tbl GroupEnt) : (t.setBank b x).gen = t.gen := by
  unfold TabSt.setBank
  split <;> rfl

/-- Settles O25: an activation switches a generation or the matrix at its instant, and its end leaves no activation. -/
theorem activationsSwitchGenerationsAndMatrix : Obligations.ActivationsSwitchGenerationsAndMatrix := by
  unfold Obligations.ActivationsSwitchGenerationsAndMatrix
  refine ⟨fun a s hact hreach => ⟨?_, fun hk => ?_, fun hk => ?_, fun hk => ?_, fun hk => ?_⟩, fun a s hact hk hreach hold => ?_,
    fun a s hact hk hreach => ?_⟩
  · refine ⟨_, rfl, ?_⟩
    rw [hact]
    dsimp only
    rw [if_neg (by simp [hreach]), if_neg (by simp), State.tab_of_wide (State.finish_wide _ _ _ _ _)]
    rfl
  · refine ⟨_, rfl, ?_⟩
    rw [hact]
    dsimp only
    rw [if_neg (by simp [hreach]), if_pos (by simp [hk])]
    rfl
  · refine ⟨_, rfl, ?_⟩
    rw [hact]
    dsimp only
    rw [if_neg (by simp [hreach]), hk]
    rfl
  · refine ⟨_, rfl, ?_⟩
    rw [hact]
    dsimp only
    rw [if_neg (by simp [hreach]), hk]
    rfl
  · refine ⟨_, rfl, ?_⟩
    rw [hact]
    dsimp only
    rw [if_neg (by simp [hreach]), hk]
    dsimp only
    rw [State.tab_of_wide (State.finish_wide _ _ _ _ _), State.zon_of_wide (State.finish_wide _ _ _ _ _)]
    exact ⟨rfl, rfl⟩
  · refine ⟨_, rfl, ?_⟩
    rw [hact]
    dsimp only
    rw [if_pos (by simp [hk, hreach, hold]), State.tab_of_wide (State.finish_wide _ _ _ _ _)]
    have hother (b : Nat) (x : Tbl GroupEnt) (c : Bool) (y : Option Act) (k : Nat) :
        ({ s.tab.setBank b x with retiring := c, act := y } : TabSt).bank k = (s.tab.setBank b x).bank k := rfl
    refine ⟨rfl, rfl, TabSt.setBank_gen _ _ _, ?_, ?_⟩
    · exact (hother _ _ _ _ _).trans (TabSt.bank_setBank_succ _ _ _)
    · exact (hother _ _ _ _ _).trans (TabSt.bank_setBank _ _ _)
  · refine ⟨_, rfl, ?_⟩
    rw [hact]
    dsimp only
    rw [if_pos (by simp [hk, hreach]), State.tab_of_wide (State.finish_wide _ _ _ _ _)]
    exact ⟨rfl, rfl, rfl⟩

end Sys2Proof.Machine
end

section
/-! PROOFS. Outputs are only added; table timers and the firmware's frames. -/

namespace Sys2Proof.Machine

/-! ### Outputs are only added -/

/-- The outputs of `s` stand before those that `t` adds. -/
def State.Adds (s t : State) : Prop := s.out <+: t.out

namespace State.Adds

variable {s t u : State}

theorem of_eq (h : t.out = s.out) : s.Adds t := by
  unfold State.Adds
  rw [h]

theorem refl (s : State) : s.Adds s := List.prefix_refl _

theorem trans (h : s.Adds t) (k : t.Adds u) : s.Adds u := List.IsPrefix.trans h k

theorem mem (h : s.Adds t) {o : Output} (ho : o ∈ s.out) : o ∈ t.out := h.subset ho

theorem foldl {α : Type} (n : State → α → State) (h : ∀ (s : State) (a : α), s.Adds (n s a)) (l : List α) (s : State) :
    s.Adds (l.foldl n s) := by
  induction l generalizing s with
  | nil => exact refl s
  | cons a l ih => exact trans (h s a) (ih _)

theorem ite (c : Prop) [Decidable c] (h : s.Adds t) (k : s.Adds u) : s.Adds (if c then t else u) := by
  split
  · exact h
  · exact k

end State.Adds

theorem State.emit_adds (s : State) (o : Output) : s.Adds (s.emit o) := List.prefix_append _ _

theorem State.modFab_adds (s : State) (d : Fab) (f : FabSt → FabSt) : s.Adds (s.modFab d f) := .of_eq (State.modFab_out _ _ _)

theorem State.modPool_adds (s : State) (d : Fab) (f : PoolSt → PoolSt) : s.Adds (s.modPool d f) := .of_eq (State.modPool_out _ _ _)

theorem State.raiseAt_adds (s : State) (p : Path) (n f : Nat) : s.Adds (s.raiseAt p n f) := by
  have hemit (u : State) (b : Prop) [Decidable b] (o : Output) (h : u.out = s.out) : s.Adds (if b then u.emit o else u) :=
    .ite _ (.trans (.of_eq h) (u.emit_adds o)) (.of_eq h)
  have hnote (u : State) (b : Prop) [Decidable b] (o : Output) (h : u.out = s.out) :
      s.Adds (if b then (u.emit o).modPath p PathSt.noticed else u) :=
    .ite _ (.trans (.of_eq h) (u.emit_adds o)) (.of_eq h)
  unfold State.raiseAt
  dsimp only
  generalize hs1 : s.modPath p _ = s1
  have h1 : s1.out = s.out := by
    rw [← hs1]
    rfl
  split
  · cases p
    case service => exact hnote s1 _ _ h1
    case spi => exact .of_eq h1
    case image => exact .refl s
    case relay => exact .refl s
    all_goals exact hemit s1 _ _ h1
  · exact .of_eq h1

theorem State.raiseDie_adds (s : State) (d : Fab) (f : DieFlag) : s.Adds (s.raiseDie d f) :=
  .foldl _ (fun s p => s.raiseAt_adds p d.num f.bit) _ _

theorem State.raiseDev_adds (s : State) (f : DevFlag) : s.Adds (s.raiseDev f) := .foldl _ (fun s p => s.raiseAt_adds p 3 f.bit) _ _

theorem State.satRaise_adds (s : State) (old k : Nat) (ev : State → State) (h : s.Adds (ev s)) : s.Adds (s.satRaise old k ev) :=
  .ite _ h (.refl s)

theorem State.logFault_adds (s : State) (code die x : Nat) : s.Adds (s.logFault code die x) := by
  unfold State.logFault
  dsimp only
  refine .trans ?_ (State.raiseDev_adds _ _)
  exact .of_eq (State.modSys_out _ _)

theorem State.poolTick_adds (s : State) (d : Fab) (p : Nat) (get : PoolCtr → Nat) (set : PoolCtr → Nat → PoolCtr) :
    s.Adds (s.poolTick d p get set) := .trans (s.modPool_adds d _) (State.satRaise_adds _ _ _ _ (State.raiseDie_adds _ _ _))

theorem State.poolError_adds (s : State) (d : Fab) (kind pool i x o n : Nat) : s.Adds (s.poolError d kind pool i x o n) := by
  have htick : s.Adds (s.errTick d pool kind) := .ite _ (s.poolTick_adds _ _ _ _) (.ite _ (s.poolTick_adds _ _ _ _) (s.poolTick_adds _ _ _ _))
  unfold State.poolError
  dsimp only
  generalize hs3 : ((s.errTick d pool kind).modPool d _).raiseDie d .poolErr = s3
  have h3 : s.Adds s3 := by
    rw [← hs3]
    exact .trans (.trans htick (State.modPool_adds _ d _)) (State.raiseDie_adds _ d .poolErr)
  exact .ite _ (.trans h3 (State.logFault_adds _ _ _ _)) h3

theorem State.useDown_adds (s : State) (d : Fab) (p n : Nat) : s.Adds (s.useDown d p n) := s.modPool_adds d _

theorem State.freeCell_adds (s : State) (d : Fab) (c : Nat) : s.Adds (s.freeCell d c) := .trans (s.modPool_adds d _) (State.useDown_adds _ _ _ _)

theorem State.freeWalk_adds (s : State) (d : Fab) (x n c : Nat) : s.Adds (s.freeWalk d x n c) := by
  induction n generalizing s c with
  | zero => exact .refl s
  | succ n ih =>
    have h1 : s.Adds (if (s.pool d).cellFree c then s.poolError d 7 0 c x ((s.pool d).cellRec c).owner ((s.pool d).cellRec c).share
        else s.freeCell d c) := .ite _ (s.poolError_adds _ _ _ _ _ _ _) (s.freeCell_adds _ _)
    exact .ite _ h1 (.trans h1 (ih _ _))

theorem State.freeCellChain_adds (s : State) (d : Fab) (c x : Nat) : s.Adds (s.freeCellChain d c x).1 := by
  unfold State.freeCellChain
  dsimp only
  repeat' split
  · exact s.poolError_adds _ _ _ _ _ _ _
  · exact s.poolError_adds _ _ _ _ _ _ _
  · exact s.poolError_adds _ _ _ _ _ _ _
  · exact s.freeWalk_adds _ _ _ _

theorem State.freeUnit_adds (s : State) (d : Fab) (c u x : Nat) : s.Adds (s.freeUnit d c u x).1 := by
  unfold State.freeUnit
  repeat' split
  · exact s.poolError_adds _ _ _ _ _ _ _
  · exact s.poolError_adds _ _ _ _ _ _ _
  · exact .trans (s.modPool_adds d _) (State.useDown_adds _ _ _ _)

theorem State.releaseCell_adds (s : State) (d : Fab) (c x : Nat) : s.Adds (s.releaseCell d c x).1 := by
  unfold State.releaseCell
  dsimp only
  repeat' split
  · exact s.poolError_adds _ _ _ _ _ _ _
  · exact s.modPool_adds d _
  · exact s.modPool_adds d _

theorem State.releaseCopy_adds (s : State) (d : Fab) (fid : Nat) (c : Copy) : s.Adds (s.releaseCopy d fid c) := by
  have htidy (u : State) : u.Adds (u.tidy d fid) := by
    unfold State.tidy
    repeat' split
    all_goals first | exact u.modFab_adds d _ | exact .refl u
  unfold State.releaseCopy
  split
  · exact .refl s
  · dsimp only
    refine .trans (.trans (.trans ?_ (State.modPool_adds _ d _)) (State.modFab_adds _ d _)) (htidy _)
    generalize hs1 : s.freeUnits d _ c.out c.units = s1
    have h1 : s.Adds s1 := hs1 ▸ .foldl _ (fun u k => u.freeUnit_adds d _ k c.out) _ _
    have hshare (s2 : State) (h2 : s.Adds s2) (h : Nat) :
        s.Adds (if (s2.releaseCell d h c.out).2 == PoolOutcome.last then (s2.releaseCell d h c.out).1.chainLast d fid h c.out
          else (s2.releaseCell d h c.out).1) :=
      .ite _ (.trans (.trans h2 (State.releaseCell_adds _ _ _ _)) (.trans (State.freeCellChain_adds _ _ _ _) (State.modFab_adds _ d _)))
        (.trans h2 (State.releaseCell_adds _ _ _ _))
    cases c.spill with
    | none =>
      dsimp only
      split
      · exact h1
      · exact hshare s1 h1 _
    | some k =>
      have h2 := State.Adds.trans h1 (s1.freeCellChain_adds d k c.out)
      dsimp only
      split
      · exact h2
      · exact hshare _ h2 _

/-! ### Table timers -/

theorem State.fab_dieTick (s : State) (d : Fab) (old k : Nat) (f : FabSt → FabSt) : (s.dieTick d old k f).fab d = f (s.fab d) := by
  unfold State.dieTick
  rw [State.fab_of_wide (State.satRaise_wide _ _ _ _ (State.raiseDie_wide _ _ _)), State.fab_modFab]

theorem State.learnQ_learn (s : State) (d : Fab) (q : LearnReq) : ((s.learn d q).fab d).learnQ = (s.fab d).learnQ := by
  have htab (u : State) (f : TabSt → TabSt) : (u.modTab f).fab d = u.fab d := by cases d <;> rfl
  unfold State.learn
  dsimp only
  split
  · split
    · rw [State.fab_dieTick]
    · split
      · rfl
      · rw [State.fab_dieTick, htab]
  · split
    · rw [htab]
    · rw [State.fab_dieTick]

theorem State.frerDyn_of_wide {s t : State} (h : t.wide = s.wide) (d : Fab) (n : Nat) : t.frerDyn d n = s.frerDyn d n := by
  unfold State.frerDyn
  rw [State.fab_of_wide h]

theorem State.frerDyn_modFrer (s : State) (d : Fab) (n : Nat) (f : FrerDyn → FrerDyn) :
    (s.modFrer d n f).frerDyn d n = f (s.frerDyn d n) := by
  unfold State.frerDyn State.modFrer
  rw [State.fab_modFab]
  exact Tbl.get_upd_self FrerDyn.dflt (s.fab d).frer n f

/-- Settles O26: each timer writes its entry, and the firmware's frame goes out before its copy is released. -/
theorem tableTimersAndCpuDelivery : Obligations.TableTimersAndCpuDelivery := by
  unfold Obligations.TableTimersAndCpuDelivery
  refine ⟨fun q qs s hq => ?_, fun d i s hv => ?_, fun d fn s hfn hany hmode => ?_, fun port s hp hup hdown => ?_,
    fun d fid p i f c s s1 hserved hhead halloc => ?_⟩
  · refine ⟨_, rfl, ?_⟩
    rw [hq]
    dsimp only
    split
    · rw [State.learnQ_learn, State.fab_modFab]
    · rw [State.fab_modFab]
  · refine ⟨_, congrArg Host.Outcome.next (if_pos hv), ?_⟩
    dsimp only
    rw [State.fab_dieTick]
    generalize hu : s.advNs _ = u
    have hfab : u.fab d = s.fab d := by
      rw [← hu]
      rfl
    rw [hfab]
    exact ⟨Tbl.get_put_self FragEnt.dflt (s.fab d).frags i {}, rfl⟩
  · refine ⟨_, congrArg Host.Outcome.next (if_pos ⟨hmode, hfn, hany⟩), ?_⟩
    dsimp only
    rw [State.frerDyn_of_wide (State.satRaise_wide _ _ _ _ (State.raiseDie_wide _ _ _)), State.frerDyn_modFrer]
    rfl
  · exact ⟨_, congrArg Host.Outcome.next (if_pos ⟨hp, hup, hdown⟩), rfl⟩
  · refine ⟨_, congrArg Host.Outcome.next (if_pos hserved), ?_⟩
    rw [hhead]
    dsimp only
    rw [halloc]
    dsimp only
    exact (State.releaseCopy_adds _ _ _ _).mem (List.mem_append_right _ (List.mem_singleton.mpr rfl))

end Sys2Proof.Machine
end

section
/-! PROOFS. The Seam, and what the storing of a frame leaves of engines and words on the Seam. -/

namespace Sys2Proof.Machine

/-! ### Storing a frame -/

theorem State.foldl_gears {α : Type} (n : State → α → State) (h : ∀ s a, (n s a).gears = s.gears) (l : List α) (s : State) :
    (l.foldl n s).gears = s.gears := by
  induction l generalizing s with
  | nil => rfl
  | cons a l ih => rw [List.foldl_cons, ih, h]

@[simp] theorem State.modPool_gears (s : State) (d : Fab) (f : PoolSt → PoolSt) : (s.modPool d f).gears = s.gears :=
  State.gears_of_wide (State.modPool_wide _ _ _)

@[simp] theorem State.modOutPool_gears (s : State) (d : Fab) (o : Nat) (f : OutPool → OutPool) : (s.modOutPool d o f).gears = s.gears :=
  State.modPool_gears _ _ _

@[simp] theorem State.modOut_gears (s : State) (d : Fab) (o : Nat) (f : OutCfg → OutCfg) : (s.modOut d o f).gears = s.gears :=
  State.modFab_gears _ _ _ (fun _ => rfl) (fun _ => rfl)

@[simp] theorem State.modQctr_gears (s : State) (d : Fab) (o q : Nat) (f : QueueCtr → QueueCtr) : (s.modQctr d o q f).gears = s.gears :=
  State.modFab_gears _ _ _ (fun _ => rfl) (fun _ => rfl)

@[simp] theorem State.modPort_gears (s : State) (p : Nat) (f : PortSt → PortSt) : (s.modPort p f).gears = s.gears := rfl

@[simp] theorem State.freeCellChain_gears (s : State) (d : Fab) (c x : Nat) : (s.freeCellChain d c x).1.gears = s.gears :=
  State.gears_of_wide (State.freeCellChain_wide _ _ _ _)

@[simp] theorem State.releaseCell_gears (s : State) (d : Fab) (c x : Nat) : (s.releaseCell d c x).1.gears = s.gears :=
  State.gears_of_wide (State.releaseCell_wide _ _ _ _)

@[simp] theorem State.freeUnits_gears (s : State) (d : Fab) (c x : Nat) (us : List Nat) : (s.freeUnits d c x us).gears = s.gears :=
  State.gears_of_wide (State.freeUnits_wide _ _ _ _ _)

@[simp] theorem State.tidy_gears (s : State) (d : Fab) (fid : Nat) : (s.tidy d fid).gears = s.gears := by
  unfold State.tidy
  repeat' split
  all_goals simp

@[simp] theorem State.releaseCopy_gears (s : State) (d : Fab) (fid : Nat) (c : Copy) : (s.releaseCopy d fid c).gears = s.gears := by
  unfold State.releaseCopy
  split
  · rfl
  · dsimp only
    rw [State.tidy_gears, State.modFrame_gears, State.modOutPool_gears]
    repeat' split
    all_goals simp [State.chainLast]

@[simp] theorem State.mirrorLost_gears (s : State) (c : Copy) : (s.mirrorLost c).gears = s.gears := by
  unfold State.mirrorLost
  split
  · rfl
  · exact State.dieTick_gears _ _ _ _ _ (fun _ => rfl) (fun _ => rfl)

@[simp] theorem State.countRefuse_gears (s : State) (d : Fab) (c : Copy) (w : Refuse) : (s.countRefuse d c w).gears = s.gears := by
  unfold State.countRefuse
  dsimp only
  rw [State.mirrorLost_gears]
  cases w with
  | flush => exact State.modOut_gears _ _ _ _
  | limit => exact State.modOutPool_gears _ _ _ _
  | sdu => exact (State.satRaise_gears _ _ _ _ _).trans (State.modQctr_gears _ _ _ _ _)
  | yellow => exact (State.satRaise_gears _ _ _ _ _).trans (State.modQctr_gears _ _ _ _ _)

@[simp] theorem State.outTick_gears (s : State) (d : Fab) (o : Nat) (get : OutCfg → Nat) (set : OutCfg → Nat → OutCfg) :
    (s.outTick d o get set).gears = s.gears := State.dieTick_gears _ _ _ _ _ (fun _ => rfl) (fun _ => rfl)

@[simp] theorem State.residence_gears (s : State) (d : Fab) (o : Nat) (f : FrameSt) (ct : Bool) : (s.residence d o f ct).gears = s.gears := by
  unfold State.residence
  dsimp only
  split <;> simp

@[simp] theorem State.heldUp_gears (s : State) (d : Fab) (o n : Nat) : (s.heldUp d o n).gears = s.gears := State.modOutPool_gears _ _ _ _

@[simp] theorem State.markHwm_gears (s : State) (d : Fab) (o k : Nat) : (s.markHwm d o k).gears = s.gears := State.modQctr_gears _ _ _ _ _

@[simp] theorem State.admitOne_gears (s : State) (d : Fab) (fid : Nat) (f : FrameSt) (c : Copy) : (s.admitOne d fid f c).1.gears = s.gears := by
  unfold State.admitOne
  split
  · simp
  · dsimp only
    rw [State.markHwm_gears]
    have hwake (u : State) (b : Prop) [Decidable b] (p : Nat) (g : PortSt → PortSt) : (if b then u.modPort p g else u).gears = u.gears := by
      split <;> rfl
    rw [hwake, State.residence_gears, State.heldUp_gears]
    exact (State.modFab_gears _ _ _ (by intro; rfl) (by intro; rfl)).trans (State.modFrame_gears _ _ _ _)

@[simp] theorem State.admitAll_gears (s : State) (d : Fab) (fid : Nat) (ready : Copy → Bool) (n : Nat) (cs : List Copy) :
    (s.admitAll d fid ready n cs).1.gears = s.gears := by
  induction n generalizing s cs with
  | zero => rfl
  | succ n ih =>
    cases cs with
    | nil => rfl
    | cons c cs =>
      unfold State.admitAll
      split
      · rfl
      · dsimp only
        rw [ih]
        split
        · simp
        · rw [State.foldl_gears _ (fun s x => State.releaseCopy_gears s d fid x), State.admitOne_gears]

@[simp] theorem State.recover_gears (s : State) (d : Fab) (fid : Nat) : (s.recover d fid).gears = s.gears := by
  have hjudge (u : State) (n : Nat) (ds : Desc) : (u.frerJudge d n ds).1.gears = u.gears := by
    unfold State.frerJudge
    dsimp only
    repeat' split
    all_goals simp [State.modFrer, State.misconfig]
  unfold State.recover
  repeat' split
  · rfl
  · rfl
  · rename_i n _ _
    dsimp only
    split
    · rw [State.modFrame_gears, hjudge]
    · rw [State.foldl_gears _ (fun s x => State.releaseCopy_gears s d fid x), State.modFrame_gears, hjudge]
  · rfl
  · rfl

@[simp] theorem State.settleWriter_gears (s : State) (d : Fab) (fid : Nat) : (s.settleWriter d fid).gears = s.gears := by
  unfold State.settleWriter
  dsimp only
  repeat' split
  all_goals simp [State.unchain]

@[simp] theorem State.shareCell_gears (s : State) (d : Fab) (c x k : Nat) : (s.shareCell d c x k).1.gears = s.gears :=
  State.gears_of_wide (State.shareCell_wide _ _ _ _ _)

@[simp] theorem State.enqueue_gears (s : State) (d : Fab) (fid : Nat) (atEnd : Bool) : (s.enqueue d fid atEnd).gears = s.gears := by
  unfold State.enqueue
  dsimp only
  repeat' split
  all_goals simp

@[simp] theorem State.markGrowth_gears (s : State) (d : Fab) (fid : Nat) : (s.markGrowth d fid).gears = s.gears := by
  unfold State.markGrowth
  split
  · rfl
  · exact State.foldl_gears _ (fun s c => State.markHwm_gears s d _ _) _ _

@[simp] theorem State.ctBad_gears (s : State) (d : Fab) (o cause : Nat) : (s.ctBad d o cause).gears = s.gears := by
  unfold State.ctBad
  rw [State.raiseDie_gears, State.modOut_gears, State.outTick_gears]

@[simp] theorem State.noCell_gears (s : State) (d : Fab) (fid : Nat) (c : Copy) : (s.noCell d fid c).gears = s.gears := by
  unfold State.noCell
  split <;> simp

@[simp] theorem State.grantCell_gears (s : State) (d : Fab) (x : Nat) : (s.grantCell d x).1.gears = s.gears :=
  State.gears_of_wide (State.grantCell_wide _ _ _)

theorem State.grantCell_gears_of (s : State) (d : Fab) (x : Nat) {u : State} {o : Option Nat} (h : s.grantCell d x = (u, o)) :
    u.gears = s.gears := by
  have h1 := s.grantCell_gears d x
  rw [h] at h1
  exact h1

theorem State.writerCell_gears_of (s : State) (d : Fab) (i : Nat) {u : State} {o : Option Nat} (h : s.writerCell d i = (u, o)) :
    u.gears = s.gears := by
  have hspare (v : State) (x c : Nat) : (v.addSpare d x c).gears = v.gears := by
    unfold State.addSpare
    split <;> simp
  have h1 : (s.writerCell d i).1.gears = s.gears := by
    unfold State.writerCell
    split
    · dsimp only
      split
      · rename_i hg
        rw [hspare, State.grantCell_gears_of _ _ _ hg, State.modPool_gears]
      · rename_i hg
        rw [State.grantCell_gears_of _ _ _ hg, State.modPool_gears]
    · exact State.grantCell_gears _ _ _
  rw [h] at h1
  exact h1

theorem State.storeCommon_gears (s : State) (d : Fab) (fid k : Nat) (ws : List Word) : (s.storeCommon d fid k ws).gears = s.gears := by
  unfold State.storeCommon
  split
  · rfl
  dsimp only
  split
  · rfl
  split
  · split
    · rename_i hw
      rw [State.foldl_gears _ (fun s c => State.noCell_gears s d fid c), State.writerCell_gears_of _ _ _ hw]
    · rename_i hw
      rw [State.foldl_gears _ (fun s (c : Copy) => State.heldUp_gears s d c.out 1), State.modFrame_gears, State.modPool_gears,
        State.writerCell_gears_of _ _ _ hw]
  · split <;> simp

theorem State.storeSpill_gears (s : State) (d : Fab) (fid : Nat) (c : Copy) (ws : List Word) : (s.storeSpill d fid c ws).gears = s.gears := by
  unfold State.storeSpill
  split
  · split
    · rename_i hg
      rw [State.noCell_gears, State.grantCell_gears_of _ _ _ hg]
    · rename_i hg
      dsimp only
      rw [State.heldUp_gears, State.modFrame_gears, State.modPool_gears, State.grantCell_gears_of _ _ _ hg]
  · simp

theorem State.storePocket_gears (s : State) (d : Fab) (fid k : Nat) (ws : List Word) (c : Copy) :
    (s.storePocket d fid k ws c).gears = s.gears := by
  have hgrant (u : State) (x : Nat) (us : List Nat) : (u.grantUnits d x us).gears = u.gears := State.gears_of_wide (State.grantUnits_wide _ _ _ _)
  unfold State.storePocket
  split
  · rfl
  dsimp only
  split
  · exact State.storeSpill_gears _ _ _ _ _
  split
  · split
    · exact State.modPool_gears _ _ _
    · rfl
  · split
    · rw [State.modPool_gears, State.modFrame_gears, hgrant]
    · rw [State.storeSpill_gears, State.modOutPool_gears]

/-- A word that is stored leaves the engines and the words on the Seam. -/
theorem State.storeWord_gears (s : State) (d : Fab) (fid : Nat) (data : List Byte) (last early : Bool) :
    (s.storeWord d fid data last early).gears = s.gears := by
  unfold State.storeWord
  split
  · rfl
  rename_i f _
  dsimp only
  generalize hs1 : (if f.stored = 0 then s.prepare d fid f else s) = s1
  have h1 : s1.gears = s.gears := by
    rw [← hs1]
    split
    · exact State.modFrame_gears _ _ _ _
    · rfl
  split
  · rw [State.enqueue_gears, State.modFrame_gears, State.foldl_gears _ (fun s c => State.storePocket_gears s d fid _ _ c),
      State.storeCommon_gears, h1]
  · rw [State.markGrowth_gears, State.modFrame_gears, State.foldl_gears _ (fun s c => State.storePocket_gears s d fid _ _ c),
      State.storeCommon_gears, h1]

/-- The end of a frame that came over the Seam leaves the engines and the words on the Seam. -/
theorem State.seamEnd_gears (s : State) (d : Fab) (fid : Nat) (bad : Option Nat) : (s.seamEnd d fid bad).gears = s.gears := by
  have hbad (u : State) (cause : Nat) : (u.endBad d fid cause).gears = u.gears := by
    refine State.foldl_gears _ (fun v c => ?_) _ _
    repeat' split
    all_goals simp
  unfold State.seamEnd
  dsimp only
  split
  · rw [State.settleWriter_gears, State.modFrame_gears, hbad, State.modFrame_gears]
  · rw [State.enqueue_gears, State.settleWriter_gears, State.modFrame_gears]

/-! ### The Seam -/

theorem State.seamError_gears (s : State) (d : Fab) : (s.seamError d).gears = s.gears := by
  unfold State.seamError
  rw [State.raiseDie_gears]
  exact State.dieTick_gears _ _ _ _ _ (fun _ => rfl) (fun _ => rfl)

theorem State.seamWords_put (s : State) (d : Fab) (link : Nat) (ws : List SeamWord) :
    Tbl.get nilAt ((s.modFab d fun q => { q with seamWords := Tbl.put nilAt q.seamWords link ws }).fab d).seamWords link = ws := by
  rw [State.fab_modFab]
  exact Tbl.get_put_self nilAt (s.fab d).seamWords link ws

/-- The far die stores the word that arrived, and the words behind it stay on the link. -/
theorem execSeamWordRx_gears (d : Fab) (link : Nat) (s : State) (w : SeamWord) (ws : List SeamWord)
    (h : Tbl.get nilAt (s.fab d.other).seamWords link = w :: ws) :
    ∃ t, execSeamWordRx d link s = .next t ∧
      t.gears = (s.modFab d.other fun q => { q with seamWords := Tbl.put nilAt q.seamWords link ws }).gears := by
  refine ⟨_, rfl, ?_⟩
  rw [h]
  dsimp only
  generalize s.modFab d.other _ = s0
  have hfirst (f : FrameSt) : (if (f.desc.getD {}).farMask ≠ 0 then s0.seamError d
      else if (s0.has d.num && (s0.pool d).built) = true then (s0.addFrame d f).1 else s0).gears = s0.gears := by
    repeat' split
    · exact State.seamError_gears _ _
    · exact State.modFab_gears _ _ _ (fun _ => rfl) (fun _ => rfl)
    · rfl
  have hrest (s1 : State) (h1 : s1.gears = s0.gears) (fid : Nat) :
      (if w.last = true then (if w.data.isEmpty = true then s1 else s1.storeWord d fid w.data w.last (!w.last)).seamEnd d fid w.bad
        else if w.data.isEmpty = true then s1 else s1.storeWord d fid w.data w.last (!w.last)).gears = s0.gears := by
    have h2 : (if w.data.isEmpty = true then s1 else s1.storeWord d fid w.data w.last (!w.last)).gears = s0.gears := by
      split
      · exact h1
      · rw [State.storeWord_gears, h1]
    split
    · rw [State.seamEnd_gears, h2]
    · exact h2
  cases w.header with
  | none =>
    dsimp only
    split
    · rfl
    · exact hrest s0 rfl _
  | some f =>
    dsimp only
    split
    · exact hfirst f
    · exact hrest _ (hfirst f) _

theorem State.tidy_trunk (s : State) (d : Fab) (fid : Nat) : (s.tidy d fid).trunk = s.trunk := by
  unfold State.tidy
  repeat' split
  all_goals first | exact State.modFab_trunk _ _ _ | rfl

theorem State.modFrame_trunk (s : State) (d : Fab) (fid : Nat) (f : FrameSt → FrameSt) : (s.modFrame d fid f).trunk = s.trunk :=
  State.modFab_trunk _ _ _

theorem State.outTick_trunk (s : State) (d : Fab) (o : Nat) (get : OutCfg → Nat) (set : OutCfg → Nat → OutCfg) :
    (s.outTick d o get set).trunk = s.trunk := State.dieTick_trunk _ _ _ _ _

theorem State.mirrorLost_trunk (s : State) (c : Copy) : (s.mirrorLost c).trunk = s.trunk := by
  unfold State.mirrorLost
  split
  · rfl
  · exact State.dieTick_trunk _ _ _ _ _

theorem State.ctBad_trunk (s : State) (d : Fab) (o cause : Nat) : (s.ctBad d o cause).trunk = s.trunk := by
  unfold State.ctBad
  rw [State.raiseDie_trunk]
  exact (State.modFab_trunk _ _ _).trans (State.outTick_trunk _ _ _ _ _)

theorem State.endBad_trunk (s : State) (d : Fab) (fid cause : Nat) : (s.endBad d fid cause).trunk = s.trunk := by
  refine State.foldl_trunk _ (fun u c => ?_) _ _
  split
  · split
    · rfl
    · rw [State.ctBad_trunk, State.modFrame_trunk]
  · rw [State.releaseCopy_trunk, State.mirrorLost_trunk, State.outTick_trunk]

theorem State.settleWriter_trunk (s : State) (d : Fab) (fid : Nat) : (s.settleWriter d fid).trunk = s.trunk := by
  unfold State.settleWriter
  dsimp only
  repeat' split
  all_goals simp [State.unchain, State.tidy_trunk, State.modFrame_trunk]

theorem State.seamError_trunk (s : State) (d : Fab) : (s.seamError d).trunk = s.trunk := by
  unfold State.seamError
  rw [State.raiseDie_trunk, State.dieTick_trunk]

theorem State.seamCut_trunk (s : State) (d : Fab) (link : Nat) : (s.seamCut d link).trunk = s.trunk := by
  unfold State.seamCut
  dsimp only
  rw [State.foldl_trunk _ (fun u e => ?_), State.foldl_trunk _ (fun u (e : Nat × FrameSt × Copy) => State.releaseCopy_trunk u d e.1 e.2.2),
    State.modFab_trunk, State.foldl_trunk _ (fun u _ => State.seamError_trunk u d)]
  rw [State.seamError_trunk]
  unfold State.seamEnd
  dsimp only
  rw [State.settleWriter_trunk, State.modFrame_trunk, State.endBad_trunk, State.modFrame_trunk]

theorem State.links_of_trunk {s t : State} (h : t.trunk = s.trunk) : t.sys.links = s.sys.links :=
  (congrArg SysSt.links (State.sys_of_trunk h) :)

/-- A link that is lost is the only one that changes. -/
theorem execSeamLinkLost_links (link : Nat) (west east : Bool) (s : State) (h1 : s.seamUp link = true) (h2 : (west || east) = true) :
    ∃ t, execSeamLinkLost link west east s = .next t ∧ t.sys.links = setMask s.sys.links link false := by
  have hlog (u : State) (b : Prop) [Decidable b] (n : Nat) : (if b then u.logFault 1 n link else u).trunk = u.trunk := by
    split
    · exact State.logFault_trunk _ _ _ _
    · rfl
  have hflush (u : State) (b : Prop) [Decidable b] : (if b then u else (u.flushOutput .west 16).flushOutput .east 16).trunk = u.trunk := by
    split
    · rfl
    · rw [State.flushOutput_trunk, State.flushOutput_trunk]
  refine ⟨_, congrArg Host.Outcome.next (if_pos (by rw [h1, h2]; rfl)), ?_⟩
  dsimp only
  refine (State.links_of_trunk (s := s.modSys fun y => { y with links := setMask y.links link false }) ?_).trans rfl
  rw [hflush, hlog, hlog, State.seamCut_trunk, State.seamCut_trunk]

/-- Settles O27: the queue of a link loses or gains one word, a copy is marked as sending, and a lost link leaves the others. -/
theorem seamLinksCarryAndLoseWords : Obligations.SeamLinksCarryAndLoseWords := by
  unfold Obligations.SeamLinksCarryAndLoseWords
  refine ⟨fun d link fid f c rest s hup hfew hcopies => ?_, fun d link fid f c rest s hup hcopies => ?_, fun d link w ws s hw => ?_,
    fun link west east s hup hlost => ?_⟩
  · refine ⟨_, congrArg Host.Outcome.next (if_pos (by rw [hup]; exact decide_eq_true hfew)), ?_⟩
    rw [hcopies]
  · refine ⟨_, congrArg Host.Outcome.next (if_pos hup), ?_⟩
    rw [hcopies]
    dsimp only
    generalize hw : ({ fid := fid, header := _, data := _, last := _, bad := _ } : SeamWord) = w
    refine ⟨w, by rw [← hw], ?_⟩
    have hput : Tbl.get nilAt ((s.modFab d fun q => { q with seamWords := Tbl.upd nilAt q.seamWords link fun l => l ++ [w] }).fab d).seamWords
        link = Tbl.get nilAt (s.fab d).seamWords link ++ [w] := by
      rw [State.fab_modFab]
      exact Tbl.get_upd_self nilAt (s.fab d).seamWords link fun l => l ++ [w]
    refine Eq.trans ?_ hput
    refine congrArg (Tbl.get nilAt · link) (State.seamWords_of_gears ?_ d)
    split
    · rw [State.releaseCopy_gears]
      split
      · exact (State.modQctr_gears _ _ _ _ _).trans (State.modFrame_gears _ _ _ _)
      · exact State.modFrame_gears _ _ _ _
    · exact State.modFrame_gears _ _ _ _
  · obtain ⟨t, hx, ht⟩ := execSeamWordRx_gears d link s w ws hw
    refine ⟨t, hx, ?_⟩
    dsimp only
    rw [State.seamWords_of_gears ht]
    exact s.seamWords_put _ _ _
  · obtain ⟨t, hx, ht⟩ := execSeamLinkLost_links link west east s hup hlost
    refine ⟨t, hx, ?_, fun l hl => ?_⟩
    · rw [ht, inMask_setMask, if_pos rfl]
    · rw [ht, inMask_setMask, if_neg hl]

end Sys2Proof.Machine
end

section
/-! PROOFS. The pools: records of message buffers and the operations that answer their requester. -/

namespace Sys2Proof.Machine

/-! ### The pool of a die -/

@[simp] theorem State.raiseAt_pool (s : State) (p : Path) (n f : Nat) (d : Fab) : (s.raiseAt p n f).pool d = s.pool d := by
  have hemit (u : State) (b : Prop) [Decidable b] (o : Output) (h : u.pool d = s.pool d) : (if b then u.emit o else u).pool d = s.pool d := by
    split
    · exact .trans (by cases d <;> rfl) h
    · exact h
  have hnote (u : State) (b : Prop) [Decidable b] (o : Output) (h : u.pool d = s.pool d) :
      (if b then (u.emit o).modPath p PathSt.noticed else u).pool d = s.pool d := by
    split
    · exact .trans (by cases d <;> rfl) h
    · exact h
  unfold State.raiseAt
  dsimp only
  generalize hs1 : s.modPath p _ = s1
  have h1 : s1.pool d = s.pool d := by
    rw [← hs1]
    cases d <;> rfl
  split
  · cases p
    case service => exact hnote s1 _ _ h1
    case spi => exact h1
    case image => rfl
    case relay => rfl
    all_goals exact hemit s1 _ _ h1
  · exact h1

@[simp] theorem State.raiseDie_pool (s : State) (e : Fab) (f : DieFlag) (d : Fab) : (s.raiseDie e f).pool d = s.pool d := by
  unfold State.raiseDie
  induction hostPaths generalizing s with
  | nil => rfl
  | cons p l ih => rw [List.foldl_cons, ih, State.raiseAt_pool]

/-! ### A message buffer's record is read where it was put -/

theorem PoolSt.msg_setMsg (q : PoolSt) (p : Nat) (l : Tbl BufRec) : (q.setMsg p l).msg p = l := by
  match p with
  | 0 => rfl
  | 1 => rfl
  | 2 => rfl
  | _ + 3 => rfl

@[simp] theorem State.buf_putBuf (s : State) (d : Fab) (p i : Nat) (r : BufRec) : (s.putBuf d p i r).buf d p i = r := by
  unfold State.buf State.putBuf
  rw [State.pool_modPool, PoolSt.msg_setMsg, Tbl.get_put_self BufRec.dflt]

@[simp] theorem State.buf_useDown (s : State) (d : Fab) (p n q i : Nat) : (s.useDown d p n).buf d q i = s.buf d q i := by
  unfold State.buf State.useDown State.modCtr
  rw [State.pool_modPool]
  rfl

@[simp] theorem State.buf_emit (s : State) (o : Output) (d : Fab) (q i : Nat) : (s.emit o).buf d q i = s.buf d q i := by
  cases d <;> rfl

theorem State.getLast?_emit (s : State) (o : Output) : (s.emit o).out.getLast? = some o := by
  rw [State.emit_out, List.getLast?_concat]

theorem State.contend_false (s : State) (d : Fab) (p : Nat) : s.contend d p false = s := rfl

/-! ### What each operation on a message buffer answers -/

section Operations

variable {d : Fab} {x p i : Nat} {s : State}

theorem State.freeMsg_of_owner (hu : (s.buf d p i).inUse = true) (hs : (s.buf d p i).share ≤ 1) (ho : (s.buf d p i).owner = x) :
    s.freeMsg d p i x = ((s.putBuf d p i { s.buf d p i with inUse := false, share := 0 }).useDown d p 1, .done) := by
  unfold State.freeMsg
  dsimp only
  rw [if_neg (by simp [hu]), if_neg (Nat.not_lt.2 hs), if_neg (by simp [ho])]

theorem State.shareMsg_of_owner {k : Nat} (hu : (s.buf d p i).inUse = true) (ho : (s.buf d p i).owner = x)
    (hk : (s.buf d p i).share + k ≤ 31) :
    s.shareMsg d p i x k = (s.putBuf d p i { s.buf d p i with share := (s.buf d p i).share + k }, .done) := by
  unfold State.shareMsg
  dsimp only
  rw [if_neg (by simp [hu, ho]), if_neg (by omega)]

theorem State.releaseMsg_notLast (hu : (s.buf d p i).inUse = true) (hs : 2 < (s.buf d p i).share) :
    s.releaseMsg d p i x = (s.putBuf d p i { s.buf d p i with share := (s.buf d p i).share - 1 }, .notLast) := by
  unfold State.releaseMsg
  dsimp only
  rw [if_neg (by simp [hu]; omega), if_neg (by omega)]

theorem State.releaseMsg_last (hu : (s.buf d p i).inUse = true) (hs : (s.buf d p i).share = 2) :
    s.releaseMsg d p i x = (s.putBuf d p i { s.buf d p i with share := 1, owner := x }, .last) := by
  unfold State.releaseMsg
  dsimp only
  rw [if_neg (by simp [hu, hs]), if_pos hs]

end Operations

/-! ### The free list stays built while spares are granted -/

@[simp] theorem State.modCtr_built (s : State) (d e : Fab) (p : Nat) (f : PoolCtr → PoolCtr) :
    ((s.modCtr d p f).pool e).built = (s.pool e).built := by
  cases d <;> cases e <;> rfl

@[simp] theorem State.useUp_built (s : State) (d e : Fab) (p n : Nat) : ((s.useUp d p n).pool e).built = (s.pool e).built := by
  unfold State.useUp
  dsimp only
  split
  · rw [State.raiseDie_pool, State.modCtr_built]
  · rw [State.modCtr_built]

@[simp] theorem State.emptyFail_built (s : State) (d e : Fab) (p : Nat) : ((s.emptyFail d p).pool e).built = (s.pool e).built := by
  unfold State.emptyFail State.poolTick State.satRaise
  dsimp only
  split
  · rw [State.raiseDie_pool, State.modCtr_built]
  · rw [State.modCtr_built]

theorem PoolSt.takeCell_built (q : PoolSt) (x : Nat) : (q.takeCell x).1.built = q.built := by
  unfold PoolSt.takeCell
  split <;> rfl

@[simp] theorem State.grantCell_built (s : State) (d : Fab) (x : Nat) : ((s.grantCell d x).1.pool d).built = (s.pool d).built := by
  unfold State.grantCell
  have h := PoolSt.takeCell_built (s.pool d) x
  cases hc : (s.pool d).takeCell x with
  | mk q o =>
    rw [hc] at h
    cases o with
    | none => exact State.emptyFail_built s d d 0
    | some c =>
      dsimp only
      rw [State.useUp_built, State.pool_modPool]
      exact h

@[simp] theorem State.addSpare_built (s : State) (d : Fab) (x c : Nat) : ((s.addSpare d x c).pool d).built = (s.pool d).built := by
  unfold State.addSpare
  split
  · rw [State.pool_modPool]
  · rfl

theorem State.grantSpares_built (d : Fab) (i n : Nat) (s : State) : ((s.grantSpares d i n).pool d).built = (s.pool d).built := by
  induction n generalizing s with
  | zero => rfl
  | succ n ih =>
    unfold State.grantSpares
    have h := s.grantCell_built d (0x20 + i)
    cases hg : s.grantCell d (0x20 + i) with
    | mk t o =>
      rw [hg] at h
      cases o with
      | none => exact h
      | some c =>
        dsimp only
        rw [ih, State.addSpare_built]
        exact h

theorem State.foldl_grantSpares_built (d : Fab) (n : Nat → Nat) (l : List Nat) (s : State) :
    ((l.foldl (fun s i => s.grantSpares d i (n i)) s).pool d).built = (s.pool d).built := by
  induction l generalizing s with
  | nil => rfl
  | cons i l ih => rw [List.foldl_cons, ih, State.grantSpares_built]

/-! ### O29 -/

/-- Settles O29: each operation ends by emitting its answer, and an operation on a message buffer meets the case of its record. -/
theorem poolOperationsAnswerTheirRequester : Obligations.PoolOperationsAnswerTheirRequester := by
  refine ⟨?alloc, ?cell, ?free, ?share, ?notLast, ?last, ?built⟩
  case alloc =>
    intro d x n fall c s
    cases hp : poolFor n with
    | none => exact ⟨_, by dsimp only [exec, execPoolAlloc]; rw [hp], State.getLast?_emit _ _⟩
    | some p =>
      cases ha : (s.contend d p c).allocMsg d x n fall with
      | mk t o =>
        cases o with
        | none => exact ⟨_, by dsimp only [exec, execPoolAlloc]; rw [hp]; dsimp only; rw [ha], by dsimp only; rw [State.getLast?_emit, ha]⟩
        | some h => exact ⟨_, by dsimp only [exec, execPoolAlloc]; rw [hp]; dsimp only; rw [ha], by dsimp only; rw [State.getLast?_emit, ha]⟩
  case cell =>
    intro d x c s
    cases ha : (s.contend d 0 c).grantCell d x with
    | mk t o =>
      cases o with
      | none => exact ⟨_, by dsimp only [exec, execPoolAlloc]; rw [ha], State.getLast?_emit _ _⟩
      | some k => exact ⟨_, by dsimp only [exec, execPoolAlloc]; rw [ha], State.getLast?_emit _ _⟩
  case free =>
    intro d x p i s h1 h3 hu hs ho
    refine ⟨_, rfl, ?_⟩
    dsimp only
    rw [State.contend_false, if_neg (by omega), if_pos h3, State.freeMsg_of_owner hu hs ho]
    dsimp only
    rw [State.buf_emit, State.buf_useDown, State.buf_putBuf, State.getLast?_emit]
    exact ⟨rfl, rfl, rfl⟩
  case share =>
    intro d x p i k s h1 h3 hu ho hk
    refine ⟨_, rfl, ?_⟩
    dsimp only
    rw [State.contend_false, if_neg (by omega), State.shareMsg_of_owner hu ho hk]
    dsimp only
    rw [State.buf_emit, State.buf_putBuf, State.getLast?_emit]
    exact ⟨rfl, rfl⟩
  case notLast =>
    intro d x p i s h1 h3 hu hs
    refine ⟨_, rfl, ?_⟩
    dsimp only
    rw [State.contend_false, if_neg (by omega), State.releaseMsg_notLast hu hs]
    dsimp only
    rw [State.buf_emit, State.buf_putBuf, State.getLast?_emit]
    exact ⟨rfl, rfl⟩
  case last =>
    intro d x p i s h1 h3 hu hs
    refine ⟨_, rfl, ?_⟩
    dsimp only
    rw [State.contend_false, if_neg (by omega), State.releaseMsg_last hu hs]
    dsimp only
    rw [State.buf_emit, State.buf_putBuf, State.getLast?_emit]
    exact ⟨rfl, rfl⟩
  case built =>
    intro d s
    refine ⟨_, rfl, ?_⟩
    dsimp only
    rw [State.foldl_grantSpares_built, State.pool_modPool]

end Sys2Proof.Machine
end

section
/-! PROOFS. Gate lists, the verification of MAC merge and samplers. -/

namespace Sys2Proof.Machine

/-- Settles O30: each event meets the case of its gate, its MAC merge or its sampler, and changes that one alone. -/
theorem gateVerificationAndSamplerEvents : Obligations.GateVerificationAndSamplerEvents := by
  refine ⟨fun port s => ⟨_, rfl, rfl⟩, ?change, ?copy, ?timer, ?rx, ?sample⟩
  case change =>
    intro port s hp hm
    exact ⟨_, congrArg Host.Outcome.next (if_pos ⟨hp, hm⟩), rfl⟩
  case copy =>
    intro port s hp hm
    refine ⟨_, congrArg Host.Outcome.next (if_pos ⟨hp, hm⟩), ?_⟩
    dsimp only
    rw [State.gate_modGate, if_pos rfl]
    exact ⟨GateSt.modAdmin_oper _ _, GateSt.modAdmin_admin _ _, rfl⟩
  case timer =>
    intro port s hp he hv hup hst
    refine ⟨_, congrArg Host.Outcome.next (if_pos ⟨hp, he, hv, hup, hst⟩), fun ha => ?_, fun ha => ?_⟩
    · rw [if_pos ha]
      refine ⟨?_, State.getLast?_emit _ _⟩
      rw [State.mm_of_egr (State.emit_egr _ _), State.mm_modMm, if_pos rfl]
    · rw [if_neg (Nat.not_lt.2 ha), State.mm_of_wide (State.raiseDie_wide _ _ _), State.mm_modMm, if_pos rfl]
  case rx =>
    intro port s hp he
    refine ⟨fun hv => ⟨_, congrArg Host.Outcome.next (if_pos ⟨hp, he⟩), ?_⟩, ⟨_, congrArg Host.Outcome.next (if_pos ⟨hp, he⟩), ?_⟩⟩
    · rw [if_pos rfl, if_pos hv]
      dsimp only
      rw [State.mm_modMm, if_pos rfl]
    · rw [if_neg Bool.false_ne_true]
      exact State.emit_out _ _
  case sample =>
    intro d i s hi he
    refine ⟨_, congrArg Host.Outcome.next (if_pos ⟨hi, he⟩), ?_⟩
    dsimp only
    generalize hs1 : s.advTick _ = s1
    have hs : s1.sampler d i = s.sampler d i := by
      rw [← hs1]
      cases d <;> rfl
    have hf : s1.fab d = s.fab d := by
      rw [← hs1]
      cases d <;> rfl
    rw [State.sampler_modSampler, if_pos rfl]
    refine ⟨by cases d <;> rfl, ?_⟩
    dsimp only
    rw [List.getLast?_drop, if_neg (by rw [List.length_append, List.length_singleton]; omega), List.getLast?_concat, hs, hf]

end Sys2Proof.Machine
end

section
/-! PROOFS. The registers of a path: what a read and a write of each does, and the posted writes of the lock registers. -/

namespace Sys2Proof.Machine

/-! ### The host interface without its event registers, which alone a notice changes -/

def PathSt.quiet (q : PathSt) : PathSt := { q with evHost := {}, evWest := {}, evEast := {}, evDev := {} }

def State.calm (s : State) : HostSt :=
  { s.host with w0 := s.host.w0.quiet, w1 := s.host.w1.quiet, e0 := s.host.e0.quiet, e1 := s.host.e1.quiet, spi := s.host.spi.quiet,
                svc := s.host.svc.quiet, inner := s.host.inner.quiet, bridged := s.host.bridged.quiet }

@[simp] theorem PathSt.quiet_setEv (q : PathSt) (n : Nat) (r : EvReg) : (q.setEv n r).quiet = q.quiet := by
  match n with
  | 0 => rfl
  | 1 => rfl
  | 2 => rfl
  | _ + 3 => rfl

theorem State.path_quiet (s : State) (p : Path) : (s.path p).quiet = s.calm.path p := by cases p <;> rfl

theorem State.quiet_of_calm {s t : State} (h : t.calm = s.calm) (p : Path) : (t.path p).quiet = (s.path p).quiet := by
  rw [State.path_quiet, State.path_quiet, h]

theorem State.modPath_calm (s : State) (p : Path) (f : PathSt → PathSt) (h : ∀ q, (f q).quiet = q.quiet) : (s.modPath p f).calm = s.calm := by
  cases p
  all_goals
    unfold State.calm
    dsimp only [State.modPath, State.modHost, HostSt.modPath]
    rw [h]

@[simp] theorem State.emit_calm (s : State) (o : Output) : (s.emit o).calm = s.calm := rfl

@[simp] theorem State.raiseAt_calm (s : State) (p : Path) (n f : Nat) : (s.raiseAt p n f).calm = s.calm := by
  have hemit (u : State) (b : Prop) [Decidable b] (o : Output) (h : u.calm = s.calm) : (if b then u.emit o else u).calm = s.calm := by
    split
    · exact h
    · exact h
  have hnote (u : State) (b : Prop) [Decidable b] (o : Output) (h : u.calm = s.calm) :
      (if b then (u.emit o).modPath p PathSt.noticed else u).calm = s.calm := by
    split
    · exact .trans (State.modPath_calm _ _ _ fun _ => rfl) h
    · exact h
  unfold State.raiseAt
  dsimp only
  generalize hs1 : s.modPath p _ = s1
  have h1 : s1.calm = s.calm := by
    rw [← hs1]
    exact State.modPath_calm _ _ _ fun _ => PathSt.quiet_setEv _ _ _
  split
  · cases p
    case service => exact hnote s1 _ _ h1
    case spi => exact h1
    case image => rfl
    case relay => rfl
    all_goals exact hemit s1 _ _ h1
  · exact h1

@[simp] theorem State.raiseHost_calm (s : State) (p : Path) (f : HostFlag) : (s.raiseHost p f).calm = s.calm := State.raiseAt_calm _ _ _ _

theorem State.foldl_calm {α : Type} (n : State → α → State) (h : ∀ s a, (n s a).calm = s.calm) (l : List α) (s : State) :
    (l.foldl n s).calm = s.calm := by
  induction l generalizing s with
  | nil => rfl
  | cons a l ih => rw [List.foldl_cons, ih, h]

@[simp] theorem State.raiseDie_calm (s : State) (d : Fab) (f : DieFlag) : (s.raiseDie d f).calm = s.calm :=
  State.foldl_calm _ (fun s p => s.raiseAt_calm p d.num f.bit) _ _

@[simp] theorem State.raiseDev_calm (s : State) (f : DevFlag) : (s.raiseDev f).calm = s.calm :=
  State.foldl_calm _ (fun s p => s.raiseAt_calm p 3 f.bit) _ _

@[simp] theorem State.logFault_calm (s : State) (code die x : Nat) : (s.logFault code die x).calm = s.calm :=
  .trans (State.raiseDev_calm _ _) rfl

@[simp] theorem State.modPool_calm (s : State) (d : Fab) (f : PoolSt → PoolSt) : (s.modPool d f).calm = s.calm := by cases d <;> rfl

@[simp] theorem State.modFab_calm (s : State) (d : Fab) (f : FabSt → FabSt) : (s.modFab d f).calm = s.calm := by cases d <;> rfl

theorem State.satRaise_calm (s : State) (old k : Nat) (ev : State → State) (h : (ev s).calm = s.calm) : (s.satRaise old k ev).calm = s.calm := by
  unfold State.satRaise
  split
  · exact h
  · rfl

@[simp] theorem State.poolTick_calm (s : State) (d : Fab) (p : Nat) (get : PoolCtr → Nat) (set : PoolCtr → Nat → PoolCtr) :
    (s.poolTick d p get set).calm = s.calm :=
  (State.satRaise_calm _ _ _ _ (State.raiseDie_calm _ _ _)).trans (State.modPool_calm _ _ _)

@[simp] theorem State.errTick_calm (s : State) (d : Fab) (p kind : Nat) : (s.errTick d p kind).calm = s.calm := by
  unfold State.errTick
  repeat' split
  all_goals exact State.poolTick_calm _ _ _ _ _

@[simp] theorem State.poolError_calm (s : State) (d : Fab) (kind pool i x o n : Nat) : (s.poolError d kind pool i x o n).calm = s.calm := by
  unfold State.poolError
  dsimp only
  split
  · rw [State.logFault_calm, State.raiseDie_calm, State.modPool_calm, State.errTick_calm]
  · rw [State.raiseDie_calm, State.modPool_calm, State.errTick_calm]

@[simp] theorem State.putBuf_calm (s : State) (d : Fab) (p i : Nat) (r : BufRec) : (s.putBuf d p i r).calm = s.calm := State.modPool_calm _ _ _

@[simp] theorem State.useDown_calm (s : State) (d : Fab) (p n : Nat) : (s.useDown d p n).calm = s.calm := State.modPool_calm _ _ _

@[simp] theorem State.freeMsg_calm (s : State) (d : Fab) (p i x : Nat) : (s.freeMsg d p i x).1.calm = s.calm := by
  unfold State.freeMsg
  dsimp only
  repeat' split
  · exact State.poolError_calm _ _ _ _ _ _ _ _
  · exact State.poolError_calm _ _ _ _ _ _ _ _
  · exact State.poolError_calm _ _ _ _ _ _ _ _
  · rw [State.useDown_calm, State.putBuf_calm]

@[simp] theorem State.shareMsg_calm (s : State) (d : Fab) (p i x k : Nat) : (s.shareMsg d p i x k).1.calm = s.calm := by
  unfold State.shareMsg
  dsimp only
  repeat' split
  · exact State.poolError_calm _ _ _ _ _ _ _ _
  · exact State.poolError_calm _ _ _ _ _ _ _ _
  · exact State.putBuf_calm _ _ _ _ _

@[simp] theorem State.releaseMsg_calm (s : State) (d : Fab) (p i x : Nat) : (s.releaseMsg d p i x).1.calm = s.calm := by
  unfold State.releaseMsg
  dsimp only
  repeat' split
  · exact State.poolError_calm _ _ _ _ _ _ _ _
  · exact State.putBuf_calm _ _ _ _ _
  · exact State.putBuf_calm _ _ _ _ _

@[simp] theorem State.freeBufs_calm (s : State) (bufs : List (Fab × Nat × Nat)) : (s.freeBufs bufs).calm = s.calm := by
  refine State.foldl_calm _ (fun s b => ?_) _ _
  unfold State.handOver
  dsimp only
  rw [State.freeMsg_calm, State.releaseMsg_calm, State.shareMsg_calm]

theorem State.fifoPut_held (s : State) (p : Path) (ws : List Word) : ((s.fifoPut p ws).path p).held = (s.path p).held := by
  have h (u : State) (f : HostFlag) : ((u.raiseHost p f).path p).held = (u.path p).held :=
    (congrArg PathSt.held (State.quiet_of_calm (State.raiseHost_calm u p f) p) :)
  unfold State.fifoPut
  dsimp only
  split
  · rw [h, h, State.path_modPath]
  · rw [h, State.path_modPath]

/-! ### A write to a register of a path -/

/-- Every write counts in the bridge write tag. -/
def PathSt.tagged (q : PathSt) : PathSt := { q with writeTag := (q.writeTag + 1) % 65536 }

section Writes

variable {p : Path} {s : State}

theorem State.hostWrite_of_up (hr : hasRegs p = true) (hu : s.pathUp p = true) (i : Nat) (w : Word) :
    s.hostWrite p i w false = s.writeWord p i w := by
  unfold State.hostWrite
  rw [hr, hu]
  rfl

theorem State.hostWrite_half (hp : p.isPcie = true) (hu : s.pathUp p = true) (i : Nat) (w : Word) :
    s.hostWrite p i w true =
      (s.modPath p fun q => { q with upper := 0 }).writeWord p i (pack [(0, 32, w.toNat), (32, 4, (s.path p).upper)]) := by
  unfold State.hostWrite hasRegs
  rw [hp, hu]
  rfl

end Writes

variable (s : State) (p : Path)

theorem State.writeWord_window {i : Nat} (hi : i < 256) (w : Word) :
    s.writeWord p (0x100 + i) w =
      (s.modPath p PathSt.tagged).modPath p fun q => { q with window := Tbl.put (fun _ => (0 : Word)) q.window i w } := by
  unfold State.writeWord
  dsimp only
  rw [if_neg (by omega), if_neg (by omega), if_pos (by omega), Nat.add_sub_cancel_left]
  rfl

theorem State.writeWord_event {n : Nat} (hn : n ≤ 3) (w : Word) :
    s.writeWord p (0x20 + n) w = (s.modPath p PathSt.tagged).modPath p fun q => q.setEv n ((q.ev n).write (fld w 35 28)) := by
  unfold State.writeWord
  dsimp only
  rw [if_neg (by omega), if_neg (by omega), if_neg (by omega), if_neg (by omega), if_pos (by omega), Nat.add_sub_cancel_left]
  rfl

theorem State.writeWord_doorbell (w : Word) : s.writeWord p 0x010 w = (s.modPath p PathSt.tagged).doorbell p := by
  unfold State.writeWord
  dsimp only
  rw [if_neg (by omega), if_neg (by omega), if_neg (by omega), if_neg (by omega), if_neg (by omega), if_neg (by omega), if_pos rfl]
  rfl

theorem State.writeWord_drop (w : Word) : s.writeWord p 0x014 w = (s.modPath p PathSt.tagged).modPath p PathSt.dropRest := rfl

theorem State.writeWord_level (w : Word) :
    s.writeWord p 0x015 w = (s.modPath p PathSt.tagged).modPath p fun q => { q with level := fld w 35 25 } := rfl

theorem State.writeWord_post {k : Nat} (hk : k ≤ 5) (w : Word) (hn : (s.path p).posted = none) :
    s.writeWord p (0x800 + k) w = (s.modPath p PathSt.tagged).modPath p fun q => { q with posted := some (k, w) } := by
  have hs : ((s.modPath p PathSt.tagged).path p).posted.isSome = false := by
    rw [State.path_modPath]
    exact congrArg Option.isSome hn
  unfold State.writeWord State.post
  dsimp only
  rw [if_neg (by omega), if_pos (by omega), Nat.add_sub_cancel_left, if_neg (by omega)]
  exact if_neg (Bool.eq_false_iff.1 hs)

/-! ### A doorbell -/

/-- An accepted request of a PCIe function waits with its message buffers (13 R368). -/
theorem State.submit_accepted {p : Path} {s s2 : State} {op : Nat} {r : Req} {bs : List (Fab × Nat × Nat)} (hp : r.path = p)
    (hpc : p.isPcie = true) (hup : s.pathUp p = true) (hacc : s.accepting = true) (hfree : (s.path p).reqFree = true)
    (hout : (s.path p).outstanding < 16) (hloc : r.isLocal = false) (hb : (s.raiseHost p .reqFree).requestBufs r = (s2, some bs)) :
    s.submit op r = s2.modPath p fun q =>
      { q with waiting := q.waiting ++ [{ opcode := op, req := r, seq := s.host.svcT.lastSeq.getD 0, bufs := bs }] } := by
  subst hp
  have hserv : r.path ≠ .service := by
    intro h
    rw [h] at hpc
    exact Bool.false_ne_true hpc
  have hhost : r.path.isHost = true := by
    revert hpc
    cases r.path <;> decide
  unfold State.submit
  dsimp only
  rw [if_neg (by simp [hhost]), if_neg (by simp [hup]), if_neg (by simp [hacc, hfree]), if_neg (by simp [hserv]), if_neg hserv,
    if_neg (by omega), if_neg (by simp [hloc]), hb]

theorem State.requestBufs_lines (s : State) (r : Req) : (s.requestBufs r).1.lines = s.lines := by
  unfold State.requestBufs
  dsimp only
  cases h1 : s.allocMsg (r.path.die s.pair.active) r.path.owner (r.words.length + 1) true with
  | mk s1 o =>
    have hs1 : s1.lines = s.lines := by
      have h := State.allocMsg_lines s (r.path.die s.pair.active) r.path.owner (r.words.length + 1) true
      rwa [h1] at h
    cases o with
    | none => exact hs1
    | some h =>
      dsimp only
      split
      · exact hs1
      · generalize h2 : s1.allocMsg _ _ _ _ = a
        have hs2 : a.1.lines = s1.lines := by
          rw [← h2]
          exact State.allocMsg_lines _ _ _ _ _
        cases a with
        | mk u o =>
          cases o with
          | none => exact (State.freeBufs_lines _ _).trans (hs2.trans hs1)
          | some g => exact hs2.trans hs1

theorem State.answerBad_known (s : State) (p : Path) (n : Nat) {pd : Pend} (h : (s.path p).waiting = [pd]) (hk : knownOp pd.opcode = true) :
    s.answerBad p n = s := by
  cases n with
  | zero => rfl
  | succ n =>
    unfold State.answerBad
    rw [h]
    exact if_neg (by simp [hk])

end Sys2Proof.Machine
end

section
/-! PROOFS. The accesses to the registers of a path, and the lock registers' posted writes. -/

namespace Sys2Proof.Machine

/-! ### The doorbell of a PCIe function -/

theorem State.tagged_up (s : State) (p q : Path) : (s.modPath p PathSt.tagged).pathUp q = s.pathUp q := by cases p <;> cases q <;> rfl

theorem State.tagged_svcT (s : State) (p : Path) : (s.modPath p PathSt.tagged).host.svcT = s.host.svcT := by cases p <;> rfl

theorem State.path_doorbell {p : Path} {bs : List (Fab × Nat × Nat)} {s s2 : State} (hpc : p.isPcie = true) (hup : s.pathUp p = true)
    (hacc : s.accepting = true) (hfree : (s.path p).reqFree = true) (hw : (s.path p).waiting = []) (hout : (s.path p).outstanding < 16)
    (hloc : ((s.path p).windowReq p).2.isLocal = false) (hk : knownOp ((s.path p).windowReq p).1 = true)
    (hb : ((s.modPath p PathSt.tagged).raiseHost p .reqFree).requestBufs ((s.path p).windowReq p).2 = (s2, some bs)) :
    (((s.modPath p PathSt.tagged).doorbell p).path p).waiting =
      [{ opcode := ((s.path p).windowReq p).1, req := ((s.path p).windowReq p).2, seq := s.host.svcT.lastSeq.getD 0, bufs := bs }] := by
  have hspi : p ≠ .spi := by
    rintro rfl
    exact Bool.false_ne_true hpc
  have hpath : (s.modPath p PathSt.tagged).path p = (s.path p).tagged := State.path_modPath _ _ _
  have hs2 : (s2.path p).waiting = [] := by
    have h := State.requestBufs_lines ((s.modPath p PathSt.tagged).raiseHost p .reqFree) ((s.path p).windowReq p).2
    rw [hb] at h
    rw [(State.path_of_lines h p).1, (State.path_of_lines (State.raiseHost_lines _ _ _) p).1, hpath]
    exact hw
  have hsub := State.submit_accepted (p := p) (op := ((s.path p).windowReq p).1) (r := ((s.path p).windowReq p).2) rfl hpc
    ((State.tagged_up s p p).trans hup) hacc ((congrArg PathSt.reqFree hpath).trans hfree)
    (by rw [hpath]; exact hout) hloc hb
  unfold State.doorbell
  dsimp only
  rw [if_neg (fun h => hspi h.1), hpath]
  generalize ht : State.submit _ _ _ = t
  have ht' := ht.symm.trans hsub
  have hwait : (t.path p).waiting =
      [{ opcode := ((s.path p).windowReq p).1, req := ((s.path p).windowReq p).2, seq := s.host.svcT.lastSeq.getD 0, bufs := bs }] := by
    rw [ht', State.path_modPath, State.tagged_svcT]
    dsimp only
    rw [hs2]
    rfl
  rw [State.answerBad_known t p 16 hwait hk]
  exact hwait

/-! ### O31 -/

/-- Settles O31: every access is one read or one write of the register file, which the equation of that register describes. -/
theorem pathRegisterAccesses : Obligations.PathRegisterAccesses := by
  have hand {a b : Bool} (ha : a = true) (hb : b = true) : (a && b) = true := by rw [ha, hb]; rfl
  have hand3 {a b : Bool} {n : Nat} (ha : a = true) (hb : b = true) (hn : n ≤ 3) : (a && b && decide (n ≤ 3)) = true := by simp [ha, hb, hn]
  refine ⟨?pop, ?popEmpty, ?drop, ?read, ?write, ?upper, ?register, ?doorbell, ?place⟩
  case pop =>
    intro p w ws s hr hu hf
    refine ⟨_, congrArg Host.Outcome.next (if_pos (hand hr hu)), ?_⟩
    have hpop : (s.path p).pop = ({ s.path p with
        fifo := ws, rspLast := w, popcnt := ((s.path p).popcnt + 1) % 4096,
        left := if (s.path p).left = 0 then fld w 23 16 else (s.path p).left - 1 }, w) := by
      unfold PathSt.pop
      rw [hf]
    have hread : s.readWord p 0x012 = (s.modPath p fun q => q.pop.1, (s.path p).pop.2) := rfl
    rw [hread]
    dsimp only
    rw [State.emit_path, State.path_modPath, State.emit_out, hpop]
    exact ⟨rfl, rfl, rfl, congrArg (· ++ _) (by cases p <;> rfl)⟩
  case popEmpty =>
    intro p s hr hu hf
    refine ⟨_, congrArg Host.Outcome.next (if_pos (hand hr hu)), ?_⟩
    have hpop : (s.path p).pop = (s.path p, 0) := by
      unfold PathSt.pop
      rw [hf]
    have hread : s.readWord p 0x012 = (s.modPath p fun q => q.pop.1, (s.path p).pop.2) := rfl
    rw [hread]
    dsimp only
    rw [State.emit_path, State.path_modPath, State.emit_out, hpop]
    exact ⟨rfl, congrArg (· ++ _) (by cases p <;> rfl)⟩
  case drop =>
    intro p s hr hu
    refine ⟨_, rfl, ?_⟩
    dsimp only
    rw [State.hostWrite_of_up hr hu, State.writeWord_drop, State.path_modPath, State.path_modPath]
    exact ⟨rfl, rfl⟩
  case read =>
    intro p n s hr hu hn
    have hread : s.readWord p (0x20 + n) = (s.modPath p fun q => q.setEv n (q.ev n).read, ((s.path p).ev n).word) := by
      unfold State.readWord
      rw [if_neg (by omega), if_pos (by omega), Nat.add_sub_cancel_left]
    refine ⟨⟨_, congrArg Host.Outcome.next (if_pos (hand3 hr hu hn)), ?_⟩, fun hspi => ?_⟩
    · rw [ite_self, hread]
      dsimp only
      rw [State.emit_path, State.path_modPath, PathSt.ev_setEv, State.emit_out]
      exact ⟨rfl, congrArg (· ++ _) (by cases p <;> rfl)⟩
    · refine ⟨_, congrArg Host.Outcome.next (if_pos (hand3 hr hu hn)), ?_⟩
      rw [if_neg hspi]
      exact ⟨rfl, rfl⟩
  case write =>
    intro p n w s hr hu hn
    refine ⟨_, congrArg Host.Outcome.next (if_pos hn), ?_⟩
    dsimp only
    rw [State.hostWrite_of_up hr hu, State.writeWord_event s p hn, State.path_modPath, State.path_modPath, PathSt.ev_setEv]
    match n with
    | 0 => rfl
    | 1 => rfl
    | 2 => rfl
    | _ + 3 => rfl
  case upper =>
    intro p v s hp hu
    refine ⟨_, congrArg Host.Outcome.next (if_pos (hand hp hu)), ?_⟩
    dsimp only
    rw [State.path_modPath]
  case register =>
    intro p i w s hr hu hi
    refine ⟨⟨_, rfl, ?_⟩, fun hp => ⟨_, rfl, ?_⟩, ⟨_, rfl, ?_⟩⟩
    · dsimp only
      rw [State.hostWrite_of_up hr hu, State.writeWord_window s p hi, State.path_modPath, State.path_modPath]
      exact ⟨rfl, rfl⟩
    · dsimp only
      rw [State.hostWrite_half hp hu, State.writeWord_window _ p hi, State.path_modPath, State.path_modPath, State.path_modPath]
      exact ⟨rfl, rfl⟩
    · dsimp only
      rw [State.hostWrite_of_up hr hu, State.writeWord_level, State.path_modPath]
  case doorbell =>
    intro p bs s s2 hp hu hacc hfree hw hout hloc hk hb
    refine ⟨_, rfl, ?_⟩
    dsimp only
    rw [State.hostWrite_of_up (by unfold hasRegs; rw [hp]; rfl) hu, State.writeWord_doorbell]
    exact State.path_doorbell hp hu hacc hfree hw hout hloc hk hb
  case place =>
    intro p h rest s hh hl
    refine ⟨_, rfl, ?_⟩
    dsimp only
    rw [hh]
    dsimp only
    rw [if_pos hl, State.fifoPut_held, (State.fifoPut_path _ _ _).1, (State.freeBufs_path _ _ _).2.1, (State.freeBufs_path _ _ _).2.2,
      State.path_modPath]
    exact ⟨rfl, rfl⟩

end Sys2Proof.Machine
end

section
/-! PROOFS. The posted writes of the lock registers and their application by D0. -/

namespace Sys2Proof.Machine

/-! ### The posted write of a path, and its application -/

/-- What the lock registers hold after word `w` at index `k` of the D0 window; a locked register takes nothing (13 R365, R366). -/
def LockSt.written (l : LockSt) (k : Nat) (w : Word) : LockSt :=
  match k with
  | 1 => if l.policy then l else { l with policy := bit1 w 35 }
  | 2 => if l.sealLock then l else { l with sealLock := bit1 w 35, reaction := fld w 1 0 }
  | 3 => if l.key then l else { l with key := bit1 w 35 }
  | 4 => if l.power then l else { l with power := bit1 w 35, limit := fld w 15 0 }
  | _ => l

/-- The effect of a full write of a lock register: late-logged where the register is locked. -/
def State.lockWrite (s : State) (p : Path) (a : Nat) (locked : Bool) (f : LockSt → LockSt) : State :=
  if locked then s.logLate p 4 a else s.modLocks f

theorem State.lockWrite_locks (s : State) (p : Path) (a : Nat) (locked : Bool) (f : LockSt → LockSt) :
    (s.lockWrite p a locked f).locks = if locked then s.locks else f s.locks := by
  unfold State.lockWrite
  split
  · exact State.locks_of_fixed (State.logLate_fixed _ _ _ _)
  · rfl

theorem State.path_modHost (s : State) (q : Path) (f : HostSt → HostSt) (h : ∀ u, (f u).path q = u.path q) :
    (s.modHost f).path q = s.path q := h _

theorem State.logLate_path_other (s : State) {p q : Path} (h : q ≠ p) (reason a : Nat) : (s.logLate p reason a).path q = s.path q := by
  unfold State.logLate
  dsimp only
  generalize hs1 : s.modPath p _ = s1
  have h1 : s1.path q = s.path q := by rw [← hs1, State.path_modPath_other _ _ _ _ h]
  repeat' split
  · rw [State.emit_path, State.emit_path, State.raiseHost, State.raiseAt_other _ _ _ _ _ h, h1]
  · rw [State.path_modHost _ _ _ (by intro u; cases q <;> rfl), h1]
  · exact h1

/-- The log of late writes takes an entry and drops its oldest beyond 16 (13 R384). -/
def PathSt.late (q : PathSt) (e : LateEntry) : PathSt :=
  { q with lateLog := (q.lateLog ++ [e]).drop (q.lateLog.length + 1 - 16), lateTotal := sat36 q.lateTotal 1 }

theorem State.logLate_quiet (s : State) (p : Path) (reason a : Nat) :
    ((s.logLate p reason a).path p).quiet =
      ((s.path p).late { reason := reason, address := a, tag := (s.path p).writeTag, time := s.now72 % 2 ^ 36 }).quiet := by
  unfold State.logLate
  dsimp only
  generalize hs1 : s.modPath p _ = s1
  have h1 : s1.path p = (s.path p).late { reason := reason, address := a, tag := (s.path p).writeTag, time := s.now72 % 2 ^ 36 } := by
    rw [← hs1, State.path_modPath]
    rfl
  repeat' split
  · rw [State.emit_path, State.emit_path, State.quiet_of_calm (State.raiseHost_calm _ _ _), h1]
  · rw [State.path_modHost _ _ _ (by intro u; cases p <;> rfl), h1]
  · rw [h1]

theorem State.logLate_posted (s : State) (p : Path) (reason a : Nat) : ((s.logLate p reason a).path p).posted = (s.path p).posted :=
  (congrArg PathSt.posted (s.logLate_quiet p reason a) :)

theorem State.lockWrite_posted (s : State) (p : Path) (a : Nat) (locked : Bool) (f : LockSt → LockSt) :
    ((s.lockWrite p a locked f).path p).posted = (s.path p).posted := by
  unfold State.lockWrite
  split
  · exact State.logLate_posted _ _ _ _
  · rfl

theorem State.lockWrite_path_other (s : State) {p q : Path} (h : q ≠ p) (a : Nat) (locked : Bool) (f : LockSt → LockSt) :
    (s.lockWrite p a locked f).path q = s.path q := by
  unfold State.lockWrite
  split
  · exact State.logLate_path_other _ h _ _
  · rfl

/-- Each lock register of the D0 window is written whole; the other words of the window hold nothing. -/
theorem State.applyD0_eq (s : State) (p : Path) (k : Nat) (w : Word) :
    s.applyD0 p k w = s ∧ (∀ l : LockSt, l.written k w = l) ∨
      ∃ locked f, s.applyD0 p k w = s.lockWrite p (s.regAddr p (0x800 + k)) locked f ∧
        s.locks.written k w = if locked then s.locks else f s.locks := by
  match k with
  | 0 => exact .inl ⟨rfl, fun _ => rfl⟩
  | 1 => exact .inr ⟨s.locks.policy, _, rfl, rfl⟩
  | 2 => exact .inr ⟨s.locks.sealLock, _, rfl, rfl⟩
  | 3 => exact .inr ⟨s.locks.key, _, rfl, rfl⟩
  | 4 => exact .inr ⟨s.locks.power, _, rfl, rfl⟩
  | _ + 5 => exact .inl ⟨rfl, fun _ => rfl⟩

theorem State.applyD0_locks (s : State) (p : Path) (k : Nat) (w : Word) : (s.applyD0 p k w).locks = s.locks.written k w := by
  obtain ⟨he, hl⟩ | ⟨locked, f, he, hl⟩ := s.applyD0_eq p k w
  · rw [he, hl]
  · rw [he, hl, State.lockWrite_locks]

theorem State.applyD0_posted (s : State) (p : Path) (k : Nat) (w : Word) : ((s.applyD0 p k w).path p).posted = (s.path p).posted := by
  obtain ⟨he, -⟩ | ⟨locked, f, he, -⟩ := s.applyD0_eq p k w
  · rw [he]
  · rw [he, State.lockWrite_posted]

theorem State.applyD0_path_other (s : State) {p q : Path} (h : q ≠ p) (k : Nat) (w : Word) : (s.applyD0 p k w).path q = s.path q := by
  obtain ⟨he, -⟩ | ⟨locked, f, he, -⟩ := s.applyD0_eq p k w
  · rw [he]
  · rw [he, State.lockWrite_path_other _ h]

theorem State.applyPath_none {s : State} {p : Path} (h : (s.path p).posted = none) : s.applyPath p = s := by
  unfold State.applyPath
  rw [h]

theorem State.applyPath_some {s : State} {p : Path} {k : Nat} {w : Word} (h : (s.path p).posted = some (k, w)) :
    s.applyPath p = (s.modPath p fun q => { q with posted := none }).applyD0 p k w := by
  unfold State.applyPath
  rw [h]

theorem State.applyPath_posted (s : State) (p : Path) : ((s.applyPath p).path p).posted = none := by
  cases h : (s.path p).posted with
  | none => rw [State.applyPath_none h, h]
  | some e => rw [State.applyPath_some h, State.applyD0_posted, State.path_modPath]

theorem State.applyPath_path_other (s : State) {p q : Path} (h : q ≠ p) : (s.applyPath p).path q = s.path q := by
  cases hp : (s.path p).posted with
  | none => rw [State.applyPath_none hp]
  | some e => rw [State.applyPath_some hp, State.applyD0_path_other _ h, State.path_modPath_other _ _ _ _ h]

theorem State.foldl_applyPath_none (l : List Path) {s : State} (h : ∀ q ∈ l, (s.path q).posted = none) : l.foldl State.applyPath s = s := by
  induction l with
  | nil => rfl
  | cons q l ih =>
    rw [List.foldl_cons, State.applyPath_none (h q List.mem_cons_self)]
    exact ih fun r hr => h r (List.mem_cons_of_mem _ hr)

/-- Where one path alone has posted a write, the paths' turn is that path's. -/
theorem State.foldl_applyPath (p : Path) (l : List Path) (hn : l.Nodup) (hp : p ∈ l) {s : State} (h : ∀ q, q ≠ p → (s.path q).posted = none) :
    l.foldl State.applyPath s = s.applyPath p := by
  induction l with
  | nil => cases hp
  | cons q l ih =>
    rw [List.nodup_cons] at hn
    rw [List.foldl_cons]
    by_cases e : q = p
    · subst e
      refine State.foldl_applyPath_none l fun r hr => ?_
      have hne : r ≠ q := fun e => hn.1 (e ▸ hr)
      rw [State.applyPath_path_other s hne, h r hne]
    · rw [State.applyPath_none (h q e)]
      exact ih hn.2 ((List.mem_cons.1 hp).resolve_left (Ne.symm e))

theorem mem_postedOrder {p : Path} (h : hasRegs p = true) : p ∈ postedOrder := by
  revert h
  cases p <;> decide

theorem State.slowApply_one {s : State} {p : Path} (hr : hasRegs p = true) (h : ∀ q, q ≠ p → (s.path q).posted = none) :
    s.slowApply = (s.advTick (slowEdge s.tim.ticks)).applyPath p :=
  State.foldl_applyPath p postedOrder (by decide) (mem_postedOrder hr) h

theorem State.slowApply_posted {s : State} {p : Path} {k : Nat} {w : Word} (hr : hasRegs p = true) (hp : (s.path p).posted = some (k, w))
    (h : ∀ q, q ≠ p → (s.path q).posted = none) : (s.slowApply.path p).posted = none ∧ s.slowApply.locks = s.locks.written k w := by
  have hp' : ((s.advTick (slowEdge s.tim.ticks)).path p).posted = some (k, w) := hp
  rw [State.slowApply_one hr h]
  refine ⟨State.applyPath_posted _ _, ?_⟩
  rw [State.applyPath_some hp', State.applyD0_locks]
  rfl

/-- A write of a lock register that nothing waits before is applied at the next slow edge (13 R363). -/
theorem State.lockSet {s : State} {p : Path} (hr : hasRegs p = true) (hu : s.pathUp p = true) (hn : ∀ q, (s.path q).posted = none) {k : Nat}
    (hk : k ≤ 5) (w : Word) : (s.hostWrite p (0x800 + k) w false).slowApply.locks = s.locks.written k w := by
  rw [State.hostWrite_of_up hr hu, State.writeWord_post s p hk w (hn p)]
  generalize hs1 : (s.modPath p PathSt.tagged).modPath p _ = s1
  have hp : (s1.path p).posted = some (k, w) := by rw [← hs1, State.path_modPath]
  have ho (q : Path) (h : q ≠ p) : (s1.path q).posted = none := by
    rw [← hs1, State.path_modPath_other _ _ _ _ h, State.path_modPath_other _ _ _ _ h, hn]
  rw [(State.slowApply_posted hr hp ho).2, ← hs1]
  rfl

/-! ### O32 -/

/-- Settles O32: a posted write is taken at the slow edge, and its word of the window says which lock register it writes. -/
theorem lockRegistersTakeThePostedWrite : Obligations.LockRegistersTakeThePostedWrite := by
  refine ⟨?post, ?apply, ?set⟩
  case post =>
    intro p k w s hr hu hk hn
    refine ⟨_, rfl, ?_⟩
    dsimp only
    rw [State.hostWrite_of_up hr hu, State.writeWord_post s p hk w hn, State.path_modPath]
    exact ⟨rfl, rfl⟩
  case apply =>
    intro p k w s hr hp hn
    refine ⟨_, rfl, (State.slowApply_posted hr hp hn).1, ?_⟩
    rw [(State.slowApply_posted hr hp hn).2, State.applyD0_locks]
  case set =>
    intro p w s hr hu hn
    exact ⟨⟨_, rfl, State.lockSet hr hu hn (by decide : 1 ≤ 5) w⟩, ⟨_, rfl, State.lockSet hr hu hn (by decide : 2 ≤ 5) w⟩,
      ⟨_, rfl, State.lockSet hr hu hn (by decide : 3 ≤ 5) w⟩, ⟨_, rfl, State.lockSet hr hu hn (by decide : 4 ≤ 5) w⟩⟩

end Sys2Proof.Machine
end

section
/-! PROOFS. The rings of a path. -/

namespace Sys2Proof.Machine

/-! ### A ring, and what leaves it -/

theorem State.ring_modRing (s : State) (p : Path) (rx : Bool) (n m : Nat) (f : Ring → Ring) :
    (s.modRing p rx n f).ring p rx m = if m = n then f (s.ring p rx m) else s.ring p rx m := by
  unfold State.ring State.modRing
  rw [State.path_modPath]
  cases rx
  · exact Tbl.get_upd Ring.dflt (s.path p).tx n m f
  · exact Tbl.get_upd Ring.dflt (s.path p).rx n m f

theorem State.ring_of_tables {s t : State} {p : Path} (ht : (t.path p).tx = (s.path p).tx) (hr : (t.path p).rx = (s.path p).rx) (rx : Bool)
    (n : Nat) : t.ring p rx n = s.ring p rx n := by
  unfold State.ring
  cases rx
  · exact congrArg (Tbl.get Ring.dflt · n) ht
  · exact congrArg (Tbl.get Ring.dflt · n) hr

theorem State.logLate_ring (s : State) (p : Path) (reason a : Nat) (rx : Bool) (n : Nat) :
    (s.logLate p reason a).ring p rx n = s.ring p rx n :=
  State.ring_of_tables (congrArg PathSt.tx (s.logLate_quiet p reason a) :) (congrArg PathSt.rx (s.logLate_quiet p reason a) :) rx n

theorem State.ring_of_calm {s t : State} (h : t.calm = s.calm) (p : Path) (rx : Bool) (n : Nat) : t.ring p rx n = s.ring p rx n :=
  State.ring_of_tables (congrArg PathSt.tx (State.quiet_of_calm h p) :) (congrArg PathSt.rx (State.quiet_of_calm h p) :) rx n

theorem State.ring_of_path {s t : State} {p : Path} (h : t.path p = s.path p) (rx : Bool) (n : Nat) : t.ring p rx n = s.ring p rx n := by
  unfold State.ring
  rw [h]

theorem State.stage_calm (s : State) (p : Nat) (bytes : List Byte) (phy : Bool) (f : FrameSt) : (s.stage p bytes phy f).calm = s.calm := by
  unfold State.stage
  dsimp only
  split
  · exact State.modFab_calm _ _ _
  · rfl

/-- A vector goes out or is held back by coalescing, which begins with the first completion not covered (13 R381). -/
theorem State.ring_ringVector (s : State) (p : Path) (rx : Bool) (n : Nat) :
    ∃ u, (s.ringVector p rx n).ring p rx n = { s.ring p rx n with uncovered := u } := by
  unfold State.ringVector
  dsimp only
  repeat' split
  · exact ⟨_, State.ring_of_path (State.emit_path _ _ _) rx n⟩
  · exact ⟨_, rfl⟩
  · exact ⟨_, by rw [State.ring_modRing, if_pos rfl]⟩

theorem State.ringVector_adds (s : State) (p : Path) (rx : Bool) (n : Nat) : s.Adds (s.ringVector p rx n) := by
  unfold State.ringVector
  dsimp only
  repeat' split
  · exact s.emit_adds _
  · exact .refl s
  · exact .of_eq rfl

theorem State.writeWord_ring (s : State) {p : Path} (hp : p.isPcie = true) (rx : Bool) {n k : Nat} (hn : n < 32) (hk : k < 4) (w : Word) :
    s.writeWord p ((if rx then 0x480 else 0x400) + 4 * n + k) w = (s.modPath p PathSt.tagged).writeRing p rx n k w := by
  have hat (b : Nat) (hb : b = 0x400 ∨ b = 0x480) : s.writeWord p (b + 4 * n + k) w =
      (s.modPath p PathSt.tagged).writeRing p (decide (0x480 ≤ b)) n k w := by
    have hrx : decide (0x480 ≤ b + 4 * n + k) = decide (0x480 ≤ b) := by
      rw [decide_eq_decide]
      omega
    unfold State.writeWord
    dsimp only
    rw [if_neg (by omega), if_neg (by omega), if_neg (by omega), if_pos ⟨by omega, by omega, hp⟩, hrx,
      show (b + 4 * n + k - 0x400) % 128 / 4 = n by omega, show (b + 4 * n + k) % 4 = k by omega]
    rfl
  cases rx
  · exact hat 0x400 (.inl rfl)
  · exact hat 0x480 (.inr rfl)

theorem State.writeRing_ctrl (s : State) (p : Path) (rx : Bool) (n : Nat) (w : Word) : s.writeRing p rx n 2 w =
    if bit1 w 35 then
      if fld w 34 31 < 6 ∨ 12 < fld w 34 31 ∨ (rx = true ∧ (fld w 30 22 < 4 ∨ 146 < fld w 30 22)) then
        s.logLate p 5 (s.regAddr p ((if rx then 0x480 else 0x400) + 4 * n + 2))
      else s.modRing p rx n fun r => { r with enable := true, size := fld w 34 31, bufSize := fld w 30 22, coalUs := fld w 21 12 }
    else s.modRing p rx n fun r =>
      { r with enable := false, size := fld w 34 31, bufSize := fld w 30 22, coalUs := fld w 21 12, head := 0, tail := 0,
               uncovered := none } := rfl

theorem State.writeRing_tail (s : State) (p : Path) (rx : Bool) (n : Nat) (w : Word) :
    s.writeRing p rx n 3 w = s.modRing p rx n fun r => { r with tail := fld w 31 16 } := rfl

/-! ### O33 -/

/-- The registers of a ring: a legal size enables it, an illegal one leaves it, a clear of ENABLE empties it (13 R378). -/
theorem ring_registers (p : Path) (rx : Bool) (n : Nat) (w : Word) (s : State) (hp : p.isPcie = true) (hu : s.pathUp p = true) (hn : n < 32) :
    (bit1 w 35 = true → 6 ≤ fld w 34 31 → fld w 34 31 ≤ 12 → (rx = true → 4 ≤ fld w 30 22 ∧ fld w 30 22 ≤ 146) →
      runs (.ringCtrlWrite p rx n w) s fun t => t.ring p rx n =
        { s.ring p rx n with enable := true, size := fld w 34 31, bufSize := fld w 30 22, coalUs := fld w 21 12 }) ∧
    (bit1 w 35 = true → (fld w 34 31 < 6 ∨ 12 < fld w 34 31) → runs (.ringCtrlWrite p rx n w) s fun t => t.ring p rx n = s.ring p rx n) ∧
    (bit1 w 35 = false → runs (.ringCtrlWrite p rx n w) s fun t => t.ring p rx n =
      { s.ring p rx n with enable := false, size := fld w 34 31, bufSize := fld w 30 22, coalUs := fld w 21 12, head := 0, tail := 0,
                           uncovered := none }) ∧
    runs (.ringTailWrite p rx n w) s (fun t => t.ring p rx n = { s.ring p rx n with tail := fld w 31 16 }) := by
  have hr : hasRegs p = true := by
    unfold hasRegs
    rw [hp]
    rfl
  have htag : (s.modPath p PathSt.tagged).ring p rx n = s.ring p rx n := by
    unfold State.ring
    rw [State.path_modPath]
    rfl
  have hctrl : (s.hostWrite p ((if rx then 0x480 else 0x400) + 4 * n + 2) w false) = (s.modPath p PathSt.tagged).writeRing p rx n 2 w := by
    rw [State.hostWrite_of_up hr hu, State.writeWord_ring s hp rx hn (by decide)]
  have htail : (s.hostWrite p ((if rx then 0x480 else 0x400) + 4 * n + 3) w false) = (s.modPath p PathSt.tagged).writeRing p rx n 3 w := by
    rw [State.hostWrite_of_up hr hu, State.writeWord_ring s hp rx hn (by decide)]
  refine ⟨fun he h6 h12 hb => ?_, fun he hs => ?_, fun he => ?_, ?_⟩
  · refine ⟨_, congrArg Host.Outcome.next ((if_pos hn).trans hctrl), ?_⟩
    have hok : ¬ (fld w 34 31 < 6 ∨ 12 < fld w 34 31 ∨ (rx = true ∧ (fld w 30 22 < 4 ∨ 146 < fld w 30 22))) := by
      rintro (h | h | ⟨hr, h⟩)
      · omega
      · omega
      · have := hb hr
        omega
    dsimp only
    rw [State.writeRing_ctrl, if_pos he, if_neg hok, State.ring_modRing, if_pos rfl, htag]
  · refine ⟨_, congrArg Host.Outcome.next ((if_pos hn).trans hctrl), ?_⟩
    dsimp only
    rw [State.writeRing_ctrl, if_pos he, if_pos (hs.imp_right .inl)]
    exact .trans (State.logLate_ring _ _ _ _ rx n) htag
  · refine ⟨_, congrArg Host.Outcome.next ((if_pos hn).trans hctrl), ?_⟩
    dsimp only
    rw [State.writeRing_ctrl, if_neg (by simp [he]), State.ring_modRing, if_pos rfl, htag]
  · refine ⟨_, congrArg Host.Outcome.next ((if_pos hn).trans htail), ?_⟩
    dsimp only
    rw [State.writeRing_tail, State.ring_modRing, if_pos rfl, htag]

/-- A frame of a transmit ring: an error is counted and marks the descriptor, and what is staged leaves the rings (13 R379). -/
theorem ring_transmits (d : Fab) (k length dt : Nat) (bytes : List Byte) (err : Bool) (s : State) (hst : s.started = true)
    (hu : s.pathUp (functionsOf d).1 = true) (hk : s.nextTx d = some k) :
    runs (.txRingFrame d length bytes err dt) s fun t =>
      let p := placePath d k
      let n := k % 32
      (t.ring p false n).head = ((s.ring p false n).head + 1) % 65536 ∧
      (if err ∨ length < 60 ∨ 9212 < length then
        Output.txDesc p n (s.ring p false n).head 3 ∈ t.out ∧ (t.ring p false n).errors = sat36 (s.ring p false n).errors 1
      else Output.txDesc p n (s.ring p false n).head 1 ∈ t.out ∧ (t.ring p false n).frames = add72 (s.ring p false n).frames 1 ∧
        (t.ring p false n).octets = add72 (s.ring p false n).octets (length + 4)) := by
  refine ⟨_, congrArg Host.Outcome.next (if_pos (by rw [hst, hu]; rfl)), ?_⟩
  rw [hk]
  dsimp only
  generalize placePath d k = p
  generalize k % 32 = n
  generalize hs0 : (s.adv dt).modHost _ = s0
  have h0 : s0.ring p false n = s.ring p false n := by
    rw [← hs0]
    refine .trans (State.ring_of_path (State.path_modHost _ _ _ fun u => ?_) false n) rfl
    cases d <;> rfl
  by_cases hc : err = true ∨ length < 60 ∨ 9212 < length
  · rw [if_pos hc, if_pos hc]
    generalize hs1 : (s0.modRing p false n _).emit _ = s1
    have h1 : s1.ring p false n = { s.ring p false n with
        head := ((s.ring p false n).head + 1) % 65536, errors := sat36 (s.ring p false n).errors 1 } := by
      rw [← hs1, State.ring_of_path (State.emit_path _ _ _), State.ring_modRing, if_pos rfl, h0]
    have hm : Output.txDesc p n (s.ring p false n).head 3 ∈ s1.out := by
      rw [← hs1, State.emit_out]
      exact List.mem_append_right _ List.mem_cons_self
    generalize hs2 : (s1.raiseHost p .ringError).satRaise _ 1 _ = s2
    have h2 : s2.ring p false n = s1.ring p false n := by
      rw [← hs2]
      refine State.ring_of_calm (.trans (State.satRaise_calm _ _ _ _ ?_) (State.raiseHost_calm _ _ _)) p false n
      exact State.raiseDie_calm _ _ _
    have ha : s1.Adds s2 := by
      rw [← hs2]
      exact .trans (State.raiseAt_adds _ _ _ _) (State.satRaise_adds _ _ _ _ (State.raiseDie_adds _ _ _))
    obtain ⟨u, hu⟩ := s2.ring_ringVector p false n
    rw [hu, h2, h1]
    exact ⟨rfl, (ha.trans (s2.ringVector_adds p false n)).mem hm, rfl⟩
  · rw [if_neg hc, if_neg hc]
    generalize hs1 : State.stage s0 _ _ _ _ = s1
    have h1 : s1.ring p false n = s.ring p false n := by
      rw [← hs1, State.ring_of_calm (State.stage_calm _ _ _ _ _), h0]
    generalize hs2 : (s1.modRing p false n _).emit _ = s2
    have h2 : s2.ring p false n = { s.ring p false n with
        head := ((s.ring p false n).head + 1) % 65536, frames := add72 (s.ring p false n).frames 1,
        octets := add72 (s.ring p false n).octets (length + 4) } := by
      rw [← hs2, State.ring_of_path (State.emit_path _ _ _), State.ring_modRing, if_pos rfl, h1]
    have hm : Output.txDesc p n (s.ring p false n).head 1 ∈ s2.out := by
      rw [← hs2, State.emit_out]
      exact List.mem_append_right _ List.mem_cons_self
    obtain ⟨u, hu⟩ := s2.ring_ringVector p false n
    rw [hu, h2]
    exact ⟨rfl, (s2.ringVector_adds p false n).mem hm, rfl, rfl⟩

/-- A frame that leaves a host port fills the next receive buffer, cut to its room (13 R380). -/
theorem ring_receives (d : Fab) (dt : Nat) (x : Delivery) (s : State)
    (hx : s.host.delivering.find? (fun x => x.path = (functionsOf d).1 ∨ x.path = (functionsOf d).2) = some x)
    (he : (s.ring x.path true x.ring).enable = true) (hne : (s.ring x.path true x.ring).head ≠ (s.ring x.path true x.ring).tail) :
    runs (.rxRingDelivery d dt) s fun t =>
      let r := s.ring x.path true x.ring
      let r1 := t.ring x.path true x.ring
      let trunc := decide (64 * r.bufSize - 64 < x.bytes.length)
      r1.head = (r.head + 1) % 65536 ∧ r1.frames = add72 r.frames 1 ∧ r1.octets = add72 r.octets x.bytes.length ∧
      r1.errors = (if trunc then sat36 r.errors 1 else r.errors) ∧
      Output.rxBuffer x.path x.ring r.head x.desc (x.bytes.take (64 * r.bufSize - 64)) x.bytes.length (1 + 2 * b1 trunc) ∈ t.out := by
  refine ⟨_, rfl, ?_⟩
  rw [hx]
  dsimp only
  rw [if_neg (by rintro (h | h); exacts [Bool.false_ne_true (h.symm.trans he), hne h])]
  generalize hs0 : (s.adv dt).modHost _ = s0
  have h0 : s0.ring x.path true x.ring = s.ring x.path true x.ring := by
    rw [← hs0]
    refine .trans (State.ring_of_path (State.path_modHost _ _ _ fun u => ?_) true x.ring) rfl
    cases x.path <;> rfl
  generalize decide (64 * (s.ring x.path true x.ring).bufSize - 64 < x.bytes.length) = trunc
  generalize x.path = p at *
  generalize x.ring = n at *
  generalize hs1 : (s0.modRing p true n _).emit _ = s1
  have h1 : s1.ring p true n = { s.ring p true n with
      head := ((s.ring p true n).head + 1) % 65536, frames := add72 (s.ring p true n).frames 1,
      octets := add72 (s.ring p true n).octets x.bytes.length,
      errors := if trunc then sat36 (s.ring p true n).errors 1 else (s.ring p true n).errors } := by
    rw [← hs1, State.ring_of_path (State.emit_path _ _ _), State.ring_modRing, if_pos rfl, h0]
  have hm : Output.rxBuffer p n (s.ring p true n).head x.desc (x.bytes.take (64 * (s.ring p true n).bufSize - 64)) x.bytes.length
      (1 + 2 * b1 trunc) ∈ s1.out := by
    rw [← hs1, State.emit_out]
    exact List.mem_append_right _ List.mem_cons_self
  generalize hs2 : (if trunc = true then _ else s1) = s2
  have h2 : s2.ring p true n = s1.ring p true n := by
    rw [← hs2]
    split
    · refine State.ring_of_calm (.trans (State.satRaise_calm _ _ _ _ ?_) (State.raiseHost_calm _ _ _)) p true n
      exact State.raiseDie_calm _ _ _
    · rfl
  have ha : s1.Adds s2 := by
    rw [← hs2]
    exact .ite _ (.trans (State.raiseAt_adds _ _ _ _) (State.satRaise_adds _ _ _ _ (State.raiseDie_adds _ _ _))) (.refl s1)
  obtain ⟨u, hu⟩ := s2.ring_ringVector p true n
  rw [hu, h2, h1]
  exact ⟨rfl, rfl, rfl, rfl, (ha.trans (s2.ringVector_adds p true n)).mem hm⟩

/-- Settles O33: the registers of a ring, its frames both ways and the end of its coalescing time. -/
theorem ringsMoveFrames : Obligations.RingsMoveFrames := by
  refine ⟨ring_registers, ring_transmits, ring_receives, ?_⟩
  intro p rx n t0 s hp hc
  refine ⟨_, rfl, ?_⟩
  dsimp only
  rw [hc]
  dsimp only
  rw [State.ring_of_path (State.emit_path _ _ _), State.ring_modRing, if_pos rfl, State.emit_out]
  exact ⟨rfl, List.mem_append_right _ List.mem_cons_self⟩

end Sys2Proof.Machine
end

section
/-! PROOFS. A seal pass that ends while another command runs on the path of the commit. -/

namespace Sys2Proof.Machine

/-! ### O34 -/

/-- A commit of die 1 asked for on SPI, where a write of the zone map is what runs: the state holds both, and no field ties them. -/
def sealRace : State :=
  { State.reset with
    sys := { present := 2 }
    sealSt := { commit := [1], commitOf := some (.spi, 2) }
    host := { spi := { running := some { pend := { opcode := 0x701, req := { path := .spi } }, intent := true } } } }

/-- The pass that completes the commit answers the write of the zone map, which clears VALID of die 1 again (13 R377). -/
theorem sealRace_clears_valid : ∃ t, exec (.sealPassEnd 1 0) sealRace = .next t ∧ inMask t.sealSt.valid 1 = false :=
  ⟨_, rfl, by decide +kernel⟩

/-- Refutes O34: the clause on the end of a seal pass asks for VALID of the die whatever runs on the path of the commit; in `sealRace` a write
of the zone map runs there, and its completion clears VALID. -/
theorem not_hostResetsFaultsAndLinks : ¬ Obligations.HostResetsFaultsAndLinks := by
  rintro ⟨-, -, -, -, hseal, -⟩
  obtain ⟨t, ht, -, hcommit, -⟩ := hseal 1 0 sealRace (by decide) (by decide)
  obtain ⟨u, hu, hv⟩ := sealRace_clears_valid
  obtain ⟨-, hvalid, -⟩ := hcommit (by decide)
  have htu : t = u := by
    have h := ht.symm.trans hu
    injection h
  rw [htu, hv] at hvalid
  exact Bool.false_ne_true hvalid

end Sys2Proof.Machine
end

section
/-! PROOFS. The states of start-up. -/

namespace Sys2Proof.Machine

/-! ### What reaches the state of start-up -/

theorem State.halt_sys (s : State) (m : StartMode) : (s.halt m).sys.start = m ∧ (s.halt m).sys.faultN = true := by
  unfold State.halt
  obtain ⟨l, n, h⟩ := ((s.startTo m).modSys fun y => { y with faultN := true }).logFault_sys 0x21 7 m.code
  rw [h]
  exact ⟨rfl, rfl⟩

theorem State.start_of_trunk {s t : State} (h : t.trunk = s.trunk) : t.sys.start = s.sys.start := (congrArg (·.2.1.start) h :)

theorem State.modEgr_trunk (s : State) (f : EgressSt → EgressSt) : (s.modEgr f).trunk = s.trunk := rfl

theorem State.portUp_trunk (s : State) (p : Nat) : (s.portUp p).trunk = s.trunk :=
  (State.raiseDie_trunk _ _ _).trans ((State.modEgr_trunk _ _).trans (State.modPort_trunk _ _ _))

theorem State.train_trunk (s : State) (p : Nat) (count : Bool) : (s.train p count).trunk = s.trunk := by
  unfold State.train
  dsimp only
  split
  · rw [State.portUp_trunk, State.portTo_trunk]
  · exact State.portTo_trunk _ _ _ _

theorem State.enablePort_trunk (s : State) (p : Nat) : (s.enablePort p).trunk = s.trunk := by
  unfold State.enablePort
  split
  · exact State.train_trunk _ _ _
  · rfl

theorem State.startCatchUp_trunk (s : State) : s.startCatchUp.trunk = s.trunk := by
  have hcore (u : State) (d : Fab) : (u.modCore d fun k => { k with mode := .catchingUp }).trunk = u.trunk := by cases d <;> rfl
  have hj (u : State) (k : Nat) (w : List Word) : (u.journal k w).trunk = u.trunk := State.trunk_of_deep (State.journal_deep _ _ _)
  unfold State.startCatchUp State.sendSnapshot
  dsimp only
  rw [hj, State.foldl_trunk _ (fun u k => hj u k _), hj]
  exact .trans rfl (hcore _ _)

theorem State.raiseHost_trunk (s : State) (p : Path) (f : HostFlag) : (s.raiseHost p f).trunk = s.trunk :=
  State.trunk_of_deep (State.raiseAt_deep _ _ _ _)

theorem State.openMailboxes_trunk (s : State) : s.openMailboxes.trunk = s.trunk := State.foldl_trunk _ (fun u p => u.raiseHost_trunk p _) _ _

/-! ### A core is released -/

theorem State.release_mode (s : State) (d e : Fab) (m : CoreMode) : ((s.release d m).core e).mode = if e = d then m else (s.core e).mode := by
  cases d <;> cases e <;> rfl

/-! ### The end of start-up -/

/-- The trunk with the lock registers, which what opens the device for forwarding leaves. -/
def State.footing (s : State) : (PairSt × SysSt × SealSt) × LockSt := (s.trunk, s.locks)

theorem State.footing_of {s t : State} (h : t.trunk = s.trunk) (k : t.fixed = s.fixed) : t.footing = s.footing := by
  rw [State.footing, State.footing, h, State.locks_of_fixed k]

theorem State.footing_enabled (s : State) : ((List.range 26).foldl State.enablePort s).footing = s.footing :=
  State.footing_of (State.foldl_trunk _ (fun u p => u.enablePort_trunk p) _ _) (foldl_fixed _ (fun u p => u.enablePort_fixed p) _ _)

theorem State.commitLists_locks (s : State) : s.commitLists.locks = s.locks := State.locks_of_fixed (State.commitLists_fixed s)

/-! ### O35 -/

/-- The slow oscillator runs: the straps say what the member is (18 R512; 17 R500). -/
theorem startUp_slowOsc (hem : Bool) (mbr dt : Nat) (s : State) (hao : s.key.ao = true) (hst : s.sys.start = .aoUp) :
    runs (.slowOscRunning hem mbr dt) s fun t => t.sys.start = .clockWait ∧ t.sys.hem = hem ∧
      t.sys.member = (if hem then mbr % 4 else 0) ∧ t.stk.mode = (if hem then if mbr % 4 = 0 then .master else .orphan else .single) := by
  have hlog (u : State) (p : Prop) [Decidable p] (code die x : Nat) : (if p then u.logFault code die x else u).trunk = u.trunk := by
    split
    · exact State.logFault_trunk _ _ _ _
    · rfl
  have hlogw (u : State) (p : Prop) [Decidable p] (code die x : Nat) : (if p then u.logFault code die x else u).wide = u.wide := by
    split
    · exact State.logFault_wide _ _ _ _
    · rfl
  refine ⟨_, congrArg Host.Outcome.next (if_pos ⟨hao, hst⟩), ?_⟩
  dsimp only
  generalize h1 : ((s.adv dt).modSys _).modStk _ = s1
  have hy : s1.sys.hem = hem ∧ s1.sys.member = if hem = true then mbr % 4 else 0 := by
    rw [← h1]
    exact ⟨rfl, rfl⟩
  have hk : s1.stk.mode = if (!hem) = true then .single else if mbr % 4 = 0 then .master else .orphan := by
    rw [← h1]
    rfl
  generalize h3 : (if (!hem) = true ∧ mbr % 4 ≠ 0 then (s1.logFault 0x20 7 0).logFault 0x22 7 0 else s1.logFault 0x20 7 0) = s3
  have ht3 : s3.trunk = s1.trunk := by rw [← h3, hlog, State.logFault_trunk]
  have hw3 : s3.wide = s1.wide := by rw [← h3, hlogw, State.logFault_wide]
  generalize h4 : (if s3.key.tamperDue = true then s3.raiseDev .tamper else s3) = s4
  have ht4 : s4.trunk = s1.trunk := by
    rw [← h4, ← ht3]
    split
    · exact State.raiseDev_trunk _ _
    · rfl
  have hw4 : s4.wide = s1.wide := by
    rw [← h4, ← hw3]
    split
    · exact State.raiseDev_wide _ _
    · rfl
  have ht5 (l : List Nat) : (l.foldl (fun s k => s.logFault 0x16 0 k) s4).trunk = s1.trunk := by
    rw [State.foldl_trunk _ (fun u k => u.logFault_trunk 0x16 0 k), ht4]
  have hw5 (l : List Nat) : (l.foldl (fun s k => s.logFault 0x16 0 k) s4).wide = s1.wide := by
    rw [foldl_wide _ (fun u k => u.logFault_wide 0x16 0 k), hw4]
  specialize ht5 s4.key.tamperLost
  specialize hw5 s4.key.tamperLost
  generalize s4.key.tamperLost.foldl _ s4 = s5 at *
  refine ⟨rfl, (congrArg (·.2.1.hem) ht5 :).trans hy.1, (congrArg (·.2.1.member) ht5 :).trans hy.2, ?_⟩
  refine (congrArg StackSt.mode (State.stk_of_wide hw5)).trans (hk.trans ?_)
  cases hem <;> rfl

/-- The cores boot from the measurement released: one of them is active, the other joins it cold (12 R334). -/
theorem startUp_cores (w e : Bool) (dt : Nat) (s : State) (hst : s.sys.start = .coreBoot)
    (hfit : ((w && s.coreFit .west) || (e && s.coreFit .east)) = true) :
    runs (.measurementReleased w e dt) s fun t => t.sys.start = .keys ∧ t.pair.mode = .single ∧
      (if (w && s.coreFit .west) = true then t.pair.active = .west ∧ (t.core .west).mode = .active ∧
        ((e && s.coreFit .east) = true → (t.core .east).mode = .cold)
      else t.pair.active = .east ∧ (t.core .east).mode = .active) := by
  have hcore (u : State) (d c : Fab) : (((u.modPair fun p => { p with active := c, mode := .single }).startTo .keys).core d).mode =
      (u.core d).mode := by cases d <;> rfl
  refine ⟨_, congrArg Host.Outcome.next (if_pos ⟨hst, Bool.or_eq_true_iff.1 hfit⟩), rfl, rfl, ?_⟩
  rw [hcore, hcore]
  revert hfit
  generalize (w && s.coreFit .west) = a
  generalize (e && s.coreFit .east) = b
  intro hfit
  cases a
  · cases b
    · exact absurd hfit Bool.false_ne_true
    · exact ⟨rfl, State.release_mode _ .east .east .active⟩
  · cases b
    · exact ⟨rfl, State.release_mode _ .west .west .active, fun h => absurd h Bool.false_ne_true⟩
    · refine ⟨rfl, ?_, fun _ => State.release_mode _ .east .east .cold⟩
      exact (State.release_mode _ .east .west .cold).trans (State.release_mode _ .west .west .active)

/-- The locks word of the image is applied, and what then opens the device leaves the lock registers (14 R407; 18 R517). -/
theorem startUp_locks (dt : Nat) (s : State) (hst : s.sys.start = .locks) :
    runs (.locksApply dt) s fun t => t.sys.start = .forwarding ∧
      t.locks = match s.img.locksWord with | some w => s.locks.apply w | none => s.locks := by
  refine ⟨_, congrArg Host.Outcome.next (if_pos hst), ?_⟩
  dsimp only
  generalize hv : State.commitLists _ = v
  have hlocks : v.locks = match s.img.locksWord with | some w => s.locks.apply w | none => s.locks := by
    have hw : (s.adv dt).img.locksWord = s.img.locksWord := rfl
    rw [← hv, State.commitLists_locks, hw]
    cases s.img.locksWord with
    | none => rfl
    | some w =>
      dsimp only [State.applyLocks]
      split <;> rfl
  have hfold := State.footing_enabled (v.startTo .forwarding)
  generalize (List.range 26).foldl State.enablePort (v.startTo .forwarding) = u at *
  generalize hw : (State.openMailboxes _) = w
  have hopen : w.footing = u.footing := by
    rw [← hw]
    exact (State.footing_of (State.openMailboxes_trunk _) (State.openMailboxes_fixed _)).trans rfl
  generalize h4 : State.restartAwake _ = s4
  have hs4 : s4.footing = w.footing := by
    rw [← h4]
    rfl
  generalize h5 : (if s4.img.repS.isEmpty = true then s4 else s4.raiseDev .image) = s5
  have hs5 : s5.footing = (v.startTo .forwarding).footing := by
    rw [← h5, ← hfold, ← hopen, ← hs4]
    split
    · rfl
    · exact State.footing_of (State.raiseDev_trunk _ _) (State.raiseDev_fixed _ _)
  generalize h6 : (if (s5.core s5.standby).mode = .cold then s5.startCatchUp else s5) = s6
  have hs6 : s6.footing = (v.startTo .forwarding).footing := by
    rw [← h6, ← hs5]
    split
    · exact State.footing_of (State.startCatchUp_trunk _) (State.startCatchUp_fixed _)
    · rfl
  exact ⟨State.start_of_trunk (congrArg Prod.fst hs6), (congrArg Prod.snd hs6).trans hlocks⟩

/-- Settles O35: each event of start-up meets its state, ends with the next one, and a failure ends with the device halted. -/
theorem startUpRunsItsStates : Obligations.StartUpRunsItsStates := by
  refine ⟨?ao, startUp_slowOsc, ?clock, ?supply, ?test, ?image, startUp_cores, ?boot, ?blobs, ?record, startUp_locks, ?retry⟩
  case ao =>
    intro bk s hao
    refine ⟨_, congrArg Host.Outcome.next (if_neg (by simp [hao])), rfl, rfl, rfl, ?_⟩
    cases bk
    · exact ⟨rfl, rfl⟩
    · rfl
  case clock =>
    intro dt s hst
    refine ⟨⟨_, congrArg Host.Outcome.next (if_pos hst), rfl, ?_⟩, fun hf => ⟨_, congrArg Host.Outcome.next (if_pos ⟨hst, hf⟩), ?_⟩⟩
    · have h := State.sys_of_hardly (State.domTo_hardly ((s.adv dt).modSys fun y => { y with faultN := false }) 2 .on)
      exact (congrArg SysSt.faultN h :)
    · obtain ⟨l, n, h⟩ := ((s.advTick (s.sys.since + ticksMs 100)).modSys fun y => { y with faultN := true }).logFault_sys 0x21 7 1
      rw [h]
      exact ⟨hst, rfl⟩
  case supply =>
    intro volts dt s hst hd hv
    exact ⟨_, congrArg Host.Outcome.next (if_pos ⟨hst, by simp [hd], hv⟩), rfl⟩
  case test =>
    intro dt x s hst
    refine ⟨fun hfit => ⟨_, congrArg Host.Outcome.next ((if_pos hst).trans (if_pos ?_)), rfl⟩, fun h0 =>
      ⟨_, congrArg Host.Outcome.next ((if_pos hst).trans (if_neg ?_)), State.halt_sys _ _⟩⟩
    · exact hfit
    · simp [testDies, h0]
  case image =>
    intro dt s hst
    refine ⟨_, congrArg Host.Outcome.next (if_pos hst), ?_⟩
    dsimp only
    split
    · exact State.halt_sys _ _
    · refine ⟨rfl, ?_⟩
      unfold State.boot
      dsimp only
      have hload (u : State) (d : Fab) : (if u.coreFit d = true then u.loadFirmware d (s.adv dt).chooseSlot.2 else u).img.runSlot =
          u.img.runSlot := by
        split
        · cases d <;> rfl
        · rfl
      exact (hload _ .east).trans ((hload _ .west).trans rfl)
  case boot =>
    intro s hst
    exact ⟨_, congrArg Host.Outcome.next (if_pos hst), State.halt_sys _ _⟩
  case blobs =>
    intro dt s hst
    exact ⟨_, congrArg Host.Outcome.next (if_pos hst), rfl, rfl, rfl, rfl⟩
  case record =>
    intro dt pos idx user s hst hn
    refine ⟨_, congrArg Host.Outcome.next (if_pos hst), ?_⟩
    rw [hn]
    dsimp only
    have hslot : (s.adv dt).img.runSlot = s.img.runSlot := rfl
    rw [hslot]
    by_cases hk : (s.img.recAt (if user = true then s.img.runSlot else 2) pos).kind = 0x0F
    · rw [if_pos hk, if_pos hk]
      by_cases hu : user = true ∨ s.img.runSlot = 2
      · rw [if_pos hu, if_pos hu]
        exact ⟨rfl, rfl⟩
      · rw [if_neg hu, if_neg hu]
        rfl
    · rw [if_neg hk, if_neg hk]
      rfl
  case retry =>
    intro s hst hr
    refine ⟨_, congrArg Host.Outcome.next (if_pos ⟨hst, hr⟩), ?_⟩
    dsimp only
    unfold State.runSeq
    generalize hs1 : State.startTo _ _ = s1
    obtain ⟨m, h⟩ := s1.seqFrom_sys none 0 0 33
    rw [h, ← hs1]
    exact ⟨rfl, rfl⟩

end Sys2Proof.Machine
end

section
/-! PROOFS. What a reload of a die fills in, and that it leaves the state of start-up and of reloads. -/

namespace Sys2Proof.Machine

/-! ### The commands of the Cuff die leave the trunk -/

theorem State.modZon_trunk (s : State) (f : ZoneSt → ZoneSt) : (s.modZon f).trunk = s.trunk := rfl

theorem State.modGw_trunk (s : State) (f : GwSt → GwSt) : (s.modGw f).trunk = s.trunk := rfl

theorem State.modEdge_trunk (s : State) (f : EdgeSt → EdgeSt) : (s.modEdge f).trunk = s.trunk := rfl

theorem State.satRaise_raiseDev_trunk (s : State) (old k : Nat) (f : DevFlag) :
    (s.satRaise old k fun t => t.raiseDev f).trunk = s.trunk := State.satRaise_trunk _ _ _ _ (State.raiseDev_trunk _ _)

theorem State.edgeCount_trunk (s : State) (n i : Nat) : (s.edgeCount n i).trunk = s.trunk := by
  unfold State.edgeCount
  dsimp only
  rw [State.satRaise_raiseDev_trunk]
  rfl

theorem State.dropCan_trunk (s : State) (c : Nat) : (s.dropCan c).trunk = s.trunk :=
  (State.foldl_trunk _ (fun s _ => s.edgeCount_trunk c 2) _ _).trans rfl

theorem State.stage_trunk (s : State) (p : Nat) (bytes : List Byte) (phy : Bool) (f : FrameSt) : (s.stage p bytes phy f).trunk = s.trunk := by
  unfold State.stage
  dsimp only
  split
  · exact State.modFab_trunk _ _ _
  · rfl

theorem State.closeBundle_trunk (s : State) (i : Nat) : (s.closeBundle i).trunk = s.trunk := by
  unfold State.closeBundle
  dsimp only
  split
  · rfl
  · split
    · rw [State.stage_trunk]
      rfl
    · rfl

theorem State.gwZoneOf_trunk (s : State) (n : Nat) (z : Option Nat) : (s.gwZoneOf n z).trunk = s.trunk := by
  unfold State.gwZoneOf
  split
  · split <;> rfl
  · rfl

theorem edgeCanWrite_trunk (r : Req) (s : State) : (edgeCanWrite.run r s).st.trunk = s.trunk := by
  unfold edgeCanWrite
  dsimp only
  split
  · rw [State.dropCan_trunk]
    rfl
  · rfl

theorem edgeTableLoad_trunk (r : Req) (s : State) : (edgeTableLoad.run r s).st.trunk = s.trunk := by
  unfold edgeTableLoad
  dsimp only
  repeat' split
  all_goals rfl

theorem gwDownWrite_trunk (r : Req) (s : State) : (gwDownWrite.run r s).st.trunk = s.trunk := by
  have hif (u : State) (c : Prop) [Decidable c] (n : Nat) (z : Option Nat) : (if c then u.gwZoneOf n z else u).trunk = u.trunk := by
    split
    · exact State.gwZoneOf_trunk _ _ _
    · rfl
  unfold gwDownWrite
  dsimp only
  rw [hif, hif]
  rfl

/-- The opcodes of the records of the Cuff die (18 R520). -/
def cuffOps : List Nat := [0xF01, 0xF02, 0xF03, 0xF04, 0xF05, 0xF06, 0xF07, 0xF08, 0xF09, 0x101, 0x102, 0x103, 0x104, 0x105, 0x106, 0x107]

theorem mem_cuffOps {op : Nat} (h : cuffRecord op = true) : op ∈ cuffOps := by
  unfold cuffRecord at h
  rw [Bool.or_eq_true, decide_eq_true_eq, decide_eq_true_eq] at h
  simp only [cuffOps, List.mem_cons, List.not_mem_nil, or_false]
  omega

/-- The commands of the EDGE and GW records write channels, tables and entries of the gateway, and nothing of the trunk. -/
theorem cuffRecord_trunk {op : Nat} {sp : CmdSpec} (h : recordSpec op = some sp) (hc : cuffRecord op = true) (r : Req) (s : State) :
    (sp.run r s).st.trunk = s.trunk := by
  have hm := mem_cuffOps hc
  simp only [cuffOps, List.mem_cons, List.not_mem_nil, or_false] at hm
  rcases hm with rfl | rfl | rfl | rfl | rfl | rfl | rfl | rfl | rfl | rfl | rfl | rfl | rfl | rfl | rfl | rfl
  · obtain rfl : edgeCanWrite = sp := Option.some.inj (.trans rfl h)
    exact edgeCanWrite_trunk r s
  · obtain rfl : edgeLinWrite = sp := Option.some.inj (.trans rfl h)
    rfl
  · obtain rfl : edgeLinTableWrite = sp := Option.some.inj (.trans rfl h)
    rfl
  · obtain rfl : edgeSerWrite = sp := Option.some.inj (.trans rfl h)
    rfl
  · obtain rfl : edgeTableLoad = sp := Option.some.inj (.trans rfl h)
    exact edgeTableLoad_trunk r s
  · obtain rfl : edgeWakeWrite = sp := Option.some.inj (.trans rfl h)
    rfl
  · exact absurd (.trans (Eq.refl none) h) (Option.some_ne_none sp).symm
  · exact absurd (.trans (Eq.refl none) h) (Option.some_ne_none sp).symm
  · exact absurd (.trans (Eq.refl none) h) (Option.some_ne_none sp).symm
  · obtain rfl : gwBundleWrite = sp := Option.some.inj (.trans rfl h)
    exact (State.closeBundle_trunk _ _)
  · obtain rfl : gwUpWrite = sp := Option.some.inj (.trans rfl h)
    rfl
  · obtain rfl : gwDownWrite = sp := Option.some.inj (.trans rfl h)
    exact gwDownWrite_trunk r s
  · obtain rfl : gwPeriodicWrite = sp := Option.some.inj (.trans rfl h)
    rfl
  · exact absurd (.trans (Eq.refl none) h) (Option.some_ne_none sp).symm
  · exact absurd (.trans (Eq.refl none) h) (Option.some_ne_none sp).symm
  · exact absurd (.trans (Eq.refl none) h) (Option.some_ne_none sp).symm

/-! ### Records executed again -/

theorem CmdSpec.judge_trunk (sp : CmdSpec) (r : Req) (s : State) (h : ∀ q, (sp.run q s).st.trunk = s.trunk) :
    (sp.judge r s).1.st.trunk = s.trunk := by
  unfold CmdSpec.judge
  dsimp only
  repeat' split
  all_goals first
    | rfl
    | exact h _

theorem State.commitNow_trunk (s : State) : s.commitNow.trunk = s.trunk := by
  unfold State.commitNow
  split
  · rfl
  · dsimp only
    split <;> rfl

theorem State.mirrorOut_trunk (s : State) (ks : List Nat) : (s.mirrorOut ks).trunk = s.trunk := State.trunk_of_deep (State.mirrorOut_deep s ks)

theorem State.runCommand_trunk (s : State) (n : Nat) (r : ImgRec) (hc : cuffRecord (s.img.recOp n r) = true) :
    (s.runCommand n r).1.trunk = s.trunk := by
  unfold State.runCommand
  dsimp only
  cases hs : recordSpec (s.img.recOp n r) with
  | none => rfl
  | some sp =>
    have hj := sp.judge_trunk (s.img.recReq n r) s fun q => cuffRecord_trunk hs hc q s
    dsimp only
    split
    · rw [State.mirrorOut_trunk, State.commitNow_trunk, hj]
    · split
      · rw [State.mirrorOut_trunk, hj]
      · exact hj

theorem State.cuffRecords_trunk (s : State) (n : Nat) : (s.cuffRecords n).trunk = s.trunk := by
  refine State.foldl_trunk _ (fun u r => ?_) _ _
  dsimp only
  split
  · rfl
  · split
    · exact State.runCommand_trunk _ _ _ ‹_›
    · split <;> rfl

theorem State.restoreSlots_trunk (s : State) (k : Nat) (ws : List Word) : (s.restoreSlots k ws).trunk = s.trunk := by
  induction k generalizing s ws with
  | zero => rfl
  | succ k ih =>
    cases ws with
    | nil => rfl
    | cons w ws =>
      unfold State.restoreSlots
      dsimp only
      rw [ih]
      split <;> rfl

theorem State.fillCuff_trunk (s : State) : s.fillCuff.trunk = s.trunk := by
  have hlog (u : State) (c : Prop) [Decidable c] : (if c then u.logFault 0x11 5 (2 ^ 35 + 5) else u).trunk = u.trunk := by
    split
    · exact State.logFault_trunk _ _ _ _
    · rfl
  have hlast (u v : State) (up : Bool) (h : v.trunk = u.trunk) :
      ((v.modSys fun y => { y with cuffChanged := false }).modEdge fun e => { e with up := up }).trunk = u.trunk := h
  unfold State.fillCuff
  dsimp only
  refine hlast _ _ _ ?_
  rw [hlog, State.restoreSlots_trunk]
  generalize hs1 : State.cuffRecords _ 2 = s1
  have h1 : s1.trunk = s.trunk := by
    rw [← hs1, State.cuffRecords_trunk]
    rfl
  change (if s1.img.runSlot = 2 then s1 else s1.cuffRecords s1.img.runSlot).trunk = s.trunk
  split
  · exact h1
  · rw [State.cuffRecords_trunk, h1]

theorem State.fillFabric_trunk (s : State) (d : Fab) : (s.fillFabric d).trunk = s.trunk := by
  unfold State.fillFabric
  dsimp only
  rw [State.foldl_trunk, State.modPool_trunk, State.modFab_trunk]
  intro u p
  split <;> rfl

theorem State.fillDie_trunk (s : State) (die : Nat) : (s.fillDie die).trunk = s.trunk := by
  unfold State.fillDie
  split
  · exact State.fillFabric_trunk _ _
  · split
    · exact State.fillCuff_trunk _
    · rfl

/-! ### The state of start-up and of reloads, whatever dies are present -/

def State.plan (s : State) : SysSt := { s.sys.rest with present := 0 }

theorem State.plan_of_trunk {s t : State} (h : t.trunk = s.trunk) : t.plan = s.plan := by
  unfold State.plan
  rw [State.sys_of_trunk h]

theorem State.dieUp_plan (s : State) (die : Nat) : (s.dieUp die).plan = s.plan :=
  (State.plan_of_trunk (State.foldl_trunk _ (fun u p => u.enablePort_trunk p) _ _)).trans rfl

theorem State.startCore_plan (s : State) (d : Fab) (n : Nat) : (s.startCore d n).plan = s.plan := by
  unfold State.startCore
  dsimp only
  generalize hs1 : (if s.dom (coreDom d) = .on then s else s.domTo (coreDom d) .on) = s1
  have h1 : s1.plan = s.plan := by
    rw [← hs1]
    split
    · rfl
    · exact State.sys_of_hardly (State.domTo_hardly _ _ _)
  exact .trans (by cases d <;> rfl) h1

theorem State.reloadCore_plan (s : State) (d : Fab) : (s.reloadCore d).plan = s.plan := by
  unfold State.reloadCore
  split
  · rfl
  · rw [State.plan_of_trunk (State.startCatchUp_trunk _), State.startCore_plan]

theorem State.gwPortFit_plan (s : State) : ∃ p, s.gwPortFit.plan = { s.plan with gwPort := p } := by
  unfold State.gwPortFit
  dsimp only
  split
  · exact ⟨s.sys.gwPort, rfl⟩
  · refine ⟨61 - s.sys.gwPort, ?_⟩
    have h := State.plan_of_trunk (s.flushOutput_trunk (dieOfPort s.sys.gwPort) (localOf s.sys.gwPort))
    exact congrArg (fun y : SysSt => { y with gwPort := 61 - s.sys.gwPort }) h

/-- A reload that no other waits for ends with none under way. -/
theorem State.nextReload_none {s : State} (h : s.plan.reloadDue = 0) : s.nextReload = s := by
  have h' : s.sys.reloadDue = 0 := h
  unfold State.nextReload
  rw [h']
  rfl

end Sys2Proof.Machine
end

section
/-! PROOFS. Losses, resets and reloads; which core leads. -/

namespace Sys2Proof.Machine

/-! ### Events and pools leave the core pair -/

@[simp] theorem State.raiseAt_pair (s : State) (p : Path) (n f : Nat) : (s.raiseAt p n f).pair = s.pair := by
  have hemit (u : State) (b : Prop) [Decidable b] (o : Output) (h : u.pair = s.pair) : (if b then u.emit o else u).pair = s.pair := by
    split
    · exact h
    · exact h
  have hnote (u : State) (b : Prop) [Decidable b] (o : Output) (h : u.pair = s.pair) :
      (if b then (u.emit o).modPath p PathSt.noticed else u).pair = s.pair := by
    split
    · exact h
    · exact h
  unfold State.raiseAt
  dsimp only
  generalize hs1 : s.modPath p _ = s1
  have h1 : s1.pair = s.pair := by
    rw [← hs1]
    rfl
  split
  · cases p
    case service => exact hnote s1 _ _ h1
    case spi => exact h1
    case image => rfl
    case relay => rfl
    all_goals exact hemit s1 _ _ h1
  · exact h1

theorem State.foldl_pair {α : Type} (n : State → α → State) (h : ∀ s a, (n s a).pair = s.pair) (l : List α) (s : State) :
    (l.foldl n s).pair = s.pair := by
  induction l generalizing s with
  | nil => rfl
  | cons a l ih => rw [List.foldl_cons, ih, h]

@[simp] theorem State.raiseDie_pair (s : State) (d : Fab) (f : DieFlag) : (s.raiseDie d f).pair = s.pair :=
  State.foldl_pair _ (fun s p => s.raiseAt_pair p d.num f.bit) _ _

@[simp] theorem State.raiseDev_pair (s : State) (f : DevFlag) : (s.raiseDev f).pair = s.pair :=
  State.foldl_pair _ (fun s p => s.raiseAt_pair p 3 f.bit) _ _

@[simp] theorem State.logFault_pair (s : State) (code die x : Nat) : (s.logFault code die x).pair = s.pair :=
  .trans (State.raiseDev_pair _ _) rfl

theorem State.satRaise_raiseDie_pair (s : State) (old k : Nat) (d : Fab) (f : DieFlag) :
    (s.satRaise old k fun t => t.raiseDie d f).pair = s.pair := by
  unfold State.satRaise
  split
  · exact State.raiseDie_pair _ _ _
  · rfl

@[simp] theorem State.poolTick_pair (s : State) (d : Fab) (p : Nat) (get : PoolCtr → Nat) (set : PoolCtr → Nat → PoolCtr) :
    (s.poolTick d p get set).pair = s.pair :=
  (State.satRaise_raiseDie_pair _ _ _ _ _).trans (State.modPool_pair _ _ _)

@[simp] theorem State.useUp_pair (s : State) (d : Fab) (p n : Nat) : (s.useUp d p n).pair = s.pair := by
  unfold State.useUp
  dsimp only
  split
  · exact (State.raiseDie_pair _ _ _).trans (State.modPool_pair _ _ _)
  · exact State.modPool_pair _ _ _

@[simp] theorem State.allocFrom_pair (s : State) (d : Fab) (p x : Nat) : (s.allocFrom d p x).1.pair = s.pair := by
  unfold State.allocFrom
  dsimp only
  split
  · exact (State.useUp_pair _ _ _ _).trans (State.modPool_pair _ _ _)
  · exact State.poolTick_pair _ _ _ _ _

@[simp] theorem State.allocFall_pair (s : State) (d : Fab) (x : Nat) (ps : List Nat) : (s.allocFall d x ps).1.pair = s.pair := by
  induction ps generalizing s with
  | nil => rfl
  | cons p ps ih =>
    unfold State.allocFall
    have h := s.allocFrom_pair d p x
    cases hs : s.allocFrom d p x with
    | mk t o =>
      rw [hs] at h
      cases o with
      | some i => exact h
      | none =>
        dsimp only
        split
        · exact h
        · rw [ih]
          exact (State.poolTick_pair _ _ _ _ _).trans h

@[simp] theorem State.allocMsg_pair (s : State) (d : Fab) (x n : Nat) (fall : Bool) : (s.allocMsg d x n fall).1.pair = s.pair := by
  unfold State.allocMsg
  split
  · rfl
  · exact State.allocFall_pair _ _ _ _

/-! ### The core that leads -/

/-- The active core and its state. -/
def State.lead (s : State) : Fab × CoreMode := (s.pair.active, (s.core s.pair.active).mode)

theorem State.lead_of_pair {s t : State} (h : t.pair = s.pair) : t.lead = s.lead := by
  unfold State.lead State.core
  rw [h]

theorem State.modCore_lead (s : State) (c : Fab) (f : CoreSt → CoreSt) (h : c = s.pair.active.other) : (s.modCore c f).lead = s.lead := by
  subst h
  unfold State.lead State.core State.modCore State.modPair PairSt.modCore
  dsimp only
  cases s.pair.active <;> rfl

theorem State.modCore_lead_mode (s : State) (c : Fab) (f : CoreSt → CoreSt) (h : ∀ k, (f k).mode = k.mode) : (s.modCore c f).lead = s.lead := by
  have hact : (s.modCore c f).pair.active = s.pair.active := by cases c <;> rfl
  unfold State.lead
  rw [hact]
  refine congrArg (Prod.mk _) ?_
  cases c <;> cases s.pair.active <;> first | exact h _ | rfl

theorem State.coreTick_lead (s : State) (c : Fab) (get : CoreSt → Nat) (set : CoreSt → Nat → CoreSt) (h : ∀ k n, (set k n).mode = k.mode) :
    (s.coreTick c get set).lead = s.lead :=
  (State.lead_of_pair (State.satRaise_raiseDie_pair _ _ _ _ _)).trans (State.modCore_lead_mode _ _ _ fun _ => h _ _)

theorem State.becomeStale_lead (s : State) : s.becomeStale.lead = s.lead := by
  unfold State.becomeStale
  dsimp only
  split
  · rw [State.lead_of_pair (State.logFault_pair _ _ _ _), State.lead_of_pair (State.raiseDev_pair _ _)]
    have ht := s.coreTick_lead s.standby CoreSt.liningStales (fun k n => { k with liningStales := n }) fun _ _ => rfl
    have hact : (s.coreTick s.standby CoreSt.liningStales fun k n => { k with liningStales := n }).pair.active = s.pair.active :=
      congrArg Prod.fst ht
    refine .trans (State.modCore_lead _ s.standby (fun k => { k with mode := .stale }) ?_ :) ht
    rw [hact]
    rfl
  · rfl

theorem State.journal_lead (s : State) (kind : Nat) (payload : List Word) : (s.journal kind payload).lead = s.lead := by
  unfold State.journal
  dsimp only
  split
  · have h := s.allocMsg_pair s.pair.active 0x46 ((payload.take 255).length + 1) true
    cases ha : s.allocMsg s.pair.active 0x46 ((payload.take 255).length + 1) true with
    | mk t o =>
      rw [ha] at h
      have ht : t.lead = s.lead := State.lead_of_pair h
      cases o with
      | none => exact (State.becomeStale_lead t).trans ht
      | some b =>
        dsimp only
        generalize hs3 : State.modCore _ _ _ = s3
        have h3 : s3.lead = s.lead := by
          rw [← hs3, ← ht]
          refine Eq.trans (State.modCore_lead_mode _ _ _ ?_) ?_
          · intro k
            rfl
          · rfl
        split
        · exact (State.becomeStale_lead s3).trans h3
        · exact h3
  · rfl

theorem State.startCatchUp_lead (s : State) : s.startCatchUp.lead = s.lead := by
  have hfold (l : List Nat) (u : State) : (l.foldl (fun s k => s.journal k (s.mirror k)) u).lead = u.lead := by
    induction l generalizing u with
    | nil => rfl
    | cons k l ih => rw [List.foldl_cons, ih, State.journal_lead]
  unfold State.startCatchUp State.sendSnapshot
  dsimp only
  rw [State.journal_lead, hfold, State.journal_lead]
  exact .trans rfl (s.modCore_lead s.standby _ rfl)

theorem State.openMailboxes_pair (s : State) : s.openMailboxes.pair = s.pair := State.foldl_pair _ (fun u p => u.raiseAt_pair p 0 _) _ _

theorem State.loadCore_pair (s : State) (c : Fab) (n : Nat) : (s.loadCore c n).pair = (s.modCore c fun k =>
    { k with verified := true, slot := n, sram := Tbl.puts noneAt [] 0 ((s.img.words n 9 (s.img.recAt n 8).len).map some), regs := [] }).pair := by
  cases c <;> rfl

theorem State.openMailboxes_wide (s : State) : s.openMailboxes.wide = s.wide := foldl_wide _ (fun u p => State.raiseHost_wide u p _) _ _

theorem State.startCore_lead (s : State) (c : Fab) (n : Nat) (h : c = s.pair.active.other) : (s.startCore c n).lead = s.lead := by
  unfold State.startCore
  dsimp only
  generalize hs1 : (if s.dom (coreDom c) = .on then s else s.domTo (coreDom c) .on) = s1
  have hif (b : Prop) [Decidable b] (u : State) (k : Nat) (hu : u.pair = s.pair) : (if b then s else u.arrives k).pair = s.pair := by
    split
    · rfl
    · unfold State.arrives
      split
      · exact hu
      · exact hu
  have h1 : s1.pair = s.pair := by
    rw [← hs1]
    split
    · rfl
    · cases c
      · exact hif _ _ 1 rfl
      · exact hif _ _ 2 rfl
  have h2 : (s1.modCore c CoreSt.fresh).lead = s.lead := (s1.modCore_lead c _ (by rw [h, h1])).trans (State.lead_of_pair h1)
  generalize hs2 : s1.modCore c CoreSt.fresh = s2 at *
  have hc : c = s2.pair.active.other := by
    rw [h]
    exact congrArg Fab.other (congrArg Prod.fst h2 : s2.pair.active = s.pair.active).symm
  exact (State.lead_of_pair (s2.loadCore_pair c n)).trans ((s2.modCore_lead c _ hc).trans h2)

theorem State.wakeFails_lead (s : State) (c : Fab) (h : c = s.pair.active.other) : (s.wakeFails c).lead = s.lead :=
  (State.lead_of_pair (State.logFault_pair _ _ _ _)).trans (s.modCore_lead c _ h)

/-! ### What a reset of the device keeps -/

theorem State.logFault_keeps (s : State) (code die x : Nat) :
    (s.logFault code die x).locks = s.locks ∧ (s.logFault code die x).tab = s.tab ∧ (s.logFault code die x).zon = s.zon ∧
      (s.logFault code die x).img = s.img := by
  have h := State.logFault_wide s code die x
  exact ⟨State.locks_of_wide h, State.tab_of_wide h, State.zon_of_wide h, State.img_of_wide h⟩

theorem State.deviceReset_slices (s : State) (code : Nat) :
    (s.deviceReset code).locks = {} ∧ (s.deviceReset code).tab = {} ∧ (s.deviceReset code).zon = {} ∧
      (s.deviceReset code).img = s.img.kept := by
  have himg : s.runOff.img = s.img := (congrArg (·.2.1) s.runOff_hardly :)
  unfold State.deviceReset
  dsimp only
  generalize ht : ({ pending := _, out := _, free := _, sys := _, pair := _, tim := _, pow := _, key := _, img := _, stk := _,
                     ports := _ } : State) = t
  obtain ⟨hl, hb, hz, hi⟩ := t.logFault_keeps 0x20 7 (code * 2 ^ 32)
  rw [hl, hb, hz, hi, ← ht, ← himg]
  exact ⟨rfl, rfl, rfl, rfl⟩

theorem State.wakeRecord_sys (s : State) (r : WakeRec) : (s.wakeRecord r).sys = s.sys := by
  unfold State.wakeRecord
  rw [State.raiseDev_sys]
  rfl

theorem State.halt_wide (s : State) (m : StartMode) : (s.halt m).wide = s.wide := by
  unfold State.halt
  rw [State.logFault_wide]
  rfl

/-! ### O36 -/

/-- A power-good that does not come halts start-up or fails its domain (16 R459). -/
theorem losses_powerGood (r : SeqRun) (x : SeqStep) (s : State) (hr : s.pow.run = some r) (hx : (s.pow.steps r.seq)[r.step]? = some x)
    (hw : r.waiting = false) (hd : 2 ≤ x.domain) :
    (s.sys.start = .sequence → x.domain = 2 → runs .seqPgTimeout s fun t => t.sys.start = .haltPower ∧ t.sys.faultN = true ∧
      t.pow.run = none) ∧
    (s.sys.start ≠ .sequence → s.sys.reload = none → domDie x.domain = 0 →
      runs .seqPgTimeout s fun t => t.pow.run = none ∧ t.dom x.domain = .failed ∧ t.sys.start = s.sys.start) := by
  have hgo : ¬ (r.waiting = true ∨ x.domain ≤ 1) := by
    rintro (h | h)
    · exact Bool.false_ne_true (hw.symm.trans h)
    · omega
  have hplan := State.sys_of_hardly (State.domTo_hardly (s.advTick (r.since + ticksUs (10 * x.pgTimeout))) x.domain .failed)
  have hdom := (s.advTick (r.since + ticksUs (10 * x.pgTimeout))).dom_domTo x.domain x.domain .failed
  rw [if_pos ⟨rfl, by omega⟩] at hdom
  refine ⟨fun hst h2 => ⟨_, rfl, ?_⟩, fun hst hrel hdie => ⟨_, rfl, ?_⟩⟩
  · rw [hr]
    dsimp only
    rw [hx]
    dsimp only
    rw [if_neg hgo, if_pos hst, if_pos (.inl h2)]
    generalize hu : State.modPow _ _ = u
    have hrun : u.pow.run = none := by
      rw [← hu]
      rfl
    obtain ⟨h1, h2⟩ := (u.logFault 0x10 (domDie x.domain) x.domain).halt_sys .haltPower
    refine ⟨h1, h2, ?_⟩
    have hp : ((u.logFault 0x10 (domDie x.domain) x.domain).halt .haltPower).pow = u.pow :=
      (State.pow_of_wide (State.halt_wide _ _)).trans (State.pow_of_wide (State.logFault_wide u _ _ _))
    rw [hp, hrun]
  · rw [hr]
    dsimp only
    rw [hx]
    dsimp only
    rw [if_neg hgo, if_neg hst]
    generalize (s.advTick (r.since + ticksUs (10 * x.pgTimeout))).domTo x.domain .failed = v at *
    have hv : v.sys.reload = none := (congrArg SysSt.reload hplan :).trans hrel
    have hs : v.sys.start = s.sys.start := (congrArg SysSt.start hplan :)
    rw [State.modPow_sys, hv]
    dsimp only
    rw [if_pos hdie]
    have hp : ((v.modPow fun p => { p with run := none }).logFault 0x10 (domDie x.domain) x.domain).pow = { v.pow with run := none } :=
      State.pow_of_wide (State.logFault_wide _ _ _ _)
    obtain ⟨l, n, hl⟩ := (v.modPow fun p => { p with run := none }).logFault_sys 0x10 (domDie x.domain) x.domain
    refine ⟨congrArg PowerSt.run hp, ?_, ?_⟩
    · rw [← hdom]
      unfold State.dom
      rw [hp]
    · rw [hl]
      exact hs

/-- A die that forwards again ends its reload, where no other reload waits (18 R523). -/
theorem losses_reload (die dt : Nat) (s : State) (hr : s.sys.reload = some (die, none)) (hb : s.reloaded die = true) (hd : s.sys.reloadDue = 0) :
    runs (.dieReloadForwarding 0 dt) s fun t => t.sys.reload = none := by
  refine ⟨_, rfl, ?_⟩
  rw [hr]
  dsimp only
  rw [if_pos hb, if_neg (fun h => h.1 rfl)]
  have hfill : (((s.adv dt).fillDie die).dieUp die).plan = s.plan := by
    rw [State.dieUp_plan, State.plan_of_trunk (State.fillDie_trunk _ _)]
    rfl
  generalize ((s.adv dt).fillDie die).dieUp die = u at *
  generalize hv : State.modSys _ _ = v
  have hplan : v.plan = { s.plan with reload := none } := by
    rw [← hv]
    cases fabDie die with
    | none => exact congrArg (fun y : SysSt => { y with reload := none }) hfill
    | some d => exact congrArg (fun y : SysSt => { y with reload := none }) ((State.reloadCore_plan u d).trans hfill)
  obtain ⟨p, hp⟩ := v.gwPortFit_plan
  rw [hplan] at hp
  rw [State.nextReload_none ((congrArg SysSt.reloadDue hp).trans hd)]
  exact (congrArg SysSt.reload hp :)

/-- The cores rebuilt with `a` leading; `ok` says whether the other can join. -/
def State.rebuilt (s0 : State) (a : Fab) (ok : Bool) : State :=
  let s1 := (s0.dropLining.startCore a s0.img.runSlot).modCore a fun k => { k with mode := .active }
  let s2 := s1.modPair fun p => { p with active := a, mode := .single, promoting := none, held := false, owned := false, mustCatchUp := false }
  let s3 := if ok then s2.startCore a.other s2.img.runSlot else if s2.has a.other.num then s2.wakeFails a.other else s2
  let s5 := (s3.modPow fun p => { p with rebuild := false }).openMailboxes
  if (s5.core a.other).mode = .cold then s5.startCatchUp else s5

theorem execCoreWakeRebuild_eq (dt : Nat) (s : State) (hb : s.pow.rebuild = true) (hm : s.pow.mode = .awake)
    (hh : s.has s.pair.active.num = true) :
    execCoreWakeRebuild true true dt s = .next ((s.adv dt).rebuilt s.pair.active (s.has s.pair.active.other.num)) := by
  unfold execCoreWakeRebuild State.rebuilt
  generalize s.pair.active = a at *
  cases a
  all_goals
    simp only [hb, hm, hh, Bool.and_self, ↓reduceIte, and_self, Fab.other, Bool.true_and]
    rfl

theorem State.rebuilt_lead (s : State) (a : Fab) (ok : Bool) : (s.rebuilt a ok).pow.rebuild = false ∧ (s.rebuilt a ok).lead = (a, .active) := by
  unfold State.rebuilt
  dsimp only
  generalize hs2 : State.modPair _ _ = s2
  have h2 : s2.lead = (a, .active) := by
    rw [← hs2]
    unfold State.lead
    refine congrArg (Prod.mk _) ?_
    cases a <;> rfl
  have hc : a.other = s2.pair.active.other := congrArg Fab.other (congrArg Prod.fst h2).symm
  generalize hs3 : (if ok = true then s2.startCore a.other s2.img.runSlot else if s2.has a.other.num = true then s2.wakeFails a.other else s2) = s3
  have h3 : s3.lead = (a, .active) := by
    rw [← hs3, ← h2]
    split
    · exact s2.startCore_lead _ _ hc
    · split
      · exact s2.wakeFails_lead _ hc
      · rfl
  generalize hs5 : State.openMailboxes _ = s5
  have h5 : s5.lead = (a, .active) := by
    rw [← hs5, State.lead_of_pair (State.openMailboxes_pair _), ← h3]
    rfl
  have hp5 : s5.pow.rebuild = false := by
    rw [← hs5, State.pow_of_wide (State.openMailboxes_wide _)]
    rfl
  split
  · rw [State.pow_of_wide (State.startCatchUp_wide s5), s5.startCatchUp_lead]
    exact ⟨hp5, h5⟩
  · exact ⟨hp5, h5⟩

/-- The cores are rebuilt after a wake: the core that was active is active again (16 R478). -/
theorem losses_rebuild (dt : Nat) (s : State) (hb : s.pow.rebuild = true) (hm : s.pow.mode = .awake) (hh : s.has s.pair.active.num = true) :
    runs (.coreWakeRebuild true true dt) s fun t => t.pow.rebuild = false ∧ t.pair.active = s.pair.active ∧
      (t.core s.pair.active).mode = .active := by
  obtain ⟨hp, hl⟩ := (s.adv dt).rebuilt_lead s.pair.active (s.has s.pair.active.other.num)
  have hact := congrArg Prod.fst hl
  refine ⟨_, execCoreWakeRebuild_eq dt s hb hm hh, hp, hact, ?_⟩
  have hmode := congrArg Prod.snd hl
  unfold State.lead at hact hmode
  dsimp only at hact hmode
  rwa [hact] at hmode

/-- Settles O36: a reset and a loss of the supply give the reset values, a loss takes what it names, a reload and a rebuild end. -/
theorem lossesResetsAndReloads : Obligations.LossesResetsAndReloads := by
  refine ⟨?reset, ?restored, ?link, losses_powerGood, ?lost, losses_reload, losses_rebuild⟩
  case reset =>
    intro dt s hao
    refine ⟨⟨_, congrArg Host.Outcome.next (if_pos hao), ?_⟩, fun hc => ⟨_, congrArg Host.Outcome.next (if_pos hao), ?_⟩⟩
    · obtain ⟨h1, h2, -⟩ := (s.adv dt).deviceReset_sys 1
      obtain ⟨hl, hb, hz, hi⟩ := (s.adv dt).deviceReset_slices 1
      rw [hi]
      exact ⟨h1, h2, hl, hb, hz, rfl, rfl, rfl⟩
    · have hc' : (s.adv dt).key.cpd = true := hc
      dsimp only
      rw [if_pos hc']
      exact ⟨rfl, rfl, rfl, rfl, rfl, rfl⟩
  case restored =>
    intro volts dt s hd hv
    refine ⟨_, congrArg Host.Outcome.next (if_pos ⟨hd, hv⟩), ?_⟩
    dsimp only
    generalize (s.adv dt).supplyTo .normal volts = u
    obtain ⟨h1, h2, -⟩ := u.deviceReset_sys 3
    obtain ⟨hl, -⟩ := u.deviceReset_slices 3
    rw [State.wakeRecord_sys, State.locks_of_fixed (State.wakeRecord_fixed _ _)]
    exact ⟨h1, h2, hl⟩
  case link =>
    intro d s hao hl
    refine ⟨_, congrArg Host.Outcome.next (if_pos hao), ?_⟩
    have hcut : s.cuffLinkLost d =
        ((s.modSys fun y => { y with links := setMask y.links (2 + d.bit) false }).logFault 0x02 d.num d.bit).gwPortFit := if_pos hl
    dsimp only
    rw [hcut, State.gwPortFit_links]
    obtain ⟨l, n, hs⟩ := (s.modSys fun y => { y with links := setMask y.links (2 + d.bit) false }).logFault_sys 0x02 d.num d.bit
    rw [hs]
    exact (inMask_setMask _ _ _ _).trans (if_pos rfl)
  case lost =>
    intro die dt s h1 h5 hh hao hc
    refine ⟨_, congrArg Host.Outcome.next (if_pos ⟨h1, h5, hh, hao⟩), ?_⟩
    have hst : (s.adv dt).sys.start = s.sys.start := rfl
    unfold State.loseDie
    dsimp only
    rw [hst, if_neg hc, ite_not]

end Sys2Proof.Machine
end

section
/-! PROOFS. Front ports and their links. -/

namespace Sys2Proof.Machine

/-! ### A port that trains and a port that comes up -/

theorem State.train_eq (s : State) {p : Nat} (h : kindOfPort p ≠ .multidrop) (count : Bool) : s.train p count = s.portTo p .training count :=
  if_neg fun k => h k.1

theorem State.linkDown_of_wide {s t : State} (h : t.wide = s.wide) : t.tab.linkDown = s.tab.linkDown := by rw [State.tab_of_wide h]

theorem State.inMask_linkDown_portTo (s : State) {p : Nat} (h : kindOfPort p ≠ .multidrop) (m : LinkMode) (count : Bool) :
    inMask (s.portTo p m count).tab.linkDown p = true := by
  have hset (u : State) : inMask (u.setDownBit p true).tab.linkDown p = true := by
    unfold State.setDownBit
    rw [if_neg h]
    exact (inMask_setMask _ _ _ _).trans (if_pos rfl)
  have htick (u : State) (get : PortSt → Nat) (set : PortSt → Nat → PortSt) : (u.portTick p get set).tab.linkDown = u.tab.linkDown := by
    unfold State.portTick
    dsimp only
    rw [State.linkDown_of_wide (State.satRaise_raiseDie_wide _ _ _ _ _)]
    rfl
  unfold State.portTo
  dsimp only
  split
  · rw [htick]
    exact hset _
  · exact hset _

/-- The fields of a port that its PLCA settings are no part of stay when it takes them. -/
theorem PortSt.takePlca_eq (c : PortSt) : ∃ a b, c.takePlca = { c with plca := a, plcaNext := b } := by
  unfold PortSt.takePlca
  split
  · exact ⟨_, _, rfl⟩
  · exact ⟨c.plca, c.plcaNext, rfl⟩

/-- A port that comes up: its state, the instant, and everything else but beacons and PLCA settings as before. -/
theorem State.portUp_eq (s : State) (p : Nat) :
    ∃ a b c, (s.portUp p).port p = { s.port p with mode := .up, upAt := s.monoNs, beacons := a, plca := b, plcaNext := c } := by
  obtain ⟨a, b, h⟩ := PortSt.takePlca_eq
    { s.port p with mode := .up, upAt := s.monoNs, beacons := decide (kindOfPort p = PortKind.multidrop) }
  exact ⟨_, a, b, by rw [State.port_portUp, if_pos rfl, h]⟩

theorem State.linkLost_eq (s : State) {p : Nat} (hk : kindOfPort p ≠ .multidrop) (hm : (s.port p).mode = .up) :
    s.linkLost p = (s.portTo p .training true).logFault 0x03 (dieOfPort p).num p := by
  unfold State.linkLost
  rw [if_pos hm, State.train_eq s hk]

theorem State.port_linkLost (s : State) {p : Nat} (hk : kindOfPort p ≠ .multidrop) (hm : (s.port p).mode = .up) :
    (s.linkLost p).port p = { (s.port p).moved .training with linkDowns := sat36 (s.port p).linkDowns 1 } := by
  rw [State.linkLost_eq s hk hm, State.port_of_wide (State.logFault_wide _ _ _ _), State.port_portTo, if_pos rfl, if_pos (by rw [hm]; rfl)]

/-! ### The output of a multidrop port -/

theorem State.tx_modTx (s : State) (d : Fab) (o : Nat) (f : TxSt → TxSt) : (s.modTx d o f).tx d o = f (s.tx d o) := by
  unfold State.tx State.modTx State.modEd
  rw [State.fab_modFab]
  exact Tbl.get_upd_self TxSt.dflt (s.fab d).egr.tx o f

theorem State.tx_modFrame (s : State) (d e : Fab) (fid o : Nat) (f : FrameSt → FrameSt) : (s.modFrame d fid f).tx e o = s.tx e o := by
  cases d <;> cases e <;> rfl

/-- A frame that waits for the transmit opportunity begins in it (09 R258). -/
theorem State.plcaStart_tx (s : State) (d : Fab) (o : Nat) {k : Nat × Nat} (hc : (s.tx d o).cur = some k) (hw : (s.tx d o).waitPlca = true) :
    ((s.plcaStart d o).tx d o).waitPlca = false ∧ ((s.plcaStart d o).tx d o).beginQ = s.nowQ ∧ (s.plcaStart d o).ports = s.ports := by
  unfold State.plcaStart
  dsimp only
  rw [hc]
  dsimp only
  rw [if_pos hw, State.tx_modFrame, State.tx_modTx]
  exact ⟨rfl, rfl, by cases d <;> rfl⟩

/-! ### O37 -/

/-- The links of a USXGMII port: the word of auto-negotiation brings it up with its rate and takes it down (09 R245). -/
theorem ports_usxgmii (p rate : Nat) (s : State) (hp : p = 2 ∨ p = 15) (hu : (s.port p).usx = true) (h2 : 2 ≤ rate) (h5 : rate ≤ 5) :
    ((s.port p).mode = .training → runs (.usxgmiiAnWord p true rate) s fun t => (t.port p).mode = .up ∧ (t.port p).usxRate = rate) ∧
    ((s.port p).mode = .up → runs (.usxgmiiAnWord p false rate) s fun t => (t.port p).mode = .training) := by
  have hk : kindOfPort p ≠ .multidrop := by
    rcases hp with rfl | rfl <;> decide
  refine ⟨fun hm => ⟨_, congrArg Host.Outcome.next (if_pos ⟨hp, hu, h2, h5⟩), ?_⟩, fun hm =>
    ⟨_, congrArg Host.Outcome.next (if_pos ⟨hp, hu, h2, h5⟩), ?_⟩⟩
  · have hup : (s.port p).mode ≠ .up := by
      rw [hm]
      decide
    dsimp only
    rw [if_neg (by decide), if_neg (fun h => hup h.1)]
    generalize hs1 : State.modPort _ p _ = s1
    have h1 : s1.port p = { s.port p with usxRate := rate } := by rw [← hs1, if_neg hup, State.port_modPort, if_pos rfl]
    rw [if_pos (by rw [h1]; exact hm)]
    obtain ⟨a, b, c, h⟩ := s1.portUp_eq p
    rw [h, h1]
    exact ⟨rfl, rfl⟩
  · dsimp only
    rw [if_pos (by decide), if_pos hm, State.port_linkLost s hk hm]
    rfl

/-- The beacons of a multidrop segment (09 R255, R256, R258). -/
theorem ports_beacons (p : Nat) (s : State) (hp : p ≤ 25) (hk : kindOfPort p = .multidrop) :
    ((s.port p).mode = .up → (s.port p).coordinator = false →
      runs (.beaconLossTimeout p) s (fun t => (t.port p).mode = .training ∧ (t.port p).beacons = false ∧
        (t.port p).beaconLoss = satN 18 (s.port p).beaconLoss 1) ∧
      runs (.beaconRx p) s fun t => (t.port p).beacons = true) ∧
    ((s.port p).mode = .training → (s.port p).coordinator = false → runs (.beaconRx p) s fun t => (t.port p).mode = .up) ∧
    ((s.port p).mode = .up → (s.port p).coordinator = true →
      runs (.beaconRx p) s (fun t => (t.port p).plcaConflicts = satN 18 (s.port p).plcaConflicts 1) ∧
      runs (.plcaBeaconTx p) s fun t => (t.port p).beacons = true ∧ (t.port p).burstLeft = 0) := by
  refine ⟨fun hm hc => ⟨⟨_, congrArg Host.Outcome.next (if_pos ⟨hp, hk, hm, hc⟩), ?_⟩,
    ⟨_, congrArg Host.Outcome.next (if_pos ⟨hp, hk, .inl hm⟩), ?_⟩⟩, fun hm hc =>
    ⟨_, congrArg Host.Outcome.next (if_pos ⟨hp, hk, .inr hm⟩), ?_⟩, fun hm hc =>
    ⟨⟨_, congrArg Host.Outcome.next (if_pos ⟨hp, hk, .inl hm⟩), ?_⟩, ⟨_, congrArg Host.Outcome.next (if_pos ⟨hp, hk, hm, hc⟩), ?_⟩⟩⟩
  · dsimp only
    rw [State.port_modPort, if_pos rfl, State.port_portTo, if_pos rfl, if_neg (by simp)]
    exact ⟨PortSt.mode_takePlca _, rfl, rfl⟩
  · rw [hc, if_neg (by decide), if_neg (by rw [hm]; decide)]
    dsimp only
    rw [State.port_modPort, if_pos rfl]
  · rw [hc, if_neg (by decide), if_pos hm]
    obtain ⟨a, b, c, h⟩ := s.portUp_eq p
    rw [h]
  · rw [if_pos hc]
    dsimp only
    rw [State.port_of_wide (State.raiseDie_wide _ _ _), State.port_modPort, if_pos rfl]
  · dsimp only
    rw [State.port_modPort, if_pos rfl]
    exact ⟨rfl, rfl⟩

/-- A transmit opportunity: the burst it opens, a collision counted, and the frame that waits begun (09 R258). -/
theorem ports_opportunity (p dt : Nat) (k : Nat × Nat) (collision : Bool) (s : State) (hp : p ≤ 25) (hk : kindOfPort p = .multidrop)
    (hm : (s.port p).mode = .up) (hc : (s.tx (dieOfPort p) (localOf p)).cur = some k) (hw : (s.tx (dieOfPort p) (localOf p)).waitPlca = true) :
    runs (.plcaTxOpportunity p false collision dt) s fun t => (t.port p).burstLeft = (s.port p).plca.maxBurst ∧
      (t.port p).plcaConflicts = (if collision then satN 18 (s.port p).plcaConflicts 1 else (s.port p).plcaConflicts) ∧
      (t.tx (dieOfPort p) (localOf p)).waitPlca = false ∧ (t.tx (dieOfPort p) (localOf p)).beginQ = (s.adv dt).nowQ := by
  refine ⟨_, congrArg Host.Outcome.next (if_pos ⟨hp, hk, hm⟩), ?_⟩
  dsimp only
  generalize hs2 : (if collision = true then (s.adv dt).modPort p _ else s.adv dt) = s2
  have htx : s2.tx (dieOfPort p) (localOf p) = s.tx (dieOfPort p) (localOf p) := by
    rw [← hs2]
    split
    all_goals cases dieOfPort p <;> rfl
  have hnow : s2.nowQ = (s.adv dt).nowQ := by
    rw [← hs2]
    split <;> rfl
  have hport : s2.port p = { s.port p with
      plcaConflicts := if collision then satN 18 (s.port p).plcaConflicts 1 else (s.port p).plcaConflicts } := by
    rw [← hs2]
    split
    · rw [State.port_modPort, if_pos rfl]
      rfl
    · rfl
  rw [htx, hc]
  dsimp only
  rw [hw, if_neg (by decide), if_pos (by decide)]
  generalize hs3 : s2.modPort p _ = s3
  have htx3 : s3.tx (dieOfPort p) (localOf p) = s.tx (dieOfPort p) (localOf p) := by
    rw [← hs3, ← htx]
    cases dieOfPort p <;> rfl
  have hport3 : s3.port p = { s2.port p with burstLeft := (s2.port p).plca.maxBurst } := by rw [← hs3, State.port_modPort, if_pos rfl]
  have hnow3 : s3.nowQ = (s.adv dt).nowQ := by
    rw [← hnow, ← hs3]
    rfl
  obtain ⟨h1, h2, h3⟩ := s3.plcaStart_tx (dieOfPort p) (localOf p) (htx3 ▸ hc) (htx3 ▸ hw)
  rw [h1, h2, hnow3, State.port_of_ports h3, hport3, hport]
  exact ⟨rfl, rfl, rfl, rfl⟩

/-- The end of a cable test: the token is given back and the port trains (09 R249). -/
theorem ports_cableTest (p result distance : Nat) (q : Path) (s : State) (hp : p ≤ 25) (hk : kindOfPort p ≠ .multidrop)
    (ht : (s.port p).tester = some q) (hm : (s.port p).mode = .diag) (hr : result ≤ 4) :
    runs (.cableTestDone p result distance) s fun t => (t.port p).tester = none ∧ (t.port p).mode = .training ∧
      (t.port p).retainValid = false := by
  refine ⟨_, congrArg Host.Outcome.next (if_pos hp), ?_⟩
  dsimp only
  rw [ht]
  dsimp only
  generalize hs1 : State.dropToken _ 3 p = s1
  have h1 : s1.port p = { s.port p with tester := none } := by
    rw [← hs1]
    refine .trans ?_ ((State.port_modPort s p p fun c => { c with tester := none }).trans (if_pos rfl))
    unfold State.dropToken
    dsimp only
    split
    · rw [State.port_of_wide (State.raiseDev_wide _ _)]
      rfl
    · rfl
  rw [if_pos ⟨by rw [h1]; exact hm, hr⟩, State.port_of_wide (State.finish_wide _ _ _ _ _), State.train_eq _ hk, State.port_portTo, if_pos rfl,
    if_neg (by simp), State.port_modPort, if_pos rfl, h1]
  exact ⟨rfl, rfl, rfl⟩

/-- Settles O37: each event of a link meets its port's state, and changes that port as its equation says. -/
theorem frontPortsFollowTheirLinks : Obligations.FrontPortsFollowTheirLinks := by
  refine ⟨?down, ?lock, ?timers, ports_usxgmii, ?lpi, ports_beacons, ports_opportunity, ?sqi, ports_cableTest, ?sak, ?hello⟩
  case down =>
    intro p s hp hm hk
    refine ⟨_, congrArg Host.Outcome.next (if_pos ⟨hp, hk⟩), ?_⟩
    dsimp only
    rw [State.port_linkLost s hk hm, State.linkLost_eq s hk hm, State.linkDown_of_wide (State.logFault_wide _ _ _ _)]
    exact ⟨rfl, rfl, State.inMask_linkDown_portTo s hk _ _⟩
  case lock =>
    intro p dt s hp hk hpu hu
    refine ⟨fun hm => ⟨_, congrArg Host.Outcome.next (if_pos ⟨hp, hk, hpu, hu⟩), ?_⟩, fun hm =>
      ⟨_, congrArg Host.Outcome.next (if_pos ⟨hp, hk, hpu, hu⟩), ?_⟩⟩
    · rw [hm]
      obtain ⟨a, b, c, h⟩ := (s.adv dt).portUp_eq p
      dsimp only
      rw [h]
      exact ⟨rfl, rfl⟩
    · rw [hm]
      dsimp only
      generalize hs1 : State.portTick _ p _ _ = s1
      have h1 : s1.port p = { s.port p with resumeOks := sat36 (s.port p).resumeOks 1 } := by
        rw [← hs1, State.port_portTick, if_pos rfl]
        rfl
      obtain ⟨a, b, c, h⟩ := s1.portUp_eq p
      rw [h, h1]
      exact ⟨rfl, rfl⟩
  case timers =>
    intro p s hp
    refine ⟨fun ht hm => ⟨_, congrArg Host.Outcome.next (if_pos ⟨hp, ht, hm⟩), ?_⟩, fun hm =>
      ⟨⟨_, congrArg Host.Outcome.next (if_pos ⟨hp, hm⟩), s.mode_portTo p _ _⟩,
        ⟨_, congrArg Host.Outcome.next (if_pos ⟨hp, hm⟩), s.mode_portTo p _ _⟩⟩,
      fun hm => ⟨_, congrArg Host.Outcome.next (if_pos ⟨hp, hm⟩), ?_⟩, ⟨_, congrArg Host.Outcome.next (if_pos hp), ?_⟩⟩
    · dsimp only
      rw [State.port_portTick, if_pos rfl]
      exact ⟨rfl, hm⟩
    · dsimp only
      rw [State.port_modPort, if_pos rfl, State.port_portTick, if_pos rfl]
      exact ⟨rfl, rfl, rfl⟩
    · dsimp only
      rw [State.port_modPort, if_pos rfl]
  case lpi =>
    intro p dt s hp hk
    refine ⟨fun he hm hl hi hg => ⟨_, congrArg Host.Outcome.next (if_pos ⟨hp, hk, he, hm, hl, hi, hg⟩), ?_⟩, fun hl hw =>
      ⟨_, congrArg Host.Outcome.next (if_pos ⟨hp, hl, hw⟩), ?_⟩⟩
    · dsimp only
      rw [State.port_portTick, if_pos rfl, State.port_modPort, if_pos rfl]
      exact ⟨rfl, rfl⟩
    · dsimp only
      rw [State.port_modPort, if_pos rfl]
      exact ⟨rfl, rfl⟩
  case sqi =>
    intro p sqi fixed lost temp s hp ht hm
    refine ⟨_, congrArg Host.Outcome.next (if_pos ⟨hp, ht, hm⟩), ?_⟩
    dsimp only
    rw [State.port_of_wide (State.satRaise_raiseDie_wide _ _ _ _ _), State.port_modPort, if_pos rfl]
    exact ⟨rfl, rfl, rfl, rfl⟩
  case sak =>
    intro p an s hp ha he hk hpe hc hky hh
    refine ⟨_, congrArg Host.Outcome.next (if_pos ⟨hp, ha, he, hk, hpe, hc, hky, hh⟩), ?_⟩
    dsimp only
    rw [State.port_of_wide (State.mirrorOut_wide _ _), State.modSecy, State.port_modPort, if_pos rfl]
    exact ⟨rfl, rfl⟩
  case hello =>
    intro p heard s hp he hk hc hky
    obtain ⟨m, hm⟩ := Option.isSome_iff_exists.1 hk
    refine ⟨_, rfl, ?_⟩
    rw [hm]
    dsimp only
    rw [if_pos ⟨hp, he, hc, hky⟩, State.emit_out, State.port_of_ports (State.emit_ports _ _), State.port_of_wide (State.mirrorOut_wide _ _),
      State.modSecy, State.port_modPort, if_pos rfl]
    exact ⟨List.mem_append_right _ List.mem_cons_self, rfl⟩

end Sys2Proof.Machine
end

section
/-! PROOFS. Sleep and wake. -/

namespace Sys2Proof.Machine

/-! ### A message of the stack leaves the state of every link -/

/-- The state of the link of every port. -/
def State.modes (s : State) : Nat → LinkMode := fun p => (s.port p).mode

theorem State.modes_of_wide {s t : State} (h : t.wide = s.wide) : t.modes = s.modes := by
  funext p
  exact congrArg PortSt.mode (State.port_of_wide h p)

theorem State.modes_of_ports {s t : State} (h : t.ports = s.ports) : t.modes = s.modes := by
  funext p
  exact congrArg PortSt.mode (State.port_of_ports h p)

theorem State.modes_of_onFab {s t : State} (h : s.onlyIn onFab t) : t.modes = s.modes := State.modes_of_ports (congrArg Slices.ports h)

theorem State.modPort_modes (s : State) (p : Nat) (f : PortSt → PortSt) (h : ∀ c, (f c).mode = c.mode) : (s.modPort p f).modes = s.modes := by
  funext q
  unfold State.modes
  rw [State.port_modPort]
  split
  · exact h _
  · rfl

theorem State.admitOne_modes (s : State) (d : Fab) (fid : Nat) (f : FrameSt) (c : Copy) : (s.admitOne d fid f c).1.modes = s.modes := by
  unfold State.admitOne
  split
  · exact State.modes_of_onFab (.trans frame_onFab (s.countRefuse_onlyIn d c _) (State.releaseCopy_onlyIn _ d fid c))
  · dsimp only
    generalize hs1 : (s.modFrame d fid _).modFab d _ = s1
    have h1 : s1.modes = s.modes := by
      rw [← hs1]
      exact State.modes_of_onFab (.trans frame_onFab (s.modFab_onlyIn d _) (State.modFab_onlyIn _ d _))
    generalize hs2 : (s1.heldUp d c.out _).residence d c.out f c.ct = s2
    have h2 : s2.modes = s.modes := by
      rw [← hs2, ← h1]
      exact State.modes_of_onFab (.trans frame_onFab (.of_wide frame_onFab (State.modPool_wide s1 d _)) (State.residence_onlyIn _ d _ _ _))
    have hmark (u : State) : (u.markHwm d c.out c.queue).modes = u.modes := State.modes_of_onFab (u.modFab_onlyIn d _)
    rw [hmark]
    split
    · refine Eq.trans (State.modPort_modes _ _ _ ?_) h2
      intro x
      rfl
    · exact h2

theorem State.inject_modes (s : State) (p q : Nat) (m : OwnMsg) (bytes : List Byte) : (s.inject p q m bytes).modes = s.modes := by
  unfold State.inject
  dsimp only
  split
  · rw [State.admitOne_modes]
    exact State.modes_of_onFab (s.modFab_onlyIn _ _)
  · rfl

theorem State.stackSend_modes (s : State) (msg : Nat) (primary : Bool) : (s.stackSend msg primary).modes = s.modes := by
  have h1 (u : State) (p : Nat) : (u.stackSend1 p msg primary).modes = u.modes := by
    unfold State.stackSend1
    split
    · exact State.inject_modes _ _ _ _ _
    · rfl
  unfold State.stackSend
  rw [h1, h1]

/-! ### A port that is up stays up when a wake source acts -/

theorem State.portUp_up (s : State) (p q : Nat) (h : (s.port q).mode = .up) : ((s.portUp p).port q).mode = .up := by
  by_cases e : q = p
  · subst e
    obtain ⟨a, b, c, hp⟩ := s.portUp_eq q
    rw [hp]
  · rw [State.port_portUp, if_neg e]
    exact h

theorem State.seqFrom_ports (s : State) (only : Option Nat) (k i n : Nat) : (s.seqFrom only k i n).ports = s.ports := by
  obtain ⟨r, h | ⟨-, h⟩⟩ := s.seqFrom_eq only k i n <;> rw [h] <;> rfl

theorem State.cancelPrepare_up (s : State) (q : Nat) (h : (s.port q).mode = .up) : (s.cancelPrepare.port q).mode = .up := by
  have hfold (l : List Nat) (u : State) (hu : (u.port q).mode = .up) :
      ((l.foldl (fun s p => if (s.port p).mode == .sleepWait then s.portUp p else s) u).port q).mode = .up := by
    induction l generalizing u with
    | nil => exact hu
    | cons p l ih =>
      refine ih _ ?_
      dsimp only
      split
      · exact u.portUp_up p q hu
      · exact hu
  unfold State.cancelPrepare
  dsimp only
  generalize hs2 : List.foldl _ _ (List.range 26) = s2
  have h2 : (s2.port q).mode = .up := by
    rw [← hs2]
    exact hfold _ _ h
  split
  · exact (congrFun (State.stackSend_modes _ 4 false) q).trans h2
  · exact h2

theorem State.wakeRecord_ports (s : State) (r : WakeRec) : (s.wakeRecord r).ports = s.ports := by
  unfold State.wakeRecord
  dsimp only
  rw [State.ports_of_wide (State.raiseDev_wide _ _)]
  rfl

theorem State.startWake_modes (s : State) (r : WakeRec) : (s.startWake r).modes = s.modes := by
  have hpull (u : State) : u.pullStkWake.modes = u.modes := by
    unfold State.pullStkWake
    split <;> rfl
  have hkey (u : State) (f : KeySt → KeySt) : (u.modKey f).modes = u.modes := rfl
  unfold State.startWake
  dsimp only
  generalize hs1 : ((s.modPow _).wakeRecord r).pullStkWake = s1
  have h1 : s1.modes = s.modes := by
    rw [← hs1, hpull, State.modes_of_ports (State.wakeRecord_ports _ _)]
    rfl
  rw [State.runSeq, State.modes_of_ports (State.seqFrom_ports _ _ _ _ _)]
  split
  · rw [hkey, State.modes_of_wide (State.raiseDev_wide _ _), h1]
  · exact h1

theorem State.wakeSource_up (s : State) (r : WakeRec) (q : Nat) (h : (s.port q).mode = .up) : ((s.wakeSource r).port q).mode = .up := by
  have hpull (u : State) : u.pullStkWake.port q = u.port q := by
    unfold State.pullStkWake
    split <;> rfl
  have hawake (u : State) : u.restartAwake.port q = u.port q := rfl
  have hrec (u : State) (k : WakeRec) : ((u.wakeRecord k).restartAwake).port q = u.port q := by
    rw [hawake, State.port_of_ports (State.wakeRecord_ports _ _)]
  unfold State.wakeSource
  split
  · exact h
  · split
    · rw [hpull]
      exact h
    · split
      · exact h
      · rw [hrec]
        exact s.cancelPrepare_up q h
  · dsimp only
    split
    · rw [hpull]
      exact h
    · split
      · rw [hpull]
        exact h
      · exact .trans (congrArg PortSt.mode (hpull s)) h
  · split
    · exact h
    · exact (congrFun (s.startWake_modes r) q).trans h
  · exact h

/-! ### Power, when sleep is agreed and left -/

theorem State.seqFrom_pow (s : State) (only : Option Nat) (k i n : Nat) : ∃ r, (s.seqFrom only k i n).pow = { s.pow with run := r } := by
  obtain ⟨r, h | ⟨-, h⟩⟩ := s.seqFrom_eq only k i n <;> rw [h] <;> exact ⟨r, rfl⟩

theorem State.wakeRecord_pow (s : State) (r : WakeRec) : ∃ l n, (s.wakeRecord r).pow = { s.pow with recs := l, recOmitted := n } := by
  unfold State.wakeRecord
  dsimp only
  rw [State.pow_of_wide (State.raiseDev_wide _ _)]
  exact ⟨_, _, rfl⟩

theorem State.pullStkWake_pow (s : State) : s.pullStkWake.pow = s.pow := by
  unfold State.pullStkWake
  split <;> rfl

/-- The device wakes: it counts the wake, forgets what was latched and runs its wake sequence (16 R477). -/
theorem State.startWake_pow (s : State) (r : WakeRec) :
    ∃ l n k, (s.startWake r).pow =
      { s.pow with mode := .waking, wakes := sat36 s.pow.wakes 1, latch := none, recs := l, recOmitted := n, run := k } := by
  unfold State.startWake
  dsimp only
  generalize hs1 : ((s.modPow _).wakeRecord r).pullStkWake = s1
  have h1 : ∃ l n, s1.pow = { s.pow with mode := .waking, wakes := sat36 s.pow.wakes 1, latch := none, recs := l, recOmitted := n } := by
    obtain ⟨l, n, h⟩ := (s.modPow fun p => { p with mode := .waking, wakes := sat36 p.wakes 1, latch := none }).wakeRecord_pow r
    exact ⟨l, n, by rw [← hs1, State.pullStkWake_pow, h]; rfl⟩
  obtain ⟨l, n, h1⟩ := h1
  generalize hs2 : (if s1.key.tamperDue = true then _ else s1) = s2
  have h2 : s2.pow = s1.pow := by
    rw [← hs2]
    split
    · rw [State.modKey_pow, State.pow_of_wide (State.raiseDev_wide _ _)]
    · rfl
  obtain ⟨k, hk⟩ := s2.seqFrom_pow none 1 0 33
  exact ⟨l, n, k, by rw [State.runSeq, hk, h2, h1]⟩

/-- A preparation that is cancelled leaves the device awake, its timer restarted, and counts it (16 R474). -/
theorem State.cancelPrepare_pow (s : State) :
    s.cancelPrepare.pow = { s.pow with mode := .awake, cancels := sat36 s.pow.cancels 1, timerAt := s.tim.ticks } := by
  have hfold (l : List Nat) (u : State) : (l.foldl (fun s p => if (s.port p).mode == .sleepWait then s.portUp p else s) u).pow = u.pow := by
    induction l generalizing u with
    | nil => rfl
    | cons p l ih =>
      rw [List.foldl_cons, ih]
      split
      · exact State.pow_of_far (State.portUp_far _ _)
      · rfl
  unfold State.cancelPrepare
  dsimp only
  generalize hs1 : (s.modPow _).restartTimer = s1
  have h1 : s1.pow = { s.pow with mode := .awake, cancels := sat36 s.pow.cancels 1, timerAt := s.tim.ticks } := by
    rw [← hs1]
    rfl
  generalize hs2 : List.foldl _ s1 (List.range 26) = s2
  have h2 : s2.pow = s1.pow := by
    rw [← hs2]
    exact hfold _ _
  split
  · rw [State.pow_of_far (State.stackSend_far _ _ _)]
    exact h2.trans h1
  · exact h2.trans h1

/-- A wake source that acts while sleep is prepared cancels it (16 R474). -/
theorem State.wakeSource_prepare (s : State) (r : WakeRec) (hm : s.pow.mode = .prepare) (hf : s.follows = false) :
    (s.wakeSource r).pow.mode = .awake ∧ (s.wakeSource r).pow.cancels = sat36 s.pow.cancels 1 := by
  have he : s.wakeSource r = (s.cancelPrepare.wakeRecord { r with cancel := true }).restartAwake := by
    unfold State.wakeSource
    rw [hm]
    dsimp only
    rw [hf, if_neg (by simp), if_neg (by simp)]
  obtain ⟨l, n, h⟩ := s.cancelPrepare.wakeRecord_pow { r with cancel := true }
  have hp : (s.wakeSource r).pow = { (s.cancelPrepare.wakeRecord { r with cancel := true }).pow with
      awakeAt := (s.cancelPrepare.wakeRecord { r with cancel := true }).tim.ticks } := by
    rw [he]
    rfl
  rw [hp, h, State.cancelPrepare_pow]
  exact ⟨rfl, rfl⟩

/-- A wake source that acts while the device is asleep wakes it (16 R477). -/
theorem State.wakeSource_asleep (s : State) (r : WakeRec) (hm : s.pow.mode = .asleep) (h9 : r.kind ≠ 9) (h10 : r.kind ≠ 10) :
    (s.wakeSource r).pow.mode = .waking ∧ (s.wakeSource r).pow.wakes = sat36 s.pow.wakes 1 := by
  have he : s.wakeSource r = s.startWake r := by
    unfold State.wakeSource
    rw [hm]
    exact if_neg fun h => h.elim h9 h10
  obtain ⟨l, n, k, h⟩ := s.startWake_pow r
  rw [he, h]
  exact ⟨rfl, rfl⟩

/-- A wake source that acts after the commit point is latched (16 R475). -/
theorem State.wakeSource_committed (s : State) (r : WakeRec) (hm : s.pow.mode = .committed) (hf : s.follows = false) (hl : s.pow.latch = none)
    (h9 : r.kind ≠ 9) : (s.wakeSource r).pow = { s.pow with latch := some r } := by
  unfold State.wakeSource
  rw [hm]
  dsimp only
  rw [hf, State.pullStkWake_pow, hl, if_neg (by simp), if_neg (by simp [h9])]
  exact congrArg (fun p : PowerSt => { p with latch := some r }) s.pullStkWake_pow

theorem State.foldl_gateResume_pow (l : List Nat) (s : State) : (l.foldl State.gateResume s).pow = s.pow := by
  have hgate (u : State) (p : Nat) : (u.gateResume p).pow = u.pow := by
    have hif (b c : Prop) [Decidable b] [Decidable c] (f : GateSt → GateSt) :
        (if b then (if c then u.modGate p f else u).gateChange p else if c then u.modGate p f else u).pow = u.pow := by
      split
      · rw [State.pow_of_far (State.gateChange_far _ _)]
        split <;> rfl
      · split <;> rfl
    unfold State.gateResume
    dsimp only
    split
    · exact State.pow_of_far (State.gateStep_far _ _)
    · exact hif _ _ _
    · rfl
  induction l generalizing s with
  | nil => rfl
  | cons p l ih => rw [List.foldl_cons, ih, hgate]

/-! ### The commit point -/

theorem State.commitSleep_pow (s : State) : s.commitSleep.pow.mode = .committed ∧ s.commitSleep.pow.latch = none := by
  have hfold (l : List Nat) (u : State) : (l.foldl (fun s p =>
      let s1 := s.portSleep p
      if (s1.port p).mode = .disabled ∨ (s1.port p).mode = .sleeping then s1 else s1.portTo p .sleeping false) u).pow = u.pow := by
    induction l generalizing u with
    | nil => rfl
    | cons p l ih =>
      rw [List.foldl_cons, ih]
      dsimp only
      split
      · exact State.pow_of_far (State.portSleep_far _ _)
      · rw [State.pow_of_far (State.portTo_far _ _ _ _), State.pow_of_far (State.portSleep_far _ _)]
  unfold State.commitSleep
  dsimp only
  generalize hs1 : State.modPow _ _ = s1
  have h1 : s1.pow.mode = .committed ∧ s1.pow.latch = none := by
    rw [← hs1]
    exact ⟨rfl, rfl⟩
  generalize hs2 : List.foldl _ s1 (List.range 26) = s2
  have h2 : s2.pow = s1.pow := by
    rw [← hs2]
    exact hfold _ _
  obtain ⟨r, hr⟩ := s2.seqFrom_pow none 2 0 33
  rw [State.runSeq, hr, h2]
  exact h1

/-! ### A policy match while awake -/

/-- Awake and following nobody, with the sleep timer restarted at instant `t` where `hit` says so. -/
structure State.AwakeAt (s : State) (t : Nat) (hit : Prop) : Prop where
  mode : s.pow.mode = .awake
  follows : s.follows = false
  ticks : s.tim.ticks = t
  timer : hit → s.pow.timerAt = t

theorem State.keepAwake_wide_but_pow (s : State) (k : KeepRec) : (s.keepAwake k).tim = s.tim ∧ (s.keepAwake k).stk = s.stk := by
  unfold State.keepAwake
  dsimp only
  split
  · exact ⟨rfl, rfl⟩
  split
  · exact ⟨rfl, rfl⟩
  split
  · exact ⟨rfl, rfl⟩
  · rw [State.tim_of_wide (State.raiseDev_wide _ _), State.stk_of_wide (State.raiseDev_wide _ _)]
    exact ⟨rfl, rfl⟩

theorem State.AwakeAt.policyHit {s : State} {t : Nat} {hit : Prop} (h : s.AwakeAt t hit) (i : Nat) (w : WakeIn) :
    (s.policyHit i w).AwakeAt t True := by
  obtain ⟨hm, hf, ht, -⟩ := h
  have he : s.policyHit i w = if (Tbl.get WakePolicy.dflt s.pow.policy i).primary then s.restartTimer.restartAwake else
      s.restartTimer.keepAwake { kind := w.kind, src := w.src, index := i, ident := w.ident } := by
    unfold State.policyHit
    dsimp only
    rw [hf, if_neg Bool.false_ne_true, hm]
  rw [he]
  split
  · exact ⟨hm, hf, ht, fun _ => ht⟩
  · obtain ⟨l, n, hp⟩ := s.restartTimer.keepAwake_pow { kind := w.kind, src := w.src, index := i, ident := w.ident }
    obtain ⟨htim, hstk⟩ := s.restartTimer.keepAwake_wide_but_pow { kind := w.kind, src := w.src, index := i, ident := w.ident }
    refine ⟨by rw [hp]; exact hm, ?_, by rw [htim]; exact ht, fun _ => by rw [hp]; exact ht⟩
    unfold State.follows
    rw [hstk]
    exact hf

theorem State.AwakeAt.foldl {s : State} {t : Nat} {hit : Prop} (h : s.AwakeAt t hit) (w : WakeIn) (l : List Nat) :
    (l.foldl (fun s i => s.policyHit i w) s).AwakeAt t (hit ∨ l ≠ []) := by
  induction l generalizing s hit with
  | nil => exact ⟨h.mode, h.follows, h.ticks, fun k => h.timer (k.resolve_right fun k => k rfl)⟩
  | cons i l ih =>
    have hl := ih (h.policyHit i w)
    exact ⟨hl.mode, hl.follows, hl.ticks, fun _ => hl.timer (.inl trivial)⟩

theorem State.noteFirst_pow (s : State) (w : WakeIn) : ∃ l, (s.noteFirst w).pow = { s.pow with recs := l } := by
  have hif (b : Bool) (f : List WakeRec → List WakeRec) :
      ∃ l, (if b then s.modPow fun p => { p with recs := f p.recs } else s).pow = { s.pow with recs := l } := by
    split
    · exact ⟨_, rfl⟩
    · exact ⟨s.pow.recs, rfl⟩
  unfold State.noteFirst
  dsimp only
  cases s.pow.recs.getLast? with
  | none => exact ⟨s.pow.recs, rfl⟩
  | some r => exact hif _ fun l => l.dropLast ++ [{ r with firstValid := true, first := w.words }]

/-! ### O38 -/

/-- Ports at the agreement of sleep: a command puts them to sleep and wakes them, a partner's request is answered (09 R250, R251). -/
theorem sleep_ports (p temp : Nat) (s : State) (hp : p ≤ 25) :
    ((s.pow.mode = .prepare ∨ s.pow.mode = .committed) → (s.port p).mode = .up →
      runs (.portSleepCmd p) s fun t => (t.port p).mode = if (s.port p).tc10 then .sleepWait else .sleeping) ∧
    ((s.pow.mode = .awake ∨ s.pow.mode = .waking) → (s.port p).mode = .sleepWait →
      runs (.portWakeCmd p temp) s fun t => (t.port p).mode = .up ∧ (t.port p).phyTemp = temp) := by
  refine ⟨fun hs hm => ⟨_, congrArg Host.Outcome.next (if_pos ⟨hp, hs⟩), ?_⟩, fun hs hm =>
    ⟨_, congrArg Host.Outcome.next (if_pos ⟨hp, hs⟩), ?_⟩⟩
  · unfold State.portSleep
    dsimp only
    rw [if_pos hm]
    split
    · exact State.mode_portTo _ _ _ _
    · exact State.mode_portTo _ _ _ _
  · dsimp only
    generalize hs1 : s.modPort p _ = s1
    have h1 : s1.port p = { s.port p with phyTemp := temp } := by rw [← hs1, State.port_modPort, if_pos rfl]
    have hw : s1.portWake p temp = s1.portUp p := by
      unfold State.portWake
      dsimp only
      rw [h1]
      dsimp only
      rw [hm]
    obtain ⟨a, b, c, h⟩ := s1.portUp_eq p
    rw [hw, h, h1]
    exact ⟨rfl, rfl⟩

/-- A partner that asks for sleep is answered, and one that wakes brings a port that waits for sleep up again (09 R250). -/
theorem sleep_partner (p dt : Nat) (s : State) (hp : p ≤ 25) (hk : (kindOfPort p).t1 = true) (ht : (s.port p).tc10 = true) :
    ((s.port p).mode = .up → runs (.tc10SleepReqRx p) s fun t => t.out = s.out ++ [Output.tc10Answer p (s.pow.mode == .prepare)]) ∧
    ((s.port p).mode = .sleepWait → runs (.tc10WakeReqRx p) s (fun t => (t.port p).mode = .up) ∧
      runs (.wakePulseDetected p dt) s fun t => (t.port p).mode = .up) := by
  have hup (u : State) : ((u.portUp p).port p).mode = .up := by
    obtain ⟨a, b, c, h⟩ := u.portUp_eq p
    rw [h]
  have hmulti : kindOfPort p ≠ .multidrop := by
    intro h
    rw [h] at hk
    exact Bool.false_ne_true hk
  refine ⟨fun hm => ⟨_, congrArg Host.Outcome.next (if_pos ⟨hp, hk, ht, .inl hm⟩), rfl⟩, fun hm =>
    ⟨⟨_, congrArg Host.Outcome.next (if_pos ⟨hp, hk, ht⟩), ?_⟩,
      ⟨_, congrArg Host.Outcome.next ((if_pos hp).trans ((if_neg hmulti).trans (if_pos ⟨hk, ht⟩))), ?_⟩⟩⟩
  · rw [hm]
    exact State.wakeSource_up _ _ p (hup s)
  · rw [hm]
    exact State.wakeSource_up _ _ p (hup _)

/-- Settles O38: preparation, commit point, sleep and wake each change the power state as its equation says. -/
theorem sleepAndWakeFollowTheAgreement : Obligations.SleepAndWakeFollowTheAgreement := by
  refine ⟨sleep_ports, sleep_partner, ?policy, ?timer, ?prepared, ?seq, ?asleep, ?latch, ?woken, ?hold⟩
  case policy =>
    intro w i s hi hmatch hm hf
    refine ⟨_, rfl, ?_⟩
    have hstart : s.AwakeAt s.tim.ticks False := ⟨hm, hf, rfl, False.elim⟩
    generalize hl : (List.range 64).filter _ = l
    have hne : l ≠ [] := by
      rw [← hl]
      exact List.ne_nil_of_mem (List.mem_filter.2 ⟨List.mem_range.2 hi, hmatch⟩)
    have h := hstart.foldl w l
    obtain ⟨k, hk⟩ := (l.foldl (fun s i => s.policyHit i w) s).noteFirst_pow w
    dsimp only
    rw [hk]
    exact ⟨h.timer (.inr hne), h.mode⟩
  case timer =>
    intro s hm hf he hh
    refine ⟨_, congrArg Host.Outcome.next (if_pos ⟨hm, hf, he, hh⟩), ?_⟩
    dsimp only
    rw [State.enterPrepare_pow]
  case prepared =>
    intro kind src s hm hf
    exact ⟨⟨_, congrArg Host.Outcome.next (if_pos hm), State.wakeSource_prepare _ _ hm hf⟩,
      ⟨_, congrArg Host.Outcome.next (if_pos ⟨hm, hf⟩), State.commitSleep_pow _⟩⟩
  case seq =>
    intro s hm hr
    refine ⟨fun hl => ⟨_, congrArg Host.Outcome.next (if_pos ⟨hm, hr⟩), ?_⟩, fun hl =>
      ⟨_, congrArg Host.Outcome.next (if_pos ⟨hm, hr⟩), ?_⟩⟩
    · dsimp only
      rw [State.modPow_pow, hl]
      exact ⟨rfl, rfl, rfl⟩
    · obtain ⟨r, hr⟩ := Option.isSome_iff_exists.1 hl
      dsimp only
      rw [State.modPow_pow, hr]
      dsimp only
      generalize hs1 : State.modPow _ _ = s1
      have h1 : s1.pow.lateWakes = sat36 s.pow.lateWakes 1 := by
        rw [← hs1]
        rfl
      obtain ⟨l, n, k, h⟩ := s1.startWake_pow { r with late := true }
      rw [h]
      exact ⟨rfl, h1, rfl⟩
  case asleep =>
    intro kind src dt input s hm
    refine ⟨fun h9 h10 => ⟨_, rfl, State.wakeSource_asleep _ _ hm h9 h10⟩, fun hi hl => ⟨_, congrArg Host.Outcome.next (if_pos ⟨hi, hl⟩), ?_⟩,
      fun ht => ⟨_, congrArg Host.Outcome.next (if_pos ⟨hm, ht⟩), ?_⟩, fun hs => ⟨_, congrArg Host.Outcome.next (if_neg hs), ?_⟩⟩
    · exact (State.wakeSource_asleep (s.adv dt) { kind := 4 } hm (by decide) (by decide)).1
    · exact (State.wakeSource_asleep (s.advTick _) { kind := 6 } hm (by decide) (by decide)).1
    · exact (State.wakeSource_asleep _ { kind := 12 } hm (by decide) (by decide)).1
  case latch =>
    intro kind src dt s hm hf hl h9
    refine ⟨_, rfl, ?_⟩
    dsimp only
    rw [State.wakeSource_committed (s.adv dt) { kind := kind % 16, src := src % 32 } hm hf hl h9]
    exact ⟨rfl, hm⟩
  case woken =>
    intro s hm hr
    refine ⟨_, congrArg Host.Outcome.next (if_pos ⟨hm, hr⟩), ?_⟩
    dsimp only
    generalize hs1 : State.linCommanders _ _ = s1
    have h1 : s1.pow.mode = .awake ∧ s1.pow.rebuild = true ∧ s1.pow.stbDriven = false := by
      rw [← hs1]
      exact ⟨rfl, rfl, rfl⟩
    rw [State.foldl_gateResume_pow]
    exact h1
  case hold =>
    intro p s hs
    obtain ⟨h, hh⟩ := Option.isSome_iff_exists.1 hs
    refine ⟨_, rfl, ?_⟩
    dsimp only
    rw [hh]
    exact Tbl.get_put_self noneAt s.pow.holds (hostPaths.idxOf p) none

end Sys2Proof.Machine
end

section
/-! PROOFS. Power, pace and feeds. -/

namespace Sys2Proof.Machine

/-! ### A sample of pace, and an hour of ageing -/

theorem PaceSt.rise_measured (c : PaceSt) (now : Nat) : (c.rise now).measured = c.measured := by
  unfold PaceSt.rise
  split <;> rfl

theorem PaceSt.rise_target (c : PaceSt) (now : Nat) : (c.rise now).target = c.target := by
  unfold PaceSt.rise
  split <;> rfl

theorem PaceSt.rise_tj (c : PaceSt) (now : Nat) : (c.rise now).tj = c.tj := by
  unfold PaceSt.rise
  split <;> rfl

/-- A measurement is kept as it was taken, whatever the voltage does about it. -/
theorem PaceSt.control_sampled (c : PaceSt) (pts : List (Nat × Nat)) (pm pt now : Nat) (tj : Int) :
    (c.control pts pm pt now tj).measured = pm ∧ (c.control pts pm pt now tj).target = pt ∧ (c.control pts pm pt now tj).tj = tj := by
  unfold PaceSt.control
  simp only [apply_ite PaceSt.measured, apply_ite PaceSt.target, apply_ite PaceSt.tj, PaceSt.rise_measured, PaceSt.rise_target,
    PaceSt.rise_tj, ite_self, and_self]

/-- A shortage is noted at its die, which keeps the sample. -/
theorem State.paceShortage_sampled (s : State) (d : Fab) :
    ((s.paceShortage d).pow.pace d).measured = (s.pow.pace d).measured ∧
      ((s.paceShortage d).pow.pace d).target = (s.pow.pace d).target ∧ ((s.paceShortage d).pow.pace d).tj = (s.pow.pace d).tj := by
  cases hs : (s.pow.pace d).short with
  | true => rw [State.paceShortage_of_short hs]; exact ⟨rfl, rfl, rfl⟩
  | false => rw [(State.paceShortage_told hs).pace]; exact ⟨rfl, rfl, rfl⟩

theorem PaceSt.hour_onHours (c : PaceSt) (v : Nat) : (c.hour v).onHours = sat36 c.onHours 1 := by
  unfold PaceSt.hour
  dsimp only
  split <;> rfl

/-- The end of an hour of ageing: what is left of the life of the die is estimated, and its end reported (16 R464). -/
def State.aged (s1 : State) (d : Fab) : State :=
  let s2 := (s1.modPace d fun c => { c with remain := s1.freeBelow 4096 }).useFree
  let c2 := s2.pow.pace d
  if c2.eol then s2
  else if c2.cfg.eolMv ≤ c2.vr ∨ c2.remain < 12 then
    ((s2.modPace d fun c => { c with eol := true }).raiseDev .endOfLife).logFault 0x0F d.num 0
  else s2

theorem State.onHours_aged (s : State) (d : Fab) : ((s.aged d).pow.pace d).onHours = (s.pow.pace d).onHours := by
  unfold State.aged
  dsimp only
  generalize hs2 : State.useFree _ = s2
  have h2 : (s2.pow.pace d).onHours = (s.pow.pace d).onHours := by
    rw [← hs2]
    cases d <;> rfl
  split
  · exact h2
  · split
    · rw [State.pow_of_wide ((State.logFault_wide _ _ _ _).trans (State.raiseDev_wide _ _)), State.pace_modPace]
      exact h2
    · exact h2

theorem State.enablePort_pow (s : State) (p : Nat) : (s.enablePort p).pow = s.pow := by
  unfold State.enablePort
  split
  · exact State.pow_of_far (State.train_far _ _ _)
  · rfl

/-! ### The parts of O39 -/

theorem power_sequence (r : SeqRun) (x : SeqStep) (dt : Nat) (s : State) (hr : s.pow.run = some r)
    (hx : (s.pow.steps r.seq)[r.step]? = some x) :
    (r.waiting = false → 2 ≤ x.domain → x.waitUs ≠ 0 → runs (.seqStepPowerGood dt) s fun t =>
      t.dom x.domain = x.result ∧ ∃ k, t.pow.run = some { r with waiting := true, since := k }) ∧
    (r.waiting = true → (s.pow.steps r.seq)[r.step + 1]? = none → runs .seqWaitExpiry s fun t => t.pow.run = none) := by
  refine ⟨fun hw h2 h0 => ⟨_, rfl, ?_⟩, fun hw hn => ⟨_, rfl, ?_⟩⟩
  · dsimp only
    rw [hr]
    dsimp only
    rw [hx]
    dsimp only
    simp only [hw, Bool.false_eq_true, ↓reduceIte]
    rw [if_neg h0]
    refine ⟨?_, _, rfl⟩
    have h := (s.adv dt).dom_domTo x.domain x.domain x.result
    rw [if_pos ⟨rfl, by omega⟩] at h
    exact h
  · dsimp only
    rw [hr]
    dsimp only
    rw [hx]
    dsimp only
    rw [if_pos hw]
    unfold State.seqFrom
    change ((match (s.pow.steps r.seq)[r.step + 1]? with | none => _ | some t => _ : State)).pow.run = none
    rw [hn]
    dsimp only
    unfold State.seqDone
    dsimp only
    split <;> rfl

theorem power_samples (d : Fab) (ms : List Nat) (tj : Int) (dt : Nat) (s : State) (hd : s.has d.num = true) (hms : ms.length = 8) :
    runs (.paceSample d ms tj dt) s (fun t => (t.pow.pace d).measured = min 2047 (ms.foldl min (ms.headD 0)) ∧
      (t.pow.pace d).target = (s.adv dt).paceTarget d tj ∧ (t.pow.pace d).tj = tj) ∧
    runs (.ageingHour d) s fun t => (t.pow.pace d).onHours = sat36 (s.pow.pace d).onHours 1 := by
  refine ⟨⟨_, exec_paceSample tj dt hd hms, ?_⟩, ⟨_, congrArg Host.Outcome.next (if_pos hd), ?_⟩⟩
  · have h : ((s.measured d ms tj dt).pow.pace d).measured = min 2047 (ms.foldl min (ms.headD 0)) ∧
        ((s.measured d ms tj dt).pow.pace d).target = (s.adv dt).paceTarget d tj ∧ ((s.measured d ms tj dt).pow.pace d).tj = tj := by
      unfold State.measured
      rw [State.pace_modPace]
      exact PaceSt.control_sampled _ _ _ _ _ _
    split
    · dsimp only
      obtain ⟨hm, ht, hj⟩ := (s.measured d ms tj dt).paceShortage_sampled d
      rw [hm, ht, hj]
      exact h
    · exact h
  · change ((State.aged _ d).pow.pace d).onHours = _
    rw [State.onHours_aged]
    split
    · rw [State.pace_modPace, PaceSt.hour_onHours]
    · refine Eq.trans ?_ ((s.pow.pace d).hour_onHours (s.freeBelow 4096))
      exact congrArg PaceSt.onHours (s.pace_modPace d fun c => c.hour (s.freeBelow 4096))

theorem power_paceTimers (d : Fab) (s : State) :
    ((s.pow.pace d).belowSince.isSome = true → runs (.paceRiseTimer d) s fun t => (t.pow.pace d).vdd =
      if (s.pow.pace d).vdd < 780 then min 780 ((s.pow.pace d).vdd + (s.pow.pace d).cfg.stepMv) else (s.pow.pace d).vdd) ∧
    ((s.pow.pace d).aboveSince.isSome = true → runs (.paceFallTimer d) s fun t => (t.pow.pace d).vdd =
      if 600 < (s.pow.pace d).vdd then max 600 ((s.pow.pace d).vdd - (s.pow.pace d).cfg.stepMv) else (s.pow.pace d).vdd) ∧
    ((s.pow.pace d).belowSince.isSome = true → (s.pow.pace d).short = false → runs (.paceShortTimer d) s fun t =>
      (t.pow.pace d).short = true ∧ (t.pow.pace d).paceShort = sat36 (s.pow.pace d).paceShort 1) := by
  refine ⟨fun hb => ⟨_, congrArg Host.Outcome.next (if_pos hb), ?_⟩, fun ha => ⟨_, rfl, ?_⟩, fun hb hs => ?_⟩
  · dsimp only
    rw [State.pace_modPace]
    change ((s.pow.pace d).rise _).vdd = _
    unfold PaceSt.rise
    split <;> rfl
  · obtain ⟨k, hk⟩ := Option.isSome_iff_exists.1 ha
    dsimp only
    rw [hk]
    dsimp only
    rw [State.pace_modPace]
    rfl
  · obtain ⟨t, ht, h⟩ := runs_paceShortTimer hb hs
    exact ⟨t, ht, (congrArg PaceSt.short h.pace :), (congrArg PaceSt.paceShort h.pace :)⟩

theorem power_estimate (pout feeds : List Nat) (ampW ampE dt : Nat) (s : State) :
    runs (.powerEstimate pout ampW ampE feeds dt) s fun t => t.pow.estimate =
      min 65535 (((List.range 8).filter fun i => s.pow.cfg.pmbus i ≠ 0).foldl (fun n i => n + pout.getD i 0) 0 +
        (s.pow.west.vdd * ampW + s.pow.east.vdd * ampE) / 10000) := by
  refine ⟨_, rfl, ?_⟩
  dsimp only
  generalize hs2 : (s.adv dt).modPow _ = s2
  refine Eq.trans (List.foldlRecOn (motive := fun t : State => t.pow.estimate = s2.pow.estimate) _ _ rfl fun t ht f _ => ?_) ?_
  · split
    · exact ht
    · exact ht
  · rw [← hs2]
    rfl

theorem power_shed (p : Nat) (s : State) (ho : s.pow.overSince.isSome = true)
    (hp : ((List.range 26).reverse.find? fun p => inMask s.pow.cfg.shed p && (s.port p).enable && !inMask s.pow.shedPorts p) = some p) :
    runs .powerShedTimer s fun t => inMask t.pow.shedPorts p = true ∧ (t.port p).mode = .disabled := by
  obtain ⟨k, hk⟩ := Option.isSome_iff_exists.1 ho
  refine ⟨_, rfl, ?_⟩
  dsimp only
  rw [hk]
  dsimp only
  rw [hp]
  dsimp only
  generalize hs2 : (s.advTick _).modPow _ = s2
  have hw := ((s2.disablePort p).modPow fun q => { q with shedPorts := setMask q.shedPorts p true }).logFault_wide 0x15 (dieOfPort p).num p
  rw [State.pow_of_wide hw, State.port_of_ports (State.ports_of_wide hw)]
  refine ⟨?_, (s2.port_disablePort p).2⟩
  refine (inMask_setMask _ _ _ _).trans (if_pos rfl)

theorem power_restore (p : Nat) (s : State) (hu : s.pow.underSince.isSome = true)
    (hp : ((List.range 26).find? fun p => inMask s.pow.shedPorts p) = some p) :
    runs .powerRestoreTimer s fun t => inMask t.pow.shedPorts p = false := by
  obtain ⟨k, hk⟩ := Option.isSome_iff_exists.1 hu
  refine ⟨_, rfl, ?_⟩
  dsimp only
  rw [hk]
  dsimp only
  rw [hp]
  dsimp only
  rw [State.enablePort_pow]
  exact (inMask_setMask _ _ _ _).trans (if_pos rfl)

theorem power_feeds (f current volts dt : Nat) (s : State) (h7 : f ≤ 7) :
    (((s.feed f).mode = .inrush ∧ (s.feed f).now.inrushMa < current) ∨ ((s.feed f).mode = .on ∧ (s.feed f).now.limitMa < current) →
      runs (.feedOvercurrentTrip f current dt) s fun t => (t.feed f).mode =
        (if (s.feed f).used < (s.feed f).now.retries then .retryWait else .lockout) ∧ (t.feed f).trips = satN 16 (s.feed f).trips 1 ∧
        (t.feed f).current = 0) ∧
    ((s.feed f).mode = .inrush → runs (.feedInrushEnd f current) s fun t => (t.feed f).mode = .on ∧ (t.feed f).current = min 16383 current) ∧
    ((s.feed f).mode = .retryWait → s.feedsFree = true → runs (.feedRetryExpiry f) s fun t => (t.feed f).mode = .inrush ∧
      (t.feed f).now = (s.feed f).cfg) ∧
    ((s.feed f).mode = .on → runs (.feedRetryRestore f) s fun t => (t.feed f).used = 0 ∧ (t.feed f).mode = .on) ∧
    ((s.feed f).mode = .shed → s.pow.cfg.uv < volts → s.feedsFree = true →
      runs (.feedShedRestore f volts dt) s fun t => (t.feed f).mode = .inrush ∧ (t.feed f).now = (s.feed f).cfg) := by
  refine ⟨fun hc => ⟨_, congrArg Host.Outcome.next (if_pos ⟨h7, hc⟩), ?_⟩, fun hm => ⟨_, congrArg Host.Outcome.next (if_pos ⟨h7, hm⟩), ?_⟩,
    fun hm hf => ⟨_, congrArg Host.Outcome.next (if_pos ⟨h7, hm, hf⟩), ?_⟩, fun hm => ⟨_, congrArg Host.Outcome.next (if_pos ⟨h7, hm⟩), ?_⟩,
    fun hm hv hf => ⟨_, congrArg Host.Outcome.next (if_pos ⟨h7, hm, hv, hf⟩), ?_⟩⟩
  · dsimp only
    rw [State.feed_of_wide ((State.logFault_wide _ _ _ _).trans (State.raiseDev_wide _ _)), State.feed_modFeed_self]
    exact ⟨rfl, rfl, rfl⟩
  · dsimp only
    rw [State.feed_modFeed_self]
    exact ⟨rfl, rfl⟩
  · dsimp only
    rw [State.feed_modFeed_self]
    exact ⟨rfl, rfl⟩
  · dsimp only
    rw [State.feed_modFeed_self]
    exact ⟨rfl, hm⟩
  · dsimp only
    rw [State.feed_modFeed_self]
    exact ⟨rfl, rfl⟩

theorem power_autoOn (f t0 : Nat) (rest : List Nat) (s : State) (ha : s.pow.autoOn = (f :: rest, t0)) (hf : s.feedsFree = true)
    (hm : (s.feed f).mode = .off) (hv : (s.feed f).cfg.valid = true) :
    runs .feedAutoOn s fun t => (t.feed f).mode = .inrush ∧ t.pow.autoOn.1 = rest := by
  refine ⟨_, rfl, ?_⟩
  dsimp only
  rw [ha]
  dsimp only
  rw [if_pos hf]
  generalize hs2 : (s.advTick t0).modPow _ = s2
  have hs : s2.feed f = s.feed f ∧ s2.pow.autoOn.1 = rest := by
    rw [← hs2]
    exact ⟨rfl, rfl⟩
  obtain ⟨hfeed, hrest⟩ := hs
  rw [if_pos (hfeed ▸ ⟨hm, hv⟩), State.feed_modFeed_self]
  exact ⟨rfl, hrest⟩

/-- Every feed is off after a controlled power-down (16 R471). -/
theorem feed_remap_off (s : State) (now : Nat) (k : Nat) :
    (Tbl.get Feed.dflt (Tbl.remap Feed.dflt (fun f => if f.mode = .off then f else f.toOff now) s.pow.feeds) k).mode = .off := by
  refine Tbl.get_remap (fun f => f.mode = .off) Feed.dflt _ (fun _ => rfl) (fun f => ?_) _ _
  split
  · assumption
  · rfl

theorem power_down (volts dt : Nat) (s : State) (hao : s.key.ao = true) (hv : volts < s.pow.cfg.off) (hd : s.pow.down = false) :
    runs (.controlledPowerDown volts dt) s fun t => t.pow.down = true ∧ t.key.cpd = true ∧
      t.sys.start = .supplyWait ∧ ∀ f, (t.feed f).mode = .off := by
  refine ⟨_, congrArg Host.Outcome.next (if_pos ⟨hao, hv, Bool.eq_false_iff.mp hd⟩), ?_⟩
  dsimp only
  generalize hs1 : State.logFault _ _ _ _ = s1
  generalize hs2 : s1.modPow _ = s2
  have h2 : s2.pow.down = true ∧ ∀ f, (Tbl.get Feed.dflt s2.pow.feeds f).mode = .off := by
    rw [← hs2]
    exact ⟨rfl, feed_remap_off s1 _⟩
  have h := s2.runOff_hardly
  have hdown : s2.runOff.pow.down = s2.pow.down := (congrArg (fun x => x.2.2.2.2.1.down) h :)
  have hfeeds : s2.runOff.pow.feeds = s2.pow.feeds := (congrArg (fun x => x.2.2.2.2.1.feeds) h :)
  refine ⟨hdown.trans h2.1, rfl, rfl, fun f => ?_⟩
  have hf : Tbl.get Feed.dflt s2.runOff.pow.feeds f = Tbl.get Feed.dflt s2.pow.feeds f := by rw [hfeeds]
  exact (congrArg Feed.mode hf).trans (h2.2 f)

theorem power_supply (volts dt : Nat) (s : State) (hao : s.key.ao = true) :
    (s.pow.cfg.ov < volts → runs (.supplyOv volts dt) s fun t => t.pow.supply = .ov ∧ t.pow.volts = min 4095 volts) ∧
    (volts < s.pow.cfg.uv → s.pow.down = false → runs (.supplyUv volts dt) s fun t => t.pow.supply = .uv ∧ t.pow.volts = min 4095 volts) ∧
    (volts < s.pow.cfg.crank → s.pow.down = false →
      runs (.supplyCrank volts dt) s fun t => t.pow.supply = .crank ∧ t.pow.volts = min 4095 volts ∧
        (∀ f, f < 8 → inMask s.pow.cfg.crankShed f = true → (s.feed f).mode = .on → (t.feed f).mode = .shed)) ∧
    (s.pow.cfg.uv ≤ volts → volts ≤ s.pow.cfg.ov → s.pow.down = false →
      runs (.supplyNormal volts dt) s fun t => t.pow.supply = .normal ∧ t.pow.volts = min 4095 volts) := by
  refine ⟨fun hv => ⟨_, exec_supplyOv dt hao hv, ?_⟩, fun hv hd => ⟨_, exec_supplyUv dt hao hv hd, ?_⟩,
    fun hv hd => ⟨_, exec_supplyCrank dt hao hv hd, ?_⟩,
    fun hv ho hd => ⟨_, congrArg Host.Outcome.next (if_pos ⟨hao, hv, ho, Bool.eq_false_iff.mp hd⟩), rfl, rfl⟩⟩
  · dsimp only
    rw [State.supplyFault_pow]
    exact ⟨rfl, rfl⟩
  · dsimp only
    rw [State.supplyFault_pow]
    exact ⟨rfl, rfl⟩
  · have h : (s.crankFault volts dt).pow.supply = .crank ∧ (s.crankFault volts dt).pow.volts = min 4095 volts := by
      refine List.foldlRecOn (motive := fun t : State => t.pow.supply = .crank ∧ t.pow.volts = min 4095 volts) _ _ ?_ fun t ht f _ => ?_
      · rw [State.supplyFault_pow]
        exact ⟨rfl, rfl⟩
      · unfold State.shedFeed
        split <;> exact ht
    exact ⟨h.1, h.2, fun f hf hmask hm => State.crankFault_feed_mode volts dt hf hmask (.inr hm)⟩

/-- Settles O39: a step of a sequence, a measurement, a feed and the supply each change what its equation names. -/
theorem powerFollowsSequencesAndMeasurements : Obligations.PowerFollowsSequencesAndMeasurements :=
  ⟨power_sequence, power_samples, power_paceTimers, power_estimate, power_shed, power_restore, power_feeds, power_autoOn,
    fun volts dt s hao =>
      have ⟨hov, huv, hcrank, hnormal⟩ := power_supply volts dt s hao
      ⟨hov, huv, hcrank, hnormal, power_down volts dt s hao⟩⟩

end Sys2Proof.Machine
end

section
/-! PROOFS. The time engine. -/

namespace Sys2Proof.Machine

/-! ### What the corrections of the clock leave -/

/-- What no correction of the clock touches: the gPTP ports, the accepted edges and the alignment. -/
def State.timed (s : State) : Tbl PtpPort × Nat × Bool := (s.tim.ports, s.tim.ppsAccepts, s.tim.aligned)

theorem State.timed_of_wide {s t : State} (h : t.wide = s.wide) : t.timed = s.timed := by
  unfold State.timed
  rw [State.tim_of_wide h]

/-- A change of STATE, and nothing else but the entry to holdover. -/
theorem State.timeMode_tim (s : State) (m : TimeMode) : ∃ k, (s.timeMode m).tim = { s.tim with mode := m, holdFrom := k } := by
  unfold State.timeMode
  split
  · rename_i h
    exact ⟨s.tim.holdFrom, by rw [← h]⟩
  · exact ⟨_, State.tim_of_wide (State.raiseDev_wide _ _)⟩

theorem State.timeMode_timed (s : State) (m : TimeMode) : (s.timeMode m).timed = s.timed := by
  obtain ⟨k, h⟩ := s.timeMode_tim m
  unfold State.timed
  rw [h]

theorem State.servoUpdate_timed (s : State) : s.servoUpdate.timed = s.timed := rfl

theorem State.correct_timed (s : State) (corr : Int) (force : Bool) : (s.correct corr force).1.timed = s.timed := by
  have hslow (b : Bool) (c : Prop) [Decidable c] (f : TimeSt → TimeSt)
      (hf : ∀ t : TimeSt, ((f t).ports, (f t).ppsAccepts, (f t).aligned) = (t.ports, t.ppsAccepts, t.aligned)) :
      (if c then (if b = true then s.raiseDev .timeState else s, Correction.nothing)
        else ((if b = true then s.raiseDev .timeState else s).modTim f, .slew)).1.timed = s.timed := by
    have h : (if b = true then s.raiseDev .timeState else s).timed = s.timed := by
      split
      · exact State.timed_of_wide (State.raiseDev_wide _ _)
      · rfl
    split
    · exact h
    · exact (hf _).trans h
  unfold State.correct
  dsimp only
  split
  · rfl
  · refine iteInduction (motive := fun x : State × Correction => x.1.timed = s.timed) (fun _ => ?_) (fun _ => hslow _ _ _ fun _ => rfl)
    unfold State.timed
    rw [State.modTim_tim]
    split <;> rfl

/-- A sample of the time source corrects the clock, and nothing of the ports. -/
theorem State.sample_timed (s : State) (e : Int) : (s.sample e).timed = s.timed := by
  unfold State.sample
  dsimp only
  generalize hs0 : s.modTim _ = s0
  have h0 : s0.timed = s.timed := by
    rw [← hs0]
    rfl
  have hcorrect (f : TimeSt → TimeSt) (hf : ∀ t : TimeSt, ((f t).ports, (f t).ppsAccepts, (f t).aligned) = (t.ports, t.ppsAccepts, t.aligned)) :
      (((s0.correct (-e) false).1.modTim f).timeMode .locking).timed = s.timed := by
    rw [State.timeMode_timed]
    exact (hf _).trans ((s0.correct_timed (-e) false).trans h0)
  have hgood (g : Nat) : ((s0.modTim fun t => { t with good := g }).servoUpdate).timed = s.timed := h0
  split
  · exact hcorrect _ fun _ => rfl
  · exact hcorrect _ fun _ => rfl
  · exact hcorrect _ fun _ => rfl
  · refine iteInduction (motive := fun x : State => x.timed = s.timed) (fun _ => ?_) (fun _ => ?_)
    · rw [State.timeMode_timed, hgood]
    · rw [State.correct_timed, hgood]
  · split
    · exact hcorrect _ fun _ => rfl
    · exact h0

/-- An edge that is accepted is counted, whatever it makes of a time set (08 R214, R215). -/
theorem State.ppsAccept_accepts (s : State) (cap whole : Int) : (s.ppsAccept cap whole).tim.ppsAccepts = sat36 s.tim.ppsAccepts 1 := by
  unfold State.ppsAccept
  dsimp only
  generalize hs2 : State.satRaise _ _ _ _ = s2
  have h2 : s2.tim.ppsAccepts = sat36 s.tim.ppsAccepts 1 := by
    rw [← hs2, State.tim_of_wide (State.satRaise_raiseDev_wide _ _ _ _)]
    rfl
  split
  · exact h2
  · exact h2

/-- The first edge of PPS_IN aligns the clock (08 R214 to R216). -/
theorem State.ppsEdge_first {s : State} (hen : (s.tim.cfg.ppsInEn && !s.isMember) = true) (he : s.tim.edgeTick = none)
    (ha : s.tim.aligned = false) :
    s.ppsEdge.tim.aligned = true ∧ s.ppsEdge.tim.mode = .locking ∧ s.ppsEdge.tim.ppsAccepts = sat36 s.tim.ppsAccepts 1 := by
  unfold State.ppsEdge
  dsimp only
  rw [if_neg (by simpa using hen), he, ha]
  simp only [Bool.false_eq_true, Bool.not_false, ↓reduceIte]
  generalize hs0 : s.modTim _ = s0
  have h0 : s0.tim.ppsAccepts = s.tim.ppsAccepts := by
    rw [← hs0]
    rfl
  generalize hs1 : State.modTim _ _ = s1
  have h1 : s1.tim.aligned = true ∧ s1.tim.ppsAccepts = sat36 s.tim.ppsAccepts 1 := by
    rw [← hs1, ← h0]
    exact ⟨rfl, s0.ppsAccept_accepts _ _⟩
  obtain ⟨k, h⟩ := (s1.correct (-((s.nowQ : Int) - 4 * s.tim.cfg.cableNs - nearestSec ((s.nowQ : Int) - 4 * s.tim.cfg.cableNs))) true).1.timeMode_tim
    .locking
  have hc := s1.correct_timed (-((s.nowQ : Int) - 4 * s.tim.cfg.cableNs - nearestSec ((s.nowQ : Int) - 4 * s.tim.cfg.cableNs))) true
  rw [h]
  exact ⟨(congrArg (·.2.2) hc :).trans h1.1, rfl, (congrArg (·.2.1) hc :).trans h1.2⟩

/-- The source of time is lost: STATE moves and the rate goes to its mean; the ports and the counters stay. -/
theorem State.sourceLost_tim (s : State) :
    s.sourceLost.tim.ppsMisses = s.tim.ppsMisses ∧ s.sourceLost.tim.acceptTick = s.tim.acceptTick ∧
      (s.tim.mode = .locked → s.sourceLost.tim.mode = .holdover) ∧ (s.tim.mode = .locking → s.sourceLost.tim.mode = .free) := by
  unfold State.sourceLost
  cases hm : s.tim.mode with
  | locking =>
    obtain ⟨k, h⟩ := s.timeMode_tim .free
    dsimp only
    rw [State.tim_of_wide (State.logFault_wide _ _ _ _), h]
    exact ⟨rfl, rfl, by simp, fun _ => rfl⟩
  | locked =>
    obtain ⟨k, h⟩ := (s.modTim fun t => t.schedFreq t.meanFreq none).timeMode_tim .holdover
    dsimp only
    rw [State.tim_of_wide (State.logFault_wide _ _ _ _), h]
    exact ⟨rfl, rfl, fun _ => rfl, by simp⟩
  | _ => exact ⟨rfl, rfl, by simp, by simp⟩

/-! ### A step of the clock leaves the time slice to itself -/

theorem State.holdCount_tim (s : State) (p : Nat) : (s.holdCount p).tim = s.tim := by
  unfold State.holdCount
  dsimp only
  split <;> rfl

theorem State.gateStep_tim (s : State) (p : Nat) : (s.gateStep p).tim = s.tim := by
  unfold State.gateStep
  dsimp only
  have hif (b : Prop) [Decidable b] (f : GateSt → GateSt) (old : Nat) (d : Fab) :
      (if b then ((s.modGate p f).satRaise old 1 fun t => t.raiseDie d .countSat).raiseDie d .gateRestart else s).tim = s.tim := by
    split
    · rw [State.tim_of_wide (State.raiseDie_wide _ _ _), State.tim_of_wide (State.satRaise_raiseDie_wide _ _ _ _ _)]
      rfl
    · rfl
  split
  · unfold State.gateChange
    dsimp only
    rw [State.holdCount_tim]
    exact hif _ _ _ _
  · exact hif _ _ _ _

theorem State.stepTime_tim (s : State) (amt : Int) :
    (s.stepTime amt).tim.pendStep = s.tim.pendStep ∧ (s.stepTime amt).tim.steps = satN 28 s.tim.steps 1 ∧
      (s.stepTime amt).tim.epoch = s.tim.epoch + 1 := by
  unfold State.stepTime
  dsimp only
  rw [State.tim_of_wide (State.raiseDev_wide _ _)]
  generalize hs3 : State.modZd _ _ _ = s3
  have hfold (l : List Nat) (u : State) : (l.foldl State.gateStep u).tim = u.tim := by
    induction l generalizing u with
    | nil => rfl
    | cons p l ih => rw [List.foldl_cons, ih, State.gateStep_tim]
  rw [hfold, ← hs3]
  exact ⟨rfl, rfl, rfl⟩

/-- The commands that waited for the change are answered; the clock stays. -/
theorem State.answerTimeSet_tim (s : State) (b : Bool) :
    (s.answerTimeSet b).tim = { s.tim with waiters := s.tim.waiters.filter fun w => w.2 != b } :=
  State.tim_of_wide (foldl_wide _ (fun _ _ => State.finish_wide _ _ _ _ _) _ _)

/-! ### Messages of gPTP -/

theorem State.gptp_modGptp (s : State) (p : Nat) (f : PtpPort → PtpPort) : (s.modGptp p f).gptp p = f (s.gptp p) :=
  Tbl.get_upd_self _ _ _ _

theorem State.gptp_of_tim {s t : State} (h : t.tim = s.tim) (p : Nat) : t.gptp p = s.gptp p := by
  unfold State.gptp
  rw [h]

theorem State.gptp_of_timed {s t : State} (h : t.timed = s.timed) (p : Nat) : t.gptp p = s.gptp p := by
  have hports : t.tim.ports = s.tim.ports := congrArg Prod.fst h
  unfold State.gptp
  rw [hports]

theorem State.sendPtp_tim (s : State) (p : Nat) (m : OwnMsg) (bytes : List Byte) : (s.sendPtp p m bytes).tim = s.tim :=
  congrArg Slices.tim (State.inject_onlyIn _ _ _ _ _)

/-- The port that sends a message keeps what the message made of it. -/
theorem State.gptp_sendPtp (s : State) (p : Nat) (f : PtpPort → PtpPort) (m : OwnMsg) (bytes : List Byte) :
    ((s.modGptp p f).sendPtp p m bytes).gptp p = f (s.gptp p) := by
  rw [State.gptp_of_tim (State.sendPtp_tim _ _ _ _), State.gptp_modGptp]

theorem State.syncSample_timed (s : State) (p : Nat) (a o : Int) : (s.syncSample p a o).timed = s.timed := State.sample_timed _ _

/-- A slave port that is lost gives way to the other front port of the pair where that is up and measured (08 R226). -/
theorem State.slaveLost_slavePort {s : State} {p : Nat} (h : s.tim.slavePort = some p) :
    s.slaveLost.tim.slavePort = if (s.port (17 - p)).mode = .up ∧ (s.gptp (17 - p)).delayOk then some (17 - p) else none := by
  unfold State.slaveLost
  rw [h]
  dsimp only
  split
  · rfl
  · rw [State.sourceLost_slavePort]
    rfl

/-! ### The parts of O40 -/

theorem time_changes :
    (∀ (c : FreqChange) (s : State), s.tim.pendFreq = some c →
      runs .freqAdjApply s fun t => t.tim.pendFreq = none ∧ t.tim.base = c.base ∧ (∀ v n, c.slew = some (v, n) → t.tim.slew = v)) ∧
    (∀ (k : Nat) (amt : Int) (s : State), s.tim.pendStep = some (k, amt) →
      runs .timeStepApply s fun t => t.tim.pendStep = none ∧ t.tim.steps = satN 28 s.tim.steps 1 ∧ t.tim.epoch = s.tim.epoch + 1) ∧
    (∀ (k : Nat) (s : State), s.tim.slewEnd = some k → runs .slewEnd s fun t => t.tim.slew = 0 ∧ t.tim.slewEnd = none) := by
  refine ⟨fun c s hc => ⟨_, rfl, ?_⟩, fun k amt s hk => ⟨_, rfl, ?_⟩, fun k s hk => ?_⟩
  · unfold State.applyFreq
    rw [hc]
    dsimp only
    rw [State.answerTimeSet_tim, State.modTim_tim]
    cases hsl : c.slew with
    | none => exact ⟨rfl, rfl, by simp⟩
    | some x =>
      refine ⟨rfl, rfl, fun v n h => ?_⟩
      rw [Option.some.injEq] at h
      rw [h]
  · unfold State.applyStep
    rw [hk]
    dsimp only
    generalize hs1 : (s.advTick k).modTim _ = s1
    have h1 : s1.tim.pendStep = none ∧ s1.tim.steps = s.tim.steps ∧ s1.tim.epoch = s.tim.epoch := by
      rw [← hs1]
      exact ⟨rfl, rfl, rfl⟩
    obtain ⟨hpend, hsteps, hepoch⟩ := s1.stepTime_tim amt
    rw [h1.1] at hpend
    rw [h1.2.1] at hsteps
    rw [h1.2.2] at hepoch
    generalize s1.stepTime amt = s2 at *
    rw [State.answerTimeSet_tim]
    exact ⟨hpend, hsteps, hepoch⟩
  · refine ⟨((s.advTick k).modTim fun t => { t with slew := 0, slewEnd := none }), ?_, rfl, rfl⟩
    change execSlewEnd s = _
    rw [execSlewEnd, hk]

theorem time_pps :
    (∀ (dt : Nat) (s : State), s.tim.cfg.ppsInEn = true → s.isMember = false → s.tim.edgeTick = none → s.tim.aligned = false →
      runs (.ppsEdge dt) s fun t => t.tim.aligned = true ∧ t.tim.mode = .locking ∧ t.tim.ppsAccepts = sat36 s.tim.ppsAccepts 1) ∧
    (∀ (k : Nat) (s : State), s.tim.acceptTick = some k →
      runs .ppsMissing s fun t => t.tim.ppsMisses = sat36 s.tim.ppsMisses 1 ∧ t.tim.acceptTick = none ∧
        (s.tim.mode = .locked → t.tim.mode = .holdover) ∧ (s.tim.mode = .locking → t.tim.mode = .free)) ∧
    (∀ s : State, s.tim.mode = .holdover → runs .holdoverMaxExpiry s fun t => t.tim.mode = .free) ∧
    (∀ s : State, s.tim.on = true → s.tim.pulses = true →
      runs .ppsOutPulse s fun t =>
        let n := if s.nextSec = s.tim.ppsLast then s.nextSec + 1 else s.nextSec
        t.tim.ppsLast = n ∧ t.out = s.out ++ [Output.ppsOut n s.tim.cfg.ppsOutWidth (s.tim.cfg.ppsOutPol == 0)]) := by
  refine ⟨fun dt s hen hmem he ha => ⟨_, rfl, ?_⟩, fun k s hk => ?_, fun s hm => ⟨_, congrArg Host.Outcome.next (if_pos hm), ?_⟩,
    fun s hon hp => ⟨_, rfl, ?_⟩⟩
  · have hne : ((s.adv dt).tim.cfg.ppsInEn && !(s.adv dt).isMember) = true := by
      change (s.tim.cfg.ppsInEn && !s.isMember) = true
      rw [hen, hmem]
      rfl
    change (s.adv dt).tim.edgeTick = none at he
    change (s.adv dt).tim.aligned = false at ha
    change (s.adv dt).ppsEdge.tim.aligned = true ∧ (s.adv dt).ppsEdge.tim.mode = .locking ∧
      (s.adv dt).ppsEdge.tim.ppsAccepts = sat36 (s.adv dt).tim.ppsAccepts 1
    exact State.ppsEdge_first hne he ha
  · change ∃ t, execPpsMissing s = .next t ∧ _
    unfold execPpsMissing
    rw [hk]
    refine ⟨_, rfl, ?_⟩
    generalize hs2 : State.raiseDev _ .ppsLost = s2
    have h2 : s2.tim.ppsMisses = sat36 s.tim.ppsMisses 1 ∧ s2.tim.acceptTick = none ∧ s2.tim.mode = s.tim.mode := by
      rw [← hs2, State.tim_of_wide ((State.raiseDev_wide _ _).trans (State.satRaise_raiseDev_wide _ _ _ _))]
      exact ⟨rfl, rfl, rfl⟩
    obtain ⟨hmiss, hacc, hmode⟩ := h2
    have h := s2.sourceLost_tim
    rw [hmiss, hacc, hmode] at h
    exact h
  · obtain ⟨k, h⟩ := (s.advTick (s.tim.holdFrom + ticksS s.tim.cfg.holdoverMax)).timeMode_tim .free
    rw [h]
  · dsimp only
    generalize hs1 : (s.advQ _).modTim _ = s1
    have h1 : (s1.tim.on && s1.tim.pulses) = true := by
      rw [← hs1]
      change (s.tim.on && s.tim.pulses) = true
      rw [hon, hp]
      rfl
    rw [if_pos h1, ← hs1]
    exact ⟨rfl, rfl⟩

theorem time_received :
    (∀ (p : Nat) (m : Nat × List Byte) (s : State), (s.gptp p).inbox.find? (fun m => ptpType m.2 == 0) = some m →
      inMask (byteAt m.2 20).toNat 1 = false →
      runs (.syncRx p) s fun t => (t.gptp p).syncRx = sat36 (s.gptp p).syncRx 1 ∧ (t.gptp p).inbox = (s.gptp p).inbox.erase m) ∧
    (∀ (p k : Nat) (s : State), s.tim.slavePort = some p → s.tim.syncHeard = some k →
      runs .syncTimeout s fun t => t.tim.slavePort =
        if (s.port (17 - p)).mode = .up ∧ (s.gptp (17 - p)).delayOk then some (17 - p) else none) ∧
    (∀ (p : Nat) (m : Nat × List Byte) (s : State),
      (s.gptp p).inbox.find? (fun m => ptpType m.2 == 2 || ptpType m.2 == 3 || ptpType m.2 == 0xA) = some m →
      runs (.pdelayRx p) s fun t => (t.gptp p).inbox = (s.gptp p).inbox.erase m ∧
        (s.ptpOn p = true → ptpType m.2 = 3 → (s.gptp p).exchange.isSome = true → ptpSeq m.2 = (s.gptp p).reqSeq →
          slice m.2 58 10 = s.portId p → (t.gptp p).resp = some (ptpTime m.2, (m.1 : Int) - 4 * (s.gptp p).rxExtra))) := by
  refine ⟨fun p m s hm htwo => ⟨_, rfl, ?_⟩, fun p k s hp hk => ⟨_, rfl, ?_⟩, fun p m s hm => ⟨_, rfl, ?_⟩⟩
  · dsimp only
    rw [hm]
    dsimp only
    rw [htwo]
    simp only [Bool.false_eq_true, ↓reduceIte]
    generalize hs1 : State.satRaise _ _ _ _ = s1
    have h1 : s1.gptp p = { s.gptp p with inbox := (s.gptp p).inbox.erase m, syncRx := sat36 (s.gptp p).syncRx 1 } := by
      rw [← hs1, State.gptp_of_tim (State.tim_of_wide (State.satRaise_raiseDie_wide _ _ _ _ _)), State.gptp_modGptp]
    split
    · rw [State.gptp_of_timed (State.syncSample_timed _ _ _ _), h1]
      exact ⟨rfl, rfl⟩
    · rw [h1]
      exact ⟨rfl, rfl⟩
  · dsimp only
    rw [hp, hk]
    exact State.slaveLost_slavePort hp
  · dsimp only
    rw [hm]
    dsimp only
    generalize hs1 : s.modGptp p _ = s1
    have h1 : s1.gptp p = { s.gptp p with inbox := (s.gptp p).inbox.erase m } := by
      rw [← hs1, State.gptp_modGptp]
    by_cases hon : s.ptpOn p = true
    · rw [if_neg (by simp [hon])]
      have hkeep (u : State) (hu : (u.gptp p).inbox = (s.gptp p).inbox.erase m) (b : ¬ ptpType m.2 = 3) :
          (u.gptp p).inbox = (s.gptp p).inbox.erase m ∧
            (s.ptpOn p = true → ptpType m.2 = 3 → (s.gptp p).exchange.isSome = true → ptpSeq m.2 = (s.gptp p).reqSeq →
              slice m.2 58 10 = s.portId p → (u.gptp p).resp = some (ptpTime m.2, (m.1 : Int) - 4 * (s.gptp p).rxExtra)) :=
        ⟨hu, fun _ h => absurd h b⟩
      have hin : (s1.gptp p).inbox = (s.gptp p).inbox.erase m := by rw [h1]
      split
      · rename_i h2
        exact hkeep _ (by rw [State.gptp_of_tim (State.sendPtp_tim _ _ _ _), hin]) (by omega)
      · split
        · rename_i hx
          exact ⟨hin, fun _ _ h => by simp [hx] at h⟩
        · split
          · rename_i hc
            exact ⟨hin, fun _ _ _ h4 h5 => absurd hc (by simp [h4, h5])⟩
          · split
            · rw [State.gptp_modGptp, h1]
              exact ⟨rfl, fun _ _ _ _ _ => rfl⟩
            · rename_i h3
              split
              · exact hkeep _ hin h3
              · refine hkeep _ ?_ h3
                rw [State.gptp_modGptp, h1]
                rfl
    · rw [if_pos (by simpa using hon), h1]
      exact ⟨rfl, fun h => absurd h hon⟩

theorem time_sent :
    (∀ (p dt : Nat) (s : State), s.ptpMaster p = true →
      ((s.relaysTime = false ∨ s.tim.relay.isSome = true) → runs (.syncTx p dt) s fun t =>
        (t.gptp p).syncSeq = ((s.gptp p).syncSeq + 1) % 65536) ∧
      (s.tim.cfg.announceEn = true → (s.core s.pair.active).mode = .active → (s.core s.pair.active).halted = false →
        runs (.announceTx p dt) s fun t => (t.gptp p).annSeq = ((s.gptp p).annSeq + 1) % 65536)) ∧
    (∀ (p dt : Nat) (s : State), s.ptpOn p = true →
      ((s.gptp p).followUp.isSome = true → runs (.followUpTx p dt) s fun t => (t.gptp p).followUp = none) ∧
      ((s.gptp p).pdelayStatic = false → runs (.pdelayReqTx p dt) s fun t => (t.gptp p).reqSeq = ((s.gptp p).reqSeq + 1) % 65536)) := by
  refine ⟨fun p dt s hp => ⟨fun hr => ⟨_, congrArg Host.Outcome.next (if_neg (by simp [hp])), ?_⟩, fun ha hm hh =>
    ⟨_, congrArg Host.Outcome.next (if_pos (by simp [hp, ha, hm, hh])), ?_⟩⟩, fun p dt s hp =>
    ⟨fun hf => ⟨_, rfl, ?_⟩, fun hs => ⟨_, congrArg Host.Outcome.next (if_pos (by simp [hp, hs])), ?_⟩⟩⟩
  · dsimp only
    cases hrel : s.relaysTime with
    | false =>
      simp only [Bool.false_eq_true, ↓reduceIte]
      rw [State.gptp_sendPtp]
    | true =>
      rw [if_pos rfl, if_pos (hr.resolve_left (by simp [hrel])), State.gptp_sendPtp]
  · dsimp only
    rw [State.gptp_sendPtp]
  · obtain ⟨k, hk⟩ := Option.isSome_iff_exists.1 hf
    dsimp only
    rw [hk]
    dsimp only
    rw [if_pos hp, State.gptp_sendPtp]
  · dsimp only
    rw [State.gptp_sendPtp]

/-- Settles O40: a correction, an edge and a message each change what its equation names, and leave the gPTP ports otherwise. -/
theorem timeEngineFollowsItsClockAndMessages : Obligations.TimeEngineFollowsItsClockAndMessages := by
  obtain ⟨hfreq, hstep, hslew⟩ := time_changes
  obtain ⟨hedge, hmiss, hhold, hpulse⟩ := time_pps
  obtain ⟨hsync, htimeout, hpdelay⟩ := time_received
  obtain ⟨hmaster, hon⟩ := time_sent
  exact ⟨hfreq, hstep, hslew, hedge, hmiss, hhold, hpulse, hsync, htimeout, hmaster, hon, hpdelay⟩

end Sys2Proof.Machine
end

section
/-! PROOFS. CAN and LIN channels on their bus. -/

namespace Sys2Proof.Machine

/-! ### One channel -/

theorem State.canCh_modCan_self (s : State) (c : Nat) (f : CanCh → CanCh) : (s.modCan c f).canCh c = f (s.canCh c) :=
  Tbl.get_upd_self _ _ _ _

theorem State.linCh_modLin_self (s : State) (c : Nat) (f : LinCh → LinCh) : (s.modLin c f).linCh c = f (s.linCh c) :=
  Tbl.get_upd_self _ _ _ _

theorem State.linCh_edgeCount (s : State) (n i c : Nat) : (s.edgeCount n i).linCh c = s.linCh c := by
  unfold State.linCh
  rw [State.edge_edgeCount]

theorem State.canCh_txCount (s : State) (n c : Nat) : (s.txCount n).canCh c = s.canCh c := rfl

theorem State.canCh_rxCount (s : State) (n c : Nat) : (s.rxCount n).canCh c = s.canCh c := rfl

theorem State.linCh_rxCount (s : State) (n c : Nat) : (s.rxCount n).linCh c = s.linCh c := rfl

theorem State.canCh_slotSent (s : State) (o : TxOrigin) (c : Nat) : (s.slotSent o).canCh c = s.canCh c := by
  cases o <;> rfl

theorem State.noteFirst_edge (s : State) (w : WakeIn) : (s.noteFirst w).edge = s.edge := by
  unfold State.noteFirst
  dsimp only
  split
  · exact iteInduction (motive := fun x : State => x.edge = s.edge) (fun _ => rfl) (fun _ => rfl)
  · rfl

theorem State.canCh_noteFirst (s : State) (w : WakeIn) (c : Nat) : (s.noteFirst w).canCh c = s.canCh c := by
  unfold State.canCh
  rw [State.noteFirst_edge]

theorem State.linCh_noteFirst (s : State) (w : WakeIn) (c : Nat) : (s.noteFirst w).linCh c = s.linCh c := by
  unfold State.linCh
  rw [State.noteFirst_edge]

/-! ### Arbitration -/

/-- The frame that wins is one of those that wait. -/
theorem mem_of_bestCan {i j : Nat} {x : CanTx} {l : List CanTx} (h : bestCan i l = some (j, x)) : x ∈ l := by
  induction l generalizing i with
  | nil => simp [bestCan] at h
  | cons y ys ih =>
    unfold bestCan at h
    cases hb : bestCan (i + 1) ys with
    | none =>
      rw [hb] at h
      rw [Option.some.injEq, Prod.mk.injEq] at h
      rw [← h.2]
      exact List.mem_cons_self
    | some b =>
      rw [hb] at h
      dsimp only at h
      split at h
      · rw [Option.some.injEq, Prod.mk.injEq] at h
        rw [← h.2]
        exact List.mem_cons_self
      · rw [h] at hb
        exact List.mem_cons_of_mem _ (ih hb)

theorem State.fillCan_plain (s : State) (tab : Nat) {x : CanTx} (h : x.origin = .plain) : s.fillCan tab x = some x.frame := by
  unfold State.fillCan
  rw [h]

/-- A queue of plain frames loses none to arbitration. -/
theorem State.canCh_pruneCan {s : State} {c : Nat} (h : ∀ y ∈ (s.canCh c).txq, y.origin = .plain) : (s.pruneCan c).canCh c = s.canCh c := by
  have hsome : ∀ y ∈ (s.canCh c).txq, (s.fillCan (s.canCh c).timeTable y).isSome = true := fun y hy => by
    rw [s.fillCan_plain _ (h y hy)]
    rfl
  have hgone : (s.canCh c).txq.filter (fun x => (s.fillCan (s.canCh c).timeTable x).isNone) = [] :=
    List.filter_eq_nil_iff.2 fun y hy => by
      rw [s.fillCan_plain _ (h y hy)]
      exact Bool.false_ne_true
  unfold State.pruneCan
  dsimp only
  rw [hgone, List.foldl_nil, State.canCh_modCan_self, List.filter_eq_self.2 hsome]

/-! ### The parts of O41 -/

theorem can_received (c sof dt : Nat) (f : CanFrame) (s : State) (hon : s.canOn c = true) (hb : (s.canCh c).busOff = false)
    (hf : canFits (s.canCh c).mode f = true) (hx : f.xl = false) (hq : (s.canCh c).rxq.length < 64) :
    runs (.canFrameRx c f sof false dt) s fun t => ∃ x : CanRx, x.frame = f ∧ (t.canCh c).rxq = (s.canCh c).rxq ++ [x] := by
  refine ⟨_, congrArg Host.Outcome.next (if_pos ⟨hon, hb, hf⟩), ?_⟩
  simp only [Bool.false_eq_true, ↓reduceIte]
  generalize hs4 : State.noteFirst _ _ = s4
  have h4 : (s4.canCh c).rxq = (s.canCh c).rxq := by
    rw [← hs4, State.canCh_noteFirst]
    refine (congrArg CanCh.rxq (State.canCh_modCan_self _ _ _)).trans ?_
    rfl
  rw [if_neg (by rw [h4, hx]; simp; omega), State.canCh_rxCount, State.canCh_modCan_self, ← h4]
  exact ⟨_, rfl, rfl⟩

theorem can_arbitrates (c dt i : Nat) (x : CanTx) (s : State) (hon : s.canOn c = true) (hb : (s.canCh c).busOff = false)
    (hl : (s.canCh c).listen = false) (hsend : (s.canCh c).sending = none) (hplain : ∀ y ∈ (s.canCh c).txq, y.origin = .plain)
    (hbest : bestCan 0 (s.canCh c).txq = some (i, x)) :
    runs (.canArbWin c dt) s fun t => (t.canCh c).sending = some x ∧ (t.canCh c).txq = (s.canCh c).txq.eraseIdx i := by
  refine ⟨_, congrArg Host.Outcome.next (if_pos ⟨hon, hb, hl, hsend⟩), ?_⟩
  dsimp only
  generalize hs1 : (s.adv dt).pruneCan c = s1
  have h1 : s1.canCh c = s.canCh c := by
    rw [← hs1]
    exact State.canCh_pruneCan (s := s.adv dt) hplain
  rw [h1, hbest]
  dsimp only
  rw [State.fillCan_plain _ _ (hplain x (mem_of_bestCan hbest))]
  dsimp only
  rw [State.canCh_modCan_self, h1]
  exact ⟨rfl, rfl⟩

theorem can_sent (c dt : Nat) (x : CanTx) (s : State) (hc : c ≤ 5) (hx : (s.canCh c).sending = some x) (ho : (s.canCh c).offAfter = false) :
    runs (.canTxDone c true dt) s (fun t => (t.canCh c).sending = none ∧ (t.canCh c).tec = (s.canCh c).tec - 1 ∧
      Output.canFrame c x.frame ∈ t.out) ∧
    ((s.canCh c).oneShot = false → runs (.canTxDone c false dt) s fun t => (t.canCh c).sending = none ∧
      (t.canCh c).txq = requeue x (s.canCh c).txq) := by
  have h1 : ((s.adv dt).modCan c fun c => { c with sending := none }).canCh c = { s.canCh c with sending := none } :=
    State.canCh_modCan_self _ _ _
  refine ⟨⟨_, rfl, ?_⟩, fun hshot => ⟨_, rfl, ?_⟩⟩
  · dsimp only
    rw [hx]
    dsimp only
    simp only [if_pos hc, ↓reduceIte]
    generalize (s.adv dt).modCan c _ = s1 at *
    generalize hs2 : State.slotSent _ _ = s2
    have h2 : (s2.emit (.canFrame c x.frame)).canCh c = { s.canCh c with sending := none, tec := (s.canCh c).tec - 1 } := by
      change s2.canCh c = _
      rw [← hs2, State.canCh_slotSent, State.canCh_txCount, State.canCh_modCan_self, h1]
    rw [h2, if_neg (by rw [ho]; exact Bool.false_ne_true), h2]
    exact ⟨rfl, rfl, List.mem_append_right _ List.mem_cons_self⟩
  · dsimp only
    rw [hx]
    dsimp only
    rw [if_pos hc]
    generalize (s.adv dt).modCan c _ = s1 at *
    simp only [h1, hshot, Bool.false_eq_true, ↓reduceIte]
    generalize hs2 : s1.modCan c _ = s2
    have h2 : s2.canCh c = { s.canCh c with sending := none, txq := requeue x (s.canCh c).txq } := by
      rw [← hs2, State.canCh_modCan_self, h1]
    rw [h2, if_neg (by rw [ho]; exact Bool.false_ne_true), h2]
    exact ⟨rfl, rfl⟩

theorem can_expired (c : Nat) (x : CanTx) (s : State) (hc : c ≤ 5) (hl : (s.canCh c).txLife ≠ 0) (hx : firstTimed (s.canCh c).txq = some x) :
    runs (.canTxExpired c) s fun t => (t.canCh c).txq = (s.canCh c).txq.erase x := by
  refine ⟨_, congrArg Host.Outcome.next (if_pos ⟨hc, hl⟩), ?_⟩
  rw [hx]
  dsimp only
  rw [State.canCh_edgeCount, State.canCh_modCan_self]
  rfl

theorem can_errors (c code add : Nat) (s : State) (hon : s.canOn c = true) (hb : (s.canCh c).busOff = false) (h1 : 1 ≤ code) (h5 : code ≤ 5) :
    ((s.canCh c).tec ≤ 255 → runs (.canBusError c code false add) s fun t => (t.canCh c).lastError = code ∧
      (t.canCh c).rec_ = min 255 ((s.canCh c).rec_ + if add = 0 then 0 else if 8 ≤ add then 8 else 1) ∧ (t.canCh c).busOff = false) ∧
    (248 ≤ (s.canCh c).tec → add ≠ 0 → runs (.canBusError c code true add) s fun t => (t.canCh c).busOff = true ∧
      (t.canCh c).sending = none ∧ (t.canCh c).recovering = (s.canCh c).autoRecover) := by
  have h6 : ¬ code = 6 := by omega
  refine ⟨fun ht => ⟨_, congrArg Host.Outcome.next ((if_pos ⟨hon, hb⟩).trans ((if_neg h6).trans (if_pos ⟨h1, h5⟩))), ?_⟩,
    fun ht ha => ⟨_, congrArg Host.Outcome.next ((if_pos ⟨hon, hb⟩).trans ((if_neg h6).trans (if_pos ⟨h1, h5⟩))), ?_⟩⟩
  · simp only [Bool.false_eq_true, false_or, ↓reduceIte]
    rw [State.canCh_edgeCount, State.canCh_modCan_self]
    dsimp only
    rw [if_neg (by omega), State.canCh_edgeCount, State.canCh_modCan_self]
    exact ⟨rfl, rfl, hb⟩
  · simp only [true_or, if_neg ha, ↓reduceIte]
    generalize hs1 : State.edgeCount _ _ 5 = s1
    have h1 : s1.canCh c = { s.canCh c with lastError := code, tec := min 256 ((s.canCh c).tec + 8) } := by
      rw [← hs1, State.canCh_edgeCount, State.canCh_modCan_self]
    rw [h1, if_pos (by dsimp only; omega), State.canCh_edgeCount, State.canCh_of_wide (State.raiseDev_wide _ _), State.canCh_modCan_self, h1]
    exact ⟨rfl, rfl, rfl⟩

theorem can_recovered (c dt : Nat) (s : State) (hc : c ≤ 5) (hb : (s.canCh c).busOff = true) (hr : (s.canCh c).recovering = true) :
    runs (.canBusOffRecovered c dt) s fun t => (t.canCh c).busOff = false ∧ (t.canCh c).recovering = false ∧ (t.canCh c).tec = 0 ∧
      (t.canCh c).rec_ = 0 := by
  refine ⟨_, congrArg Host.Outcome.next (if_pos ⟨hc, hb, hr⟩), ?_⟩
  dsimp only
  rw [State.canCh_modCan_self]
  exact ⟨rfl, rfl, rfl, rfl⟩

/-- A frame ID that is received waits for its response (10 R273). -/
theorem State.linAnswer_receives {s : State} {c id : Nat} (header : Bool) (h : ((s.linCh c).ent id).dir = 1) :
    (s.linAnswer c id header).linCh c = { s.linCh c with hdr := some { id := id, time := s.now72 } } ∧
      (header = true → Output.linHeader c id ∈ (s.linAnswer c id header).out) := by
  unfold State.linAnswer
  dsimp only
  rw [h]
  cases header with
  | false => exact ⟨State.linCh_modLin_self _ _ _, fun h => absurd h Bool.false_ne_true⟩
  | true => exact ⟨State.linCh_modLin_self _ _ _, fun _ => List.mem_append_right _ List.mem_cons_self⟩

theorem lin_slotStarts (c : Nat) (e : Nat × Nat) (es : List (Nat × Nat)) (s : State) (hon : s.linOn c = true)
    (hcmd : (s.linCh c).commander = true) (hst : (s.linCh c).stopped = false) (hsl : (s.linCh c).sleepDue = false)
    (hat : (s.linCh c).slotAt = none) (hw : (s.linCh c).written = e :: es) (hd : ((s.linCh c).ent e.1).dir = 1) :
    runs (.linSlotStart c) s fun t => (t.linCh c).round = e :: es ∧ (t.linCh c).slot = 0 ∧
      (∃ h : LinHdr, h.id = e.1 ∧ (t.linCh c).hdr = some h) ∧ Output.linHeader c e.1 ∈ t.out := by
  refine ⟨_, congrArg Host.Outcome.next (if_pos ⟨hon, hcmd, hst⟩), ?_⟩
  simp only [hsl, hat, hw, Bool.false_eq_true, ↓reduceIte, Option.isNone_none, Bool.true_or, List.getElem?_cons_zero]
  generalize hs1 : State.modLin _ _ _ = s1
  have h1 : s1.linCh c = { s.linCh c with slotAt := some (s.advTick s.tim.ticks).tim.ticks, round := e :: es, slot := 0 } := by
    rw [← hs1, State.linCh_modLin_self]
    rfl
  have hd1 : ((s1.linCh c).ent e.1).dir = 1 := by
    rw [h1]
    exact hd
  obtain ⟨hch, hout⟩ := State.linAnswer_receives true hd1
  rw [hch, h1]
  exact ⟨rfl, rfl, ⟨_, rfl, rfl⟩, hout rfl⟩

theorem lin_headerComes (c id dt : Nat) (s : State) (hon : s.linOn c = true) (hcmd : (s.linCh c).commander = false) (hid : id ≤ 0x3F) :
    runs (.linHeaderRx c id false dt) s (fun t => (t.linCh c).lastError = 5 ∧ (t.linCh c).hdr = none) ∧
    (((s.linCh c).ent id).dir = 1 → runs (.linHeaderRx c id true dt) s fun t => ∃ h : LinHdr, h.id = id ∧ (t.linCh c).hdr = some h) := by
  refine ⟨⟨_, congrArg Host.Outcome.next (if_pos ⟨hon, hcmd, hid⟩), ?_⟩, fun hd =>
    ⟨_, congrArg Host.Outcome.next (if_pos ⟨hon, hcmd, hid⟩), ?_⟩⟩
  · simp only [Bool.not_false, ↓reduceIte]
    rw [State.linCh_modLin_self]
    exact ⟨rfl, rfl⟩
  · simp only [Bool.not_true, Bool.false_eq_true, ↓reduceIte]
    rw [(State.linAnswer_receives (s := s.adv dt) false hd).1]
    exact ⟨_, rfl, rfl⟩

theorem lin_responseComes (c check dt : Nat) (data : List Byte) (h : LinHdr) (s : State) (hon : s.linOn c = true)
    (hh : (s.linCh c).hdr = some h) (hdone : h.done = false) (hid : h.id ≠ 0x3C) (hlen : data.length = ((s.linCh c).ent h.id).len)
    (hcheck : check = linCheck ((s.linCh c).ent h.id).enhanced h.id data) (hq : (s.linCh c).rxq.length < 8) :
    runs (.linResponseRx c data check 0 dt) s fun t => (t.linCh c).hdr = some { h with done := true } ∧
      (t.linCh c).rxq = (s.linCh c).rxq ++ [{ id := h.id, data := data, time := h.time }] := by
  have hs : (s.adv dt).linCh c = s.linCh c := rfl
  refine ⟨_, congrArg Host.Outcome.next (if_pos hon), ?_⟩
  dsimp only
  rw [if_neg (by omega), hs, hh]
  dsimp only
  rw [if_neg (by rw [hdone]; exact Bool.false_ne_true), if_neg (by omega), if_neg (not_not.2 hlen), if_neg (not_not.2 hcheck)]
  generalize hs2 : State.noteFirst _ _ = s2
  have h2 : s2.linCh c = { s.linCh c with hdr := some { h with done := true } } := by
    rw [← hs2, State.linCh_noteFirst, State.linCh_modLin_self, hs]
  rw [if_neg (fun h => hid h.1), h2, if_neg (by dsimp only; omega), State.linCh_rxCount, State.linCh_modLin_self, h2]
  exact ⟨rfl, rfl⟩

theorem lin_commands (c : Nat) (h : LinHdr) (s : State) (hon : s.linOn c = true) (hcmd : (s.linCh c).commander = true) :
    ((s.linCh c).hdr = some h → (s.linCh c).slotAt.isSome = true → h.done = false →
      runs (.linSlotEnd c) s fun t => (t.linCh c).hdr = none ∧ (t.linCh c).lastError = 8) ∧
    ((s.linCh c).sleepDue = true → runs (.linGoToSleep c) s fun t => (t.linCh c).stopped = true ∧ (t.linCh c).sleepDue = false) ∧
    ((s.linCh c).pulseDue = true → runs (.linWakePulse c) s fun t => (t.linCh c).pulseDue = false ∧ (t.linCh c).pulseEnd = some t.tim.ticks ∧
      Output.linWake c ∈ t.out) := by
  refine ⟨fun hh hat hd => ⟨_, rfl, ?_⟩, fun hs => ⟨_, congrArg Host.Outcome.next (if_pos ⟨hon, hcmd, hs⟩), ?_⟩,
    fun hp => ⟨_, congrArg Host.Outcome.next (if_pos ⟨hon, hcmd, hp⟩), ?_⟩⟩
  · obtain ⟨k, hk⟩ := Option.isSome_iff_exists.1 hat
    rw [hh, hk]
    dsimp only
    rw [if_pos ⟨hon, hcmd, hd⟩, State.linCh_modLin_self]
    exact ⟨rfl, rfl⟩
  · unfold State.linSleep
    dsimp only
    rw [State.linCh_modLin_self]
    exact ⟨rfl, rfl⟩
  · dsimp only
    rw [State.linCh_modLin_self]
    exact ⟨rfl, rfl, List.mem_append_right _ List.mem_cons_self⟩

theorem lin_restarts (c : Nat) (s : State) (hon : s.linOn c = true) (hp : (s.linCh c).pulseEnd.isSome = true) :
    runs (.linScheduleRestart c) s fun t => (t.linCh c).stopped = false ∧ (t.linCh c).pulseEnd = none ∧ (t.linCh c).slotAt = none := by
  obtain ⟨k, hk⟩ := Option.isSome_iff_exists.1 hp
  refine ⟨_, rfl, ?_⟩
  dsimp only
  rw [hk]
  dsimp only
  rw [if_pos hon, State.linCh_modLin_self]
  exact ⟨rfl, rfl, rfl⟩

/-- Settles O41: each event of a bus changes its own channel as its equation says. -/
theorem canAndLinChannelsFollowTheirBus : Obligations.CanAndLinChannelsFollowTheirBus :=
  ⟨can_received, can_arbitrates, can_sent, can_expired, can_errors, can_recovered, lin_slotStarts, lin_headerComes, lin_responseComes,
    lin_commands, lin_restarts⟩

end Sys2Proof.Machine
end

section
/-! PROOFS. Serial engines and the gateway. -/

namespace Sys2Proof.Machine

/-! ### One engine, and the counters of the gateway -/

theorem State.serCh_modSer_self (s : State) (c : Nat) (f : SerCh → SerCh) : (s.modSer c f).serCh c = f (s.serCh c) :=
  Tbl.get_upd_self _ _ _ _

theorem State.serCh_edgeCount (s : State) (n i c : Nat) : (s.edgeCount n i).serCh c = s.serCh c := by
  unfold State.serCh
  rw [State.edge_edgeCount]

theorem State.serCh_txCount (s : State) (n c : Nat) : (s.txCount n).serCh c = s.serCh c := rfl

theorem State.serCh_slotSent (s : State) (o : TxOrigin) (c : Nat) : (s.slotSent o).serCh c = s.serCh c := by
  cases o <;> rfl

/-- A new table in force is all that `takeNext` makes of an engine (10 R280). -/
theorem SerCh.takeNext_eq (c : SerCh) : ∃ t b n, c.takeNext = { c with table := t, baud := b, next := n } := by
  unfold SerCh.takeNext
  split
  · split
    · exact ⟨_, _, _, rfl⟩
    · exact ⟨c.table, c.baud, c.next, rfl⟩
  · exact ⟨c.table, c.baud, c.next, rfl⟩

/-- A frame that is discarded leaves the receiver idle with its error noted (10 R279, R295). -/
theorem State.serCh_serDiscard (s : State) (c i err : Nat) :
    ((s.serDiscard c i err).serCh c).receiving = false ∧ ((s.serDiscard c i err).serCh c).chars = [] ∧
      ((s.serDiscard c i err).serCh c).lastError = err := by
  obtain ⟨t, b, n, h⟩ := ({ s.serCh c with receiving := false, chars := [], lastError := err } : SerCh).takeNext_eq
  unfold State.serDiscard
  rw [State.serCh_edgeCount, State.serCh_modSer_self, h]
  exact ⟨rfl, rfl, rfl⟩

/-- An engine with nothing to send is ready (10 R280). -/
theorem SerCh.ready_of_empty {c : SerCh} (h : c.txq = []) : c.ready.mode = .ready ∧ c.ready.cur = none := by
  obtain ⟨t, b, n, hn⟩ := ({ c with mode := .ready, cur := none, line := [], total := 0, attempts := 0 } : SerCh).takeNext_eq
  unfold SerCh.ready
  rw [hn, h]
  exact ⟨rfl, rfl⟩

theorem State.gw_gwCount (s : State) (old : Nat) (f : GwSt → GwSt) : (s.gwCount old f).gw = f s.gw :=
  State.gw_of_wide (State.satRaise_raiseDev_wide _ _ _ _)

/-- A frame of its own that a CAN channel queues while it is idle (10 R265). -/
theorem State.canQueue_idle {s : State} {c : Nat} (ht : (s.canCh c).txq = []) (hs : (s.canCh c).sending = none) (f : CanFrame) (o : TxOrigin) :
    ((s.canQueue c f o).1.canCh c).txq = [{ frame := f, origin := o, at_ := s.tim.ticks }] := by
  unfold State.canQueue
  rw [ht, hs, if_neg (by simp), State.canCh_modCan_self, ht]
  rfl

/-! ### The parts of O42 -/

theorem ser_badChar (c v gap dt : Nat) (stop : Bool) (s : State) (hon : s.serOn c = true) (hh : (s.serTabOf c).half = false)
    (hr : (s.serCh c).receiving = true) :
    runs (.serCharRx c v false stop gap dt) s fun t => (t.serCh c).receiving = false ∧ (t.serCh c).chars = [] ∧ (t.serCh c).lastError = 2 := by
  have hh1 : ((s.adv dt).serTabOf c).half = false := hh
  have hr1 : ((s.adv dt).serCh c).receiving = true := hr
  refine ⟨_, congrArg Host.Outcome.next (if_pos hon), ?_⟩
  simp only [hh1, hr1, Bool.false_and, Bool.false_eq_true, Bool.not_false, ↓reduceIte]
  exact State.serCh_serDiscard _ _ _ _

theorem ser_gap (c dt : Nat) (s : State) (hon : s.serOn c = true) (hr : (s.serCh c).receiving = true) (hi : (s.serTabOf c).icg ≠ 0) :
    runs (.serGapTimeout c false dt) s fun t => (t.serCh c).receiving = false ∧ (t.serCh c).lastError = 4 := by
  have hi1 : ((s.adv dt).serTabOf c).icg ≠ 0 := hi
  refine ⟨_, congrArg Host.Outcome.next (if_pos ⟨hon, hr⟩), ?_⟩
  simp only [hi1, Bool.false_and, Bool.false_eq_true, ne_eq, not_false_eq_true, ↓reduceIte]
  obtain ⟨hrec, -, herr⟩ := (s.adv dt).serCh_serDiscard c 8 4
  exact ⟨hrec, herr⟩

theorem ser_queues (c a prio : Nat) (pl : List Nat) (s : State) (hon : s.serOn c = true) (ha : (s.serTabOf c).accepts pl = true)
    (hm : (s.serCh c).mode = .waiting) (ht : (s.serCh c).txq = []) :
    runs (.serTxQueue c a pl prio) s fun t => (t.serCh c).txq =
      [{ addr := a % 2 ^ 32, payload := pl, prio := max 1 (min 8 prio), at_ := s.tim.ticks }] := by
  refine ⟨_, congrArg Host.Outcome.next ((if_pos hon).trans (if_pos ha)), ?_⟩
  unfold State.serQueue
  rw [ht]
  dsimp only [List.filter_nil, List.length_nil]
  rw [if_neg (by split <;> [split; skip] <;> omega), State.serCh_modSer_self, hm, if_neg (by decide), ht]
  rfl

theorem ser_lineIdle (c dt : Nat) (s : State) (hon : s.serOn c = true) (hm : (s.serCh c).mode = .waiting) :
    runs (.serLineIdle c dt) s fun t => (t.serCh c).mode = .lead ∧ (t.serCh c).attempts = (s.serCh c).attempts + 1 := by
  refine ⟨_, congrArg Host.Outcome.next (if_pos ⟨hon, hm⟩), ?_⟩
  dsimp only
  rw [State.serCh_modSer_self]
  exact ⟨rfl, rfl⟩

theorem ser_transmits (c dt : Nat) (m : SerTx) (s : State) (hon : s.serOn c = true) (hc : (s.serCh c).cur = some m) (ho : m.origin = .plain) :
    ((s.serCh c).mode = .lead → runs (.serDeLeadEnd c dt) s fun t => (t.serCh c).mode = .sending ∧
      (t.serCh c).line = (s.serTabOf c).send m.addr m.payload) ∧
    ((s.serCh c).mode = .lag → (s.serCh c).txq = [] → runs (.serDeLagEnd c dt) s fun t => (t.serCh c).mode = .ready ∧ (t.serCh c).cur = none) ∧
    ((s.serCh c).mode = .waiting → (s.serCh c).txLife ≠ 0 → (s.serCh c).txq = [] →
      runs (.serTxExpired c) s fun t => (t.serCh c).mode = .ready ∧ (t.serCh c).cur = none) := by
  have hfill (u : State) (tab : Nat) : u.fillSer tab m = some m := by
    unfold State.fillSer
    rw [ho]
  refine ⟨fun hm => ⟨_, rfl, ?_⟩, fun hm ht => ⟨_, rfl, ?_⟩, fun hm hl ht => ⟨_, rfl, ?_⟩⟩
  · dsimp only
    rw [hc]
    dsimp only
    rw [if_pos ⟨hon, hm⟩, hfill]
    dsimp only
    rw [State.serCh_modSer_self]
    exact ⟨rfl, rfl⟩
  · dsimp only
    rw [hc]
    dsimp only
    rw [if_pos ⟨hon, hm⟩, State.serCh_modSer_self, State.serCh_slotSent, State.serCh_txCount]
    exact SerCh.ready_of_empty ht
  · dsimp only
    rw [hc]
    dsimp only
    rw [if_pos ⟨hon, hm, hl⟩, State.serCh_modSer_self, State.serCh_edgeCount]
    exact SerCh.ready_of_empty ht

theorem ser_charSent (c v dt : Nat) (rest : List Nat) (s : State) (hon : s.serOn c = true) (hm : (s.serCh c).mode = .sending)
    (hl : (s.serCh c).line = v :: rest) :
    runs (.serCharSent c v dt) s fun t => (t.serCh c).line = rest ∧ (t.serCh c).mode = (if rest.isEmpty then .lag else .sending) ∧
      Output.serChar c v ∈ t.out := by
  refine ⟨_, rfl, ?_⟩
  dsimp only
  rw [hl]
  dsimp only
  rw [if_pos ⟨hon, hm⟩, if_neg (fun h => h.2 rfl), State.serCh_modSer_self]
  exact ⟨rfl, rfl, List.mem_append_right _ List.mem_cons_self⟩

theorem gw_timeMessage (c : Nat) (s : State) (hon : s.canOn c = true) (hen : (s.canCh c).timeEn = true)
    (hv : s.edge.isValid (s.canCh c).timeTable 2 = true) (hok : s.timeOk = true) (ht : (s.canCh c).txq = []) (hs : (s.canCh c).sending = none) :
    runs (.timeMsgInstant c) s fun t => ∃ x : CanTx, x.origin = .timeMsg ∧ (t.canCh c).txq = [x] := by
  have hc : c ≤ 5 := by
    unfold State.canOn at hon
    simp only [Bool.and_eq_true, decide_eq_true_eq] at hon
    exact hon.1.1
  refine ⟨_, rfl, ?_⟩
  simp only [hc, decide_true, hon, hen, hv, Bool.and_self, and_self, ↓reduceIte]
  generalize hs1 : (s.advQ _).modGw _ = s1
  have h1 : s1.canCh c = s.canCh c ∧ s1.timeOk = true := by
    rw [← hs1]
    exact ⟨rfl, hok⟩
  obtain ⟨hch, hok1⟩ := h1
  simp only [hch, ht, hs, hok1, List.any_nil, Bool.or_self, Bool.false_eq_true, Bool.true_eq_false, or_self, ↓reduceIte]
  exact ⟨_, rfl, State.canQueue_idle (by rw [hch, ht]) (by rw [hch, hs]) _ _⟩

theorem gw_uplink (c : Nat) (m : GwMsg) (s s1 : State) (hc : c ≤ 17) (hr : s.cuffRuns = true) (hm : s.rxTake c = some (m, s1)) :
    (s1.gw.upMatch c m = none → runs (.gwUplinkMatch c) s fun t =>
      Tbl.get zeroAt t.gw.unmatched c = sat36 (Tbl.get zeroAt s1.gw.unmatched c) 1) ∧
    (∀ (i : Nat) (s2 : State), s1.gw.upMatch c m = some i → s1.entMatch false i = (s2, true) → (s2.upEnt i).fld 1 19 19 = 1 →
      (s2.upEnt i).fld 1 7 7 = 0 → runs (.gwUplinkMatch c) s fun t =>
        let b := (s2.upEnt i).fld 1 18 13
        t = s2.joinBundle b (s2.zon.chanZone c) (m.acf ((s2.upEnt i).fld 1 12 8) ((s2.bundle b).fld 1 27 27 == 1))) := by
  have hgo : ¬ (17 < c ∨ s.cuffRuns = false) := by
    rw [hr]
    simp
    omega
  refine ⟨fun hn => ⟨_, congrArg Host.Outcome.next (if_neg hgo), ?_⟩, fun i s2 hi he h19 h7 => ⟨_, congrArg Host.Outcome.next (if_neg hgo), ?_⟩⟩
  · rw [hm]
    dsimp only
    rw [hn]
    dsimp only
    rw [State.gw_gwCount]
    exact Tbl.get_put_self _ _ _ _
  · rw [hm]
    dsimp only
    rw [hi]
    dsimp only
    rw [he]
    dsimp only
    rw [if_pos h19, if_neg (by omega)]

theorem gw_decodes (x : GwIn) (rest : List GwIn) (a : Nat) (m : List Byte) (s : State) (hin : s.gw.inbox = x :: rest) (hr : s.cuffRuns = true) :
    (avtpAt (bodyOf x.bytes) = none → runs .gwFrameDecode s fun t => t.gw.inbox = rest ∧ t.gw.badAvtp = sat36 s.gw.badAvtp 1) ∧
    (avtpAt (bodyOf x.bytes) = some a →
      acfSplit (slice (bodyOf x.bytes) (a + 12) (beVal (slice (bodyOf x.bytes) (a + 1) 2) % 2048))
        (beVal (slice (bodyOf x.bytes) (a + 1) 2) % 2048 / 4 + 1) = ([m], false) →
      a + 12 + beVal (slice (bodyOf x.bytes) (a + 1) 2) % 2048 ≤ (bodyOf x.bytes).length →
      acfHdr (bitsOf (beVal (slice m 0 4)) 31 25) ≤ m.length →
      runs .gwFrameDecode s fun t => t = (s.modGw fun g => { g with inbox := rest }).gwDown x m) := by
  have hrun : ¬ s.cuffRuns = false := by
    rw [hr]
    exact Bool.noConfusion
  refine ⟨fun ha => ⟨_, rfl, ?_⟩, fun ha hsplit hlen hhdr => ⟨_, rfl, ?_⟩⟩
  · dsimp only
    rw [hin]
    dsimp only
    rw [if_neg hrun, ha]
    dsimp only
    rw [State.gw_gwCount]
    exact ⟨rfl, rfl⟩
  · dsimp only
    rw [hin]
    dsimp only
    rw [if_neg hrun, ha]
    dsimp only
    rw [hsplit]
    dsimp only
    have h1 : [m].filter (fun m => decide (acfHdr (bitsOf (beVal (slice m 0 4)) 31 25) ≤ m.length)) = [m] := by simp [hhdr]
    have h2 : [m].any (fun m => decide (m.length < acfHdr (bitsOf (beVal (slice m 0 4)) 31 25))) = false := by
      simp
      omega
    have h3 : decide ((bodyOf x.bytes).length < a + 12 + beVal (slice (bodyOf x.bytes) (a + 1) 2) % 2048) = false := by
      rw [decide_eq_false_iff_not]
      omega
    rw [h1, h2, h3]
    rfl

theorem gw_periodic (n : Nat) (d : List Byte) (s : State) (hn : n ≤ 255) (hc : (s.perSlot n).chan ≤ 5)
    (hon : s.canOn (s.perSlot n).chan = true) (hd : (s.perSlot n).live = some d) (ht : (s.canCh (s.perSlot n).chan).txq = [])
    (hs : (s.canCh (s.perSlot n).chan).sending = none) :
    runs (.periodicSlotInstant n) s fun t => ∃ x : CanTx, x.origin = .slot n ∧ (t.canCh (s.perSlot n).chan).txq = [x] := by
  have hv : (s.perSlot n).valid = true := by
    unfold PerSlot.live at hd
    split at hd
    · rename_i h
      rw [Bool.and_eq_true] at h
      exact h.1
    · exact absurd hd (by simp)
  refine ⟨_, congrArg Host.Outcome.next (if_pos ⟨hn, hv, (congrArg (· = true) (if_pos hc)).mpr hon⟩), ?_⟩
  dsimp only
  generalize hs1 : (s.advQ _).modSlot n _ = s1
  have hch : s1.canCh (s.perSlot n).chan = s.canCh (s.perSlot n).chan := by
    rw [← hs1]
    rfl
  rw [hd]
  simp only [hc, hch, ht, hs, List.any_nil, Bool.or_self, Bool.false_eq_true, ↓reduceIte]
  exact ⟨_, rfl, State.canQueue_idle (by rw [hch, ht]) (by rw [hch, hs]) _ _⟩

theorem gw_stale (n : Nat) (s : State) (hn : n ≤ 255) (hv : (s.perSlot n).valid = true) (hd : (s.perSlot n).data.isSome = true)
    (hst : (s.perSlot n).isStale = false) (h0 : (s.perSlot n).fld 4 35 20 ≠ 0) (hr : s.cuffRuns = true) (hh : s.pair.held = false) :
    runs (.periodicStale n) s fun t => (t.perSlot n).isStale = true ∧ (t.perSlot n).stale = sat36 (s.perSlot n).stale 1 := by
  obtain ⟨t, hexec, hslot, -⟩ := periodicStale_of_freshRuns ⟨hn, hv, hd, hst, h0, hr, hh⟩
  exact ⟨t, hexec, (congrArg PerSlot.isStale hslot :), (congrArg PerSlot.stale hslot :)⟩

/-- Settles O42: each event of a serial engine or of the gateway is its equation, the channel or slot it names read back. -/
theorem serialEnginesAndGatewayMoveMessages : Obligations.SerialEnginesAndGatewayMoveMessages := by
  refine ⟨ser_badChar, ser_gap, ser_queues, ser_lineIdle, ser_transmits, ser_charSent, fun c dt s hc hen hm => ?_, gw_timeMessage, gw_uplink,
    fun b s hb ha hr => ⟨_, congrArg Host.Outcome.next (if_pos ⟨hb, ha, hr⟩), rfl⟩, gw_decodes, gw_periodic, gw_stale⟩
  exact ⟨_, congrArg Host.Outcome.next (if_pos ⟨hc, hen⟩), (State.wakeSource_asleep (s.adv dt) { kind := 3, src := c } hm (by simp) (by simp)).1⟩

end Sys2Proof.Machine
end

section
/-! PROOFS. What frames, answers and updates leave of the core pair. -/

namespace Sys2Proof.Machine

/-! ### Buffers given back leave the core pair -/

@[simp] theorem State.raiseHost_pair (s : State) (p : Path) (f : HostFlag) : (s.raiseHost p f).pair = s.pair := State.raiseAt_pair _ _ _ _

@[simp] theorem State.errTick_pair (s : State) (d : Fab) (pool kind : Nat) : (s.errTick d pool kind).pair = s.pair := by
  unfold State.errTick
  repeat' split
  all_goals exact State.poolTick_pair _ _ _ _ _

@[simp] theorem State.poolError_pair (s : State) (d : Fab) (kind pool i x o n : Nat) : (s.poolError d kind pool i x o n).pair = s.pair := by
  unfold State.poolError
  dsimp only
  split
  · simp
  · simp

@[simp] theorem State.useDown_pair (s : State) (d : Fab) (p n : Nat) : (s.useDown d p n).pair = s.pair := State.modPool_pair _ _ _

@[simp] theorem State.putBuf_pair (s : State) (d : Fab) (p i : Nat) (r : BufRec) : (s.putBuf d p i r).pair = s.pair := State.modPool_pair _ _ _

@[simp] theorem State.shareMsg_pair (s : State) (d : Fab) (p i x k : Nat) : (s.shareMsg d p i x k).1.pair = s.pair := by
  unfold State.shareMsg
  dsimp only
  repeat' split
  all_goals simp

@[simp] theorem State.releaseMsg_pair (s : State) (d : Fab) (p i x : Nat) : (s.releaseMsg d p i x).1.pair = s.pair := by
  unfold State.releaseMsg
  dsimp only
  repeat' split
  all_goals simp

@[simp] theorem State.freeMsg_pair (s : State) (d : Fab) (p i x : Nat) : (s.freeMsg d p i x).1.pair = s.pair := by
  unfold State.freeMsg
  dsimp only
  repeat' split
  all_goals simp

@[simp] theorem State.freeBufs_pair (s : State) (bufs : List (Fab × Nat × Nat)) : (s.freeBufs bufs).pair = s.pair :=
  State.foldl_pair _ (fun s b => by simp [State.handOver]) _ _

@[simp] theorem State.freeCell_pair (s : State) (d : Fab) (c : Nat) : (s.freeCell d c).pair = s.pair := by
  unfold State.freeCell
  rw [State.useDown_pair, State.modPool_pair]

theorem State.freeWalk_pair (s : State) (d : Fab) (x n c : Nat) : (s.freeWalk d x n c).pair = s.pair := by
  induction n generalizing s c with
  | zero => rfl
  | succ n ih =>
    unfold State.freeWalk
    dsimp only
    generalize hs1 : (if (s.pool d).cellFree c = true then _ else s.freeCell d c) = s1
    have h1 : s1.pair = s.pair := by
      rw [← hs1]
      split
      · exact State.poolError_pair _ _ _ _ _ _ _ _
      · exact State.freeCell_pair _ _ _
    split
    · exact h1
    · rw [ih, h1]

@[simp] theorem State.freeCellChain_pair (s : State) (d : Fab) (c x : Nat) : (s.freeCellChain d c x).1.pair = s.pair := by
  unfold State.freeCellChain
  dsimp only
  repeat' split
  all_goals simp [State.freeWalk_pair]

@[simp] theorem State.freeUnits_pair (s : State) (d : Fab) (c x : Nat) (us : List Nat) : (s.freeUnits d c x us).pair = s.pair := by
  refine State.foldl_pair _ (fun s u => ?_) _ _
  unfold State.freeUnit
  repeat' split
  all_goals simp

@[simp] theorem State.releaseCell_pair (s : State) (d : Fab) (c x : Nat) : (s.releaseCell d c x).1.pair = s.pair := by
  unfold State.releaseCell
  dsimp only
  repeat' split
  all_goals simp

theorem State.releaseCopy_pair (s : State) (d : Fab) (fid : Nat) (c : Copy) : (s.releaseCopy d fid c).pair = s.pair := by
  unfold State.releaseCopy
  split
  · rfl
  · have htidy (u : State) : (u.tidy d fid).pair = u.pair := by
      unfold State.tidy
      repeat' split
      all_goals simp [State.forget]
    dsimp only
    rw [htidy]
    refine (State.modFab_pair _ _ _).trans ((State.modPool_pair _ _ _).trans ?_)
    repeat' split
    all_goals simp [State.chainLast, State.modFrame]

theorem State.flushOutput_pair (s : State) (d : Fab) (o : Nat) : (s.flushOutput d o).pair = s.pair := by
  unfold State.flushOutput
  refine (State.modFab_pair _ _ _).trans (State.foldl_pair _ (fun s e => ?_) _ _)
  rw [State.releaseCopy_pair]
  exact State.modFab_pair _ _ _

/-! ### Answers and fences leave the core pair -/

theorem State.fifoPut_pair (s : State) (p : Path) (ws : List Word) : (s.fifoPut p ws).pair = s.pair := by
  unfold State.fifoPut
  dsimp only
  split
  · exact (State.raiseHost_pair _ _ _).trans ((State.raiseHost_pair _ _ _).trans rfl)
  · exact (State.raiseHost_pair _ _ _).trans rfl

theorem State.place_pair (s : State) (pd : Pend) (intent : Bool) (ws : List Word) : (s.place pd intent ws).pair = s.pair := by
  unfold State.place
  dsimp only
  split
  · exact State.freeBufs_pair _ _
  · rfl
  · rfl
  · split
    · rw [State.fifoPut_pair, State.freeBufs_pair]
    · rfl

theorem State.respond_pair (s : State) (pd : Pend) (c : Code) (payload : List Word) (cs : List Clamp) (intent : Bool) :
    (s.respond pd c payload cs intent).pair = s.pair := by
  unfold State.respond
  split
  · exact State.freeBufs_pair _ _
  · exact State.place_pair _ _ _ _

theorem State.timeoutOrphans_pair (s : State) : s.timeoutOrphans.pair = s.pair := by
  refine State.foldl_pair _ (fun s p => ?_) _ _
  split
  · split
    · rw [State.respond_pair]
      rfl
    · rfl
  · rfl

theorem State.forgetPath_pair (s : State) (p : Path) : (s.forgetPath p).pair = s.pair := by
  unfold State.forgetPath
  simp only [State.modSys_pair, State.modSeal_pair, State.modStk_pair]
  rw [State.foldl_pair _ fun u n => State.modPort_pair u n _, State.modTim_pair, State.modTab_pair]

theorem State.fence_pair (s : State) : s.fence.pair = s.pair := by
  refine State.foldl_pair _ (fun s p => ?_) _ _
  dsimp only
  split
  · rfl
  · rw [State.modPath_pair]
    split
    · exact State.forgetPath_pair _ _
    · rfl

/-! ### The update leaves the core pair and the domains -/

theorem State.dropToken_pair (s : State) (a o : Nat) : (s.dropToken a o).pair = s.pair := by
  unfold State.dropToken
  dsimp only
  split
  · exact State.raiseDev_pair _ _
  · rfl

theorem State.slotTo_pair (s : State) (n : Nat) (m : SlotMode) : (s.slotTo n m).pair = s.pair := by
  unfold State.slotTo
  split
  · exact State.raiseDev_pair _ _
  · rfl

theorem State.updTo_pair (s : State) (m : UpdMode) : (s.updTo m).pair = s.pair := by
  unfold State.updTo
  dsimp only
  split
  · rw [State.dropToken_pair, State.raiseDev_pair]
    rfl
  · exact State.raiseDev_pair _ _

theorem State.rejectTarget_pair (s : State) (why : Nat) : (s.rejectTarget why).pair = s.pair := by
  rw [State.rejectTarget, State.modImg_pair, State.slotTo_pair]

theorem State.updateFault_pair (s : State) : s.updateFault.pair = s.pair := by
  unfold State.updateFault
  split
  · rw [State.modImg_pair, State.updTo_pair, State.rejectTarget_pair]
  · rw [State.updTo_pair, State.rejectTarget_pair]
  · rfl

/-! ### A core alone in the lead -/

/-- Core `d` is active and the pair runs on it alone, with no gap and no promotion. -/
structure PairSt.Alone (p : PairSt) (d : Fab) : Prop where
  active : p.active = d
  single : p.mode = .single
  runs : (p.core d).mode = .active
  free : p.held = false
  settled : p.promoting = none

/-- A change of one core that keeps the state of the active one. -/
theorem PairSt.Alone.modCore {p : PairSt} {d : Fab} (h : p.Alone d) (c : Fab) (f : CoreSt → CoreSt)
    (hf : c = d.other ∨ ∀ k, (f k).mode = k.mode) : (p.modCore c f).Alone d := by
  obtain ⟨ha, hs, hr, hh, hp⟩ := h
  have hc : ((p.modCore c f).core d).mode = (p.core d).mode := by
    obtain rfl | hm := hf
    · cases d <;> rfl
    · cases c <;> cases d <;> first | exact hm _ | rfl
  cases c
  · exact ⟨ha, hs, hc.trans hr, hh, hp⟩
  · exact ⟨ha, hs, hc.trans hr, hh, hp⟩

theorem PairSt.Alone.of_eq {p q : PairSt} {d : Fab} (h : p.Alone d) (e : q = p) : q.Alone d := e ▸ h

/-- The Lining that grows stale degrades a pair of two cores alone. -/
theorem PairSt.Alone.stale {p : PairSt} {d : Fab} (h : p.Alone d) :
    PairSt.Alone { p with mode := if p.mode = .normal then .degraded else p.mode, snapDone := false, inSnapshot := false, snapOut := false } d := by
  refine ⟨h.active, ?_, h.runs, h.free, h.settled⟩
  dsimp only
  rw [h.single]
  rfl

/-- A core that starts anew leaves a pair that runs on one core alone. -/
theorem PairSt.Alone.rejoin {p : PairSt} {d : Fab} (h : p.Alone d) :
    PairSt.Alone { p with mode := if p.mode = .normal ∨ p.mode = .degraded then .single else p.mode } d := by
  refine ⟨h.active, ?_, h.runs, h.free, h.settled⟩
  dsimp only
  rw [h.single]
  rfl

theorem PairSt.Alone.coreTick {s : State} {d : Fab} (h : s.pair.Alone d) (c : Fab) (get : CoreSt → Nat) (set : CoreSt → Nat → CoreSt)
    (hf : ∀ k n, (set k n).mode = k.mode) : (s.coreTick c get set).pair.Alone d :=
  (h.modCore c (fun k => set k (sat36 (get k) 1)) (.inr fun _ => hf _ _)).of_eq (State.satRaise_raiseDie_pair _ _ _ _ _)

theorem PairSt.Alone.becomeStale {s : State} {d : Fab} (h : s.pair.Alone d) : s.becomeStale.pair.Alone d := by
  have hstandby : s.standby = d.other := congrArg Fab.other h.active
  unfold State.becomeStale
  dsimp only
  split
  · have h1 := h.coreTick s.standby CoreSt.liningStales (fun k n => { k with liningStales := n }) fun _ _ => rfl
    have h2 := h1.modCore s.standby (fun k => { k with mode := .stale }) (.inl hstandby)
    exact h2.stale.of_eq ((State.logFault_pair _ _ _ _).trans (State.raiseDev_pair _ _))
  · exact ⟨h.active, h.single, h.runs, h.free, h.settled⟩

theorem PairSt.Alone.journal {s : State} {d : Fab} (h : s.pair.Alone d) (kind : Nat) (payload : List Word) :
    (s.journal kind payload).pair.Alone d := by
  unfold State.journal
  dsimp only
  split
  · have ha := s.allocMsg_pair s.pair.active 0x46 ((payload.take 255).length + 1) true
    cases hx : s.allocMsg s.pair.active 0x46 ((payload.take 255).length + 1) true with
    | mk t o =>
      rw [hx] at ha
      have ht : t.pair.Alone d := h.of_eq ha
      cases o with
      | none => exact ht.becomeStale
      | some b =>
        dsimp only
        generalize hs3 : State.modCore _ _ _ = s3
        have h3 : s3.pair.Alone d := by
          rw [← hs3]
          generalize hs2 : t.modPair _ = s2
          have h2 : s2.pair.Alone d := by
            rw [← hs2]
            exact ⟨ht.active, ht.single, ht.runs, ht.free, ht.settled⟩
          exact h2.modCore s2.pair.active (fun k => { k with liningRecords := add72 k.liningRecords 1 }) (.inr fun _ => rfl)
        split
        · exact h3.becomeStale
        · exact h3
  · exact h

theorem PairSt.Alone.foldl {α : Type} {d : Fab} (n : State → α → State) (hn : ∀ s a, s.pair.Alone d → (n s a).pair.Alone d) (l : List α)
    {s : State} (h : s.pair.Alone d) : (l.foldl n s).pair.Alone d := by
  induction l generalizing s with
  | nil => exact h
  | cons a l ih => exact ih (hn s a h)

theorem PairSt.Alone.finish {s : State} {d : Fab} (h : s.pair.Alone d) (p : Path) (c : Code) (payload : List Word) (kinds : List Nat) :
    (s.finish p c payload kinds).pair.Alone d := by
  have hwritten (u : State) (op : Nat) (r : Req) : (u.written op r).pair = u.pair := by
    unfold State.written State.unseal
    split <;> rfl
  unfold State.finish
  split
  · exact h
  · split
    · exact h
    · refine PairSt.Alone.of_eq ?_ (State.respond_pair _ _ _ _ _ _)
      refine iteInduction (motive := fun u : State => u.pair.Alone d) (fun _ => ?_) (fun _ => h)
      refine PairSt.Alone.journal ?_ _ _
      refine PairSt.Alone.foldl _ (fun u k hu => ?_) _ ?_
      · refine PairSt.Alone.journal ?_ k _
        exact hu
      · exact iteInduction (motive := fun u : State => u.pair.Alone d) (fun _ => h.of_eq (hwritten _ _ _)) (fun _ => h)

theorem PairSt.Alone.startCatchUp {s : State} {d : Fab} (h : s.pair.Alone d) : s.startCatchUp.pair.Alone d := by
  have h1 := h.modCore s.standby (fun k => { k with mode := .catchingUp }) (.inl (congrArg Fab.other h.active))
  unfold State.startCatchUp State.sendSnapshot
  refine PairSt.Alone.journal (PairSt.Alone.foldl _ (fun u k hu => PairSt.Alone.journal hu k _) _ (PairSt.Alone.journal ?_ _ _)) _ _
  exact ⟨h1.active, h1.single, h1.runs, h1.free, h1.settled⟩

theorem State.modCore_modCore_pair (s : State) (c : Fab) (f g : CoreSt → CoreSt) :
    ((s.modCore c f).modCore c g).pair = s.pair.modCore c fun k => g (f k) := by
  cases c <;> rfl

/-- A core that starts changes the pair in its own place alone. -/
theorem State.startCore_pair (s : State) (c : Fab) (n : Nat) : ∃ f, (s.startCore c n).pair = s.pair.modCore c f := by
  unfold State.startCore
  dsimp only
  generalize hs1 : (if s.dom (coreDom c) = .on then s else s.domTo (coreDom c) .on) = s1
  have hif (b : Prop) [Decidable b] (u : State) (k : Nat) (hu : u.pair = s.pair) : (if b then s else u.arrives k).pair = s.pair := by
    split
    · rfl
    · unfold State.arrives
      split
      · exact hu
      · exact hu
  have h1 : s1.pair = s.pair := by
    rw [← hs1]
    split
    · rfl
    · cases c
      · exact hif _ _ 1 rfl
      · exact hif _ _ 2 rfl
  rw [State.loadCore_pair, State.modCore_modCore_pair, h1]
  exact ⟨_, rfl⟩

theorem State.dropLining_pair (s : State) :
    s.dropLining.pair = { s.pair with sent := [], snapOut := false, inSnapshot := false, snapDone := false } := by
  unfold State.dropLining
  rw [State.modPair_pair, State.freeBufs_pair]

/-- The core that stands by starts anew under the one that leads. -/
theorem PairSt.Alone.restartStandby {s : State} {d : Fab} (h : s.pair.Alone d) (n : Nat) : (s.restartStandby n).pair.Alone d := by
  have hstandby : s.standby = d.other := congrArg Fab.other h.active
  have hdetach : (s.detach s.standby).pair.Alone d := by
    have hne : s.standby ≠ d := by
      rw [hstandby]
      cases d <;> exact Fab.noConfusion
    unfold State.detach
    dsimp only
    split
    · generalize hs1 : State.dropToken _ _ _ = s1
      have h1 : s1.pair.Alone d := by
        rw [← hs1]
        refine PairSt.Alone.of_eq ?_ (State.dropToken_pair _ _ _)
        exact h.modCore s.standby (fun k => { k with attached := false, halted := false, breaks := [], replay := [], regs := [] })
          (.inl hstandby)
      rw [if_neg (by rw [h1.active]; exact hne)]
      exact h1
    · exact h
  have hdrop : (s.detach s.standby).dropLining.pair.Alone d := by
    rw [State.dropLining_pair]
    exact ⟨hdetach.active, hdetach.single, hdetach.runs, hdetach.free, hdetach.settled⟩
  unfold State.restartStandby
  refine PairSt.Alone.startCatchUp ?_
  obtain ⟨f, hf⟩ := (s.detach s.standby).dropLining.startCore_pair s.standby n
  exact ((hdrop.modCore s.standby f (.inl hstandby)).of_eq hf).rejoin

end Sys2Proof.Machine
end

section
/-! PROOFS. The safety cores. -/

namespace Sys2Proof.Machine

/-! ### One core -/

theorem State.core_of_pair {s t : State} (h : t.pair = s.pair) (d : Fab) : t.core d = s.core d := by
  unfold State.core
  rw [h]

theorem State.modCore_pair_keeps (s : State) (c : Fab) (f : CoreSt → CoreSt) :
    (s.modCore c f).pair.active = s.pair.active ∧ (s.modCore c f).pair.promoting = s.pair.promoting ∧
      (s.modCore c f).pair.mode = s.pair.mode := by
  cases c <;> exact ⟨rfl, rfl, rfl⟩

theorem State.core_coreTick (s : State) (c : Fab) (get : CoreSt → Nat) (set : CoreSt → Nat → CoreSt) :
    (s.coreTick c get set).core c = set (s.core c) (sat36 (get (s.core c)) 1) := by
  unfold State.coreTick
  dsimp only
  rw [State.core_of_pair (State.satRaise_raiseDie_pair _ _ _ _ _), State.core_modCore]

theorem State.core_owes (s : State) (c : Fab) (checker : Bool) :
    (s.owes c checker).core c = { s.core c with report := if (s.core c).report.isSome then (s.core c).report else some checker,
                                                guardStopped := (s.core c).guardStopped || checker } := State.core_modCore _ _ _

/-- A core that owes a report has one. -/
theorem owes_report (r : Option Bool) (b : Bool) : (if r.isSome = true then r else some b).isSome = true := by
  cases r <;> rfl

/-- An error of the hold parity is counted; the segments stay (12 R334). -/
theorem State.core_holdParity (s : State) (c : Fab) :
    ((s.holdParity c).core c).holdParity = sat36 (s.core c).holdParity 1 ∧ ((s.holdParity c).core c).segments = (s.core c).segments := by
  unfold State.holdParity
  dsimp only
  generalize hs2 : State.modCore _ c _ = s2
  have h2 : (s2.core c).holdParity = sat36 (s.core c).holdParity 1 ∧ (s2.core c).segments = (s.core c).segments := by
    rw [← hs2, State.core_modCore]
    dsimp only
    rw [State.core_coreTick]
    exact ⟨rfl, rfl⟩
  split
  · rw [State.core_owes]
    exact h2
  · exact h2

/-- A tripwire is counted, and missed where it does not pass (12 R332). -/
theorem State.core_tripwire (s : State) (c : Fab) (ok : Bool) :
    ((s.tripwire c ok).core c).tripwireRuns = add72 (s.core c).tripwireRuns 1 ∧ ((s.tripwire c ok).core c).tripPass = ((s.core c).tripPass + 1) % 3 ∧
      (ok = true → ((s.tripwire c ok).core c).tripwireMisses = (s.core c).tripwireMisses) := by
  unfold State.tripwire
  cases ok with
  | true =>
    dsimp only
    rw [if_pos rfl, State.core_modCore]
    exact ⟨rfl, rfl, fun _ => rfl⟩
  | false =>
    dsimp only
    rw [if_neg Bool.false_ne_true, State.core_coreTick, State.core_modCore]
    exact ⟨rfl, rfl, fun h => absurd h Bool.false_ne_true⟩

/-! ### A core that fails -/

theorem State.detach_of_free {s : State} {d : Fab} (h : (s.core d).attached = false) : s.detach d = s :=
  if_neg (by rw [h]; exact Bool.false_ne_true)

/-- The active core that fails while the device forwards starts a promotion (12 R343). -/
theorem State.coreFails_active {s : State} {c : Fab} (cls : Nat) (hc : c = s.pair.active) (hatt : (s.core c).attached = false)
    (hst : s.sys.start = .forwarding) (hp : s.pair.promoting = none) (hg : s.pair.mode ≠ .gap) (hr : s.pair.mode ≠ .restart) :
    (s.coreFails c cls).pair.promoting = some cls ∧
      (s.coreFails c cls).core c = { s.core c with lastFault := cls, report := none } := by
  unfold State.coreFails
  dsimp only
  generalize hs0 : s.modCore c _ = s0
  have hp0 : s0.pair.active = s.pair.active ∧ s0.pair.promoting = s.pair.promoting ∧ s0.pair.mode = s.pair.mode := by
    rw [← hs0]
    cases c <;> exact ⟨rfl, rfl, rfl⟩
  have hc0 : s0.core c = { s.core c with lastFault := cls, report := none } := by
    rw [← hs0, State.core_modCore]
  have hs0sys : s0.sys = s.sys := by
    rw [← hs0]
    rfl
  generalize hs1 : (if cls = 3 then s0.raiseDev .coreFault else if cls = 4 then s0.raiseDev .checkerFault else s0) = s1
  have h1 : s1.pair = s0.pair ∧ s1.sys = s0.sys := by
    rw [← hs1]
    split
    · exact ⟨State.raiseDev_pair _ _, State.raiseDev_sys _ _⟩
    · split
      · exact ⟨State.raiseDev_pair _ _, State.raiseDev_sys _ _⟩
      · exact ⟨rfl, rfl⟩
  have hcore1 : s1.core c = s0.core c := State.core_of_pair h1.1 c
  rw [if_pos (by rw [h1.1, hp0.1]; exact hc), State.detach_of_free (by rw [hcore1, hc0]; exact hatt)]
  obtain ⟨l, n, hlog⟩ := s1.logFault_sys (3 + cls) c.num 0
  have hlp := s1.logFault_pair (3 + cls) c.num 0
  generalize s1.logFault (3 + cls) c.num 0 = s2 at *
  have hstart : s2.sys.start = .forwarding := by
    rw [hlog, h1.2, hs0sys]
    exact hst
  have hpair : s2.pair.promoting = none ∧ s2.pair.mode = s.pair.mode := by
    rw [hlp, h1.1, hp0.2.1, hp0.2.2]
    exact ⟨hp, rfl⟩
  rw [if_neg (by rw [hstart]; exact fun h => StartMode.noConfusion h.1),
    if_neg (by rw [hpair.1, hpair.2, hstart]; simp [hg, hr])]
  refine ⟨rfl, ?_⟩
  have hcore : s2.updateFault.core c = { s.core c with lastFault := cls, report := none } := by
    rw [State.core_of_pair (State.updateFault_pair _), State.core_of_pair hlp, hcore1, hc0]
  rw [← hcore]
  cases c <;> rfl

theorem State.updateFault_pow (s : State) : s.updateFault.pow = s.pow := by
  have h (why : Nat) (m : UpdMode) : ((s.rejectTarget why).updTo m).pow = s.pow :=
    congrArg Slices.pow (State.onlyIn.trans frame_onImg (s.rejectTarget_onlyIn why) (State.updTo_onlyIn _ m))
  unfold State.updateFault
  split
  · rw [State.modImg_pow, h]
  · exact h 3 .fallback
  · rfl

theorem State.dropToken_has (s : State) (a o n : Nat) : (s.dropToken a o).has n = s.has n := by
  unfold State.dropToken State.has
  dsimp only
  split
  · rw [State.raiseDev_sys]
    rfl
  · rfl

theorem State.detach_has (s : State) (c : Fab) (n : Nat) : (s.detach c).has n = s.has n := by
  unfold State.detach
  dsimp only
  split
  · generalize hs1 : State.dropToken _ _ _ = s1
    have h1 : s1.has n = s.has n := by
      rw [← hs1, State.dropToken_has]
      rfl
    split
    · exact h1
    · exact h1
  · rfl

theorem State.logFault_has (s : State) (code die x n : Nat) : (s.logFault code die x).has n = s.has n := by
  obtain ⟨l, k, h⟩ := s.logFault_sys code die x
  unfold State.has
  rw [h]

/-- A core whose die is gone fails for good: no domain is switched on for it. -/
theorem State.coreFails_pow {s : State} {c : Fab} (cls : Nat) (h : s.has c.num = false) : (s.coreFails c cls).pow = s.pow := by
  unfold State.coreFails
  dsimp only
  generalize hs0 : s.modCore c _ = s0
  have h0 : s0.pow = s.pow ∧ s0.has c.num = s.has c.num := by
    rw [← hs0]
    exact ⟨rfl, rfl⟩
  have hraise (f : DevFlag) : (s0.raiseDev f).pow = s.pow ∧ (s0.raiseDev f).has c.num = s.has c.num := by
    unfold State.has at h0 ⊢
    rw [State.pow_of_wide (State.raiseDev_wide _ _), State.raiseDev_sys]
    exact h0
  generalize hs1 : (if cls = 3 then s0.raiseDev .coreFault else if cls = 4 then s0.raiseDev .checkerFault else s0) = s1
  have h1 : s1.pow = s.pow ∧ s1.has c.num = s.has c.num := by
    rw [← hs1]
    split
    · exact hraise _
    · split
      · exact hraise _
      · exact h0
  have h2 (code die x : Nat) : ((s1.detach c).logFault code die x).pow = s.pow :=
    (State.pow_of_wide ((State.logFault_wide _ _ _ _).trans (State.detach_wide _ _))).trans h1.1
  split
  · have hs2 := h2 (3 + cls) c.num 0
    generalize (s1.detach c).logFault (3 + cls) c.num 0 = s2 at *
    split
    · exact hs2
    · split
      · exact hs2
      · exact (State.updateFault_pow s2).trans hs2
  · have hs2 := h2 8 c.num 0
    have hhas : ((s1.detach c).logFault 8 c.num 0).has c.num = false := by
      rw [State.logFault_has, State.detach_has, h1.2, h]
    generalize (s1.detach c).logFault 8 c.num 0 = s2 at *
    split
    · exact (State.updateFault_pow s2).trans hs2
    · rw [if_neg]
      · exact hs2
      · rintro ⟨-, -, hc⟩
        exact Bool.false_ne_true (hhas.symm.trans hc)

/-- A core whose domain is lost has no die any more (12 R343; 16 R459). -/
theorem State.domTo_failed {s : State} {c : Fab} (h : s.dom (coreDom c) = .on) :
    (s.domTo (coreDom c) .failed).dom (coreDom c) = .failed ∧ (s.domTo (coreDom c) .failed).has c.num = false := by
  have hd := s.dom_domTo (coreDom c) (coreDom c) .failed
  rw [if_pos ⟨rfl, by cases c <;> decide⟩] at hd
  refine ⟨hd, ?_⟩
  have hgo : ¬ (s.dom (coreDom c) = .failed ∨ coreDom c ≤ 1) := by
    rw [h]
    cases c <;> decide
  unfold State.domTo
  dsimp only
  rw [if_neg hgo]
  cases c
  · exact (inMask_setMask _ _ _ _).trans (if_pos rfl)
  · exact (inMask_setMask _ _ _ _).trans (if_pos rfl)

/-! ### The parts of O43 -/

theorem cores_segments (c : Fab) (first parity : Bool) (wa wb wc : List RegWrite) (s : State) (hl : s.coreLives c = true)
    (hg : (s.core c).guardStopped = false) :
    let rel := if first then ((s.core c).relShift + 0x0A6) % 0x2000 else (s.core c).relShift
    let da := wa.map fun w => w.decode 0 rel
    let db := wb.map fun w => w.decode 1 rel
    let dc := wc.map fun w => w.decode 2 rel
    (parity = true → runs (.guardSegmentEnd c first wa wb wc parity) s fun t =>
      (t.core c).holdParity = sat36 (s.core c).holdParity 1 ∧ (t.core c).segments = (s.core c).segments) ∧
    (parity = false → vote (diffs da db) (diffs da dc) (diffs db dc) = .agreement → runs (.guardSegmentEnd c first wa wb wc parity) s fun t =>
      t.core c = ({ s.core c with relShift := rel, replay := [], segments := add72 (s.core c).segments 1 } : CoreSt).banks da) ∧
    (parity = false → vote (diffs da db) (diffs da dc) (diffs db dc) = .noMajority → runs (.guardSegmentEnd c first wa wb wc parity) s fun t =>
      (t.core c).noMajority = sat36 (s.core c).noMajority 1 ∧ (t.core c).report.isSome = true) := by
  intro rel da db dc
  have hc1 : (s.modCore c fun k => { k with relShift := if first then (k.relShift + 0x0A6) % 0x2000 else k.relShift, replay := [] }).core c =
      { s.core c with relShift := rel, replay := [] } := State.core_modCore _ _ _
  refine ⟨fun hp => ⟨_, congrArg Host.Outcome.next (if_pos ⟨hl, hg⟩), ?_⟩, fun hp hv => ⟨_, congrArg Host.Outcome.next (if_pos ⟨hl, hg⟩), ?_⟩,
    fun hp hv => ⟨_, congrArg Host.Outcome.next (if_pos ⟨hl, hg⟩), ?_⟩⟩
  · dsimp only
    rw [if_pos hp]
    generalize s.modCore c _ = s1 at *
    obtain ⟨hpar, hseg⟩ := s1.core_holdParity c
    rw [hpar, hseg, hc1]
    exact ⟨rfl, rfl⟩
  · have hv' : vote (diffs (wa.map fun w => w.decode 0 rel) (wb.map fun w => w.decode 1 rel))
        (diffs (wa.map fun w => w.decode 0 rel) (wc.map fun w => w.decode 2 rel))
        (diffs (wb.map fun w => w.decode 1 rel) (wc.map fun w => w.decode 2 rel)) = .agreement := hv
    dsimp only
    rw [if_neg (by rw [hp]; exact Bool.false_ne_true)]
    generalize s.modCore c _ = s1 at *
    rw [hc1]
    dsimp only
    rw [hv']
    dsimp only
    rw [State.core_modCore, State.core_modCore, hc1]
  · have hv' : vote (diffs (wa.map fun w => w.decode 0 rel) (wb.map fun w => w.decode 1 rel))
        (diffs (wa.map fun w => w.decode 0 rel) (wc.map fun w => w.decode 2 rel))
        (diffs (wb.map fun w => w.decode 1 rel) (wc.map fun w => w.decode 2 rel)) = .noMajority := hv
    dsimp only
    rw [if_neg (by rw [hp]; exact Bool.false_ne_true)]
    generalize s.modCore c _ = s1 at *
    rw [hc1]
    dsimp only
    rw [hv']
    dsimp only
    rw [State.core_owes, State.core_coreTick, State.core_modCore, hc1]
    exact ⟨rfl, owes_report _ _⟩

theorem cores_tripwire (c : Fab) (x y : Nat × Nat × Nat) (s : State) (hl : s.coreLives c = true) (hg : (s.core c).guardStopped = false) :
    (tripPasses (s.core c).tripPass x = true → runs (.tripwireTimer c x y) s fun t =>
      (t.core c).tripwireRuns = add72 (s.core c).tripwireRuns 1 ∧ (t.core c).tripPass = ((s.core c).tripPass + 1) % 3 ∧
      (t.core c).tripwireMisses = (s.core c).tripwireMisses) ∧
    (tripPasses (s.core c).tripPass x = false → tripPasses (((s.core c).tripPass + 1) % 3) y = false →
      runs (.tripwireTimer c x y) s fun t => (t.core c).guardStopped = true ∧ (t.core c).report.isSome = true) := by
  refine ⟨fun hx => ⟨_, congrArg Host.Outcome.next (if_pos ⟨hl, hg⟩), ?_⟩, fun hx hy => ⟨_, congrArg Host.Outcome.next (if_pos ⟨hl, hg⟩), ?_⟩⟩
  · simp only [hx, ↓reduceIte]
    obtain ⟨hruns, hpass, hmiss⟩ := s.core_tripwire c true
    exact ⟨hruns, hpass, hmiss rfl⟩
  · obtain ⟨-, hpass, -⟩ := s.core_tripwire c false
    simp only [hx, hpass, hy, Bool.false_eq_true, ↓reduceIte]
    rw [State.core_owes]
    exact ⟨Bool.or_true _, owes_report _ _⟩

/-- A snapshot sent leaves the heartbeats of either core (12 R341, R342). -/
theorem State.heartbeat_sendSnapshot (s : State) (c : Fab) :
    (s.sendSnapshot.core c).hbSeq = (s.core c).hbSeq ∧ (s.sendSnapshot.core c).hbTime = (s.core c).hbTime := by
  have hj (u : State) (k : Nat) (w : List Word) : (u.journal k w).pair.rest = u.pair.rest := State.pairRest_of_deep (State.journal_deep _ _ _)
  have hfold (l : List Nat) (u : State) : (l.foldl (fun s k => s.journal k (s.mirror k)) u).pair.rest = u.pair.rest := by
    induction l generalizing u with
    | nil => rfl
    | cons k l ih => rw [List.foldl_cons, ih, hj]
  have h : s.sendSnapshot.pair.rest = s.pair.rest := by
    unfold State.sendSnapshot
    dsimp only
    rw [hj, hfold, hj]
    rfl
  have hcore (p : PairSt) : (p.rest.core c).hbSeq = (p.core c).hbSeq ∧ (p.rest.core c).hbTime = (p.core c).hbTime := by
    cases c <;> exact ⟨rfl, rfl⟩
  unfold State.core
  rw [← (hcore _).1, ← (hcore _).2, h, (hcore _).1, (hcore _).2]
  exact ⟨rfl, rfl⟩

theorem cores_errors (c : Fab) (s : State) (hl : s.coreLives c = true) :
    runs (.sramEccError c .corrected) s (fun t => (t.core c).sramCorrected = sat36 (s.core c).sramCorrected 1) ∧
    runs (.sramEccError c .plain) s (fun t => (t.core c).stopped = true ∧ (t.core c).report.isSome = true) ∧
    ((s.core c).halted = false → runs (.heartbeatTx c) s fun t => (t.core c).hbSeq = (s.core c).hbSeq + 1 ∧
      (t.core c).hbTime = some s.monoNs) := by
  refine ⟨⟨_, congrArg Host.Outcome.next (if_pos hl), ?_⟩, ⟨_, congrArg Host.Outcome.next (if_pos hl), ?_⟩, fun hh =>
    ⟨_, congrArg Host.Outcome.next (if_pos ⟨hl, hh⟩), ?_⟩⟩
  · dsimp only
    rw [State.core_coreTick]
  · dsimp only
    rw [State.core_owes, State.core_modCore]
    exact ⟨rfl, owes_report _ _⟩
  · dsimp only
    generalize hs1 : s.modCore c _ = s1
    have h1 : (s1.core c).hbSeq = (s.core c).hbSeq + 1 ∧ (s1.core c).hbTime = some s.monoNs := by
      rw [← hs1, State.core_modCore]
      exact ⟨rfl, rfl⟩
    split
    · obtain ⟨hseq, htime⟩ := s1.heartbeat_sendSnapshot c
      rw [hseq, htime]
      exact h1
    · exact h1

theorem cores_fail (s : State) (hst : s.sys.start = .forwarding) (hp : s.pair.promoting = none) (hg : s.pair.mode ≠ .gap)
    (hr : s.pair.mode ≠ .restart) (hoff : (s.core s.pair.active).mode ≠ .off) (hfail : (s.core s.pair.active).mode ≠ .failed)
    (hatt : (s.core s.pair.active).attached = false) :
    ((s.core s.pair.active).hbTime.isSome = true →
      runs (.heartbeatLoss s.pair.active) s fun t => t.pair.promoting = some 1 ∧ (t.core s.pair.active).lastFault = 1 ∧
        (t.core s.pair.active).hbTime = none) ∧
    (∀ k, (s.core s.pair.active).report = some k → runs (.coreFaultReport s.pair.active) s fun t =>
      t.pair.promoting = some (if k then 4 else 3) ∧ (t.core s.pair.active).report = none) := by
  refine ⟨fun hh => ⟨_, rfl, ?_⟩, fun k hk => ⟨_, rfl, ?_⟩⟩
  · obtain ⟨k, hk⟩ := Option.isSome_iff_exists.1 hh
    rw [hk]
    dsimp only
    rw [if_neg (by simp [hatt, hoff, hfail])]
    generalize hs1 : State.modCore _ _ _ = s1
    have h1 : s1.pair.active = s.pair.active ∧ s1.pair.promoting = s.pair.promoting ∧ s1.pair.mode = s.pair.mode ∧ s1.sys = s.sys := by
      rw [← hs1]
      exact ⟨(State.modCore_pair_keeps _ _ _).1, (State.modCore_pair_keeps _ _ _).2.1, (State.modCore_pair_keeps _ _ _).2.2, rfl⟩
    have hc1 : s1.core s.pair.active = { s.core s.pair.active with hbTime := none } := by
      rw [← hs1]
      exact State.core_modCore _ _ _
    obtain ⟨ha, hpr, hm, hsys⟩ := h1
    obtain ⟨hprom, hcore⟩ := State.coreFails_active (s := s1) 1 ha.symm (by rw [hc1]; exact hatt) (by rw [hsys]; exact hst)
      (by rw [hpr]; exact hp) (by rw [hm]; exact hg) (by rw [hm]; exact hr)
    rw [hprom, hcore, hc1]
    exact ⟨rfl, rfl, rfl⟩
  · obtain ⟨hprom, hcore⟩ := State.coreFails_active (s := s) (if k then 4 else 3) rfl hatt hst hp hg hr
    rw [hk]
    dsimp only
    rw [if_neg (by simp [hoff, hfail]), hprom, hcore]
    exact ⟨rfl, rfl⟩

theorem cores_domain (c : Fab) (dt : Nat) (s : State) (hd : s.dom (coreDom c) = .on) :
    runs (.coreDomainLost c dt) s fun t => t.dom (coreDom c) = .failed := by
  have hpow : ((s.adv dt).detach c).pow = s.pow := by
    rw [State.pow_of_wide (State.detach_wide _ _)]
    rfl
  have hon : ((s.adv dt).detach c).dom (coreDom c) = .on := by
    unfold State.dom at hd ⊢
    rw [hpow]
    exact hd
  obtain ⟨hfailed, hhas⟩ := State.domTo_failed hon
  refine ⟨_, congrArg Host.Outcome.next (if_pos hd), ?_⟩
  dsimp only
  split
  · exact hfailed
  · unfold State.dom at hfailed ⊢
    rw [State.coreFails_pow 2 hhas]
    exact hfailed

theorem cores_gapStarts (dt cause : Nat) (s : State) (hp : s.pair.promoting = some cause) (hh : s.pair.held = false) (hs : s.pair.mode ≠ .single) :
    runs (.gapStart dt) s fun t => t.pair.mode = .gap ∧ t.pair.held = true ∧ t.pair.lastCause = cause ∧
      t.pair.switchovers = sat36 s.pair.switchovers 1 := by
  refine ⟨_, rfl, ?_⟩
  dsimp only
  rw [hp]
  dsimp only
  have hs1 : ¬ (s.adv dt).pair.mode = .single := hs
  rw [if_neg (by rw [hh]; exact Bool.false_ne_true), if_neg hs1, State.flushOutput_pair, State.fence_pair, State.raiseDev_pair]
  generalize hs2 : State.modPair _ _ = s2
  have h2 : s2.pair.mode = .gap ∧ s2.pair.held = true ∧ s2.pair.lastCause = cause ∧ s2.pair.switchovers = sat36 s.pair.switchovers 1 := by
    rw [← hs2]
    exact ⟨rfl, rfl, rfl, rfl⟩
  unfold State.satRaise
  split
  · rw [State.raiseDev_pair]
    exact h2
  · exact h2

theorem State.gapFresh_pair (s : State) : s.gapFresh.pair = s.pair := rfl

theorem State.trialHold_pair (s : State) (stop : Bool) : (s.trialHold stop).pair = s.pair := rfl

theorem PairSt.Alone.gapAnswers {s : State} {d : Fab} (h : s.pair.Alone d) : s.gapAnswers.pair.Alone d := by
  unfold State.gapAnswers
  dsimp only
  refine PairSt.Alone.of_eq ?_ (State.timeoutOrphans_pair _)
  generalize hs2 : State.modPair _ _ = s2
  suffices h2 : s2.pair.Alone d from h2
  rw [← hs2]
  have hwaits {u : State} (hu : u.pair.Alone d) (w : Option Path) (pay : List Word) :
      (match w with | some p => u.finish p .done pay [] | none => u).pair.Alone d := by
    cases w with
    | none => exact hu
    | some p => exact hu.finish p _ _ _
  have h3 := hwaits (hwaits h s.pair.waiter [pack [(16, 20, s.pair.gapUs)]]) s.img.waiter [pack [(16, 20, s.pair.gapUs)]]
  exact ⟨h3.active, h3.single, h3.runs, h3.free, h3.settled⟩

theorem cores_gapEnds (dt : Nat) (s : State) (hh : s.pair.held = true) :
    (s.pair.mode = .gap → s.pair.owned = false → runs (.standbyLiningApplied dt) s fun t => t.pair.owned = true) ∧
    (s.pair.mode = .gap → s.pair.owned = true → runs (.gapEnd dt) s fun t => t.pair.active = s.pair.active.other ∧
      t.pair.mode = .single ∧ t.pair.held = false ∧ t.pair.promoting = none ∧ (t.core s.pair.active.other).mode = .active) ∧
    (s.pair.mode = .restart → (s.core s.pair.active).mode = .cold → runs (.restartCaughtUp dt) s fun t =>
      t.pair.active = s.pair.active ∧ t.pair.mode = .single ∧ t.pair.held = false ∧ (t.core s.pair.active).mode = .active) := by
  refine ⟨fun hm ho => ⟨_, congrArg Host.Outcome.next (if_pos ⟨hh, hm, ho⟩), rfl⟩, fun hm ho =>
    ⟨_, congrArg Host.Outcome.next (if_pos ⟨hh, hm, ho⟩), ?_⟩, fun hm hc => ⟨_, congrArg Host.Outcome.next (if_pos ⟨hh, hm, hc⟩), ?_⟩⟩
  · suffices h : ∀ t : State, t.pair.Alone s.pair.active.other → t.pair.active = s.pair.active.other ∧ t.pair.mode = .single ∧
        t.pair.held = false ∧ t.pair.promoting = none ∧ (t.core s.pair.active.other).mode = .active by
      refine h _ ?_
      dsimp only
      generalize hs3 : State.gapAnswers _ = s3
      have h3 : s3.pair.Alone s.pair.active.other := by
        rw [← hs3]
        refine PairSt.Alone.gapAnswers ?_
        rw [State.gapFresh_pair, State.trialHold_pair]
        generalize hs1 : State.modCore _ (Fab.other _) _ = s1
        have h1 : (s1.core s.pair.active).mode ≠ .warm ∧ (s1.core s.pair.active.other).mode = .active := by
          rw [← hs1]
          refine ⟨?_, congrArg CoreSt.mode (State.core_modCore _ s.pair.active.other _)⟩
          have hother (u : State) (f : CoreSt → CoreSt) : (u.modCore s.pair.active.other f).core s.pair.active = u.core s.pair.active := by
            cases s.pair.active <;> rfl
          refine fun h => ?_
          have hold := (congrArg CoreSt.mode (hother _ _)).symm.trans h
          rw [State.adv_pair, State.core_modCore] at hold
          dsimp only at hold
          split at hold
          · exact CoreMode.noConfusion hold
          · exact CoreMode.noConfusion hold
        exact ⟨rfl, if_neg h1.1, h1.2, rfl, rfl⟩
      split
      · exact h3.restartStandby _
      · split
        · exact h3.startCatchUp
        · exact h3
    exact fun t h => ⟨h.active, h.single, h.free, h.settled, h.runs⟩
  · suffices h : ∀ t : State, t.pair.Alone s.pair.active → t.pair.active = s.pair.active ∧ t.pair.mode = .single ∧
        t.pair.held = false ∧ (t.core s.pair.active).mode = .active by
      refine h _ ?_
      dsimp only
      generalize hs3 : State.timeoutOrphans _ = s3
      have h3 : s3.pair.Alone s.pair.active := by
        rw [← hs3]
        refine PairSt.Alone.of_eq ?_ (State.timeoutOrphans_pair _)
        generalize hs2 : State.gapFresh _ = s2
        have h2 : s2.pair.Alone s.pair.active := by
          rw [← hs2]
          rw [State.gapFresh_pair, State.trialHold_pair]
          obtain ⟨f, hf⟩ := (s.adv dt).dropLining.startCore_pair s.pair.active (s.adv dt).img.runSlot
          generalize hs1 : State.modCore _ _ _ = s1
          have h1 : (s1.core s.pair.active).mode = .active ∧ s1.pair.active = s.pair.active := by
            rw [← hs1]
            refine ⟨congrArg CoreSt.mode (State.core_modCore _ s.pair.active _), (State.modCore_pair_keeps _ _ _).1.trans ?_⟩
            refine (congrArg PairSt.active hf).trans ?_
            refine (State.modCore_pair_keeps (s.adv dt).dropLining s.pair.active f).1.trans ?_
            rw [State.dropLining_pair]
            rfl
          exact ⟨h1.2, rfl, h1.1, rfl, rfl⟩
        split
        · exact PairSt.Alone.finish (s := s2.modImg _) h2 _ _ _ _
        · exact h2
      split
      · exact h3.restartStandby _
      · exact h3
    exact fun t h => ⟨h.active, h.single, h.free, h.runs⟩

theorem cores_lining (e : List Word × Fab × Nat × Nat) (s : State) (he : s.pair.sent.find? (fun x => x.1 == e.1) = some e)
    (hw : (s.core s.standby).mode = .warm) (h3 : 3 ≤ fld (e.1.headD 0) 35 28) (h7 : fld (e.1.headD 0) 35 28 ≤ 7)
    (hseq : fld (e.1.headD 0) 27 16 = s.pair.rxSeq) :
    runs (.liningRecordRx e.1) s fun t => t.pair.sent = s.pair.sent.erase e ∧ t.pair.rxSeq = (s.pair.rxSeq + 1) % 4096 ∧
      Tbl.get nilAt t.pair.copy (fld (e.1.headD 0) 35 28) = e.1.drop 1 := by
  refine ⟨_, rfl, ?_⟩
  dsimp only
  rw [he]
  dsimp only
  generalize hs1 : s.ackLining e = s1
  have h1 : s1.pair = { s.pair with sent := s.pair.sent.erase e } := by
    rw [← hs1]
    exact State.freeBufs_pair _ _
  have hm : (s1.core s1.standby).mode = .warm := by
    unfold State.standby State.core
    rw [h1]
    exact hw
  unfold State.applyLining
  dsimp only
  rw [if_neg (by omega), if_neg (by simp [hm]), if_neg (by rw [hseq, h1]; exact not_not.2 rfl), if_pos ⟨h3, h7⟩, hseq]
  rw [State.modPair_pair, State.modPair_pair, h1]
  exact ⟨rfl, rfl, Tbl.get_put_self _ _ _ _⟩

theorem State.warmUpdate_keeps (s : State) : (∀ c, s.warmUpdate.core c = s.core c) ∧ s.warmUpdate.pair.mode = s.pair.mode := by
  have hslot (n : Nat) (m : SlotMode) (k : UpdMode) : ((s.slotTo n m).updTo k).pair = s.pair := by
    rw [State.updTo_pair, State.slotTo_pair]
  have hof {t : State} (h : t.pair = s.pair) : (∀ c, t.core c = s.core c) ∧ t.pair.mode = s.pair.mode :=
    ⟨fun c => State.core_of_pair h c, congrArg PairSt.mode h⟩
  unfold State.warmUpdate
  split
  · obtain ⟨hc, hm⟩ := hof (hslot s.img.target .trial .trial)
    generalize (s.slotTo s.img.target .trial).updTo .trial = u at *
    refine ⟨fun c => ?_, hm⟩
    rw [← hc]
    cases c <;> rfl
  · exact hof (State.updTo_pair _ _)
  · exact hof (State.updTo_pair _ _)
  · exact hof rfl

theorem cores_catchUp (s : State) (hh : s.pair.held = false) :
    (s.pair.mustCatchUp = true → runs .catchupComplete s fun t => t.pair.mustCatchUp = false) ∧
    (s.pair.mustCatchUp = false → (s.core s.standby).mode = .catchingUp → s.pair.snapDone = true → s.pair.sent = [] →
      s.sys.start = .forwarding → runs .catchupComplete s fun t => (t.core s.standby).mode = .warm ∧
        (s.pair.mode = .single ∨ s.pair.mode = .degraded → t.pair.mode = .normal)) := by
  have hgo : ¬ s.pair.held = true := by
    rw [hh]
    exact Bool.false_ne_true
  refine ⟨fun hm => ⟨_, congrArg Host.Outcome.next ((if_neg hgo).trans (if_pos hm)), rfl⟩, fun hm hc hd hs hst =>
    ⟨_, congrArg Host.Outcome.next ((if_neg hgo).trans ((if_neg (by rw [hm]; exact Bool.false_ne_true)).trans
      (if_pos ⟨.inl hc, hd, hs, hst⟩))), ?_⟩⟩
  dsimp only
  generalize hs1 : State.modPair _ _ = s1
  have h1 : (s1.core s.standby).mode = .warm ∧ (s.pair.mode = .single ∨ s.pair.mode = .degraded → s1.pair.mode = .normal) := by
    rw [← hs1]
    obtain ⟨ha, -, hmode⟩ := s.modCore_pair_keeps s.standby fun k => { k with mode := .warm }
    refine ⟨congrArg CoreSt.mode (State.core_modCore s s.standby fun k => { k with mode := .warm }), fun h => ?_⟩
    dsimp only [State.modPair_pair]
    rw [hmode, if_pos h.symm]
  have h2 := s1.warmUpdate_keeps
  rw [h2.1 s.standby, h2.2]
  exact h1

theorem State.updTo_img (s : State) (m : UpdMode) :
    (s.updTo m).img = { s.img with mode := m, target := if m = .idle then 3 else s.img.target } := by
  unfold State.updTo
  dsimp only
  split
  · rw [State.img_of_wide ((State.dropToken_wide _ _ _).trans (State.raiseDev_wide _ _))]
    rfl
  · rw [State.img_of_wide (State.raiseDev_wide _ _)]
    rfl

/-- The state of the update and what ended the last one. -/
def State.updating (s : State) : UpdMode × Nat := (s.img.mode, s.img.lastFallback)

theorem State.updating_of_img {s t : State} (h : t.img = s.img) : t.updating = s.updating := by
  unfold State.updating
  rw [h]

theorem State.loadCore_updating (s : State) (c : Fab) (n : Nat) : (s.loadCore c n).updating = s.updating := by
  cases c <;> rfl

theorem State.restartStandby_updating (s : State) (n : Nat) : (s.restartStandby n).updating = s.updating := by
  have hcatch (u : State) : u.startCatchUp.img = u.img := by
    unfold State.startCatchUp
    rw [State.img_of_wide (State.sendSnapshot_wide _), State.modCore, State.modPair_img]
  have hcore (u : State) (c : Fab) : (u.startCore c n).updating = u.updating := by
    unfold State.startCore
    dsimp only
    rw [State.loadCore_updating]
    refine State.updating_of_img ?_
    rw [State.modCore, State.modPair_img]
    split
    · rfl
    · exact congrArg (·.2.1) (u.domTo_hardly _ _)
  unfold State.restartStandby
  rw [State.updating_of_img (hcatch _), State.updating_of_img (State.modPair_img _ _), hcore]
  exact State.updating_of_img (State.img_of_wide ((State.dropLining_wide _).trans (State.detach_wide _ _)))

theorem State.handoverFails_updating (s : State) : s.handoverFails.updating = (.idle, 5) := by
  unfold State.handoverFails
  dsimp only
  generalize hs1 : State.restartStandby _ _ = s1
  have h1 : s1.updating = (.idle, 5) := by
    rw [← hs1, State.restartStandby_updating]
    unfold State.updating
    rw [State.modImg_img, State.updTo_img]
    rfl
  split
  · rw [State.updating_of_img (State.img_of_wide (State.finish_wide _ _ _ _ _))]
    exact h1
  · exact h1

theorem cores_update (s : State) :
    (s.img.mode = .handover → runs .handoverTimeout s fun t => t.img.mode = .idle ∧ t.img.lastFallback = 5) ∧
    (s.img.mode = .trial → s.pair.promoting = none → s.pair.held = false → runs .trialTimeout s fun t =>
      t.img.mode = .fallback ∧ t.img.lastFallback = 2 ∧ t.pair.promoting = some 6) ∧
    (s.key.session.isSome = true → runs .depotSessionTimeout s fun t => t.key.session = none) := by
  refine ⟨fun hm => ⟨_, congrArg Host.Outcome.next (if_pos hm), ?_⟩, fun hm hp hh =>
    ⟨_, congrArg Host.Outcome.next (if_pos ⟨hm, by rw [hp]; rfl, hh⟩), ?_⟩, fun hs =>
    ⟨_, congrArg Host.Outcome.next (if_pos hs), State.session_endSession _⟩⟩
  · have h := State.handoverFails_updating (s.advTick (s.img.handoverAt + ticksMs 600))
    exact ⟨congrArg Prod.fst h, congrArg Prod.snd h⟩
  · unfold State.fallBack
    dsimp only
    rw [State.modPair_img, State.updTo_img]
    exact ⟨rfl, rfl, rfl⟩

theorem cores_restartFails (c : Fab) (verify : Bool) (s : State) (hm : (s.core c).mode = .cold ∨ (s.core c).mode = .catchingUp)
    (hg : s.pair.mode ≠ .gap) (hi : s.img.mode ≠ .handover) :
    runs (.coreRestartFailed c verify) s fun t => (t.core c).mode = if verify then .off else .failed := by
  refine ⟨_, congrArg Host.Outcome.next (if_pos ⟨hm, hg⟩), ?_⟩
  dsimp only
  generalize hs2 : State.modKey _ _ = s2
  have h2 : (s2.core c).mode = (if verify then .off else .failed) ∧ s2.img = s.img := by
    rw [← hs2]
    exact ⟨congrArg CoreSt.mode (State.core_modCore s c _), rfl⟩
  generalize hs3 : (if verify = true then s2.logFault 0x17 0 0 else s2.logFault 0x18 c.num 3) = s3
  have h3 : s3.core c = s2.core c ∧ s3.img = s2.img := by
    rw [← hs3]
    split
    · exact ⟨State.core_of_pair (State.logFault_pair _ _ _ _) c, State.img_of_wide (State.logFault_wide _ _ _ _)⟩
    · exact ⟨State.core_of_pair (State.logFault_pair _ _ _ _) c, State.img_of_wide (State.logFault_wide _ _ _ _)⟩
  rw [if_neg (by rw [h3.2, h2.2]; exact fun h => hi h.1), h3.1]
  exact h2.1

/-- Settles O43: each event of the cores changes the counters, the report, the promotion or the lead that its equation names. -/
theorem coresVoteFailAndSwitchOver : Obligations.CoresVoteFailAndSwitchOver :=
  ⟨cores_segments, cores_tripwire, cores_errors, cores_fail, cores_domain, cores_gapStarts, cores_gapEnds, cores_lining,
    fun _ ha hh => ⟨_, congrArg Host.Outcome.next (if_pos ⟨ha, hh⟩), rfl⟩, cores_catchUp, cores_update, cores_restartFails⟩

end Sys2Proof.Machine
end

section
/-! PROOFS. Erases, alarms and key timers. -/

namespace Sys2Proof.Machine

/-! ### A wake leaves what an alarm clears -/

/-- The root secret, the owner of the cipher engine and the count of alarms. -/
def State.vault (s : State) : Option (List Byte) × Option CipherLock × Nat := (s.key.rs, s.key.lock, s.key.ttotal)

theorem State.vault_of_key {s t : State} (h : t.key = s.key) : t.vault = s.vault := by
  unfold State.vault
  rw [h]

theorem State.vault_of_wide {s t : State} (h : t.wide = s.wide) : t.vault = s.vault := State.vault_of_key (State.key_of_wide h)

theorem State.wakeRecord_vault (s : State) (r : WakeRec) : (s.wakeRecord r).vault = s.vault := by
  unfold State.wakeRecord
  rw [State.vault_of_wide (State.raiseDev_wide _ _)]
  rfl

theorem State.pullStkWake_vault (s : State) : s.pullStkWake.vault = s.vault := by
  unfold State.pullStkWake
  split <;> rfl

theorem State.startWake_vault (s : State) (r : WakeRec) : (s.startWake r).vault = s.vault := by
  unfold State.startWake
  dsimp only
  generalize hs1 : State.pullStkWake _ = s1
  have h1 : s1.vault = s.vault := by
    rw [← hs1, State.pullStkWake_vault, State.wakeRecord_vault]
    rfl
  have hrun (u : State) : (u.runSeq 1).vault = u.vault := by
    obtain ⟨k, h | ⟨-, h⟩⟩ := u.seqFrom_eq none 1 0 33 <;> rw [State.runSeq, h] <;> rfl
  have hkey (u : State) : (u.modKey fun k => { k with tamperDue := false }).vault = u.vault := rfl
  rw [hrun]
  split
  · rw [hkey, State.vault_of_wide (State.raiseDev_wide _ _), h1]
  · exact h1

theorem State.cancelPrepare_vault (s : State) : s.cancelPrepare.vault = s.vault := by
  have hfold (l : List Nat) (u : State) : (l.foldl (fun s p => if (s.port p).mode == .sleepWait then s.portUp p else s) u).vault = u.vault := by
    induction l generalizing u with
    | nil => rfl
    | cons p l ih =>
      rw [List.foldl_cons, ih]
      split
      · exact State.vault_of_key (State.key_of_far (State.portUp_far _ _))
      · rfl
  unfold State.cancelPrepare
  dsimp only
  generalize hs2 : List.foldl _ _ (List.range 26) = s2
  have h2 : s2.vault = s.vault := by
    rw [← hs2, hfold]
    rfl
  split
  · exact (State.vault_of_key (State.key_of_far (State.stackSend_far _ _ _))).trans h2
  · exact h2

theorem State.wakeSource_vault (s : State) (r : WakeRec) : (s.wakeSource r).vault = s.vault := by
  have hawake (u : State) : u.restartAwake.vault = u.vault := rfl
  have hpow (u : State) (f : PowerSt → PowerSt) : (u.modPow f).vault = u.vault := rfl
  unfold State.wakeSource
  split
  · rfl
  · split
    · exact State.pullStkWake_vault _
    · split
      · rfl
      · rw [hawake, State.wakeRecord_vault, State.cancelPrepare_vault]
  · dsimp only
    split
    · exact State.pullStkWake_vault _
    · split
      · exact State.pullStkWake_vault _
      · rw [hpow, State.pullStkWake_vault]
  · split
    · rfl
    · exact State.startWake_vault _ _
  · rfl

/-! ### An alarm -/

theorem State.dropSas_key (s : State) : s.dropSas.key = s.key := by
  unfold State.dropSas
  generalize List.range 26 = l
  induction l generalizing s with
  | nil => rfl
  | cons p l ih => exact (ih _).trans rfl

/-- A command that an alarm aborts is not counted as an alarm. -/
theorem State.abortOn_ttotal (s : State) (p : Path) : (s.abortOn p).1.key.ttotal = s.key.ttotal := by
  unfold State.abortOn
  split
  · rfl
  · split
    · dsimp only
      rw [State.key_of_wide (State.respond_wide _ _ _ _ _ _)]
      have hk (u : State) (b : Prop) [Decidable b] : (if b then u.zeroize else u).key.ttotal = u.key.ttotal := by
        split <;> rfl
      rw [hk, State.key_of_wide (State.satRaise_raiseDev_wide _ _ _ _)]
      rfl
    · rfl

/-- What an alarm does once the command that it aborts is dealt with: `ab` is the state then, with whether a command was aborted. -/
def State.alarmed (s : State) (ab : State × Bool) (src : Nat) : State :=
  let c := Tbl.get TamperCfg.dflt s.key.tamper src
  let s1 := ab.1.modKey fun k => { k with lock := none, vbat := k.vbat || src == 3 }
  let e : TamperRec := { source := src, phase := s.tamperPhase, action := c.action, aborted := ab.2, secs := s.bkSeconds,
                         time := if s.tamperPhase = 0 then 0 else s.now72 % 2 ^ 36 }
  let s2 := s1.modKey fun k => { k with tlog := (k.tlog ++ [e]).drop (k.tlog.length + 1 - 32), ttotal := sat36 k.ttotal 1 }
  let s3 := if c.action = 0 then s2 else s2.zeroize
  let s4 := if c.action = 2 ∧ 2 ≤ s.tamperPhase then s3.dropSas else s3
  match s.tamperPhase with
  | 0 => s4.modKey fun k => { k with tamperDue := true, tamperLost := k.tamperLost ++ [src] }
  | 1 => ((s4.modKey fun k => { k with unkeyedRun := true }).raiseDev .tamper).logFault 0x16 0 src
  | 2 =>
    let s5 := s4.logFault 0x16 0 src
    if c.wake then (s5.raiseDev .tamper).wakeSource { kind := 7 } else s5.modKey fun k => { k with tamperDue := true }
  | _ => (s4.raiseDev .tamper).logFault 0x16 0 src

theorem State.tamper_eq (s : State) (src : Nat) (during : Option Path) :
    ∃ ab : State × Bool, ab.1.key.ttotal = s.key.ttotal ∧ s.tamper src during = s.alarmed ab src := by
  cases during with
  | none => exact ⟨(s, false), rfl, rfl⟩
  | some p =>
    refine ⟨if s.tamperPhase = 3 then s.abortOn p else (s, false), ?_, rfl⟩
    split
    · exact s.abortOn_ttotal p
    · rfl

/-- An alarm is counted, frees the cipher engine and, with an action, takes the root secret (15 R435, R437). -/
theorem State.alarmed_vault (s : State) (ab : State × Bool) (src : Nat) (h : ab.1.key.ttotal = s.key.ttotal) :
    ∃ rs, (s.alarmed ab src).vault = (rs, none, sat36 s.key.ttotal 1) ∧ ((Tbl.get TamperCfg.dflt s.key.tamper src).action ≠ 0 → rs = none) := by
  have hkey (u : State) (f : KeySt → KeySt) (hf : ∀ k, (f k).rs = k.rs ∧ (f k).lock = k.lock ∧ (f k).ttotal = k.ttotal) :
      (u.modKey f).vault = u.vault := by
    obtain ⟨h1, h2, h3⟩ := hf u.key
    unfold State.vault
    rw [State.modKey_key, h1, h2, h3]
  unfold State.alarmed
  dsimp only
  generalize hs2 : (ab.1.modKey _).modKey _ = s2
  have h2 : s2.key.lock = none ∧ s2.key.ttotal = sat36 s.key.ttotal 1 := by
    rw [← hs2, ← h]
    exact ⟨rfl, rfl⟩
  generalize hs3 : (if (Tbl.get TamperCfg.dflt s.key.tamper src).action = 0 then s2 else s2.zeroize) = s3
  have h3 : ∃ rs, s3.vault = (rs, none, sat36 s.key.ttotal 1) ∧ ((Tbl.get TamperCfg.dflt s.key.tamper src).action ≠ 0 → rs = none) := by
    rw [← hs3, ← h2.2]
    split
    · rename_i h0
      exact ⟨s2.key.rs, by rw [State.vault, h2.1], fun hne => absurd h0 hne⟩
    · exact ⟨none, rfl, fun _ => rfl⟩
  obtain ⟨rs, hv, hrs⟩ := h3
  refine ⟨rs, ?_, hrs⟩
  rw [← hv]
  generalize hs4 : (if (Tbl.get TamperCfg.dflt s.key.tamper src).action = 2 ∧ 2 ≤ s.tamperPhase then s3.dropSas else s3) = s4
  have h4 : s4.vault = s3.vault := by
    rw [← hs4]
    split
    · exact State.vault_of_key (State.dropSas_key _)
    · rfl
  rw [← h4]
  split
  · exact hkey _ _ fun _ => ⟨rfl, rfl, rfl⟩
  · rw [State.vault_of_wide (State.logFault_wide _ _ _ _), State.vault_of_wide (State.raiseDev_wide _ _)]
    exact hkey _ _ fun _ => ⟨rfl, rfl, rfl⟩
  · split
    · rw [State.wakeSource_vault, State.vault_of_wide (State.raiseDev_wide _ _), State.vault_of_wide (State.logFault_wide _ _ _ _)]
    · rw [hkey _ _ ?_, State.vault_of_wide (State.logFault_wide _ _ _ _)]
      exact fun _ => ⟨rfl, rfl, rfl⟩
  · rw [State.vault_of_wide (State.logFault_wide _ _ _ _), State.vault_of_wide (State.raiseDev_wide _ _)]

/-- Settles O44: an erase, an alarm and each key timer end as their equations say; an alarm keeps its count through the wake it causes. -/
theorem storeAndKeyTimersEnd : Obligations.StoreAndKeyTimersEnd := by
  refine ⟨fun dt s hm => ⟨_, congrArg Host.Outcome.next (if_pos hm), ?_⟩, fun src dt during s h1 h7 hao hcpd =>
    ⟨_, congrArg Host.Outcome.next (if_pos ⟨h1, h7, hao, hcpd⟩), ?_⟩, fun s => ⟨fun h => ⟨_, rfl, ?_⟩, fun h => ⟨_, rfl, ?_⟩, fun h => ⟨_, rfl, ?_⟩⟩⟩
  · dsimp only
    rw [State.updTo_img]
    by_cases h0 : s.img.target = 0
    · exact ⟨rfl, by rw [if_pos h0]; exact congrArg ImgSt.slotA (if_pos h0)⟩
    · exact ⟨rfl, by rw [if_neg h0]; exact congrArg ImgSt.slotB (if_neg h0)⟩
  · obtain ⟨ab, hab, he⟩ := (s.adv dt).tamper_eq src during
    obtain ⟨rs, hv, hrs⟩ := (s.adv dt).alarmed_vault ab src hab
    rw [he]
    exact ⟨congrArg (·.2.2) hv, congrArg (·.2.1) hv, fun hne => (congrArg (·.1) hv).trans (hrs hne)⟩
  · obtain ⟨l, hl⟩ := Option.isSome_iff_exists.1 h
    rw [hl]
    rfl
  · obtain ⟨l, hl⟩ := Option.isSome_iff_exists.1 h
    rw [hl]
    rfl
  · obtain ⟨l, hl⟩ := Option.isSome_iff_exists.1 h
    rw [hl]
    exact ⟨rfl, rfl⟩

end Sys2Proof.Machine
end

section
/-! PROOFS. The stack and its bridge. -/

namespace Sys2Proof.Machine

/-! ### A write to an internal address leaves the locks of the register buses -/

/-- The locks of the register buses. -/
def State.buses (s : State) : Tbl (Option (Nat × Nat × Nat × Nat)) := s.stk.locks

theorem State.buses_of_stk {s t : State} (h : t.stk = s.stk) : t.buses = s.buses := by
  unfold State.buses
  rw [h]

theorem State.buses_of_wide {s t : State} (h : t.wide = s.wide) : t.buses = s.buses := State.buses_of_stk (State.stk_of_wide h)

theorem State.foldl_buses {α : Type} (n : State → α → State) (h : ∀ s a, (n s a).buses = s.buses) (l : List α) (s : State) :
    (l.foldl n s).buses = s.buses := by
  induction l generalizing s with
  | nil => rfl
  | cons a l ih => rw [List.foldl_cons, ih, h]

theorem State.wakeRecord_buses (s : State) (r : WakeRec) : (s.wakeRecord r).buses = s.buses := by
  unfold State.wakeRecord
  rw [State.buses_of_wide (State.raiseDev_wide _ _)]
  rfl

theorem State.pullStkWake_buses (s : State) : s.pullStkWake.buses = s.buses := by
  unfold State.pullStkWake
  split <;> rfl

theorem State.startWake_buses (s : State) (r : WakeRec) : (s.startWake r).buses = s.buses := by
  have hrun (u : State) : (u.runSeq 1).buses = u.buses := by
    obtain ⟨k, h | ⟨-, h⟩⟩ := u.seqFrom_eq none 1 0 33 <;> rw [State.runSeq, h] <;> rfl
  have hkey (u : State) (f : KeySt → KeySt) : (u.modKey f).buses = u.buses := rfl
  unfold State.startWake
  dsimp only
  generalize hs1 : State.pullStkWake _ = s1
  have h1 : s1.buses = s.buses := by
    rw [← hs1, State.pullStkWake_buses, State.wakeRecord_buses]
    rfl
  rw [hrun]
  split
  · rw [hkey, State.buses_of_wide (State.raiseDev_wide _ _), h1]
  · exact h1

theorem State.cancelPrepare_buses (s : State) : s.cancelPrepare.buses = s.buses := by
  unfold State.cancelPrepare
  dsimp only
  generalize hs2 : List.foldl _ _ (List.range 26) = s2
  have h2 : s2.buses = s.buses := by
    rw [← hs2, State.foldl_buses _ fun u p => ?_]
    · rfl
    · split
      · exact State.buses_of_stk ((State.stk_of_wide (State.raiseDie_wide _ _ _)).trans rfl)
      · rfl
  split
  · rw [State.buses_of_stk (State.stk_of_onSend (State.stackSend_onlyIn _ _ _))]
    exact h2
  · exact h2

theorem State.wakeSource_buses (s : State) (r : WakeRec) : (s.wakeSource r).buses = s.buses := by
  have hawake (u : State) : u.restartAwake.buses = u.buses := rfl
  have hpow (u : State) (f : PowerSt → PowerSt) : (u.modPow f).buses = u.buses := rfl
  unfold State.wakeSource
  split
  · rfl
  · split
    · exact State.pullStkWake_buses _
    · split
      · rfl
      · rw [hawake, State.wakeRecord_buses, State.cancelPrepare_buses]
  · dsimp only
    split
    · exact State.pullStkWake_buses _
    · split
      · exact State.pullStkWake_buses _
      · rw [hpow, State.pullStkWake_buses]
  · split
    · rfl
    · exact State.startWake_buses _ _
  · rfl

theorem State.dropSas_buses (s : State) : s.dropSas.buses = s.buses := by
  have hport (u : State) (p : Nat) (f : PortSt → PortSt) : (u.modPort p f).buses = u.buses := rfl
  unfold State.dropSas
  exact State.foldl_buses _ (fun u p => hport u p _) _ _

theorem State.alarmed_buses (s : State) (ab : State × Bool) (src : Nat) (h : ab.1.buses = s.buses) : (s.alarmed ab src).buses = s.buses := by
  have hkey (u : State) (f : KeySt → KeySt) : (u.modKey f).buses = u.buses := rfl
  have hzero (u : State) : u.zeroize.buses = u.buses := rfl
  unfold State.alarmed
  dsimp only
  generalize hs2 : (ab.1.modKey _).modKey _ = s2
  have h2 : s2.buses = s.buses := by
    rw [← hs2, hkey, hkey, h]
  generalize hs3 : (if (Tbl.get TamperCfg.dflt s.key.tamper src).action = 0 then s2 else s2.zeroize) = s3
  have h3 : s3.buses = s.buses := by
    rw [← hs3]
    split
    · exact h2
    · rw [hzero, h2]
  generalize hs4 : (if (Tbl.get TamperCfg.dflt s.key.tamper src).action = 2 ∧ 2 ≤ s.tamperPhase then s3.dropSas else s3) = s4
  have h4 : s4.buses = s.buses := by
    rw [← hs4]
    split
    · rw [State.dropSas_buses, h3]
    · exact h3
  split
  · exact h4
  · rw [State.buses_of_wide (State.logFault_wide _ _ _ _), State.buses_of_wide (State.raiseDev_wide _ _), hkey, h4]
  · split
    · rw [State.wakeSource_buses, State.buses_of_wide (State.raiseDev_wide _ _), State.buses_of_wide (State.logFault_wide _ _ _ _), h4]
    · rw [hkey, State.buses_of_wide (State.logFault_wide _ _ _ _), h4]
  · rw [State.buses_of_wide (State.logFault_wide _ _ _ _), State.buses_of_wide (State.raiseDev_wide _ _), h4]

/-- An alarm during no command, in the model's own name. -/
theorem State.tamper_none_buses (s : State) (src : Nat) : (s.tamper src none).buses = s.buses := s.alarmed_buses (s, false) src rfl

theorem State.badAccess_buses (s : State) (a : Nat) : (s.badAccess a).buses = s.buses := by
  have herr (d : Nat) : (s.addrError d a).buses = s.buses := State.buses_of_wide (State.addrError_wide _ _ _)
  unfold State.badAccess
  dsimp only
  split
  · rw [State.tamper_none_buses, herr]
  · exact herr _

theorem State.intWrite_buses (s : State) (a : Nat) (w : Word) : (s.intWrite a w).buses = s.buses := by
  unfold State.intWrite
  split
  · split
    · rfl
    · split <;> rfl
  · exact State.badAccess_buses _ _

theorem State.intWrites_buses (s : State) (a : Nat) (ws : List Word) : (s.intWrites a ws).buses = s.buses := by
  induction ws generalizing s a with
  | nil => rfl
  | cons w ws ih => rw [State.intWrites, ih, State.intWrite_buses]

theorem State.answer_stk (s : State) (b : BridgeIn) (op status : Nat) (ws : List Word) : (s.answer b op status ws).stk = s.stk :=
  State.stk_of_onSend (State.sendBridge_onlyIn _ _ _)

/-! ### A message that is taken -/

/-- A message taken leaves all but the inboxes of the Hem ports. -/
theorem State.takeMsg_eq {s s0 : State} {p ty code x : Nat} {bytes : List Byte} (h : s.takeMsg p ty code = some (s0, x, bytes)) :
    ∃ hems, s0 = s.modStk fun k => { k with hems := hems } := by
  unfold State.takeMsg at h
  split at h
  · exact absurd h (by simp)
  · split at h
    · rw [Option.some.injEq, Prod.mk.injEq] at h
      exact ⟨_, h.1.symm⟩
    · exact absurd h (by simp)

theorem State.takeRequest_eq {s s0 : State} {p op : Nat} {b : BridgeIn} (h : s.takeRequest p op = some (s0, b)) :
    ∃ hems, s0 = s.modStk fun k => { k with hems := hems } := by
  unfold State.takeRequest at h
  split at h
  · exact absurd h (by simp)
  · rename_i s1 src bytes hm
    dsimp only at h
    split at h
    · exact absurd h (by simp)
    · rw [Option.some.injEq, Prod.mk.injEq] at h
      rw [← h.1]
      exact State.takeMsg_eq hm

theorem State.serveBridge_free {s : State} {b : BridgeIn} (h : s.conflicts b = none) (op : Nat) (f : State → State) : s.serveBridge b op f = f s := by
  unfold State.serveBridge
  rw [h]

theorem State.doRead_ok {s : State} {b : BridgeIn} (hb : s.badAddrs b = []) (hr : isRelay b.addr = false) :
    s.doRead b = ((s.intReads b.addr b.count).1, 0, (s.intReads b.addr b.count).2) := by
  unfold State.doRead
  rw [if_neg (not_not.2 hb), if_neg (by rw [hr]; exact Bool.false_ne_true)]

theorem State.doWrite_ok {s : State} {b : BridgeIn} (hb : s.badAddrs b = []) (hr : isRelay b.addr = false) :
    s.doWrite b = (s.intWrites b.addr b.data, 0) := by
  unfold State.doWrite
  rw [if_neg (not_not.2 hb), if_neg (by rw [hr]; exact Bool.false_ne_true)]

/-! ### The parts of O45 -/

theorem stack_hello (p x : Nat) (bytes : List Byte) (s s0 : State) (hm : s.takeMsg p 2 1 = some (s0, x, bytes)) :
    let h := helloOf bytes s.tim.ticks
    (h.member ≠ s.sys.member → s.stk.mode = .master → runs (.stackHelloRx p) s fun t =>
      (Tbl.get HemCtr.dflt t.stk.hems p).hello = some h ∧ Tbl.get noneAt t.stk.heard h.member = some s.tim.ticks ∧ t.stk.mode = .master) ∧
    (h.member ≠ s.sys.member → s.stk.mode = .orphan → h.reaches = true →
      runs (.stackHelloRx p) s fun t => t.stk.mode = .member ∧ t.stk.master = h.master) ∧
    (h.member = s.sys.member → s.stk.mode ≠ .single → runs (.stackHelloRx p) s fun t => t.stk.mode = .conflict) := by
  intro h
  obtain ⟨hems, h0⟩ := State.takeMsg_eq hm
  refine ⟨fun hne hmode => ⟨_, rfl, ?_⟩, fun hne hmode hr => ⟨_, rfl, ?_⟩, fun heq hmode => ⟨_, rfl, ?_⟩⟩
  · dsimp only
    rw [hm]
    dsimp only
    rw [if_neg hne, hmode]
    dsimp only
    refine ⟨congrArg HemCtr.hello (Tbl.get_upd_self HemCtr.dflt s0.stk.hems p fun c => { c with hello := some h }),
      Tbl.get_put_self noneAt s0.stk.heard h.member (some s.tim.ticks), ?_⟩
    rw [h0]
    exact hmode
  · dsimp only
    rw [hm]
    dsimp only
    rw [if_neg hne, hmode]
    dsimp only
    rw [if_pos hr]
    unfold State.join
    dsimp only
    rw [State.stackTo_mode]
    exact ⟨rfl, rfl⟩
  · dsimp only
    rw [hm]
    dsimp only
    rw [if_pos heq, if_neg hmode, State.stackTo_mode]

theorem stack_sleep (p x : Nat) (bytes : List Byte) (s s0 : State) :
    (s.takeMsg p 2 2 = some (s0, x, bytes) → s0.isMaster = true → s0.pow.mode = .awake →
      runs (.stackMatchRx p) s fun t => t.pow.timerAt = s.tim.ticks ∧ t.pow.mode = .awake) ∧
    (s.takeMsg p 2 3 = some (s0, x, bytes) → s0.fromMaster bytes = true → s0.pow.mode = .awake →
      runs (.stackPrepareRx p) s fun t => t.pow.mode = .prepare) ∧
    (s.takeMsg p 2 4 = some (s0, x, bytes) → s0.fromMaster bytes = true → s0.pow.mode = .prepare →
      runs (.stackCancelRx p) s fun t => t.pow.mode = .awake ∧ t.pow.cancels = sat36 s.pow.cancels 1) ∧
    (s.takeMsg p 2 5 = some (s0, x, bytes) → s0.fromMaster bytes = true → s0.pow.mode = .prepare →
      runs (.stackCommitRx p) s fun t => t.pow.mode = .committed) := by
  refine ⟨fun hm hmas hmode => ⟨_, rfl, ?_⟩, fun hm hmas hmode => ⟨_, rfl, ?_⟩, fun hm hmas hmode => ⟨_, rfl, ?_⟩,
    fun hm hmas hmode => ⟨_, rfl, ?_⟩⟩
  · obtain ⟨hems, h0⟩ := State.takeMsg_eq hm
    have ht : s0.tim.ticks = s.tim.ticks := by
      rw [h0]
      rfl
    rw [hm]
    dsimp only
    rw [if_pos hmas, hmode]
    dsimp only
    rw [← ht]
    split
    · exact ⟨rfl, hmode⟩
    · exact ⟨rfl, hmode⟩
  · dsimp only
    rw [hm]
    dsimp only
    rw [if_pos ⟨hmas, hmode⟩, State.enterPrepare_pow]
  · obtain ⟨hems, h0⟩ := State.takeMsg_eq hm
    have hp : s0.pow = s.pow := by
      rw [h0]
      rfl
    obtain ⟨l, n, h⟩ := s0.cancelPrepare.wakeRecord_pow { kind := 12, cancel := true }
    rw [hm]
    dsimp only
    rw [if_pos ⟨hmas, hmode⟩]
    unfold State.restartAwake
    rw [State.modPow_pow, h, State.cancelPrepare_pow, hp]
    exact ⟨rfl, rfl⟩
  · dsimp only
    rw [hm]
    dsimp only
    rw [if_pos ⟨hmas, hmode⟩]
    exact s0.commitSleep_pow.1

theorem bridge_serves (p : Nat) (b : BridgeIn) (s s0 : State) (hc : s0.conflicts b = none) (hb : s0.badAddrs b = []) (hr : isRelay b.addr = false) :
    (s.takeRequest p 1 = some (s0, b) →
      runs (.bridgeWriteRx p) s fun t => t = (s0.intWrites b.addr b.data).answer b 5 0 []) ∧
    (s.takeRequest p 2 = some (s0, b) → runs (.bridgeReadRx p) s fun t =>
      t = (s0.intReads b.addr b.count).1.answer b 6 0 (s0.intReads b.addr b.count).2) ∧
    (s.takeRequest p 3 = some (s0, b) → runs (.bridgeLockReadRx p) s fun t =>
      Tbl.get noneAt t.stk.locks (addrDie b.addr) = some (p, b.src, b.addr, s0.tim.ticks)) ∧
    (∀ k, s.takeUnlock p = some (s0, b) → s0.busLock b.addr = some (p, b.src, b.addr, k) →
      runs (.bridgeUnlockWriteRx p) s fun t => Tbl.get noneAt t.stk.locks (addrDie b.addr) = none) := by
  refine ⟨fun hm => ⟨_, rfl, ?_⟩, fun hm => ⟨_, rfl, ?_⟩, fun hm => ⟨_, rfl, ?_⟩, fun k hm hl => ⟨_, rfl, ?_⟩⟩
  · dsimp only
    rw [hm]
    dsimp only
    rw [State.serveBridge_free hc, State.doWrite_ok hb hr]
  · dsimp only
    rw [hm]
    dsimp only
    rw [State.serveBridge_free hc, State.doRead_ok hb hr]
  · obtain ⟨hems, h0⟩ := State.takeRequest_eq hm
    have ht : s0.tim.ticks = s.tim.ticks := by
      rw [h0]
      rfl
    dsimp only
    rw [hm]
    dsimp only
    rw [State.serveBridge_free hc, State.doRead_ok hb hr]
    dsimp only
    rw [if_pos rfl, State.answer_stk, ht]
    exact Tbl.get_put_self noneAt (s0.intReads b.addr b.count).1.stk.locks (addrDie b.addr) (some (p, b.src, b.addr, s.tim.ticks))
  · dsimp only
    rw [hm]
    dsimp only
    rw [State.serveBridge_free hc, hl]
    dsimp only
    rw [if_pos ⟨rfl, rfl, rfl⟩]
    generalize hu : s0.modStk _ = u
    have hbad : u.badAddrs b = [] := by
      rw [← hu]
      exact hb
    have hlock : Tbl.get noneAt u.buses (addrDie b.addr) = none := by
      rw [← hu]
      exact Tbl.get_put_self noneAt s0.stk.locks (addrDie b.addr) none
    rw [State.doWrite_ok hbad hr, State.answer_stk]
    change Tbl.get noneAt (u.intWrites b.addr b.data).buses (addrDie b.addr) = none
    rw [State.intWrites_buses]
    exact hlock

theorem bridge_answered (p x : Nat) (bytes : List Byte) (q : BridgeReq) (s s0 : State) :
    let w := msgWord bytes 0
    fld w 19 16 ≠ 2 →
    (s.takeMsg p 1 5 = some (s0, x, bytes) →
      s0.stk.reqs.find? (fun q => q.tag == fld w 31 26 && q.port == p && [1, 4].contains q.burst.op && q.backoff.isNone) = some q →
      runs (.bridgeWackRx p) s fun t =>
        t = s0.reqDone q (fld w 19 16 == 0) ((List.range q.burst.count).map fun i => msgWord bytes (i + 2))) ∧
    (s.takeMsg p 1 6 = some (s0, x, bytes) →
      s0.stk.reqs.find? (fun q => q.tag == fld w 31 26 && q.port == p && [2, 3].contains q.burst.op && q.backoff.isNone) = some q →
      runs (.bridgeRdataRx p) s fun t =>
        t = s0.reqDone q (fld w 19 16 == 0) ((List.range q.burst.count).map fun i => msgWord bytes (i + 2))) := by
  intro w hw
  have hanswer (ops : List Nat)
      (hq : s0.stk.reqs.find? (fun q => q.tag == fld w 31 26 && q.port == p && ops.contains q.burst.op && q.backoff.isNone) = some q) :
      s0.bridgeAnswer p bytes ops = s0.reqDone q (fld w 19 16 == 0) ((List.range q.burst.count).map fun i => msgWord bytes (i + 2)) := by
    unfold State.bridgeAnswer
    dsimp only
    rw [hq]
    exact if_neg hw
  refine ⟨fun hm hq => ⟨_, rfl, ?_⟩, fun hm hq => ⟨_, rfl, ?_⟩⟩
  · dsimp only
    rw [hm]
    exact hanswer _ hq
  · dsimp only
    rw [hm]
    exact hanswer _ hq

/-- The end of a diagnosis job is no time-out. -/
theorem State.diagRun_timeouts (s : State) (j : Job) (bs : List Burst) (h : j.mode = .diag) : (s.diagRun j bs).stk.timeouts = s.stk.timeouts := by
  induction bs generalizing s j with
  | nil =>
    rw [State.diagRun]
    unfold State.jobEnd
    dsimp only
    rw [h]
    dsimp only
    rw [State.stk_of_wide (State.finish_wide _ _ _ _ _)]
    rfl
  | cons b rest ih =>
    unfold State.diagRun
    split
    · unfold State.issue
      dsimp only
      rw [State.stk_of_onSend (State.sendBridge_onlyIn _ _ _)]
      rfl
    · rw [ih _ { j with got := j.got ++ List.replicate b.count 0 } h, State.stk_of_wide (foldl_wide _ (fun u i => State.addrError_wide u _ _) _ _)]

theorem bridge_timers (q : BridgeReq) (s : State) :
    (s.stk.reqs.find? (fun q => q.backoff.isSome) = some q → runs .bridgeBackoffExpiry s fun t =>
      ∃ x ∈ t.stk.reqs, x.tag = q.tag ∧ x.burst = q.burst ∧ x.backoff = none) ∧
    (s.stk.reqs.find? (fun q => q.backoff.isNone) = some q → runs .bridgeTimeout s fun t => t.stk.timeouts = sat36 s.stk.timeouts 1) := by
  refine ⟨fun hq => ⟨_, rfl, ?_⟩, fun hq => ⟨_, rfl, ?_⟩⟩
  · dsimp only
    rw [hq]
    dsimp only
    rw [State.stk_of_onSend (State.sendBridge_onlyIn _ _ _)]
    refine ⟨_, List.mem_map_of_mem (List.mem_of_find?_eq_some hq), ?_⟩
    rw [if_pos rfl]
    exact ⟨rfl, rfl, rfl⟩
  · dsimp only
    rw [hq]
    dsimp only
    generalize hs1 : State.logFault _ _ _ _ = s1
    have h1 : s1.stk.timeouts = sat36 s.stk.timeouts 1 := by
      rw [← hs1, State.stk_of_wide ((State.logFault_wide _ _ _ _).trans (State.satRaise_raiseDev_wide _ _ _ _))]
      rfl
    unfold State.reqDone
    dsimp only
    generalize hs2 : s1.modStk _ = s2
    have h2 : s2.stk.timeouts = sat36 s.stk.timeouts 1 := by
      rw [← hs2]
      exact h1
    split
    · exact h2
    · split
      · rename_i hj
        refine (State.diagRun_timeouts s2 _ _ ?_).trans h2
        exact hj
      · exact h2

/-- Settles O45: each message of the stack and each burst of the bridge is its equation, the locks of a bus kept by a served write. -/
theorem stackMembersTalkAndBridge : Obligations.StackMembersTalkAndBridge := by
  refine ⟨fun s hm => ⟨_, congrArg Host.Outcome.next (if_neg hm), rfl⟩, stack_hello, stack_sleep,
    fun s hm => ⟨_, congrArg Host.Outcome.next (if_pos hm), State.orphaned_mode _⟩, bridge_serves, bridge_answered, bridge_timers,
    fun die s hl => ⟨_, rfl, ?_⟩, fun path j s hj => ⟨_, rfl, ?_⟩⟩
  · obtain ⟨l, hl⟩ := Option.isSome_iff_exists.1 hl
    rw [hl]
    exact Tbl.get_put_self noneAt s.stk.locks die none
  · dsimp only
    rw [hj]
    dsimp only
    rw [State.stk_of_wide (State.finish_wide _ _ _ _ _)]
    rfl

end Sys2Proof.Machine
end
